-- ==== Sys2Proof/Word.lean ====
section
/-! DEFINITION. The words of the model: bytes, and the register widths of the Tuital core (08 Table 8-4). Everything
the spec counts (lengths, indices, times, counters) is a natural number reduced where the spec says it wraps. -/
namespace Sys2Proof

/-- One byte. -/
abbrev Byte := BitVec 8
/-- A run of bytes, the one at the lowest address first. -/
abbrev Bytes := List Byte
/-- A D register (R230). -/
abbrev W32 := BitVec 32
/-- An A register (R230). -/
abbrev W48 := BitVec 48
/-- A program counter, in bytes of I-space (R222). -/
abbrev W18 := BitVec 18
/-- An accumulator (R230). -/
abbrev W80 := BitVec 80

end Sys2Proof
end

