-- ==== Sys2Proof/Syntax.lean ====
section
/-! DEFINITION. The commands of the block: one constructor per row of spec/opcode_table.json, with the operands that the
outside gives it. The table gives no bits, so no command is spelled by a word. Operands that report what the outside
observed (a reading, a verdict of a cryptographic check, a received message) are marked in notes/assumptions/13.md. -/
namespace Sys2Proof

/-- Configuration requests of a host link (11 R296, R300, R301): a read, or a write of a function's Bus Master Enable, Memory
Space Enable, MSI-X Function Mask or power state. -/
inductive CfgOp where
  | read
  | busMaster (fn : Nat) (on : Bool)
  | memSpace (fn : Nat) (on : Bool)
  | functionMask (fn : Nat) (on : Bool)
  | powerState (fn : Nat) (d3hot : Bool)
deriving DecidableEq, Repr

/-- Request paths (03 Table 3-2): field network by source address, in-band by port and peer address, the mailbox of PF0,
the mailbox of a platform, the OD fast port of a Tuital core. -/
inductive Path where
  | field (src : Nat)
  | inband (ep peer : Nat)
  | pf0
  | plat (n : Nat)
  | core (t : Nat)
deriving DecidableEq, Repr

/-- A request as it reaches its service: path, sequence number, the SESSION value of its header, whether it came in a frame
whose TAG held (04 R121), and the verdict of the cryptographic check that its action makes, where it makes one: signatures, or
the integrity of a wrapped key. -/
structure Rq where
  path : Path
  seq : Nat
  session : Nat
  tagged : Bool
  verdict : Bool
deriving DecidableEq, Repr

/-- A request or answer entry (04 Table 4-4). `obj` is group and index (OD 03.022 is 0x03022). -/
structure Entry where
  obj : Nat
  sub : Nat
  type : Nat
  op : Nat
  val : Bytes
deriving DecidableEq, Repr

/-- An Ethernet frame on the field network, and whether its FCS holds (04 R112, R123). -/
structure FieldFrame where
  dst : Nat
  src : Nat
  etherType : Nat
  fcsOk : Bool
  pdu : Bytes
deriving DecidableEq, Repr

/-- A UDP datagram addressed to the in-band port (04 R127). -/
structure Datagram where
  ep : Nat
  peer : Nat
  fragment : Bool
  checksumOk : Bool
  pdu : Bytes
deriving DecidableEq, Repr

/-- What the port observes of a received Ethernet frame (13 R346, R348, R353): its FCS holds; it overlaps no uncorrectable
codeword; no corrected symbol in the codewords of its headers; its ICRC and the UDP checksum of a Slaino datagram hold;
codewords corrected and uncorrectable; payload bytes written by cut-through before the end of the frame. -/
structure RxMark where
  fcsOk : Bool
  fecOk : Bool
  clean : Bool
  icrcOk : Bool
  udpOk : Bool
  corrected : Nat
  uncorrectable : Nat
  cut : Nat
deriving DecidableEq, Repr

/-- What the receiving PHY of a coupling link makes of a flit (23 R559): both codewords decode; corrected symbols by
physical lane; bytes 0 to 759 after correction. -/
structure RxFlit where
  decoded : Bool
  lanes : List Nat
  b : Bytes
deriving DecidableEq, Repr

/-- What the accountant reads of one domain in one interval (05 R134): measured energy in µJ, leakage and activity by
platform in 1/1024 µJ, whether telemetry serves the domain, and READ_VOUT in mV. -/
structure DomReading where
  meas : Nat
  leak : Nat
  acts : List (Nat × Nat)
  pmbus : Bool
  vout : Nat
deriving DecidableEq, Repr

/-- The queue whose oldest waiting job asks for admission (05 R140): a dispatch queue, a native queue, a cipher queue, a
relay queue, the siding of a serving model, the weight load. -/
inductive JobRef where
  | dispatch (d : Nat)
  | native (n : Nat)
  | cipher (k : Nat)
  | relay (k : Nat)
  | serving (m : Nat)
  | load
deriving DecidableEq, Repr

/-- Work that an isolated unit held (02 R64): a dispatch job, a cipher request, a relay operation, a waybill of a native queue,
or an access or port request of a Tuital core. -/
inductive HeldWork where
  | job (id : Nat)
  | cipher (id : Nat)
  | relay (tag : Nat)
  | waybill (q seq : Nat)
  | core (t : Nat)
deriving DecidableEq, Repr

/-- A message descriptor of a mailbox request ring, or any block of bytes an engine reads. -/
abbrev Desc := Bytes


/-- A debug access through the test access port (07 R209, 08 R245): halt and resume of a core, its registers, the state of
an engine (by unit number), group 7F. -/
inductive TapOp where
  | halt (t : Nat)
  | resume (t : Nat)
  | readPc (t : Nat)
  | readA (t : Nat) (r : Fin 16)
  | readD (t : Nat) (r : Fin 16)
  | writePc (t v : Nat)
  | writeA (t : Nat) (r : Fin 16) (v : Nat)
  | writeD (t : Nat) (r : Fin 16) (v : Nat)
  | engine (unit : Nat)
  | group7F (obj : Nat)
deriving DecidableEq, Repr

/-- The address form of a load, store or ADRA: M0 with its displacement, M1 with its MODE, SC and Dm fields (09 Tables
9-1, 9-2). -/
inductive Ea where
  | m0 (disp : BitVec 16)
  | m1 (mode sc : Fin 4) (dm : Fin 16)
deriving DecidableEq, Repr

/-- A port named by an immediate or by Dk[15:0] (09 Table 9-5). -/
inductive PortRef where
  | imm (p : BitVec 16)
  | reg (dk : Fin 16)
deriving DecidableEq, Repr

/-- A signal named by SIG or by Dk[11:0] (09, Signal operations). -/
inductive SigRef where
  | imm (s : BitVec 12)
  | reg (dk : Fin 16)
deriving DecidableEq, Repr

/-- The second operand of ADDA: a D register or a signed immediate (09 Table 9-6). -/
inductive AddaOp where
  | reg (db : Fin 16)
  | imm (v : BitVec 16)
deriving DecidableEq, Repr

/-- The commands of spec/opcode_table.json, one constructor per row, in the table's order. -/
inductive Instr where
  /-- READ (R113). -/
  | read (rq : Rq) (es : List Entry)
  /-- WRITE (R92). -/
  | write (rq : Rq) (es : List Entry)
  /-- DESCRIBE (R114). -/
  | describe (rq : Rq) (es : List Entry)
  /-- DISCOVER (R112). -/
  | discover (rq : Rq)
  /-- ECHO (R126). -/
  | echo (rq : Rq) (es : List Entry)
  /-- SESSION_OPEN (R197). -/
  | sessionOpen (rq : Rq) (val : Bytes)
  /-- SESSION_AUTH (R197). -/
  | sessionAuth (rq : Rq) (val : Bytes)
  /-- SESSION_CLOSE (R197). -/
  | sessionClose (rq : Rq)
  /-- STAGED_SEGMENT (R122). -/
  | stagedSegment (rq : Rq) (handle segment : Nat) (es : List Entry)
  /-- FIELD_FRAME_RX (R112). -/
  | fieldFrameRx (f : FieldFrame)
  /-- INBAND_DATAGRAM_RX (R127). -/
  | inbandDatagramRx (d : Datagram)
  /-- APPLY_TICK (R93). -/
  | applyTick
  /-- DUP_RECORD_EXPIRE (R119). -/
  | dupRecordExpire
  /-- EVENT_READ (R101). -/
  | eventRead (rq : Rq)
  /-- OD_WRITE_GENERIC (R86). -/
  | odWriteGeneric (rq : Rq) (e : Entry) (hw : Option Nat)
  /-- OD_SAVE (R82). -/
  | odSave (rq : Rq)
  /-- OD_SAVED (R82). -/
  | odSaved (flashOk : Bool)
  /-- STAGE_OPEN (R98). -/
  | stageOpen (rq : Rq)
  /-- STAGE_COMMIT (R97). -/
  | stageCommit (rq : Rq) (arg : Bytes)
  /-- STAGE_ABORT (R98). -/
  | stageAbort (rq : Rq) (arg : Bytes)
  /-- STAGE_EXPIRED (R98). -/
  | stageExpired (handle : Nat)
  /-- MAILBOX_DOORBELL (R282). -/
  | mailboxDoorbell (m idx : Nat)
  /-- MBX_OD_REQUEST (R282). -/
  | mbxOdRequest (m : Nat)
  /-- MBX_TO_MANAGER (R284). -/
  | mbxToManager (m : Nat)
  /-- MBX_TO_PLATFORM (R284). -/
  | mbxToPlatform
  /-- MBX_CTRL_WRITE (R283). -/
  | mbxCtrlWrite (m off val : Nat)
  /-- MBX_EVT_HEAD_WRITE (R285). -/
  | mbxEvtHeadWrite (m idx : Nat)
  /-- OD_FAST_PORT_REQUEST (R229). -/
  | odFastPortRequest (t off : Nat)
  /-- OD_STATE_READ (R229). -/
  | odStateRead (t : Nat) (rd : Fin 16)
  /-- TIMEBASE_REF_EDGE (R51). -/
  | timebaseRefEdge (err : Option Int) (inSpec : Bool)
  /-- TB_HOLDOVER (R52). -/
  | tbHoldover
  /-- TB_HOLDOVER_EXPIRED (R52). -/
  | tbHoldoverExpired
  /-- TB_RELOCK (R53). -/
  | tbRelock
  /-- TB_LOCKED (R53). -/
  | tbLocked (phaseDone : Bool)
  /-- TB_NO_REF (R53). -/
  | tbNoRef
  /-- STEP_METER_WINDOW (R45). -/
  | stepMeterWindow (die count : Nat)
  /-- TIME_SET (R57). -/
  | timeSet (rq : Rq) (arg : Bytes)
  /-- DWELL_TRIP (R64). -/
  | dwellTrip (unit cls die start limit plats detail : Nat) (work : List HeldWork)
  /-- T1S_JAMMED (R124). -/
  | t1sJammed (falseSince : Nat)
  /-- T1S_RESTORED (R125). -/
  | t1sRestored (trueSince : Nat)
  /-- T1S_OUTPUT_LIMIT (R110). -/
  | t1sOutputLimit (short : Bool)
  /-- PLCA_BEACON (R111). -/
  | plcaBeacon
  /-- SESSION_IDLE_CLOSE (R197). -/
  | sessionIdleClose (num : Nat)
  /-- ACCOUNTING_INTERVAL (R134). -/
  | accountingInterval (readings : List DomReading) (jobActs : List (Nat × Nat × Nat))
  /-- RAIL_DEVIATION (R161). -/
  | railDeviation (dom : Nat)
  /-- WINDOW_BOUNDARY (R137). -/
  | windowBoundary
  /-- JOB_ADMIT (R140). -/
  | jobAdmit (job : JobRef)
  /-- POWER_REQUEST (R145). -/
  | powerRequest (rq : Rq) (arg : Bytes)
  /-- POWER_STEP_DONE (R145). -/
  | powerStepDone
  /-- RAIL_GOVERNOR_STEP (R150). -/
  | railGovernorStep (dom : Nat) (want : Int) (proj : Nat)
  /-- THERMAL_LIMIT_STEP (R153). -/
  | thermalLimitStep (dom tj : Nat)
  /-- THERMAL_RECOVER_STEP (R153). -/
  | thermalRecoverStep (dom tj : Nat)
  /-- THERMAL_TRIP (R154). -/
  | thermalTrip (dom tj : Nat)
  /-- ENERGY_EMERGENCY (R206). -/
  | energyEmergency (dom : Nat)
  /-- PMBUS_FAILED (R163). -/
  | pmbusFailed
  /-- PMBUS_RETRY (R163). -/
  | pmbusRetry (ok : Bool)
  /-- DRAIN (R159). -/
  | drain (rq : Rq)
  /-- DRAIN_JOB_TIMEOUT (R159). -/
  | drainJobTimeout
  /-- DRAIN_READY (R159). -/
  | drainReady (volts : List Nat)
  /-- DRAIN_FAILED (R159). -/
  | drainFailed (dom : Nat)
  /-- DISCHARGED_RAIL_RISE (R160). -/
  | dischargedRailRise (dom mv : Nat)
  /-- E4_REFUSED (R149). -/
  | e4Refused
  /-- RESET_N_ASSERT (R166). -/
  | resetNAssert (ns : Nat)
  /-- RESET_N_RELEASE (R79). -/
  | resetNRelease
  /-- VAON_COLLAPSE (R69). -/
  | vaonCollapse
  /-- BOOT_ROM_LOAD (R181). -/
  | bootRomLoad (sigsA sigsB : List Bool)
  /-- PHASE1_END (R170). -/
  | phase1End (bad : List Nat)
  /-- DIE_LIT (R175). -/
  | dieLit (die : Nat) (bad : List Nat) (ok seqOk : Bool)
  /-- DEVICE_READY (R171). -/
  | deviceReady (near cache manager : Bool)
  /-- READY_LATE (R172). -/
  | readyLate
  /-- FAR_ZEROING_BLOCK_DONE (R176). -/
  | farZeroingBlockDone (port : Nat)
  /-- WARM_RESET (R167). -/
  | warmReset (rq : Rq)
  /-- UNIT_RESET (R589). -/
  | unitReset (rq : Rq) (arg : Bytes)
  /-- PERST_ASSERT (R169). -/
  | perstAssert (port : Nat)
  /-- PERST_DEASSERT (R177). -/
  | perstDeassert (port : Nat)
  /-- CONFIG_REQUEST (R177). -/
  | configRequest (link : Nat) (what : CfgOp)
  /-- KEY_REVOKE (R218). -/
  | keyRevoke (rq : Rq) (arg : Bytes)
  /-- FLOOR_RAISE (R218). -/
  | floorRaise (rq : Rq) (arg : Bytes)
  /-- MEAS_EXTEND (R193). -/
  | measExtend (rq : Rq) (arg : Bytes)
  /-- OWNER_CLAIM (R196). -/
  | ownerClaim (rq : Rq) (arg : Bytes)
  /-- OWNER_RELEASE (R217). -/
  | ownerRelease (rq : Rq)
  /-- KEY_LOAD (R200). -/
  | keyLoad (rq : Rq) (arg : Bytes)
  /-- KEY_ZEROISE (R202). -/
  | keyZeroise (rq : Rq) (arg : Bytes)
  /-- KEY_ZEROISED (R202). -/
  | keyZeroised (slot : Nat)
  /-- LEASE_RELEASE (R205). -/
  | leaseRelease (block : Nat)
  /-- LEASE_OVERRUN (R204). -/
  | leaseOverrun (block : Nat)
  /-- FW_FETCH (R212). -/
  | fwFetch (rq : Rq) (arg : Bytes)
  /-- FW_CHUNK (R212). -/
  | fwChunk (rq : Rq) (arg : Bytes)
  /-- FW_WRITTEN (R212). -/
  | fwWritten (flashOk : Bool)
  /-- FW_VERIFY (R212). -/
  | fwVerify (rq : Rq)
  /-- FW_VERIFIED (R212). -/
  | fwVerified (sigs : List Bool)
  /-- FW_ACTIVATE (R213). -/
  | fwActivate (rq : Rq)
  /-- FW_ACTIVATED (R213). -/
  | fwActivated
  /-- FW_HEALTH_REPORT (R214). -/
  | fwHealthReport
  /-- FW_ROLLBACK (R214). -/
  | fwRollback
  /-- FW_COMMIT (R215). -/
  | fwCommit (rq : Rq) (arg : Bytes)
  /-- DBG_OPEN (R209). -/
  | dbgOpen (rq : Rq)
  /-- DBG_CLOSE (R210). -/
  | dbgClose (rq : Rq)
  /-- DBG_TOKEN_CHUNK (R207). -/
  | dbgTokenChunk (rq : Rq) (arg : Bytes)
  /-- DBG_FULL_ENTER (R208). -/
  | dbgFullEnter (rq : Rq)
  /-- GET_VERSION (R194). -/
  | getVersion
  /-- GET_CAPABILITIES (R194). -/
  | getCapabilities (version : Nat)
  /-- NEGOTIATE_ALGORITHMS (R194). -/
  | negotiateAlgorithms
  /-- GET_DIGESTS (R194). -/
  | getDigests
  /-- GET_CERTIFICATE (R194). -/
  | getCertificate (slot offset length : Nat)
  /-- CHALLENGE (R195). -/
  | challenge (slot : Nat) (nonce : Bytes)
  /-- GET_MEASUREMENTS (R195). -/
  | getMeasurements (index : Nat) (signed : Bool) (nonce : Bytes)
  /-- RESPOND_IF_READY (R194). -/
  | respondIfReady
  /-- SPDM_UNSUPPORTED (R194). -/
  | spdmUnsupported (code : Nat)
  /-- BYPASS (R209). -/
  | bypass
  /-- IDCODE (R209). -/
  | idcode
  /-- SAMPLE_PRELOAD (R209). -/
  | samplePreload
  /-- EXTEST (R209). -/
  | extest
  /-- CLAMP (R209). -/
  | clamp
  /-- HIGHZ (R209). -/
  | highz
  /-- EXTEST_PULSE (R209). -/
  | extestPulse
  /-- EXTEST_TRAIN (R209). -/
  | extestTrain
  /-- TAP_DEBUG_ACCESS (R209). -/
  | tapDebugAccess (op : TapOp)
  /-- PROG_FETCH (R239). -/
  | progFetch (rq : Rq) (arg : Bytes)
  /-- PROG_CHUNK (R239). -/
  | progChunk (rq : Rq) (arg : Bytes)
  /-- PROG_START (R239). -/
  | progStart (rq : Rq) (arg : Bytes)
  /-- PROG_STARTED (R239). -/
  | progStarted (sigOk : Bool)
  /-- PROG_STOP (R240). -/
  | progStop (rq : Rq) (arg : Bytes)
  /-- PROG_DISCARD (R239). -/
  | progDiscard (rq : Rq)
  /-- PROG_BUFFER_TIMEOUT (R239). -/
  | progBufferTimeout
  /-- WINDOW_WRITE (R225). -/
  | windowWrite (rq : Rq) (core window : Nat) (val : Bytes)
  /-- LD (R247). -/
  | ld (t : Nat) (rd n : Fin 16) (sz : Fin 4) (ea : Ea)
  /-- LDS (R247). -/
  | lds (t : Nat) (rd n : Fin 16) (sz : Fin 4) (ea : Ea)
  /-- ST (R247). -/
  | st (t : Nat) (rm n : Fin 16) (sz : Fin 4) (ea : Ea)
  /-- LD_Q (R247). -/
  | ldQ (t : Nat) (rd n : Fin 16) (ea : Ea)
  /-- ST_Q (R247). -/
  | stQ (t : Nat) (rm n : Fin 16) (ea : Ea)
  /-- IN (R249). -/
  | inPort (t : Nat) (rd : Fin 16) (port : PortRef)
  /-- OUT (R249). -/
  | out (t : Nat) (rm : Fin 16) (port : PortRef)
  /-- ADRA (R250). -/
  | adra (t : Nat) (rd n : Fin 16) (ea : Ea)
  /-- ADDA (R250). -/
  | adda (t : Nat) (rd ra : Fin 16) (op : AddaOp)
  /-- SUBA (R250). -/
  | suba (t : Nat) (rd ra rb : Fin 16)
  /-- CMPA (R250). -/
  | cmpa (t : Nat) (ra rb : Fin 16)
  /-- MOV (R250). -/
  | mov (t : Nat) (rd ra : Fin 16)
  /-- SETAH (R250). -/
  | setah (t : Nat) (rd : Fin 16) (imm : BitVec 16)
  /-- ADD (R251). -/
  | addR (t : Nat) (rd ra rb : Fin 16)
  /-- ADDC (R251). -/
  | addc (t : Nat) (rd ra rb : Fin 16)
  /-- SUB (R251). -/
  | sub (t : Nat) (rd ra rb : Fin 16)
  /-- SUBC (R251). -/
  | subc (t : Nat) (rd ra rb : Fin 16)
  /-- AND (R251). -/
  | andR (t : Nat) (rd ra rb : Fin 16)
  /-- OR (R251). -/
  | orR (t : Nat) (rd ra rb : Fin 16)
  /-- XOR (R251). -/
  | xorR (t : Nat) (rd ra rb : Fin 16)
  /-- ANDN (R251). -/
  | andn (t : Nat) (rd ra rb : Fin 16)
  /-- SHL (R251). -/
  | shl (t : Nat) (rd ra rb : Fin 16)
  /-- SHR (R251). -/
  | shr (t : Nat) (rd ra rb : Fin 16)
  /-- SAR (R251). -/
  | sar (t : Nat) (rd ra rb : Fin 16)
  /-- ROL (R251). -/
  | rol (t : Nat) (rd ra rb : Fin 16)
  /-- CMP (R251). -/
  | cmp (t : Nat) (ra rb : Fin 16)
  /-- TST (R251). -/
  | tst (t : Nat) (ra rb : Fin 16)
  /-- CLZ (R251). -/
  | clz (t : Nat) (rd ra : Fin 16)
  /-- MUL (R251). -/
  | mul (t : Nat) (rd ra rb : Fin 16)
  /-- MULHS (R251). -/
  | mulhs (t : Nat) (rd ra rb : Fin 16)
  /-- MULHU (R251). -/
  | mulhu (t : Nat) (rd ra rb : Fin 16)
  /-- DIVS (R252). -/
  | divs (t : Nat) (rd ra rb : Fin 16)
  /-- DIVU (R252). -/
  | divu (t : Nat) (rd ra rb : Fin 16)
  /-- REMS (R252). -/
  | rems (t : Nat) (rd ra rb : Fin 16)
  /-- REMU (R252). -/
  | remu (t : Nat) (rd ra rb : Fin 16)
  /-- MOVI (R251). -/
  | movi (t : Nat) (rd : Fin 16) (imm : BitVec 16)
  /-- LUI (R251). -/
  | lui (t : Nat) (rd : Fin 16) (imm : BitVec 16)
  /-- ADDI (R251). -/
  | addi (t : Nat) (rd ra : Fin 16) (imm : BitVec 16)
  /-- ANDI (R251). -/
  | andi (t : Nat) (rd ra : Fin 16) (imm : BitVec 16)
  /-- ORI (R251). -/
  | ori (t : Nat) (rd ra : Fin 16) (imm : BitVec 16)
  /-- XORI (R251). -/
  | xori (t : Nat) (rd ra : Fin 16) (imm : BitVec 16)
  /-- CMPI (R251). -/
  | cmpi (t : Nat) (ra : Fin 16) (imm : BitVec 16)
  /-- SHLI (R251). -/
  | shli (t : Nat) (rd ra : Fin 16) (n : Fin 32)
  /-- SHRI (R251). -/
  | shri (t : Nat) (rd ra : Fin 16) (n : Fin 32)
  /-- SARI (R251). -/
  | sari (t : Nat) (rd ra : Fin 16) (n : Fin 32)
  /-- ROLI (R251). -/
  | roli (t : Nat) (rd ra : Fin 16) (n : Fin 32)
  /-- MACS (R253). -/
  | macs (t : Nat) (rd ra rb : Fin 16)
  /-- MACU (R253). -/
  | macu (t : Nat) (rd ra rb : Fin 16)
  /-- MSUS (R253). -/
  | msus (t : Nat) (rd ra rb : Fin 16)
  /-- MPYS (R253). -/
  | mpys (t : Nat) (rd ra rb : Fin 16)
  /-- MPYU (R253). -/
  | mpyu (t : Nat) (rd ra rb : Fin 16)
  /-- CLRACC (R253). -/
  | clracc (t : Nat) (rd : Fin 16)
  /-- ADDACC (R253). -/
  | addacc (t : Nat) (rd ra : Fin 16)
  /-- EXT (R255). -/
  | ext (t : Nat) (rd ra : Fin 16) (sh : Fin 64) (rnd : Bool)
  /-- MVAD (R230). -/
  | mvad (t : Nat) (rd ra : Fin 16)
  /-- MVAHD (R230). -/
  | mvahd (t : Nat) (rd ra : Fin 16)
  /-- MVDA (R230). -/
  | mvda (t : Nat) (rd ra : Fin 16)
  /-- MVDAS (R230). -/
  | mvdas (t : Nat) (rd ra : Fin 16)
  /-- MVDAH (R230). -/
  | mvdah (t : Nat) (rd ra : Fin 16)
  /-- MFACC (R230). -/
  | mfacc (t : Nat) (rd ra part : Fin 16)
  /-- MTACC (R230). -/
  | mtacc (t : Nat) (rd ra part : Fin 16)
  /-- B_CC (R256). -/
  | bCc (t : Nat) (cond : Fin 16) (disp : BitVec 22)
  /-- CALL (R256). -/
  | call (t : Nat) (disp : BitVec 22)
  /-- CNTNE (R256). -/
  | cntne (t : Nat) (dn dm : Fin 16) (disp : BitVec 18)
  /-- JUMPR (R256). -/
  | jumpr (t : Nat) (ra : Fin 16)
  /-- CALLR (R256). -/
  | callr (t : Nat) (ra : Fin 16)
  /-- RET (R256). -/
  | ret (t : Nat)
  /-- SIGRD (R258). -/
  | sigrd (t : Nat) (rd : Fin 16) (sig : SigRef)
  /-- SIGADD (R259). -/
  | sigadd (t : Nat) (rm : Fin 16) (sig : SigRef)
  /-- SIGWT_GE (R260). -/
  | sigwtGe (t : Nat) (rd : Fin 16) (sig : SigRef)
  /-- SIGWT_EQ (R260). -/
  | sigwtEq (t : Nat) (rd : Fin 16) (sig : SigRef)
  /-- SIGWT_RELEASE (R260). -/
  | sigwtRelease (t : Nat)
  /-- NOP (R246). -/
  | nop (t : Nat)
  /-- TRAP (R233). -/
  | trap (t : Nat) (imm : BitVec 8)
  /-- RETE (R233). -/
  | rete (t : Nat)
  /-- WAIT (R237). -/
  | wait (t : Nat)
  /-- WAIT_RESUME (R237). -/
  | waitResume (t : Nat)
  /-- SYNC (R246). -/
  | sync (t : Nat)
  /-- MFSR (R263). -/
  | mfsr (t : Nat) (rd sr : Fin 16)
  /-- MTSR (R263). -/
  | mtsr (t : Nat) (rm sr : Fin 16)
  /-- SIGNAL_INT (R236). -/
  | signalInt (t : Nat)
  /-- BIND_ARM (R235). -/
  | bindArm (t : Nat) (n : Fin 8) (w : BitVec 32)
  /-- INT_PEND_CLEAR (R236). -/
  | intPendClear (t : Nat) (w : BitVec 32)
  /-- RTIME_LO_READ (R238). -/
  | rtimeLoRead (t : Nat) (rd : Fin 16)
  /-- QUEUE_PUSH (R435). -/
  | queuePush (t q off : Nat)
  /-- QUEUE_POP (R436). -/
  | queuePop (t : Nat) (rd : Fin 16) (q : Nat)
  /-- SIGNAL_ADD (R481). -/
  | signalAdd (owner sig : Nat) (vs : List Nat)
  /-- PLAT_ENABLE (R270). -/
  | platEnable (rq : Rq) (arg : Bytes)
  /-- PLAT_RESET (R287). -/
  | platReset (rq : Rq) (arg : Bytes) (flr : Option Nat)
  /-- PLAT_RESET_DONE (R287). -/
  | platResetDone (plat : Nat)
  /-- PLAT_DISABLE (R287). -/
  | platDisable (rq : Rq) (arg : Bytes)
  /-- XLATE_INVALIDATE (R276). -/
  | xlateInvalidate (rq : Rq) (arg : Bytes)
  /-- INVAL_DONE (R276). -/
  | invalDone
  /-- GRANULE_GRANT (R272). -/
  | granuleGrant (rq : Rq) (arg : Bytes)
  /-- GRANULE_RECLAIM (R272). -/
  | granuleReclaim (rq : Rq) (arg : Bytes)
  /-- GRANULE_RECLAIMED (R272). -/
  | granuleReclaimed
  /-- HOST_LINK_UP (R309). -/
  | hostLinkUp (link width rate : Nat) (flit : Bool)
  /-- HOST_LINK_DOWN (R309). -/
  | hostLinkDown (link : Nat)
  /-- VF_ENABLE_CHANGE (R295). -/
  | vfEnableChange (link : Nat) (enable : Bool) (num : Nat)
  /-- PF0_FLR (R299). -/
  | pf0Flr
  /-- CARRIER_FLR (R299). -/
  | carrierFlr (link : Nat)
  /-- D3HOT_ENTRY (R300). -/
  | d3hotEntry (link : Nat)
  /-- BAR_ACCESS_DISCARD (R303). -/
  | barAccessDiscard (fn bar off size : Nat) (write : Bool)
  /-- DB_RSQ (R304). -/
  | dbRsq (fn size val : Nat)
  /-- DB_RRQ (R304). -/
  | dbRrq (fn size val : Nat)
  /-- DB_CQ (R393). -/
  | dbCq (fn size val : Nat)
  /-- DB_SQ (R417). -/
  | dbSq (fn size val : Nat)
  /-- DB_DISPATCH (R489). -/
  | dbDispatch (fn size val : Nat)
  /-- DB_SIG (R305). -/
  | dbSig (fn slot size val : Nat)
  /-- DB_TOKEN_TOKEN (R523). -/
  | dbTokenToken (fn size val : Nat)
  /-- DB_TOKEN_SUBMIT (R522). -/
  | dbTokenSubmit (fn size val : Nat)
  /-- DB_TOKEN_CLOSE (R523). -/
  | dbTokenClose (fn size val : Nat)
  /-- MSIX_UNMASK (R308). -/
  | msixUnmask (fn vec : Nat) (unmask : Bool)
  /-- SSD_PRESENCE_DETECT (R311). -/
  | ssdPresenceDetect (port lowSince : Nat)
  /-- SSD_PRESENT (R311). -/
  | ssdPresent (port width rate cls : Nat)
  /-- SSD_REMOVED (R311). -/
  | ssdRemoved (port : Nat)
  /-- SSD_STRAY_DMA (R312). -/
  | ssdStrayDma (port : Nat)
  /-- SSD_ERROR_REPORT (R313). -/
  | ssdErrorReport (port sev : Nat) (cmds : List (Nat × Nat))
  /-- FAR_LINK_DOWN (R317). -/
  | farLinkDown (port : Nat)
  /-- FAR_LINK_RETRY (R317). -/
  | farLinkRetry (port : Nat)
  /-- PATROL_SCRUB (R331). -/
  | patrolScrub (addr res : Nat) (newer passEnd : Bool)
  /-- GRANULE_MIGRATE (R326). -/
  | granuleMigrate (g : Nat) (lasting : Bool) (chunks : Nat)
  /-- NEAR_REMAPPED (R326). -/
  | nearRemapped (g : Nat) (oldOk : Bool)
  /-- PREVENTIVE_MIGRATION (R327). -/
  | preventiveMigration (g : Nat)
  /-- ETH_FRAME_RX (R348). -/
  | ethFrameRx (sub : Nat) (frame : Bytes) (mark : RxMark)
  /-- ETH_LINK_UP (R346). -/
  | ethLinkUp (sub : Nat)
  /-- ETH_LINK_DOWN (R346). -/
  | ethLinkDown (sub : Nat) (sending : Bool)
  /-- ETH_FEC_DEGRADED (R346). -/
  | ethFecDegraded (sub : Nat)
  /-- ETH_RETRAIN (R347). -/
  | ethRetrain (port : Nat)
  /-- PFC_FRAME_RX (R355). -/
  | pfcFrameRx (sub : Nat)
  /-- PFC_PAUSE_EXPIRE (R355). -/
  | pfcPauseExpire (sub tcl : Nat)
  /-- PFC_XOFF_SEND (R355). -/
  | pfcXoffSend (sub tcl : Nat)
  /-- PFC_XOFF_REPEAT (R355). -/
  | pfcXoffRepeat (sub tcl : Nat)
  /-- PFC_XON_SEND (R355). -/
  | pfcXonSend (sub tcl : Nat)
  /-- PTP_MESSAGE_RX (R356). -/
  | ptpMessageRx (sub : Nat) (state : Option Nat) (delay : Option Int) (fix : Option (Int × Int)) (reply : Option Bytes)
  /-- BUCKET_REFILL (R362). -/
  | bucketRefill (k : Nat)
  /-- EGRESS_SELECT (R371). -/
  | egressSelect (sub : Nat)
  /-- WHEEL_SLOT (R375). -/
  | wheelSlot
  /-- SAMPLER_VISIT (R378). -/
  | samplerVisit (kind num : Nat)
  /-- SAMPLER_RESET (R379). -/
  | samplerReset (rq : Rq) (arg : Bytes)
  /-- QP_MODIFY (R386). -/
  | qpModify (rq : Rq) (arg : Bytes)
  /-- QP_QUERY (R386). -/
  | qpQuery (rq : Rq) (arg : Bytes)
  /-- CQ_CREATE (R393). -/
  | cqCreate (rq : Rq) (arg : Bytes)
  /-- CQ_DESTROY (R393). -/
  | cqDestroy (rq : Rq) (arg : Bytes)
  /-- MR_REGISTER (R389). -/
  | mrRegister (rq : Rq) (arg : Bytes)
  /-- MR_DEREGISTER (R390). -/
  | mrDeregister (rq : Rq) (arg : Bytes)
  /-- SEND (R392). -/
  | send (qpn : Nat)
  /-- WR_WRITE (R392). -/
  | wrWrite (qpn : Nat)
  /-- WRITE_IMM (R392). -/
  | writeImm (qpn : Nat)
  /-- WR_READ (R392). -/
  | wrRead (qpn : Nat)
  /-- FETCH_ADD (R389). -/
  | fetchAdd (qpn : Nat)
  /-- CMP_SWAP (R389). -/
  | cmpSwap (qpn : Nat)
  /-- RELAXED_WRITE (R396). -/
  | relaxedWrite (qpn : Nat)
  /-- RELAXED_FINAL (R397). -/
  | relaxedFinal (qpn : Nat)
  /-- RAW_SEND (R388). -/
  | rawSend (qpn : Nat)
  /-- RX_REQUEST_PACKET (R389). -/
  | rxRequestPacket
  /-- RX_RELAXED_PACKET (R397). -/
  | rxRelaxedPacket
  /-- FINAL_PLACED (R397). -/
  | finalPlaced (qpn : Nat)
  /-- RX_ACK (R398). -/
  | rxAck
  /-- RETRANSMIT_TIMEOUT (R405). -/
  | retransmitTimeout (qpn : Nat)
  /-- RNR_TIMER (R405). -/
  | rnrTimer (qpn : Nat)
  /-- PACING_INTERVAL (R400). -/
  | pacingInterval (shaper : Bool) (n : Nat) (coincident : Bool)
  /-- CNP_RX (R403). -/
  | cnpRx
  /-- SA_ADD (R408). -/
  | saAdd (rq : Rq) (arg : Bytes)
  /-- SA_DELETE (R408). -/
  | saDelete (rq : Rq) (arg : Bytes)
  /-- ESP_INBOUND (R409). -/
  | espInbound (fault : Bool)
  /-- ESP_OUTBOUND (R410). -/
  | espOutbound (queue : Nat) (fault : Bool)
  /-- SQ_CREATE (R416). -/
  | sqCreate (rq : Rq) (arg : Bytes)
  /-- SQ_DELETE (R417). -/
  | sqDelete (rq : Rq) (arg : Bytes)
  /-- WAYBILL_READ (R419). -/
  | waybillRead (q seq : Nat)
  /-- WAYBILL_WRITE (R419). -/
  | waybillWrite (q seq : Nat) (mismatch : Bool)
  /-- FLUSH (R419). -/
  | flush (q seq : Nat)
  /-- DEALLOCATE (R425). -/
  | deallocate (q seq : Nat) (mismatch : Bool)
  /-- WRITE_ZEROES (R419). -/
  | writeZeroes (q seq : Nat) (mismatch : Bool)
  /-- LOAD_TO_TIER (R420). -/
  | loadToTier (q seq : Nat)
  /-- WAYBILL_COMPLETE (R421). -/
  | waybillComplete (q seq nv : Nat) (data : Bytes) (bad : Option Nat) (energy : Nat)
  /-- NS_READY (R415). -/
  | nsReady (k : Nat)
  /-- SSD_INIT_DONE (R427). -/
  | ssdInitDone (port : Nat) (ns : List (Nat × Nat × Nat)) (awuOk zeroes : Bool)
  /-- SSD_TIMEOUT (R427). -/
  | ssdTimeout (q seq : Nat)
  /-- SSD_ABORT_TIMEOUT (R427). -/
  | ssdAbortTimeout (q seq : Nat)
  /-- REMOTE_ATTACH (R429). -/
  | remoteAttach (rq : Rq) (arg : Bytes)
  /-- REMOTE_UP (R429). -/
  | remoteUp (num : Nat) (ns : List (Nat × Nat × Nat))
  /-- REMOTE_DETACH (R429). -/
  | remoteDetach (rq : Rq) (arg : Bytes)
  /-- KEEP_ALIVE_TIMER (R429). -/
  | keepAliveTimer (num : Nat)
  /-- REMOTE_DOWN (R429). -/
  | remoteDown (num : Nat) (kato : Bool)
  /-- NVME_CREATE_IO_SQ (R430). -/
  | nvmeCreateIoSq (p : Nat) (sqe : Bytes)
  /-- NVME_CREATE_IO_CQ (R430). -/
  | nvmeCreateIoCq (p : Nat) (sqe : Bytes)
  /-- NVME_DELETE_IO_SQ (R430). -/
  | nvmeDeleteIoSq (p : Nat) (sqe : Bytes)
  /-- NVME_DELETE_IO_CQ (R430). -/
  | nvmeDeleteIoCq (p : Nat) (sqe : Bytes)
  /-- NVME_IDENTIFY (R430). -/
  | nvmeIdentify (p : Nat) (sqe : Bytes)
  /-- NVME_GET_LOG_PAGE (R430). -/
  | nvmeGetLogPage (p : Nat) (sqe page : Bytes)
  /-- NVME_GET_FEATURES (R430). -/
  | nvmeGetFeatures (p : Nat) (sqe : Bytes)
  /-- NVME_SET_FEATURES (R430). -/
  | nvmeSetFeatures (p : Nat) (sqe : Bytes)
  /-- NVME_ABORT (R430). -/
  | nvmeAbort (p : Nat) (sqe : Bytes)
  /-- NVME_ASYNC_EVENT_REQUEST (R430). -/
  | nvmeAsyncEventRequest (p : Nat) (sqe : Bytes)
  /-- NVME_READ (R430). -/
  | nvmeRead (p sq : Nat) (sqe : Bytes)
  /-- NVME_WRITE (R430). -/
  | nvmeWrite (p sq : Nat) (sqe : Bytes)
  /-- NVME_FLUSH (R430). -/
  | nvmeFlush (p sq : Nat) (sqe : Bytes)
  /-- NVME_DATASET_MANAGEMENT (R430). -/
  | nvmeDatasetManagement (p sq : Nat) (sqe : Bytes)
  /-- NVME_WRITE_ZEROES (R430). -/
  | nvmeWriteZeroes (p sq : Nat) (sqe : Bytes)
  /-- NVME_UNSUPPORTED (R430). -/
  | nvmeUnsupported (p sq : Nat) (sqe : Bytes)
  /-- NVME_CC_EN_CLEAR (R430). -/
  | nvmeCcEnClear (p : Nat)
  /-- GCM_ENC (R438). -/
  | gcmEnc (id : Nat) (fault : Option (Nat × Nat))
  /-- GCM_DEC (R447). -/
  | gcmDec (id : Nat) (fault : Option (Nat × Nat)) (second : Option Bytes)
  /-- GMAC_GEN (R438). -/
  | gmacGen (id : Nat) (fault : Option (Nat × Nat))
  /-- GMAC_VER (R447). -/
  | gmacVer (id : Nat) (fault : Option (Nat × Nat))
  /-- XTS_ENC (R438). -/
  | xtsEnc (id : Nat) (fault : Option (Nat × Nat))
  /-- XTS_DEC (R438). -/
  | xtsDec (id : Nat) (fault : Option (Nat × Nat))
  /-- CTR (R438). -/
  | ctr (id : Nat) (fault : Option (Nat × Nat))
  /-- CIPHER_ISSUE (R441). -/
  | cipherIssue (k : Nat)
  /-- CIPHER_COMPLETE (R439). -/
  | cipherComplete (id : Nat)
  /-- CLUSTER_HALT (R442). -/
  | clusterHalt (rq : Rq) (arg : Bytes)
  /-- CLUSTER_RESUME (R442). -/
  | clusterResume (rq : Rq) (arg : Bytes)
  /-- MATMUL (R472). -/
  | matmul (d id : Nat)
  /-- VEC_ADD (R465). -/
  | vecAdd (d id : Nat)
  /-- VEC_MUL (R465). -/
  | vecMul (d id : Nat)
  /-- VEC_MAX (R465). -/
  | vecMax (d id : Nat)
  /-- VEC_MIN (R465). -/
  | vecMin (d id : Nat)
  /-- SCALE_BIAS (R465). -/
  | scaleBias (d id : Nat)
  /-- CONVERT (R467). -/
  | convert (d id : Nat)
  /-- REQUANT (R468). -/
  | requant (d id : Nat)
  /-- VEC_COPY (R470). -/
  | vecCopy (d id : Nat)
  /-- RELU (R465). -/
  | relu (d id : Nat)
  /-- GELU (R465). -/
  | gelu (d id : Nat)
  /-- SILU (R465). -/
  | silu (d id : Nat)
  /-- SIGMOID (R465). -/
  | sigmoid (d id : Nat)
  /-- TANH (R465). -/
  | tanh (d id : Nat)
  /-- EXP (R465). -/
  | exp (d id : Nat)
  /-- RECIP (R468). -/
  | recip (d id : Nat)
  /-- RSQRT (R468). -/
  | rsqrt (d id : Nat)
  /-- ROW_SUM (R465). -/
  | rowSum (d id : Nat)
  /-- ROW_MAX (R466). -/
  | rowMax (d id : Nat)
  /-- ROW_ARGMAX (R466). -/
  | rowArgmax (d id : Nat)
  /-- SOFTMAX (R465). -/
  | softmax (d id : Nat)
  /-- LOGSUMEXP (R465). -/
  | logsumexp (d id : Nat)
  /-- LAYERNORM (R465). -/
  | layernorm (d id : Nat)
  /-- RMSNORM (R465). -/
  | rmsnorm (d id : Nat)
  /-- TOPK (R466). -/
  | topk (d id : Nat)
  /-- JOB_COMPLETE (R471). -/
  | jobComplete (d id : Nat) (mismatch : Bool) (steps energy : Nat)
  /-- DQ_WAIT (R491). -/
  | dqWait (d : Nat)
  /-- DQ_BARRIER (R491). -/
  | dqBarrier (d : Nat)
  /-- DQ_ADD (R491). -/
  | dqAdd (d : Nat)
  /-- DQ_WAIT_RELEASE (R492). -/
  | dqWaitRelease (d : Nat)
  /-- DQ_ISSUE (R490). -/
  | dqIssue (d : Nat)
  /-- DQ_FLUSH (R491). -/
  | dqFlush (rq : Rq) (arg : Bytes)
  /-- TRIGGER_FIRING (R495). -/
  | triggerFiring (t : Nat)
  /-- PENDING_FLUSH (R499). -/
  | pendingFlush (r : Nat)
  /-- DECODE (R510). -/
  | decode (d id : Nat)
  /-- FRAME_RECORD (R512). -/
  | frameRecord (d id n w h : Nat) (key grain ten : Bool) (reason sigMatrix sigRange : Nat)
  /-- DECODE_COMPLETE (R512). -/
  | decodeComplete (d id recon : Nat) (extra : List Nat) (noPoint : Bool) (steps energy : Nat)
  /-- OPEN (R522). -/
  | openReq (plat : Nat)
  /-- SERVING_STEP_START (R527). -/
  | servingStepStart (m : Nat)
  /-- LAYER_BOUNDARY (R528). -/
  | layerBoundary (h : Nat)
  /-- LAYER_OVERRUN (R529). -/
  | layerOverrun (h : Nat)
  /-- SERVING_STEP_COMPLETE (R534). -/
  | servingStepComplete (h energy : Nat)
  /-- SLOT_DEMOTE (R532). -/
  | slotDemote (plat : Nat)
  /-- SLOT_PROMOTE (R532). -/
  | slotPromote (h : Nat)
  /-- WEIGHT_LOAD (R540). -/
  | weightLoad (rq : Rq) (arg : Bytes)
  /-- WEIGHT_PIECE_COMPLETE (R541). -/
  | weightPieceComplete (id status : Nat) (data : Bytes) (accepted : List Nat)
  /-- WEIGHT_LOAD_DONE (R542). -/
  | weightLoadDone (accepted : List Nat) (relayed : Bool)
  /-- WEIGHT_ABORT (R543). -/
  | weightAbort (rq : Rq)
  /-- RELAYED_PIECE_RX (R546). -/
  | relayedPieceRx (ord loadId dst : Nat) (data : Bytes)
  /-- PEER_WAIT_TIMEOUT (R545). -/
  | peerWaitTimeout (ord : Nat) (accepted : List Nat)
  /-- FLIT_RX (R559). -/
  | flitRx (l : Nat) (f : RxFlit)
  /-- REPLAY_REQUEST (R560). -/
  | replayRequest (l ack : Nat)
  /-- REPLAY_TIMEOUT (R560). -/
  | replayTimeout (l : Nat)
  /-- CL_DOWN (R561). -/
  | clDown (l : Nat) (lostLock : Bool)
  /-- LANE_SUSPECT (R563). -/
  | laneSuspect (l lane : Nat) (lock : Bool)
  /-- LANE_CONTROL_RX (R563). -/
  | laneControlRx (l lane spare fseq : Nat)
  /-- CL_TRAINING (R565). -/
  | clTraining (l : Nat) (rec : Bytes) (peerOk other : Bool)
  /-- CL_SLOT (R566). -/
  | clSlot
  /-- MEMBER_TIMEOUT (R569). -/
  | memberTimeout (ord : Nat)
  /-- MSG_SIGNAL_ADD (R571). -/
  | msgSignalAdd
  /-- MSG_SIGNAL_ACK (R571). -/
  | msgSignalAck
  /-- MSG_WRITE (R575). -/
  | msgWrite
  /-- MSG_WRITE_ACK (R571). -/
  | msgWriteAck
  /-- MSG_COLLECTIVE (R577). -/
  | msgCollective
  /-- MSG_SERVE (R581). -/
  | msgServe
  /-- MSG_LEAVE (R582). -/
  | msgLeave
  /-- COPY (R575). -/
  | copy (k : Nat)
  /-- BROADCAST (R576). -/
  | broadcast (k : Nat)
  /-- ALL_GATHER (R576). -/
  | allGather (k : Nat)
  /-- REDUCE_SCATTER (R577). -/
  | reduceScatter (k : Nat)
  /-- ALL_REDUCE (R577). -/
  | allReduce (k : Nat)
  /-- RELAY_COMPLETE (R578). -/
  | relayComplete (tag : Nat)
  /-- CONSIST_LEAVE (R582). -/
  | consistLeave (rq : Rq)
  /-- ERROR_DETECTED (R589). -/
  | errorDetected (unit cls detect addr plats detail : Nat) (also : Option (Nat × Nat)) (struct : Option Nat)
  /-- SELF_TEST_START (R593). -/
  | selfTestStart (unit : Nat)
  /-- SELF_TEST_END (R594). -/
  | selfTestEnd (unit : Nat) (pass : Bool) (place : Nat) (spare : Bool)
  /-- TEST_OVERRUN (R594). -/
  | testOverrun (unit place : Nat) (spare : Bool)
  /-- FATAL_HALT (R600). -/
  | fatalHalt
  /-- UNIT_QUERY (R591). -/
  | unitQuery (rq : Rq) (arg : Bytes)
  /-- VAON_RISING (R79). -/
  | vaonRising
  /-- PHASE2_BEGIN (R177). -/
  | phase2Begin
  /-- FAR_LINK_UP (R176). -/
  | farLinkUp (port width rate : Nat) (flit256 ok : Bool) (cap : Nat)
  /-- ETH_AN_RETRY (R344). -/
  | ethAnRetry (sub : Nat)
  /-- RESERVED_ENCODING (R246). -/
  | reservedEncoding (t : Nat) (w : BitVec 32)
  /-- REPLAY_REQUEST_REPEAT (R560). -/
  | replayRequestRepeat (l : Nat)
  /-- RESPONDER_ACK_TIMER (R400). -/
  | responderAckTimer (qpn : Nat)
  /-- GROUP_OPERATION_TIMEOUT (R576). -/
  | groupOperationTimeout (tag : Nat)
deriving DecidableEq, Repr

end Sys2Proof
end

