-- ==== Sys2Proof/Config.lean ====
section
/-! DEFINITION. Values the spec leaves open, as constants without a body: nothing can evaluate them, so a claim holds
whatever they are. -/
namespace Sys2Proof

/-- A fresh value of the width asked for, by its serial number (State.free counts them). -/
opaque Config.freeValue : Nat → Nat → Nat

/-- Results of the functions of the vector units that R465 states only to within 2 ulp: function number, operand as raw
FP32 (log 10). -/
opaque Config.transcendental : Nat → Nat → Nat

/-- SHA-384 (FIPS 180-4): the number whose 48 little-endian bytes are the digest. -/
opaque Config.sha384 : Bytes → Nat

/-- HMAC-SHA-384, key then message: the number of its first 16 bytes (R197). -/
opaque Config.hmacTag : Bytes → Bytes → Nat

/-- The AES block cipher (FIPS 197): key, block; the number of the 16 bytes. -/
opaque Config.aesEnc : Bytes → Bytes → Nat

/-- Its inverse. -/
opaque Config.aesDec : Bytes → Bytes → Nat

/-- AES key wrap with padding (RFC 5649), unwrap: key-encryption key, wrapped key; the number of the key's bytes. -/
opaque Config.keyUnwrap : Bytes → Bytes → Nat

/-- A digital signature by the device identity key: the number of its 96 bytes. -/
opaque Config.sign : Bytes → Nat

/-- The version of the boot ROM. -/
opaque Config.bootRomVersion : Nat

/-- The certificate chain of certificate slot 0: root, intermediate, device identity: its bytes by place. -/
opaque Config.certificateByte : Nat → Byte

/-- The length of the chain less 1, modulo 65,535. -/
opaque Config.certificateLength : Nat

/-- The IDCODE register of the test access port. -/
opaque Config.idcode : Nat

/-- ECDH P-384: own ephemeral number, peer key; the number of the 48 bytes of the shared secret. -/
opaque Config.ecdh : Nat → Bytes → Nat

/-- HKDF-SHA-384: input key, salt, info; the number of the 48 bytes (R197). -/
opaque Config.hkdf : Bytes → Bytes → Bytes → Nat

/-- The address and the value of the BLOB entry of a DISCOVER answer, which R112 says holds node ID, MAC address, part,
stepping and serial, without their layout. -/
opaque Config.discover : Nat → Nat → Bytes → Bytes → Bytes → Nat × Bytes

/-- The ephemeral public key of an own ephemeral number: the number of its 96 bytes. -/
opaque Config.ephemeral : Nat → Nat

/-- A channel of a frame after crop, chroma upsampling, colour conversion and resize, as raw FP32 (20 R510 steps 2 to 5):
stream bytes, then frame, geometry and colour parameters, channel, row and column (log 12). -/
opaque Config.pixel : Bytes → List Nat → Nat

end Sys2Proof
end

