-- ==== Sys2Proof/Machine/Events.lean ====
section
/-! DEFINITION. The events of the Events tables of spec/: code and class (03 Table 3-6b). -/
namespace Sys2Proof.Machine

/-- An event's code and class. -/
structure Ev where
  code : Nat
  cls : Nat
deriving DecidableEq, Repr

/-- TB_NO_REF: ARG 0. -/
def evTbNoRef : Ev := ⟨0x0300, 1⟩
/-- TB_HOLDOVER: ARG Value of OD 03.007 at entry into HOLDOVER. -/
def evTbHoldover : Ev := ⟨0x0301, 1⟩
/-- TB_HOLDOVER_EXPIRED: ARG 0. -/
def evTbHoldoverExpired : Ev := ⟨0x0302, 1⟩
/-- TB_RELOCK: ARG Duration of the holdover that ended, in ns. -/
def evTbRelock : Ev := ⟨0x0303, 0⟩
/-- TB_RATE_COLLISION: ARG Discarded servo value of OD 03.006 in ppt, sign-extended to 64 bits. -/
def evTbRateCollision : Ev := ⟨0x0304, 1⟩
/-- TB_EPOCH_STEP: ARG Change made to the epoch offset in ns, two's complement. -/
def evTbEpochStep : Ev := ⟨0x0305, 1⟩
/-- OD_SAVED: ARG SEQ of the new copy. -/
def evOdSaved : Ev := ⟨0x0180, 0⟩
/-- OD_SAVE_FAILED: ARG Target region: 0 for A, 1 for B. -/
def evOdSaveFailed : Ev := ⟨0x0181, 3⟩
/-- OD_RESTORED_COPY: ARG SEQ of the restored copy. -/
def evOdRestoredCopy : Ev := ⟨0x0182, 1⟩
/-- OD_RESTORED_DEFAULTS: ARG 0. -/
def evOdRestoredDefaults : Ev := ⟨0x0183, 1⟩
/-- OD_RESTORE_SKIPPED: ARG Count of skipped entries. -/
def evOdRestoreSkipped : Ev := ⟨0x0184, 1⟩
/-- HWU_COLLISION: ARG Discarded hardware value, zero-extended. -/
def evHwuCollision : Ev := ⟨0x0185, 1⟩
/-- STAGE_EXPIRED: ARG Handle. -/
def evStageExpired : Ev := ⟨0x0186, 1⟩
/-- EVENTS_LOST: ARG Count of records skipped. -/
def evEventsLost : Ev := ⟨0x0187, 1⟩
/-- T1S_JAMMED: ARG 0. -/
def evT1sJammed : Ev := ⟨0x0600, 1⟩
/-- T1S_RESTORED: ARG Duration of the jam in ms. -/
def evT1sRestored : Ev := ⟨0x0601, 0⟩
/-- INBAND_FALLBACK: ARG Ports enabled: [0] EP0, [1] EP1. -/
def evInbandFallback : Ev := ⟨0x0602, 1⟩
/-- SESSION_CLOSED: ARG Session number. -/
def evSessionClosed : Ev := ⟨0x0603, 0⟩
/-- T1S_OUTPUT_LIMIT: ARG 0. -/
def evT1sOutputLimit : Ev := ⟨0x0604, 3⟩
/-- POWER_STATE_CHANGED: ARG New state. -/
def evPowerStateChanged : Ev := ⟨0x0200, 0⟩
/-- POWER_REFUSED: ARG [15:8] from state, [7:0] to state. -/
def evPowerRefused : Ev := ⟨0x0201, 1⟩
/-- THERMAL_FLOOR_YIELD: ARG Domain. -/
def evThermalFloorYield : Ev := ⟨0x0202, 1⟩
/-- THERMAL_FLOOR_RESTORED: ARG Domain. -/
def evThermalFloorRestored : Ev := ⟨0x0203, 0⟩
/-- THERMAL_TRIP: ARG Domain. -/
def evThermalTrip : Ev := ⟨0x0204, 5⟩
/-- RAIL_COLLISION: ARG Discarded governor value in mV. -/
def evRailCollision : Ev := ⟨0x0205, 1⟩
/-- KET_COLLISION: ARG Entry number. -/
def evKetCollision : Ev := ⟨0x0206, 1⟩
/-- RAIL_DEVIATION: ARG Domain. -/
def evRailDeviation : Ev := ⟨0x0207, 1⟩
/-- PMBUS_FAILED: ARG 0. -/
def evPmbusFailed : Ev := ⟨0x0208, 3⟩
/-- PMBUS_RESTORED: ARG 0. -/
def evPmbusRestored : Ev := ⟨0x0209, 0⟩
/-- DRAIN_READY: ARG Residual energy in µJ. -/
def evDrainReady : Ev := ⟨0x020A, 0⟩
/-- DRAIN_FAILED: ARG Domain. -/
def evDrainFailed : Ev := ⟨0x020B, 4⟩
/-- E4_REFUSED: ARG 0. -/
def evE4Refused : Ev := ⟨0x020C, 3⟩
/-- DEVICE_READY: ARG Running time of phase 5 in µs. -/
def evDeviceReady : Ev := ⟨0x0100, 0⟩
/-- READY_LATE: ARG READY_MASK at 480 ms. -/
def evReadyLate : Ev := ⟨0x0101, 5⟩
/-- BOOT_SLOT_FALLBACK: ARG Slot run: 0 A, 1 B. -/
def evBootSlotFallback : Ev := ⟨0x0102, 1⟩
/-- WARM_RESET_DONE: ARG Cause, as OD 01.006. -/
def evWarmResetDone : Ev := ⟨0x0103, 0⟩
/-- FAR_ZEROED: ARG Far-tier bytes zeroed. -/
def evFarZeroed : Ev := ⟨0x0104, 0⟩
/-- OWNER_CLAIMED: ARG 0. -/
def evOwnerClaimed : Ev := ⟨0x0400, 0⟩
/-- OWNER_RELEASED: ARG 0. -/
def evOwnerReleased : Ev := ⟨0x0401, 1⟩
/-- SESSION_AUTH_FAILED: ARG Station key number. -/
def evSessionAuthFailed : Ev := ⟨0x0402, 1⟩
/-- KEY_LOADED: ARG Slot [15:0], generation [31:16]. -/
def evKeyLoaded : Ev := ⟨0x0403, 0⟩
/-- KEY_LOAD_FAILED: ARG Slot [15:0]; cause [23:16]: 1 unwrap, 2 stale-key. -/
def evKeyLoadFailed : Ev := ⟨0x0404, 1⟩
/-- KEY_ZEROISED: ARG Slot [15:0], generation [31:16]. -/
def evKeyZeroised : Ev := ⟨0x0405, 0⟩
/-- HALT_DEFERRED: ARG Unit number. -/
def evHaltDeferred : Ev := ⟨0x0406, 0⟩
/-- LEASE_REVOKED: ARG Unit number; sealed-only. -/
def evLeaseRevoked : Ev := ⟨0x0407, 3⟩
/-- LEASE_OVERRUN: ARG Unit number. -/
def evLeaseOverrun : Ev := ⟨0x0408, 3⟩
/-- FW_VERIFIED: ARG Slot. -/
def evFwVerified : Ev := ⟨0x0409, 0⟩
/-- FW_FAILED: ARG Kind [15:8], cause [7:0]. -/
def evFwFailed : Ev := ⟨0x040A, 3⟩
/-- FW_ACTIVATED: ARG New FW_VERSION. -/
def evFwActivated : Ev := ⟨0x040B, 0⟩
/-- FW_ROLLBACK: ARG Failed FW_VERSION. -/
def evFwRollback : Ev := ⟨0x040C, 3⟩
/-- FW_COMMITTED: ARG Descriptor SEQ. -/
def evFwCommitted : Ev := ⟨0x040D, 0⟩
/-- DBG_STATE_CHANGED: ARG New state. -/
def evDbgStateChanged : Ev := ⟨0x0500, 1⟩
/-- DBG_TOKEN_REJECTED: ARG 1 format, 2 serial, 3 nonce, 4 signature. -/
def evDbgTokenRejected : Ev := ⟨0x0501, 1⟩
/-- SEALED_ZEROISED: ARG Slots zeroised. -/
def evSealedZeroised : Ev := ⟨0x0502, 1⟩
/-- CORE_DOUBLE_FAULT: ARG Core [7:0], ECAUSE [47:16]. -/
def evCoreDoubleFault : Ev := ⟨0x0800, 4⟩
/-- CORE_SPARED: ARG Core. -/
def evCoreSpared : Ev := ⟨0x0801, 1⟩
/-- CORE_RETIRED: ARG Core. -/
def evCoreRetired : Ev := ⟨0x0802, 4⟩
/-- PROG_STARTED: ARG Core [7:0], VERSION [39:8]. -/
def evProgStarted : Ev := ⟨0x0803, 0⟩
/-- PROG_REJECTED: ARG Core [7:0]; cause [15:8]: 1 header, 2 signature, 3 security version, 4 layout. -/
def evProgRejected : Ev := ⟨0x0804, 1⟩
/-- WINDOW_DROPPED: ARG Core [7:0], window [15:8]; PLATFORM set. -/
def evWindowDropped : Ev := ⟨0x0805, 1⟩
/-- PLAT_ENABLED: ARG Epoch. -/
def evPlatEnabled : Ev := ⟨0x1000, 0⟩
/-- PLAT_DISABLED: ARG Epoch. -/
def evPlatDisabled : Ev := ⟨0x1001, 0⟩
/-- PLAT_RESET_DONE: ARG New epoch. -/
def evPlatResetDone : Ev := ⟨0x1002, 0⟩
/-- PLAT_FAILED: ARG Unit number of the failed structure. -/
def evPlatFailed : Ev := ⟨0x1003, 3⟩
/-- XLATE_FAULT: ARG First forbidden platform address. -/
def evXlateFault : Ev := ⟨0x1004, 1⟩
/-- MBX_ERROR: ARG 1 doorbell out of range, 2 ring translation fault. -/
def evMbxError : Ev := ⟨0x1005, 1⟩
/-- INVAL_DONE: ARG New value of OD 10.011. -/
def evInvalDone : Ev := ⟨0x1006, 0⟩
/-- GRANULE_RECLAIMED: ARG Granules freed. -/
def evGranuleReclaimed : Ev := ⟨0x1007, 0⟩
/-- HOST_LINK_UP: ARG Link index. -/
def evHostLinkUp : Ev := ⟨0x1100, 0⟩
/-- HOST_LINK_DOWN: ARG Link index. -/
def evHostLinkDown : Ev := ⟨0x1101, 1⟩
/-- LINK_DEGRADED: ARG Link index [7:0], width [15:8], rate code [23:16]. -/
def evLinkDegraded : Ev := ⟨0x1102, 1⟩
/-- SSD_PRESENT: ARG Link index. -/
def evSsdPresent : Ev := ⟨0x1103, 0⟩
/-- SSD_REMOVED: ARG Link index. -/
def evSsdRemoved : Ev := ⟨0x1104, 1⟩
/-- SSD_STRAY_DMA: ARG Link index [7:0], address [63:8] bits [55:0] of the request. -/
def evSsdStrayDma : Ev := ⟨0x1105, 1⟩
/-- FAR_LINK_DOWN: ARG Link index. -/
def evFarLinkDown : Ev := ⟨0x1106, 4⟩
/-- FAR_POISON: ARG Device physical address of the line; PLATFORM set. -/
def evFarPoison : Ev := ⟨0x1107, 3⟩
/-- NEAR_REPAIRED: ARG [7:0] stack 0–7 or 8 + die; [15:8] 1 soft row, 2 hard row, 3 staging row, 4 staging column. -/
def evNearRepaired : Ev := ⟨0x4000, 2⟩
/-- NEAR_REMAPPED: ARG Platform granule number G; PLATFORM set. -/
def evNearRemapped : Ev := ⟨0x4001, 1⟩
/-- NEAR_GRANULE_RETIRED: ARG Platform granule number G; PLATFORM set. -/
def evNearGranuleRetired : Ev := ⟨0x4002, 4⟩
/-- MIGRATION_PINNED: ARG Platform granule number G. -/
def evMigrationPinned : Ev := ⟨0x4003, 1⟩
/-- CACHE_DIRTY_POISON: ARG Device physical address of the sector; PLATFORM set. -/
def evCacheDirtyPoison : Ev := ⟨0x4100, 3⟩
/-- ETH_LINK_UP: ARG Sub-port index [7:0], rate code [15:8]. -/
def evEthLinkUp : Ev := ⟨0x2000, 0⟩
/-- ETH_LINK_DOWN: ARG Sub-port index. -/
def evEthLinkDown : Ev := ⟨0x2001, 1⟩
/-- ETH_FEC_DEGRADED: ARG Sub-port index [7:0], uncorrectable codewords in the window [63:8]. -/
def evEthFecDegraded : Ev := ⟨0x2002, 1⟩
/-- PTP_STATE_CHANGED: ARG Sub-port index [7:0], new state [15:8]. -/
def evPtpStateChanged : Ev := ⟨0x2003, 0⟩
/-- PTP_SOURCE_MISMATCH: ARG Sub-port index. -/
def evPtpSourceMismatch : Ev := ⟨0x2004, 1⟩
/-- SHAPER_RATE_COLLISION: ARG Shaper [15:0], discarded rate in kb/s [47:16]. -/
def evShaperRateCollision : Ev := ⟨0x2300, 1⟩
/-- QP_ERROR: ARG QPN [23:0], status [31:24]; PLATFORM set. -/
def evQpError : Ev := ⟨0x2400, 1⟩
/-- CQ_OVERRUN: ARG CQ number; PLATFORM set. -/
def evCqOverrun : Ev := ⟨0x2401, 1⟩
/-- RELAXED_REFUSED: ARG QPN; PLATFORM set. -/
def evRelaxedRefused : Ev := ⟨0x2402, 1⟩
/-- FLOOR_YIELDED: ARG QPN [23:0], or shaper with [63] set. -/
def evFloorYielded : Ev := ⟨0x2403, 1⟩
/-- FLOOR_RESTORED: ARG As FLOOR_YIELDED. -/
def evFloorRestored : Ev := ⟨0x2404, 0⟩
/-- SA_EXHAUSTED: ARG Security association; PLATFORM set. -/
def evSaExhausted : Ev := ⟨0x2500, 1⟩
/-- SSD_READY: ARG Link index. -/
def evSsdReady : Ev := ⟨0x3000, 0⟩
/-- SSD_TIMEOUT: ARG Link index [7:0], NVMe command ID [23:8]. -/
def evSsdTimeout : Ev := ⟨0x3001, 1⟩
/-- NS_READY: ARG Namespace; PLATFORM set. -/
def evNsReady : Ev := ⟨0x3002, 0⟩
/-- NS_FAILED: ARG Namespace; PLATFORM set. -/
def evNsFailed : Ev := ⟨0x3003, 3⟩
/-- SQ_ERROR: ARG Queue [15:0], cause [23:16]: 1 doorbell, 2 index, 3 ring overrun. -/
def evSqError : Ev := ⟨0x3004, 1⟩
/-- REMOTE_UP: ARG Target. -/
def evRemoteUp : Ev := ⟨0x3005, 0⟩
/-- REMOTE_DOWN: ARG Target. -/
def evRemoteDown : Ev := ⟨0x3006, 3⟩
/-- CIPHER_MISMATCH: ARG Cluster [7:0], pair [15:8], mode [23:16], check [24]. -/
def evCipherMismatch : Ev := ⟨0x3100, 3⟩
/-- CIPHER_PUSH_DISCARDED: ARG Cipher queue. -/
def evCipherPushDiscarded : Ev := ⟨0x3101, 1⟩
/-- CIPHER_CLUSTER_RETIRED: ARG Cluster. -/
def evCipherClusterRetired : Ev := ⟨0x3102, 4⟩
/-- ARRAY_CHECK: ARG Array 0–15, or 16 + die for a vector unit. -/
def evArrayCheck : Ev := ⟨0x5000, 3⟩
/-- ARRAY_SPARED: ARG Array [7:0]; [15:8] 1 row, 2 column. -/
def evArraySpared : Ev := ⟨0x5001, 2⟩
/-- ARRAY_RETIRED: ARG Array 0–15, or 16 + die for a vector unit. -/
def evArrayRetired : Ev := ⟨0x5002, 4⟩
/-- SIG_SATURATED: ARG Signal; PLATFORM set. -/
def evSigSaturated : Ev := ⟨0x5100, 1⟩
/-- TRIGGER_FAULT: ARG Die [15:8], trigger [7:0]; PLATFORM set. -/
def evTriggerFault : Ev := ⟨0x5101, 1⟩
/-- TRIGGER_DISABLED: ARG Die [15:8], trigger [7:0]; PLATFORM set. -/
def evTriggerDisabled : Ev := ⟨0x5102, 0⟩
/-- SIG_COUPLE_LOST: ARG Record [7:0], discarded sum [63:8]. -/
def evSigCoupleLost : Ev := ⟨0x5103, 1⟩
/-- DQ_ERROR: ARG Dispatch queue; PLATFORM set. -/
def evDqError : Ev := ⟨0x5104, 1⟩
/-- DECODE_SKIPS: ARG R517. -/
def evDecodeSkips : Ev := ⟨0x5200, 1⟩
/-- DECODE_ENGINE_RETIRED: ARG Engine. -/
def evDecodeEngineRetired : Ev := ⟨0x5201, 4⟩
/-- LAYER_OVERRUN: ARG Model [7:0], layer [23:8]; PLATFORM set. -/
def evLayerOverrun : Ev := ⟨0x5300, 1⟩
/-- SLOT_EXHAUSTED: ARG Handle; PLATFORM set. -/
def evSlotExhausted : Ev := ⟨0x5301, 1⟩
/-- WEIGHT_LOAD_DONE: ARG LOAD_ID [31:0], bank [39:32]. -/
def evWeightLoadDone : Ev := ⟨0x5400, 0⟩
/-- WEIGHT_LOAD_FAILED: ARG LOAD_RESULT. -/
def evWeightLoadFailed : Ev := ⟨0x5401, 1⟩
/-- ADDITION_DROPPED: ARG Addition record; PLATFORM set to OWNER, or 0xFF. -/
def evAdditionDropped : Ev := ⟨0x5402, 1⟩
/-- WEIGHT_BANK_DAMAGED: ARG Bank [7:0], platform granule number [63:8]. -/
def evWeightBankDamaged : Ev := ⟨0x5403, 3⟩
/-- CL_UP: ARG Link [7:0], partner ordinal [15:8]. -/
def evClUp : Ev := ⟨0x6000, 0⟩
/-- CL_DOWN: ARG Link. -/
def evClDown : Ev := ⟨0x6001, 1⟩
/-- CL_MISWIRED: ARG Link [7:0], partner ordinal [15:8], partner link [23:16]. -/
def evClMiswired : Ev := ⟨0x6002, 1⟩
/-- LANE_SPARED: ARG Link [7:0], lane [15:8]. -/
def evLaneSpared : Ev := ⟨0x6003, 2⟩
/-- LANE_RESTORED: ARG Link [7:0], lane [15:8]. -/
def evLaneRestored : Ev := ⟨0x6004, 0⟩
/-- CL_RETIRED: ARG Link. -/
def evClRetired : Ev := ⟨0x6005, 4⟩
/-- MEMBER_UNREACHABLE: ARG Ordinal. -/
def evMemberUnreachable : Ev := ⟨0x6006, 1⟩
/-- MEMBER_REACHABLE: ARG Ordinal. -/
def evMemberReachable : Ev := ⟨0x6007, 0⟩
/-- MEMBER_LEFT: ARG Ordinal. -/
def evMemberLeft : Ev := ⟨0x6008, 1⟩
/-- MEMBER_JOINED: ARG Ordinal. -/
def evMemberJoined : Ev := ⟨0x6009, 0⟩
/-- FAULT_RECORDED: ARG SEQ [31:0], unit [47:32], TEST [55:48]. -/
def evFaultRecorded : Ev := ⟨0x7000, 0⟩
/-- UNIT_SPARED: ARG Unit, for types without their own event. -/
def evUnitSpared : Ev := ⟨0x7001, 2⟩
/-- UNIT_RETIRED: ARG Unit, for types without their own event. -/
def evUnitRetired : Ev := ⟨0x7002, 4⟩
/-- TEST_OVERRUN: ARG Unit. -/
def evTestOverrun : Ev := ⟨0x7003, 3⟩
/-- REPAIR_STORE_FULL: ARG 0. -/
def evRepairStoreFull : Ev := ⟨0x7004, 1⟩
/-- FATAL_HALT: ARG SEQ of the FATAL record. -/
def evFatalHalt : Ev := ⟨0x7005, 5⟩

end Sys2Proof.Machine
end

