-- ==== Sys2Proof/Machine/Table.lean ====
section
/-! DEFINITION. Sparse tables: a list of (number, value) pairs with rising numbers. They hold the object store, memories,
and every numbered set of records of the spec (queue pairs, signals, key slots, ...). -/
namespace Sys2Proof.Machine

/-- Numbered records; a number that is not listed has the value its reader names. -/
abbrev Table (α : Type) := List (Nat × α)

/-- The value listed under `k`, if any. -/
def tget? {α : Type} : Table α → Nat → Option α
  | [], _ => none
  | (k', v) :: r, k => if k' = k then some v else tget? r k

/-- The value listed under `k`, or `d`. -/
def tget {α : Type} (d : α) (t : Table α) (k : Nat) : α := (tget? t k).getD d

/-- `t` with `v` under `k`, in rising order. -/
def tput {α : Type} : Table α → Nat → α → Table α
  | [], k, v => [(k, v)]
  | (k', v') :: r, k, v =>
    if k < k' then (k, v) :: (k', v') :: r
    else if k' = k then (k, v) :: r
    else (k', v') :: tput r k v

/-- `t` without `k`. -/
def tdel {α : Type} (t : Table α) (k : Nat) : Table α := t.filter (fun p => p.1 != k)

/-- `t` with the value under `k` changed by `f`, from `d` where none is listed. -/
def tmod {α : Type} (d : α) (t : Table α) (k : Nat) (f : α → α) : Table α := tput t k (f (tget d t k))

/-- `t` with `v` under `k`, or nothing under `k` where `v` is the value `d` of an unlisted number: the canonical write. -/
def tset {α : Type} [DecidableEq α] (d : α) (t : Table α) (k : Nat) (v : α) : Table α :=
  if v = d then tdel t k else tput t k v

/-- The numbers rise strictly. -/
def tsorted {α : Type} : Table α → Bool
  | [] => true
  | [_] => true
  | (k, _) :: (k', v') :: r => decide (k < k') && tsorted ((k', v') :: r)

end Sys2Proof.Machine
end

