-- ==== Sys2Proof/Machine/Bytes.lean ====
section
/-! DEFINITION. Little-endian fields (R6), bit ranges (R5), two's complement, and CRC-32 of the save and descriptor
headers (Table 3-3). -/
namespace Sys2Proof.Machine

/-- Bits `[hi:lo]` of a number (R5). -/
def bits (x hi lo : Nat) : Nat := (x >>> lo) % 2 ^ (hi + 1 - lo)

/-- Bit `n` of a number (R5). -/
def bit (x n : Nat) : Bool := x.testBit n

/-- 1 for true. -/
def b2n (b : Bool) : Nat := if b then 1 else 0

/-- The number of little-endian bytes (R6). -/
def leNat : Bytes → Nat
  | [] => 0
  | b :: r => b.toNat + 256 * leNat r

/-- `n` little-endian bytes of a number (R6), dropping what does not fit. -/
def leBytes : Nat → Nat → Bytes
  | 0, _ => []
  | n + 1, v => BitVec.ofNat 8 v :: leBytes n (v / 256)

/-- `n` zero bytes. -/
def zeros (n : Nat) : Bytes := List.replicate n 0

/-- The field of `n` bytes at `off` (R6); bytes beyond the end read 0. -/
def fld (b : Bytes) (off n : Nat) : Nat := leNat ((b.drop off).take n)

/-- `n` bytes at `off`, padded with zero bytes. -/
def slice (b : Bytes) (off n : Nat) : Bytes :=
  let p := (b.drop off).take n
  p ++ zeros (n - p.length)

/-- `b` with `v` written at `off`, padded with zero bytes where it was shorter. -/
def splice (b : Bytes) (off : Nat) (v : Bytes) : Bytes :=
  slice b 0 off ++ v ++ b.drop (off + v.length)

/-- `b` with the field of `n` bytes at `off` set. -/
def setFld (b : Bytes) (off n v : Nat) : Bytes := splice b off (leBytes n v)

/-! ## Cryptographic functions by their bytes (log 11) -/

/-- The certificate chain of the device, of 1 to 65,535 bytes. -/
def certificates : Bytes := (List.range (1 + Config.certificateLength % 65535)).map Config.certificateByte

/-- The 48 bytes of a SHA-384 digest. -/
def sha384 (b : Bytes) : Bytes := leBytes 48 (Config.sha384 b)
/-- The 16 bytes of a TAG. -/
def hmacTag (key b : Bytes) : Bytes := leBytes 16 (Config.hmacTag key b)
/-- A block enciphered. -/
def aesEnc (key b : Bytes) : Bytes := leBytes 16 (Config.aesEnc key b)
/-- A block deciphered. -/
def aesDec (key b : Bytes) : Bytes := leBytes 16 (Config.aesDec key b)
/-- The 96 bytes of a signature of the device. -/
def signBytes (b : Bytes) : Bytes := leBytes 96 (Config.sign b)
/-- The 96 bytes of an ephemeral public key. -/
def ephemeralKey (n : Nat) : Bytes := leBytes 96 (Config.ephemeral n)
/-- The shared secret of an own ephemeral number and a peer's key. -/
def ecdhSecret (n : Nat) (key : Bytes) : Bytes := leBytes 48 (Config.ecdh n key)
/-- A key derived with HKDF. -/
def hkdfKey (key salt info : Bytes) : Bytes := leBytes 48 (Config.hkdf key salt info)

/-- All bytes zero. -/
def isZero (b : Bytes) : Bool := b.all (· == 0)

/-- The two's complement value of `w` bits. -/
def sInt (w x : Nat) : Int := if x < 2 ^ (w - 1) then (x : Int) else (x : Int) - 2 ^ w

/-- The `w`-bit two's complement form of an integer. -/
def uInt (w : Nat) (x : Int) : Nat := (x % (2 ^ w : Int)).toNat

/-- An integer held within two bounds. -/
def clampI (lo hi x : Int) : Int := max lo (min hi x)

/-- One bit of CRC-32, reflected (IEEE 802.3 polynomial). -/
def crcBit (c : Nat) : Nat := if c % 2 = 1 then (c / 2) ^^^ 0xEDB88320 else c / 2

/-- One byte of CRC-32. -/
def crcByte (c : Nat) (b : Byte) : Nat :=
  crcBit (crcBit (crcBit (crcBit (crcBit (crcBit (crcBit (crcBit (c ^^^ b.toNat))))))))

/-- CRC-32 (IEEE 802.3 polynomial) over bytes (Table 3-3). -/
def crc32 (b : Bytes) : Nat := (b.foldl crcByte 0xFFFFFFFF) ^^^ 0xFFFFFFFF

/-- Rounded-up division. -/
def cdiv (a b : Nat) : Nat := (a + b - 1) / b

end Sys2Proof.Machine
end

