-- ==== Sys2Proof/Machine/Catalogue.lean ====
section
/-! DEFINITION. The catalogue of the Object Dictionary: one row per row of the Objects tables of spec/ (00 to 24),
in the order first, last, one per platform, type, access of the sealed, open and platform domain (0 -, 1 r, 2 w, 3 rw,
4 x), persistence (0 V, 1 P, 2 F), kind, subindices (0: single-valued, R14), least, greatest (for STR, BLOB, ACTION:
length in bytes), one further permitted value, default. An object number is its address without the point: OD 03.022
is 0x03022. -/
namespace Sys2Proof.Machine

/-- Object types of Table 3-1. -/
inductive OdType where
  | bool | u8 | u16 | u32 | u64 | s32 | s64 | f32 | bits32 | time | energy | str | blob | action
deriving DecidableEq, Repr

/-- Field kinds of Table 3-4 that the Objects tables use, and ACTION. -/
inductive OdKind where
  | rw | ro | count | hwu | act
deriving DecidableEq, Repr

/-- One row of the catalogue. -/
structure OdDef where
  first : Nat
  last : Nat
  perPlat : Bool
  type : OdType
  accS : Nat
  accO : Nat
  accP : Nat
  persist : Nat
  kind : OdKind
  subs : Nat
  lo : Int
  hi : Int
  extra : Option Nat
  dflt : Nat
deriving DecidableEq, Repr

/-- Group 00. -/
def cat00 : List OdDef := [
  ⟨0x00001, 0x00001, false, .str, 1, 1, 1, 2, .ro, 0, 0, 255, none, 0⟩, -- VENDOR
  ⟨0x00002, 0x00002, false, .str, 1, 1, 1, 2, .ro, 0, 0, 255, none, 0⟩, -- PART
  ⟨0x00003, 0x00003, false, .str, 1, 1, 1, 2, .ro, 0, 2, 2, none, 0⟩, -- STEPPING
  ⟨0x00004, 0x00004, false, .str, 1, 1, 0, 2, .ro, 0, 0, 255, none, 0⟩, -- ORDER_CODE
  ⟨0x00005, 0x00005, false, .str, 1, 1, 0, 2, .ro, 0, 16, 16, none, 0⟩, -- SERIAL
  ⟨0x00006, 0x00006, false, .u32, 1, 1, 1, 0, .ro, 0, 0, 4294967295, none, 0⟩, -- FW_VERSION
  ⟨0x00007, 0x00007, false, .u16, 1, 1, 1, 0, .ro, 0, 1, 65535, none, 0⟩ -- OD_REVISION
]

/-- Group 01. -/
def cat01 : List OdDef := [
  ⟨0x01040, 0x01040, false, .bits32, 1, 1, 0, 0, .ro, 0, 0, 65535, none, 65535⟩, -- ARRAYS_IN_SERVICE
  ⟨0x01041, 0x01041, false, .bits32, 1, 1, 0, 0, .ro, 0, 0, 255, none, 255⟩, -- STACKS_IN_SERVICE
  ⟨0x01042, 0x01042, false, .bits32, 1, 1, 0, 0, .ro, 0, 0, 16777215, none, 16777215⟩, -- TUITAL_IN_SERVICE
  ⟨0x01043, 0x01043, false, .u8, 1, 1, 0, 0, .ro, 0, 0, 3, none, 3⟩, -- TUITAL_SPARES_LEFT
  ⟨0x01044, 0x01044, false, .u16, 1, 1, 0, 0, .ro, 0, 0, 128, none, 128⟩, -- CIPHER_CORES_IN_SERVICE
  ⟨0x01045, 0x01045, false, .u8, 1, 1, 0, 0, .ro, 0, 0, 8, none, 8⟩, -- CIPHER_SPARES_LEFT
  ⟨0x01046, 0x01046, false, .u64, 1, 1, 0, 0, .ro, 0, 0, 192000000000, none, 0⟩, -- NEAR_BYTES_IN_SERVICE
  ⟨0x01047, 0x01047, false, .u64, 1, 1, 0, 0, .ro, 0, 0, 2199023255552, none, 0⟩, -- FAR_BYTES_IN_SERVICE
  ⟨0x01048, 0x01048, false, .u32, 1, 1, 0, 0, .count, 0, 0, 4294967295, none, 0⟩, -- CAPACITY_CHANGES
  ⟨0x01049, 0x01049, false, .u32, 1, 1, 0, 0, .ro, 4, 0, 4294967295, none, 0⟩, -- STEP_AD
  ⟨0x01100, 0x01100, false, .action, 4, 4, 0, 0, .act, 0, 0, 0, none, 0⟩, -- OD_SAVE
  ⟨0x01101, 0x01101, false, .u8, 1, 1, 0, 0, .ro, 0, 0, 2, none, 0⟩, -- SAVE_STATE
  ⟨0x01102, 0x01102, false, .u32, 1, 1, 0, 0, .ro, 0, 0, 4294967295, none, 0⟩, -- SAVE_SEQ
  ⟨0x01103, 0x01103, false, .u8, 1, 1, 0, 0, .ro, 0, 0, 2, none, 0⟩, -- RESTORE_SOURCE
  ⟨0x01104, 0x01104, false, .u64, 1, 1, 0, 0, .count, 0, 1, 18446744073709551615, none, 1⟩, -- OD_GENERATION
  ⟨0x01105, 0x01105, false, .u32, 1, 1, 0, 0, .count, 0, 0, 4294967295, none, 0⟩, -- ACCESS_DENIALS
  ⟨0x01110, 0x01110, false, .action, 4, 4, 0, 0, .act, 0, 0, 0, none, 0⟩, -- STAGE_OPEN
  ⟨0x01111, 0x01111, false, .action, 4, 4, 0, 0, .act, 0, 12, 12, none, 0⟩, -- STAGE_COMMIT
  ⟨0x01112, 0x01112, false, .action, 4, 4, 0, 0, .act, 0, 1, 1, none, 0⟩, -- STAGE_ABORT
  ⟨0x01113, 0x01113, false, .u32, 3, 3, 0, 1, .rw, 0, 10, 60000, none, 1000⟩, -- STAGE_TIMEOUT
  ⟨0x01114, 0x01114, false, .u8, 1, 1, 0, 0, .ro, 0, 0, 8, none, 0⟩, -- STAGES_OPEN
  ⟨0x01120, 0x01120, false, .u32, 1, 1, 0, 0, .ro, 0, 0, 4294967295, none, 0⟩, -- EVENT_HEAD
  ⟨0x01121, 0x01121, false, .blob, 1, 1, 0, 0, .ro, 0, 0, 512, none, 0⟩, -- EVENT_READ
  ⟨0x01122, 0x01122, false, .u32, 3, 3, 0, 0, .rw, 0, 0, 4294967295, none, 0⟩, -- EVENT_CURSOR
  ⟨0x01123, 0x01123, false, .u32, 1, 1, 0, 0, .count, 0, 0, 4294967295, none, 0⟩, -- EVENTS_OVERRUN
  ⟨0x01124, 0x01124, false, .u8, 3, 3, 0, 1, .rw, 0, 0, 5, none, 3⟩, -- ALERT_THRESHOLD
  ⟨0x01001, 0x01001, false, .u8, 1, 1, 1, 0, .ro, 0, 1, 6, none, 1⟩, -- DEVICE_STATE
  ⟨0x01002, 0x01002, false, .bits32, 1, 1, 0, 0, .ro, 0, 0, 127, none, 3⟩, -- PHASES_BEGUN
  ⟨0x01003, 0x01003, false, .time, 1, 1, 0, 0, .ro, 6, 0, 18446744073709551615, none, 0⟩, -- PHASE_TIME
  ⟨0x01004, 0x01004, false, .bits32, 1, 1, 0, 0, .ro, 0, 0, 262143, none, 0⟩, -- READY_MASK
  ⟨0x01005, 0x01005, false, .u8, 1, 1, 0, 0, .ro, 0, 0, 1, none, 0⟩, -- BOOT_SLOT
  ⟨0x01006, 0x01006, false, .u8, 1, 1, 0, 0, .ro, 0, 0, 3, none, 0⟩, -- RESET_CAUSE
  ⟨0x01007, 0x01007, false, .u32, 1, 1, 0, 0, .count, 0, 0, 4294967295, none, 0⟩, -- WARM_RESETS
  ⟨0x01010, 0x01010, false, .action, 4, 4, 0, 0, .act, 0, 0, 0, none, 0⟩, -- WARM_RESET
  ⟨0x01011, 0x01011, false, .action, 4, 4, 0, 0, .act, 0, 2, 2, none, 0⟩, -- UNIT_RESET
  ⟨0x01012, 0x01012, false, .u8, 3, 3, 0, 1, .rw, 0, 0, 1, none, 0⟩, -- FATAL_ACTION
  ⟨0x01020, 0x01020, false, .u32, 1, 1, 0, 0, .count, 2, 0, 4294967295, none, 0⟩, -- CRS_ANSWERS
  ⟨0x01021, 0x01021, false, .u32, 1, 1, 0, 0, .count, 0, 0, 4294967295, none, 0⟩, -- EARLY_DOORBELLS
  ⟨0x01022, 0x01022, false, .u32, 1, 1, 0, 0, .count, 2, 0, 4294967295, none, 0⟩ -- EARLY_DROPS
]

/-- Group 02. -/
def cat02 : List OdDef := [
  ⟨0x02001, 0x02001, false, .u8, 1, 1, 1, 0, .ro, 0, 0, 4, none, 0⟩, -- POWER_STATE
  ⟨0x02002, 0x02002, false, .action, 4, 4, 0, 0, .act, 0, 1, 1, none, 0⟩, -- POWER_REQUEST
  ⟨0x02003, 0x02003, false, .u8, 1, 1, 0, 0, .ro, 0, 0, 3, none, 0⟩, -- POWER_REQ_STATE
  ⟨0x02004, 0x02004, false, .bits32, 3, 3, 0, 1, .rw, 0, 0, 3, none, 1⟩, -- E3_HOST_KEEP
  ⟨0x02005, 0x02005, false, .u16, 3, 3, 0, 1, .rw, 0, 550, 900, none, 650⟩, -- LEAN_VMAX
  ⟨0x02010, 0x02010, false, .u8, 1, 1, 0, 0, .ro, 8, 0, 1, none, 0⟩, -- ACCT_MODE
  ⟨0x02011, 0x02011, false, .energy, 1, 1, 0, 0, .ro, 8, 0, 18446744073709551615, none, 0⟩, -- DOMAIN_ENERGY
  ⟨0x02012, 0x02012, false, .energy, 1, 1, 0, 0, .ro, 0, 0, 18446744073709551615, none, 0⟩, -- DEVICE_ENERGY
  ⟨0x02013, 0x02013, false, .energy, 1, 1, 0, 0, .ro, 0, 0, 18446744073709551615, none, 0⟩, -- OVERHEAD_ENERGY
  ⟨0x02014, 0x02014, false, .bool, 1, 1, 1, 0, .ro, 0, 0, 1, none, 0⟩, -- ESTIMATED
  ⟨0x02020, 0x02020, false, .u32, 3, 3, 0, 1, .rw, 0, 10, 1000, none, 100⟩, -- WINDOW
  ⟨0x02021, 0x02021, false, .energy, 3, 3, 0, 1, .rw, 0, 1000000, 1400000000, none, 140000000⟩, -- DEVICE_CAP
  ⟨0x02022, 0x02022, false, .energy, 1, 1, 0, 0, .ro, 0, 0, 18446744073709551615, none, 140000000⟩, -- CAP_EFFECTIVE
  ⟨0x02023, 0x02023, false, .s64, 1, 1, 0, 0, .ro, 0, -9223372036854775808, 9223372036854775807, none, 0⟩, -- DEVICE_BALANCE
  ⟨0x02024, 0x02024, false, .u8, 3, 3, 0, 1, .rw, 0, 1, 8, none, 1⟩, -- GRANT_SIXTEENTHS
  ⟨0x02030, 0x02030, false, .u8, 3, 3, 0, 1, .rw, 5, 0, 1, none, 0⟩, -- RAIL_MODE
  ⟨0x02031, 0x02031, false, .u16, 3, 3, 0, 1, .rw, 5, 550, 900, none, 600⟩, -- RAIL_VMIN
  ⟨0x02032, 0x02032, false, .u16, 3, 3, 0, 1, .rw, 5, 550, 900, none, 900⟩, -- RAIL_VMAX
  ⟨0x02033, 0x02033, false, .u16, 3, 3, 0, 0, .hwu, 5, 0, 65535, none, 750⟩, -- RAIL_VTARGET
  ⟨0x02034, 0x02034, false, .u16, 1, 1, 0, 0, .ro, 8, 0, 65535, none, 0⟩, -- RAIL_VOUT
  ⟨0x02035, 0x02035, false, .u16, 3, 3, 0, 1, .rw, 5, 550, 900, none, 750⟩, -- RAIL_FIXED
  ⟨0x02036, 0x02036, false, .u8, 3, 3, 0, 1, .rw, 0, 85, 105, none, 100⟩, -- THERMAL_LIMIT
  ⟨0x02037, 0x02037, false, .u8, 1, 1, 1, 0, .ro, 5, 0, 125, none, 0⟩, -- TJ
  ⟨0x02041, 0x02041, false, .u16, 3, 3, 0, 1, .rw, 0, 40, 200, none, 40⟩, -- BALLAST_DECAY
  ⟨0x02042, 0x02042, false, .energy, 1, 1, 1, 2, .ro, 0, 0, 18446744073709551615, none, 2200000⟩, -- STORED_DECLARED
  ⟨0x02043, 0x02043, false, .energy, 1, 1, 0, 0, .ro, 0, 0, 18446744073709551615, none, 0⟩, -- STORED_NOW
  ⟨0x02044, 0x02044, false, .energy, 1, 1, 1, 2, .ro, 0, 0, 18446744073709551615, none, 20000⟩, -- REMOVAL_FIGURE
  ⟨0x02045, 0x02045, false, .action, 4, 4, 0, 0, .act, 0, 0, 0, none, 0⟩, -- DRAIN
  ⟨0x02046, 0x02046, false, .u8, 1, 1, 0, 0, .ro, 0, 0, 4, none, 0⟩, -- DRAIN_STATE
  ⟨0x02050, 0x02050, false, .u8, 1, 1, 0, 0, .ro, 0, 0, 2, none, 0⟩, -- PMBUS_STATE
  ⟨0x02051, 0x02051, false, .u16, 3, 1, 0, 1, .rw, 16, 0, 65535, none, 0⟩, -- PMBUS_MAP
  ⟨0x02200, 0x02200, true, .energy, 3, 3, 1, 1, .rw, 0, 0, 1400000000, none, 0⟩, -- PLAT_BUDGET
  ⟨0x02240, 0x02240, true, .s64, 1, 1, 1, 0, .ro, 0, -9223372036854775808, 9223372036854775807, none, 0⟩, -- PLAT_BALANCE
  ⟨0x02280, 0x02280, true, .energy, 1, 1, 1, 0, .ro, 2, 0, 18446744073709551615, none, 0⟩, -- PLAT_ENERGY
  ⟨0x02800, 0x02FFF, false, .u32, 3, 3, 0, 1, .rw, 6, 0, 4294967295, none, 0⟩ -- KET_ENTRY
]

/-- Group 03. -/
def cat03 : List OdDef := [
  ⟨0x03001, 0x03001, false, .u8, 1, 1, 1, 0, .ro, 0, 0, 4, none, 0⟩, -- TB_STATE
  ⟨0x03002, 0x03002, false, .u8, 3, 3, 0, 1, .rw, 0, 0, 3, none, 0⟩, -- TIME_SOURCE
  ⟨0x03003, 0x03003, false, .time, 1, 1, 1, 0, .ro, 0, 0, 18446744073709551615, none, 0⟩, -- EPOCH_TIME
  ⟨0x03004, 0x03004, false, .time, 1, 1, 1, 0, .ro, 0, 0, 18446744073709551615, none, 0⟩, -- RUN_TIME
  ⟨0x03005, 0x03005, false, .s64, 1, 1, 0, 0, .ro, 0, -9223372036854775808, 9223372036854775807, none, 0⟩, -- EPOCH_OFFSET
  ⟨0x03006, 0x03006, false, .s32, 3, 3, 0, 0, .hwu, 0, -100000000, 100000000, none, 0⟩, -- RATE_ADJ
  ⟨0x03007, 0x03007, false, .u32, 1, 1, 0, 0, .count, 0, 0, 4294967295, none, 0⟩, -- REF_REJECTS
  ⟨0x03008, 0x03008, false, .u32, 1, 1, 0, 0, .count, 0, 0, 4294967295, none, 0⟩, -- HOLDOVER_ENTRIES
  ⟨0x03009, 0x03009, false, .time, 1, 1, 0, 0, .ro, 0, 0, 18446744073709551615, none, 0⟩, -- HOLDOVER_ELAPSED
  ⟨0x03010, 0x03010, false, .u32, 1, 1, 1, 0, .ro, 0, 0, 4294967295, none, 0⟩, -- STEP_J
  ⟨0x03020, 0x03020, false, .u32, 3, 1, 0, 1, .rw, 0, 2, 1000, none, 10⟩, -- DWELL_STAGE
  ⟨0x03021, 0x03021, false, .u32, 3, 1, 0, 1, .rw, 0, 5, 1000, none, 20⟩, -- DWELL_BRIDGE
  ⟨0x03022, 0x03022, false, .u32, 3, 1, 0, 1, .rw, 0, 10, 2000, none, 50⟩, -- DWELL_NEAR
  ⟨0x03023, 0x03023, false, .u32, 3, 1, 0, 1, .rw, 0, 500, 100000, none, 2000⟩, -- DWELL_FAR
  ⟨0x03024, 0x03024, false, .u32, 3, 1, 0, 1, .rw, 0, 20, 10000, none, 100⟩, -- DWELL_PHYQ
  ⟨0x03030, 0x03030, false, .u32, 1, 1, 0, 0, .count, 5, 0, 4294967295, none, 0⟩, -- DWELL_TRIPS
  ⟨0x03040, 0x03040, false, .action, 4, 4, 0, 0, .act, 0, 8, 8, none, 0⟩ -- TIME_SET
]

/-- Group 04. -/
def cat04 : List OdDef := [
  ⟨0x04001, 0x04001, false, .u8, 1, 1, 1, 0, .ro, 0, 0, 2, none, 0⟩, -- SEC_STATE
  ⟨0x04002, 0x04002, false, .u8, 1, 1, 0, 0, .ro, 0, 0, 3, none, 0⟩, -- BOOT_KEY_INDEX
  ⟨0x04003, 0x04003, false, .bits32, 1, 1, 0, 2, .ro, 0, 0, 255, none, 0⟩, -- KEYS_REVOKED
  ⟨0x04004, 0x04004, false, .action, 4, 0, 0, 0, .act, 0, 1, 1, none, 0⟩, -- KEY_REVOKE
  ⟨0x04005, 0x04005, false, .u32, 1, 1, 0, 2, .ro, 0, 0, 4294967295, none, 0⟩, -- SECURITY_FLOOR
  ⟨0x04006, 0x04006, false, .action, 4, 0, 0, 0, .act, 0, 4, 4, none, 0⟩, -- FLOOR_RAISE
  ⟨0x04010, 0x04010, false, .blob, 1, 1, 1, 0, .ro, 16, 48, 48, none, 0⟩, -- MEASUREMENT
  ⟨0x04011, 0x04011, false, .action, 4, 4, 0, 0, .act, 0, 49, 49, none, 0⟩, -- MEAS_EXTEND
  ⟨0x04020, 0x04020, false, .bool, 3, 3, 0, 1, .rw, 0, 0, 1, none, 1⟩, -- SPDM_ENABLE
  ⟨0x04030, 0x04030, false, .blob, 3, 1, 0, 1, .rw, 4, 48, 48, none, 0⟩, -- STATION_KEYS
  ⟨0x04031, 0x04031, false, .action, 0, 4, 0, 0, .act, 0, 96, 96, none, 0⟩, -- OWNER_CLAIM
  ⟨0x04032, 0x04032, false, .blob, 3, 1, 0, 1, .rw, 4, 96, 96, none, 0⟩, -- CODE_KEYS
  ⟨0x04033, 0x04033, false, .action, 4, 0, 0, 0, .act, 0, 0, 0, none, 0⟩, -- OWNER_RELEASE
  ⟨0x04034, 0x04034, false, .u8, 1, 1, 0, 0, .ro, 0, 0, 4, none, 0⟩, -- SESSIONS_OPEN
  ⟨0x04035, 0x04035, false, .u32, 3, 1, 0, 1, .rw, 0, 1000, 3600000, none, 60000⟩, -- SESSION_IDLE
  ⟨0x04036, 0x04036, false, .u32, 1, 1, 0, 0, .count, 0, 0, 4294967295, none, 0⟩, -- SESSION_REJECTS
  ⟨0x04040, 0x04040, false, .bits32, 1, 1, 0, 0, .ro, 4, 0, 4294967295, none, 0⟩, -- LEASES
  ⟨0x04041, 0x04041, false, .u16, 1, 1, 1, 2, .ro, 0, 0, 65535, none, 100⟩, -- LEASE_MAX
  ⟨0x04042, 0x04042, false, .u32, 1, 1, 0, 0, .count, 0, 0, 4294967295, none, 0⟩, -- DEFERRALS
  ⟨0x04043, 0x04043, false, .u32, 1, 1, 0, 0, .count, 0, 0, 4294967295, none, 0⟩, -- FORCED_HALTS
  ⟨0x04050, 0x04050, false, .u8, 3, 3, 0, 1, .rw, 28, 0, 63, some 255, 0⟩, -- SEG_OWNER
  ⟨0x04051, 0x04051, false, .action, 4, 4, 4, 0, .act, 0, 8, 80, none, 0⟩, -- KEY_LOAD
  ⟨0x04052, 0x04052, false, .action, 4, 4, 4, 0, .act, 0, 2, 2, none, 0⟩, -- KEY_ZEROISE
  ⟨0x04053, 0x04053, false, .u16, 1, 1, 0, 0, .ro, 32, 0, 256, none, 0⟩, -- SLOTS_READY
  ⟨0x04060, 0x04060, false, .action, 4, 4, 0, 0, .act, 0, 12, 12, none, 0⟩, -- FW_FETCH
  ⟨0x04061, 0x04061, false, .action, 4, 4, 0, 0, .act, 0, 5, 252, none, 0⟩, -- FW_CHUNK
  ⟨0x04062, 0x04062, false, .action, 4, 4, 0, 0, .act, 0, 0, 0, none, 0⟩, -- FW_VERIFY
  ⟨0x04063, 0x04063, false, .u8, 1, 1, 0, 0, .ro, 0, 0, 7, none, 0⟩, -- FW_STATUS
  ⟨0x04064, 0x04064, false, .action, 4, 4, 0, 0, .act, 0, 0, 0, none, 0⟩, -- FW_ACTIVATE
  ⟨0x04065, 0x04065, false, .action, 4, 4, 0, 0, .act, 0, 4, 4, none, 0⟩, -- FW_COMMIT
  ⟨0x040F0, 0x040F0, false, .blob, 0, 0, 0, 0, .ro, 0, 0, 228, none, 0⟩ -- SESSION_SERVICE
]

/-- Group 05. -/
def cat05 : List OdDef := [
  ⟨0x05001, 0x05001, false, .u8, 1, 1, 1, 0, .ro, 0, 0, 2, none, 0⟩, -- DBG_STATE
  ⟨0x05002, 0x05002, false, .action, 4, 0, 0, 0, .act, 0, 0, 0, none, 0⟩, -- DBG_OPEN
  ⟨0x05003, 0x05003, false, .action, 4, 4, 0, 0, .act, 0, 0, 0, none, 0⟩, -- DBG_CLOSE
  ⟨0x05004, 0x05004, false, .blob, 1, 1, 0, 0, .ro, 0, 32, 32, none, 0⟩, -- DBG_NONCE
  ⟨0x05005, 0x05005, false, .action, 4, 4, 0, 0, .act, 0, 3, 250, none, 0⟩, -- DBG_TOKEN_CHUNK
  ⟨0x05006, 0x05006, false, .action, 4, 4, 0, 0, .act, 0, 0, 0, none, 0⟩, -- DBG_FULL_ENTER
  ⟨0x05007, 0x05007, false, .u32, 1, 1, 0, 0, .count, 0, 0, 4294967295, none, 0⟩ -- TAP_REFUSED
]

/-- Group 06. -/
def cat06 : List OdDef := [
  ⟨0x06001, 0x06001, false, .u8, 1, 1, 0, 0, .ro, 0, 0, 2, none, 0⟩, -- T1S_STATE
  ⟨0x06010, 0x06010, false, .u8, 3, 3, 0, 1, .rw, 0, 0, 31, none, 1⟩, -- NODE_ID
  ⟨0x06011, 0x06011, false, .u8, 3, 3, 0, 1, .rw, 0, 1, 32, none, 8⟩, -- PLCA_NODES
  ⟨0x06012, 0x06012, false, .u8, 3, 3, 0, 1, .rw, 0, 1, 255, none, 32⟩, -- PLCA_TO_TIMER
  ⟨0x06013, 0x06013, false, .u8, 3, 3, 0, 1, .rw, 0, 0, 8, none, 0⟩, -- PLCA_BURST
  ⟨0x06014, 0x06014, false, .bool, 3, 3, 0, 1, .rw, 0, 0, 1, none, 0⟩, -- TERMINATION
  ⟨0x06015, 0x06015, false, .u64, 1, 1, 0, 2, .ro, 0, 0, 281474976710655, none, 0⟩, -- MAC_ADDR
  ⟨0x06020, 0x06020, false, .bits32, 3, 3, 0, 1, .rw, 0, 0, 3, none, 0⟩, -- INBAND_ENABLE
  ⟨0x06021, 0x06021, false, .u16, 3, 3, 0, 1, .rw, 0, 1024, 65535, none, 58201⟩, -- INBAND_PORT
  ⟨0x06022, 0x06022, false, .u32, 3, 3, 0, 1, .rw, 0, 0, 4294967295, none, 0⟩, -- INBAND_IPV4
  ⟨0x06023, 0x06023, false, .blob, 3, 3, 0, 1, .rw, 0, 16, 16, none, 0⟩, -- INBAND_IPV6
  ⟨0x06024, 0x06024, false, .blob, 3, 3, 0, 1, .rw, 16, 16, 16, none, 0⟩, -- INBAND_PEERS
  ⟨0x06025, 0x06025, false, .u8, 3, 3, 0, 1, .rw, 0, 0, 7, none, 7⟩, -- INBAND_TCL
  ⟨0x06026, 0x06026, false, .u16, 3, 3, 0, 1, .rw, 0, 100, 10000, none, 2000⟩, -- INBAND_RATE
  ⟨0x06030, 0x06030, false, .bool, 3, 3, 0, 1, .rw, 0, 0, 1, none, 1⟩, -- JAM_FALLBACK
  ⟨0x06040, 0x06040, false, .u32, 1, 1, 0, 0, .count, 0, 0, 4294967295, none, 0⟩, -- RX_FRAMES
  ⟨0x06041, 0x06041, false, .u32, 1, 1, 0, 0, .count, 0, 0, 4294967295, none, 0⟩, -- FCS_ERRORS
  ⟨0x06042, 0x06042, false, .u32, 1, 1, 0, 0, .count, 0, 0, 4294967295, none, 0⟩, -- DUPLICATES
  ⟨0x06043, 0x06043, false, .u32, 1, 1, 0, 0, .count, 0, 0, 4294967295, none, 0⟩, -- JAM_ENTRIES
  ⟨0x06044, 0x06044, false, .u32, 1, 1, 0, 0, .count, 0, 0, 4294967295, none, 0⟩, -- TAG_FAILURES
  ⟨0x06045, 0x06045, false, .u32, 1, 1, 0, 0, .count, 0, 0, 4294967295, none, 0⟩ -- INBAND_DROPS
]

/-- Group 08. -/
def cat08 : List OdDef := [
  ⟨0x08001, 0x08001, false, .u8, 1, 1, 0, 0, .ro, 24, 0, 6, none, 0⟩, -- CORE_STATE
  ⟨0x08002, 0x08002, false, .u32, 1, 1, 0, 0, .count, 24, 0, 4294967295, none, 0⟩, -- CORE_EXCEPTIONS
  ⟨0x08003, 0x08003, false, .u32, 1, 1, 0, 0, .ro, 24, 0, 4294967295, none, 0⟩, -- LAST_ECAUSE
  ⟨0x08004, 0x08004, false, .u8, 1, 1, 0, 0, .ro, 3, 0, 23, some 255, 255⟩, -- SPARE_USE
  ⟨0x08010, 0x08010, false, .action, 4, 4, 0, 0, .act, 0, 12, 12, none, 0⟩, -- PROG_FETCH
  ⟨0x08011, 0x08011, false, .action, 4, 4, 0, 0, .act, 0, 5, 252, none, 0⟩, -- PROG_CHUNK
  ⟨0x08012, 0x08012, false, .action, 4, 4, 0, 0, .act, 0, 1, 1, none, 0⟩, -- PROG_START
  ⟨0x08013, 0x08013, false, .action, 4, 4, 0, 0, .act, 0, 1, 1, none, 0⟩, -- PROG_STOP
  ⟨0x08014, 0x08014, false, .action, 4, 4, 0, 0, .act, 0, 0, 0, none, 0⟩, -- PROG_DISCARD
  ⟨0x08015, 0x08015, false, .u8, 1, 1, 0, 0, .ro, 0, 0, 4, none, 0⟩, -- PROG_STATUS
  ⟨0x08020, 0x08020, false, .blob, 3, 1, 0, 1, .rw, 8, 16, 16, none, 0⟩, -- OPEN_RANGES
  ⟨0x08021, 0x08021, false, .u32, 3, 3, 0, 1, .rw, 0, 0, 4294967295, none, 0⟩, -- OPEN_MIN_SECURITY
  ⟨0x08100, 0x08103, false, .blob, 3, 0, 0, 0, .rw, 16, 16, 16, none, 0⟩, -- WINDOWS_T00–T03
  ⟨0x08104, 0x08117, false, .blob, 3, 3, 0, 0, .rw, 16, 16, 16, none, 0⟩ -- WINDOWS_T04–T23
]

/-- Group 10. -/
def cat10 : List OdDef := [
  ⟨0x10001, 0x10001, false, .u64, 1, 1, 0, 0, .ro, 0, 0, 18446744073709551615, none, 0⟩, -- PLATS_ENABLED
  ⟨0x10010, 0x10010, false, .action, 4, 4, 0, 0, .act, 0, 16, 16, none, 0⟩, -- XLATE_INVALIDATE
  ⟨0x10011, 0x10011, false, .u32, 1, 1, 0, 0, .count, 0, 0, 4294967295, none, 0⟩, -- INVAL_COUNT
  ⟨0x10012, 0x10012, false, .u8, 1, 1, 0, 0, .ro, 0, 0, 4, none, 0⟩, -- INVAL_PENDING
  ⟨0x10013, 0x10013, false, .blob, 3, 1, 0, 1, .rw, 0, 16, 16, none, 0⟩, -- TABLE_REGION
  ⟨0x10020, 0x10020, false, .action, 4, 4, 0, 0, .act, 0, 1, 1, none, 0⟩, -- PLAT_ENABLE
  ⟨0x10021, 0x10021, false, .action, 4, 4, 0, 0, .act, 0, 1, 1, none, 0⟩, -- PLAT_DISABLE
  ⟨0x10022, 0x10022, false, .action, 4, 4, 0, 0, .act, 0, 1, 1, none, 0⟩, -- PLAT_RESET
  ⟨0x10030, 0x10030, false, .action, 4, 4, 0, 0, .act, 0, 16, 16, none, 0⟩, -- GRANULE_GRANT
  ⟨0x10031, 0x10031, false, .action, 4, 4, 0, 0, .act, 0, 12, 12, none, 0⟩, -- GRANULE_RECLAIM
  ⟨0x10032, 0x10032, false, .u32, 1, 1, 0, 0, .ro, 6, 0, 4294967295, none, 0⟩, -- GRANULES_FREE
  ⟨0x10040, 0x10040, true, .u8, 1, 1, 1, 0, .ro, 0, 0, 3, none, 0⟩, -- PLAT_STATE
  ⟨0x10080, 0x10080, true, .u8, 3, 3, 1, 1, .rw, 2, 0, 255, none, 0⟩, -- PLAT_PLACE
  ⟨0x100C0, 0x100C0, true, .u64, 3, 3, 0, 1, .rw, 0, 0, 18446744073709551615, none, 0⟩, -- PLAT_ROOT
  ⟨0x10100, 0x10100, true, .u32, 1, 1, 1, 0, .ro, 0, 0, 4294967295, none, 0⟩, -- PLAT_EPOCH
  ⟨0x10140, 0x10140, true, .blob, 1, 1, 1, 0, .ro, 0, 32, 32, none, 0⟩, -- PLAT_FAULT
  ⟨0x10180, 0x10180, true, .u32, 1, 1, 1, 0, .count, 4, 0, 4294967295, none, 0⟩, -- PLAT_COUNTERS
  ⟨0x101C0, 0x101C0, true, .u32, 1, 1, 1, 0, .ro, 6, 0, 4294967295, none, 0⟩ -- PLAT_GRANULES
]

/-- Group 11. -/
def cat11 : List OdDef := [
  ⟨0x11001, 0x11001, false, .u16, 1, 1, 1, 2, .ro, 4, 0, 65535, none, 0⟩, -- PCI_IDS
  ⟨0x11002, 0x11002, false, .u8, 3, 3, 0, 1, .rw, 2, 0, 1, none, 0⟩, -- HOST_BIFURCATION
  ⟨0x11003, 0x11003, false, .u32, 1, 1, 0, 0, .ro, 4, 0, 4294967295, none, 0⟩, -- HOST_LINK
  ⟨0x11004, 0x11004, false, .u8, 3, 3, 0, 1, .rw, 2, 1, 6, none, 6⟩, -- HOST_MAX_RATE
  ⟨0x11010, 0x11010, false, .u8, 1, 1, 0, 0, .ro, 4, 0, 64, none, 0⟩, -- VFS_ENABLED
  ⟨0x11020, 0x11020, false, .bits32, 3, 3, 0, 1, .rw, 0, 0, 255, none, 255⟩, -- SSD_PORT_ENABLE
  ⟨0x11021, 0x11021, false, .u32, 1, 1, 0, 0, .ro, 8, 0, 4294967295, none, 0⟩, -- SSD_LINK
  ⟨0x11030, 0x11030, false, .bits32, 3, 3, 0, 1, .rw, 0, 0, 15, none, 15⟩, -- FAR_PORT_ENABLE
  ⟨0x11031, 0x11031, false, .u32, 1, 1, 0, 0, .ro, 4, 0, 4294967295, none, 0⟩, -- FAR_LINK
  ⟨0x11032, 0x11032, false, .u64, 1, 1, 0, 0, .ro, 4, 0, 549755813888, none, 0⟩, -- FAR_CAPACITY
  ⟨0x11040, 0x11040, false, .u32, 1, 1, 0, 0, .count, 16, 0, 4294967295, none, 0⟩, -- CORRECTABLE_ERRORS
  ⟨0x11041, 0x11041, false, .u32, 1, 1, 0, 0, .count, 16, 0, 4294967295, none, 0⟩, -- UNCORRECTABLE_ERRORS
  ⟨0x11050, 0x11050, false, .u32, 1, 1, 0, 0, .count, 4, 0, 4294967295, none, 0⟩, -- DOORBELL_DISCARDS
  ⟨0x11051, 0x11051, false, .u32, 1, 1, 0, 0, .count, 4, 0, 4294967295, none, 0⟩, -- BAR_DISCARDS
  ⟨0x11052, 0x11052, false, .u32, 1, 1, 0, 0, .count, 8, 0, 4294967295, none, 0⟩, -- SSD_STRAY
  ⟨0x11060, 0x11060, false, .u32, 1, 1, 0, 0, .count, 16, 0, 4294967295, none, 0⟩ -- LINK_DOWNS
]

/-- Group 20. -/
def cat20 : List OdDef := [
  ⟨0x20001, 0x20001, false, .u8, 3, 3, 0, 1, .rw, 2, 0, 3, none, 0⟩, -- BREAKOUT
  ⟨0x20002, 0x20002, false, .u8, 3, 3, 0, 1, .rw, 2, 0, 2, none, 0⟩, -- MEDIUM
  ⟨0x20003, 0x20003, false, .bits32, 3, 3, 0, 1, .rw, 0, 0, 65535, none, 65535⟩, -- SUBPORT_ENABLE
  ⟨0x20004, 0x20004, false, .bits32, 3, 3, 0, 1, .rw, 2, 0, 255, none, 0⟩, -- TX_POLARITY
  ⟨0x20005, 0x20005, false, .u32, 1, 1, 0, 0, .ro, 16, 0, 4294967295, none, 0⟩, -- ETH_LINK
  ⟨0x20010, 0x20010, false, .u16, 3, 3, 0, 1, .rw, 16, 1518, 9216, none, 9216⟩, -- MAX_FRAME
  ⟨0x20011, 0x20011, false, .bits32, 3, 3, 0, 1, .rw, 0, 0, 65535, none, 65535⟩, -- CUT_THROUGH
  ⟨0x20012, 0x20012, false, .u32, 3, 3, 0, 1, .rw, 0, 1, 1000000, none, 10⟩, -- FEC_DEGRADE_LIMIT
  ⟨0x20013, 0x20013, false, .u64, 1, 1, 0, 2, .ro, 16, 0, 281474976710655, none, 0⟩, -- ETH_MAC
  ⟨0x20014, 0x20014, false, .u32, 3, 3, 0, 1, .rw, 16, 0, 4294967295, none, 0⟩, -- ETH_IPV4
  ⟨0x20015, 0x20015, false, .blob, 3, 3, 0, 1, .rw, 16, 16, 16, none, 0⟩, -- ETH_IPV6
  ⟨0x20016, 0x20016, false, .u16, 3, 3, 0, 1, .rw, 16, 0, 4094, none, 0⟩, -- ETH_VID
  ⟨0x20020, 0x20020, false, .u8, 3, 3, 0, 1, .rw, 16, 0, 1, none, 1⟩, -- CLASS_MODE
  ⟨0x20021, 0x20021, false, .bits32, 3, 3, 0, 1, .rw, 16, 0, 16777215, none, 16434824⟩, -- PCP_MAP
  ⟨0x20022, 0x20022, false, .u8, 3, 3, 0, 1, .rw, 64, 0, 7, none, 0⟩, -- DSCP_MAP
  ⟨0x20023, 0x20023, false, .u8, 3, 3, 0, 1, .rw, 16, 0, 7, none, 0⟩, -- DEFAULT_TCL
  ⟨0x20024, 0x20024, false, .u8, 3, 3, 0, 1, .rw, 8, 0, 7, none, 0⟩, -- TX_PCP
  ⟨0x20030, 0x20030, false, .bits32, 3, 3, 0, 1, .rw, 16, 0, 65535, none, 0⟩, -- PFC_ENABLE
  ⟨0x20031, 0x20031, false, .u32, 3, 3, 0, 1, .rw, 0, 16384, 4194304, none, 262144⟩, -- PFC_XOFF
  ⟨0x20032, 0x20032, false, .u32, 3, 3, 0, 1, .rw, 0, 8192, 4194304, none, 131072⟩, -- PFC_XON
  ⟨0x20040, 0x20040, false, .u8, 3, 3, 0, 1, .rw, 16, 0, 3, none, 0⟩, -- PTP_ROLE
  ⟨0x20041, 0x20041, false, .u8, 1, 1, 0, 0, .ro, 16, 0, 6, none, 0⟩, -- PTP_STATE
  ⟨0x20042, 0x20042, false, .u8, 3, 3, 0, 1, .rw, 0, 0, 127, none, 0⟩, -- PTP_DOMAIN
  ⟨0x20043, 0x20043, false, .u8, 3, 3, 0, 1, .rw, 16, 0, 2, none, 0⟩, -- PTP_TRANSPORT
  ⟨0x20044, 0x20044, false, .s32, 3, 3, 0, 1, .rw, 16, -1000000, 1000000, none, 0⟩, -- PTP_ASYMMETRY
  ⟨0x20045, 0x20045, false, .u8, 3, 3, 0, 1, .rw, 2, 0, 255, none, 128⟩, -- PTP_PRIORITY
  ⟨0x20046, 0x20046, false, .s64, 1, 1, 0, 0, .ro, 16, -9223372036854775808, 9223372036854775807, none, 0⟩, -- PTP_MEAN_DELAY
  ⟨0x20100, 0x2010F, false, .u64, 1, 1, 0, 0, .count, 19, 0, 18446744073709551615, none, 0⟩ -- PORT_COUNTERS
]

/-- Group 21. -/
def cat21 : List OdDef := [
  ⟨0x21010, 0x21010, false, .u16, 3, 3, 0, 1, .rw, 16, 0, 16383, none, 0⟩, -- INBAND_QUEUE
  ⟨0x21020, 0x21020, false, .u16, 3, 3, 0, 1, .rw, 16, 0, 32767, some 65535, 65535⟩, -- SUBPORT_SHAPER
  ⟨0x21030, 0x21030, false, .u8, 3, 3, 0, 1, .rw, 0, 4, 64, none, 64⟩, -- SAMPLE_PERIOD
  ⟨0x21031, 0x21031, false, .u8, 3, 3, 0, 1, .rw, 0, 0, 15, none, 4⟩, -- EWMA_SHIFT
  ⟨0x21032, 0x21032, false, .action, 4, 4, 0, 0, .act, 0, 4, 4, none, 0⟩, -- SAMPLER_RESET
  ⟨0x21033, 0x21033, false, .u32, 1, 1, 0, 0, .count, 0, 0, 4294967295, none, 0⟩, -- SAMPLER_LATE
  ⟨0x21040, 0x2104F, false, .u32, 1, 1, 0, 0, .count, 128, 0, 4294967295, none, 0⟩, -- TCL_HISTOGRAM
  ⟨0x21050, 0x21050, false, .u64, 1, 1, 0, 0, .count, 16, 0, 18446744073709551615, none, 0⟩, -- TM_DROPS
  ⟨0x21080, 0x2108F, false, .blob, 3, 3, 0, 1, .rw, 8, 8, 8, none, 0⟩, -- TCL_NODES
  ⟨0x21100, 0x2117F, false, .blob, 3, 3, 0, 1, .rw, 16, 16, 16, none, 0⟩, -- GROUPS
  ⟨0x21400, 0x217FF, false, .blob, 3, 3, 0, 1, .rw, 16, 16, 16, none, 0⟩, -- QUEUES
  ⟨0x21800, 0x21BFF, false, .blob, 1, 1, 0, 0, .ro, 16, 40, 40, none, 0⟩ -- QUEUE_SAMPLES
]

/-- Group 22. -/
def cat22 : List OdDef := [
  ⟨0x22010, 0x22010, false, .u8, 3, 3, 0, 1, .rw, 64, 0, 2, none, 0⟩, -- DSCP_COLOUR
  ⟨0x22011, 0x22011, false, .u8, 3, 3, 0, 1, .rw, 16, 0, 2, none, 0⟩, -- PCPDEI_COLOUR
  ⟨0x22020, 0x22020, false, .u16, 3, 3, 0, 1, .rw, 128, 0, 16383, some 65535, 65535⟩, -- CLASS_METER
  ⟨0x22030, 0x22030, false, .u32, 3, 3, 0, 1, .rw, 2, 0, 16777216, none, 8388608⟩, -- YELLOW_LIMIT
  ⟨0x22400, 0x227FF, false, .blob, 3, 3, 0, 1, .rw, 16, 32, 32, none, 0⟩, -- METERS
  ⟨0x22800, 0x22BFF, false, .blob, 1, 1, 0, 0, .ro, 16, 32, 32, none, 0⟩ -- METER_STATS
]

/-- Group 23. -/
def cat23 : List OdDef := [
  ⟨0x23010, 0x23010, false, .u32, 1, 1, 0, 0, .ro, 2, 0, 262144, none, 0⟩, -- PACE_IN_USE
  ⟨0x23011, 0x23011, false, .u32, 1, 1, 0, 0, .count, 0, 0, 4294967295, none, 0⟩, -- WHEEL_LATE_SLOTS
  ⟨0x23800, 0x23FFF, false, .blob, 3, 3, 0, 1, .rw, 16, 32, 32, none, 0⟩ -- SHAPERS
]

/-- Group 24. -/
def cat24 : List OdDef := [
  ⟨0x24001, 0x24001, false, .u32, 1, 1, 1, 2, .ro, 0, 0, 4294967295, none, 19⟩, -- RDMA_CAPS
  ⟨0x24002, 0x24002, false, .u32, 1, 1, 0, 0, .ro, 2, 0, 4294967295, none, 0⟩, -- QP_IN_USE
  ⟨0x24010, 0x24010, false, .action, 4, 4, 4, 0, .act, 0, 96, 96, none, 0⟩, -- QP_MODIFY
  ⟨0x24011, 0x24011, false, .action, 4, 4, 4, 0, .act, 0, 4, 4, none, 0⟩, -- QP_QUERY
  ⟨0x24012, 0x24012, false, .action, 4, 4, 4, 0, .act, 0, 16, 16, none, 0⟩, -- CQ_CREATE
  ⟨0x24013, 0x24013, false, .action, 4, 4, 4, 0, .act, 0, 2, 2, none, 0⟩, -- CQ_DESTROY
  ⟨0x24014, 0x24014, false, .action, 4, 4, 4, 0, .act, 0, 24, 24, none, 0⟩, -- MR_REGISTER
  ⟨0x24015, 0x24015, false, .action, 4, 4, 4, 0, .act, 0, 4, 4, none, 0⟩, -- MR_DEREGISTER
  ⟨0x24020, 0x24020, false, .blob, 3, 3, 0, 1, .rw, 16, 40, 40, none, 0⟩, -- CC_PROFILE
  ⟨0x24030, 0x24030, false, .u64, 1, 1, 0, 0, .count, 8, 0, 18446744073709551615, none, 0⟩, -- RDMA_COUNTERS
  ⟨0x24040, 0x24040, true, .blob, 3, 3, 1, 1, .rw, 0, 32, 32, none, 0⟩, -- PLAT_RDMA
  ⟨0x24080, 0x24080, true, .u64, 1, 1, 1, 0, .count, 8, 0, 18446744073709551615, none, 0⟩, -- PLAT_RDMA_STATS
  ⟨0x240C0, 0x240C0, true, .blob, 1, 1, 1, 0, .ro, 0, 64, 64, none, 0⟩ -- QP_QUERY_RESULT
]

/-- Group 25. -/
def cat25 : List OdDef := [
  ⟨0x25001, 0x25001, false, .u64, 1, 1, 0, 0, .count, 8, 0, 18446744073709551615, none, 0⟩, -- ESP_COUNTERS
  ⟨0x25010, 0x25010, false, .action, 4, 4, 4, 0, .act, 0, 64, 64, none, 0⟩, -- SA_ADD
  ⟨0x25011, 0x25011, false, .action, 4, 4, 4, 0, .act, 0, 4, 4, none, 0⟩, -- SA_DELETE
  ⟨0x25040, 0x25040, true, .u32, 3, 3, 1, 1, .rw, 2, 0, 65536, none, 0⟩, -- PLAT_SA_RANGE
  ⟨0x25080, 0x25080, true, .u64, 1, 1, 1, 0, .count, 8, 0, 18446744073709551615, none, 0⟩ -- PLAT_ESP_STATS
]

/-- Group 30. -/
def cat30 : List OdDef := [
  ⟨0x30010, 0x30010, false, .action, 4, 4, 4, 0, .act, 0, 24, 24, none, 0⟩, -- SQ_CREATE
  ⟨0x30011, 0x30011, false, .action, 4, 4, 4, 0, .act, 0, 2, 2, none, 0⟩, -- SQ_DELETE
  ⟨0x30020, 0x30020, false, .u32, 3, 3, 0, 1, .rw, 0, 100, 600000, none, 10000⟩, -- SSD_TIMEOUT
  ⟨0x30021, 0x30021, false, .u8, 3, 3, 0, 1, .rw, 0, 1, 32, none, 16⟩, -- SSD_IO_QUEUES
  ⟨0x30022, 0x30022, false, .u8, 1, 1, 0, 0, .ro, 8, 0, 3, none, 0⟩, -- SSD_STATE
  ⟨0x30030, 0x30030, false, .blob, 3, 3, 0, 1, .rw, 16, 240, 240, none, 0⟩, -- REMOTE_TARGET
  ⟨0x30031, 0x30031, false, .action, 4, 4, 0, 0, .act, 0, 1, 1, none, 0⟩, -- REMOTE_ATTACH
  ⟨0x30032, 0x30032, false, .action, 4, 4, 0, 0, .act, 0, 1, 1, none, 0⟩, -- REMOTE_DETACH
  ⟨0x30033, 0x30033, false, .u8, 1, 1, 0, 0, .ro, 16, 0, 2, none, 0⟩, -- REMOTE_STATE
  ⟨0x30040, 0x30040, true, .blob, 3, 3, 1, 1, .rw, 0, 16, 16, none, 0⟩, -- PLAT_STORAGE
  ⟨0x30050, 0x30050, false, .u64, 1, 1, 0, 0, .count, 7, 0, 18446744073709551615, none, 0⟩, -- STORAGE_COUNTERS
  ⟨0x30080, 0x30080, true, .u64, 1, 1, 1, 0, .count, 27, 0, 18446744073709551615, none, 0⟩, -- PLAT_STORAGE_STATS
  ⟨0x30400, 0x3043F, false, .blob, 3, 3, 0, 1, .rw, 16, 32, 32, none, 0⟩, -- NS_RECORDS
  ⟨0x30440, 0x3047F, false, .u8, 1, 1, 0, 0, .ro, 16, 0, 3, none, 0⟩, -- NS_STATE
  ⟨0x30800, 0x308FF, false, .blob, 1, 1, 0, 0, .ro, 16, 40, 40, none, 0⟩ -- STORAGE_SAMPLES
]

/-- Group 31. -/
def cat31 : List OdDef := [
  ⟨0x31010, 0x31010, false, .bool, 3, 3, 0, 1, .rw, 0, 0, 1, none, 0⟩, -- FORCE_M
  ⟨0x31011, 0x31011, false, .u8, 3, 3, 0, 1, .rw, 0, 0, 1, none, 0⟩, -- ESP_SC_MODE
  ⟨0x31012, 0x31012, false, .u8, 3, 3, 0, 1, .rw, 0, 0, 1, none, 0⟩, -- ESP_CHECK
  ⟨0x31020, 0x31020, false, .u8, 3, 3, 0, 0, .rw, 16, 0, 23, some 255, 255⟩, -- QUEUE_CORE
  ⟨0x31021, 0x31021, false, .u32, 3, 3, 0, 0, .rw, 16, 0, 4294967295, none, 0⟩, -- QUEUE_AREA
  ⟨0x31030, 0x31030, false, .u16, 3, 3, 0, 1, .rw, 2, 1, 64, none, 1⟩, -- SCHED_WEIGHT
  ⟨0x31040, 0x31040, false, .u8, 1, 1, 0, 0, .ro, 8, 0, 3, none, 0⟩, -- CLUSTER_STATE
  ⟨0x31041, 0x31041, false, .u8, 1, 1, 0, 0, .ro, 8, 0, 8, none, 8⟩, -- CLUSTER_PAIRS
  ⟨0x31042, 0x31042, false, .action, 4, 4, 0, 0, .act, 0, 1, 1, none, 0⟩, -- CLUSTER_GATE
  ⟨0x31050, 0x31050, false, .u64, 1, 1, 0, 0, .count, 8, 0, 18446744073709551615, none, 0⟩, -- CIPHER_COUNTERS
  ⟨0x31080, 0x31080, true, .u64, 1, 1, 1, 0, .count, 4, 0, 18446744073709551615, none, 0⟩ -- PLAT_CIPHER_STATS
]

/-- Group 40. -/
def cat40 : List OdDef := [
  ⟨0x40001, 0x40001, false, .u64, 1, 1, 0, 2, .ro, 4, 0, 18446744073709551615, none, 0⟩, -- NEAR_LAYOUT
  ⟨0x40002, 0x40002, false, .u32, 1, 1, 0, 0, .ro, 0, 0, 5728, none, 5728⟩, -- REMAP_LEFT
  ⟨0x40003, 0x40003, false, .u32, 1, 1, 0, 0, .count, 0, 0, 4294967295, none, 0⟩, -- NEAR_REMAPS
  ⟨0x40004, 0x40004, false, .u32, 1, 1, 0, 0, .ro, 0, 0, 91552, none, 0⟩, -- NEAR_RETIRED
  ⟨0x40010, 0x40010, false, .u16, 3, 3, 0, 1, .rw, 0, 4, 168, none, 24⟩, -- SCRUB_PERIOD
  ⟨0x40011, 0x40011, false, .u32, 1, 1, 0, 0, .count, 0, 0, 4294967295, none, 0⟩, -- SCRUB_PASSES
  ⟨0x40012, 0x40012, false, .u32, 1, 1, 0, 0, .count, 10, 0, 4294967295, none, 0⟩, -- ECC_COUNTS
  ⟨0x40020, 0x40020, false, .bool, 3, 3, 0, 1, .rw, 0, 0, 1, none, 1⟩, -- PREVENTIVE_MIGRATE
  ⟨0x40021, 0x40021, false, .u16, 3, 3, 0, 1, .rw, 0, 8, 65535, none, 64⟩, -- PREVENTIVE_CE
  ⟨0x40030, 0x40030, false, .blob, 3, 3, 0, 1, .rw, 16, 16, 16, none, 0⟩, -- PIN_RANGES
  ⟨0x40040, 0x40040, false, .u16, 1, 1, 0, 0, .ro, 8, 0, 65535, none, 0⟩, -- PPR_SPARES
  ⟨0x40041, 0x40041, false, .u16, 1, 1, 0, 0, .ro, 8, 0, 65535, none, 0⟩ -- PPR_PENDING
]

/-- Group 41. -/
def cat41 : List OdDef := [
  ⟨0x41010, 0x41010, false, .u8, 3, 3, 0, 1, .rw, 0, 0, 15, none, 8⟩, -- KEEP_WAYS
  ⟨0x41020, 0x41020, false, .u64, 1, 1, 0, 0, .count, 5, 0, 18446744073709551615, none, 0⟩, -- CACHE_STATS
  ⟨0x41030, 0x41030, false, .u32, 1, 1, 0, 0, .count, 3, 0, 4294967295, none, 0⟩, -- CACHE_ECC
  ⟨0x41040, 0x41040, true, .bits32, 3, 3, 1, 1, .rw, 0, 0, 7, none, 7⟩, -- PLAT_HINT_MASK
  ⟨0x41080, 0x41080, true, .u64, 1, 1, 1, 0, .count, 3, 0, 18446744073709551615, none, 0⟩ -- PLAT_CACHE_STATS
]

/-- Group 50. -/
def cat50 : List OdDef := [
  ⟨0x50001, 0x50001, false, .u8, 1, 1, 0, 0, .ro, 16, 0, 4, none, 0⟩, -- ARRAY_STATE
  ⟨0x50002, 0x50002, false, .u16, 1, 1, 0, 0, .ro, 16, 0, 65535, none, 1032⟩, -- ARRAY_SPARES
  ⟨0x50003, 0x50003, false, .u64, 1, 1, 0, 0, .count, 16, 0, 18446744073709551615, none, 0⟩, -- ARRAY_JOBS
  ⟨0x50004, 0x50004, false, .u64, 1, 1, 0, 0, .count, 16, 0, 18446744073709551615, none, 0⟩, -- ARRAY_STREAM_STEPS
  ⟨0x50005, 0x50005, false, .u8, 1, 1, 0, 0, .ro, 4, 0, 4, none, 0⟩, -- VECTOR_STATE
  ⟨0x50006, 0x50006, false, .u64, 1, 1, 0, 0, .count, 4, 0, 18446744073709551615, none, 0⟩, -- VECTOR_JOBS
  ⟨0x50010, 0x50010, false, .u32, 1, 1, 0, 0, .count, 11, 0, 4294967295, none, 0⟩, -- JOB_STATUS_COUNTS
  ⟨0x50011, 0x50011, false, .u32, 1, 1, 0, 0, .count, 3, 0, 4294967295, none, 0⟩, -- NUMERIC_FLAG_COUNTS
  ⟨0x50080, 0x50080, true, .u64, 1, 1, 1, 0, .count, 4, 0, 18446744073709551615, none, 0⟩ -- PLAT_ARRAY_STATS
]

/-- Group 51. -/
def cat51 : List OdDef := [
  ⟨0x51020, 0x51020, false, .u64, 1, 1, 0, 0, .count, 4, 0, 18446744073709551615, none, 0⟩, -- SIG_COUNTERS
  ⟨0x51030, 0x51030, false, .u16, 1, 1, 0, 0, .ro, 5, 0, 408, none, 0⟩, -- WAITERS_ARMED
  ⟨0x51040, 0x5104B, false, .blob, 3, 3, 0, 1, .rw, 16, 32, 32, none, 0⟩, -- DQ_CONFIG
  ⟨0x51050, 0x51050, false, .action, 4, 4, 0, 0, .act, 0, 1, 1, none, 0⟩, -- DQ_FLUSH
  ⟨0x51060, 0x5106B, false, .u8, 1, 1, 0, 0, .ro, 16, 0, 3, none, 0⟩, -- DQ_STATE
  ⟨0x51100, 0x511FF, false, .u8, 3, 3, 0, 0, .rw, 16, 0, 63, some 255, 255⟩, -- SIG_OWNER
  ⟨0x51200, 0x51200, true, .u64, 3, 3, 0, 0, .rw, 128, 0, 18446744073709551615, none, 0⟩, -- PLAT_DB_BIND
  ⟨0x51240, 0x51240, false, .u64, 3, 3, 0, 0, .rw, 128, 0, 18446744073709551615, none, 0⟩, -- PF0_DB_BIND
  ⟨0x51300, 0x5130F, false, .blob, 3, 3, 0, 1, .rw, 16, 16, 16, none, 0⟩, -- SIG_COUPLE
  ⟨0x51400, 0x514FF, false, .u64, 1, 1, 0, 0, .ro, 16, 0, 18446744073709551615, none, 0⟩, -- SIG_VALUE
  ⟨0x51500, 0x5150F, false, .blob, 3, 3, 0, 0, .rw, 16, 64, 64, none, 0⟩ -- TRIGGERS
]

/-- Group 52. -/
def cat52 : List OdDef := [
  ⟨0x52001, 0x52001, false, .u8, 1, 1, 0, 0, .ro, 16, 0, 3, none, 0⟩, -- DECODE_STATE
  ⟨0x52010, 0x52010, false, .u64, 1, 1, 0, 0, .count, 8, 0, 18446744073709551615, none, 0⟩, -- DECODE_COUNTERS
  ⟨0x52020, 0x52020, false, .u8, 3, 3, 0, 1, .rw, 0, 1, 3, none, 2⟩, -- DEFAULT_MATRIX
  ⟨0x52021, 0x52021, false, .u8, 3, 3, 0, 1, .rw, 0, 1, 2, none, 1⟩, -- DEFAULT_RANGE
  ⟨0x52022, 0x52022, false, .bool, 3, 3, 0, 1, .rw, 0, 0, 1, none, 0⟩, -- SKIP_EVENTS
  ⟨0x52080, 0x52080, true, .u64, 1, 1, 1, 0, .count, 8, 0, 18446744073709551615, none, 0⟩, -- PLAT_DECODE_STATS
  ⟨0x52100, 0x52103, false, .blob, 3, 3, 0, 1, .rw, 16, 48, 48, none, 0⟩ -- PROC_PROFILES
]

/-- Group 53. -/
def cat53 : List OdDef := [
  ⟨0x53010, 0x53010, false, .blob, 3, 3, 0, 1, .rw, 8, 16, 16, none, 0⟩, -- CLASS_CONFIG
  ⟨0x53020, 0x53020, false, .u32, 1, 1, 0, 0, .ro, 3, 0, 65536, none, 0⟩, -- SIDING_USED
  ⟨0x53021, 0x53021, false, .u64, 1, 1, 0, 0, .count, 8, 0, 18446744073709551615, none, 0⟩, -- SERVING_COUNTERS
  ⟨0x53030, 0x53037, false, .blob, 1, 1, 0, 0, .ro, 0, 40, 40, none, 0⟩, -- CLASS_SAMPLES
  ⟨0x53038, 0x53038, false, .u32, 1, 1, 0, 0, .count, 128, 0, 4294967295, none, 0⟩, -- CLASS_HISTOGRAM
  ⟨0x53040, 0x53040, true, .blob, 3, 3, 1, 1, .rw, 0, 48, 48, none, 0⟩, -- PLAT_SERVING
  ⟨0x53080, 0x53080, true, .u64, 1, 1, 1, 0, .count, 5, 0, 18446744073709551615, none, 0⟩, -- PLAT_SERVING_STATS
  ⟨0x53400, 0x53400, false, .blob, 3, 3, 0, 1, .rw, 64, 64, 64, none, 0⟩, -- MODELS
  ⟨0x53401, 0x53401, false, .u16, 1, 1, 0, 0, .ro, 64, 0, 65535, none, 0⟩ -- MODEL_STATE
]

/-- Group 54. -/
def cat54 : List OdDef := [
  ⟨0x54001, 0x54001, false, .u8, 1, 1, 0, 0, .ro, 0, 0, 4, none, 0⟩, -- LOAD_STATE
  ⟨0x54002, 0x54002, false, .u64, 1, 1, 0, 0, .ro, 0, 0, 18446744073709551615, none, 0⟩, -- LOAD_PROGRESS
  ⟨0x54003, 0x54003, false, .u64, 1, 1, 0, 0, .ro, 0, 0, 18446744073709551615, none, 0⟩, -- LOAD_RESULT
  ⟨0x54010, 0x54010, false, .action, 4, 4, 0, 0, .act, 0, 8, 8, none, 0⟩, -- WEIGHT_LOAD
  ⟨0x54011, 0x54011, false, .action, 4, 4, 0, 0, .act, 0, 0, 0, none, 0⟩, -- WEIGHT_ABORT
  ⟨0x54012, 0x54012, false, .u16, 3, 3, 0, 1, .rw, 0, 1, 256, none, 64⟩, -- LOAD_DEPTH
  ⟨0x54013, 0x54013, false, .u32, 3, 3, 0, 1, .rw, 0, 10, 60000, none, 1000⟩, -- PEER_WAIT
  ⟨0x54020, 0x54020, false, .u64, 1, 1, 0, 0, .count, 6, 0, 18446744073709551615, none, 0⟩, -- LOAD_COUNTERS
  ⟨0x54040, 0x54040, false, .blob, 3, 3, 0, 1, .rw, 16, 32, 32, none, 0⟩, -- WEIGHT_BANKS
  ⟨0x54041, 0x54041, false, .u8, 1, 1, 0, 0, .ro, 16, 0, 3, none, 0⟩, -- BANK_STATE
  ⟨0x54400, 0x544FF, false, .blob, 3, 3, 0, 1, .rw, 16, 32, 32, none, 0⟩, -- ADDITIONS
  ⟨0x54500, 0x54500, false, .u16, 1, 1, 0, 0, .ro, 0, 0, 4096, none, 0⟩ -- ADDITIONS_RESIDENT
]

/-- Group 60. -/
def cat60 : List OdDef := [
  ⟨0x60001, 0x60001, false, .u32, 3, 3, 0, 1, .rw, 0, 0, 4294967295, none, 0⟩, -- CONSIST_ID
  ⟨0x60002, 0x60002, false, .u8, 3, 3, 0, 1, .rw, 0, 0, 15, none, 0⟩, -- ORDINAL
  ⟨0x60003, 0x60003, false, .u8, 3, 3, 0, 1, .rw, 0, 0, 3, none, 0⟩, -- TOPOLOGY
  ⟨0x60004, 0x60004, false, .u8, 3, 3, 0, 1, .rw, 2, 2, 4, none, 2⟩, -- TORUS_DIMS
  ⟨0x60005, 0x60005, false, .bits32, 3, 3, 0, 1, .rw, 0, 0, 65535, none, 1⟩, -- MEMBERS
  ⟨0x60010, 0x60010, false, .u16, 3, 3, 0, 1, .rw, 8, 0, 65535, none, 0⟩, -- LINK_MAP
  ⟨0x60011, 0x60011, false, .u8, 1, 1, 0, 0, .ro, 8, 0, 4, none, 0⟩, -- LINK_STATE
  ⟨0x60012, 0x60012, false, .u16, 1, 1, 0, 0, .ro, 8, 0, 65535, none, 18056⟩, -- LANE_MAP
  ⟨0x60014, 0x60014, false, .u32, 3, 3, 0, 1, .rw, 0, 16, 1000000, none, 4096⟩, -- LANE_CE_LIMIT
  ⟨0x60020, 0x60027, false, .u64, 1, 1, 0, 0, .count, 8, 0, 18446744073709551615, none, 0⟩, -- LINK_COUNTERS
  ⟨0x60030, 0x60030, false, .u32, 3, 3, 0, 1, .rw, 16, 0, 4294967295, none, 0⟩, -- ROUTES
  ⟨0x60031, 0x60031, false, .bits32, 1, 1, 0, 0, .ro, 0, 0, 65535, none, 0⟩, -- REACHABLE
  ⟨0x60032, 0x60032, false, .u32, 3, 3, 0, 1, .rw, 0, 10, 60000, none, 100⟩, -- MEMBER_TIMEOUT
  ⟨0x60040, 0x60040, false, .action, 4, 4, 0, 0, .act, 0, 0, 0, none, 0⟩, -- CONSIST_LEAVE
  ⟨0x60041, 0x60041, false, .u8, 1, 1, 0, 0, .ro, 16, 0, 3, none, 3⟩, -- MEMBER_STATE
  ⟨0x60042, 0x60042, false, .bool, 1, 1, 0, 0, .ro, 0, 0, 1, none, 0⟩, -- LEFT_CONSIST
  ⟨0x60050, 0x60050, false, .blob, 3, 1, 0, 1, .rw, 8, 16, 16, none, 0⟩, -- INBOUND_RANGES
  ⟨0x60060, 0x60060, false, .blob, 3, 3, 0, 1, .rw, 64, 16, 16, none, 0⟩, -- SPLIT
  ⟨0x60070, 0x60070, false, .blob, 3, 3, 0, 1, .rw, 32, 20, 20, none, 0⟩, -- RELAY_GROUPS
  ⟨0x60080, 0x60080, false, .u8, 3, 3, 0, 0, .rw, 16, 0, 23, some 255, 255⟩, -- RELAY_QUEUE_CORE
  ⟨0x60081, 0x60081, false, .u32, 3, 3, 0, 0, .rw, 16, 0, 4294967295, none, 0⟩, -- RELAY_QUEUE_AREA
  ⟨0x60090, 0x60090, false, .u64, 1, 1, 0, 0, .count, 7, 0, 18446744073709551615, none, 0⟩, -- RELAY_COUNTERS
  ⟨0x60100, 0x60100, true, .u64, 1, 1, 1, 0, .count, 3, 0, 18446744073709551615, none, 0⟩ -- PLAT_RELAY_STATS
]

/-- Group 70. -/
def cat70 : List OdDef := [
  ⟨0x70001, 0x70001, false, .u32, 1, 1, 0, 0, .ro, 0, 0, 4294967295, none, 0⟩, -- FAULT_HEAD
  ⟨0x70002, 0x70002, false, .blob, 1, 1, 0, 0, .ro, 0, 65536, 65536, none, 0⟩, -- FAULT_LOG
  ⟨0x70003, 0x70003, false, .u32, 1, 1, 0, 0, .count, 4, 0, 4294967295, none, 0⟩, -- FAULT_COUNTS
  ⟨0x70010, 0x70010, false, .u8, 3, 3, 0, 1, .rw, 14, 0, 255, none, 0⟩, -- TRANSIENT_THRESHOLD
  ⟨0x70011, 0x70011, false, .u16, 3, 3, 0, 1, .rw, 5, 1, 65535, none, 0⟩, -- CE_TRIGGER
  ⟨0x70020, 0x70020, false, .u32, 1, 1, 0, 0, .count, 5, 0, 4294967295, none, 0⟩, -- TESTS
  ⟨0x70021, 0x70021, false, .u16, 1, 1, 0, 0, .ro, 0, 0, 65535, none, 0⟩, -- FENCED_NOW
  ⟨0x70030, 0x70030, false, .action, 4, 4, 0, 0, .act, 0, 2, 2, none, 0⟩, -- UNIT_QUERY
  ⟨0x70031, 0x70031, false, .blob, 1, 1, 0, 0, .ro, 0, 16, 16, none, 0⟩, -- UNIT_INFO
  ⟨0x70040, 0x70040, false, .u16, 1, 1, 0, 0, .ro, 0, 0, 256, none, 0⟩, -- REPAIR_STORE_USED
  ⟨0x70080, 0x70080, true, .u32, 1, 1, 1, 0, .count, 4, 0, 4294967295, none, 0⟩ -- PLAT_FAULT_COUNTS
]

/-- The rows of a group (Table 3-8); none for a group not listed (R72). -/
def catalogue (g : Nat) : List OdDef :=
  match g with
  | 0x00 => cat00
  | 0x01 => cat01
  | 0x02 => cat02
  | 0x03 => cat03
  | 0x04 => cat04
  | 0x05 => cat05
  | 0x06 => cat06
  | 0x08 => cat08
  | 0x10 => cat10
  | 0x11 => cat11
  | 0x20 => cat20
  | 0x21 => cat21
  | 0x22 => cat22
  | 0x23 => cat23
  | 0x24 => cat24
  | 0x25 => cat25
  | 0x30 => cat30
  | 0x31 => cat31
  | 0x40 => cat40
  | 0x41 => cat41
  | 0x50 => cat50
  | 0x51 => cat51
  | 0x52 => cat52
  | 0x53 => cat53
  | 0x54 => cat54
  | 0x60 => cat60
  | 0x70 => cat70
  | _ => []

end Sys2Proof.Machine
end

