-- ==== Sys2Proof/Machine/PartsA.lean ====
section
/-! DEFINITION. Parts of the state of chapters 02 to 07 of spec/: timebase, object store machinery, field network, energy,
reset and bring-up, security. Every object of the Object Dictionary is held once, in the object store; these parts hold
what no object shows. -/
namespace Sys2Proof.Machine

/-- The value of an object's subindex: a number (two's complement for S32, S64) or bytes (STR, BLOB). -/
inductive OdVal where
  | num (n : Nat)
  | bytes (b : Bytes)
deriving DecidableEq, Repr

/-- An event record (03 Table 3-6a). -/
structure Event where
  seq : Nat
  time : Nat
  code : Nat
  cls : Nat
  sealedOnly : Bool
  obj : Nat
  objSub : Nat
  plat : Nat
  unit : Nat
  arg : Nat
deriving DecidableEq, Repr

/-- An answer of a service (04 Table 4-2): status, failing entry (0xFF none), entries. -/
structure Answer where
  status : Nat
  fail : Nat
  es : List Entry
deriving DecidableEq, Repr

/-- The timebase island (02 R50 to R59). -/
structure Timebase where
  /-- running time, ns (R54) -/
  ns : Nat
  /-- its 16-bit fraction (R12) -/
  frac : Nat
  /-- remainder of the rate adjustment, in 10^-12 of 1/65,536 ns (R58) -/
  resid : Nat
  /-- consecutive accepted edges (R53) -/
  okRun : Nat
  /-- outcomes of the last 32 expected edges, newest first (R52) -/
  recent : List Bool
  holdSince : Nat
  /-- duration of the holdover that ended last, ns (R53) -/
  holdLast : Nat
  noRefRaised : Bool
  /-- end of the gate window under way, by die 0 (hub) to 4; unlisted: the die is dark (R45) -/
  gateEnd : Table Nat
deriving DecidableEq, Repr

/-- A running save (03 R82): target 0 A or 1 B, the bytes of header and body, SEQ, acceptance time. -/
structure SaveJob where
  target : Nat
  seq : Nat
  header : Bytes
  body : Bytes
  since : Nat
deriving DecidableEq, Repr

/-- An open staged block (03 R96 to R98). -/
structure Stage where
  handle : Nat
  path : Path
  /-- opened by the sealed domain -/
  sealedDom : Bool
  segs : Table (List Entry)
  last : Nat
deriving DecidableEq, Repr

/-- A validated request that waits for its apply tick (03 R93). -/
structure ApplyJob where
  rq : Rq
  es : List Entry
  /-- the handle of the staged block it commits, or 0 -/
  handle : Nat
  /-- running time of the tick, ns -/
  due : Nat
deriving DecidableEq, Repr

/-- A kept answer (04 R119). -/
structure Dup where
  rq : Rq
  time : Nat
  answer : Answer
deriving DecidableEq, Repr

/-- A session (07 R197, R198): the station key number, the session key k, and for R198 `window`, with bit j set when SEQ
highest - 1 - j has been accepted. -/
structure Session where
  num : Nat
  path : Path
  key : Nat
  secret : Bytes
  authed : Bool
  highest : Nat
  started : Bool
  window : Nat
  last : Nat
deriving DecidableEq, Repr

/-- Request handling of Slaino and the 10BASE-T1S port (03, 04). -/
structure Slaino where
  dups : List Dup
  /-- requests waiting on each path, oldest first (R118), with their service code -/
  waiting : List (Rq × Nat)
  stages : List Stage
  applyQ : List ApplyJob
  cursors : List (Path × Nat)
  sessions : List Session
  /-- accepted in-band requests of the last second (R127) -/
  seen : List (Nat × Nat)
  jamSince : Nat
  /-- ports enabled by the fallback (R124) -/
  fallback : Nat
  outLimited : Bool
  /-- PLCA configuration in force: node ID, node count, timer, burst (R111) -/
  plca : Nat × Nat × Nat × Nat
deriving DecidableEq, Repr

/-- A job admitted against the budget and not yet trued up (05 R140). -/
structure AdmJob where
  id : Nat
  plat : Nat
  ket : Nat
  units : Nat
  est : Nat
  actual : Nat
  /-- 0 hub, 1 to 4 array die -/
  die : Nat
  done : Bool
deriving DecidableEq, Repr

/-- A power transition (05 R145, R146). -/
structure Trans where
  target : Nat
  deferred : Bool
  drain : Bool
  /-- start of the step under way -/
  since : Nat
deriving DecidableEq, Repr

/-- Energy, rails and power (05). Balances are objects; allowances of dies are not. -/
structure Energy where
  jobs : List AdmJob
  nextJob : Nat
  /-- allowance of platform p on die d at 64 * d + p (R142) -/
  allow : Table Int
  windowEnd : Nat
  /-- budgets in force by platform (R138) -/
  budget : Table Nat
  intervalEnd : Nat
  trans : Option Trans
  /-- time of the last step of each core rail (R150) -/
  lastStep : Table Nat
  /-- voltage commanded on core rail 1 to 5, mV -/
  vcmd : Table Nat
  /-- consecutive intervals with READ_VOUT low, by domain (R161) -/
  lowRun : Table Nat
  /-- rails below RAIL_VMIN for heat, by domain (R153) -/
  yielded : Table Bool
  /-- dies on which heat has stopped admission, by domain (R153) -/
  hot : Table Bool
  thermStep : Table Nat
  admissionStopped : Bool
  pmbusRetry : Nat
  drainAt : Option Nat
  /-- how long leases have deferred the drain (R159), ms -/
  drainHeld : Nat
  /-- rails whose discharge is under way, and REMOVE_OK (R159, R160) -/
  removeOk : Bool
  railsOff : Bool
  /-- on-die ballast energy charged to overhead (R156), µJ -/
  ballast : Nat
deriving DecidableEq, Repr

/-- Boot flash (06 Table 6-5): each region's bytes. -/
structure Flash where
  descA : Bytes
  descB : Bytes
  slotA : Bytes
  slotB : Bytes
  saveA : Bytes
  saveB : Bytes
  customer : Bytes
deriving DecidableEq, Repr

/-- Reset and bring-up (06). -/
structure Boot where
  resetLow : Bool
  vaon : Bool
  /-- PERST# asserted on HP0, HP1 -/
  perst : Table Bool
  signalBox : Bool
  managerUp : Bool
  nearZeroed : Bool
  cacheInit : Bool
  /-- die 1 to 4 lit or retired -/
  dieLit : Table Bool
  dieFailed : Table Bool
  linksSettled : Bool
  readyLate : Bool
  warmSince : Option Nat
  warmDeferred : Bool
  /-- far-tier zeroing blocks left per port (R176) -/
  farLeft : Table Nat
  farZeroed : Table Nat
  fatal : Bool
  /-- SEQ of the FATAL records already acted upon (24 R600) -/
  fatalSeen : List Nat
deriving DecidableEq, Repr

/-- A key slot (07 R199 to R203). State 0 EMPTY, 1 READY, 2 CLOSING. -/
structure KeySlot where
  state : Nat
  key : Bytes
  use : Nat
  gen : Nat
  issued : Nat
deriving DecidableEq, Repr

/-- A deferred halt or power request of the open domain (07 R204, R205), in acceptance order. `kind`: 0 power step, 1
cluster halt, 2 warm reset, 3 object write. -/
structure Deferred where
  kind : Nat
  arg : Nat
  block : Nat
  since : Nat
deriving DecidableEq, Repr

/-- A firmware update (07 R212 to R215). `stage` 0 idle, 1 to 3 kind being activated, 4 health awaited. -/
structure Fw where
  slot : Nat
  verified : Bool
  stage : Nat
  kind1At : Nat
  healthy : Bool
  /-- a bundle is being fetched from PF0's host -/
  fetching : Bool
  /-- security version of the verified slot, the least of its four images', and its bundle version -/
  secVersion : Nat
  version : Nat
  oldVersion : Nat
  /-- of the images that run, and of those that ran before the activation -/
  runSecurity : Nat
  oldSecurity : Nat
deriving DecidableEq, Repr

/-- Security and debug (07). -/
structure Security where
  bootKeys : Table Bytes
  debugKeys : Table Bytes
  identity : Bool
  slots : Table KeySlot
  deferred : List Deferred
  token : Bytes
  tokenKey : Bytes
  /-- TAP instruction of 07 R209 by its number in the order of that rule, and the port's status bit -/
  tapIr : Nat
  tapStatus : Bool
  /-- cores halted by the debugger -/
  dbgHalted : List Nat
  spdmVersion : Nat
  spdmAlgs : Bool
  fw : Fw
deriving DecidableEq, Repr

end Sys2Proof.Machine
end

