-- ==== Sys2Proof/Machine/Defaults.lean ====
section
/-! DEFINITION. The catalogue row of an object, and the default of each of its subindices (R79). Values the spec gives
"per unit", "per image", "per board" or "random", and objects without a stated default, reset to the number in the
catalogue row, or to 0: DESIGN CHOICE, notes/assumptions/8.md. -/
namespace Sys2Proof.Machine

/-- The row a list of rows gives an object: a row that names it, else the row of a base index with one instance per
platform (R73; OD 30.050 is its own row, log 20). -/
def odFind (l : List OdDef) (obj : Nat) : Option OdDef :=
  match l.find? (fun r => !r.perPlat && decide (r.first ≤ obj) && decide (obj ≤ r.last)) with
  | some r => some r
  | none => l.find? (fun r => r.perPlat && decide (r.first ≤ obj) && decide (obj < r.first + 64))

/-- The catalogue row of an object number; none: no such object (R72). -/
def odRow (obj : Nat) : Option OdDef := odFind (catalogue (obj / 4096)) obj

/-- The ASCII bytes of a string of numbers. -/
def ascii (l : List Nat) : Bytes := l.map (BitVec.ofNat 8)

/-- Subindex `s` (from 1) of a list of numbers. -/
def nth (l : List Nat) (s : Nat) : Nat := (l.drop (s - 1)).headD 0

/-- Table 15-7, the default pacing profile. -/
def defaultProfile : Bytes :=
  leBytes 4 100000000 ++ leBytes 4 1000000 ++ leBytes 4 800000000 ++ leBytes 4 1000000 ++ leBytes 2 64 ++ leBytes 2 20
    ++ leBytes 4 10000 ++ leBytes 4 20000 ++ leBytes 4 200000 ++ leBytes 2 0xFFFF ++ leBytes 1 1 ++ zeros 5

/-- Table 21-6, the default targets of serving class SCc. -/
def defaultClass (c : Nat) : Bytes :=
  leBytes 4 (nth [20000, 30000, 50000, 80000, 150000, 300000, 1000000, 0] (c + 1))
    ++ leBytes 4 (nth [200000, 300000, 500000, 1000000, 2000000, 5000000, 10000000, 0] (c + 1)) ++ leBytes 4 500 ++ zeros 4

/-- An empty sample record of Table 14-5: minima 0xFFFF_FFFF, everything else 0. -/
def emptySample : Bytes := zeros 8 ++ leBytes 4 0xFFFFFFFF ++ zeros 12 ++ leBytes 4 0xFFFFFFFF ++ zeros 12

/-- The default of a STR or BLOB object (Objects tables; 21: Table 14-3; 23: Table 14-4). -/
def odDefaultBytes (r : OdDef) (obj sub : Nat) : Bytes :=
  if obj = 0x00001 then ascii [0x57, 0x69, 0x67, 0x6F, 0x74, 0x69, 0x73]
  else if obj = 0x00002 then ascii [0x4E, 0x4C, 0x4E, 0x2D, 0x34, 0x31, 0x36, 0x30]
  else if obj = 0x00003 then ascii [0x42, 0x31]
  else if obj = 0x00004 then ascii [0x4E, 0x4C, 0x4E, 0x2D, 0x34, 0x31, 0x36, 0x30, 0x2D, 0x42, 0x31, 0x2D, 0x43]
  else if obj = 0x00005 then ascii (List.replicate 16 0x30)
  else if obj / 4096 = 0x21 then
    if 0x21080 ≤ obj ∧ obj ≤ 0x2108F then leBytes 2 1 ++ leBytes 2 1 ++ leBytes 2 0xFFFF ++ leBytes 2 0xFFFF
    else if 0x21100 ≤ obj ∧ obj ≤ 0x2117F then
      let g := 16 * (obj - 0x21100) + (sub - 1)
      leBytes 1 ((g / 8) % 16) ++ leBytes 1 (g % 8) ++ leBytes 2 1 ++ leBytes 2 0xFFFF ++ leBytes 2 0xFFFF ++ zeros 8
    else if 0x21400 ≤ obj ∧ obj ≤ 0x217FF then
      let q := 16 * (obj - 0x21400) + (sub - 1)
      leBytes 2 (q % 2048) ++ leBytes 2 1 ++ leBytes 2 0xFFFF ++ leBytes 2 0xFFFF
        ++ leBytes 4 (if q < 128 then 1048576 else 0) ++ leBytes 4 0
    else if 0x21800 ≤ obj ∧ obj ≤ 0x21BFF then emptySample
    else zeros r.lo.toNat
  else if 0x23800 ≤ obj ∧ obj ≤ 0x23FFF then
    zeros 2 ++ leBytes 2 8 ++ zeros 4 ++ leBytes 4 65536 ++ zeros 20
  else if obj = 0x24020 then defaultProfile
  else if 0x30400 ≤ obj ∧ obj ≤ 0x3043F then 0xFF :: zeros 31
  else if 0x30800 ≤ obj ∧ obj ≤ 0x308FF then emptySample
  else if obj = 0x53010 then defaultClass (sub - 1)
  else if 0x53030 ≤ obj ∧ obj ≤ 0x53037 then emptySample
  else zeros r.lo.toNat

/-- The default of a numeric object (Objects tables; 70.010: Table 24-4). -/
def odDefaultNum (r : OdDef) (obj sub : Nat) : Nat :=
  if obj = 0x01046 then 191998459904
  else if obj = 0x04050 then (if sub ≤ 4 then 0xFD else 0xFF)
  else if obj = 0x20022 then (sub - 1) / 8
  else if obj = 0x20024 then sub - 1
  else if obj = 0x21010 then 8 * (sub - 1) + 7
  else if obj = 0x22011 then (sub - 1) % 2
  else if obj = 0x40001 then nth [206158430208, 191998459904, 2147483648, 12012486656] sub
  else if obj = 0x70010 then nth [2, 2, 2, 2, 8, 2, 2, 4, 2, 1, 2, 0, 1, 2] sub
  else if obj = 0x70011 then nth [16, 64, 64, 16, 4] sub
  else r.dflt

/-- The default of a subindex of an object; 0 where there is no such object. -/
def odDefault (obj sub : Nat) : OdVal :=
  match odRow obj with
  | none => .num 0
  | some r =>
    match r.type with
    | .str | .blob => .bytes (odDefaultBytes r obj sub)
    | _ => .num (odDefaultNum r obj sub)

end Sys2Proof.Machine
end

