-- ==== Sys2Proof/Machine/PartsB.lean ====
section
/-! DEFINITION. Parts of the state of chapters 08 to 12, 19 and 24 of spec/: Tuital cores, platforms and mailboxes, host
functions and links, memory tiers and the platform cache, dispatch queues and triggers, faults. -/
namespace Sys2Proof.Machine

/-- A signal binding of a core (08 Table 8-4, R235): the words as written, and the status bits. -/
structure Binding where
  sig : W32
  thrLo : W32
  thrHi : W32
  armed : Bool
  fired : Bool
  refused : Bool
deriving DecidableEq, Repr

/-- What a core waits in (08 R237, 09 R260): nothing, WAIT, or SIGWT on a signal with condition = and threshold;
`done` when a satisfying value has been seen. -/
inductive CoreWait where
  | none
  | wait
  | sigwt (sig : Nat) (eq : Bool) (thr : Nat) (done : Bool)
deriving DecidableEq, Repr

/-- A Tuital core (08 Table 8-5, Table 8-4, R222, R223). Registers unlisted in a table read 0. -/
structure Core where
  pc : W18
  sw : W32
  epc : W18
  ecause : W32
  a : Table W48
  d : Table W32
  acc : Table W80
  vbase : W18
  faddr : W48
  rtimeHi : W32
  intPend : W32
  intMask : W32
  binds : Table Binding
  odAns : W32
  odState : W32
  /-- I-space by word number; unlisted words read 0x0000_0000 (R222) -/
  ispace : Table W32
  /-- local SRAM by byte; unlisted bytes read 0 (R238) -/
  sram : List Host.Cell
  /-- local SRAM words whose error is uncorrectable -/
  bad : List Nat
  wait : CoreWait
  entry : W18
deriving DecidableEq, Repr

/-- The program buffer (08 R239). -/
structure ProgBuf where
  owner : Option Path
  bytes : Bytes
  last : Nat
  /-- core under verification, with the time it began -/
  verify : Option (Nat × Nat)
deriving DecidableEq, Repr

/-- A mailbox register block and its rings (10 Table 10-5). State 0 off, 1 running, 2 error. -/
structure Mbx where
  reqBase : Nat
  ansBase : Nat
  evtBase : Nat
  size : Nat
  enable : Bool
  state : Nat
  db : Nat
  head : Nat
  ansHead : Nat
  ansProd : Nat
  evtHead : Nat
  evtProd : Nat
  vec : Nat
  fwdBase : Nat
  fwdSize : Nat
  fwdHead : Nat
  fwdProd : Nat
  /-- fetched descriptors not yet answered, oldest first, each with the SEQ of its PDU behind it -/
  fetched : List Bytes
deriving DecidableEq, Repr

/-- A pending XLATE_INVALIDATE (10 R276). -/
structure Inval where
  plat : Nat
  pages : Nat
  base : Nat
deriving DecidableEq, Repr

/-- A running GRANULE_RECLAIM (10 R272). -/
structure Reclaim where
  base : Nat
  count : Nat
  plat : Nat
deriving DecidableEq, Repr

/-- Platforms, translation and mailboxes (10). -/
structure Plats where
  /-- granule number of 2 MiB -> owner; unlisted: no owner -/
  owner : Table Nat
  /-- granules being reclaimed, by granule number -/
  reclaiming : List Reclaim
  /-- cached leaves at 2^36 * platform + page: the entry as read (R275) -/
  tlb : Table Nat
  invals : List Inval
  /-- platforms under reset: true when PLAT_DISABLE started it -/
  resetting : Table Bool
  /-- mailboxes of PL0 to PL63 and of PF0 (64) -/
  mbx : Table Mbx
deriving DecidableEq, Repr

/-- A PCIe function (11): the physical function of a host link by its link index 0 to 3 (0: PF0), the VF k of host port h
at 100 + 64 * h + k. MSI-X vectors are masked until unmasked (log 22). -/
structure Fn where
  vfEnable : Bool
  numVfs : Nat
  bme : Bool
  mse : Bool
  d3hot : Bool
  fnMask : Bool
  unmasked : List Nat
  pend : List Nat
deriving DecidableEq, Repr

/-- A link's hot-plug and retry timers (11); its training state is in OD 11.003, 11.021, 11.031. -/
structure Link where
  retryAt : Nat
  presentSince : Option Nat
  perstN : Bool
deriving DecidableEq, Repr

/-- Host, SSD and far links, PCIe functions (11). Link indices 0 to 15 of Table 11-1. -/
structure Ports where
  links : Table Link
  fns : Table Fn
  /-- bifurcation in force, by host port (R292) -/
  bifur : Table Bool
  /-- far-tier ports out of service until the next reset (R317) -/
  farOut : List Nat
deriving DecidableEq, Repr

/-- A line of the platform cache (12 R334): per sector valid and dirty, and the bytes of its last write-back while it is
dirty; retention 0 NORMAL, 1 KEEP, 2 written with LAST; platform; recency. -/
structure Line where
  valid0 : Bool
  valid1 : Bool
  dirty0 : Bool
  dirty1 : Bool
  back0 : Bytes
  back1 : Bytes
  ret : Nat
  plat : Nat
  used : Nat
deriving DecidableEq, Repr

/-- A migration in progress (12 R326): granule, target raw granule, chunks copied. -/
structure Migration where
  gran : Nat
  raw : Nat
  done : Nat
deriving DecidableEq, Repr

/-- Memory tiers and the platform cache (12). Device memory holds what every agent reads; a dirty cache sector keeps the
older bytes of the tier beside it. -/
structure Mem where
  dev : List Host.Cell
  /-- host memory at 2^64 * host port + address -/
  host : List Host.Cell
  /-- 32-byte units of device memory that are poisoned (R330) -/
  poison : Table Bool
  cache : Table Line
  stamp : Nat
  /-- granule -> raw granule; unlisted: identity (R325) -/
  remap : Table Nat
  /-- raw granules taken from the start of the remap pool, and raw granules that a move gave back (R326) -/
  remapUsed : Nat
  remapBack : List Nat
  migs : List Migration
  retired : List Nat
  /-- corrected errors of a granule in the last 24 h, with the time counting began -/
  ce : Table (Nat × Nat)
  pinned : Table Nat
  softRows : List (Nat × Nat)
deriving DecidableEq, Repr

/-- An entry of a dispatch queue (19): its 64 bytes, the number of its admission (0: none), whether its WAIT is released,
and the trigger and firing that pushed it in advance (256 more on the WAIT of a firing). -/
structure DqEntry where
  b : Bytes
  adm : Nat
  released : Bool
  trig : Option (Nat × Nat)
deriving DecidableEq, Repr

/-- How a job ended, before its completion is written: status, flags and BYTES of Table 19-3, and what its unit's
counters take (steps in which it streamed, or frames). -/
structure DqDone where
  status : Nat
  flags : Nat
  bytes : Nat
  work : Nat
deriving DecidableEq, Repr

/-- A job issued by a dispatch queue and not completed: number, entry, admission, the unit that runs it (0xFF: none yet), and
how it has ended. -/
structure DqJob where
  id : Nat
  b : Bytes
  adm : Nat
  unit : Nat
  done : Option DqDone
deriving DecidableEq, Repr

/-- A dispatch queue's contents (19 R488 to R493). -/
structure Dq where
  entries : List DqEntry
  running : List DqJob
  /-- ring-fed: producer and consumer index of the entry ring -/
  prod : Nat
  cons : Nat
  /-- port-fed: slots of completions not popped, in the order written, and the slot popped last -/
  ready : List Nat
  popped : Option Nat
deriving DecidableEq, Repr

/-- A descriptor pushed and not issued: its number, its admission (0: none), its 64 bytes. -/
structure PqEntry where
  id : Nat
  adm : Nat
  b : Bytes
deriving DecidableEq, Repr

/-- A port-fed queue of an engine (17 R434 to R436, 23 R573): descriptors pushed and not issued, the number issued and not
completed, slots of completions not popped, the slot popped last. -/
structure PortQ where
  waiting : List PqEntry
  running : Nat
  ready : List Nat
  popped : Option Nat
deriving DecidableEq, Repr

/-- Signals and dispatch (19). The counters and owners are objects. -/
structure Disp where
  /-- adds held at the hub for dark dies, oldest first: signal, addend (R38) -/
  held : List (Nat × Nat)
  dqs : Table Dq
  /-- cipher queue k under k, relay queue k under 32 + k -/
  portQs : Table PortQ
  nextJob : Nat
  /-- firings pushed in advance and not yet released, by trigger -/
  queued : Table Nat
  /-- firings whose condition `=` has been met and whose chain is not pushed, by trigger -/
  pushed : Table Nat
deriving DecidableEq, Repr

/-- An error record (24 Table 24-3). -/
structure ErrRec where
  seq : Nat
  cls : Nat
  detect : Nat
  unit : Nat
  time : Nat
  run : Nat
  addr : Nat
  plats : Nat
  detail : Nat
  test : Nat
  action : Nat
  transients : Nat
  testTime : Nat
  flags : Nat
deriving DecidableEq, Repr

/-- A fenced unit (24 R592, R593): its records, whether its test runs and since when; of a Tuital core, OD 08.001 before
the fence; the result of a cipher core whose partner is still to be tested, 0 none (R595). -/
structure Fence where
  unit : Nat
  recs : List Nat
  testing : Bool
  since : Nat
  prev : Nat
  result : Nat
deriving DecidableEq, Repr

/-- Faults, self-test and repair (24). -/
structure Faults where
  log : List ErrRec
  nextSeq : Nat
  fences : List Fence
  /-- unit -> running times of its transient records -/
  transients : Table (List Nat)
  spared : List Nat
  retired : List Nat
  /-- repair store: unit, and kind of repair + 16 * the place located (R597) -/
  store : List (Nat × Nat)
  storeFull : Bool
  /-- corrected errors per unit in 24 h with the start of counting (OD 70.011) -/
  ce : Table (Nat × Nat)
  /-- spare rows and columns substituted, by staging bank (12 R332) -/
  bankUsed : Table (Nat × Nat)
  /-- cipher pairs of which both cores failed and the higher-numbered one has been replaced, by lower core (R595) -/
  owed : List Nat
deriving DecidableEq, Repr

/-- What leaves the package towards the outside. -/
inductive Output where
  /-- an answer to a request on a path -/
  | answer (rq : Rq) (a : Answer)
  /-- an MSI-X message of a function -/
  | msix (fn vec : Nat)
  /-- completion of a configuration request on a host port: retry status, or a value -/
  | config (port : Nat) (retry : Bool) (val : Nat)
  /-- an SPDM answer -/
  | spdm (code param : Nat) (body : Bytes)
  /-- an Ethernet frame started on a sub-port -/
  | frame (sub queue : Nat) (b : Bytes)
  /-- a PFC frame: sub-port, class, quanta -/
  | pfc (sub cls quanta : Nat)
  /-- a packet of a queue pair: QPN, opcode name, PSN, payload -/
  | packet (qpn op psn : Nat) (b : Bytes)
  /-- a coupling-link flit: link, kind, FSEQ, ACK, credit returned and its channel, payload -/
  | flit (link kind seq ack vc credit : Nat) (b : Bytes)
  /-- a weight piece relayed to an ordinal: load, address, bytes -/
  | piece (ord loadId dst : Nat) (b : Bytes)
  /-- VOUT_COMMAND or an off command to a rail, mV -/
  | rail (dom mv : Nat)
  /-- a PERST_N output: link index, level -/
  | perst (link : Nat) (high : Bool)
  /-- an NVMe command or capsule to an SSD or a remote target: port, command, bytes -/
  | nvme (port cmd : Nat) (b : Bytes)
  /-- a completion of an emulated controller's admin queue: platform, entry -/
  | nvmeAdmin (p : Nat) (cqe : Bytes)
  /-- what a debug access through the test access port returns -/
  | tap (val : Nat)
  /-- an answer to a bus request: link index, unsupported -/
  | unsupported (link : Nat)
deriving DecidableEq, Repr

end Sys2Proof.Machine
end

