-- ==== Sys2Proof/Machine/PartsC.lean ====
section
/-! DEFINITION. Parts of the state of chapter 23 of spec/: coupling links, end-to-end adds, relay queues and operations. -/
namespace Sys2Proof.Machine

/-- A coupling link's framing state (23 R559 to R565). Its state, lane map and counters are objects. -/
structure ClLink where
  /-- FSEQ of the next data flit to send, and of the next expected -/
  nextF : Nat
  expectF : Nat
  /-- unacknowledged data flits, oldest first: FSEQ and payload (R560) -/
  buf : List (Nat × Bytes)
  /-- resends of the oldest unacknowledged flit (R561) -/
  resends : Nat
  ackAt : Nat
  /-- flits in a row that did not decode (R561) -/
  undec : Nat
  /-- a replay request stands, and when it was last sent (R560) -/
  reqAt : Option Nat
  /-- credit in 64-byte units on VC0 and VC1 (R562) -/
  credit0 : Nat
  credit1 : Nat
  /-- messages that wait for credit or room, oldest first: channel and bytes -/
  waiting : List (Nat × Bytes)
  /-- messages with flits not acknowledged: the FSEQ of their last flit, bytes (R587) -/
  msgs : List (Nat × Bytes)
  /-- retired lanes (R563, R564) -/
  badLanes : List Nat
  /-- the lane map before the latest substitution and its time: a link that goes down during it returns to it (R586) -/
  switch : Option (Nat × Nat)
  /-- bytes of a message continued from an earlier flit (23 Messages) -/
  part : Bytes
deriving DecidableEq, Repr

/-- A relay operation under way (R573 to R578). `queue` is a relay queue, or 0xFF for a template of a serving step; `id` the
descriptor's number there. A COPY keeps its messages in order (address, bytes, 0 sent, 1 placed, 2 refused); a group
operation keeps the ring position, the operation's number, the positions whose first message came, the bytes it still has
to place or pass on, and the messages it has taken; `bytes`: bytes of the completion; `sent`: bytes sent; `fail`: the
ordinal at fault. -/
structure RelayOp where
  queue : Nat
  id : Nat
  b : Bytes
  adm : Nat
  tag : Nat
  msgs : List (Nat × Nat × Nat)
  pos : Nat
  count : Nat
  heard : List Nat
  need : Nat
  seen : List Nat
  bytes : Nat
  sent : Nat
  fail : Nat
  since : Nat
  /-- a failure that ends a COPY once what was sent has been acknowledged -/
  hold : Nat
  status : Option Nat
deriving DecidableEq, Repr

/-- The consist (23). -/
structure Consist where
  links : Table ClLink
  /-- CONSIST_ID, ORDINAL, MEMBERS and the link map as they stood at the last reset (R567) -/
  force : List Nat
  /-- next end-to-end sequence to send to and to apply from each ordinal (R571) -/
  nextAdd : Table Nat
  nextApply : Table Nat
  /-- adds not yet acknowledged: ordinal, sequence, message -/
  kept : List (Nat × Nat × Bytes)
  /-- adds that arrived early: ordinal, sequence, message -/
  early : List (Nat × Nat × Bytes)
  /-- when the last route to an ordinal was lost (R569) -/
  lostAt : Table Nat
  /-- messages received for this package and not yet taken, oldest first: link, message -/
  inbox : List (Nat × Bytes)
  /-- messages that no route takes, oldest first -/
  stranded : List Bytes
  ops : List RelayOp
  nextTag : Nat
  /-- operations issued so far on each group (R576) -/
  groupOps : Table Nat
  /-- relay templates of serving steps that have ended: number and status -/
  ended : List (Nat × Nat)
  leaving : Option Nat
deriving DecidableEq, Repr

end Sys2Proof.Machine
end

