-- ==== Sys2Proof/Machine/PartsD.lean ====
section
/-! DEFINITION. Parts of the state of chapters 13 to 17 and 20 of spec/: egress queues, meters, shapers and the wheel;
completion rings, queue pairs, regions and security associations; native queues and back ends; cipher requests; decode
jobs. -/
namespace Sys2Proof.Machine

/-! ## Ethernet and traffic -/

/-- A frame in an egress queue: bytes on the wire (address through FCS), when it was enqueued, and what it is: bytes as they
are, or a packet of a queue pair (number, opcode, PSN) with its payload, and the security association under which it is still to be encrypted. -/
structure Frame where
  len : Nat
  at_ : Nat
  pkt : Option (Nat × Nat × Nat)
  data : Bytes
  sa : Option Nat
deriving DecidableEq, Repr

/-- A frame in a port's ingress buffer (13 R355): sub-port, traffic class, bytes on the wire, class (Table 13-2: 1 PTP,
2 in-band, 3 RoCEv2, 4 ESP, 5 flow control), the packet (RoCEv2: from the BTH; ESP: from the SPI; flow control: from the
opcode; PTP: the frame), source and destination address, ECN field, the verdict on its ICRC, and the association it came in. -/
structure RxFrame where
  sub : Nat
  tcl : Nat
  len : Nat
  cls : Nat
  data : Bytes
  src : Bytes
  dst : Bytes
  ecn : Nat
  icrcOk : Bool
  sa : Option Nat
deriving DecidableEq, Repr

/-- A token bucket pair (14 R362): the levels in 1/256 byte (a shaper uses the first), the previous refill instant, and
parameters held pending under NEXT (R363): interval, two rates, two bursts. -/
structure Bucket where
  l0 : Int
  l1 : Int
  last : Nat
  pending : Option (Nat × Nat × Nat × Nat × Nat)
  /-- the parameters in force, in the same order -/
  cur : Nat × Nat × Nat × Nat × Nat
deriving DecidableEq, Repr

/-- A pacing entry (14 R375): eligibility time e in 2^-16 ns; the slot it waits in, if it waits; its rate in force and the
rate held for after the next frame (R377). -/
structure Pace where
  e : Nat
  slot : Option Nat
  rate : Nat
deriving DecidableEq, Repr

/-- Ethernet ports and the traffic manager (13, 14). -/
structure Net where
  /-- egress queues -/
  queues : Table (List Frame)
  /-- meter m under m; shaper s under 16,384 + s -/
  buckets : Table Bucket
  /-- deficits: queue q under q, group g under 2^16 + g, class t of sub-port i under 2^17 + 8 i + t -/
  deficits : Table Nat
  /-- last child served at a node: sub-port i under i, class under 16 + 8 i + t, group under 2^16 + g -/
  turns : Table Nat
  /-- pacing entries: queue q under q, queue pairs from 16,384 -/
  paces : Table Pace
  /-- the next wheel slot to process, as a running count of slots -/
  wheel : Nat
  /-- entries in wheel slots, in the order placed: slot count, entry -/
  slots : List (Nat × Nat)
  /-- the pause of class t of sub-port i ends at, under 8 i + t (R355) -/
  paused : Table Nat
  /-- the ingress buffers, oldest frame first -/
  buffer : List RxFrame
  /-- ports whose configuration has changed and which are to retrain (R347) -/
  retrain : List Nat
  /-- XOFF standing for a class, and when it was last sent -/
  xoff : Table Nat
  /-- FEC window of a sub-port: start, uncorrectable codewords, reported (R346) -/
  fec : Table (Nat × Nat × Bool)
  /-- next retry of auto-negotiation of a sub-port (R344) -/
  anRetry : Table Nat
  /-- frames of PTP that bypass the hierarchy, by sub-port -/
  ptp : Table (List Bytes)
  /-- the sampler: next queue of the pass under way, its start -/
  sampler : Nat × Nat
deriving DecidableEq, Repr

/-! ## Remote memory -/

/-- A completion ring (15 R393): owner (a platform, or 0xFD), size, vector, base, indices, armed. -/
structure Cq where
  owner : Nat
  log : Nat
  vec : Nat
  base : Nat
  prod : Nat
  cons : Nat
  armed : Bool
deriving DecidableEq, Repr

/-- A send request taken from its ring: ring index, entry, first PSN, packets, the next packet to send, whether every packet
has been acknowledged, status once decided, value before an atomic, bytes moved. -/
structure Sent where
  idx : Nat
  b : Bytes
  first : Nat
  pkts : Nat
  next : Nat
  done : Option Nat
  orig : Nat
  moved : Nat
  /-- group number and the group's first PSN of a relaxed request -/
  group : Nat
  gfirst : Nat
deriving DecidableEq, Repr

/-- A FINAL packet held by the responder (15 R397): PSN, group, FIRST_PSN, remote address, key, payload, and its place in the
ingress buffer: sub-port, traffic class, bytes. -/
structure Held where
  psn : Nat
  group : Nat
  first : Nat
  addr : Nat
  rkey : Nat
  data : Bytes
  sub : Nat
  tcl : Nat
  len : Nat
deriving DecidableEq, Repr

/-- A queue pair (15): its state; the fields of Table 15-3 as its transitions read them; ring indices; the requester and
responder contexts; pacing. -/
structure Qp where
  state : Nat
  plat : Nat
  cfg : Bytes
  relaxed : Bool
  ecn : Bool
  sqProd : Nat
  sqCons : Nat
  rqProd : Nat
  rqCons : Nat
  /-- requester: next PSN, requests under way, group being built -/
  nextPsn : Nat
  /-- oldest unacknowledged PSN -/
  una : Nat
  sent : List Sent
  group : Nat
  gfirst : Option Nat
  /-- responder: messages completed; next expected PSN, PSNs placed beyond it, PSNs of finals placed, held finals, last atomics -/
  msn : Nat
  expPsn : Nat
  placed : List Nat
  finals : List Held
  atomics : List (Nat × Nat)
  /-- message under way: opcode, address or receive buffer, bytes so far, bytes allowed, hint, WR_ID -/
  rx : Option (Nat × Nat × Nat × Nat × Nat × Nat)
  nakSent : Bool
  unacked : Nat
  ackAt : Nat
  cnpAt : Option Nat
  /-- recovery -/
  retries : Nat
  rnrLeft : Nat
  rnrUntil : Option Nat
  progress : Nat
  /-- PSNs sent and when -/
  times : List (Nat × Nat)
  /-- pacing -/
  pace : Option Nat
  rate : Nat
  srtt : Nat
  samples : List Nat
  yielded : Bool
  told : Bool
  above : Nat
  nextInterval : Nat
  cnpInInterval : Bool
  lastErr : Nat
deriving DecidableEq, Repr

/-- A memory region (15 R389). -/
structure Mr where
  plat : Nat
  rkey : Nat
  base : Nat
  pages : Nat
  access : Nat
  hint : Nat
deriving DecidableEq, Repr

/-- A security association (15 R407): the argument of SA_ADD, next outbound number, highest number and window inbound. -/
structure Sa where
  owner : Nat
  arg : Bytes
  next : Nat
  highest : Nat
  window : Nat
  stopped : Bool
deriving DecidableEq, Repr

/-- The loop of an adaptive shaper (15 R402): interval end, largest interval sample, rate, yielded, told, intervals over. -/
structure Loop where
  nextInterval : Nat
  yielded : Bool
  told : Bool
  above : Nat
deriving DecidableEq, Repr

/-- Remote memory access (15). -/
structure Rdma where
  cqs : Table Cq
  qps : Table Qp
  mrs : Table Mr
  sas : Table Sa
  loops : Table Loop
deriving DecidableEq, Repr

/-! ## Storage -/

/-- A waybill in flight (16): its place in the fetch order, bytes, where it came from (0 ring, 1 dispatch queue, 2 emulated
controller) with the number that source needs, the namespace record it was checked against, admission, stage (0 fetched,
1 admitted, 2 started, 3 ended), status, bytes moved, back-end status, consumer index after its fetch, start, abort; for an
emulated command the runs of memory of its PRPs, and a failure of another waybill of the same command. -/
structure Wb where
  seq : Nat
  b : Bytes
  src : Nat
  ref : Nat
  ns : Bytes
  adm : Nat
  stage : Nat
  status : Nat
  bytes : Nat
  detail : Nat
  head : Nat
  since : Nat
  abortAt : Option Nat
  prp : List (Nat × Nat)
  carry : Nat
deriving DecidableEq, Repr

/-- A native queue (16). -/
structure NativeQ where
  owner : Nat
  log : Nat
  cq : Nat
  base : Nat
  tail : Nat
  head : Nat
  error : Bool
  wbs : List Wb
  nextSeq : Nat
  /-- the nearest earlier ORDERED waybill failed; waybills without ORDERED that failed since (R424) -/
  ordFailed : Bool
  fails : List Nat
  /-- deleted, and freed with its last waybill -/
  freed : Bool
deriving DecidableEq, Repr

/-- A back end that has been identified: namespaces (NSID, block shift, blocks), deallocated blocks read as zero. -/
structure BackEnd where
  ns : List (Nat × Nat × Nat)
  zeroes : Bool
  /-- when the next keep alive is due -/
  keepAt : Nat
deriving DecidableEq, Repr

/-- A queue of an emulated controller (16, Table 16-6): size, base, its completion queue or vector, indices. -/
structure NvQueue where
  size : Nat
  base : Nat
  link : Nat
  tail : Nat
  head : Nat
deriving DecidableEq, Repr

/-- The emulated controller of a platform. -/
structure NvCtl where
  sqs : Table NvQueue
  cqs : Table NvQueue
  features : Table Nat
  asyncs : List Nat
deriving DecidableEq, Repr

/-- The storage engine (16). -/
structure Storage where
  queues : Table NativeQ
  backs : Table BackEnd
  ctls : Table NvCtl
deriving DecidableEq, Repr

/-! ## Cipher and decode -/

/-- A cipher request issued or done (17): queue, descriptor, admission, cluster (0xFF: none), key, status and bytes once it
has ended. -/
structure CipherRun where
  id : Nat
  queue : Nat
  b : Bytes
  adm : Nat
  cluster : Nat
  slot : Nat
  key : Bytes
  done : Option (Nat × Nat)
deriving DecidableEq, Repr

/-- A running decode job (20): queue, job, engine, the profile as it stood at issue (R511), the stream bytes that could be
read, a status that ends it, and the counts of its record area: records, slots written, the last frame, skipped records by
reason 1 to 5. -/
structure DecRun where
  dq : Nat
  job : Nat
  engine : Nat
  profile : Bytes
  stream : Bytes
  read : Bool
  fail : Nat
  recs : Nat
  written : Nat
  lastFrame : Option Nat
  skips : List Nat
deriving DecidableEq, Repr

/-- Cipher requests and decode jobs under way. -/
structure Engines where
  ciphers : List CipherRun
  nextCipher : Nat
  decodes : List DecRun
  /-- whose turn it is among decode queues (R506) -/
  turn : Nat
deriving DecidableEq, Repr

end Sys2Proof.Machine
end

