-- ==== Sys2Proof/Machine/PartsE.lean ====
section
/-! DEFINITION. Parts of the state of chapters 21 and 22 of spec/: serving requests and the siding, the weight loader. -/
namespace Sys2Proof.Machine

/-- An open serving request (21 R522 to R537), and its record in the siding. -/
structure ServReq where
  plat : Nat
  /-- the submission entry (Table 21-4) -/
  b : Bytes
  /-- the package that leads it, on a member of a split model (23 R581) -/
  lead : Option Nat
  /-- near or far slot index (R521) -/
  far : Bool
  slot : Nat
  /-- the step, its tokens, and what it is doing: 0 awaiting a token, 1 ready, 2 running, 3 output jobs, 4 ended with
  `status`, 5 closed with its completion still to write -/
  step : Nat
  tokens : List Nat
  phase : Nat
  status : Nat
  deadline : Nat
  readyAt : Nat
  /-- pass and layer under way, or next -/
  pass : Nat
  layer : Nat
  /-- admission of the step, 0 none; not admitted, and waiting for a true-up or a window boundary (R526) -/
  adm : Nat
  blocked : Bool
  /-- a completion slot is reserved (R522) -/
  reserved : Bool
  marked : Bool
  /-- its rule has marked a step already (R528) -/
  asked : Bool
  /-- reason of the pause: 1 priority, 2 energy; since when; pauses of the step; time waited, ns (Table 21-8) -/
  reason : Nat
  pausedAt : Nat
  pauses : Nat
  waited : Nat
  /-- serial numbers of the layer's jobs that run, and the jobs not yet pushed -/
  jobs : List Nat
  todo : List Bytes
  /-- start of the layer; its overrun reported -/
  since : Nat
  overrun : Bool
  /-- CLOSE has come (R523) -/
  closing : Bool
  /-- members of a split model that run and have not stopped -/
  away : List Nat
deriving DecidableEq, Repr

/-- Serving (21). -/
structure Serving where
  /-- producer and consumer index of each platform's submission ring -/
  subs : Table (Nat × Nat)
  /-- requests by handle; those led by ordinal o under 65536 * (o + 1) + handle -/
  reqs : Table ServReq
  nextJob : Nat
  /-- jobs still running whose request has gone -/
  orphans : List Nat
deriving DecidableEq, Repr

/-- A piece of a load in flight (22 R541): number, load, entry, index of the entry, offset and bytes, admission. -/
structure Piece where
  id : Nat
  load : Nat
  entry : Bytes
  idx : Nat
  off : Nat
  len : Nat
  adm : Nat
deriving DecidableEq, Repr

/-- A load under way: its serial number, the manifest, pieces not issued (entry, offset, bytes), pieces complete at the reader
and not yet relayed (ordinal, address, bytes), ordinals that have accepted the load, bytes to come from the reader,
acceptance. -/
structure Load where
  id : Nat
  hdr : Bytes
  entries : List Bytes
  todo : List (Nat × Nat × Nat)
  toRelay : List (Nat × Nat × Bytes)
  accepted : List Nat
  expect : Nat
  since : Nat
deriving DecidableEq, Repr

/-- The weight loader (22). -/
structure Weights where
  load : Option Load
  flying : List Piece
  next : Nat
deriving DecidableEq, Repr

end Sys2Proof.Machine
end

