-- ==== Sys2Proof/Machine/State.lean ====
section
/-! DEFINITION. The state of the block: everything the spec gives it (`Chip`), and the queue of waiting commands. -/
namespace Sys2Proof.Machine

/-- Faults: none of the spec's commands stops the block without an effect, so the type has the one constructor of a broken
promise of the model, which no meaning raises. -/
inductive Fault where
  /-- Raised by no meaning; safe. -/
  | unreachable
deriving DecidableEq, Repr

/-- Refusals. -/
inductive Refusal where
  /-- The command has no meaning in the model yet; raised by its arm of `exec`; safe. -/
  | notModelled (mnemonic : String)
deriving DecidableEq, Repr

/-- Everything the spec gives the block. Objects of the Object Dictionary are held once, in `od`, under 256 * object +
subindex; an unlisted one has its default (R79). -/
structure Chip where
  /-- object values that differ from their defaults -/
  od : Table OdVal
  /-- write-rejection counters (R89) -/
  rej : Table Nat
  /-- the newest 4,096 event records, newest first (03) -/
  events : List Event
  save : Option SaveJob
  tb : Timebase
  sl : Slaino
  en : Energy
  boot : Boot
  flash : Flash
  sec : Security
  cores : Table Core
  prog : ProgBuf
  plats : Plats
  ports : Ports
  mem : Mem
  disp : Disp
  net : Net
  rdma : Rdma
  storage : Storage
  engines : Engines
  faults : Faults
  cons : Consist
  serv : Serving
  weights : Weights
  /-- number of free values taken: the model's own, no state of the spec (log 3) -/
  free : Nat
  /-- what has left the package, oldest first: the model's own record (log 7) -/
  out : List Output
  /-- the output ALERT_N is driven low (R102) -/
  alert : Bool
deriving DecidableEq, Repr

/-- The block and the queue of the commands that wait, first in, first out. -/
structure State where
  chip : Chip
  pending : List Instr
deriving DecidableEq, Repr

/-- A core before a program is started (R238). -/
def Core.off : Core where
  pc := 0
  sw := 0
  epc := 0
  ecause := 0
  a := []
  d := []
  acc := []
  vbase := 0
  faddr := 0
  rtimeHi := 0
  intPend := 0
  intMask := 0
  binds := []
  odAns := 0
  odState := 0
  ispace := []
  sram := []
  bad := []
  wait := .none
  entry := 0

/-- The timebase island at RESET_N release (R53, R54): NO_REF, running time 0; only the hub's step meter runs. -/
def Timebase.cold : Timebase where
  ns := 0
  frac := 0
  resid := 0
  okRun := 0
  recent := []
  holdSince := 0
  holdLast := 0
  noRefRaised := false
  gateEnd := [(0, 100000)]

/-- Request handling after a cold start (R106, R131). -/
def Slaino.cold : Slaino where
  dups := []
  waiting := []
  stages := []
  applyQ := []
  cursors := []
  sessions := []
  seen := []
  jamSince := 0
  fallback := 0
  outLimited := false
  plca := (1, 8, 32, 0)

/-- Energy and power after a cold start (R170: rails at their power-on output of 0.75 V). -/
def Energy.cold : Energy where
  jobs := []
  nextJob := 1
  allow := []
  windowEnd := 100000000
  budget := []
  intervalEnd := 1000000
  trans := none
  lastStep := []
  vcmd := [(1, 750), (2, 750), (3, 750), (4, 750), (5, 750)]
  lowRun := []
  yielded := []
  hot := []
  thermStep := []
  admissionStopped := false
  pmbusRetry := 0
  drainAt := none
  drainHeld := 0
  removeOk := false
  railsOff := false
  ballast := 0

/-- An erased boot flash: contents are the flash's own (log 4). -/
def Flash.erased : Flash := ⟨[], [], [], [], [], [], []⟩

/-- Bring-up at RESET_N release: phases 0 and 1 have begun, nothing is up (Table 6-2). -/
def Boot.cold : Boot where
  resetLow := false
  vaon := true
  perst := []
  signalBox := false
  managerUp := false
  nearZeroed := false
  cacheInit := false
  dieLit := []
  dieFailed := []
  linksSettled := false
  readyLate := false
  warmSince := none
  warmDeferred := false
  farLeft := []
  farZeroed := []
  fatal := false
  fatalSeen := []

/-- No update under way (07). -/
def Fw.idle : Fw := ⟨0, false, 0, 0, false, false, 0, 0, 0, 0, 0⟩

/-- Security after a cold start, with the fused keys of the unit (log 5). -/
def Security.cold : Security where
  bootKeys := []
  debugKeys := []
  identity := true
  slots := []
  deferred := []
  token := []
  tokenKey := []
  tapIr := 0
  tapStatus := false
  dbgHalted := []
  spdmVersion := 0
  spdmAlgs := false
  fw := Fw.idle

/-- No owner, no bytes (R239). -/
def ProgBuf.empty : ProgBuf := ⟨none, [], 0, none⟩

/-- Every object at its default; UNOWNED (07: until its first station key is installed); leases of key segments 0 to 3 and of T00 to T03 held (Table 7-7). -/
def Chip.cold : Chip where
  od := [(0x04001 * 256, .num 1), (0x04040 * 256 + 2, .num 0xF), (0x04040 * 256 + 4, .num 0xF)]
  rej := []
  events := []
  save := none
  tb := Timebase.cold
  sl := Slaino.cold
  en := Energy.cold
  boot := Boot.cold
  flash := Flash.erased
  sec := Security.cold
  cores := []
  prog := ProgBuf.empty
  plats := ⟨[], [], [], [], [], []⟩
  ports := ⟨[], [], [], []⟩
  mem := ⟨[], [], [], [], 0, [], 0, [], [], [], [], [], []⟩
  disp := ⟨[], [], [], 1, [], []⟩
  net := ⟨[], [], [], [], [], 0, [], [], [], [], [], [], [], [], (0, 0)⟩
  rdma := ⟨[], [], [], [], []⟩
  storage := ⟨[], [], []⟩
  engines := ⟨[], 1, [], 0⟩
  faults := ⟨[], 1, [], [], [], [], [], false, [], [], []⟩
  cons := ⟨[], [], [], [], [], [], [], [], [], [], 0, [], [], none⟩
  serv := ⟨[], [], 1, []⟩
  weights := ⟨none, [], 1⟩
  free := 0
  out := []
  alert := false

/-- The machine right after reset (R79, R106, R131): the power applied and RESET_N released for the first time. -/
def State.reset : State := ⟨Chip.cold, []⟩

end Sys2Proof.Machine
end

