-- ==== Sys2Proof/Machine/Ops.lean ====
section
/-! DEFINITION. Named operations over the object store, running time, the event queue, free values, the error records
and outputs: every meaning is written over these. -/
namespace Sys2Proof.Machine

/-! ## Objects -/

/-- The number of a subindex in the object store. -/
def odKey (obj sub : Nat) : Nat := 256 * obj + sub

/-- The value of a subindex: the one written last, or the default (R79). -/
def odGet (s : Chip) (obj sub : Nat) : OdVal := tget (odDefault obj sub) s.od (odKey obj sub)

/-- A numeric value; 0 for bytes. -/
def OdVal.nat : OdVal → Nat
  | .num n => n
  | .bytes _ => 0

/-- A STR or BLOB value; empty for a number. -/
def OdVal.blob : OdVal → Bytes
  | .num _ => []
  | .bytes b => b

/-- The number an object's subindex holds. -/
def odN (s : Chip) (obj sub : Nat) : Nat := (odGet s obj sub).nat

/-- The bytes an object's subindex holds. -/
def odB (s : Chip) (obj sub : Nat) : Bytes := (odGet s obj sub).blob

/-- An S64 object as an integer. -/
def odI (s : Chip) (obj sub : Nat) : Int := sInt 64 (odN s obj sub)

/-- Set a subindex; a value equal to the default is not listed. -/
def odPut (s : Chip) (obj sub : Nat) (v : OdVal) : Chip :=
  { s with od := tset (odDefault obj sub) s.od (odKey obj sub) v }

/-- Set a numeric subindex. -/
def odSet (s : Chip) (obj sub n : Nat) : Chip := odPut s obj sub (.num n)

/-- Set a STR or BLOB subindex. -/
def odSetB (s : Chip) (obj sub : Nat) (b : Bytes) : Chip := odPut s obj sub (.bytes b)

/-- Set an S64 subindex. -/
def odSetI (s : Chip) (obj sub : Nat) (v : Int) : Chip := odSet s obj sub (uInt 64 v)

/-- Count in a U32 COUNT field, wrapping at its width (R87). -/
def odInc (s : Chip) (obj sub : Nat) : Chip := odSet s obj sub ((odN s obj sub + 1) % 2 ^ 32)

/-- Add to a U64 COUNT field or account. -/
def odAdd64 (s : Chip) (obj sub n : Nat) : Chip := odSet s obj sub ((odN s obj sub + n) % 2 ^ 64)

/-- Set or clear a bit of a numeric subindex. -/
def odSetBit (s : Chip) (obj sub b : Nat) (v : Bool) : Chip :=
  let x := odN s obj sub
  odSet s obj sub (if v then x ||| 2 ^ b else x - (if bit x b then 2 ^ b else 0))

/-- Field of a BLOB subindex. -/
def odFld (s : Chip) (obj sub off n : Nat) : Nat := fld (odB s obj sub) off n

/-- Set a field of a BLOB subindex. -/
def odSetFld (s : Chip) (obj sub off n v : Nat) : Chip := odSetB s obj sub (setFld (odB s obj sub) off n v)

/-- Count in a COUNT field of `n` bytes of a BLOB subindex. -/
def odIncFld (s : Chip) (obj sub off n : Nat) : Chip :=
  odSetFld s obj sub off n ((odFld s obj sub off n + 1) % 256 ^ n)

/-- The subindices of objects `lo` to `hi` that do not have their defaults, as object and subindex. -/
def odListed (s : Chip) (lo hi : Nat) : List (Nat × Nat) :=
  (s.od.filter (fun x => decide (256 * lo ≤ x.1) && decide (x.1 < 256 * (hi + 1)))).map (fun x => (x.1 / 256, x.1 % 256))

/-- Count a rejected write in the object's write-rejection counter (R89). -/
def rejCount (s : Chip) (obj : Nat) : Chip :=
  { s with rej := tput s.rej obj ((tget 0 s.rej obj + 1) % 2 ^ 32) }

/-! ## Time and events -/

/-- Running time, ns (R54). -/
def nowNs (s : Chip) : Nat := s.tb.ns

/-- Epoch time: running time plus the epoch offset (R54). -/
def epochNs (s : Chip) : Nat := (s.tb.ns + odN s 0x03005 0) % 2 ^ 64

/-- Milliseconds and microseconds in ns. -/
def ms (n : Nat) : Nat := n * 1000000
/-- Microseconds in ns. -/
def us (n : Nat) : Nat := n * 1000

/-- Raise an event: SEQ one above the newest (R106: 1 after a cold start), epoch time (Table 3-6a); the queue keeps the
newest 4,096. -/
def raiseFull (s : Chip) (code cls : Nat) (sealedOnly : Bool) (obj objSub plat unit arg : Nat) : Chip :=
  let seq := (odN s 0x01120 0 + 1) % 2 ^ 32
  let e : Event := ⟨seq, epochNs s, code, cls, sealedOnly, obj, objSub, plat, unit, arg % 2 ^ 64⟩
  odSet { s with events := (e :: s.events).take 4096 } 0x01120 0 seq

/-- Raise an event that names no platform and no unit. -/
def raise (s : Chip) (e : Ev) (arg : Nat) : Chip := raiseFull s e.code e.cls false 0 0 0xFF 0xFFFF arg

/-- Raise an event of a platform. -/
def raiseP (s : Chip) (e : Ev) (plat arg : Nat) : Chip := raiseFull s e.code e.cls false 0 0 plat 0xFFFF arg

/-- Raise an event of a unit. -/
def raiseU (s : Chip) (e : Ev) (unit arg : Nat) : Chip := raiseFull s e.code e.cls false 0 0 0xFF unit arg

/-- Raise an event only the sealed domain may receive (R100). -/
def raiseSealed (s : Chip) (e : Ev) (arg : Nat) : Chip := raiseFull s e.code e.cls true 0 0 0xFF 0xFFFF arg

/-- A value the spec leaves open, fresh, of `w` bits (log 3). -/
def takeFree (s : Chip) (w : Nat) : Nat × Chip :=
  (Config.freeValue s.free w % 2 ^ w, { s with free := s.free + 1 })

/-- Send something out of the package. -/
def emit (s : Chip) (o : Output) : Chip := { s with out := s.out ++ [o] }

/-! ## Phases and dies -/

/-- OD 01.001, Table 6-10. -/
def devState (s : Chip) : Nat := odN s 0x01001 0

/-- Phase 5 or later: READY or SERVING (Table 6-3). -/
def phase5 (s : Chip) : Bool := devState s == 2 || devState s == 3

/-- Phase `n` of bring-up begins (OD 01.002, OD 01.003). -/
def phaseBegins (s : Chip) (n : Nat) : Chip := odSet (odSetBit s 0x01002 0 n true) 0x01003 n (nowNs s)

/-- OD 02.001, the power state E0 to E4 (Table 5-3). -/
def power (s : Chip) : Nat := odN s 0x02001 0

/-- Array die AD(d), 0 to 3, is lit. -/
def dieLit (s : Chip) (d : Nat) : Bool := tget false s.boot.dieLit (d + 1)

/-- The array die a signal is homed on, none: the hub (Table 19-2; 0x400 to 0xFFF on AD0 to AD3, 0x300 each). -/
def sigHome (sig : Nat) : Option Nat := if sig < 0x400 then none else some ((sig - 0x400) / 0x300)

/-- The state of a platform, OD 10.040 + n (Table 10-1). -/
def platState (s : Chip) (p : Nat) : Nat := odN s (0x10040 + p) 0

/-- The platform is ENABLED. -/
def platOn (s : Chip) (p : Nat) : Bool := platState s p == 1

/-- The epoch of a platform, OD 10.100 + n. -/
def platEpoch (s : Chip) (p : Nat) : Nat := odN s (0x10100 + p) 0

/-! ## Error records and fences (24) -/

/-- Unit type and instance counts of Table 24-2: the instance is listed. -/
def unitOk (u : Nat) : Bool :=
  let i := u % 4096
  match u / 4096 with
  | 0x1 => decide (i < 27)
  | 0x2 => decide (i < 16)
  | 0x3 => decide (i < 4)
  | 0x4 => decide (i / 32 < 8) && decide (i % 32 < 17)
  | 0x5 => decide (i < 256)
  | 0x6 => decide (i < 256)
  | 0x7 => decide (i < 256)
  | 0x8 => decide (i / 8 < 8) && decide (i % 8 < 5)
  | 0x9 => decide (i < 8)
  | 0xA => decide (i < 5)
  | 0xB => decide (i < 16)
  | 0xC => decide (i < 32)
  | 0xD => decide (i < 9)
  | 0xE => decide (i < 8)
  | _ => false

/-- The array die 0 to 3 a unit lies on, if it lies on one. -/
def unitDie (u : Nat) : Option Nat :=
  let i := u % 4096
  match u / 4096 with
  | 0x1 => if 16 ≤ i ∧ i < 24 then some ((i - 16) / 2) else none
  | 0x2 => some (i / 4)
  | 0x3 => some i
  | 0x5 => some (i / 64)
  | 0xA => if i = 0 then none else some (i - 1)
  | _ => none

/-- The unit is fenced (R592). -/
def fenced (s : Chip) (u : Nat) : Bool := s.faults.fences.any (fun f => f.unit == u)

/-- The unit has been retired. -/
def retired (s : Chip) (u : Nat) : Bool := s.faults.retired.contains u

/-- A unit the sealed domain holds (R591): T00 to T03, or a cipher core or cluster under lease. -/
def unitSealed (s : Chip) (u : Nat) : Bool :=
  let i := u % 4096
  match u / 4096 with
  | 0x1 => decide (i < 4)
  | 0x4 => bit (odN s 0x04040 1) (i / 32)
  | 0xE => bit (odN s 0x04040 1) i
  | _ => false

/-- Transients of cipher cores count against their pair, under its lower core (R595). -/
def transientKey (u : Nat) : Nat := if u / 4096 = 4 ∧ u % 32 < 16 then u / 2 * 2 else u

/-- Transients of a unit within the last 24 h of running time (R594). -/
def transientCount (s : Chip) (u : Nat) : Nat :=
  ((tget [] s.faults.transients (transientKey u)).filter (fun t => decide (nowNs s < t + 86400000000000))).length

/-- Events of a record: FAULT_RECORDED, and the copy of each platform named in PLATFORMS (R603). -/
def faultEvents (s : Chip) (r : ErrRec) : Chip :=
  let s := raiseFull s evFaultRecorded.code r.cls (bit r.flags 1) 0 0 0xFF r.unit
    (r.seq + r.unit * 2 ^ 32 + r.test * 2 ^ 48)
  (List.range 64).foldl (fun s p =>
    if bit r.plats p then raiseFull s evFaultRecorded.code r.cls false 0 0 p 0xFFFF (r.cls + 256 * r.detect) else s) s

/-- Count the record for each platform it names: OD 70.080 + n, by class (Table 24-8). -/
def faultCounts (s : Chip) (r : ErrRec) : Chip :=
  (List.range 64).foldl (fun s p => if bit r.plats p then odInc s (0x70080 + p) (r.cls - 1) else s) s

/-- A capacity object takes a new value: OD 01.048 counts it (Table 1-9). -/
def capacity (s : Chip) (obj v : Nat) : Chip :=
  if odN s obj 0 = v then s else odInc (odSet s obj 0 v) 0x01048 0

/-- What a fence shows: OD 08.001, OD 50.001, OD 50.005 and OD 52.001; a unit at work shows it once its work has ended. -/
def showFence (s : Chip) (unit : Nat) : Chip :=
  let i := unit % 4096
  match unit / 4096 with
  | 0x1 => if i < 24 ∧ odN s 0x08001 (i + 1) ≠ 0 then odSet s 0x08001 (i + 1) 4 else s
  | 0x2 => if odN s 0x50001 (i + 1) = 1 then odSet s 0x50001 (i + 1) 3 else s
  | 0x3 => if odN s 0x50005 (i + 1) = 1 then odSet s 0x50005 (i + 1) 3 else s
  | 0xB => if odN s 0x52001 (i + 1) = 0 then odSet s 0x52001 (i + 1) 2 else s
  | _ => s

/-- Write an error record (R589, R591) and fence the unit (R592, R598). A unit on a dark array die writes none (R604); a
port's record takes no test (R593). -/
def recordError (s : Chip) (cls detect unit addr plats detail : Nat) : Chip :=
  if (unitDie unit).any (fun d => !dieLit s d) then s else
  let merged := fenced s unit
  let port := unit / 4096 == 0xC
  let r : ErrRec := ⟨s.faults.nextSeq, cls, detect, unit, epochNs s, nowNs s, addr, plats, detail,
    if port || cls == 5 then 3 else 0, if cls == 5 then 3 else 0, transientCount s unit, 0,
    b2n merged + 2 * b2n (unitSealed s unit)⟩
  let fs : List Fence :=
    if port || cls == 5 then s.faults.fences
    else if merged then s.faults.fences.map (fun f => if f.unit == unit then { f with recs := f.recs ++ [r.seq] } else f)
    else s.faults.fences ++ [⟨unit, [r.seq], false, nowNs s, odN s 0x08001 (unit % 4096 + 1), 0⟩]
  let s := { s with faults := { s.faults with
    log := (r :: s.faults.log).take 1024, nextSeq := (s.faults.nextSeq + 1) % 2 ^ 32, fences := fs } }
  let s := odSet s 0x70021 0 fs.length
  let s := odSet s 0x70001 0 r.seq
  let s := odInc s 0x70003 (cls - 1)
  let s := if port || merged || cls == 5 then s else showFence s unit
  faultCounts (faultEvents s r) r

/-- The bit of a platform in PLATFORMS; none for the domains' own work. -/
def platBit (p : Nat) : Nat := if p < 64 then 2 ^ p else 0

end Sys2Proof.Machine
end

