-- ==== Sys2Proof/Machine/EgressNodes.lean ====
section
/-! DEFINITION. Sub-ports (13 R343), the node records of the egress hierarchy (14 Table 14-3) and the egress queues (R370). -/
namespace Sys2Proof.Machine

/-! ## Sub-ports -/

/-- BREAKOUT of a port: 2^value sub-ports (Table 13-1). -/
def breakout (s : Chip) (p : Nat) : Nat := odN s 0x20001 (p + 1)

/-- Index `i` is a sub-port of the current mode. -/
def subExists (s : Chip) (i : Nat) : Bool := decide (i < 16) && decide (i % 8 < 2 ^ breakout s (i / 8))

/-- Rate of a sub-port in Gb/s. -/
def subGbps (s : Chip) (i : Nat) : Nat := 800 / 2 ^ breakout s (i / 8)

/-- Link state of a sub-port, OD 20.005 [1:0]: 0 down, 1 training, 2 up. -/
def subState (s : Chip) (i : Nat) : Nat := odN s 0x20005 (i + 1) % 4

/-- Rate code of its mode: 1 for 100 Gb/s to 4 for 800 Gb/s. -/
def rateCode (s : Chip) (i : Nat) : Nat := 4 - breakout s (i / 8)

/-- Set its link word. -/
def setSubState (s : Chip) (i v : Nat) : Chip := odSet s 0x20005 (i + 1) (if v = 0 then 0 else rateCode s i * 256 + v)

/-- PORT_COUNTERS of a sub-port. -/
def portCount (s : Chip) (i sub n : Nat) : Chip := odAdd64 s (0x20100 + i) sub n

/-! ## Nodes -/

/-- Class `t` of sub-port `i`. -/
def tclNode (s : Chip) (i t : Nat) : Bytes := odB s (0x21080 + i) (t + 1)

/-- Group `g`. -/
def groupRec (s : Chip) (g : Nat) : Bytes := odB s (0x21100 + g / 16) (g % 16 + 1)

/-- Egress queue `q`. -/
def queueRec (s : Chip) (q : Nat) : Bytes := odB s (0x21400 + q / 16) (q % 16 + 1)

/-- GROUP of a queue. -/
def qGroup (s : Chip) (q : Nat) : Nat := fld (queueRec s q) 0 2

/-- LIMIT of a queue. -/
def qLimit (s : Chip) (q : Nat) : Nat := fld (queueRec s q) 8 4

/-- PACE of a queue. -/
def qPace (s : Chip) (q : Nat) : Nat := fld (queueRec s q) 12 4

/-- SUBPORT of a group. -/
def gSub (s : Chip) (g : Nat) : Nat := fld (groupRec s g) 0 1

/-- TCL of a group. -/
def gTcl (s : Chip) (g : Nat) : Nat := fld (groupRec s g) 1 1

/-! ## Queues -/

/-- The frames of a queue, oldest first. -/
def qFrames (s : Chip) (q : Nat) : List Frame := tget [] s.net.queues q

/-- Set them; an empty queue is not listed. -/
def setFrames (s : Chip) (q : Nat) (l : List Frame) : Chip := { s with net := { s.net with queues := tset [] s.net.queues q l } }

/-- Bytes of a queue. -/
def qBytes (s : Chip) (q : Nat) : Nat := ((qFrames s q).map (·.len)).sum

/-- A source's next frame of `n` bytes fits now (R370). -/
def qRoom (s : Chip) (q n : Nat) : Bool := decide (qBytes s q + n ≤ qLimit s q)

/-- Drops of OD 21.050 for a sub-port. -/
def tmDrop (s : Chip) (i n : Nat) : Chip := odAdd64 s 0x21050 (i % 16 + 1) n

/-- A frame enters a queue. One larger than LIMIT, or whose group names a sub-port that does not exist, is dropped and
counted (R370). -/
def enqueueFrame (s : Chip) (q : Nat) (f : Frame) : Chip :=
  let i := gSub s (qGroup s q)
  if qLimit s q < f.len ∨ !subExists s i then tmDrop s i 1
  else setFrames s q (qFrames s q ++ [f])

/-- An in-band answer goes out through OD 21.010:i + 1, whose group must lie on the sub-port in class OD 06.025 (R372).
A frame has 14 bytes of Ethernet, 4 of tag where the sub-port has a VID, 20 or 40 of IP, 8 of UDP and 4 of FCS around it. -/
def inbandSend (s : Chip) (i : Nat) (peer4 : Bool) (pdu : Bytes) : Chip :=
  let q := odN s 0x21010 (i + 1)
  let g := qGroup s q
  if gSub s g = i ∧ gTcl s g = odN s 0x06025 0 then
    let n := 14 + (if odN s 0x20016 (i + 1) = 0 then 0 else 4) + (if peer4 then 20 else 40) + 8 + pdu.length + 4
    enqueueFrame s q ⟨max 64 n, nowNs s, none, pdu, none⟩
  else tmDrop s i 1

end Sys2Proof.Machine
end

