-- ==== Sys2Proof/Machine/Memory.lean ====
section
/-! DEFINITION. Device memory, poison, the platform cache and host memory (12 R323, R328 to R341; 11 R294, R301). Device
memory holds the bytes every agent reads; a dirty cache sector keeps beside it the bytes of its last write-back, which
only a drop by LAST can bring back (R338). -/
namespace Sys2Proof.Machine

/-! ## Cells -/

/-- Sparse memory: addresses rise, and no listed byte is the 0 an unlisted address reads as (log 9). -/
abbrev Memory := List Host.Cell

/-- The canonical form. -/
def Memory.wf (m : Memory) : Bool := tsorted m && m.all (fun c => c.2 != 0)

/-- The byte at an address. -/
def memGet (m : Memory) (a : Nat) : Byte := tget 0 m a

/-- The memory with one byte written. -/
def memPut (m : Memory) (a : Nat) (b : Byte) : Memory := tset 0 m a b

/-- `n` bytes from an address. -/
def memRead (m : Memory) (a n : Nat) : Bytes := (List.range n).map (fun i => memGet m (a + i))

/-- The memory with bytes written from an address. -/
def memWrite (m : Memory) (a : Nat) : Bytes → Memory
  | [] => m
  | b :: r => memWrite (memPut m a b) (a + 1) r

/-- The memory with `n` bytes from an address zeroed. -/
def memZero (m : Memory) (a n : Nat) : Memory := m.filter (fun c => decide (c.1 < a) || decide (a + n ≤ c.1))

/-! ## The address map, Table 12-1 -/

/-- Regions of device physical memory. -/
inductive Region where
  | near
  | context
  | staging (d : Nat)
  | far
  | none
deriving DecidableEq, Repr

/-- The region of an address. -/
def regionOf (a : Nat) : Region :=
  if a < 191998459904 then .near
  else if 0x003000000000 ≤ a ∧ a < 0x003080000000 then .context
  else if 0x004000000000 ≤ a ∧ a < 0x004400000000 ∧ a % 0x100000000 < 0x4000000 then
    .staging ((a - 0x004000000000) / 0x100000000)
  else if 0x010000000000 ≤ a ∧ a < 0x030000000000 then .far
  else .none

/-- Granule size, 2 MiB. -/
abbrev granule : Nat := 2097152

/-- The port of a far-tier address, 0 to 3 (R333). -/
def farPort (a : Nat) : Nat := ((a - 0x010000000000) / granule) % 4

/-- Its expander address (R333). -/
def farAddr (a : Nat) : Nat := ((a - 0x010000000000) / granule / 4) * granule + a % granule

/-- What an access to an address meets: memory, nothing (R323), memory out of service that fails reads and discards
writes (R317, R328), or a staging SRAM of a dark die. -/
inductive Backing where
  | present
  | absent
  | lost
deriving DecidableEq, Repr

/-- The backing of an address. -/
def backing (s : Chip) (a : Nat) : Backing :=
  match regionOf a with
  | .none => .absent
  | .near => if s.mem.retired.contains (a / granule) then .lost else .present
  | .context => .present
  | .staging d => if dieLit s d then .present else .lost
  | .far =>
    let p := farPort a
    if odN s 0x11032 (p + 1) ≤ farAddr a then .absent
    else if odN s 0x11031 (p + 1) % 4 ≠ 2 ∨ s.ports.farOut.contains p then .lost
    else .present

/-! ## Poison, per 32-byte unit (R330) -/

/-- Some unit of the range is poisoned. -/
def poisoned (s : Chip) (a n : Nat) : Bool :=
  s.mem.poison.any (fun p => p.2 && decide (a / 32 ≤ p.1) && decide (p.1 ≤ (a + n - 1) / 32) && decide (0 < n))

/-- Mark or clear one unit. -/
def setPoison (s : Chip) (u : Nat) (v : Bool) : Chip :=
  { s with mem := { s.mem with poison := if v then tput s.mem.poison u true else tdel s.mem.poison u } }

/-- Mark every unit of a range. -/
def markPoison (s : Chip) (a n : Nat) : Chip :=
  if n = 0 then s else
  (List.range ((a + n - 1) / 32 + 1 - a / 32)).foldl (fun s i => setPoison s (a / 32 + i) true) s

/-- A write clears the poison of every unit it covers whole. -/
def clearPoison (s : Chip) (a n : Nat) : Chip :=
  { s with mem := { s.mem with
    poison := s.mem.poison.filter (fun p => !(decide (a ≤ 32 * p.1) && decide (32 * p.1 + 32 ≤ a + n))) } }

/-! ## The platform cache -/

/-- The cache set of an address (R334). -/
def cacheSet (a : Nat) : Nat := (bits a 23 7) ^^^ (bits a 40 24)

/-- The platform cache holds lines of the near and far tiers only (R334). -/
def cacheable (a : Nat) : Bool :=
  match regionOf a with
  | .near => true
  | .far => true
  | _ => false

/-- Ways of a set in service: 16 less the retired way groups of its bank (R596). -/
def waysOf (s : Chip) (set : Nat) : Nat :=
  16 - (s.faults.retired.filter (fun u => u / 4096 == 6 && (u % 4096) / 16 == set / 8192)).length

/-- The valid lines of a set. -/
def setLines (s : Chip) (set : Nat) : Table Line := s.mem.cache.filter (fun l => cacheSet (l.1 * 128) == set)

/-- The least recently used of some lines. -/
def lru (l : Table Line) : Option Nat :=
  (l.foldl (fun (b : Option (Nat × Nat)) x =>
    match b with
    | none => some (x.1, x.2.used)
    | some y => if x.2.used < y.2 then some (x.1, x.2.used) else some y) none).map (·.1)

/-- Remove a line, counting the write-back of each dirty sector. -/
def evict (s : Chip) (ln : Nat) : Chip :=
  match tget? s.mem.cache ln with
  | none => s
  | some l =>
    let s := odAdd64 s 0x41020 3 (b2n l.dirty0 + b2n l.dirty1)
    { s with mem := { s.mem with cache := tdel s.mem.cache ln } }

/-- Make room for a line of retention `ret` in its set, in the order of R337. -/
def makeRoom (s : Chip) (ln ret : Nat) : Chip :=
  let ls := setLines s (cacheSet (ln * 128))
  let keep := ls.filter (fun l => l.2.ret == 1)
  if ret = 1 ∧ odN s 0x41010 0 ≤ keep.length then
    match lru keep with
    | some v => evict s v
    | none => s
  else if ls.length < waysOf s (cacheSet (ln * 128)) then s
  else
    match lru (ls.filter (fun l => l.2.ret == 2)) with
    | some v => evict s v
    | none =>
      match lru (ls.filter (fun l => l.2.ret == 0)) with
      | some v => evict s v
      | none => match lru ls with
        | some v => evict s v
        | none => s

/-- The line under `ln`, allocated for a platform where it is not present. -/
def lineFor (s : Chip) (ln ret plat : Nat) : Chip :=
  match tget? s.mem.cache ln with
  | some _ => s
  | none =>
    let s := makeRoom s ln ret
    { s with mem := { s.mem with cache := tput s.mem.cache ln ⟨false, false, false, false, [], [], ret, plat, s.mem.stamp⟩ } }

/-- Count a hit or a miss, for the device and for the platform. -/
def countHit (s : Chip) (hit : Bool) (plat : Nat) : Chip :=
  let k := if hit then 1 else 2
  let s := odAdd64 s 0x41020 k 1
  if plat < 64 then odAdd64 s (0x41080 + plat) k 1 else s

/-- The line is used now. -/
def touch (s : Chip) (ln : Nat) (f : Line → Line) : Chip :=
  match tget? s.mem.cache ln with
  | none => s
  | some l => { s with mem := { s.mem with
      cache := tput s.mem.cache ln { f l with used := s.mem.stamp }, stamp := s.mem.stamp + 1 } }

/-- Whether a sector is held. -/
def sectorHeld (s : Chip) (ln sec : Nat) : Bool :=
  match tget? s.mem.cache ln with
  | none => false
  | some l => if sec = 0 then l.valid0 else l.valid1

/-- The hint in force: a platform access whose hint is cleared in OD 41.040 + n counts as NORMAL (R336). -/
def hintFor (s : Chip) (hint plat : Nat) : Nat :=
  if hint = 0 then 0 else if plat < 64 ∧ !bit (odN s (0x41040 + plat) 0) (hint - 1) then 0 else hint

/-- Retention given by a hint: KEEP elevated, a write with LAST first to go (Table 12-5); in a device without KEEP ways
KEEP allocates as NORMAL. -/
def retOf (s : Chip) (hint : Nat) (write : Bool) : Nat :=
  if hint = 2 ∧ 0 < odN s 0x41010 0 then 1 else if hint = 3 ∧ write then 2 else 0

/-- One dirty sector of a dropped line: whether an eviction wrote it back before is open (R338); if not, its bytes are
again those of the last write-back. -/
def dropSector (s : Chip) (a : Nat) (back : Bytes) : Chip :=
  let f := takeFree s 1
  if f.1 = 1 then f.2 else { f.2 with mem := { f.2.mem with dev := memWrite f.2.mem.dev a back } }

/-- A LAST access drops its whole line after the access (R338). -/
def dropLine (s : Chip) (ln plat : Nat) : Chip :=
  match tget? s.mem.cache ln with
  | none => s
  | some l =>
    let s := { s with mem := { s.mem with cache := tdel s.mem.cache ln } }
    let s := if l.dirty0 || l.dirty1 then
        let s := odAdd64 s 0x41020 4 1
        if plat < 64 then odAdd64 s (0x41080 + plat) 3 1 else s
      else s
    let s := if l.dirty0 then dropSector s (ln * 128) l.back0 else s
    if l.dirty1 then dropSector s (ln * 128 + 64) l.back1 else s

/-- What the cache does on a read of one sector by a hub agent, or by an array die whose access the directory forwards
(Table 12-5, R335). -/
def cacheRead (s : Chip) (ln sec hint plat : Nat) : Chip :=
  let held := sectorHeld s ln sec
  let had := (tget? s.mem.cache ln).isSome
  let s := countHit s held plat
  if hint = 3 ∧ had then dropLine s ln plat
  else if hint = 1 then touch s ln id
  else
    let s := lineFor s ln (retOf s hint false) plat
    touch s ln (fun l => { l with
      valid0 := l.valid0 || sec == 0, valid1 := l.valid1 || sec == 1, ret := if hint = 2 then retOf s hint false else l.ret })

/-- What the cache does on a write of one sector, before the bytes change (Table 12-5, R334). -/
def cacheWrite (s : Chip) (ln sec hint plat : Nat) : Chip :=
  let held := sectorHeld s ln sec
  let s := countHit s held plat
  if hint = 1 ∧ !held then s
  else
    let old := memRead s.mem.dev (ln * 128 + 64 * sec) 64
    let s := lineFor s ln (retOf s hint true) plat
    touch s ln (fun l =>
      if sec = 0 then { l with valid0 := true, dirty0 := true, back0 := if l.dirty0 then l.back0 else old,
                               ret := if hint = 1 then l.ret else retOf s hint true }
      else { l with valid1 := true, dirty1 := true, back1 := if l.dirty1 then l.back1 else old,
                    ret := if hint = 1 then l.ret else retOf s hint true })

/-- The sectors an access of `n` bytes touches, as line and sector numbers. -/
def sectorsOf (a n : Nat) : List (Nat × Nat) :=
  if n = 0 then [] else
  (List.range ((a + n - 1) / 64 + 1 - a / 64)).map (fun i => ((a / 64 + i) / 2, (a / 64 + i) % 2))

/-- An access goes through the cache: all hub accesses, far-tier accesses of any die, and accesses of an array die that the
directory forwards because the line is present (R335). `die`: 0 hub, 1 to 4 array die. -/
def throughCache (s : Chip) (a die : Nat) : Bool :=
  cacheable a && (die == 0 || regionOf a == .far || (tget? s.mem.cache (a / 128)).isSome)

/-- The cache's part of an access, sector by sector. -/
def cacheAccess (s : Chip) (a n hint plat die : Nat) (write : Bool) : Chip :=
  (sectorsOf a n).foldl (fun s x =>
    if throughCache s (x.1 * 128) die then
      let s := if die ≠ 0 ∧ regionOf a ≠ .far then odAdd64 s 0x41020 5 1 else s
      if write then cacheWrite s x.1 x.2 hint plat else cacheRead s x.1 x.2 hint plat
    else s) s

/-- Drop every cached line of an address range without write-back (R341). -/
def dropRange (s : Chip) (a n : Nat) : Chip :=
  { s with mem := { s.mem with
    cache := s.mem.cache.filter (fun l => decide (l.1 * 128 + 128 ≤ a) || decide (a + n ≤ l.1 * 128)) } }

/-! ## Accesses to device physical addresses -/

/-- What an access meets: done, refused (outside every region, R323), or a data error (R330, R317, R328). -/
inductive MemRes where
  | ok (b : Bytes) (s : Chip)
  | refused
  | dataError (s : Chip)
deriving DecidableEq, Repr

/-- A read of device memory. -/
def devRead (s : Chip) (a n hint plat die : Nat) : MemRes :=
  if n = 0 then .ok [] s else
  match backing s a, backing s (a + n - 1) with
  | .present, .present =>
    if poisoned s a n then .dataError s
    else .ok (memRead s.mem.dev a n) (cacheAccess s a n (hintFor s hint plat) plat die false)
  | .absent, _ => .refused
  | _, .absent => .refused
  | _, _ => .dataError s

/-- Bytes put into device memory. -/
def putBytes (s : Chip) (a : Nat) (b : Bytes) : Chip := { s with mem := { s.mem with dev := memWrite s.mem.dev a b } }

/-- A write to device memory; out of service, it is discarded and counted as refused (R317, R328). -/
def devWrite (s : Chip) (a : Nat) (b : Bytes) (hint plat die : Nat) : MemRes :=
  if b.length = 0 then .ok [] s else
  match backing s a, backing s (a + b.length - 1) with
  | .present, .present =>
    .ok [] (clearPoison (putBytes (cacheAccess s a b.length (hintFor s hint plat) plat die true) a b) a b.length)
  | .absent, _ => .refused
  | _, .absent => .refused
  | _, _ => .ok [] (if plat < 64 then odInc s (0x10180 + plat) 1 else s)

/-- A whole range zeroed: its cached lines are dropped first, its poison ends (R272, R341). -/
def zeroRange (s : Chip) (a n : Nat) : Chip :=
  let s := dropRange s a n
  clearPoison { s with mem := { s.mem with dev := memZero s.mem.dev a n } } a n

/-! ## Functions and host memory (11) -/

/-- A function after a reset of its link. -/
def Fn.off : Fn := ⟨false, 0, false, false, false, false, [], []⟩

/-- A function's state. -/
def fnOf (s : Chip) (f : Nat) : Fn := tget Fn.off s.ports.fns f

/-- A function's state set. -/
def setFn (s : Chip) (f : Nat) (v : Fn) : Chip := { s with ports := { s.ports with fns := tput s.ports.fns f v } }

/-- Host port of a platform, OD 10.080 + p subindex 1. -/
def hostPort (s : Chip) (p : Nat) : Nat := odN s (0x10080 + p) 1

/-- VF number of a platform, OD 10.080 + p subindex 2. -/
def vfNumber (s : Chip) (p : Nat) : Nat := odN s (0x10080 + p) 2

/-- The port is bifurcated (R292). -/
def bifurcated (s : Chip) (h : Nat) : Bool := tget false s.ports.bifur h

/-- The host link of VF number `v` on port `h` (R294). -/
def vfLink (s : Chip) (h v : Nat) : Nat := 2 * h + (if bifurcated s h ∧ 32 < v then 1 else 0)

/-- The number of the VF on its own link (R294). -/
def vfOnLink (s : Chip) (h v : Nat) : Nat := if bifurcated s h ∧ 32 < v then v - 32 else v

/-- The VF number is enabled: VF Enable of its link's physical function is set and NumVFs covers it (R294). -/
def vfEnabled (s : Chip) (h v : Nat) : Bool :=
  let f := fnOf s (vfLink s h v)
  f.vfEnable && decide (1 ≤ v) && decide (vfOnLink s h v ≤ f.numVfs) && decide (v ≤ 64)

/-- The function number of a platform's VF. -/
def fnOfPlat (s : Chip) (p : Nat) : Nat := 100 + 64 * hostPort s p + vfNumber s p

/-- The host link of a platform. -/
def linkOfPlat (s : Chip) (p : Nat) : Nat := vfLink s (hostPort s p) (vfNumber s p)

/-- PERST# is asserted on the host port. -/
def perstOn (s : Chip) (h : Nat) : Bool := tget false s.boot.perst h

/-- The state of a host link, OD 11.003:i+1 [1:0]. -/
def hostLinkUp (s : Chip) (i : Nat) : Bool := odN s 0x11003 (i + 1) % 4 == 2

/-- The platform has its function: link up, VF enabled. -/
def hasFn (s : Chip) (p : Nat) : Bool :=
  hostLinkUp s (linkOfPlat s p) && vfEnabled s (hostPort s p) (vfNumber s p) && !perstOn s (hostPort s p)

/-- The device may issue requests for the platform's function (R301). -/
def mayMaster (s : Chip) (p : Nat) : Bool := hasFn s p && (fnOf s (fnOfPlat s p)).bme

/-- Host memory of a port: a bus address as a key. -/
def hostKey (h a : Nat) : Nat := 2 ^ 64 * h + a

/-- Bytes of host memory. -/
def hostRead (s : Chip) (h a n : Nat) : Bytes := memRead s.mem.host (hostKey h a) n

/-- Bytes written to host memory. -/
def hostWrite (s : Chip) (h a : Nat) (b : Bytes) : Chip :=
  { s with mem := { s.mem with host := memWrite s.mem.host (hostKey h a) b } }

/-- An MSI-X message of function `f` on host link `i`: discarded without Bus Master Enable (R301), pending while masked
(R308), else sent. -/
def msix (s : Chip) (f i vec : Nat) : Chip :=
  let x := fnOf s f
  if !x.bme then odInc s 0x11051 (i + 1)
  else if x.fnMask || !x.unmasked.contains vec then
    setFn s f { x with pend := if x.pend.contains vec then x.pend else x.pend ++ [vec] }
  else emit s (.msix f vec)

/-- An MSI-X message of a platform's function. -/
def msixPlat (s : Chip) (p vec : Nat) : Chip := msix s (fnOfPlat s p) (linkOfPlat s p) vec

end Sys2Proof.Machine
end

