-- ==== Sys2Proof/Machine/Translate.lean ====
section
/-! DEFINITION. The translation unit (10 R273 to R277) and the boundary rule (R278, R279): every transfer an engine makes
for a platform, and transfers of the sealed and open domains at device physical addresses (R35). -/
namespace Sys2Proof.Machine

/-- Bit fields of a translation entry (Table 10-2). -/
def teV (e : Nat) : Bool := bit e 63
/-- LEAF -/
def teLeaf (e : Nat) : Bool := bit e 62
/-- H -/
def teHost (e : Nat) : Bool := bit e 61
/-- P64 -/
def teP64 (e : Nat) : Bool := bit e 60
/-- W -/
def teW (e : Nat) : Bool := bit e 59
/-- R -/
def teR (e : Nat) : Bool := bit e 58
/-- ADDR -/
def teAddr (e : Nat) : Nat := bits e 51 12 * 4096
/-- Reserved bits are zero. -/
def teRsv (e : Nat) : Bool := bits e 57 52 == 0 && bits e 11 0 == 0

/-- Read a table entry through the cache (R335). -/
def readEntry (s : Chip) (a plat : Nat) : MemRes := devRead s a 8 0 plat 0

/-- A table lies wholly in the table region OD 10.013. -/
def inTables (s : Chip) (a : Nat) : Bool :=
  let base := odFld s 0x10013 0 0 8
  let len := odFld s 0x10013 0 8 8
  decide (base ≤ a) && decide (a + 4096 ≤ base + len)

/-- The owner of the granule of a device physical address. -/
def granuleOwner (s : Chip) (a : Nat) : Option Nat := tget? s.plats.owner (a / granule)

/-- A leaf for the 4 KiB page of an address, as a level-0 entry; or the cause of Table 10-3. -/
inductive Walk where
  | leaf (e : Nat) (s : Chip)
  | fault (cause : Nat) (s : Chip)
deriving DecidableEq, Repr

/-- A 4 KiB leaf equivalent to part `off` of a larger one. -/
def leafPart (e off : Nat) : Nat := e + off

/-- A leaf found at level 1 (R273): ADDR[20:12] zero; a device leaf maps one granule of the platform. -/
def leaf1 (s : Chip) (plat a e : Nat) : Walk :=
  if bits e 20 12 ≠ 0 ∨ teP64 e then .fault 3 s
  else if !teHost e && granuleOwner s (teAddr e) != some plat then .fault 4 s
  else .leaf (leafPart e (bits a 20 12 * 4096)) s

/-- A leaf found at level 0 (R273): a part of a 64 KiB page agrees with the page's first entry. -/
def leaf0 (s : Chip) (plat a e table : Nat) : Walk :=
  let own := !teHost e && granuleOwner s (teAddr e) != some plat
  if !teP64 e then (if own then .fault 4 s else .leaf e s)
  else
    let i := bits a 15 12
    match readEntry s (table + 8 * (bits a 20 16 * 16)) plat with
    | .ok b s =>
      let f := leNat b
      if teP64 f && teV f == teV e && teR f == teR e && teW f == teW e && teHost f == teHost e
          && teAddr f % 65536 == 0 && teAddr e == teAddr f + 4096 * i && teRsv f then
        (if own then .fault 4 s else .leaf e s)
      else .fault 3 s
    | .refused => .fault 6 s
    | .dataError s => .fault 6 s

/-- The walk from a table at `level` (R274). -/
def walkFrom (s : Chip) (plat a table : Nat) : Nat → Walk
  | 0 =>
    if !inTables s table then .fault 3 s else
    match readEntry s (table + 8 * bits a 20 12) plat with
    | .ok b s =>
      let e := leNat b
      if !teV e then .fault 1 s else if !teRsv e || !teLeaf e then .fault 3 s else leaf0 s plat a e table
    | .refused => .fault 6 s
    | .dataError s => .fault 6 s
  | n + 1 =>
    if !inTables s table then .fault 3 s else
    match readEntry s (table + 8 * (bits a (20 + 9 * (n + 1)) (12 + 9 * (n + 1)))) plat with
    | .ok b s =>
      let e := leNat b
      if !teV e then .fault 1 s
      else if !teRsv e then .fault 3 s
      else if teLeaf e then (if n = 0 then leaf1 s plat a e else .fault 3 s)
      else walkFrom s plat a (teAddr e) n
    | .refused => .fault 6 s
    | .dataError s => .fault 6 s

/-- The walk of a platform's tables, from the root OD 10.0C0 + n. -/
def walk (s : Chip) (plat a : Nat) : Walk := walkFrom s plat a (odN s (0x100C0 + plat) 0) 3

/-- The number of a cached leaf: platform and page (R275). -/
def tlbKey (plat a : Nat) : Nat := 2 ^ 36 * plat + a / 4096

/-- The leaf an access uses: a cached one that the tables no longer give is old or new, which is open (R276). -/
def lookup (s : Chip) (plat a : Nat) : Walk :=
  let w := walk s plat a
  match tget? s.plats.tlb (tlbKey plat a) with
  | none =>
    match w with
    | .leaf e s => .leaf e { s with plats := { s.plats with tlb := tput s.plats.tlb (tlbKey plat a) e } }
    | .fault c s => .fault c s
  | some e =>
    match w with
    | .leaf e' s' =>
      if e' = e then w
      else let f := takeFree s' 1; if f.1 = 0 then .leaf e f.2 else .leaf e' f.2
    | .fault c s' => let f := takeFree s' 1; if f.1 = 0 then .leaf e f.2 else .fault c f.2

/-- A translated address: device memory, or the memory of the platform's host port. -/
inductive Target where
  | dev (a : Nat) (s : Chip)
  | host (h a : Nat) (s : Chip)
  | fault (cause : Nat) (s : Chip)
deriving DecidableEq, Repr

/-- Translate one access (R274, R301). -/
def translate (s : Chip) (plat a : Nat) (write : Bool) : Target :=
  if !platOn s plat then .fault 7 s
  else if 2 ^ 48 ≤ a then .fault 3 s
  else
    match lookup s plat a with
    | .fault c s => .fault c s
    | .leaf e s =>
      if (if write then !teW e else !teR e) then .fault 2 s
      else if teHost e then
        (if mayMaster s plat then .host (hostPort s plat) (teAddr e + a % 4096) s else .fault 7 s)
      else .dev (teAddr e + a % 4096) s

/-- A platform fault record, its count and its event (R277, Table 10-4). -/
def xlateFault (s : Chip) (plat a cause unit len : Nat) (write : Bool) : Chip :=
  let r := leBytes 8 (epochNs s) ++ leBytes 8 a ++ leBytes 2 (platEpoch s plat) ++ leBytes 1 cause
    ++ leBytes 1 (b2n write) ++ leBytes 2 unit ++ zeros 2 ++ leBytes 4 len ++ zeros 4
  let s := odSetB s (0x10140 + plat) 0 r
  raiseP (odInc s (0x10180 + plat) 1) evXlateFault plat a

/-! ## Transfers -/

/-- For whom an engine acts: a platform; the open domain, at device physical addresses within its ranges OD 08.020 (R35,
17 R437); or the device itself and the sealed domain, at device physical addresses. -/
inductive Agent where
  | plat (p : Nat)
  | opn
  | phys
deriving DecidableEq, Repr

/-- The platform number of an agent; 64 for none. -/
def Agent.num : Agent → Nat
  | .plat p => p
  | _ => 64

/-- The agent of an OWNER or PLATFORM value: a platform, or the open domain. -/
def agentOf (owner : Nat) : Agent := if owner < 64 then .plat owner else .opn

/-- A device physical range lies within one range of OD 08.020. -/
def inOpenRanges (s : Chip) (a n : Nat) : Bool :=
  (List.range 8).any (fun i =>
    let b := odFld s 0x08020 (i + 1) 0 8
    let l := odFld s 0x08020 (i + 1) 8 8
    decide (b ≤ a) && decide (a + n ≤ b + l))

/-- Where the transactions of an engine may go, beyond translation: anywhere; near tier and the staging SRAM of one die
(18 R456); near or far tier; near tier or any staging SRAM (20 R507). -/
inductive Reach where
  | any
  | die (d : Nat)
  | tiers
  | local_
deriving DecidableEq, Repr

/-- A device physical address is within reach. -/
def Reach.ok : Reach → Region → Bool
  | .any, _ => true
  | .die _, .near => true
  | .die d, .staging e => d == e
  | .tiers, .near => true
  | .tiers, .far => true
  | .local_, .near => true
  | .local_, .staging _ => true
  | _, _ => false

/-- A bound in addition to translation (10, The boundary rule): the first permitted address, the one behind the last, and
the reach. -/
structure Bound where
  lo : Nat
  hi : Nat
  reach : Reach
deriving DecidableEq, Repr

/-- No bound. -/
def Bound.free : Bound := ⟨0, 2 ^ 64, .any⟩

/-- The first address of a transaction that the bound forbids. -/
def boundFault (b : Bound) (a n : Nat) : Option Nat :=
  if a < b.lo then some a else if b.hi < a + n then some (max a b.hi) else none

/-- Transactions of at most 4 KiB that cross no 4 KiB boundary (R278), as addresses and lengths. -/
def pieces : Nat → Nat → Nat → List (Nat × Nat)
  | 0, _, _ => []
  | fuel + 1, a, n =>
    if n = 0 then [] else
    let k := min n (4096 - a % 4096)
    (a, k) :: pieces fuel (a + k) (n - k)

/-- The pieces of a transfer. -/
def transactions (a n : Nat) : List (Nat × Nat) := pieces (n / 4096 + 2) a n

/-- The outcome of one transaction or transfer: `st` 0 done, 1 access fault, 2 data error; the bytes read or the number of
bytes of the longest prefix done. -/
structure Xfer where
  st : Nat
  bytes : Bytes
  count : Nat
  s : Chip
deriving DecidableEq, Repr

/-- One checked transaction, before it is issued: where it goes, or the first forbidden address with its cause. -/
def checkOne (s : Chip) (g : Agent) (a n : Nat) (write : Bool) (b : Bound) : Target × Nat :=
  match boundFault b a n with
  | some x =>
    match g with
    | .plat p =>
      match translate s p a write with
      | .fault c s => (.fault c s, a)
      | .dev _ s => (.fault 5 s, x)
      | .host _ _ s => (.fault 5 s, x)
    | _ => (.fault 5 s, x)
  | none =>
    match g with
    | .phys => (if b.reach.ok (regionOf a) then .dev a s else .fault 5 s, a)
    | .opn => (if inOpenRanges s a n && b.reach.ok (regionOf a) then .dev a s else .fault 5 s, a)
    | .plat p =>
      match translate s p a write with
      | .dev x s => (if b.reach.ok (regionOf x) then .dev x s else .fault 5 s, a)
      | .host h x s => (if b.reach = .any then .host h x s else .fault 5 s, a)
      | .fault c s => (.fault c s, a)

/-- One read transaction. -/
def readOne (s : Chip) (g : Agent) (a n hint die : Nat) (b : Bound) : Xfer × Nat × Nat :=
  match checkOne s g a n false b with
  | (.fault c s, x) => (⟨1, [], 0, s⟩, x, c)
  | (.host h x s, _) => (⟨0, hostRead s h x n, n, s⟩, a, 0)
  | (.dev x s, _) =>
    match devRead s x n hint g.num die with
    | .ok v s => (⟨0, v, n, s⟩, a, 0)
    | .refused => (⟨1, [], 0, s⟩, a, 4)
    | .dataError s => (⟨2, [], 0, s⟩, a, 0)

/-- One write transaction. -/
def writeOne (s : Chip) (g : Agent) (a : Nat) (v : Bytes) (hint die : Nat) (b : Bound) : Xfer × Nat × Nat :=
  match checkOne s g a v.length true b with
  | (.fault c s, x) => (⟨1, [], 0, s⟩, x, c)
  | (.host h x s, _) => (⟨0, [], v.length, hostWrite s h x v⟩, a, 0)
  | (.dev x s, _) =>
    match devWrite s x v hint g.num die with
    | .ok _ s => (⟨0, [], v.length, s⟩, a, 0)
    | .refused => (⟨1, [], 0, s⟩, a, 4)
    | .dataError s => (⟨2, [], 0, s⟩, a, 0)

/-- The record of a descriptor ended by R279, which only a platform has. -/
def descFault (s : Chip) (g : Agent) (x cause unit len : Nat) (write : Bool) : Chip :=
  match g with
  | .plat p => odInc (xlateFault s p x cause unit len write) (0x10180 + p) 2
  | _ => s

/-- Read transactions in order, up to the first that fails. -/
def readAll (s : Chip) (g : Agent) (hint die unit : Nat) (b : Bound) : List (Nat × Nat) → Xfer
  | [] => ⟨0, [], 0, s⟩
  | (a, n) :: r =>
    let x := readOne s g a n hint die b
    if x.1.st = 0 then
      let y := readAll x.1.s g hint die unit b r
      ⟨y.st, x.1.bytes ++ y.bytes, n + y.count, y.s⟩
    else if x.1.st = 1 then ⟨1, [], 0, descFault x.1.s g x.2.1 x.2.2 unit n false⟩
    else x.1

/-- Read `n` bytes for an agent (R278, R279): everything, or the prefix that was done. -/
def xferRead (s : Chip) (g : Agent) (a n hint die unit : Nat) (b : Bound) : Xfer :=
  readAll s g hint die unit b (transactions a n)

/-- Writes beyond the first rejected transaction: which permitted ones are done is open (R279). -/
def writeRest (s : Chip) (g : Agent) (hint die : Nat) (b : Bound) (base : Nat) (v : Bytes) : List (Nat × Nat) → Chip
  | [] => s
  | (a, n) :: r =>
    let f := takeFree s 1
    if f.1 = 0 then writeRest f.2 g hint die b base v r
    else writeRest (writeOne f.2 g a ((v.drop (a - base)).take n) hint die b).1.s g hint die b base v r

/-- Write transactions in order. -/
def writeAll (s : Chip) (g : Agent) (hint die unit : Nat) (b : Bound) (base : Nat) (v : Bytes) : List (Nat × Nat) → Xfer
  | [] => ⟨0, [], 0, s⟩
  | (a, n) :: r =>
    let x := writeOne s g a ((v.drop (a - base)).take n) hint die b
    if x.1.st = 0 then
      let y := writeAll x.1.s g hint die unit b base v r
      ⟨y.st, [], n + y.count, y.s⟩
    else if x.1.st = 1 then
      ⟨1, [], 0, writeRest (descFault x.1.s g x.2.1 x.2.2 unit n true) g hint die b base v r⟩
    else x.1

/-- Write bytes for an agent (R278, R279). -/
def xferWrite (s : Chip) (g : Agent) (a : Nat) (v : Bytes) (hint die unit : Nat) (b : Bound) : Xfer :=
  writeAll s g hint die unit b a v (transactions a v.length)

/-- Unit numbers of the hub engine blocks (Table 24-2). -/
abbrev uStorage : Nat := 0xD000
/-- remote memory -/
abbrev uRdma : Nat := 0xD001
/-- translation -/
abbrev uXlate : Nat := 0xD002
/-- cipher scheduler -/
abbrev uCipher : Nat := 0xD003
/-- relay -/
abbrev uRelay : Nat := 0xD004
/-- hub dispatch -/
abbrev uDispatch : Nat := 0xD007

end Sys2Proof.Machine
end

