-- ==== Sys2Proof/Machine/Deliver.lean ====
section
/-! DEFINITION. The bytes of an answer (04 Tables 4-2, 4-4) and where it goes: the answer buffer of a core's OD fast port
(08 R229), or the answer ring of a mailbox (10 R281, R282, Table 10-7). -/
namespace Sys2Proof.Machine

/-! ## PDUs -/

/-- A value padded to a multiple of 4 bytes. -/
def padded (b : Bytes) : Bytes := b ++ zeros ((4 - b.length % 4) % 4)

/-- The bytes of an entry (Table 4-4). -/
def entryBytes (e : Entry) : Bytes :=
  leBytes 1 (e.obj / 4096) ++ leBytes 2 (e.obj % 4096) ++ leBytes 1 e.sub ++ leBytes 1 e.type ++ leBytes 1 e.op
    ++ leBytes 2 e.val.length ++ padded e.val

/-- The PDU of an answer (Table 4-2), without a TAG. -/
def answerPdu (rq : Rq) (svc : Nat) (a : Answer) : Bytes :=
  let es := (a.es.map entryBytes).flatten
  leBytes 1 1 ++ leBytes 1 (if rq.tagged then 0xC0 else 0x80) ++ leBytes 1 svc ++ leBytes 1 a.status ++ leBytes 2 rq.seq ++ leBytes 2 rq.session
    ++ leBytes 1 0 ++ leBytes 1 a.es.length ++ leBytes 2 0 ++ leBytes 2 es.length ++ leBytes 1 a.fail ++ leBytes 1 0 ++ es

/-! ## The OD fast port -/

/-- A core's registers and memories. -/
def coreOf (s : Chip) (t : Nat) : Core := tget Core.off s.cores t

/-- Set them. -/
def setCore (s : Chip) (t : Nat) (c : Core) : Chip := { s with cores := tput s.cores t c }

/-- Local SRAM, 128 KiB (Table 8-2). -/
abbrev sramSize : Nat := 131072

/-- Bytes written to local SRAM; those beyond its end go nowhere. A word written whole is good again. -/
def sramWrite (c : Core) (a : Nat) (b : Bytes) : Core :=
  { c with
    sram := memWrite c.sram a (b.take (sramSize - a))
    bad := c.bad.filter (fun w => decide (0x8000 ≤ w) || decide (4 * w < a) || decide (a + b.length < 4 * w + 4)) }

/-- The answer is written to the buffer named by OD_ANS, and OD_STATE reads 2 (R229). -/
def coreAnswer (s : Chip) (t : Nat) (pdu : Bytes) : Chip :=
  let c := coreOf s t
  setCore s t { sramWrite c c.odAns.toNat (pdu.take 1504) with odState := 2 }

/-! ## Mailbox rings -/

/-- A mailbox that has not been enabled. -/
def Mbx.off : Mbx := ⟨0, 0, 0, 0, false, 0, 0, 0, 0, 0, 0, 0, 0, 0, 0, 0, 0, []⟩

/-- The mailbox of a platform, or of PF0 (64). -/
def mbxOf (s : Chip) (m : Nat) : Mbx := tget Mbx.off s.plats.mbx m

/-- Set it. -/
def setMbx (s : Chip) (m : Nat) (x : Mbx) : Chip := { s with plats := { s.plats with mbx := tput s.plats.mbx m x } }

/-- PF0's rings lie at device physical addresses, a platform's at its platform addresses (10, Mailboxes). -/
def mbxAgent (m : Nat) : Agent := if m < 64 then .plat m else .phys

/-- Entries of the request and answer rings: 2^k, k = 3 to 10 (Table 10-5). -/
def mbxEntries (x : Mbx) : Nat := 2 ^ (x.size % 16)

/-- Entries of the event ring. -/
def mbxEvtEntries (x : Mbx) : Nat := 2 ^ (bits x.size 7 4)

/-- The EPOCH of an entry written now (R288); 0 for PF0. -/
def mbxEpoch (s : Chip) (m : Nat) : Nat := if m < 64 then platEpoch s m % 65536 else 0

/-- The unit that works the rings, for fault records. -/
abbrev uMailbox : Nat := 0xD007

/-- A count in OD 10.180 + n, for a platform. -/
def platCount (s : Chip) (m sub : Nat) : Chip := if m < 64 then odInc s (0x10180 + m) sub else s

/-- The mailbox goes into error (R283): 1 doorbell out of range, 2 ring translation fault. -/
def mbxError (s : Chip) (m cause : Nat) : Chip :=
  let s := setMbx s m { mbxOf s m with state := 2 }
  raiseP (platCount s m 4) evMbxError (if m < 64 then m else 0xFF) cause

/-- A 64-byte entry of Table 10-7 at ring index `idx` of a ring of `n` entries. -/
def ringEntry (s : Chip) (m idx n flags result len : Nat) (cookie body : Bytes) (from_ : Nat) : Bytes :=
  leBytes 2 idx ++ leBytes 1 (flags + b2n (idx / n % 2 == 0)) ++ leBytes 1 result ++ leBytes 2 len
    ++ leBytes 2 (mbxEpoch s m) ++ slice cookie 0 8 ++ slice body 0 40 ++ leBytes 1 from_ ++ zeros 7

/-- A platform's gate is closed: RESETTING or FAILED (Table 10-8, R286). -/
def gateClosed (s : Chip) (m : Nat) : Bool := decide (m < 64) && (platState s m == 2 || platState s m == 3)

/-- A mailbox of a DISABLED platform still works its rings, to answer not-ready (10, after R285), though translation
refuses everything else of that platform (log 34): the access is made as if it were ENABLED. -/
def mbxXfer (s : Chip) (m : Nat) (f : Chip → Xfer) : Xfer :=
  if m < 64 ∧ platState s m = 0 then
    let x := f (odSet s (0x10040 + m) 0 1)
    { x with s := odSet x.s (0x10040 + m) 0 0 }
  else f s

/-- A write into a ring or buffer of a mailbox. -/
def mbxWrite (s : Chip) (m a : Nat) (b : Bytes) : Xfer :=
  mbxXfer s m (fun s => xferWrite s (mbxAgent m) a b 0 0 uMailbox Bound.free)

/-- A read from a ring or buffer of a mailbox. -/
def mbxRead (s : Chip) (m a n : Nat) : Xfer := mbxXfer s m (fun s => xferRead s (mbxAgent m) a n 0 0 uMailbox Bound.free)

/-- An MSI-X message of the mailbox's function. -/
def mbxMsix (s : Chip) (m vec : Nat) : Chip := if m < 64 then msixPlat s m vec else msix s 0 0 vec

/-- Answer slots free and not reserved by a fetched descriptor (R282). -/
def ansFree (x : Mbx) : Nat :=
  mbxEntries x - (x.ansProd + 65536 - x.ansHead) % 65536 - x.fetched.length

/-- Write an entry into the answer ring, and its MSI-X message (R281). -/
def ansWrite (s : Chip) (m flags result len : Nat) (cookie body : Bytes) : Chip :=
  let x := mbxOf s m
  if x.state ≠ 1 then s else
  let n := mbxEntries x
  let e := ringEntry s m x.ansProd n flags result len cookie body 0xFF
  let w := mbxWrite s m (x.ansBase + 64 * (x.ansProd % n)) e
  if w.st ≠ 0 then mbxError w.s m 2
  else mbxMsix (setMbx w.s m { mbxOf w.s m with ansProd := (x.ansProd + 1) % 65536 }) m (x.vec % 65536)

/-- A fetched descriptor is answered in its reserved slot. -/
def mbxReply (s : Chip) (m : Nat) (d : Bytes) (result len : Nat) : Chip :=
  let x := mbxOf s m
  ansWrite (setMbx s m { x with fetched := x.fetched.erase d }) m 0 result len (slice d 8 8) []

/-- The answer to a fetched request: the PDU into the answer buffer, then its descriptor (R282). A fetched descriptor is
held with the SEQ of its PDU behind it. -/
def mbxAnswer (s : Chip) (m seq : Nat) (pdu : Bytes) : Chip :=
  let x := mbxOf s m
  match x.fetched.find? (fun d => fld d 2 1 == 0 && fld d 64 2 == seq) with
  | none => s
  | some d =>
    if x.state ≠ 1 then setMbx s m { x with fetched := x.fetched.erase d } else
    let w := mbxWrite s m (fld d 24 8) pdu
    if w.st ≠ 0 then mbxReply w.s m d 4 0 else mbxReply w.s m d 0 pdu.length

/-- An IPv4-mapped address. -/
def isV4 (a : Bytes) : Bool := isZero (a.take 10) && slice a 10 2 == [0xFF, 0xFF]

/-- An answer within a sealed session carries its TAG (R121, 07 R197). -/
def sealedPdu (s : Chip) (rq : Rq) (pdu : Bytes) : Bytes :=
  match s.sl.sessions.find? (fun x => x.num == rq.session && rq.tagged) with
  | some x => pdu ++ hmacTag x.secret pdu
  | none => pdu

/-- An answer goes out on its path: network paths carry it away; a core and a mailbox take it here. -/
def deliver (s : Chip) (rq : Rq) (svc : Nat) (a : Answer) : Chip :=
  match rq.path with
  | .core t => coreAnswer s t (answerPdu rq svc a)
  | .pf0 => mbxAnswer s 64 rq.seq (answerPdu rq svc a)
  | .plat n => mbxAnswer s n rq.seq (answerPdu rq svc a)
  | .inband i peer => inbandSend s i (isV4 (odB s 0x06024 (peer + 1))) (sealedPdu s rq (answerPdu rq svc a))
  | .field _ => s

end Sys2Proof.Machine
end

