-- ==== Sys2Proof/Machine/Requests.lean ====
section
/-! DEFINITION. Requests on the Object Dictionary: domains, access, types and ranges (03), status codes (04 Table 4-5),
answers and the duplicate record, and the shape every action object shares (R76, R77, R94). -/
namespace Sys2Proof.Machine

/-! ## Status codes, Table 4-5 -/
/-- ok -/
abbrev eOk : Nat := 0
/-- no-such-object -/
abbrev eNoObj : Nat := 1
/-- access-denied -/
abbrev eDenied : Nat := 2
/-- read-only -/
abbrev eReadOnly : Nat := 3
/-- type-mismatch -/
abbrev eType : Nat := 4
/-- out-of-range -/
abbrev eRange : Nat := 5
/-- busy -/
abbrev eBusy : Nat := 6
/-- deferred -/
abbrev eDeferred : Nat := 7
/-- sequence-gap -/
abbrev eGap : Nat := 8
/-- stale -/
abbrev eStale : Nat := 9
/-- too-large -/
abbrev eTooLarge : Nat := 0x0A
/-- not-ready -/
abbrev eNotReady : Nat := 0x0B
/-- bad-version -/
abbrev eVersion : Nat := 0x20
/-- unknown-service -/
abbrev eService : Nat := 0x21
/-- bad-format -/
abbrev eFormat : Nat := 0x22
/-- session-unknown -/
abbrev eSession : Nat := 0x23
/-- handle-unknown -/
abbrev eHandle : Nat := 0x24

/-! ## Domains -/

/-- Security domains; `opn` is the open domain. -/
inductive Dom where
  | sealed
  | opn
  | plat (n : Nat)
deriving DecidableEq, Repr

/-- The path proper, without the source address: the field network, the in-band path of a port, a mailbox, a core (R118,
R127). -/
def wayOf : Path → Path
  | .field _ => .field 0
  | .inband i _ => .inband (i / 8) 0
  | p => p

/-- The source address on a network path (R119). -/
def sourceOf : Path → Nat
  | .field a => a
  | .inband _ p => p
  | _ => 0

/-- The open session of a number on a path. -/
def sessionOn (s : Chip) (path : Path) (num : Nat) : Option Session :=
  s.sl.sessions.find? (fun x => x.num == num && x.path == wayOf path)

/-- The session is open on the path and authenticated. -/
def sessionAuthed (s : Chip) (path : Path) (num : Nat) : Bool :=
  match sessionOn s path num with
  | some x => x.authed
  | none => false

/-- The domain of a request (Table 3-2). -/
def domainOf (s : Chip) (rq : Rq) : Dom :=
  match rq.path with
  | .core t => if t < 4 then .sealed else .opn
  | .pf0 => .opn
  | .plat n => .plat n
  | p => if rq.tagged ∧ sessionAuthed s p rq.session then .sealed else .opn

/-- The access entry of a row for a domain (R14): 0 none, 1 r, 2 w, 3 rw, 4 x. -/
def OdDef.acc (r : OdDef) : Dom → Nat
  | .sealed => r.accS
  | .opn => r.accO
  | .plat _ => r.accP

/-- The PLATFORM value of a domain's work: 0 to 63, or 0xFF. -/
def Dom.platByte : Dom → Nat
  | .plat n => n
  | _ => 0xFF

/-- The object a request names: for the platform domain the base index stands for its own instance, and any other
instance does not exist (R73). -/
def resolve (d : Dom) (obj : Nat) : Option (OdDef × Nat) :=
  match odRow obj with
  | none => none
  | some r =>
    match d with
    | .plat n =>
      if r.accP = 0 then none
      else if r.perPlat then (if obj = r.first then some (r, obj + n) else none)
      else some (r, obj)
    | _ => some (r, obj)

/-- Subindex shapes (R14, R17). -/
def subOk (r : OdDef) (sub : Nat) : Bool := if r.subs = 0 then sub == 0 else decide (sub ≤ r.subs)

/-- Groups served before phase 5 (Table 6-4). -/
def earlyGroup (g : Nat) : Bool :=
  [0x00, 0x01, 0x02, 0x03, 0x04, 0x05, 0x06, 0x08, 0x11, 0x20, 0x60, 0x70].contains g

/-- The object answers now (R107): by phase (Table 6-4, R179), in recovery (R182, R216), after a FATAL error (R600) and in
E3 (R148); in E4 nothing is served (R20). -/
def servedNow (s : Chip) (obj : Nat) : Bool :=
  let g := obj / 4096
  if power s = 4 then false
  else if power s = 3 then [0x00, 0x01, 0x02, 0x03, 0x06, 0x70].contains g
  else if devState s = 5 then g == 0 || g == 1 || [0x04061, 0x04062, 0x04063, 0x04065].contains obj
  else if s.boot.fatal then decide (g ≤ 6) || g == 0x70
  else if phase5 s then true
  else earlyGroup g && !(g == 8 && decide (0x08110 ≤ obj) && decide (obj ≤ 0x08117))

/-! ## Values -/

/-- Type codes of Table 3-1. -/
def OdType.code : OdType → Nat
  | .bool => 1 | .u8 => 2 | .u16 => 3 | .u32 => 4 | .u64 => 5 | .s32 => 6 | .s64 => 7 | .f32 => 8 | .bits32 => 9
  | .time => 0xA | .energy => 0xB | .str => 0xC | .blob => 0xD | .action => 0xE

/-- Sizes of Table 3-1; 0 for the types whose length the request carries. -/
def OdType.size : OdType → Nat
  | .bool => 1 | .u8 => 1 | .u16 => 2 | .u32 => 4 | .u64 => 8 | .s32 => 4 | .s64 => 8 | .f32 => 4 | .bits32 => 4
  | .time => 8 | .energy => 8 | .str => 0 | .blob => 0 | .action => 0

/-- The bytes of a value (Table 3-1). -/
def encodeVal (t : OdType) : OdVal → Bytes
  | .num n => leBytes t.size n
  | .bytes b => b

/-- Owners of OD 04.050 and OD 51.100 beside those of their catalogue rows: the open domain, and the sealed one. -/
def ownerValue (r : OdDef) (n : Nat) : Bool :=
  (n == 0xFD && (r.first == 0x04050 || r.first == 0x51100)) || (n == 0xFE && r.first == 0x51100)

/-- Table 3-1 validation and the object's range (R75, R8): 0, type-mismatch or out-of-range. Signed types compare as
integers; a reserved bit of a bit set lies above its greatest value. -/
def valueCheck (r : OdDef) (val : Bytes) : Nat :=
  let n := leNat val
  let inR (x : Int) : Bool := (decide (r.lo ≤ x) && decide (x ≤ r.hi)) || r.extra == some n || ownerValue r n
  match r.type with
  | .str => if r.lo ≤ val.length ∧ (val.length : Int) ≤ r.hi
      ∧ val.all (fun c => decide (0x20 ≤ c.toNat) && decide (c.toNat ≤ 0x7E)) then eOk else eType
  | .blob => if r.lo ≤ val.length ∧ (val.length : Int) ≤ r.hi then eOk else eType
  | .action => eType
  | .bool => if val.length = 1 ∧ n ≤ 1 then eOk else eType
  | .f32 => if val.length ≠ 4 ∨ bits n 30 23 = 0xFF then eType else eOk
  | .s32 => if val.length ≠ 4 then eType else if inR (sInt 32 n) then eOk else eRange
  | .s64 => if val.length ≠ 8 then eType else if inR (sInt 64 n) then eOk else eRange
  | t => if val.length ≠ t.size then eType else if inR n then eOk else eRange

/-- The stored form of a value that passed `valueCheck`: minus zero is stored as plus zero; S32 values keep 32 bits. -/
def decodeVal (t : OdType) (val : Bytes) : OdVal :=
  match t with
  | .str | .blob | .action => .bytes val
  | .f32 => .num (if leNat val = 0x80000000 then 0 else leNat val)
  | _ => .num (leNat val)

/-- A write sets a reserved bit of a bit set (R8): counted in the write-rejection counter. -/
def reservedSet (r : OdDef) (val : Bytes) : Bool :=
  r.type == .bits32 && val.length == 4 && decide (r.hi < (leNat val : Int))

/-- The fault log as one BLOB (R591): record SEQ at 64 * (SEQ mod 1,024); sealed-only records lose ADDR and DETAIL for the
open domain. -/
def recBytes (r : ErrRec) (hide : Bool) : Bytes :=
  leBytes 4 r.seq ++ leBytes 1 r.cls ++ leBytes 1 r.detect ++ leBytes 2 r.unit ++ leBytes 8 r.time
    ++ leBytes 8 (if hide && bit r.flags 1 then 0 else r.addr) ++ leBytes 8 r.plats
    ++ leBytes 8 (if hide && bit r.flags 1 then 0 else r.detail) ++ leBytes 1 r.test ++ leBytes 1 r.action
    ++ leBytes 2 r.transients ++ leBytes 4 r.testTime ++ leBytes 1 r.flags ++ zeros 15

/-- The log blob; in E3 the newest 64 records alone are mirrored (R591, R604). -/
def faultLog (s : Chip) (d : Dom) : Bytes :=
  let l := if power s = 3 then s.faults.log.take 64 else s.faults.log
  ((List.range 1024).map (fun i =>
    match l.find? (fun r => r.seq % 1024 == i) with
    | some r => recBytes r (d != .sealed)
    | none => zeros 64)).flatten

/-- The kind of a granule: 0 near, 1 far, 2 to 5 staging SRAM of AD0 to AD3; 6: no platform memory. -/
def granKind (g : Nat) : Nat :=
  match regionOf (g * granule) with
  | .near => 0
  | .far => 1
  | .staging d => 2 + d
  | _ => 6

/-- Granules of a kind that a platform owns, or any platform. -/
def granulesOf (s : Chip) (p : Option Nat) (kind : Nat) : Nat :=
  (s.plats.owner.filter (fun o => granKind o.1 == kind && (p == none || p == some o.2))).length

/-- Granules of a kind in service and zeroed. -/
def granulesAll (s : Chip) (kind : Nat) : Nat :=
  if kind = 0 then (if s.boot.nearZeroed then 91552 - s.mem.retired.length else 0)
  else if kind = 1 then
    ((List.range 4).map (fun p => if s.ports.farOut.contains p then 0 else tget 0 s.boot.farZeroed p)).sum
  else if kind < 6 then (if dieLit s (kind - 2) then 32 else 0)
  else 0

/-- Granules being reclaimed. -/
def reclaiming (s : Chip) (g : Nat) : Bool :=
  s.plats.reclaiming.any (fun r => decide (r.base / granule ≤ g) && decide (g < r.base / granule + r.count))

/-- Granules free (OD 10.032): in service, without an owner, and not being reclaimed. -/
def granulesFree (s : Chip) (kind : Nat) : Nat :=
  granulesAll s kind - granulesOf s none kind
    - ((s.plats.reclaiming.map (fun r => if granKind (r.base / granule) = kind then r.count else 0)).sum)

/-- The path of a cursor (R101): one for the field network, one per in-band peer. -/
def cursorPath : Path → Path
  | .field _ => .field 0
  | .inband _ p => .inband 0 p
  | p => p

/-- A path's cursor; by default the oldest record held. -/
def cursorOf (s : Chip) (path : Path) : Nat :=
  ((s.sl.cursors.find? (fun c => c.1 == cursorPath path)).map (·.2)).getD (((s.events.getLast?).map (·.seq)).getD
    ((odN s 0x01120 0 + 1) % 2 ^ 32))

/-- The waiters armed at a home (19 R487, OD 51.030): bindings, SIGWTs, and WAITs at the head of dispatch queues. -/
def waitersArmed (s : Chip) (home : Nat) : Nat :=
  let at_ := fun (sig : Nat) => (match sigHome sig with | none => 0 | some d => d + 1) == home
  let cores := s.cores.map (fun c =>
    (c.2.binds.filter (fun b => b.2.armed && at_ (b.2.sig.toNat % 4096))).length
      + (match c.2.wait with | .sigwt n _ _ false => b2n (at_ n) | _ => 0))
  let heads := s.disp.dqs.map (fun q =>
    match q.2.entries with
    | e :: _ => b2n (fld e.b 0 1 == 0xF0 && !e.released && at_ (fld e.b 4 2))
    | [] => 0)
  cores.sum + heads.sum

/-- The value a domain reads on a path: objects computed on reading, and the store for the rest. -/
def odRead (s : Chip) (path : Path) (d : Dom) (r : OdDef) (obj sub : Nat) : OdVal :=
  if r.subs ≠ 0 ∧ sub = 0 then .num r.subs
  else if obj = 0x03003 then .num (epochNs s)
  else if obj = 0x03004 then .num (nowNs s)
  else if obj = 0x03009 then
    .num (if odN s 0x03001 0 = 2 ∨ odN s 0x03001 0 = 3 then nowNs s - s.tb.holdSince else s.tb.holdLast)
  else if obj = 0x01122 then .num (cursorOf s path)
  else if obj = 0x08003 ∧ sub ≤ 4 ∧ d ≠ .sealed then .num 0
  else if obj = 0x10032 then .num (granulesFree s (sub - 1))
  else if 0x101C0 ≤ obj ∧ obj < 0x10200 then .num (granulesOf s (some (obj - 0x101C0)) (sub - 1))
  else if obj = 0x51030 then .num (waitersArmed s (sub - 1))
  else if obj = 0x70002 then .bytes (faultLog s d)
  else odGet s obj sub

/-! ## Answers -/

/-- Requests of one peer (R119): same path, source address and SESSION value. -/
def samePeer (a b : Rq) : Bool :=
  wayOf a.path == wayOf b.path && sourceOf a.path == sourceOf b.path && a.session == b.session

/-- The request is the next of its path (R118): none waits there, or it waits first. -/
def inTurn (s : Chip) (rq : Rq) : Bool :=
  match s.sl.waiting.find? (fun q => wayOf q.1.path == wayOf rq.path) with
  | none => true
  | some q => samePeer q.1 rq && q.1.seq == rq.seq

/-- Keep the answer: the 8 newest of each peer (R119). -/
def keepAnswer (s : Chip) (rq : Rq) (a : Answer) : Chip :=
  let mine := (s.sl.dups.filter (fun d => samePeer d.rq rq)).take 7
  let others := s.sl.dups.filter (fun d => !samePeer d.rq rq)
  { s with sl := { s.sl with dups := ⟨rq, nowNs s, a⟩ :: mine ++ others } }

/-- The kept answer to a request whose SEQ matches, within 1 s of running time (R119). -/
def keptAnswer (s : Chip) (rq : Rq) : Option Answer :=
  (s.sl.dups.find? (fun d => samePeer d.rq rq && d.rq.seq == rq.seq && decide (nowNs s < d.time + 1000000000))).map (·.answer)

/-- The request has been handled: it leaves the queue of its path (R118). -/
def dequeue (s : Chip) (rq : Rq) : Chip :=
  { s with sl := { s.sl with waiting := s.sl.waiting.eraseP (fun q => samePeer q.1 rq && q.1.seq == rq.seq) } }

/-- The service code of a waiting request. -/
def serviceOf (s : Chip) (rq : Rq) : Option Nat :=
  (s.sl.waiting.find? (fun q => samePeer q.1 rq && q.1.seq == rq.seq)).map (·.2)

/-- Send an answer on the path of its request. -/
def sendAnswer (s : Chip) (rq : Rq) (svc : Option Nat) (a : Answer) : Chip :=
  match svc with
  | none => emit s (.answer rq a)
  | some v => deliver (emit s (.answer rq a)) rq v a

/-- Answer a request exactly once (R117): it leaves its queue, the answer is kept and sent. -/
def answer (s : Chip) (rq : Rq) (a : Answer) : Chip :=
  sendAnswer (keepAnswer (dequeue s rq) rq a) rq (serviceOf s rq) a

/-- Nothing is answered before the end of phase 1 (R117, R170), and nothing in E4 (R20). -/
def answering (s : Chip) : Bool := (s.boot.signalBox || (devState s == 5 && decide (ms 30 ≤ nowNs s))) && power s != 4

/-- An error answer naming the entry `i` (R116). -/
def errAnswer (e i : Nat) : Answer := ⟨e, if e ≤ 0x0B then i else 0xFF, []⟩

/-- What an action answers: a status, the bytes of its answer entry, and the block after it. -/
abbrev ActRes := Nat × Bytes × Chip

/-- An action object's meaning, for a request and its argument. -/
abbrev Act := Chip → Rq → Bytes → ActRes

/-- Accepted without answer bytes. -/
def acted (s : Chip) : ActRes := (eOk, [], s)

/-- Refused without effect. -/
def refuse (s : Chip) (e : Nat) : ActRes := (e, [], s)

/-- The checks every execute entry passes before its own preconditions: object, phase, access (R77), argument length
(R75): a status, and the block with a denial counted in OD 01.105. -/
def execCheck (s : Chip) (rq : Rq) (obj : Nat) (arg : Bytes) : Nat × Chip :=
  let d := domainOf s rq
  match resolve d obj with
  | none => (eNoObj, s)
  | some (r, _) =>
    if !servedNow s obj then (eNotReady, s)
    else if r.acc d ≠ 4 then (eDenied, odInc s 0x01105 0)
    else if (arg.length : Int) < r.lo ∨ r.hi < (arg.length : Int) then (eType, s)
    else (eOk, s)

/-- The answer entry of an action that answers bytes: a U8 for STAGE_OPEN (04, Staged blocks on the wire), else a BLOB. -/
def actEntry (obj : Nat) (b : Bytes) : List Entry :=
  if b.isEmpty then [] else [⟨obj, 0, if obj = 0x01110 then 2 else 0x0D, 1, b⟩]

/-- An action sent alone: checked, carried out, and answered (R76, R94). -/
def actionRow (act : Act) (obj : Nat) (rq : Rq) (arg : Bytes) (s : Chip) : Chip :=
  if !answering s || !inTurn s rq then s else
  let c := execCheck s rq obj arg
  if c.1 ≠ eOk then answer c.2 rq (errAnswer c.1 0)
  else
    let r := act c.2 rq arg
    if r.1 ≠ eOk then answer r.2.2 rq (errAnswer r.1 0)
    else answer r.2.2 rq ⟨eOk, 0xFF, actEntry obj r.2.1⟩

/-- A domain may receive an event (R100). -/
def mayReceive (d : Dom) (e : Event) : Bool :=
  match d with
  | .sealed => true
  | .opn => !e.sealedOnly
  | .plat n => e.plat == n

/-- Records at and behind the cursor, held or not, modulo 2^32; a cursor ahead of the newest record has none. -/
def behind (s : Chip) (path : Path) : Nat :=
  let k := (odN s 0x01120 0 + 1 + 2 ^ 32 - cursorOf s path) % 2 ^ 32
  if 2 ^ 31 ≤ k then 0 else k

/-- ALERT_N is driven low: a record of class OD 01.124 or above that the field network may receive lies at or behind its
cursor (R102); it is released before the end of phase 1 (Table 6-3). -/
def alertLow (s : Chip) : Bool :=
  s.boot.signalBox
    && (s.events.take (behind s (.field 0))).any (fun e => mayReceive .opn e && decide (odN s 0x01124 0 ≤ e.cls))

/-- The open-drain output ALERT_N follows the state. -/
def drivePins (s : Chip) : Chip := { s with alert := alertLow s }

/-- A meaning: the block after a command; the queue is untouched. -/
def run (s : State) (f : Chip → Chip) : Host.Outcome State Fault Refusal := .next { s with chip := drivePins (f s.chip) }

end Sys2Proof.Machine
end

