-- ==== Sys2Proof/Machine/Energy.lean ====
section
/-! DEFINITION. The energy accountant (05 R134 to R136), budgets and windows (R137, R138, R143), estimates and admission
(R139 to R142), the rail governor and its thermal exception (R150 to R153), PMBus (R161, R163). -/
namespace Sys2Proof.Machine

/-! ## Estimates and admission -/

/-- The estimate of `units` of work under kernel energy table entry `ket`, µJ (R139). -/
def estimate (s : Chip) (ket units : Nat) : Nat :=
  odN s (0x02800 + ket) 1 + (units * odN s (0x02800 + ket) 2 + 999) / 1000

/-- Balance of a platform, OD 02.240 + p. -/
def balance (s : Chip) (p : Nat) : Int := odI s (0x02240 + p) 0

/-- The balance of a platform changed by `d`. -/
def addBalance (s : Chip) (p : Nat) (d : Int) : Chip := odSetI s (0x02240 + p) 0 (balance s p + d)

/-- The device balance, OD 02.023, changed by `d`. -/
def addDevice (s : Chip) (d : Int) : Chip := odSetI s 0x02023 0 (odI s 0x02023 0 + d)

/-- The budget of a platform in force in this window (R138). -/
def budgetOf (s : Chip) (p : Nat) : Nat := tget 0 s.en.budget p

/-- Allowance of platform `p` on array die `die` (1 to 4) (R142). -/
def allowance (s : Chip) (die p : Nat) : Int := tget 0 s.en.allow (64 * die + p)

/-- The allowance changed by `d`. -/
def addAllowance (s : Chip) (die p : Nat) (d : Int) : Chip :=
  { s with en := { s.en with allow := tput s.en.allow (64 * die + p) (allowance s die p + d) } }

/-- A grant, OD 02.024 sixteenths of the platform's budget (R142). -/
def grantSize (s : Chip) (p : Nat) : Nat := odN s 0x02024 0 * budgetOf s p / 16

/-- One grant from the hub to a die, if the platform's balance covers it (R142). -/
def grant (s : Chip) (die p : Nat) : Chip :=
  let g := grantSize s p
  if 0 < g ∧ (g : Int) ≤ balance s p then addAllowance (addBalance s p (-(g : Int))) die p g else s

/-- Grants until the allowance covers the estimate, at most `fuel` of them. -/
def grantUpTo (s : Chip) (die p : Nat) (est : Int) : Nat → Chip
  | 0 => s
  | n + 1 => if est ≤ allowance s die p then s else grantUpTo (grant s die p) die p est n

/-- Admission on a die is stopped by heat (R153) or everywhere by a drain (R159), a thermal trip (R154), or, on an array
die, in E2 and lower states (Table 5-4). -/
def admissionOpen (s : Chip) (die : Nat) : Bool :=
  !s.en.admissionStopped && !(tget false s.en.hot (die + 1)) && (die == 0 || (decide (power s ≤ 1) && dieLit s (die - 1)))
    && !((s.en.trans.any (fun t => t.target ≥ 2 && power s == 1)) && decide (0 < die))

/-- The three outcomes of asking for admission (R140, R141). -/
inductive AdmRes where
  /-- admitted under this number -/
  | admitted (id : Nat) (s : Chip)
  /-- waits at the head of its queue -/
  | waits (s : Chip)
  /-- never admitted: energy-too-large -/
  | tooLarge
deriving DecidableEq, Repr

/-- An admitted job takes a number and waits for its true-up (R136). -/
def bookJob (s : Chip) (plat ket units est die : Nat) : AdmRes :=
  let j : AdmJob := ⟨s.en.nextJob, plat, ket, units, est, 0, die, false⟩
  .admitted s.en.nextJob { s with en := { s.en with jobs := s.en.jobs ++ [j], nextJob := s.en.nextJob + 1 } }

/-- Ask for admission (R140 to R142): platform 64 or above stands for the sealed and open domains, whose jobs are admitted
against the device balance alone. -/
def admitJob (s : Chip) (plat ket units die : Nat) : AdmRes :=
  let est := estimate s ket units
  if plat < 64 ∧ budgetOf s plat < est then .tooLarge
  else if !admissionOpen s die then .waits s
  else if odI s 0x02023 0 < est then .waits s
  else if 64 ≤ plat then bookJob (addDevice s (-(est : Int))) plat ket units est die
  else if die = 0 then
    if balance s plat < est then .waits s
    else bookJob (addDevice (addBalance s plat (-(est : Int))) (-(est : Int))) plat ket units est die
  else
    let s := grantUpTo s die plat est 16
    if allowance s die plat < est then .waits s
    else bookJob (addDevice (addAllowance s die plat (-(est : Int))) (-(est : Int))) plat ket units est die

/-- The job has completed: it is trued up at the close of this interval (R136). -/
def jobEnd (s : Chip) (id : Nat) : Chip :=
  { s with en := { s.en with jobs := s.en.jobs.map (fun j => if j.id == id then { j with done := true } else j) } }

/-- LEARN (R139): PER_UNIT_NJ moves toward the observed cost, clamped to [PU_MIN, PU_MAX]. -/
def ketLearn (s : Chip) (ket units actual : Nat) : Chip :=
  let o := 0x02800 + ket
  if odN s o 4 = 1 ∧ 0 < units then
    let apu := (actual - odN s o 1) * 1000 / units
    let old := odN s o 2
    let new : Int := (old : Int) + Int.tdiv ((apu : Int) - old) 16
    odSet s o 2 (min (odN s o 6) (max (odN s o 5) new.toNat))
  else s

/-- True-up (R140, R142): both balances are credited by the estimate and debited by the actual energy; on a die the
die's allowance takes the place of the balance. -/
def trueUp (s : Chip) (j : AdmJob) : Chip :=
  let d : Int := (j.est : Int) - j.actual
  let s := if 64 ≤ j.plat then s else if j.die = 0 then addBalance s j.plat d else addAllowance s j.die j.plat d
  ketLearn (addDevice s d) j.ket j.units j.actual

/-! ## The interval -/

/-- The sharing out of one domain's energy (R134): the state, and the sum charged to platforms. -/
def shareOut (s : Chip) (meas total : Nat) : List (Nat × Nat) → Chip × Nat
  | [] => (s, 0)
  | (p, act) :: r =>
    let share := if total = 0 then 0 else meas * act / total
    let x := shareOut (if p < 64 then odAdd64 s (0x02280 + p) 1 share else s) meas total r
    (x.1, x.2 + (if p < 64 then share else 0))

/-- Nominal voltage of domains 6 to 8, mV (Table 5-1); the commanded one of a core rail. -/
def commanded (s : Chip) (dom : Nat) : Nat :=
  if dom = 6 then 1050 else if dom = 7 then 850 else if dom = 8 then 800 else tget 750 s.en.vcmd dom

/-- One domain at the close of an interval (R134, R135, R161): without telemetry the model stands in for it. The second
result is the overhead energy. -/
def closeDomain (s : Chip) (dom : Nat) (r : DomReading) (jobActs : List (Nat × Nat × Nat)) : Chip × Nat :=
  let tele := r.pmbus && odN s 0x02050 0 == 0
  let total := (r.acts.map (·.2)).sum + r.leak
  let meas := if tele then r.meas else total / 1024
  let x := shareOut s meas total r.acts
  let s := x.1
  let s := odAdd64 s 0x02011 dom meas
  let s := odAdd64 s 0x02012 0 meas
  let s := odAdd64 s 0x02013 0 (meas - x.2)
  let s := odSet s 0x02010 dom (b2n (!tele))
  let s := odSet s 0x02034 dom (r.vout % 65536)
  let low := tget 0 s.en.lowRun dom
  let low' := if tele && decide (r.vout + 25 < commanded s dom) then (if low < 1000 then low + 1 else low) else 0
  let share := fun (id : Nat) => ((jobActs.filter (fun a => a.1 == id && a.2.1 == dom)).map
    (fun a => if total = 0 then 0 else meas * a.2.2 / total)).sum
  ({ s with en := { s.en with
      lowRun := tput s.en.lowRun dom low'
      jobs := s.en.jobs.map (fun j => { j with actual := j.actual + share j.id }) } }, meas - x.2)

/-- All domains, from domain `dom` on: the overhead energy is summed. -/
def closeDomains (s : Chip) (jobActs : List (Nat × Nat × Nat)) : Nat → List DomReading → Chip × Nat
  | _, [] => (s, 0)
  | dom, r :: rs =>
    if 8 < dom then (s, 0) else
    let x := closeDomain s dom r jobActs
    let y := closeDomains x.1 jobActs (dom + 1) rs
    (y.1, x.2 + y.2)

/-- Serving steps that were not admitted become ready again after a true-up and at a window boundary (21 R526). -/
def wakeServing (s : Chip) : Chip :=
  { s with serv := { s.serv with reqs := s.serv.reqs.map (fun r => (r.1, { r.2 with blocked := false })) } }

/-- The close of an interval of 1 ms (R134 to R136, R140): from phase 1 on (R170), in every state with power (R148). -/
def accountInterval (s : Chip) (rs : List DomReading) (jobActs : List (Nat × Nat × Nat)) : Chip :=
  if nowNs s < s.en.intervalEnd ∨ s.boot.signalBox = false then s else
  let x := closeDomains s jobActs 1 rs
  let s := addDevice x.1 (-(x.2 : Int))
  let s := odSet s 0x02014 0 (b2n ((List.range 8).any (fun d => odN s 0x02010 (d + 1) == 1)))
  let done := s.en.jobs.filter (·.done)
  let s := done.foldl trueUp s
  let s := if done.isEmpty then s else wakeServing s
  { s with en := { s.en with jobs := s.en.jobs.filter (fun j => !j.done), intervalEnd := s.en.intervalEnd + 1000000 } }

/-- ACCOUNTING_INTERVAL: a reading per domain, and the modelled activity of each job by domain. -/
def execAccountingInterval (readings : List DomReading) (jobActs : List (Nat × Nat × Nat)) (s : State) :
    Host.Outcome State Fault Refusal :=
  run s (fun c => accountInterval c readings jobActs)

/-- RAIL_DEVIATION is raised once READ_VOUT has been low for 10 consecutive intervals (R161), once per episode. -/
def railDeviation (s : Chip) (dom : Nat) : Chip :=
  let n := tget 0 s.en.lowRun dom
  if 10 ≤ n ∧ n < 1000 then
    raise { s with en := { s.en with lowRun := tput s.en.lowRun dom 1000 } } evRailDeviation dom
  else s

/-- RAIL_DEVIATION. -/
def execRailDeviation (dom : Nat) (s : State) : Host.Outcome State Fault Refusal := run s (fun c => railDeviation c dom)

/-! ## Window boundaries -/

/-- The refill of R137: new balance, and the debt forgiven. -/
def refill (bal : Int) (budget : Nat) : Int × Nat :=
  let carried := max (min bal 0) (-(budget : Int))
  ((budget : Int) + carried, (carried - min bal 0).toNat)

/-- What a platform's unspent allowances on the four dies return to its balance (R142). -/
def returned (s : Chip) (p : Nat) : Int :=
  allowance s 1 p + allowance s 2 p + allowance s 3 p + allowance s 4 p

/-- One platform at a boundary: allowances return, the new budget takes effect, the balance is refilled (R137, R138). -/
def platBoundary (s : Chip) (p : Nat) : Chip :=
  let b := odN s (0x02200 + p) 0
  let r := refill (balance s p + returned s p) b
  let s := odSetI s (0x02240 + p) 0 r.1
  let s := odAdd64 s (0x02280 + p) 2 r.2
  { s with en := { s.en with
      budget := tset 0 s.en.budget p b
      allow := ((tdel (tdel (tdel (tdel s.en.allow (64 + p)) (128 + p)) (192 + p)) (256 + p))) } }

/-- The effective cap (R143): 1,400 W over the window, in µJ. -/
def capEffective (s : Chip) : Nat := min (odN s 0x02021 0) (1400000 * odN s 0x02020 0)

/-- A window boundary (R137, R138, R142, R143); `queued die plat` says that the platform has jobs queued on the die. -/
def windowBoundary (s : Chip) (queued : Chip → Nat → Nat → Bool) : Chip :=
  if nowNs s < s.en.windowEnd then s else
  let s := (List.range 64).foldl platBoundary s
  let cap := capEffective s
  let s := odSet s 0x02022 0 cap
  let s := odSetI s 0x02023 0 (refill (odI s 0x02023 0) cap).1
  let s := wakeServing { s with en := { s.en with windowEnd := s.en.windowEnd + ms (odN s 0x02020 0) } }
  (List.range 4).foldl (fun s d =>
    if dieLit s d then (List.range 64).foldl (fun s p => if queued s (d + 1) p then grant s (d + 1) p else s) s else s) s

/-! ## Rails -/

/-- The ceiling of a core rail: LEAN_VMAX in E1, else RAIL_VMAX (R150). -/
def railCeil (s : Chip) (dom : Nat) : Nat := if power s = 1 then odN s 0x02005 0 else odN s 0x02032 dom

/-- The bounds win (R150); where the ceiling lies below the floor the ceiling wins (log 21). -/
def railClamp (s : Chip) (dom : Nat) (v : Int) : Nat :=
  (min (railCeil s dom : Int) (max (odN s 0x02031 dom : Int) v)).toNat

/-- Command a rail's voltage. -/
def railSet (s : Chip) (dom mv : Nat) : Chip :=
  emit { s with en := { s.en with vcmd := tput s.en.vcmd dom mv, lastStep := tput s.en.lastStep dom (nowNs s) } }
    (.rail dom mv)

/-- One step of at most 10 mV from `v` toward `t`. -/
def toward (v t : Nat) : Nat := if v < t then min t (v + 10) else max t (v - 10)

/-- A governor step on a core rail (R150 to R152): `want` is +1, 0 or -1 as dispatch sojourn asks, `proj` the energy
projected at the new voltage to the end of the window. FIXED holds RAIL_FIXED; at least 20 µs lie between steps. -/
def governorStep (s : Chip) (dom : Nat) (want : Int) (proj : Nat) : Chip :=
  if dom < 1 ∨ 5 < dom ∨ s.boot.signalBox = false ∨ odN s 0x02050 0 = 2 ∨ tget false s.en.yielded dom
      ∨ odN s 0x02036 0 ≤ odN s 0x02037 dom then s
  else if nowNs s < tget 0 s.en.lastStep dom + 20000 ∧ (tget? s.en.lastStep dom).isSome then s
  else
    let v := tget 750 s.en.vcmd dom
    if odN s 0x02030 dom = 1 then
      (if v = odN s 0x02035 dom then s else railSet s dom (toward v (odN s 0x02035 dom)))
    else
      let t := railClamp s dom ((odN s 0x02033 dom : Int) + 10 * clampI (-1) 1 want)
      if v < t ∧ odI s 0x02023 0 < proj then s
      else
        let s := odSet s 0x02033 dom t
        if v = t then s else railSet s dom (toward v t)

/-- RAIL_GOVERNOR_STEP. -/
def execRailGovernorStep (dom : Nat) (want : Int) (proj : Nat) (s : State) : Host.Outcome State Fault Refusal :=
  run s (fun c => governorStep c dom want proj)

/-- A thermal step is due 1 ms after the last one on the rail. -/
def thermDue (s : Chip) (dom : Nat) : Bool :=
  match tget? s.en.thermStep dom with
  | none => true
  | some t => decide (t + 1000000 ≤ nowNs s)

/-- Heat (R153): at or above THERMAL_LIMIT the rail falls by 10 mV every 1 ms down to 550 mV; at 550 mV, or with the bus
failed (R163), admission on the die stops instead. -/
def thermalLimitStep (s : Chip) (dom tj : Nat) : Chip :=
  if dom < 1 ∨ 5 < dom then s else
  let s := odSet s 0x02037 dom (min tj 125)
  if tj < odN s 0x02036 0 ∨ !thermDue s dom then s else
  let s := { s with en := { s.en with thermStep := tput s.en.thermStep dom (nowNs s) } }
  let v := tget 750 s.en.vcmd dom
  if odN s 0x02050 0 = 2 ∨ v ≤ 550 then { s with en := { s.en with hot := tput s.en.hot dom true } }
  else
    let v' := max 550 (v - 10)
    let s := railSet s dom v'
    if v' < odN s 0x02031 dom ∧ tget false s.en.yielded dom = false then
      raise { s with en := { s.en with yielded := tput s.en.yielded dom true } } evThermalFloorYield dom
    else s

/-- THERMAL_LIMIT_STEP. -/
def execThermalLimitStep (dom tj : Nat) (s : State) : Host.Outcome State Fault Refusal :=
  run s (fun c => thermalLimitStep c dom tj)

/-- Recovery (R153): below the limit less 3 °C admission resumes and the rail rises by 10 mV every 1 ms to the governor's
choice within its bounds. -/
def thermalRecoverStep (s : Chip) (dom tj : Nat) : Chip :=
  if dom < 1 ∨ 5 < dom then s else
  let s := odSet s 0x02037 dom (min tj 125)
  if odN s 0x02036 0 ≤ tj + 3 then s else
  let s := { s with en := { s.en with hot := tput s.en.hot dom false } }
  if !thermDue s dom ∨ odN s 0x02050 0 = 2 then s else
  let v := tget 750 s.en.vcmd dom
  let t := if odN s 0x02030 dom = 1 then odN s 0x02035 dom else railClamp s dom (odN s 0x02033 dom)
  let s := { s with en := { s.en with thermStep := tput s.en.thermStep dom (nowNs s) } }
  let s := if v < t then railSet s dom (min t (v + 10)) else s
  if tget false s.en.yielded dom ∧ (odN s 0x02031 dom ≤ tget 750 s.en.vcmd dom ∨ t ≤ tget 750 s.en.vcmd dom) then
    raise { s with en := { s.en with yielded := tput s.en.yielded dom false } } evThermalFloorRestored dom
  else s

/-- THERMAL_RECOVER_STEP. -/
def execThermalRecoverStep (dom tj : Nat) (s : State) : Host.Outcome State Fault Refusal :=
  run s (fun c => thermalRecoverStep c dom tj)

/-- Every domain in estimated mode (R163). -/
def allEstimated (s : Chip) : Chip :=
  odSet ((List.range 8).foldl (fun s d => odSet s 0x02010 (d + 1) 1) s) 0x02014 0 1

/-- The PMBus data line stays low after nine clock pulses (R163). -/
def pmbusFailed (s : Chip) : Chip :=
  if odN s 0x02050 0 = 2 then s else
  let s := odSet s 0x02050 0 2
  let s := allEstimated s
  raise { s with en := { s.en with pmbusRetry := nowNs s + 1000000000 } } evPmbusFailed 0

/-- PMBUS_FAILED. -/
def execPmbusFailed (s : State) : Host.Outcome State Fault Refusal := run s pmbusFailed

/-- The recovery tried every 1 s (R163); PMBus mode returns at the next interval. -/
def pmbusRetry (s : Chip) (ok : Bool) : Chip :=
  if odN s 0x02050 0 ≠ 2 ∨ nowNs s < s.en.pmbusRetry then s
  else if ok then raise (odSet s 0x02050 0 0) evPmbusRestored 0
  else { s with en := { s.en with pmbusRetry := nowNs s + 1000000000 } }

/-- PMBUS_RETRY. -/
def execPmbusRetry (ok : Bool) (s : State) : Host.Outcome State Fault Refusal := run s (fun c => pmbusRetry c ok)

/-! ## Writes in group 02 -/

/-- Rules on values written to group 02 (R150, R151, OD 02.051): FLOOR above CEILING, a target outside the bounds and
reserved bits of a PMBus map entry are out of range. -/
def checkEnergy (s : Chip) (obj sub n : Nat) : Nat :=
  if obj = 0x02031 then (if odN s 0x02032 sub < n then eRange else eOk)
  else if obj = 0x02032 then (if n < odN s 0x02031 sub then eRange else eOk)
  else if obj = 0x02033 then (if n < odN s 0x02031 sub ∨ railCeil s sub < n then eRange else eOk)
  else if obj = 0x02051 then (if bit n 7 ∨ n ≥ 4096 then eRange else eOk)
  else if 0x02800 ≤ obj ∧ sub = 3 then (if n ≤ 2 then eOk else eRange)
  else if 0x02800 ≤ obj ∧ sub = 4 then (if n ≤ 1 then eOk else eRange)
  else eOk

end Sys2Proof.Machine
end

