-- ==== Sys2Proof/Machine/Numbers.lean ====
section
/-! DEFINITION. The ten number formats of the arrays, exact values, and their single roundings (18 Table 18-2, R457, R460 to
R463, R467). -/
namespace Sys2Proof.Machine

/-- An exact value: NaN, an infinity, or (−1)^neg · m · 2^e. Zero keeps its sign. -/
inductive Fv where
  | nan
  | inf (neg : Bool)
  | fin (neg : Bool) (m : Nat) (e : Int)
deriving DecidableEq, Repr

/-- Exponent bits, mantissa bits and bias of a floating-point format code (Table 18-2). -/
def fpShape (f : Nat) : Nat × Nat × Nat :=
  match f with
  | 0 => (8, 23, 127)
  | 1 => (5, 10, 15)
  | 2 => (8, 7, 127)
  | 3 => (4, 3, 7)
  | 4 => (5, 2, 15)
  | 5 => (3, 2, 3)
  | 6 => (2, 3, 1)
  | _ => (2, 1, 1)

/-- Bits of an element (Table 18-2). -/
def fmtBits (f : Nat) : Nat :=
  match f with
  | 0 => 32 | 1 => 16 | 2 => 16 | 3 => 8 | 4 => 8 | 5 => 6 | 6 => 6 | 7 => 4 | 8 => 8 | 9 => 4 | _ => 32

/-- An MX format: elements share scale bytes. -/
def isMx (f : Nat) : Bool := decide (5 ≤ f) && decide (f ≤ 7)

/-- An integer format. -/
def isIntFmt (f : Nat) : Bool := decide (8 ≤ f)

/-- The format has infinities. -/
def hasInf (f : Nat) : Bool := f == 0 || f == 1 || f == 2 || f == 4

/-- An integer as a value. -/
def fvOfInt (x : Int) : Fv := .fin (decide (x < 0)) x.natAbs 0

/-- The value of an element's bits. -/
def decodeFv (f raw : Nat) : Fv :=
  if isIntFmt f then fvOfInt (sInt (fmtBits f) (raw % 2 ^ fmtBits f))
  else
    let (eb, mb, bias) := fpShape f
    let neg := bit raw (eb + mb)
    let ex := raw / 2 ^ mb % 2 ^ eb
    let m := raw % 2 ^ mb
    if f = 3 ∧ ex = 15 ∧ m = 7 then .nan
    else if hasInf f ∧ ex = 2 ^ eb - 1 then (if m = 0 then .inf neg else .nan)
    else if ex = 0 then .fin neg m (1 - (bias : Int) - mb)
    else .fin neg (2 ^ mb + m) ((ex : Int) - bias - mb)

/-- n / 2^k to nearest, ties to even. -/
def rneShift (n k : Nat) : Nat :=
  let q := n / 2 ^ k
  let r := n % 2 ^ k
  if k = 0 then n
  else if 2 ^ (k - 1) < r ∨ (r = 2 ^ (k - 1) ∧ q % 2 = 1) then q + 1 else q

/-- The magnitude m · 2^e rounded to nearest even in a format: its exponent and mantissa fields, not bounded above. -/
def roundFields (f m : Nat) (e : Int) : Nat × Nat :=
  let (_, mb, bias) := fpShape f
  if m = 0 then (0, 0)
  else
    let top : Int := e + m.log2
    let q : Int := max top (1 - bias) - mb
    let k := if q ≤ e then m * 2 ^ (e - q).toNat else rneShift m (q - e).toNat
    let k' := if k = 2 ^ (mb + 1) then 2 ^ mb else k
    let q' := if k = 2 ^ (mb + 1) then q + 1 else q
    if k' < 2 ^ mb then (0, k') else ((q' + mb + bias).toNat, k' - 2 ^ mb)

/-- Fields beyond the largest finite value. -/
def overflows (f ex m : Nat) : Bool :=
  let eb := (fpShape f).1
  if hasInf f then decide (2 ^ eb - 1 ≤ ex)
  else if f = 3 then decide (15 < ex) || (ex == 15 && m == 7)
  else decide (2 ^ eb - 1 < ex)

/-- The bits of the largest finite magnitude. -/
def maxFinite (f : Nat) : Nat :=
  let (eb, mb, _) := fpShape f
  if hasInf f then (2 ^ eb - 2) * 2 ^ mb + (2 ^ mb - 1)
  else if f = 3 then 0x7E
  else 2 ^ (eb + mb) - 1

/-- The bits of infinity. -/
def infBits (f : Nat) : Nat := (2 ^ (fpShape f).1 - 1) * 2 ^ (fpShape f).2.1

/-- Canonical NaN (R462). -/
def nanBits (f : Nat) : Nat :=
  match f with
  | 0 => 0x7FC00000 | 1 => 0x7E00 | 2 => 0x7FC0 | 3 => 0x7F | _ => 0x7E

/-- Sign bit. -/
def signBits (f : Nat) (neg : Bool) : Nat := if neg then 2 ^ ((fpShape f).1 + (fpShape f).2.1) else 0

/-- A converted element: its bits, and whether it is NaN, overflowed (R464), or saturated as an integer. -/
structure Conv where
  raw : Nat
  nan : Bool
  ovf : Bool
  isat : Bool
deriving DecidableEq, Repr

/-- Conversion to a floating-point format with SATURATE (R463). -/
def convFloat (f : Nat) (sat : Bool) : Fv → Conv
  | .nan => ⟨nanBits f, true, false, false⟩
  | .inf neg => ⟨signBits f neg + (if hasInf f && !sat then infBits f else maxFinite f), false, true, false⟩
  | .fin neg m e =>
    let (ex, mm) := roundFields f m e
    if overflows f ex mm then
      ⟨signBits f neg + (if hasInf f && !sat then infBits f else maxFinite f), false, true, false⟩
    else ⟨signBits f neg + ex * 2 ^ (fpShape f).2.1 + mm, false, false, false⟩

/-- The nearest integer, ties to even. -/
def rneInt (neg : Bool) (m : Nat) (e : Int) : Int :=
  let k : Nat := if 0 ≤ e then m * 2 ^ e.toNat else rneShift m (-e).toNat
  if neg then -(k : Int) else k

/-- Saturation to `w` bits. -/
def satInt (w : Nat) (x : Int) : Int := clampI (-(2 ^ (w - 1))) (2 ^ (w - 1) - 1) x

/-- Conversion to an integer format (R468): nearest even, saturating; of NaN it is open. -/
def convInt (f : Nat) (open_ : Nat) : Fv → Conv
  | .nan => ⟨open_ % 2 ^ fmtBits f, true, false, false⟩
  | .inf neg => ⟨uInt (fmtBits f) (satInt (fmtBits f) (if neg then -(2 ^ 40) else 2 ^ 40)), false, true, true⟩
  | .fin neg m e =>
    let x := rneInt neg m e
    ⟨uInt (fmtBits f) (satInt (fmtBits f) x), false, false, satInt (fmtBits f) x != x⟩

/-- Conversion to any format but MX. -/
def convFv (f : Nat) (sat : Bool) (open_ : Nat) (v : Fv) : Conv :=
  if isIntFmt f then convInt f open_ v else convFloat f sat v

/-- Rounded to FP32. -/
def r32 (v : Fv) : Fv := decodeFv 0 (convFloat 0 false v).raw

/-- A signed magnitude. -/
def sgn (neg : Bool) (m : Nat) : Int := if neg then -(m : Int) else m

/-- Exact sum; a zero sum of opposite zeros or of cancelling terms is +0 (R460). -/
def fvAdd : Fv → Fv → Fv
  | .nan, _ => .nan
  | _, .nan => .nan
  | .inf a, .inf b => if a = b then .inf a else .nan
  | .inf a, _ => .inf a
  | _, .inf b => .inf b
  | .fin a m e, .fin b n f =>
    let q := min e f
    let x := sgn a (m * 2 ^ (e - q).toNat) + sgn b (n * 2 ^ (f - q).toNat)
    if x = 0 then .fin (a && b && m == 0 && n == 0) 0 0 else .fin (decide (x < 0)) x.natAbs q

/-- Exact product; infinity times zero is NaN (R462). -/
def fvMul : Fv → Fv → Fv
  | .nan, _ => .nan
  | _, .nan => .nan
  | .inf a, .inf b => .inf (a != b)
  | .inf a, .fin b n _ => if n = 0 then .nan else .inf (a != b)
  | .fin a m _, .inf b => if m = 0 then .nan else .inf (a != b)
  | .fin a m e, .fin b n f => .fin (a != b) (m * n) (e + f)

/-- The negation. -/
def fvNeg : Fv → Fv
  | .nan => .nan
  | .inf a => .inf (!a)
  | .fin a m e => .fin (!a) m e

/-- A quotient, exact enough for one rounding to FP32: 64 bits and a sticky bit. -/
def fvDiv : Fv → Fv → Fv
  | .nan, _ => .nan
  | _, .nan => .nan
  | .inf _, .inf _ => .nan
  | .inf a, .fin b _ _ => .inf (a != b)
  | .fin a _ _, .inf b => .fin (a != b) 0 0
  | .fin a m e, .fin b n f =>
    if n = 0 then (if m = 0 then .nan else .inf (a != b))
    else
      let k := 64 + n.log2
      let x := m * 2 ^ k
      .fin (a != b) (2 * (x / n) + (if x % n = 0 then 0 else 1)) (e - f - k - 1)

/-- Scaled by a power of two. -/
def fvScale (k : Int) : Fv → Fv
  | .fin a m e => .fin a m (e + k)
  | v => v

/-- +0 -/
def fvZero : Fv := .fin false 0 0

/-- −0, which an exact sum can start from. -/
def fvNegZero : Fv := .fin true 0 0

/-- An exact sum. -/
def fvSum (l : List Fv) : Fv := l.foldl fvAdd fvNegZero

/-- Groups of 32. -/
def groups32 {α : Type} : Nat → List α → List (List α)
  | 0, _ => []
  | n + 1, l => if l.isEmpty then [] else l.take 32 :: groups32 n (l.drop 32)

/-- Sum of exact groups of 32, each added to the accumulator with one rounding (R460, R465). -/
def groupSum (acc : Fv) (l : List Fv) : Fv :=
  (groups32 (l.length / 32 + 1) l).foldl (fun a g => r32 (fvAdd a (fvSum g))) acc

/-- Strictly less, of values that are no NaN; zeros of either sign are equal (R466). -/
def fvLt : Fv → Fv → Bool
  | .fin a m e, .fin b n f =>
    let q := min e f
    decide (sgn a (m * 2 ^ (e - q).toNat) < sgn b (n * 2 ^ (f - q).toNat))
  | .inf a, .inf b => a && !b
  | .inf a, .fin _ _ _ => a
  | .fin _ _ _, .inf b => !b
  | _, _ => false

/-- The order of ROW_MAX, ROW_ARGMAX and TOPK: NaN lies above +∞ (R466). -/
def rowLt : Fv → Fv → Bool
  | .nan, _ => false
  | _, .nan => true
  | a, b => fvLt a b

/-- Element `i` of a packed plane (R457). -/
def elemAt (f : Nat) (b : Bytes) (i : Nat) : Nat :=
  match fmtBits f with
  | 4 => fld b (i / 2) 1 / (if i % 2 = 0 then 1 else 16) % 16
  | 6 => fld b (i / 4 * 3) 3 / 2 ^ (6 * (i % 4)) % 64
  | w => fld b (i * (w / 8)) (w / 8)

/-- Bytes of `n` packed elements. -/
def planeBytes (f n : Nat) : Nat := (n * fmtBits f + 7) / 8

/-- A packed plane of elements (R457): a little-endian number of `n` elements. -/
def packPlane (f : Nat) (l : List Nat) : Bytes :=
  leBytes (planeBytes f l.length) (l.foldr (fun x r => x % 2 ^ fmtBits f + 2 ^ fmtBits f * r) 0)

/-- The value of an MX element under its scale byte (R458); 0xFF is NaN. -/
def mxValue (f raw scale : Nat) : Fv := if scale = 0xFF then .nan else fvScale ((scale : Int) - 127) (decodeFv f raw)

/-- Floor of log2 of a positive magnitude. -/
def fvLog2 (m : Nat) (e : Int) : Int := e + m.log2

/-- The largest magnitude of a block, as a floor of log2; none: every element is zero. -/
def blockTop (l : List Fv) : Option Int :=
  l.foldl (fun b v => match v with
    | .fin _ m e => if m = 0 then b else some (match b with | none => fvLog2 m e | some t => max t (fvLog2 m e))
    | _ => b) none

/-- MX quantisation of one block (R467): the scale byte and the elements. -/
def mxQuant (f : Nat) (l : List Fv) : Nat × List Nat :=
  if l.any (fun v => match v with | .fin _ _ _ => false | _ => true) then (0xFF, l.map (fun _ => 0))
  else
    match blockTop l with
    | none => (0, l.map (fun _ => 0))
    | some t =>
      let x := clampI (-127) 127 (t - (if f = 5 then 4 else 2))
      ((x + 127).toNat, l.map (fun v => (convFloat f true (fvScale (-x) v)).raw))

end Sys2Proof.Machine
end

