-- ==== Sys2Proof/Machine/Routes.lean ====
section
/-! DEFINITION. Routes between packages and the sending side of coupling links (23 R560, R562, R568, Tables 23-2, 23-5). -/
namespace Sys2Proof.Machine

/-- A link that has not trained since cold start. -/
def ClLink.off : ClLink := ⟨0, 0, [], 0, 0, 0, none, 0, 0, [], [], [], none, []⟩

/-- The state of a link's framing. -/
def clLink (s : Chip) (l : Nat) : ClLink := tget ClLink.off s.cons.links l

/-- Set it. -/
def setCl (s : Chip) (l : Nat) (x : ClLink) : Chip := { s with cons := { s.cons with links := tput s.cons.links l x } }

/-- OD 60.011:l+1 reads 2, up. -/
def clUp (s : Chip) (l : Nat) : Bool := odN s 0x60011 (l + 1) == 2

/-- The up links of a mask. -/
def upLinks (s : Chip) (mask : Nat) : List Nat := (List.range 8).filter (fun l => bit mask l && clUp s l)

/-- The links traffic to an ordinal uses now: those of the first mask of its route with a link up (R568). -/
def routeLinks (s : Chip) (ord : Nat) : List Nat :=
  let r := odN s 0x60030 (ord + 1)
  let a := upLinks s (bits r 7 0)
  let b := upLinks s (bits r 15 8)
  if a ≠ [] then a else if b ≠ [] then b else upLinks s (bits r 23 16)

/-- Some route to the ordinal is up. -/
def routeUp (s : Chip) (ord : Nat) : Bool := routeLinks s ord != []

/-- OD 60.001, 60.002, 60.005 and 60.010:1 to :8 as they stood at the last reset (R567), by number 0 to 10. -/
def inForce (s : Chip) (i : Nat) : Nat := s.cons.force.getD i 0

/-- This package's ordinal. -/
def ownOrd (s : Chip) : Nat := inForce s 1

/-- ACK of a link: FSEQ of the last data flit received in order (Table 23-2). -/
def ackOf (x : ClLink) : Nat := (x.expectF + 65535) % 65536

/-- Payloads of 744 bytes, the last padded with TYPE 0 (23 Messages). -/
def payloads : Nat → Bytes → List Bytes
  | 0, _ => []
  | n + 1, b => if b = [] then [] else slice b 0 744 :: payloads n (b.drop 744)

/-- Send data flits on a link: each is held until acknowledged (R560) and counted. -/
def sendFlits (s : Chip) (l : Nat) : List Bytes → Chip
  | [] => s
  | p :: r =>
    let x := clLink s l
    let s := setCl s l { x with
      buf := x.buf ++ [(x.nextF, p)], nextF := (x.nextF + 1) % 65536, ackAt := if x.buf = [] then nowNs s else x.ackAt }
    let s := odAdd64 s (0x60020 + l) 1 1
    sendFlits (emit s (.flit l 1 x.nextF (ackOf x) 0 0 p)) l r

/-- A flit without data: idle, replay request, training or lane control; it carries the next data FSEQ. -/
def sendBare (s : Chip) (l kind vc credit : Nat) (p : Bytes) : Chip :=
  let x := clLink s l
  emit (odAdd64 s (0x60020 + l) 1 1) (.flit l kind x.nextF (ackOf x) vc credit p)

/-- Credit of a channel. -/
def creditOf (x : ClLink) (vc : Nat) : Nat := if vc = 0 then x.credit0 else x.credit1

/-- Credit of a channel set. -/
def withCredit (x : ClLink) (vc c : Nat) : ClLink := if vc = 0 then { x with credit0 := c } else { x with credit1 := c }

/-- Send a message on a link, if there is credit for it (R562) and room among the 256 held flits (R560). It begins a flit;
the rest of its last flit is padded. -/
def trySend (s : Chip) (l vc : Nat) (m : Bytes) : Option Chip :=
  let x := clLink s l
  let need := cdiv m.length 64
  let ps := payloads (m.length / 744 + 1) m
  if need ≤ creditOf x vc ∧ x.buf.length + ps.length ≤ 256 then
    let last := (x.nextF + ps.length + 65535) % 65536
    some (sendFlits (setCl s l { withCredit x vc (creditOf x vc - need) with msgs := x.msgs ++ [(last, m)] }) l ps)
  else none

/-- Send a message on a link, or keep it waiting behind those that wait (R587). -/
def sendOn (s : Chip) (l vc : Nat) (m : Bytes) : Chip :=
  let x := clLink s l
  let queue := setCl s l { x with waiting := x.waiting ++ [(vc, m)] }
  if x.waiting.any (fun w => w.1 == vc) then queue
  else match trySend s l vc m with
    | some s => s
    | none => queue

/-- Waiting messages go as credit and room return: the first that can go of each channel, in order. -/
def drainWaiting (s : Chip) (l : Nat) : Nat → Chip
  | 0 => s
  | n + 1 =>
    let x := clLink s l
    match x.waiting with
    | [] => s
    | (vc, m) :: r =>
      match trySend (setCl s l { x with waiting := r }) l vc m with
      | some s => drainWaiting s l n
      | none =>
        match r.find? (fun w => w.1 ≠ vc) with
        | none => s
        | some w =>
          match trySend (setCl s l { x with waiting := x.waiting.erase w }) l w.1 w.2 with
          | some s => drainWaiting s l n
          | none => s

/-- The virtual channel of a message TYPE (R562): data on VC1, everything else on VC0. -/
def vcOf (type : Nat) : Nat := if type = 3 ∨ type = 5 then 1 else 0

/-- A message (Table 23-5). -/
def message (type src dst plat flags tag addr : Nat) (data : Bytes) : Bytes :=
  leBytes 1 type ++ leBytes 1 (src + 16 * dst) ++ leBytes 1 plat ++ leBytes 1 flags ++ leBytes 2 data.length
    ++ leBytes 2 tag ++ leBytes 8 addr ++ data

/-- The destination ordinal of a message (ORDS[7:4]). -/
def msgDst (m : Bytes) : Nat := fld m 1 1 / 16
/-- Its source ordinal. -/
def msgSrc (m : Bytes) : Nat := fld m 1 1 % 16

/-- Send a message to its destination on the route there; which up link of the mask carries it is open (R568, striped). A
message that no route takes waits for one; an own add waits among those not acknowledged instead (R571). -/
def sendMsg (s : Chip) (m : Bytes) : Chip :=
  match routeLinks s (msgDst m) with
  | [] =>
    if fld m 0 1 = 1 ∧ msgSrc m = ownOrd s then s
    else { s with cons := { s.cons with stranded := s.cons.stranded ++ [m] } }
  | l :: r =>
    let f := takeFree s 32
    sendOn f.2 (((l :: r).drop (f.1 % (r.length + 1))).headD l) (vcOf (fld m 0 1)) m

/-- A SIGNAL_ADD to another package: numbered end to end, kept until acknowledged (R571). -/
def sendAddPart (s : Chip) (ord plat sig v : Nat) : Chip :=
  let q := tget 0 s.cons.nextAdd ord
  let m := message 1 (ownOrd s) ord plat 0 (q % 65536) (sig % 4096 + v % 2 ^ 32 * 65536 + q / 65536 * 2 ^ 48) []
  let s := { s with cons := { s.cons with
    nextAdd := tput s.cons.nextAdd ord ((q + 1) % 2 ^ 32), kept := s.cons.kept ++ [(ord, q, m)] } }
  sendMsg s m

/-- An add of any size, as messages of 32-bit values. -/
def sendAdds (s : Chip) (ord plat sig v : Nat) : Nat → Chip
  | 0 => s
  | n + 1 => sendAdds (sendAddPart s ord plat sig (min v 0xFFFFFFFF)) ord plat sig (v - min v 0xFFFFFFFF) n

/-- An add to a signal of another package, for a platform or 0xFF. -/
def sendAdd (s : Chip) (ord plat sig v : Nat) : Chip := sendAdds s ord plat sig v (cdiv v 0xFFFFFFFF)

end Sys2Proof.Machine
end

