-- ==== Sys2Proof/Machine/Signals.lean ====
section
/-! DEFINITION. Signals (19 R481 to R487, R498): adds, reads, and the release of every kind of waiter. The counters are
the objects OD 51.400 + s / 16, the owners OD 51.100 + s / 16. -/
namespace Sys2Proof.Machine

/-- The counter of a signal. -/
def sigVal (s : Chip) (sig : Nat) : Nat := odN s (0x51400 + sig / 16) (sig % 16 + 1)

/-- Its owner (R484). -/
def sigOwner (s : Chip) (sig : Nat) : Nat := odN s (0x51100 + sig / 16) (sig % 16 + 1)

/-- Who asks: a platform's engine, the open or the sealed domain, or an open-domain core or engine acting for a platform
(R486). -/
inductive SigAgent where
  | plat (p : Nat)
  | opn
  | sealed
  | openFor (p : Nat)
deriving DecidableEq, Repr

/-- An add, wait or read is allowed (R486). -/
def sigAllowed (s : Chip) (g : SigAgent) (sig : Nat) : Bool :=
  let o := sigOwner s sig
  decide (sig < 4096) && match g with
    | .plat p => o == p && decide (p < 64)
    | .opn => o == 0xFD
    | .sealed => o == 0xFE
    | .openFor p => o == 0xFD || (o == p && decide (p < 64))

/-- The agent of a descriptor's PLATFORM field in a queue of the open domain: 0xFF is the open domain itself. -/
def agentFor (plat : Nat) : SigAgent := if plat < 64 then .plat plat else .opn

/-- The condition of a waiter: at least, or equal to, its threshold (R481). -/
def sigMeets (v thr : Nat) (eq : Bool) : Bool := if eq then v == thr else decide (thr ≤ v)

/-- The sum, saturating (R481). -/
def sigSum (v add : Nat) : Nat := min (v + add) (2 ^ 64 - 1)

/-- The threshold of a binding. -/
def Binding.thr (b : Binding) : Nat := b.thrLo.toNat + 2 ^ 32 * b.thrHi.toNat

/-- The signal a binding names: BIND_SIG [11:0] (08 Table 8-4). -/
def Binding.num (b : Binding) : Nat := b.sig.toNat % 4096
/-- Its condition: BIND_SIG [13:12], 0 at least, 1 equal. -/
def Binding.eq (b : Binding) : Bool := bits b.sig.toNat 13 12 == 1

/-- An armed binding's condition is met by a value of its signal. -/
def Binding.fires (b : Binding) (sig v : Nat) : Bool := b.armed && b.num == sig && sigMeets v b.thr b.eq

/-- A binding whose condition a value meets fires: INT_PEND set, disarmed (R235). -/
def fireBindings (c : Core) (sig v : Nat) : Core :=
  { c with
    intPend := c.binds.foldl (fun m x => if x.2.fires sig v then m ||| BitVec.ofNat 32 (2 ^ x.1) else m) c.intPend
    binds := c.binds.map (fun x => (x.1, if x.2.fires sig v then { x.2 with armed := false, fired := true } else x.2)) }

/-- A SIGWT whose condition a value meets is satisfied (09 R260). -/
def wakeCore (c : Core) (sig v : Nat) : Core :=
  match c.wait with
  | .sigwt n eq thr false => if n = sig ∧ sigMeets v thr eq then { c with wait := .sigwt n eq thr true } else c
  | _ => c

/-- A WAIT entry at the head of a dispatch queue (Table 19-2) whose condition a value meets is released (R491). -/
def wakeEntry (e : DqEntry) (sig v : Nat) : DqEntry :=
  if fld e.b 0 1 = 0xF0 ∧ fld e.b 4 2 = sig ∧ sigMeets v (fld e.b 8 8) (bit (fld e.b 1 1) 0) then
    { e with released := true } else e

/-- Only the head of a queue waits. -/
def wakeDq (q : Dq) (sig v : Nat) : Dq :=
  match q.entries with
  | [] => q
  | e :: r => { q with entries := wakeEntry e sig v :: r }

/-- The record of trigger `t` of die `t / 64` (Table 19-4). -/
def trigRec (s : Chip) (t : Nat) : Bytes := odB s (0x51500 + t / 16) (t % 16 + 1)

/-- A trigger without firings ahead has met its condition `=` on this value (R495): its binding holds that until the
sequencer pushes the chain. -/
def trigLatch (s : Chip) (t sig v : Nat) : Nat :=
  let r := trigRec s t
  let n := tget 0 s.disp.pushed t
  if fld r 0 1 = 3 ∧ fld r 1 1 = 0 ∧ fld r 4 2 = sig ∧ v = fld r 8 8 + (fld r 48 8 + n) * fld r 16 4 then n + 1 else n

/-- Every trigger's binding sees the value. -/
def trigLatches (s : Chip) (sig v : Nat) : Table Nat :=
  (odListed s 0x51500 0x5150F).foldl (fun p x =>
    let t := 16 * (x.1 - 0x51500) + (x.2 - 1)
    tset 0 p t (trigLatch s t sig v)) s.disp.pushed

/-- Every waiter that the new value of a signal satisfies is released (R34, R481, R487). -/
def release (s : Chip) (sig v : Nat) : Chip :=
  { s with
    cores := s.cores.map (fun c => (c.1, wakeCore (fireBindings c.2 sig v) sig v))
    disp := { s.disp with dqs := s.disp.dqs.map (fun q => (q.1, wakeDq q.2 sig v)), pushed := trigLatches s sig v } }

/-- Set a counter. -/
def setSig (s : Chip) (sig v : Nat) : Chip := odSet s (0x51400 + sig / 16) (sig % 16 + 1) v

/-- The PLATFORM of a signal's events: its owner where that is a platform. -/
def sigPlat (s : Chip) (sig : Nat) : Nat := if sigOwner s sig < 64 then sigOwner s sig else 0xFF

/-- An add applied at the signal's home (R481): saturation is counted and reported. -/
def applyAdd (s : Chip) (sig v : Nat) : Chip :=
  if v = 0 then s else
  let old := sigVal s sig
  let s := setSig s sig (sigSum old v)
  let s := if 2 ^ 64 - 1 < old + v then raiseP (odAdd64 s 0x51020 2 1) evSigSaturated (sigPlat s sig) sig else s
  release s sig (sigSum old v)

/-- Field of coupling record `r` (Table 19-5). -/
def couple (s : Chip) (r off n : Nat) : Nat := odFld s (0x51300 + r / 16) (r % 16 + 1) off n

/-- The part of an add that an out-record sends (R498), or sums into PENDING while no route is up (R499). -/
def coupleOne (s : Chip) (sig v r : Nat) : Chip :=
  if bit (couple s r 2 1) 0 && !bit (couple s r 2 1) 1 && couple s r 0 2 == sig then
    let ord := couple s r 3 1
    if routeUp s ord then sendAdd s ord 0xFF (couple s r 4 2) v
    else odSetFld s (0x51300 + r / 16) (r % 16 + 1) 8 8 (sigSum (couple s r 8 8) v)
  else s

/-- Every enabled out-record of the signal. -/
def coupleOut (s : Chip) (sig v : Nat) : Chip :=
  if v = 0 then s
  else (odListed s 0x51300 0x5130F).foldl (fun s x => coupleOne s sig v (16 * (x.1 - 0x51300) + (x.2 - 1))) s

/-- The unit of a signal's home (Table 24-2). -/
def sigUnit (sig : Nat) : Nat := match sigHome sig with | none => 0xA000 | some d => 0xA001 + d

/-- An add that the home takes: applied, or held at the sender while the home's die is dark or its unit is fenced (R38,
R502), in the order received. -/
def deliverAdd (s : Chip) (sig v : Nat) : Chip :=
  let dark := (sigHome sig).any (fun d => !dieLit s d)
  if dark || fenced s (sigUnit sig) then { s with disp := { s.disp with held := s.disp.held ++ [(sig, v)] } }
  else coupleOut (applyAdd s sig v) sig v

/-- An add by an agent (R41, R486): `v` is 32 bits wide; a disallowed one is discarded and counted. -/
def sigAdd (s : Chip) (g : SigAgent) (sig v : Nat) : Chip :=
  if sigAllowed s g sig then deliverAdd s sig (v % 2 ^ 32) else odAdd64 s 0x51020 1 1

/-- A read by an agent (R481, R258): a disallowed one reads 0 and is counted as a disallowed add. -/
def sigRead (s : Chip) (g : SigAgent) (sig : Nat) : Nat × Chip :=
  if sigAllowed s g sig then (sigVal s sig, s) else (0, odAdd64 s 0x51020 1 1)

/-- The adds held for homes that take them again are applied in the order received (R38, R502). -/
def applyHeld (s : Chip) : Chip :=
  s.disp.held.foldl (fun s x => deliverAdd s x.1 x.2) { s with disp := { s.disp with held := [] } }

/-- Adds of one window by one agent: each 32 bits wide, summed (R483); disallowed ones are each counted. -/
def signalAdds (s : Chip) (g : SigAgent) (sig : Nat) (vs : List Nat) : Chip :=
  if sigAllowed s g sig then deliverAdd s sig ((vs.map (· % 2 ^ 32)).sum) else odAdd64 s 0x51020 1 vs.length

/-- Add 1 to a SIGNAL field; 0xFFFF names none, and a number beyond 4,095 no signal, so its add is a disallowed one. -/
def addSignal (s : Chip) (g : SigAgent) (sig : Nat) : Chip :=
  if sig = 0xFFFF then s else sigAdd s g sig 1

/-- All counters at 0, at cold start, warm reset and E3 to E2 (R482). -/
def clearSignals (s : Chip) : Chip :=
  { s with od := s.od.filter (fun x => decide (x.1 < 256 * 0x51400) || decide (256 * 0x51500 ≤ x.1)) }

end Sys2Proof.Machine
end

