-- ==== Sys2Proof/Machine/Queues.lean ====
section
/-! DEFINITION. Port-fed queues: pushes, pops and completions of cipher, relay and dispatch queues (17 R434 to R436, 19
R488, 23 R573). -/
namespace Sys2Proof.Machine

/-! ## Local SRAM of a core -/

/-- `n` bytes of local SRAM from an offset; what lies beyond its end is open (the spec gives a push no such offset). -/
def sramFetch (s : Chip) (t off n : Nat) : Bytes × Chip :=
  if off + n ≤ sramSize then (memRead (coreOf s t).sram off n, s)
  else
    let f := takeFree s (8 * n)
    (leBytes n f.1, f.2)

/-- Bytes written to a core's local SRAM by an engine. -/
def sramPut (s : Chip) (t off : Nat) (b : Bytes) : Chip := setCore s t (sramWrite (coreOf s t) off b)

/-! ## Dispatch queue records (Table 19-1) -/

/-- The record of dispatch queue `d`. -/
def dqRec (s : Chip) (d : Nat) : Bytes := odB s (0x51040 + d / 16) (d % 16 + 1)
/-- MODE: 0 off, 1 port-fed, 2 ring-fed. -/
def dqMode (s : Chip) (d : Nat) : Nat := fld (dqRec s d) 0 1
/-- TARGET: 1 frame decode, 2 storage, 0 array die. -/
def dqTarget (s : Chip) (d : Nat) : Nat := fld (dqRec s d) 1 1
/-- CORE -/
def dqCore (s : Chip) (d : Nat) : Nat := fld (dqRec s d) 2 1
/-- OWNER -/
def dqOwner (s : Chip) (d : Nat) : Nat := fld (dqRec s d) 3 1
/-- AREA -/
def dqArea (s : Chip) (d : Nat) : Nat := fld (dqRec s d) 12 4
/-- CQ -/
def dqCq (s : Chip) (d : Nat) : Nat := fld (dqRec s d) 6 2
/-- NATIVE_Q -/
def dqNative (s : Chip) (d : Nat) : Nat := fld (dqRec s d) 8 2

/-- A halt of a leased block is deferred (R78, R204): `kind` 0 power step, 1 cluster halt, 2 warm reset. -/
def deferHalt (s : Chip) (kind arg block : Nat) : Chip :=
  raiseU (odInc { s with sec := { s.sec with deferred := s.sec.deferred ++ [⟨kind, arg, block, nowNs s⟩] } } 0x04042 0)
    evHaltDeferred block block

/-- A queue with nothing in it. -/
def Dq.empty : Dq := ⟨[], [], 0, 0, [], none⟩

/-- The contents of a dispatch queue. -/
def dqOf (s : Chip) (d : Nat) : Dq := tget Dq.empty s.disp.dqs d

/-- Set them. -/
def setDq (s : Chip) (d : Nat) (q : Dq) : Chip := { s with disp := { s.disp with dqs := tput s.disp.dqs d q } }

/-- DQ_STATE, OD 51.060 + d / 16: 0 off, 1 running, 2 waiting, 3 error. -/
def dqState (s : Chip) (d : Nat) : Nat := odN s (0x51060 + d / 16) (d % 16 + 1)

/-- Set DQ_STATE. -/
def setDqState (s : Chip) (d v : Nat) : Chip := odSet s (0x51060 + d / 16) (d % 16 + 1) v

/-- The array die of a dispatch queue: 0 hub, 1 to 4 AD0 to AD3. -/
def dqDie (d : Nat) : Nat := if d < 64 then 0 else (d - 64) / 32 + 1

/-- A control entry (Table 19-2). -/
def isControl (b : Bytes) : Bool := decide (0xF0 ≤ fld b 0 1) && decide (fld b 0 1 ≤ 0xF2)

/-- The COOKIE of an entry: 0 for a control entry (Tables 18-5, 20-3). -/
def dqCookie (b : Bytes) : Nat := if isControl b then 0 else if fld b 0 1 = 0x40 then fld b 12 4 else fld b 20 4

/-! ## Completion slots -/

/-- The slot of the next completion of an area of 64: the lowest that holds none, then the one popped last (R436). -/
def freeSlot (ready : List Nat) (popped : Option Nat) : Nat :=
  match (List.range 64).find? (fun i => !ready.contains i && popped != some i) with
  | some i => i
  | none => popped.getD 0

/-- A job entry of a TARGET 2 queue is a waybill (R493). -/
def dqWaybill (s : Chip) (d : Nat) (b : Bytes) : Bool := dqTarget s d == 2 && !isControl b

/-- OP, platform (0xFF none) and COOKIE of an entry for its completion. -/
def dqView (s : Chip) (d : Nat) (b : Bytes) : Nat × Nat × Nat :=
  if dqWaybill s d b then
    (fld b 2 1, (match tget? s.storage.queues (dqNative s d) with | some q => q.owner | none => 0xFF), fld b 8 4)
  else (fld b 0 1, fld b 2 1, dqCookie b)

/-- A dispatch completion (Table 19-3). -/
def dqCompletion (s : Chip) (index flags status unit d : Nat) (b : Bytes) (bytes steps energy : Nat) : Bytes :=
  let v := dqView s d b
  leBytes 2 index ++ leBytes 1 flags ++ leBytes 1 status ++ leBytes 1 v.1 ++ leBytes 1 unit
    ++ leBytes 2 (if v.2.1 < 64 then platEpoch s v.2.1 % 65536 else 0) ++ leBytes 4 v.2.2 ++ leBytes 2 d ++ zeros 2
    ++ leBytes 8 bytes ++ leBytes 4 (min steps 0xFFFFFFFF) ++ zeros 4 ++ leBytes 8 energy ++ leBytes 8 (epochNs s) ++ zeros 16

/-- A completion of a port-fed dispatch queue: into the bound core's local SRAM (R488). -/
def dqPortComplete (s : Chip) (d flags status unit : Nat) (b : Bytes) (bytes steps energy : Nat) : Chip :=
  let q := dqOf s d
  let k := freeSlot q.ready q.popped
  let s := sramPut s (dqCore s d) (dqArea s d + 64 * k) (dqCompletion s k flags status unit d b bytes steps energy)
  setDq s d { q with ready := q.ready ++ [k], popped := if q.popped = some k then none else q.popped }

/-- The agent of a job's signal adds (R486). -/
def dqSigAgent (s : Chip) (d : Nat) (b : Bytes) : SigAgent :=
  if fld b 2 1 < 64 then (if dqMode s d = 2 ∧ dqOwner s d < 64 then .plat (fld b 2 1) else .openFor (fld b 2 1))
  else if dqMode s d = 1 ∧ dqCore s d < 4 then .sealed else .opn

/-- The add to SIGNAL when a job entry completes, whatever its status (18 R471, 16 R421); a control entry has none. -/
def dqSignal (s : Chip) (d : Nat) (b : Bytes) : Chip :=
  if isControl b then s
  else if dqWaybill s d b then
    let o := (dqView s d b).2.1
    addSignal s (if o < 64 then .plat o else .opn) (fld b 28 2)
  else addSignal s (dqSigAgent s d b) (fld b 8 2)

/-- A sealed job runs on the die: a job of the sealed domain's own, from a queue bound to T00 to T03 (Table 7-7). -/
def dieLeased (s : Chip) (die : Nat) : Bool :=
  (List.range 32).any (fun i =>
    let d := 64 + 32 * (die - 1) + i
    dqMode s d == 1 && decide (dqCore s d < 4) && (dqOf s d).running.any (fun j => decide (64 ≤ fld j.b 2 1)))

/-- A sealed request is queued or running on the cluster (17 R442). -/
def clusterLeased (s : Chip) (c : Nat) : Bool :=
  s.engines.ciphers.any (fun r => r.cluster == c && decide (r.slot < 1024))

/-- The number of the positions below `n` that hold. -/
def maskOf (n : Nat) (p : Nat → Bool) : Nat := (List.range n).foldl (fun m i => if p i then m + 2 ^ i else m) 0

/-- OD 04.040:1 clusters and :3 array dies under lease (Table 7-7). -/
def showLeases (s : Chip) : Chip :=
  odSet (odSet s 0x04040 1 (maskOf 8 (clusterLeased s))) 0x04040 3 (maskOf 4 (fun d => dieLeased s (d + 1)))

/-! ## Cipher and relay queues -/

/-- A queue with nothing in it. -/
def PortQ.empty : PortQ := ⟨[], 0, [], none⟩

/-- A cipher queue k (k) or relay queue k (32 + k). -/
def portQ (s : Chip) (k : Nat) : PortQ := tget PortQ.empty s.disp.portQs k

/-- Set it. -/
def setPortQ (s : Chip) (k : Nat) (q : PortQ) : Chip := { s with disp := { s.disp with portQs := tput s.disp.portQs k q } }

/-- The core bound to it (OD 31.020, OD 60.080). -/
def portCore (s : Chip) (k : Nat) : Nat := if k < 32 then odN s 0x31020 (k + 1) else odN s 0x60080 (k - 32 + 1)

/-- Its completion area (OD 31.021, OD 60.081). -/
def portArea (s : Chip) (k : Nat) : Nat := if k < 32 then odN s 0x31021 (k + 1) else odN s 0x60081 (k - 32 + 1)

/-- Outstanding entries: from push until the completion is popped (R435). -/
def PortQ.outstanding (q : PortQ) : Nat := q.waiting.length + q.running + q.ready.length

/-- A completion of 32 bytes (Table 17-3): written whole, in completion order (R436). -/
def portComplete (s : Chip) (k status cluster : Nat) (b : Bytes) (bytes : Nat) : Chip :=
  let q := portQ s k
  let i := freeSlot q.ready q.popped
  let p := fld b 2 1
  let c := leBytes 1 status ++ leBytes 1 (fld b 0 1) ++ leBytes 1 p ++ leBytes 1 cluster
    ++ leBytes 2 (if p < 64 then platEpoch s p % 65536 else 0) ++ zeros 2 ++ leBytes 4 (fld b 12 4) ++ zeros 4
    ++ leBytes 8 bytes ++ leBytes 8 (epochNs s)
  let s := sramPut s (portCore s k) (portArea s k + 32 * i) c
  setPortQ s k { q with ready := q.ready ++ [i], popped := if q.popped = some i then none else q.popped }

/-! ## Pushes and pops by P-space queue number -/

/-- What a P-space queue number names for a core. -/
inductive QueueId where
  | engine (k : Nat)
  | dispatch (d : Nat)
  | none
deriving DecidableEq, Repr

/-- The die of a core: 0 hub, 1 to 4 AD0 to AD3 (Table 8-1). -/
def coreDie (t : Nat) : Nat := if t < 16 then 0 else (t - 16) / 2 + 1

/-- P-space queues: 0x300 + k cipher (R434), 0x320 + k relay (R573), 0x100 + d dispatch, and a sequencer's own die's
queues at 0 to 31 (R488). -/
def queueId (t q : Nat) : QueueId :=
  if q < 32 ∧ 16 ≤ t then .dispatch (64 + 32 * (coreDie t - 1) + q)
  else if 0x100 ≤ q ∧ q < 0x100 + 192 then .dispatch (q - 0x100)
  else if 0x300 ≤ q ∧ q < 0x310 then .engine (q - 0x300)
  else if 0x320 ≤ q ∧ q < 0x330 then .engine (32 + (q - 0x320))
  else .none

/-- A port request: done with a value; the subcode of PORT_FAULT; or a wait on an isolated unit (08 R232). -/
inductive PortRes where
  | ok (v : Nat) (s : Chip)
  | fault (sub : Nat)
  | isolated
deriving DecidableEq, Repr

/-- A push onto a cipher or relay queue (R435): with 64 outstanding it is discarded. -/
def enginePush (s : Chip) (t k off : Nat) : PortRes :=
  if portCore s k ≠ t then .fault 2
  else
    let q := portQ s k
    if 64 ≤ q.outstanding then
      .ok 0 (if k < 32 then raise (odAdd64 s 0x31050 7 1) evCipherPushDiscarded k else s)
    else
      let b := sramFetch s t off 64
      let s := { b.2 with disp := { b.2.disp with nextJob := b.2.disp.nextJob + 1 } }
      .ok 0 (setPortQ s k { q with waiting := q.waiting ++ [⟨b.2.disp.nextJob, 0, b.1⟩] })

/-- A push onto a dispatch queue (R488): in ERROR the entry completes FLUSHED (R491). -/
def dispatchPush (s : Chip) (t d off : Nat) : PortRes :=
  if dqMode s d ≠ 1 ∨ dqCore s d ≠ t then .fault 2
  else
    let q := dqOf s d
    if 64 ≤ q.entries.length + q.running.length + q.ready.length then .ok 0 s
    else
      let b := sramFetch s t off 64
      if dqState s d = 3 then .ok 0 (dqSignal (dqPortComplete b.2 d 0 0x20 0xFF b.1 0 0 0) d b.1)
      else .ok 0 (setDq b.2 d { q with entries := q.entries ++ [⟨b.1, 0, false, none⟩] })

/-- QUEUE_PUSH: an OUT to push port of queue `q` with a local-SRAM offset. -/
def queuePush (s : Chip) (t q off : Nat) : PortRes :=
  match queueId t q with
  | .engine k => enginePush s t k off
  | .dispatch d => dispatchPush s t d off
  | .none => .fault 1

/-- QUEUE_POP: the local-SRAM offset of the oldest completion not popped, or 0xFFFF_FFFF (R436). -/
def queuePop (s : Chip) (t q : Nat) : PortRes :=
  match queueId t q with
  | .engine k =>
    if portCore s k ≠ t then .fault 2
    else
      let x := portQ s k
      match x.ready with
      | [] => .ok 0xFFFFFFFF (setPortQ s k { x with popped := none })
      | i :: r => .ok (portArea s k + 32 * i) (setPortQ s k { x with ready := r, popped := some i })
  | .dispatch d =>
    if dqMode s d ≠ 1 ∨ dqCore s d ≠ t then .fault 2
    else
      let x := dqOf s d
      match x.ready with
      | [] => .ok 0xFFFFFFFF (setDq s d { x with popped := none })
      | i :: r => .ok (dqArea s d + 64 * i) (setDq s d { x with ready := r, popped := some i })
  | .none => .fault 1

end Sys2Proof.Machine
end

