-- ==== Sys2Proof/Machine/Arrays.lean ====
section
/-! DEFINITION. The arrays and vector units (18): checks of a job (R455, R459, R470), what a matrix or vector job computes
(R460 to R468), its steps and units (R472, R473), and the rows of its operations. A row runs the operation of an issued job;
JOB_COMPLETE writes the completion. -/
namespace Sys2Proof.Machine

/-! ## Job fields (Table 18-5) -/

/-- OP -/
def jOp (b : Bytes) : Nat := fld b 0 1
/-- FLAGS -/
def jFlags (b : Bytes) : Nat := fld b 1 1
/-- PLATFORM -/
def jPlat (b : Bytes) : Nat := fld b 2 1
/-- Format of A or SRC1 -/
def jFmt1 (b : Bytes) : Nat := fld b 3 1 % 16
/-- Format of W or SRC2 -/
def jFmt2 (b : Bytes) : Nat := fld b 3 1 / 16
/-- OUT_FMT -/
def jOut (b : Bytes) : Nat := fld b 4 1 % 16
/-- ARRAY -/
def jArray (b : Bytes) : Nat := fld b 5 1
/-- KET -/
def jKet (b : Bytes) : Nat := fld b 6 2
/-- SIGNAL -/
def jSignal (b : Bytes) : Nat := fld b 8 2
/-- M or ROWS -/
def jM (b : Bytes) : Nat := fld b 10 2
/-- N -/
def jN (b : Bytes) : Nat := fld b 12 2
/-- K or COLS -/
def jK (b : Bytes) : Nat := fld b 16 4
/-- A_ADDR or SRC1 -/
def jA (b : Bytes) : Nat := fld b 24 8
/-- W_ADDR or SRC2 -/
def jW (b : Bytes) : Nat := fld b 32 8
/-- C_ADDR or DST -/
def jC (b : Bytes) : Nat := fld b 40 8
/-- A_STRIDE or SRC_STRIDE -/
def jSa (b : Bytes) : Nat := fld b 48 4
/-- W_STRIDE or DST_STRIDE -/
def jSw (b : Bytes) : Nat := fld b 52 4
/-- C_STRIDE or PARAM[31:0] -/
def jSc (b : Bytes) : Nat := fld b 56 4
/-- The hint of FLAGS[3:2]. -/
def jHint (b : Bytes) : Nat := bits (jFlags b) 3 2
/-- SATURATE -/
def jSat (b : Bytes) : Bool := bit (jFlags b) 1
/-- ACCUMULATE -/
def jAcc (b : Bytes) : Bool := bit (jFlags b) 0

/-- A vector operation of Table 18-4. -/
def isVecOp (op : Nat) : Bool :=
  [0x10, 0x11, 0x12, 0x13, 0x14, 0x18, 0x19, 0x1A, 0x20, 0x21, 0x22, 0x23, 0x24, 0x25, 0x26, 0x27, 0x30, 0x31, 0x32, 0x33,
   0x34, 0x35, 0x36, 0x37].contains op

/-- SRC2 of a vector operation: 0 none, 1 a matrix like SRC1, 2 one FP32 row, 3 two FP32 rows. -/
def src2Kind (op : Nat) : Nat :=
  if op = 0x10 ∨ op = 0x11 ∨ op = 0x12 ∨ op = 0x13 then 1
  else if op = 0x14 ∨ op = 0x35 then 3
  else if op = 0x19 ∨ op = 0x36 then 2
  else 0

/-- Output shape of a vector operation: 0 a row of COLS elements in OUT_FMT, 1 one FP32, 2 one value in OUT_FMT, 3 one U32,
4 TOPK. -/
def outKind (op : Nat) : Nat :=
  if op = 0x30 ∨ op = 0x34 then 1 else if op = 0x31 then 2 else if op = 0x32 then 3 else if op = 0x37 then 4 else 0

/-- Passes of a vector operation (Table 18-4). -/
def vecPasses (op : Nat) : Nat := if op = 0x33 ∨ op = 0x35 then 3 else if op = 0x34 ∨ op = 0x36 then 2 else 1

/-- Elements per step of a vector operation. -/
def vecRate (op : Nat) : Nat :=
  if (0x21 ≤ op ∧ op ≤ 0x27) ∨ op = 0x33 ∨ op = 0x34 ∨ op = 0x37 then 256 else 1024

/-! ## Checks -/

/-- Operand pairs of Table 18-3. -/
def pairOk (a w o : Nat) : Bool :=
  let fo := decide (o ≤ 4)
  (a == 0 && w == 0 && fo)
  || ((a == 1 || a == 2) && (w == 1 || w == 2) && fo)
  || ((a == 3 || a == 4) && (w == 3 || w == 4) && fo)
  || ((a == 5 || a == 6) && (w == 5 || w == 6) && fo)
  || (a == 7 && w == 7 && fo)
  || (a == 8 && w == 8 && o == 10)
  || (a == 9 && w == 9 && o == 10)

/-- Two ranges of addresses and lengths share a byte. -/
def overlap (x y : Nat × Nat) : Bool :=
  decide (0 < x.2) && decide (0 < y.2) && decide (x.1 < y.1 + y.2) && decide (y.1 < x.1 + x.2)

/-- The rows of a matrix as address ranges; the gaps between rows belong to none. -/
def rowRanges (a stride n rows : Nat) : List (Nat × Nat) := (List.range rows).map (fun r => (a + r * stride, n))

/-- A matrix operand: its rows, and its scale plane behind them in an MX format (R458). -/
def operandRanges (f a stride cols rows : Nat) : List (Nat × Nat) :=
  rowRanges a stride (planeBytes f cols) rows ++ (if isMx f then [(a + rows * stride, rows * (cols / 32))] else [])

/-- Some range of one list meets one of the other. -/
def anyOverlap (l m : List (Nat × Nat)) : Bool := l.any (fun x => m.any (overlap x))

/-- A stride is a multiple of 64 that holds a row. -/
def strideOk (st n : Nat) : Bool := st % 64 == 0 && decide (n ≤ st)

/-- PLATFORM is permitted to the submitter (R437 as R470 applies it): the submitter's own domain, or, from T04 or a
sequencer, a platform; a ring-fed queue's owner may name itself, and the open domain any platform. -/
def platPermitted (s : Chip) (d plat : Nat) : Bool :=
  if plat = 0xFF then dqMode s d == 1 || dqOwner s d == 0xFD
  else if 64 ≤ plat then false
  else if dqMode s d = 1 then dqCore s d == 4 || decide (16 ≤ dqCore s d)
  else dqOwner s d == plat || dqOwner s d == 0xFD

/-- A matrix job's own checks (R455, R458, R459, R470). -/
def matmulBad (b : Bytes) : Bool :=
  let m := jM b
  let n := jN b
  let k := jK b
  let fa := jFmt1 b
  let fw := jFmt2 b
  let fo := jOut b
  !pairOk fa fw fo || m == 0 || decide (1024 < m) || n == 0 || decide (512 < n) || k == 0 || decide (65536 < k)
  || fld b 60 4 != 0 || !(jArray b == 0xFF || decide (jArray b < 4))
  || (isMx fa && k % 32 != 0)
  || jA b % 64 != 0 || jW b % 64 != 0 || jC b % 64 != 0
  || !strideOk (jSa b) (planeBytes fa k) || !strideOk (jSw b) (planeBytes fw n) || !strideOk (jSc b) (planeBytes fo n)
  || (let dst := rowRanges (jC b) (jSc b) (planeBytes fo n) m
      let sw := rowRanges (jW b) (jSw b) (planeBytes fw n) k ++ (if isMx fw then [(jW b + k * jSw b, k / 32 * n)] else [])
      anyOverlap dst (operandRanges fa (jA b) (jSa b) k m) || anyOverlap dst sw)

/-- Bytes of one output row of a vector job. -/
def vecRowBytes (b : Bytes) : Nat :=
  match outKind (jOp b) with
  | 0 => planeBytes (jOut b) (jK b)
  | 2 => planeBytes (jOut b) 1
  | 4 => 8 * (jSc b % 65536)
  | _ => 4

/-- A vector job's own checks (R466, R467, R470). -/
def vectorBad (b : Bytes) : Bool :=
  let op := jOp b
  let rows := jM b
  let cols := jK b
  let k2 := src2Kind op
  let fa := jFmt1 b
  let fb := jFmt2 b
  let fo := jOut b
  let kk := jSc b % 65536
  jAcc b || jArray b != 0 || jN b != 0 || fld b 60 4 != 0 || rows == 0 || cols == 0 || decide (262144 < cols)
  || decide (10 < fa) || decide (10 < fo) || (k2 == 1 && decide (10 < fb)) || (decide (2 ≤ k2) && fb != 0)
  || (k2 == 0 && jW b != 0)
  || (op == 0x37 && (decide (65536 ≤ jSc b) || kk == 0 || decide (1024 < kk) || decide (cols < kk)))
  || (op != 0x37 && op != 0x35 && op != 0x36 && jSc b != 0)
  || (op == 0x19 && !(fa == 10 && fo == 8)) || (op == 0x31 && isMx fo)
  || ((isMx fa || (k2 == 1 && isMx fb) || (outKind op == 0 && isMx fo)) && cols % 32 != 0)
  || jA b % 64 != 0 || jW b % 64 != 0 || jC b % 64 != 0
  || !strideOk (jSa b) (planeBytes fa cols) || (k2 == 1 && !strideOk (jSa b) (planeBytes fb cols))
  || !strideOk (jSw b) (vecRowBytes b)
  || (let dst := rowRanges (jC b) (jSw b) (vecRowBytes b) rows
        ++ (if outKind op == 0 && isMx fo then [(jC b + rows * jSw b, rows * (cols / 32))] else [])
      let src2 := if k2 = 1 then operandRanges fb (jW b) (jSa b) cols rows
        else if k2 = 0 then [] else [(jW b, 4 * cols * (k2 - 1))]
      anyOverlap dst (operandRanges fa (jA b) (jSa b) cols rows ++ src2))

/-- A job completes with INVALID (R470). -/
def arrayJobBad (s : Chip) (d : Nat) (b : Bytes) : Bool :=
  decide (16 ≤ jFlags b) || fld b 4 1 / 16 != 0 || fld b 14 2 != 0 || decide (2048 ≤ jKet b)
  || !(jOp b == 1 || isVecOp (jOp b)) || !platPermitted s d (jPlat b)
  || (if jOp b = 1 then matmulBad b else vectorBad b)

/-! ## Steps and units -/

/-- Streaming steps of a matrix job: passes × max(m × spv, wload) (R472). -/
def matStream (b : Bytes) : Nat × Nat :=
  let f := jFmt2 b
  let kt := if f = 7 ∨ f = 9 then 256 else 128
  let spv := if f = 0 then 8 else if f = 1 ∨ f = 2 then 2 else 1
  let passes := (jK b + kt - 1) / kt
  let wbytes := (kt * jN b * fmtBits f + 7) / 8 + (if isMx f then kt / 32 * jN b else 0)
  let wload := (wbytes + 1023) / 1024
  (passes * max (jM b * spv) wload, wload)

/-- Steps of a job without contention (R472). -/
def jobSteps (b : Bytes) : Nat :=
  if jOp b = 1 then
    let c := (jM b * jN b * (fmtBits (jOut b) / 8) + 2047) / 2048
    (matStream b).2 + (if jAcc b then c else 0) + (matStream b).1 + 24 + c
  else 16 + (vecPasses (jOp b) * jM b * jK b + vecRate (jOp b) - 1) / vecRate (jOp b)

/-- Units of work of a job (R473). -/
def jobUnits (b : Bytes) : Nat := ((if jOp b = 1 then (matStream b).1 else jobSteps b) + 999) / 1000

/-! ## Reading and writing rows -/

/-- Rows read from memory, or the failure of one: 0, 1 access fault, 2 data error. -/
structure Rows where
  st : Nat
  rows : List Bytes
  s : Chip
deriving DecidableEq, Repr

/-- Read address ranges in order, stopping at the first failure. -/
def readRanges (s : Chip) (g : Agent) (hint die unit : Nat) : List (Nat × Nat) → Rows
  | [] => ⟨0, [], s⟩
  | (a, n) :: r =>
    let x := xferRead s g a n hint die unit ⟨0, 2 ^ 64, .die (die - 1)⟩
    if x.st ≠ 0 then ⟨x.st, [], x.s⟩
    else
      let y := readRanges x.s g hint die unit r
      ⟨y.st, x.bytes :: y.rows, y.s⟩

/-- Write rows in order, stopping at the first failure; `count` is the number of bytes written. -/
def writeRows (s : Chip) (g : Agent) (hint die unit : Nat) : List (Nat × Bytes) → Xfer
  | [] => ⟨0, [], 0, s⟩
  | (a, v) :: r =>
    let x := xferWrite s g a v hint die unit ⟨0, 2 ^ 64, .die (die - 1)⟩
    if x.st ≠ 0 then x
    else
      let y := writeRows x.s g hint die unit r
      ⟨y.st, [], x.count + y.count, y.s⟩

/-! ## Matrix jobs -/

/-- The elements of a row, as values. -/
def rowVals (f : Nat) (b : Bytes) (n : Nat) : List Fv := (List.range n).map (fun i => decodeFv f (elemAt f b i))

/-- The integer an exact integer value is. -/
def fvInt : Fv → Int
  | .fin neg m e => sgn neg (m * 2 ^ e.toNat)
  | _ => 0

/-- One output element, its accumulator folded over the groups of 32 (R460): the scale exponents of a group are given by
`sc`, none outside MX formats; 0xFF in either makes NaN (R462). -/
def accFloat (sc : Nat → Option (Nat × Nat)) : Nat → Fv → List (Fv × Fv) → Nat → Fv
  | 0, acc, _, _ => acc
  | fuel + 1, acc, l, g =>
    if l.isEmpty then acc
    else
      let x := fvSum ((l.take 32).map (fun p => fvMul p.1 p.2))
      let x := match sc g with
        | none => x
        | some (a, w) => if a = 0xFF ∨ w = 0xFF then .nan else fvScale ((a : Int) + w - 254) x
      accFloat sc fuel (r32 (fvAdd acc x)) (l.drop 32) (g + 1)

/-- The integer accumulator, and whether it saturated (R463, R464). -/
def accInt : Nat → Int × Bool → List (Fv × Fv) → Int × Bool
  | 0, acc, _ => acc
  | fuel + 1, acc, l =>
    if l.isEmpty then acc
    else
      let x := acc.1 + fvInt (fvSum ((l.take 32).map (fun p => fvMul p.1 p.2)))
      accInt fuel (satInt 32 x, acc.2 || satInt 32 x != x) (l.drop 32)

/-- The flags of Table 19-3 of converted elements: [1] NAN, [2] OVERFLOW, [3] INT_SAT. -/
def convFlags (l : List Conv) : Nat :=
  2 * b2n (l.any (·.nan)) + 4 * b2n (l.any (·.ovf)) + 8 * b2n (l.any (·.isat))

/-- One output element of a matrix job, from a row of A, a column of W and the initial accumulator. -/
def matElem (b : Bytes) (arow : List Fv) (col : List Fv) (sc : Nat → Option (Nat × Nat)) (init : Fv) : Conv :=
  let l := arow.zip col
  if jOut b = 10 then
    let x := accInt (l.length / 32 + 1) (fvInt init, false) l
    ⟨uInt 32 x.1, false, false, x.2⟩
  else convFloat (jOut b) (jSat b) (accFloat sc (l.length / 32 + 1) init l 0)

/-- The output rows of a matrix job from its operands' bytes: element rows and scale planes of A and W, and rows of C. -/
def matCompute (b : Bytes) (a w c : List Bytes) (sa sw : Bytes) : List (List Conv) :=
  let k := jK b
  let n := jN b
  let wv := w.map (fun r => rowVals (jFmt2 b) r n)
  let cols := (List.range n).map (fun j => wv.map (fun r => r.getD j fvZero))
  (List.range (jM b)).map (fun m =>
    let arow := rowVals (jFmt1 b) (a.getD m []) k
    let cv := rowVals (jOut b) (c.getD m []) n
    (cols.zipIdx).map (fun cj =>
      let sc := fun g => if isMx (jFmt1 b) then some (fld sa (m * (k / 32) + g) 1, fld sw (g * n + cj.2) 1) else none
      matElem b arow cj.1 sc (if jAcc b then cv.getD cj.2 fvZero else fvZero)))

/-- The unit an array job runs on: array `u` of die `die` (Table 24-2); 4 is the vector unit. -/
def jobUnit (die u : Nat) : Nat := if u = 4 then 0x3000 + (die - 1) else 0x2000 + 4 * (die - 1) + u

/-- A job's agent: a platform's addresses, or device physical ones checked under R35 for the submitter's domain. -/
def jobAgent (s : Chip) (d plat : Nat) : Agent :=
  if plat < 64 then .plat plat
  else if dqMode s d = 1 ∧ dqCore s d < 4 then .phys else .opn

/-- The status of Table 18-6 for a failed transfer. -/
def xferStatus (st : Nat) : Nat := if st = 1 then 2 else if st = 2 then 3 else 0

/-- Run a matrix job: every read, then the rows of C in order (R471). -/
def matRun (s : Chip) (d die u : Nat) (b : Bytes) : DqDone × Chip :=
  let g := jobAgent s d (jPlat b)
  let unit := jobUnit die u
  let m := jM b
  let n := jN b
  let k := jK b
  let mx := isMx (jFmt1 b)
  let ra := readRanges s g (jHint b) die unit (rowRanges (jA b) (jSa b) (planeBytes (jFmt1 b) k) m)
  if ra.st ≠ 0 then (⟨xferStatus ra.st, 0, 0, 0⟩, ra.s) else
  let rsa := readRanges ra.s g (jHint b) die unit (if mx then [(jA b + m * jSa b, m * (k / 32))] else [])
  if rsa.st ≠ 0 then (⟨xferStatus rsa.st, 0, 0, 0⟩, rsa.s) else
  let rw_ := readRanges rsa.s g (jHint b) die unit (rowRanges (jW b) (jSw b) (planeBytes (jFmt2 b) n) k)
  if rw_.st ≠ 0 then (⟨xferStatus rw_.st, 0, 0, 0⟩, rw_.s) else
  let rsw := readRanges rw_.s g (jHint b) die unit (if mx then [(jW b + k * jSw b, k / 32 * n)] else [])
  if rsw.st ≠ 0 then (⟨xferStatus rsw.st, 0, 0, 0⟩, rsw.s) else
  let rc := readRanges rsw.s g (jHint b) die unit (if jAcc b then rowRanges (jC b) (jSc b) (planeBytes (jOut b) n) m else [])
  if rc.st ≠ 0 then (⟨xferStatus rc.st, 0, 0, 0⟩, rc.s) else
  let out := matCompute b ra.rows rw_.rows rc.rows (rsa.rows.headD []) (rsw.rows.headD [])
  let x := writeRows rc.s g (jHint b) die unit
    (out.zipIdx.map (fun r => (jC b + r.2 * jSc b, packPlane (jOut b) (r.1.map (·.raw)))))
  (⟨xferStatus x.st, convFlags out.flatten, x.count, (matStream b).1⟩, x.s)

/-! ## Vector operations -/

/-- The raw FP32 bits of a value. -/
def rawOf (v : Fv) : Nat := (convFloat 0 false v).raw

/-- A result the spec leaves open for these operands: any FP32 value, the same on every run (R461). -/
def openVal (fn x : Nat) : Fv := decodeFv 0 (Config.transcendental fn x % 2 ^ 32)

/-- A result known to within 2 units in the last place of the exactly rounded one (R465). -/
def within2 (fn x : Nat) (v : Fv) : Fv :=
  match r32 v with
  | .fin neg m e =>
    let raw := rawOf (.fin false m e)
    decodeFv 0 (signBits 0 neg + ((raw + Config.transcendental fn x % 5) - 2))
  | w => w

/-- Integer square root, by bits from `n` down. -/
def isqrtFrom (x : Nat) : Nat → Nat → Nat
  | 0, r => r
  | n + 1, r => if (r + 2 ^ n) * (r + 2 ^ n) ≤ x then isqrtFrom x n (r + 2 ^ n) else isqrtFrom x n r

/-- The reciprocal square root of a positive value, exact enough for one rounding. -/
def rsqrtExact (m : Nat) (e : Int) : Fv :=
  let m' := if e % 2 = 0 then m else 2 * m
  let e' := if e % 2 = 0 then e else e - 1
  let j := 64 + m'.log2
  let q := isqrtFrom (2 ^ (2 * j) / m') (j + 1) 0
  .fin false (2 * q + (if q * q * m' = 2 ^ (2 * j) then 0 else 1)) (-(j : Int) - 1 - e' / 2)

/-- RECIP (R465, R468). -/
def vRecip (a : Fv) : Fv :=
  match a with
  | .nan => .nan
  | .inf neg => .fin neg 0 0
  | .fin neg m e => if m = 0 then .inf neg else within2 0x26 (rawOf a) (fvDiv (.fin neg 1 0) (.fin false m e))

/-- RSQRT (R465, R468); of −0 the spec gives no result. -/
def vRsqrt (a : Fv) : Fv :=
  match a with
  | .nan => .nan
  | .inf neg => if neg then .nan else .fin false 0 0
  | .fin neg m e =>
    if m = 0 then (if neg then openVal 0x27 (rawOf a) else .inf false)
    else if neg then .nan
    else within2 0x27 (rawOf a) (rsqrtExact m e)

/-- A transcendental whose value the model leaves open; NaN stays NaN (log 10). -/
def vTrans (fn : Nat) (a : Fv) : Fv := if a = .nan then .nan else openVal fn (rawOf a)

/-- MAX, or MIN with `mn`: of a NaN, and of zeros of opposite sign, the result is open. -/
def vMax (mn : Bool) (a b : Fv) : Fv :=
  let fn := if mn then 0x13 else 0x12
  let x := rawOf a + 2 ^ 32 * rawOf b
  if a = .nan ∨ b = .nan then openVal fn x
  else if fvLt a b then (if mn then a else b)
  else if fvLt b a then (if mn then b else a)
  else
    match a, b with
    | .fin n1 0 _, .fin n2 _ _ => if n1 = n2 then a else .fin (bit (Config.transcendental fn x) 0) 0 0
    | _, _ => a

/-- The largest of a row with the lowest index among equals (R466), from index `i`, value `v`. -/
def rowBest : Fv × Nat → List (Fv × Nat) → Fv × Nat
  | b, [] => b
  | b, x :: r => rowBest (if rowLt b.1 x.1 then x else b) r

/-- Remove the element with an index. -/
def dropIdx (i : Nat) (l : List (Fv × Nat)) : List (Fv × Nat) := l.filter (fun x => x.2 != i)

/-- The K largest in descending order, the lower index first among equals (R466). -/
def topK : Nat → List (Fv × Nat) → List (Fv × Nat)
  | 0, _ => []
  | k + 1, l =>
    match l with
    | [] => []
    | x :: r =>
      let b := rowBest x r
      b :: topK k (dropIdx b.2 l)

/-- e^(a − max) of each element, and their sum (R465). -/
def expShift (a : List Fv) : Fv × List Fv × Fv :=
  let m := match a.zipIdx with | [] => fvZero | x :: r => (rowBest x r).1
  let e := a.map (fun x => vTrans 0x25 (r32 (fvAdd x (fvNeg m))))
  (m, e, groupSum fvZero e)

/-- A mean, from a sum of `n` elements. -/
def meanOf (x : Fv) (n : Nat) : Fv := r32 (fvDiv x (fvOfInt n))

/-- LAYERNORM of a row: each operation rounds to FP32, from left to right (log 56). -/
def layerNorm (a g b : List Fv) (eps : Fv) : List Fv :=
  let n := a.length
  let mean := meanOf (groupSum fvZero a) n
  let dv := a.map (fun x => r32 (fvAdd x (fvNeg mean)))
  let var := meanOf (groupSum fvZero (dv.map (fun x => fvMul x x))) n
  let r := vRsqrt (r32 (fvAdd var eps))
  (dv.zip (g.zip b)).map (fun x => r32 (fvAdd (r32 (fvMul (r32 (fvMul x.1 r)) x.2.1)) x.2.2))

/-- RMSNORM of a row. -/
def rmsNorm (a g : List Fv) (eps : Fv) : List Fv :=
  let r := vRsqrt (r32 (fvAdd (meanOf (groupSum fvZero (a.map (fun x => fvMul x x))) a.length) eps))
  (a.zip g).map (fun x => r32 (fvMul (r32 (fvMul x.1 r)) x.2))

/-- ADD, MAX, MIN and COPY with INT32 sources and output work in integers (18, Vector unit). -/
def intMode (b : Bytes) : Bool :=
  jFmt1 b == 10 && jOut b == 10 && (jOp b == 0x1A || ((jOp b == 0x10 || jOp b == 0x12 || jOp b == 0x13) && jFmt2 b == 10))

/-- One row of an elementwise or normalising operation, before conversion: sources a and b (b also row s, or γ), row t or
β, ε. -/
def vecRow (op : Nat) (a x y : List Fv) (eps : Fv) : List Fv :=
  match op with
  | 0x10 => (a.zip x).map (fun p => r32 (fvAdd p.1 p.2))
  | 0x11 => (a.zip x).map (fun p => r32 (fvMul p.1 p.2))
  | 0x12 => (a.zip x).map (fun p => vMax false p.1 p.2)
  | 0x13 => (a.zip x).map (fun p => vMax true p.1 p.2)
  | 0x14 => (a.zip (x.zip y)).map (fun p => r32 (fvAdd (fvMul p.1 p.2.1) p.2.2))
  | 0x19 => (a.zip x).map (fun p => r32 (fvMul p.1 p.2))
  | 0x20 => a.map (fun v => vMax false v fvZero)
  | 0x21 => a.map (vTrans 0x21)
  | 0x22 => a.map (vTrans 0x22)
  | 0x23 => a.map (vTrans 0x23)
  | 0x24 => a.map (vTrans 0x24)
  | 0x25 => a.map (vTrans 0x25)
  | 0x26 => a.map vRecip
  | 0x27 => a.map vRsqrt
  | 0x30 => [groupSum fvZero a]
  | 0x31 => (match a.zipIdx with | [] => [] | p :: r => [(rowBest p r).1])
  | 0x33 => let e := expShift a; e.2.1.map (fun v => r32 (fvDiv v e.2.2))
  | 0x34 => let e := expShift a; [r32 (fvAdd e.1 (vTrans 0x34 e.2.2))]
  | 0x35 => layerNorm a x y eps
  | 0x36 => rmsNorm a x eps
  | _ => a

/-- A row of an operation in integers, with its saturation (18, Vector unit). -/
def intRow (op : Nat) (a x : List Fv) : List Conv :=
  match op with
  | 0x10 => (a.zip x).map (fun p =>
      let v := fvInt p.1 + fvInt p.2
      ⟨uInt 32 (satInt 32 v), false, false, satInt 32 v != v⟩)
  | 0x12 => (a.zip x).map (fun p => ⟨uInt 32 (max (fvInt p.1) (fvInt p.2)), false, false, false⟩)
  | 0x13 => (a.zip x).map (fun p => ⟨uInt 32 (min (fvInt p.1) (fvInt p.2)), false, false, false⟩)
  | _ => a.map (fun v => ⟨uInt 32 (fvInt v), false, false, false⟩)

/-- A raw pattern kept as it is, its flags as its value has them. -/
def keepConv (f raw : Nat) : Conv :=
  ⟨raw, decodeFv f raw == .nan, (match decodeFv f raw with | .inf _ => true | _ => false), false⟩

/-- A converted output row: the elements, and the scale bytes of an MX format (R463, R467). -/
def convRow (f : Nat) (sat : Bool) (l : List Fv) : List Conv × Bytes :=
  if isMx f then
    let q := (groups32 (l.length / 32 + 1) l).map (mxQuant f)
    ((q.map (fun x => x.2.map (fun r => (⟨r, x.1 == 0xFF, false, false⟩ : Conv)))).flatten,
     q.map (fun x => BitVec.ofNat 8 x.1))
  else (l.map (convFv f sat (Config.transcendental 0x18 0)), [])

/-- The values of a source row: MX elements under their scales (R458). -/
def srcVals (f : Nat) (row : Bytes) (cols : Nat) (scale : Bytes) (r : Nat) : List Fv :=
  if isMx f then (List.range cols).map (fun i => mxValue f (elemAt f row i) (fld scale (r * (cols / 32) + i / 32) 1))
  else rowVals f row cols

/-- One output row of a vector job: bytes, scale bytes, converted elements. -/
def vecOut (b : Bytes) (a x y : List Fv) (row : Bytes) (scale : Bytes) : Bytes × Bytes × List Conv :=
  let op := jOp b
  let cols := jK b
  match op with
  | 0x1A =>
    if jFmt1 b = jOut b then
      (row, scale, (List.range cols).map (fun i => keepConv (jOut b) (elemAt (jOut b) row i)))
    else
      let c := convRow (jOut b) (jSat b) a
      (packPlane (jOut b) (c.1.map (·.raw)), c.2, c.1)
  | 0x32 => (leBytes 4 (match a.zipIdx with | [] => 0 | p :: r => (rowBest p r).2), [], [])
  | 0x37 =>
    let t := topK (jSc b % 65536) a.zipIdx
    let c := t.map (fun v => convFloat 0 (jSat b) v.1)
    (packPlane 0 (c.map (·.raw)) ++ (t.map (fun v => leBytes 4 v.2)).flatten, [], c)
  | 0x30 =>
    let c := (vecRow op a x y fvZero).map (convFloat 0 (jSat b))
    (packPlane 0 (c.map (·.raw)), [], c)
  | 0x34 =>
    let c := (vecRow op a x y fvZero).map (convFloat 0 (jSat b))
    (packPlane 0 (c.map (·.raw)), [], c)
  | _ =>
    if intMode b then
      let c := intRow op a x
      (packPlane 10 (c.map (·.raw)), [], c)
    else
      let c := convRow (jOut b) (jSat b) (vecRow op a x y (decodeFv 0 (jSc b)))
      (packPlane (jOut b) (c.1.map (·.raw)), c.2, c.1)

/-- Run a vector job: every read, then the rows of DST in order, then its scale plane (R467, R471). -/
def vecRun (s : Chip) (d die : Nat) (b : Bytes) : DqDone × Chip :=
  let g := jobAgent s d (jPlat b)
  let unit := jobUnit die 4
  let rows := jM b
  let cols := jK b
  let k2 := src2Kind (jOp b)
  let fa := jFmt1 b
  let fb := jFmt2 b
  let r1 := readRanges s g (jHint b) die unit (rowRanges (jA b) (jSa b) (planeBytes fa cols) rows)
  if r1.st ≠ 0 then (⟨xferStatus r1.st, 0, 0, 0⟩, r1.s) else
  let s1 := readRanges r1.s g (jHint b) die unit (if isMx fa then [(jA b + rows * jSa b, rows * (cols / 32))] else [])
  if s1.st ≠ 0 then (⟨xferStatus s1.st, 0, 0, 0⟩, s1.s) else
  let r2 := readRanges s1.s g (jHint b) die unit
    (if k2 = 1 then rowRanges (jW b) (jSa b) (planeBytes fb cols) rows
     else (List.range (k2 - 1)).map (fun i => (jW b + 4 * cols * i, 4 * cols)))
  if r2.st ≠ 0 then (⟨xferStatus r2.st, 0, 0, 0⟩, r2.s) else
  let s2 := readRanges r2.s g (jHint b) die unit
    (if k2 = 1 ∧ isMx fb then [(jW b + rows * jSa b, rows * (cols / 32))] else [])
  if s2.st ≠ 0 then (⟨xferStatus s2.st, 0, 0, 0⟩, s2.s) else
  let sc1 := s1.rows.headD []
  let sc2 := s2.rows.headD []
  let outs := (r1.rows.zipIdx).map (fun r =>
    let a := srcVals fa r.1 cols sc1 r.2
    let x := if k2 = 1 then srcVals fb (r2.rows.getD r.2 []) cols sc2 r.2 else rowVals 0 (r2.rows.getD 0 []) cols
    let y := rowVals 0 (r2.rows.getD 1 []) cols
    vecOut b a x y r.1 (slice sc1 (r.2 * (cols / 32)) (cols / 32)))
  let planes := (outs.zipIdx.map (fun o => (jC b + o.2 * jSw b, o.1.1)))
    ++ (if outKind (jOp b) = 0 ∧ isMx (jOut b) then [(jC b + rows * jSw b, (outs.map (fun o => o.2.1)).flatten)] else [])
  let w := writeRows s2.s g (jHint b) die unit planes
  (⟨xferStatus w.st, convFlags (outs.map (fun o => o.2.2)).flatten, w.count, jobSteps b⟩, w.s)

/-! ## Starting a job -/

/-- A running job of a queue. -/
def dqJob (s : Chip) (d id : Nat) : Option DqJob := (dqOf s d).running.find? (fun j => j.id == id)

/-- Change a running job. -/
def setDqJob (s : Chip) (d : Nat) (j : DqJob) : Chip :=
  let q := dqOf s d
  setDq s d { q with running := q.running.map (fun x => if x.id == j.id then j else x) }

/-- OD 50.001 of array `u` (0 to 3) of a die, or OD 50.005 of its vector unit (4): 0 dark, 1 idle, 2 busy, 3 fenced,
4 retired. -/
def arrayState (s : Chip) (die u : Nat) : Nat :=
  if u = 4 then odN s 0x50005 die else odN s 0x50001 (4 * (die - 1) + u + 1)

/-- Set it. -/
def setArrayState (s : Chip) (die u v : Nat) : Chip :=
  if u = 4 then odSet s 0x50005 die v else odSet s 0x50001 (4 * (die - 1) + u + 1) v

/-- A unit's state follows its die, its fence and its work. -/
def arrayIdle (s : Chip) (die u : Nat) : Bool :=
  dieLit s (die - 1) && arrayState s die u != 2 && !fenced s (jobUnit die u) && !retired s (jobUnit die u)

/-- The array a job may start on now: the named one, or the first in service and idle (R477); the vector unit for a vector
job. -/
def pickUnit (s : Chip) (die : Nat) (b : Bytes) : Option Nat :=
  if jOp b ≠ 1 then (if arrayIdle s die 4 then some 4 else none)
  else if jArray b = 0xFF then (List.range 4).find? (arrayIdle s die)
  else if arrayIdle s die (jArray b) then some (jArray b) else none

/-- Every unit that could run the job is retired: UNIT_RETIRED (R39, R476). -/
def unitsRetired (s : Chip) (die : Nat) (b : Bytes) : Bool :=
  if jOp b ≠ 1 then retired s (jobUnit die 4)
  else if jArray b = 0xFF then (List.range 4).all (fun u => retired s (jobUnit die u))
  else retired s (jobUnit die (jArray b))

/-- Run the operation of an issued job whose OP is `op`: on a free unit of its die it reads, computes and writes (R471).
With no unit free it waits. -/
def arrayJob (s : Chip) (op d id : Nat) : Chip :=
  match dqJob s d id with
  | none => s
  | some j =>
    let die := dqDie d
    if jOp j.b ≠ op ∨ j.done.isSome ∨ die = 0 then s
    else if unitsRetired s die j.b then setDqJob s d { j with done := some ⟨5, 0, 0, 0⟩ }
    else
      match pickUnit s die j.b with
      | none => s
      | some u =>
        let x := if op = 1 then matRun s d die u j.b else vecRun s d die j.b
        setDqJob (setArrayState x.2 die u 2) d { j with unit := u, done := some x.1 }

/-! ## The rows -/

/-- MATMUL: the operation of an issued job of queue `d` (Table 18-5). -/
def execMatmul (d id : Nat) (s : State) : Host.Outcome State Fault Refusal := run s (fun c => arrayJob c 0x01 d id)

/-- VEC_ADD: the operation of an issued job of queue `d` (Table 18-4). -/
def execVecAdd (d id : Nat) (s : State) : Host.Outcome State Fault Refusal := run s (fun c => arrayJob c 0x10 d id)

/-- VEC_MUL: the operation of an issued job of queue `d` (Table 18-4). -/
def execVecMul (d id : Nat) (s : State) : Host.Outcome State Fault Refusal := run s (fun c => arrayJob c 0x11 d id)

/-- VEC_MAX: the operation of an issued job of queue `d` (Table 18-4). -/
def execVecMax (d id : Nat) (s : State) : Host.Outcome State Fault Refusal := run s (fun c => arrayJob c 0x12 d id)

/-- VEC_MIN: the operation of an issued job of queue `d` (Table 18-4). -/
def execVecMin (d id : Nat) (s : State) : Host.Outcome State Fault Refusal := run s (fun c => arrayJob c 0x13 d id)

/-- SCALE_BIAS: the operation of an issued job of queue `d` (Table 18-4). -/
def execScaleBias (d id : Nat) (s : State) : Host.Outcome State Fault Refusal := run s (fun c => arrayJob c 0x14 d id)

/-- CONVERT: the operation of an issued job of queue `d` (Table 18-4). -/
def execConvert (d id : Nat) (s : State) : Host.Outcome State Fault Refusal := run s (fun c => arrayJob c 0x18 d id)

/-- REQUANT: the operation of an issued job of queue `d` (Table 18-4). -/
def execRequant (d id : Nat) (s : State) : Host.Outcome State Fault Refusal := run s (fun c => arrayJob c 0x19 d id)

/-- VEC_COPY: the operation of an issued job of queue `d` (Table 18-4). -/
def execVecCopy (d id : Nat) (s : State) : Host.Outcome State Fault Refusal := run s (fun c => arrayJob c 0x1A d id)

/-- RELU: the operation of an issued job of queue `d` (Table 18-4). -/
def execRelu (d id : Nat) (s : State) : Host.Outcome State Fault Refusal := run s (fun c => arrayJob c 0x20 d id)

/-- GELU: the operation of an issued job of queue `d` (Table 18-4). -/
def execGelu (d id : Nat) (s : State) : Host.Outcome State Fault Refusal := run s (fun c => arrayJob c 0x21 d id)

/-- SILU: the operation of an issued job of queue `d` (Table 18-4). -/
def execSilu (d id : Nat) (s : State) : Host.Outcome State Fault Refusal := run s (fun c => arrayJob c 0x22 d id)

/-- SIGMOID: the operation of an issued job of queue `d` (Table 18-4). -/
def execSigmoid (d id : Nat) (s : State) : Host.Outcome State Fault Refusal := run s (fun c => arrayJob c 0x23 d id)

/-- TANH: the operation of an issued job of queue `d` (Table 18-4). -/
def execTanh (d id : Nat) (s : State) : Host.Outcome State Fault Refusal := run s (fun c => arrayJob c 0x24 d id)

/-- EXP: the operation of an issued job of queue `d` (Table 18-4). -/
def execExp (d id : Nat) (s : State) : Host.Outcome State Fault Refusal := run s (fun c => arrayJob c 0x25 d id)

/-- RECIP: the operation of an issued job of queue `d` (Table 18-4). -/
def execRecip (d id : Nat) (s : State) : Host.Outcome State Fault Refusal := run s (fun c => arrayJob c 0x26 d id)

/-- RSQRT: the operation of an issued job of queue `d` (Table 18-4). -/
def execRsqrt (d id : Nat) (s : State) : Host.Outcome State Fault Refusal := run s (fun c => arrayJob c 0x27 d id)

/-- ROW_SUM: the operation of an issued job of queue `d` (Table 18-4). -/
def execRowSum (d id : Nat) (s : State) : Host.Outcome State Fault Refusal := run s (fun c => arrayJob c 0x30 d id)

/-- ROW_MAX: the operation of an issued job of queue `d` (Table 18-4). -/
def execRowMax (d id : Nat) (s : State) : Host.Outcome State Fault Refusal := run s (fun c => arrayJob c 0x31 d id)

/-- ROW_ARGMAX: the operation of an issued job of queue `d` (Table 18-4). -/
def execRowArgmax (d id : Nat) (s : State) : Host.Outcome State Fault Refusal := run s (fun c => arrayJob c 0x32 d id)

/-- SOFTMAX: the operation of an issued job of queue `d` (Table 18-4). -/
def execSoftmax (d id : Nat) (s : State) : Host.Outcome State Fault Refusal := run s (fun c => arrayJob c 0x33 d id)

/-- LOGSUMEXP: the operation of an issued job of queue `d` (Table 18-4). -/
def execLogsumexp (d id : Nat) (s : State) : Host.Outcome State Fault Refusal := run s (fun c => arrayJob c 0x34 d id)

/-- LAYERNORM: the operation of an issued job of queue `d` (Table 18-4). -/
def execLayernorm (d id : Nat) (s : State) : Host.Outcome State Fault Refusal := run s (fun c => arrayJob c 0x35 d id)

/-- RMSNORM: the operation of an issued job of queue `d` (Table 18-4). -/
def execRmsnorm (d id : Nat) (s : State) : Host.Outcome State Fault Refusal := run s (fun c => arrayJob c 0x36 d id)

/-- TOPK: the operation of an issued job of queue `d` (Table 18-4). -/
def execTopk (d id : Nat) (s : State) : Host.Outcome State Fault Refusal := run s (fun c => arrayJob c 0x37 d id)

end Sys2Proof.Machine
end

