-- ==== Sys2Proof/Machine/CipherModes.lean ====
section
/-! DEFINITION. The modes of the cipher engine over the AES block (17, Modes and length limits): CTR, GCM, GMAC and XTS; and
key slots as their users see them (07 R199 to R202, 17 R441). -/
namespace Sys2Proof.Machine

/-! ## Blocks -/

/-- The bytes of two blocks combined bit by bit. -/
def xorBytes (a b : Bytes) : Bytes := (a.zip b).map (fun p => p.1 ^^^ p.2)

/-- The number of big-endian bytes. -/
def beNat (b : Bytes) : Nat := leNat b.reverse

/-- `n` big-endian bytes of a number. -/
def beBytes (n v : Nat) : Bytes := (leBytes n v).reverse

/-- Blocks of 16 bytes, the last one short where the length is no multiple. -/
def blocks16 : Nat → Bytes → List Bytes
  | 0, _ => []
  | n + 1, b => if b.isEmpty then [] else b.take 16 :: blocks16 n (b.drop 16)

/-- All of them. -/
def toBlocks (b : Bytes) : List Bytes := blocks16 (b.length / 16 + 1) b

/-! ## CTR and GCM -/

/-- Keystream XOR text, from a counter block whose bytes 12 to 15 count (SP 800-38A as 17 has it). -/
def ctrFrom (key nonce : Bytes) : Nat → List Bytes → Bytes
  | _, [] => []
  | c, b :: r => xorBytes b (aesEnc key (nonce ++ beBytes 4 (c % 2 ^ 32))) ++ ctrFrom key nonce (c + 1) r

/-- CTR over a text, from the initial counter block. -/
def aesCtr (key iv text : Bytes) : Bytes := ctrFrom key (slice iv 0 12) (beNat (slice iv 12 4)) (toBlocks text)

/-- One step of multiplication in GF(2^128): bit `i` of X, the most significant first (SP 800-38D). -/
def gfStep (x : Nat) (zv : Nat × Nat) (i : Nat) : Nat × Nat :=
  (if x.testBit (127 - i) then zv.1 ^^^ zv.2 else zv.1,
   if zv.2 % 2 = 1 then (zv.2 / 2) ^^^ (0xE1 * 2 ^ 120) else zv.2 / 2)

/-- Multiplication in GF(2^128). -/
def gfMul (x y : Nat) : Nat := ((List.range 128).foldl (gfStep x) (0, y)).1

/-- GHASH over blocks padded with zero bytes. -/
def ghash (h : Nat) (l : List Bytes) : Nat := l.foldl (fun y b => gfMul (y ^^^ beNat (slice b 0 16)) h) 0

/-- GHASH over additional data, text and their lengths. -/
def gcmHash (key aad text : Bytes) : Nat :=
  ghash (beNat (aesEnc key (zeros 16)))
    (toBlocks aad ++ toBlocks text ++ [beBytes 8 (8 * aad.length) ++ beBytes 8 (8 * text.length)])

/-- The tag: GHASH of additional data and ciphertext under J0 = IV ‖ 1. -/
def gcmTag (key iv aad ct : Bytes) : Bytes :=
  xorBytes (beBytes 16 (gcmHash key aad ct)) (aesEnc key (slice iv 0 12 ++ beBytes 4 1))

/-- The text part of GCM: CTR from J0 + 1. -/
def gcmText (key iv text : Bytes) : Bytes := ctrFrom key (slice iv 0 12) 2 (toBlocks text)

/-! ## XTS -/

/-- A tweak times α (IEEE 1619), little-endian. -/
def xtsNext (t : Nat) : Nat := (2 * t % 2 ^ 128) ^^^ (if 2 ^ 127 ≤ t then 0x87 else 0)

/-- The blocks of one data unit. -/
def xtsBlocks (f : Bytes → Bytes) : Nat → List Bytes → Bytes
  | _, [] => []
  | t, b :: r => xorBytes (f (xorBytes b (leBytes 16 t))) (leBytes 16 t) ++ xtsBlocks f (xtsNext t) r

/-- One data unit under a key of 32 or 64 bytes: key 1 then key 2. -/
def xtsUnit (enc : Bool) (key : Bytes) (tweak : Nat) (text : Bytes) : Bytes :=
  let n := key.length / 2
  let k1 := key.take n
  xtsBlocks (fun b => if enc then aesEnc k1 b else aesDec k1 b)
    (leNat (aesEnc (key.drop n) (leBytes 16 tweak))) (toBlocks text)

/-- Units of `unit` bytes, each with the tweak of the one before plus 1. -/
def xtsUnits (enc : Bool) (key : Bytes) (unit : Nat) : Nat → Nat → Bytes → List Bytes
  | 0, _, _ => []
  | n + 1, tweak, b =>
    if b.isEmpty then []
    else xtsUnit enc key tweak (b.take unit) :: xtsUnits enc key unit n ((tweak + 1) % 2 ^ 128) (b.drop unit)

/-- A whole text. -/
def aesXts (enc : Bool) (key : Bytes) (unit tweak : Nat) (text : Bytes) : Bytes :=
  (xtsUnits enc key unit (text.length / (max unit 1) + 1) tweak text).flatten

/-! ## Key slots -/

/-- A slot that has never been loaded. -/
def KeySlot.empty : KeySlot := ⟨0, [], 0, 0, 0⟩

/-- Slots: 32 segments of 256 (07, Key store). -/
abbrev keySlots : Nat := 8192

/-- Slot `i`, 0 to 8,191. -/
def keySlot (s : Chip) (i : Nat) : KeySlot := tget KeySlot.empty s.sec.slots i

/-- Set a slot. -/
def setKeySlot (s : Chip) (i : Nat) (k : KeySlot) : Chip :=
  { s with sec := { s.sec with slots := tput s.sec.slots i k } }

/-- The owner of a slot's segment: a platform, 0xFD, or 0xFE for the sealed segments 0 to 3 (R199). -/
def slotOwner (s : Chip) (i : Nat) : Nat := if i / 256 < 4 then 0xFE else odN s 0x04050 (i / 256 - 3)

/-- The check of a key at issue (R441): 0 usable, 1 EMPTY or outside the owner's segments, 2 STALE_KEY, 3 KEY_USE, 4 CLOSING. -/
def keyCheck (s : Chip) (owner i gen use : Nat) : Nat :=
  let k := keySlot s i
  if keySlots ≤ i ∨ slotOwner s i ≠ owner ∨ k.state = 0 then 1
  else if k.gen % 65536 ≠ gen then 2
  else if !bit k.use use then 3
  else if k.state = 2 then 4
  else 0

/-- A request issued on a slot (`n` +1) or done with it (R202). -/
def keyIssue (s : Chip) (i : Nat) (up : Bool) : Chip :=
  let k := keySlot s i
  if keySlots ≤ i then s else setKeySlot s i { k with issued := if up then k.issued + 1 else k.issued - 1 }

end Sys2Proof.Machine
end

