-- ==== Sys2Proof/Machine/Cipher.lean ====
section
/-! DEFINITION. The symmetric cipher engine (17): checks of a request, issue to a cluster, the seven modes, completion, and the
gate of a cluster. -/
namespace Sys2Proof.Machine

/-! ## Descriptor (Table 17-1) -/

/-- MODE -/
def cMode (b : Bytes) : Nat := fld b 0 1
/-- PLATFORM -/
def cPlat (b : Bytes) : Nat := fld b 2 1
/-- KEY_SLOT -/
def cSlot (b : Bytes) : Nat := fld b 4 2
/-- KEY_GEN -/
def cGen (b : Bytes) : Nat := fld b 6 2
/-- KET -/
def cKet (b : Bytes) : Nat := fld b 8 2
/-- SIGNAL -/
def cSignal (b : Bytes) : Nat := fld b 10 2
/-- SRC -/
def cSrc (b : Bytes) : Nat := fld b 16 8
/-- DST -/
def cDst (b : Bytes) : Nat := fld b 24 8
/-- LENGTH -/
def cLen (b : Bytes) : Nat := fld b 32 8
/-- AUX -/
def cAux (b : Bytes) : Nat := fld b 40 8
/-- IV -/
def cIv (b : Bytes) : Bytes := slice b 48 16
/-- The cache hint of DST -/
def cHint (b : Bytes) : Nat := bits (fld b 1 1) 3 2

/-- GCM or GMAC: AUX is AAD_LEN. -/
def isGcm (m : Nat) : Bool := decide (1 ≤ m) && decide (m ≤ 4)

/-- AAD_LEN -/
def cAad (b : Bytes) : Nat := if isGcm (cMode b) then cAux b else 0

/-- Bytes of the source layout (Table 17-2). -/
def srcBytes (b : Bytes) : Nat :=
  match cMode b with
  | 1 => cAad b + cLen b
  | 2 => cAad b + cLen b + 16
  | 3 => cAad b
  | 4 => cAad b + 16
  | _ => cLen b

/-- Bytes of the destination layout. -/
def dstBytes (b : Bytes) : Nat :=
  match cMode b with
  | 1 => cLen b + 16
  | 3 => 16
  | 4 => 0
  | _ => cLen b

/-- The USE bit of a mode (Table 17-4). -/
def useBit (m : Nat) : Nat := if m = 7 then 2 else if 5 ≤ m then 1 else 0

/-- PLATFORM is permitted to the core of a queue (R437). -/
def cipherPlatOk (core plat : Nat) : Bool :=
  plat == 0xFF || (decide (plat < 64) && (core == 4 || (decide (16 ≤ core) && decide (core < 24))))

/-- Ranges that overlap without being equal. -/
def rangesClash (x y : Nat × Nat) : Bool :=
  x != y && decide (0 < x.2) && decide (0 < y.2) && decide (x.1 < y.1 + y.2) && decide (y.1 < x.1 + x.2)

/-- INVALID (R438). -/
def cipherInvalid (s : Chip) (k : Nat) (b : Bytes) : Bool :=
  let m := cMode b
  m == 0 || decide (7 < m) || decide (16 ≤ fld b 1 1) || fld b 3 1 != 0 || !cipherPlatOk (portCore s k) (cPlat b)
  || decide (2048 ≤ cKet b)
  || (isGcm m && fld b 60 4 != 0) || ((m == 5 || m == 6) && fld b 44 4 != 0) || (m == 7 && cAux b != 0)
  || ((m == 3 || m == 4) && cLen b != 0)
  || rangesClash (cSrc b, srcBytes b) (cDst b, dstBytes b)

/-- A limit of Table 17-5 is broken. -/
def cipherLength (b : Bytes) : Bool :=
  let n := cLen b
  match cMode b with
  | 1 => decide (2 ^ 36 - 32 < n) || decide (2 ^ 61 ≤ cAux b)
  | 2 => decide (2 ^ 36 - 32 < n) || decide (2 ^ 61 ≤ cAux b)
  | 3 => decide (2 ^ 61 ≤ cAux b)
  | 4 => decide (2 ^ 61 ≤ cAux b)
  | 7 => n == 0 || decide (2 ^ 36 < n) || decide (2 ^ 32 < beNat (slice b 60 4) + cdiv n 16)
  | _ =>
    let u := cAux b
    decide (u < 16) || decide (16777216 < u) || u % 16 != 0 || decide (n < 16) || decide (2 ^ 36 < n) || n % u != 0

/-- INVALID or LENGTH, checked before anything else (R438); 0 where neither holds. -/
def cipherBad (s : Chip) (k : Nat) (b : Bytes) : Nat :=
  if cipherInvalid s k b then 1 else if cipherLength b then 2 else 0

/-- Units of work: KiB of additional data and text (R449). -/
def cipherUnits (b : Bytes) : Nat := cdiv (cAad b + cLen b) 1024

/-- The owner whose segments a request may name (R437): its platform, or its core's domain. -/
def cipherOwner (s : Chip) (k : Nat) (b : Bytes) : Nat :=
  if cPlat b < 64 then cPlat b else if portCore s k < 4 then 0xFE else 0xFD

/-- The status of a failing key check, 0 where the key may be used (R441). -/
def cipherKeyStatus (s : Chip) (k : Nat) (b : Bytes) : Nat :=
  let c := keyCheck s (cipherOwner s k b) (cSlot b) (cGen b) (useBit (cMode b))
  if c = 0 then 0 else 4 + c

/-! ## Clusters -/

/-- Segments of 4 KiB that a request has on its cluster (R445). -/
def runSegs (r : CipherRun) : Nat := if r.done.isSome then 0 else max 1 (cdiv (dstBytes r.b) 4096)

/-- Segments queued on a cluster. -/
def clusterLoad (s : Chip) (c : Nat) : Nat := ((s.engines.ciphers.filter (fun r => r.cluster == c)).map runSegs).sum

/-- OD 31.040: 0 in service, 1 halt deferred, 2 halted, 3 retired. -/
def clusterState (s : Chip) (c : Nat) : Nat := odN s 0x31040 (c + 1)

/-- Set it. -/
def setClusterState (s : Chip) (c v : Nat) : Chip := odSet s 0x31040 (c + 1) v

/-- Bytes of the authentication buffer a request reserves (R447). -/
def authBytes (b : Bytes) : Nat := if cMode b = 2 ∧ cLen b ≤ 1048576 then cLen b else 0

/-- Bytes reserved on a cluster. -/
def authUsed (s : Chip) (c : Nat) : Nat :=
  ((s.engines.ciphers.filter (fun r => r.cluster == c && r.done.isNone)).map (fun r => authBytes r.b)).sum

/-- The cluster with the fewest queued segments among those in service, the lower number on a tie (R448). -/
def pickCluster (s : Chip) : Option Nat :=
  ((List.range 8).filter (fun c => clusterState s c == 0 && decide (0 < odN s 0x31041 (c + 1)))).foldl (fun best c =>
    match best with
    | none => some c
    | some b => if clusterLoad s c < clusterLoad s b then some c else some b) none

/-- Every cluster is retired (R454). -/
def clustersGone (s : Chip) : Bool := (List.range 8).all (fun c => clusterState s c == 3)

/-- A running request, by number. -/
def cipherRun (s : Chip) (id : Nat) : Option CipherRun := s.engines.ciphers.find? (fun r => r.id == id)

/-- Set the requests under way. -/
def setRuns (s : Chip) (l : List CipherRun) : Chip := { s with engines := { s.engines with ciphers := l } }

/-- Change one. -/
def setRun (s : Chip) (r : CipherRun) : Chip := setRuns s (s.engines.ciphers.map (fun x => if x.id == r.id then r else x))

/-- Take the waiting entry with a number off its queue; it counts as running. -/
def takeWaiting (s : Chip) (k id : Nat) : Chip :=
  let q := portQ s k
  setPortQ s k { q with waiting := q.waiting.filter (fun e => e.id != id), running := q.running + 1 }

/-- A request under way, with what it has ended as, if it has. -/
def startRun (s : Chip) (k : Nat) (e : PqEntry) (cluster : Nat) (key : Bytes) (done : Option (Nat × Nat)) : Chip :=
  let s := takeWaiting s k e.id
  showLeases { s with engines := { s.engines with
    ciphers := s.engines.ciphers ++ [⟨e.id, k, e.b, e.adm, cluster, cSlot e.b, key, done⟩] } }

/-- CIPHER_ISSUE: the oldest waiting request of queue `k` goes to a cluster once it is admitted and its key passes (R441,
R448). A request that fails a check ends there; with every cluster retired it ends with DWELL_TIMEOUT. -/
def cipherIssue (s : Chip) (k : Nat) : Chip :=
  match (portQ s k).waiting with
  | [] => s
  | e :: _ =>
    if 16 ≤ k then s
    else if cipherBad s k e.b ≠ 0 then startRun s k e 0xFF [] (some (cipherBad s k e.b, 0))
    else if e.adm = 0 then s
    else if clustersGone s then startRun s k e 0xFF [] (some (15, 0))
    else
      match pickCluster s with
      | none => s
      | some c =>
        if cipherKeyStatus s k e.b ≠ 0 then startRun s k e 0xFF [] (some (cipherKeyStatus s k e.b, 0))
        else if 1048576 < authUsed s c + authBytes e.b then s
        else startRun (keyIssue s (cSlot e.b) true) k e c (keySlot s (cSlot e.b)).key none

/-- CIPHER_ISSUE. -/
def execCipherIssue (k : Nat) (s : State) : Host.Outcome State Fault Refusal := run s (fun c => cipherIssue c k)

/-! ## Running a request -/

/-- Who reads and writes for a request (R437). -/
def cipherAgent (s : Chip) (r : CipherRun) : Agent :=
  if cPlat r.b < 64 then .plat (cPlat r.b) else if portCore s r.queue < 4 then .phys else .opn

/-- The status of Table 17-4 for a failed transfer. -/
def cipherXferStatus (st : Nat) : Nat := if st = 1 then 3 else if st = 2 then 4 else 0

/-- End a request with a status and the bytes released. -/
def endRun (s : Chip) (r : CipherRun) (st n : Nat) : Chip := setRun s { r with done := some (st, n) }

/-- A check mismatch (R446): the event, and both cores of the pair fenced. -/
def cipherMismatch (s : Chip) (r : CipherRun) (pair : Nat) : Chip :=
  let unit := 0x4000 + 32 * r.cluster + 2 * (pair % 8)
  let s := raiseU s evCipherMismatch unit
    (r.cluster + 256 * (pair % 8) + 65536 * cMode r.b + b2n (bit (fld r.b 1 1) 1) * 2 ^ 24)
  let s := recordError s 3 4 unit 0 (platBit (cPlat r.b)) 0
  recordError s 3 4 (unit + 1) 0 (platBit (cPlat r.b)) 0

/-- The source of a request. -/
def cipherRead (s : Chip) (r : CipherRun) : Xfer :=
  xferRead s (cipherAgent s r) (cSrc r.b) (srcBytes r.b) 0 0 uCipher Bound.free

/-- Release output: all of it, or with a mismatch the first segments of 4 KiB only, and no tag (R445, R446). `st` is the
status of a request that meets no fault. -/
def cipherOut (s : Chip) (r : CipherRun) (text tag : Bytes) (fault : Option (Nat × Nat)) (st : Nat) : Chip :=
  let out := match fault with | some f => text.take (4096 * f.1) | none => text ++ tag
  let x := xferWrite s (cipherAgent s r) (cDst r.b) out (cHint r.b) 0 uCipher Bound.free
  if x.st ≠ 0 then endRun x.s r (cipherXferStatus x.st) x.count
  else
    match fault with
    | some f => cipherMismatch (endRun x.s r 10 x.count) r f.2
    | none => endRun x.s r st x.count

/-- Run a request of mode `m` that has been issued: `k` gets its source. A request whose cluster halted before it ran takes
another (R442). -/
def runMode (s : Chip) (m id : Nat) (k : Chip → CipherRun → Bytes → Chip) : Chip :=
  match cipherRun s id with
  | none => s
  | some r =>
    if cMode r.b ≠ m ∨ r.done.isSome then s
    else if clusterState s r.cluster = 2 ∨ 8 ≤ r.cluster then
      (match pickCluster s with
       | some c => showLeases (setRun s { r with cluster := c })
       | none => s)
    else
      let x := cipherRead s r
      if x.st ≠ 0 then endRun x.s r (cipherXferStatus x.st) 0 else k x.s r x.bytes

/-- The additional data of a source. -/
def srcAad (r : CipherRun) (b : Bytes) : Bytes := b.take (cAad r.b)
/-- The text of a source. -/
def srcText (r : CipherRun) (b : Bytes) : Bytes := (b.drop (cAad r.b)).take (cLen r.b)
/-- The tag at the end of a source. -/
def srcTag (r : CipherRun) (b : Bytes) : Bytes := b.drop (cAad r.b + cLen r.b)

/-- GCM_ENC: ciphertext, then the tag. -/
def gcmEnc (s : Chip) (id : Nat) (fault : Option (Nat × Nat)) : Chip :=
  runMode s 1 id (fun s r b =>
    let ct := gcmText r.key (cIv r.b) (srcText r b)
    cipherOut s r ct (gcmTag r.key (cIv r.b) (srcAad r b) ct) fault 0)

/-- GCM_DEC (R447): plaintext only on a matching tag; beyond 1 MiB a second pass reads the source again, `second` where it
has been altered since the first. -/
def gcmDec (s : Chip) (id : Nat) (fault : Option (Nat × Nat)) (second : Option Bytes) : Chip :=
  runMode s 2 id (fun s r b =>
    let ok := gcmTag r.key (cIv r.b) (srcAad r b) (srcText r b) == srcTag r b
    if cLen r.b ≤ 1048576 then
      (match fault with
       | some f => cipherMismatch (endRun s r 10 0) r f.2
       | none => if ok then cipherOut s r (gcmText r.key (cIv r.b) (srcText r b)) [] none 0 else endRun s r 9 0)
    else if !ok then
      (match fault with
       | some f => cipherMismatch (endRun s r 10 0) r f.2
       | none => endRun s r 9 0)
    else
      let b2 := match second with | some v => slice v 0 (srcBytes r.b) | none => b
      let same := gcmHash r.key (srcAad r b2) (srcText r b2) == gcmHash r.key (srcAad r b) (srcText r b)
      cipherOut s r (gcmText r.key (cIv r.b) (srcText r b2)) [] fault (if same then 0 else 11))

/-- GMAC_GEN: the tag alone. -/
def gmacGen (s : Chip) (id : Nat) (fault : Option (Nat × Nat)) : Chip :=
  runMode s 3 id (fun s r b => cipherOut s r [] (gcmTag r.key (cIv r.b) (srcAad r b) []) fault 0)

/-- GMAC_VER: only the outcome of the comparison. -/
def gmacVer (s : Chip) (id : Nat) (fault : Option (Nat × Nat)) : Chip :=
  runMode s 4 id (fun s r b =>
    match fault with
    | some f => cipherMismatch (endRun s r 10 0) r f.2
    | none => endRun s r (if gcmTag r.key (cIv r.b) (srcAad r b) [] == srcTag r b then 0 else 9) 0)

/-- XTS in either direction. -/
def xtsRun (s : Chip) (m id : Nat) (fault : Option (Nat × Nat)) : Chip :=
  runMode s m id (fun s r b => cipherOut s r (aesXts (m == 5) r.key (cAux r.b) (leNat (cIv r.b)) b) [] fault 0)

/-- CTR: input XOR keystream. -/
def ctrRun (s : Chip) (id : Nat) (fault : Option (Nat × Nat)) : Chip :=
  runMode s 7 id (fun s r b => cipherOut s r (aesCtr r.key (cIv r.b) b) [] fault 0)

/-- GCM_ENC. `fault`: a check mismatch after so many released segments, on a pair. -/
def execGcmEnc (id : Nat) (fault : Option (Nat × Nat)) (s : State) : Host.Outcome State Fault Refusal :=
  run s (fun c => gcmEnc c id fault)

/-- GCM_DEC. -/
def execGcmDec (id : Nat) (fault : Option (Nat × Nat)) (second : Option Bytes) (s : State) :
    Host.Outcome State Fault Refusal :=
  run s (fun c => gcmDec c id fault second)

/-- GMAC_GEN. -/
def execGmacGen (id : Nat) (fault : Option (Nat × Nat)) (s : State) : Host.Outcome State Fault Refusal :=
  run s (fun c => gmacGen c id fault)

/-- GMAC_VER. -/
def execGmacVer (id : Nat) (fault : Option (Nat × Nat)) (s : State) : Host.Outcome State Fault Refusal :=
  run s (fun c => gmacVer c id fault)

/-- XTS_ENC. -/
def execXtsEnc (id : Nat) (fault : Option (Nat × Nat)) (s : State) : Host.Outcome State Fault Refusal :=
  run s (fun c => xtsRun c 5 id fault)

/-- XTS_DEC. -/
def execXtsDec (id : Nat) (fault : Option (Nat × Nat)) (s : State) : Host.Outcome State Fault Refusal :=
  run s (fun c => xtsRun c 6 id fault)

/-- CTR. -/
def execCtr (id : Nat) (fault : Option (Nat × Nat)) (s : State) : Host.Outcome State Fault Refusal :=
  run s (fun c => ctrRun c id fault)

/-! ## Completion -/

/-- Counters of a completed request (Table 17-10). -/
def cipherCount (s : Chip) (b : Bytes) (st n : Nat) : Chip :=
  let s := odAdd64 (odAdd64 s 0x31050 1 1) 0x31050 2 n
  let sub := match st with | 9 => 3 | 10 => 4 | 2 => 5 | 5 => 6 | 6 => 6 | 7 => 6 | 8 => 6 | 11 => 8 | _ => 0
  let s := if sub = 0 then s else odAdd64 s 0x31050 sub 1
  let p := cPlat b
  if p < 64 then
    let o := 0x31080 + p
    let s := odAdd64 (odAdd64 s o 1 1) o 2 n
    if st = 9 then odAdd64 s o 3 1 else if st = 10 then odAdd64 s o 4 1 else s
  else s

/-- CIPHER_COMPLETE: the completion, the add to SIGNAL, the true-up, and the lease that ends with the last sealed request
(R439, R442). -/
def cipherComplete (s : Chip) (id : Nat) : Chip :=
  match cipherRun s id with
  | none => s
  | some r =>
    match r.done with
    | none => s
    | some (st, n) =>
      let s := setRuns s (s.engines.ciphers.filter (fun x => x.id != id))
      let s := if r.key.isEmpty then s else keyIssue s r.slot false
      let q := portQ s r.queue
      let s := setPortQ s r.queue { q with running := q.running - 1 }
      let s := portComplete s r.queue st r.cluster r.b n
      let g : SigAgent := if cPlat r.b < 64 then .openFor (cPlat r.b) else if portCore s r.queue < 4 then .sealed else .opn
      let s := cipherCount (addSignal s g (cSignal r.b)) r.b st n
      showLeases (if r.adm = 0 then s else jobEnd s r.adm)

/-- CIPHER_COMPLETE. -/
def execCipherComplete (id : Nat) (s : State) : Host.Outcome State Fault Refusal := run s (fun c => cipherComplete c id)

/-! ## The gate of a cluster (R442) -/

/-- Requests queued on a cluster move to others; none is lost. One that finds no cluster waits without. -/
def moveRuns (s : Chip) (c : Nat) : Chip :=
  (s.engines.ciphers.filter (fun r => r.cluster == c && r.done.isNone)).foldl (fun s r =>
    setRun s { r with cluster := (pickCluster s).getD 0xFF }) s

/-- The cluster halts. -/
def haltCluster (s : Chip) (c : Nat) : Chip := showLeases (moveRuns (setClusterState s c 2) c)

/-- A halt from the open domain: deferred while the cluster is leased. -/
def clusterHalt (s : Chip) (c : Nat) : ActRes :=
  if clusterState s c = 3 then refuse s eNotReady
  else if clusterState s c = 2 then acted s
  else if clusterState s c = 1 then refuse s eDeferred
  else if clusterLeased s c then
    (eDeferred, [], setClusterState (deferHalt s 1 c (0xE000 + c)) c 1)
  else acted (haltCluster s c)

/-- A resume: it returns a halted cluster to service, and withdraws a halt that is deferred. -/
def clusterResume (s : Chip) (c : Nat) : ActRes :=
  if clusterState s c = 3 then refuse s eNotReady
  else if clusterState s c = 0 then acted s
  else acted (setClusterState
    { s with sec := { s.sec with deferred := s.sec.deferred.filter (fun d => !(d.kind == 1 && d.arg == c)) } } c 0)

/-- OD 31.042, CLUSTER_GATE: [2:0] cluster, [7] halt or resume. -/
def actClusterGate : Act := fun s _ arg =>
  let v := leNat arg
  if bits v 6 3 ≠ 0 then refuse s eRange
  else if bit v 7 then clusterHalt s (v % 8) else clusterResume s (v % 8)

/-- CLUSTER_HALT: the argument's [7] is 1. -/
def execClusterHalt (rq : Rq) (arg : Bytes) (s : State) : Host.Outcome State Fault Refusal :=
  run s (actionRow actClusterGate 0x31042 rq arg)

/-- CLUSTER_RESUME: the argument's [7] is 0. -/
def execClusterResume (rq : Rq) (arg : Bytes) (s : State) : Host.Outcome State Fault Refusal :=
  run s (fun c => actionRow actClusterGate 0x31042 rq arg c)

/-! ## Writes, resets, retirement -/

/-- The rules on values written to group 31 (R434). -/
def checkCipher (s : Chip) (dom : Dom) (obj sub : Nat) (v : Bytes) : Nat :=
  let n := leNat v
  let k := sub - 1
  let busy := decide (0 < (portQ s k).outstanding)
  if obj = 0x31020 then
    if n = 0xFF then (if busy then eBusy else eOk)
    else if k < 4 ∧ (4 ≤ n ∨ dom ≠ .sealed) then eRange
    else if 4 ≤ k ∧ n < 4 then eRange
    else if busy then eBusy else eOk
  else if obj = 0x31021 then
    if n % 32 ≠ 0 ∨ 0x1F800 < n then eRange else if busy then eBusy else eOk
  else eOk

/-- Every request of a platform under way stops at its next segment (R452). -/
def cipherPlatReset (s : Chip) (p : Nat) : Chip :=
  setRuns s (s.engines.ciphers.map (fun r =>
    if cPlat r.b = p ∧ r.done.isNone then { r with done := some (16, 0) } else r))

/-- A forced halt of a cluster: its requests end REVOKED with BYTES 0 (R206, R451). -/
def cipherRevoke (s : Chip) (c : Nat) : Chip :=
  let l := s.engines.ciphers.filter (fun r => r.cluster == c && r.done.isNone)
  l.foldl (fun s r => cipherComplete (endRun s r 8 0) r.id) s

/-- A request under way ends with a status at once: drain, emergency, dwell trip (R159, R154, R451). -/
def cipherEndAll (s : Chip) (st : Nat) (p : CipherRun → Bool) : Chip :=
  (s.engines.ciphers.filter (fun r => p r && r.done.isNone)).foldl (fun s r => cipherComplete (endRun s r st 0) r.id) s

/-- Pairs of a cluster: half its cores in service, rounded down (R433). -/
def clusterPairs (s : Chip) (c : Nat) : Nat :=
  (16 - (s.faults.retired.filter (fun u => u / 4096 == 4 && u % 4096 / 32 == c && decide (u % 32 < 16))).length) / 2

/-- A cluster has lost a core, or all of it (`n` pairs are left); with the last pair it is retired and its work moves
(R454). -/
def clusterLosesPair (s : Chip) (c n : Nat) : Chip :=
  let s := odSet s 0x31041 (c + 1) n
  if clusterState s c = 3 then s
  else if odN s 0x31041 (c + 1) = 0 then
    let s := moveRuns (setClusterState s c 3) c
    let s := raiseFull s evCipherClusterRetired.code (if clustersGone s then 5 else 4) false 0 0 0xFF (0xE000 + c) c
    showLeases (if clustersGone s then cipherEndAll s 15 (fun _ => true) else s)
  else s

end Sys2Proof.Machine
end

