-- ==== Sys2Proof/Machine/Flags.lean ====
section
/-! DEFINITION. Results and flags of the Tuital instructions (09 R251, R252, R253, R255), and the status word (08 Table
8-6). -/
namespace Sys2Proof.Machine

/-- N, Z, V, C. -/
structure Nzvc where
  n : Bool
  z : Bool
  v : Bool
  c : Bool
deriving DecidableEq, Repr

/-- A result with its flags. -/
structure AluRes where
  r : W32
  f : Nzvc
deriving DecidableEq, Repr

/-- N and Z of a result (R251). -/
def flagsOf (r : W32) (v c : Bool) : AluRes := ⟨r, ⟨r.msb, r == 0, v, c⟩⟩

/-- a + b + c (ADD, ADDC, ADDI). -/
def aluAdd (a b : W32) (cin : Bool) : AluRes :=
  let k := b2n cin
  let r := a + b + BitVec.ofNat 32 k
  flagsOf r (decide (r.toInt ≠ a.toInt + b.toInt + k)) (decide (2 ^ 32 ≤ a.toNat + b.toNat + k))

/-- a − b − c (SUB, SUBC, CMP, CMPI). -/
def aluSub (a b : W32) (cin : Bool) : AluRes :=
  let k := b2n cin
  let r := a - b - BitVec.ofNat 32 k
  flagsOf r (decide (r.toInt ≠ a.toInt - b.toInt - k)) (decide (a.toNat < b.toNat + k))

/-- A logic result: V and C cleared. -/
def aluLogic (r : W32) : AluRes := flagsOf r false false

/-- SHL by n: C is the last bit shifted out. -/
def aluShl (a : W32) (n : Nat) : AluRes := flagsOf (a <<< n) false (decide (0 < n) && a.getLsbD (32 - n))

/-- SHR by n. -/
def aluShr (a : W32) (n : Nat) : AluRes := flagsOf (a >>> n) false (decide (0 < n) && a.getLsbD (n - 1))

/-- SAR by n. -/
def aluSar (a : W32) (n : Nat) : AluRes := flagsOf (a.sshiftRight n) false (decide (0 < n) && a.getLsbD (n - 1))

/-- ROL by n: C is the bit rotated into bit 0. -/
def aluRol (a : W32) (n : Nat) : AluRes :=
  let r := a.rotateLeft n
  flagsOf r false (decide (0 < n) && r.getLsbD 0)

/-- Leading zeros, 0 to 32 (CLZ). -/
def clz32 (a : W32) : Nat := 32 - (if a.toNat = 0 then 0 else a.toNat.log2 + 1)

/-- MUL. -/
def aluMul (a b : W32) : AluRes :=
  let p := a.toInt * b.toInt
  flagsOf (a * b) (decide (p < -2147483648) || decide (2147483647 < p)) (decide (2 ^ 32 ≤ a.toNat * b.toNat))

/-- MULHS -/
def aluMulhs (a b : W32) : AluRes := aluLogic (BitVec.ofInt 32 ((a.toInt * b.toInt) / 2 ^ 32))

/-- MULHU -/
def aluMulhu (a b : W32) : AluRes := aluLogic (BitVec.ofNat 32 ((a.toNat * b.toNat) / 2 ^ 32))

/-- DIVS: truncation toward zero; −2^31 by −1 gives −2^31 and sets V (R252). -/
def aluDivs (a b : W32) : AluRes :=
  flagsOf (BitVec.ofInt 32 (Int.tdiv a.toInt b.toInt)) (decide (a.toInt = -2147483648 ∧ b.toInt = -1)) false

/-- DIVU -/
def aluDivu (a b : W32) : AluRes := aluLogic (BitVec.ofNat 32 (a.toNat / b.toNat))

/-- REMS: the sign of the dividend. -/
def aluRems (a b : W32) : AluRes := aluLogic (BitVec.ofInt 32 (Int.tmod a.toInt b.toInt))

/-- REMU -/
def aluRemu (a b : W32) : AluRes := aluLogic (BitVec.ofNat 32 (a.toNat % b.toNat))

/-- CMPA: N is bit 47 of the difference, Z its being 0, C unsigned lower, V 0 (R250). -/
def flagsCmpa (a b : W48) : Nzvc :=
  let d := a - b
  ⟨d.msb, d == 0, false, decide (a.toNat < b.toNat)⟩

/-- The accumulator write of R253: the value and whether it saturated. -/
def accSat (t : Int) : W80 × Bool :=
  if 2 ^ 79 - 1 < t then (BitVec.ofInt 80 (2 ^ 79 - 1), true)
  else if t < -(2 ^ 79) then (BitVec.ofInt 80 (-(2 ^ 79)), true)
  else (BitVec.ofInt 80 t, false)

/-- EXT (R255): the result with its flags, V being the saturation. -/
def extOf (acc : W80) (sh : Nat) (rnd : Bool) : AluRes :=
  let x : Int := if rnd = true ∧ 0 < sh then (acc.toInt + 2 ^ (sh - 1)) / 2 ^ sh else acc.toInt / 2 ^ sh
  if 2147483647 < x then flagsOf (BitVec.ofInt 32 2147483647) true false
  else if x < -2147483648 then flagsOf (BitVec.ofInt 32 (-2147483648)) true false
  else flagsOf (BitVec.ofInt 32 x) false false

/-! ## The status word (Table 8-6) -/

/-- Bit `i` of a word set to `v`. -/
def setBit (w : W32) (i : Nat) (v : Bool) : W32 :=
  if v then w ||| BitVec.ofNat 32 (2 ^ i) else w &&& ~~~(BitVec.ofNat 32 (2 ^ i))

/-- C -/
abbrev swC : Nat := 0
/-- V -/
abbrev swV : Nat := 1
/-- Z -/
abbrev swZ : Nat := 2
/-- N -/
abbrev swN : Nat := 3
/-- SAT -/
abbrev swSat : Nat := 8
/-- ST -/
abbrev swSt : Nat := 9
/-- IE -/
abbrev swIe : Nat := 13
/-- PIE -/
abbrev swPie : Nat := 14
/-- EXL -/
abbrev swExl : Nat := 15

/-- A flag of the status word. -/
def swBit (w : W32) (i : Nat) : Bool := w.getLsbD i

/-- SW with new N, Z, V and C. -/
def setNzvc (w : W32) (f : Nzvc) : W32 := setBit (setBit (setBit (setBit w swN f.n) swZ f.z) swV f.v) swC f.c

/-- MTSR of SW (R263): N, Z, V, C, ST, IE and PIE are written; a 0 clears SAT or EXL; reserved bits are ignored. -/
def mtsrSw (w v : W32) : W32 :=
  let w := [swC, swV, swZ, swN, swSt, swIe, swPie].foldl (fun w i => setBit w i (swBit v i)) w
  let w := if swBit v swSat then w else setBit w swSat false
  if swBit v swExl then w else setBit w swExl false

/-- The conditions of Table 9-11; none: reserved. -/
def condHolds (w : W32) (cond : Nat) : Option Bool :=
  let n := swBit w swN
  let z := swBit w swZ
  let v := swBit w swV
  let c := swBit w swC
  match cond with
  | 0 => some true
  | 1 => some z
  | 2 => some !z
  | 3 => some n
  | 4 => some !n
  | 5 => some v
  | 6 => some !v
  | 7 => some c
  | 8 => some !c
  | 9 => some (c || z)
  | 10 => some (!c && !z)
  | 11 => some (n != v)
  | 12 => some (n == v)
  | 13 => some (z || n != v)
  | 14 => some (!z && n == v)
  | _ => none

end Sys2Proof.Machine
end

