-- ==== Sys2Proof/Machine/Pdu.lean ====
section
/-! DEFINITION. A PDU as it reaches its path: format checks (04 R115), sealed sessions (07 R198), the duplicate record
(R119), and the queue of the path (R118). A queued request is carried out by the command of its service. -/
namespace Sys2Proof.Machine

/-! ## Format -/

/-- Entries of a PDU (Table 4-4), none where a reserved bit is set or the bytes do not fit. -/
def parseEntries : Nat → Bytes → Option (List Entry)
  | 0, b => if b = [] then some [] else none
  | n + 1, b =>
    let len := fld b 6 2
    let size := 8 + len + (4 - len % 4) % 4
    if b.length < size ∨ fld b 1 2 ≥ 4096 ∨ fld b 5 1 ≥ 2 then none
    else (parseEntries n (b.drop size)).map
      (fun r => ⟨fld b 0 1 * 4096 + fld b 1 2, fld b 3 1, fld b 4 1, fld b 5 1, (b.drop 8).take len⟩ :: r)

/-- No execute entry but the last (R115). -/
def executeLast : List Entry → Bool
  | [] => true
  | [_] => true
  | e :: r => e.op == 0 && executeLast r

/-- The entries' operations match the service (R113, R115, Table 4-3). -/
def matchService (svc : Nat) (es : List Entry) : Bool :=
  if svc = 0x01 then es.isEmpty
  else if svc = 0x10 then es.all (fun e => e.op == 0 && e.type == 0 && (e.val.isEmpty || e.val.length == 4))
  else if svc = 0x11 then executeLast es
  else if svc = 0x12 then es.all (fun e => e.op == 0 && e.type == 0 && e.val.isEmpty)
  else if svc = 0x20 ∨ svc = 0x21 then es.length == 1 && es.all (fun e => e.obj == 0x040F0 && e.sub == 0 && e.op == 0)
  else if svc = 0x22 then es.isEmpty
  else true

/-- The services of Table 4-3. -/
def knownService (svc : Nat) : Bool := [0x01, 0x02, 0x10, 0x11, 0x12, 0x20, 0x21, 0x22].contains svc

/-- The format of a request (R115): its entries, or none for bad-format. `pad`: Ethernet padding is allowed (04, worked
example). -/
def parsePdu (pdu : Bytes) (pad : Bool) : Option (List Entry) :=
  let flags := fld pdu 1 1
  let svc := fld pdu 2 1
  let len := fld pdu 12 2
  let size := 16 + len + (if bit flags 6 then 16 else 0)
  if flags % 32 ≠ 0 ∨ fld pdu 15 1 ≠ 0 ∨ (bit flags 5 ∧ svc ≠ 0x11) ∨ (!bit flags 5 ∧ fld pdu 10 2 ≠ 0)
      ∨ !(pdu.length == size || (pad && decide (size < 46) && pdu.length == 46)) then none
  else
    match parseEntries (fld pdu 9 1) ((pdu.drop 16).take len) with
    | none => none
    | some es => if matchService svc es then some es else none

/-! ## Sealed sessions, R198 -/

/-- The session after a SEQ it accepts; none for a replay. -/
def acceptSeq (x : Session) (seq now : Nat) : Option Session :=
  let d := (seq + 65536 - x.highest) % 65536
  if !x.started then some { x with started := true, highest := seq, window := 0, last := now }
  else if 1 ≤ d ∧ d ≤ 32767 then
    some { x with highest := seq, window := ((2 * x.window + 1) * 2 ^ (d - 1)) % 2 ^ 256, last := now }
  else
    let k := (x.highest + 65536 - seq) % 65536
    if 1 ≤ k ∧ k ≤ 256 ∧ !bit x.window (k - 1) then
      some { x with window := x.window + 2 ^ (k - 1), last := now }
    else none

/-- A session set. -/
def setSession (s : Chip) (x : Session) : Chip :=
  { s with sl := { s.sl with sessions := s.sl.sessions.map (fun y => if y.num == x.num then x else y) } }

/-- The TAG of a frame of a sealed session holds (R121, 07 R197). -/
def tagHolds (x : Session) (pdu : Bytes) : Bool :=
  let n := 16 + fld pdu 12 2
  x.authed && decide (n + 16 ≤ pdu.length) && slice pdu n 16 == hmacTag x.secret (pdu.take n)

/-! ## Intake -/

/-- 8 requests wait on the path (R118). -/
def pathFull (s : Chip) (rq : Rq) : Bool :=
  decide (8 ≤ (s.sl.waiting.filter (fun q => wayOf q.1.path == wayOf rq.path)).length)

/-- The request waits for its service. -/
def enqueue (s : Chip) (rq : Rq) (svc : Nat) : Chip := { s with sl := { s.sl with waiting := s.sl.waiting ++ [(rq, svc)] } }

/-- An error found before any entry is examined. -/
def earlyError (s : Chip) (rq : Rq) (svc e : Nat) : Chip :=
  sendAnswer (keepAnswer s rq ⟨e, 0xFF, []⟩) rq (some svc) ⟨e, 0xFF, []⟩

/-- COUNT (R115), version, service and format (Table 4-5), then the queue. -/
def intakeChecked (s : Chip) (rq : Rq) (pdu : Bytes) (pad network : Bool) : Chip :=
  let svc := fld pdu 2 1
  if 64 < fld pdu 9 1 then earlyError s rq svc eTooLarge
  else if fld pdu 0 1 ≠ 1 then earlyError s rq svc eVersion
  else if !knownService svc || (!network && decide (0x20 ≤ svc)) then earlyError s rq svc eService
  else if (parsePdu pdu pad).isNone then earlyError s rq svc eFormat
  else enqueue s rq svc

/-- Duplicates get the kept answer, counted in OD 06.042 (R119); a request that finds the queue full is answered busy, which
is not kept (R118); any other one passes `accept`. -/
def intake (s : Chip) (rq : Rq) (pdu : Bytes) (accept : Chip → Chip) : Chip :=
  let svc := some (fld pdu 2 1)
  match keptAnswer s rq with
  | some a => sendAnswer (odInc s 0x06042 0) rq svc a
  | none =>
    if fld pdu 9 1 ≤ 64 ∧ pathFull s rq then sendAnswer s rq svc ⟨eBusy, 0xFF, []⟩
    else accept s

/-- A PDU on a network path (R119, R121, R198): a frame with a TAG belongs to its session, any other to the open domain. -/
def intakeNet (s : Chip) (path : Path) (pdu : Bytes) (pad : Bool) : Chip :=
  let flags := fld pdu 1 1
  let num := fld pdu 6 2
  let rq : Rq := ⟨path, fld pdu 4 2, num, false, false⟩
  let tq : Rq := ⟨path, fld pdu 4 2, num, true, false⟩
  if !answering s || decide (pdu.length < 16) || bit flags 7 then s
  else if !bit flags 6 then intake s rq pdu (fun s => intakeChecked s rq pdu pad true)
  else if num = 0 then intake s rq pdu (fun s => earlyError s rq (fld pdu 2 1) eFormat)
  else
    match sessionOn s path num with
    | none => intake s rq pdu (fun s => earlyError s rq (fld pdu 2 1) eSession)
    | some x =>
      if !tagHolds x pdu then odInc s 0x06044 0
      else
        intake (setSession s { x with last := nowNs s }) tq pdu (fun s =>
          match acceptSeq x (fld pdu 4 2) (nowNs s) with
          | none => odInc s 0x04036 0
          | some x => intakeChecked (setSession s x) tq pdu pad true)

/-- A PDU of a mailbox or an OD fast port (R126, 08 R229): SESSION 0 and no TAG. -/
def intakeLocal (s : Chip) (path : Path) (pdu : Bytes) : Chip :=
  let rq : Rq := ⟨path, fld pdu 4 2, 0, false, false⟩
  if !answering s then s
  else intake s rq pdu (fun s =>
    if fld pdu 9 1 ≤ 64 ∧ (pdu.length < 16 ∨ fld pdu 6 2 ≠ 0 ∨ bit (fld pdu 1 1) 6) then
      earlyError s rq (fld pdu 2 1) eFormat
    else intakeChecked s rq pdu false false)

end Sys2Proof.Machine
end

