-- ==== Sys2Proof/Machine/Operands.lean ====
section
/-! DEFINITION. Registers, addressing modes, data accesses and ports of a Tuital core (08 R222 to R231, R235; 09 R246 to
R250). -/
namespace Sys2Proof.Machine

/-! ## Registers (R230) -/

/-- A D register. -/
def Core.dr (c : Core) (r : Fin 16) : W32 := tget 0 c.d r.val
/-- An A register. -/
def Core.ar (c : Core) (r : Fin 16) : W48 := tget 0 c.a r.val
/-- An accumulator. -/
def Core.ac (c : Core) (r : Fin 16) : W80 := tget 0 c.acc r.val
/-- Write a D register. -/
def Core.setD (c : Core) (r : Fin 16) (v : W32) : Core := { c with d := tput c.d r.val v }
/-- Write an A register. -/
def Core.setA (c : Core) (r : Fin 16) (v : W48) : Core := { c with a := tput c.a r.val v }
/-- Write an accumulator. -/
def Core.setAcc (c : Core) (r : Fin 16) (v : W80) : Core := { c with acc := tput c.acc r.val v }
/-- Write the flags. -/
def Core.setF (c : Core) (f : Nzvc) : Core := { c with sw := setNzvc c.sw f }

/-- A core number, and what OD 08.001 says of it. -/
def coreState (s : Chip) (t : Nat) : Nat := odN s 0x08001 (t + 1)

/-- Set OD 08.001. -/
def setCoreState (s : Chip) (t v : Nat) : Chip := odSet s 0x08001 (t + 1) v

/-- The domain a core acts for on signals (Table 8-1). -/
def coreAgent (t : Nat) : SigAgent := if t < 4 then .sealed else .opn

/-! ## Addressing modes (R231, R247) -/

/-- Access size in bytes of an SZ code. -/
def szBytes (sz : Fin 4) : Nat := 2 ^ sz.val

/-- The address and the register update of a memory operand; none: a reserved encoding (R247, R248). -/
def eaOf (c : Core) (n : Fin 16) (size : Nat) (ea : Ea) : Option (W48 × Option W48) :=
  match ea with
  | .m0 d => some (c.ar n + d.signExtend 48, none)
  | .m1 m sc dm =>
    if m.val = 0 then (if sc.val = 0 ∧ dm.val = 0 then some (c.ar n, some (c.ar n + BitVec.ofNat 48 size)) else none)
    else if m.val = 1 then
      (if sc.val = 0 ∧ dm.val = 0 then some (c.ar n - BitVec.ofNat 48 size, some (c.ar n - BitVec.ofNat 48 size)) else none)
    else if m.val = 2 then some (c.ar n + (c.dr dm).signExtend 48 * BitVec.ofNat 48 (2 ^ sc.val), none)
    else none

/-- MODE is `[An++]` or `[--An]`. -/
def eaUpdates : Ea → Bool
  | .m0 _ => false
  | .m1 m _ _ => decide (m.val < 2)

/-- The base register after the access. -/
def applyUpdate (c : Core) (n : Fin 16) (u : Option W48) : Core :=
  match u with
  | none => c
  | some v => c.setA n v

/-! ## Data accesses (R223, R224) -/

/-- The outcome of a data access: the bytes read, or cause and subcode of Table 8-8. -/
inductive Acc where
  | ok (b : Bytes) (s : Chip)
  | fault (cause sub : Nat) (s : Chip)
deriving DecidableEq, Repr

/-- A window of a core (Table 8-3). -/
def windowOf (s : Chip) (t w : Nat) : Bytes := odB s (0x08100 + t) (w + 1)

/-- The unit number of a core. -/
def uCore (t : Nat) : Nat := 0x1000 + t

/-- A refused access of a platform's window: its record (R277), and the subcode: 5 platform absent, 4 otherwise. -/
def windowFault (s : Chip) (t p a cause size : Nat) (write : Bool) : Acc :=
  .fault 4 (if cause = 7 then 5 else 4) (xlateFault s p a cause (uCore t) size write)

/-- An access through a window at offset `off` of it (R224). -/
def windowAccess (s : Chip) (t w off size : Nat) (wr : Option Bytes) : Acc :=
  let b := windowOf s t w
  let tag := fld b 12 1
  let a := bits (fld b 0 8) 47 12 * 4096 + off
  let hint := fld b 14 1 % 4
  if fld b 8 4 * 4096 ≤ off then .fault 4 2 s
  else if !bit (fld b 13 1) (if wr.isSome then 1 else 0) then .fault 4 3 s
  else if 64 ≤ tag then
    if 4 ≤ t ∧ !inOpenRanges s a size then .fault 4 3 s
    else
      match (match wr with
        | none => devRead s a size hint 64 (coreDie t)
        | some v => devWrite s a v hint 64 (coreDie t)) with
      | .ok v s => .ok v s
      | .refused => .fault 4 1 s
      | .dataError s => .fault 4 7 s
  else if fenced s uXlate then .fault 4 6 s
  else
    match translate s tag a wr.isSome with
    | .fault c s => windowFault s t tag a c size wr.isSome
    | .host h x s =>
      match wr with
      | none => .ok (hostRead s h x size) s
      | some v => .ok [] (hostWrite s h x v)
    | .dev x s =>
      match (match wr with
        | none => devRead s x size hint tag (coreDie t)
        | some v => devWrite s x v hint tag (coreDie t)) with
      | .ok v s => .ok v s
      | .refused => windowFault s t tag a 4 size wr.isSome
      | .dataError s => .fault 4 7 s

/-- A local SRAM word of the range has an uncorrectable error. -/
def sramBad (c : Core) (a n : Nat) : Bool := c.bad.any (fun w => decide (a / 4 ≤ w) && decide (w ≤ (a + n - 1) / 4))

/-- A data access at a D-space address: alignment (R223), the map of Table 8-2. -/
def dataAccess (s : Chip) (t : Nat) (ea : W48) (size : Nat) (wr : Option Bytes) : Acc :=
  let a := ea.toNat
  if a % size ≠ 0 then .fault 3 0 s
  else if a < sramSize then
    let c := coreOf s t
    match wr with
    | none => if sramBad c a size then .fault 1 1 s else .ok (memRead c.sram a size) s
    | some v => .ok [] (setCore s t (sramWrite c a v))
  else if a < 0x010000000000 ∨ 0x110000000000 ≤ a then .fault 4 1 s
  else windowAccess s t (a / 0x010000000000 - 1) (a % 0x010000000000) size wr

/-! ## Signal bindings (R235) -/

/-- A binding that was never written. -/
def Binding.off : Binding := ⟨0, 0, 0, false, false, false⟩

/-- Binding n of a core. -/
def bindOf (c : Core) (n : Nat) : Binding := tget Binding.off c.binds n

/-- Set it. -/
def setBind (c : Core) (n : Nat) (b : Binding) : Core := { c with binds := tput c.binds n b }

/-- BIND_SIG of binding `n` written: [15] arms it; a condition that holds fires at once; a signal not allocated to the
core's domain is refused (R235). -/
def bindSig (s : Chip) (t n : Nat) (w : W32) : Chip :=
  let c := coreOf s t
  let b := { bindOf c n with sig := w }
  if !w.getLsbD 15 then setCore s t (setBind c n { b with armed := false })
  else if !sigAllowed s (coreAgent t) b.num then
    setCore s t (setBind c n { b with armed := false, fired := false, refused := true })
  else
    let c := setBind c n { b with armed := true, fired := false, refused := false }
    setCore s t (fireBindings c b.num (sigVal s b.num))

/-! ## Ports (Table 8-4) -/

/-- The step of a core's own die in fs: OD 03.010, or OD 01.049 for an array die (R46). -/
def stepOf (s : Chip) (t : Nat) : Nat := if t < 16 then odN s 0x03010 0 else odN s 0x01049 (coreDie t)

/-- A read of signal `sig` by a core; its home may be isolated (R232, 09 R262). -/
def sigPort (s : Chip) (t sig : Nat) (k : Nat → Chip → PortRes) : PortRes :=
  if fenced s (sigUnit sig) then .isolated
  else
    let v := sigRead s (coreAgent t) sig
    k v.1 v.2

/-- The ports 0xF020 to 0xF03F: binding and part. -/
def bindPort (p : Nat) : Option (Nat × Nat) :=
  if 0xF020 ≤ p ∧ p ≤ 0xF03F then some ((p - 0xF020) / 4, (p - 0xF020) % 4) else none

/-- The status word of a binding. -/
def Binding.status (b : Binding) : Nat := b2n b.armed + 2 * b2n b.fired + 4 * b2n b.refused

/-- A read of a binding's part. -/
def bindRead (c : Core) (n part : Nat) : Nat :=
  let b := bindOf c n
  if part = 0 then b.sig.toNat else if part = 1 then b.thrLo.toNat else if part = 2 then b.thrHi.toNat else b.status

/-- RTIME_LO: running time [31:0]; HI is latched. -/
def rtimeLo (s : Chip) (t : Nat) : PortRes :=
  .ok (nowNs s % 2 ^ 32) (setCore s t { coreOf s t with rtimeHi := BitVec.ofNat 32 (nowNs s / 2 ^ 32) })

/-- OD_STATE: 2 returns to 0 when read (R229). -/
def odStateRead (s : Chip) (t : Nat) : PortRes :=
  let c := coreOf s t
  .ok c.odState.toNat (if c.odState = 2 then setCore s t { c with odState := 0 } else s)

/-- IN (R228, Table 8-4). -/
def portIn (s : Chip) (t p : Nat) : PortRes :=
  let c := coreOf s t
  if p < 0x1000 then sigPort s t p (fun v s => .ok (v % 2 ^ 32) s)
  else if 0x2000 ≤ p ∧ p < 0x3000 then (if p % 2 = 1 then queuePop s t ((p - 0x2000) / 2) else .fault 1)
  else
    match bindPort p with
    | some (n, part) => .ok (bindRead c n part) s
    | none =>
      match p with
      | 0x8002 => odStateRead s t
      | 0xF000 => .ok t s
      | 0xF001 => .ok c.vbase.toNat s
      | 0xF002 => .ok (c.faddr.toNat % 2 ^ 32) s
      | 0xF003 => .ok (c.faddr.toNat / 2 ^ 32) s
      | 0xF004 => rtimeLo s t
      | 0xF005 => .ok c.rtimeHi.toNat s
      | 0xF006 => .ok (stepOf s t) s
      | 0xF010 => .ok (c.intPend.toNat % 256) s
      | 0xF011 => .ok (c.intMask.toNat % 256) s
      | _ => .fault 1

/-- OUT to OD_REQ (R229): the PDU at a local-SRAM offset becomes a request of the core's path. -/
def odRequest (s : Chip) (t off : Nat) : PortRes :=
  let c := coreOf s t
  if c.odState = 1 then .fault 3
  else
    let h := sramFetch (setCore s t { c with odState := 1 }) t off 16
    let b := sramFetch h.2 t off (min (16 + fld h.1 12 2) 1504)
    .ok 0 (intakeLocal b.2 (.core t) b.1)

/-- INT_PEND: write 1 to clear (R236). -/
def intPendClear (s : Chip) (t : Nat) (v : W32) : Chip :=
  let c := coreOf s t
  setCore s t { c with intPend := c.intPend &&& ~~~v }

/-- A write of a binding's part; BIND_STATUS takes none. -/
def bindWrite (s : Chip) (t n part : Nat) (v : W32) : PortRes :=
  let c := coreOf s t
  if part = 0 then .ok 0 (bindSig s t n v)
  else if part = 1 then .ok 0 (setCore s t (setBind c n { bindOf c n with thrLo := v }))
  else if part = 2 then .ok 0 (setCore s t (setBind c n { bindOf c n with thrHi := v }))
  else .fault 1

/-- OUT (R228, Table 8-4). -/
def portOut (s : Chip) (t p : Nat) (v : W32) : PortRes :=
  let c := coreOf s t
  if p < 0x1000 then .ok 0 (sigAdd s (coreAgent t) p v.toNat)
  else if 0x2000 ≤ p ∧ p < 0x3000 then (if p % 2 = 0 then queuePush s t ((p - 0x2000) / 2) v.toNat else .fault 1)
  else
    match bindPort p with
    | some (n, part) => bindWrite s t n part v
    | none =>
      match p with
      | 0x8000 => odRequest s t v.toNat
      | 0x8001 => .ok 0 (setCore s t { c with odAns := v })
      | 0xF001 => .ok 0 (setCore s t { c with vbase := BitVec.ofNat 18 (bits v.toNat 17 10 * 1024) })
      | 0xF010 => .ok 0 (intPendClear s t v)
      | 0xF011 => .ok 0 (setCore s t { c with intMask := v &&& 0xFF })
      | _ => .fault 1

end Sys2Proof.Machine
end

