-- ==== Sys2Proof/Machine/Cores.lean ====
section
/-! DEFINITION. Issue of an instruction on a Tuital core, exceptions and interrupts (08 R232 to R237, 09 R260 to R264):
every Tuital command is written over `issue`. -/
namespace Sys2Proof.Machine

/-- What an instruction comes to. -/
inductive InsRes where
  /-- completes; the next instruction follows -/
  | done (s : Chip)
  /-- completes; issue goes on at a target -/
  | goto (pc : W18) (s : Chip)
  /-- waits: pc stays (R237, 09 R260) -/
  | hold (s : Chip)
  /-- causes 0x01 to 0x06: no effect (R232); with the D-space address of a data fault -/
  | fault (cause sub : Nat) (addr : Option W48) (s : Chip)
  /-- SAT_TRAP or TRAP, taken after the instruction completes -/
  | trap (cause sub : Nat) (s : Chip)
deriving DecidableEq, Repr

/-- The address of the next instruction: modulo 2^18 (09 R257). -/
def Core.next (c : Core) : W18 := c.pc + 4

/-- ECAUSE: cause and subcode (08, Exceptions). -/
def ecauseOf (cause sub : Nat) : Nat := sub % 256 * 256 + cause % 256

/-- The state of a core that starts at `entry` (R238). -/
def Core.start (c : Core) (entry : W18) : Core :=
  { Core.off with
    pc := entry, entry := entry, a := [(15, 0x20000)], ispace := c.ispace
    bad := c.bad.filter (fun w => decide (0x8000 ≤ w) && decide (w < 0x18000)) }

/-- Start a core from the image in its I-space (R238). -/
def startCore (s : Chip) (t : Nat) (entry : W18) : Chip := setCoreState (setCore s t ((coreOf s t).start entry)) t 2

/-- A double fault (R234): the core stops; T05 to T15 stay STOPPED, the others restart from their image's ENTRY. -/
def doubleFault (s : Chip) (t cause sub : Nat) : Chip :=
  let s := raiseFull s evCoreDoubleFault.code evCoreDoubleFault.cls false 0 0 0xFF (uCore t) (t + ecauseOf cause sub * 65536)
  if 5 ≤ t ∧ t ≤ 15 then setCoreState (setCore s t { coreOf s t with wait := .none }) t 1
  else startCore s t (coreOf s t).entry

/-- Exception entry (R233), shared by every cause: EPC and ECAUSE saved, PIE := IE, IE := 0, EXL := 1, pc at the vector;
counted in OD 08.002 and shown in OD 08.003. A cause 0x01 to 0x08 while EXL is 1 is a double fault (R234). -/
def enterException (s : Chip) (t cause sub : Nat) (epc : W18) (addr : Option W48) : Chip :=
  let c := coreOf s t
  if cause ≤ 8 ∧ swBit c.sw swExl then doubleFault s t cause sub
  else
    let sw := setBit (setBit (setBit c.sw swPie (swBit c.sw swIe)) swIe false) swExl true
    let s := setCore s t { c with
      pc := c.vbase + BitVec.ofNat 18 (16 * cause), sw := sw, epc := epc,
      ecause := BitVec.ofNat 32 (ecauseOf cause sub), faddr := addr.getD c.faddr, wait := .none }
    let s := odInc s 0x08002 (t + 1)
    let s := odSet s 0x08003 (t + 1) (ecauseOf cause sub)
    setCoreState s t 2

/-- Return from exception, RETE (R233): accepted whether or not EXL is 1 (09 R264). -/
def returnException (c : Core) : Core :=
  { c with pc := c.epc, sw := setBit (setBit c.sw swIe (swBit c.sw swPie)) swExl false }

/-- Pending bindings that are enabled. -/
def Core.pendEnabled (c : Core) : Nat := (c.intPend &&& c.intMask).toNat % 256

/-- An interrupt may be taken (R236). -/
def Core.takeable (c : Core) : Bool := c.pendEnabled != 0 && swBit c.sw swIe && !swBit c.sw swExl

/-- The lowest set bit of eight. -/
def lowBit (n : Nat) : Nat := ((List.range 8).find? (fun i => bit n i)).getD 0

/-- EPC of an interrupt taken now: the next instruction to issue; after a WAIT, or a SIGWT that was satisfied, the one
behind it; a waiting SIGWT itself (R237, 09 R261). -/
def Core.intEpc (c : Core) : W18 :=
  match c.wait with
  | .none => c.pc
  | .wait => c.next
  | .sigwt _ _ _ done => if done then c.next else c.pc

/-- Take the lowest enabled interrupt (R236): INT_PEND is not cleared. -/
def takeInterrupt (s : Chip) (t : Nat) : Chip :=
  let c := coreOf s t
  if c.takeable then enterException s t (0x10 + lowBit c.pendEnabled) 0 c.intEpc none else s

/-- Uncorrectable errors in the I-space word at pc (09 R268), subcode 2, and in the register file, subcode 3. Numbers of
`bad`: local SRAM words, then I-space words from 0x8000, then the register file. -/
def Core.machineCheck (c : Core) : Option Nat :=
  if c.bad.contains (0x8000 + c.pc.toNat / 4) then some 2 else if c.bad.contains 0x18000 then some 3 else none

/-- A core that issues instructions: RUN in OD 08.001 and not waiting. -/
def issues (s : Chip) (t : Nat) : Bool := decide (t < 24) && coreState s t == 2 && (coreOf s t).wait == .none

/-- What an instruction came to, applied to the core. -/
def retire (s0 : Chip) (t : Nat) : InsRes → Chip
  | .done s => setCore s t { coreOf s t with pc := (coreOf s0 t).next }
  | .goto pc s => setCore s t { coreOf s t with pc := pc }
  | .hold s => s
  | .fault cause sub addr s => enterException s t cause sub (coreOf s0 t).pc addr
  | .trap cause sub s =>
    enterException (setCore s t { coreOf s t with pc := (coreOf s0 t).next }) t cause sub (coreOf s0 t).next none

/-- Issue an instruction: an interrupt that may be taken at this boundary is taken in its place (R236). -/
def issue (s : Chip) (t : Nat) (f : Chip → InsRes) : Chip :=
  if !issues s t then s
  else if (coreOf s t).takeable then takeInterrupt s t
  else
    match (coreOf s t).machineCheck with
    | some sub => retire s t (.fault 1 sub none s)
    | none => retire s t (f s)

/-- ILLEGAL (R246). -/
def illegal (s : Chip) : InsRes := .fault 2 0 none s

/-- An instruction that changes only its core. -/
def onCore (t : Nat) (f : Core → Core) (s : Chip) : InsRes := .done (setCore s t (f (coreOf s t)))

/-- A three-operand data instruction (Table 9-7). -/
def alu3 (t : Nat) (rd ra rb : Fin 16) (f : W32 → W32 → AluRes) : Chip → InsRes :=
  onCore t (fun c => let x := f (c.dr ra) (c.dr rb); (c.setD rd x.r).setF x.f)

/-- One that reads C (ADDC, SUBC). -/
def alu3c (t : Nat) (rd ra rb : Fin 16) (f : W32 → W32 → Bool → AluRes) : Chip → InsRes :=
  onCore t (fun c => let x := f (c.dr ra) (c.dr rb) (swBit c.sw swC); (c.setD rd x.r).setF x.f)

/-- One that sets flags only (CMP, TST). -/
def aluFlags (t : Nat) (ra rb : Fin 16) (f : W32 → W32 → AluRes) : Chip → InsRes :=
  onCore t (fun c => c.setF (f (c.dr ra) (c.dr rb)).f)

/-- A data instruction with an immediate (Table 9-8). -/
def aluImm (t : Nat) (rd ra : Fin 16) (f : W32 → AluRes) : Chip → InsRes :=
  onCore t (fun c => let x := f (c.dr ra); (c.setD rd x.r).setF x.f)

/-- A division: DIV_ZERO for a divisor of 0 (09 R252). -/
def aluDiv (t : Nat) (rd ra rb : Fin 16) (f : W32 → W32 → AluRes) (s : Chip) : InsRes :=
  if (coreOf s t).dr rb = 0 then .fault 6 0 none s else alu3 t rd ra rb f s

/-- An accumulator result written (R253): SAT is sticky; with ST set, SAT_TRAP is taken after the instruction. -/
def accWrite (t : Nat) (rd : Fin 16) (v : Int) (s : Chip) : InsRes :=
  let c := coreOf s t
  let x := accSat v
  let c' := c.setAcc rd x.1
  if x.2 then
    let s := setCore s t { c' with sw := setBit c'.sw swSat true }
    if swBit c.sw swSt then .trap 7 0 s else .done s
  else .done (setCore s t c')

/-- An accumulator operation: register fields above 3 are reserved (R246). -/
def accOp (t : Nat) (rd : Fin 16) (f : Core → Int) (s : Chip) : InsRes :=
  if 3 < rd.val then illegal s else accWrite t rd (f (coreOf s t)) s

/-- A load (Table 9-4): `write` puts the bytes into the register. -/
def loadOp (t : Nat) (r n : Fin 16) (size : Nat) (ea : Ea) (write : Core → Fin 16 → Bytes → Core) (s : Chip) : InsRes :=
  match eaOf (coreOf s t) n size ea with
  | none => illegal s
  | some (a, u) =>
    match dataAccess s t a size none with
    | .ok b s => .done (setCore s t (write (applyUpdate (coreOf s t) n u) r b))
    | .fault c sub s => .fault c sub (if c = 4 then some a else none) s

/-- A store (Table 9-4). -/
def storeOp (t : Nat) (n : Fin 16) (size : Nat) (ea : Ea) (v : Core → Bytes) (s : Chip) : InsRes :=
  match eaOf (coreOf s t) n size ea with
  | none => illegal s
  | some (a, u) =>
    match dataAccess s t a size (some (v (coreOf s t))) with
    | .ok _ s => .done (setCore s t (applyUpdate (coreOf s t) n u))
    | .fault c sub s => .fault c sub (if c = 4 then some a else none) s

/-- The port a transfer names. -/
def portNum (c : Core) : PortRef → Nat
  | .imm p => p.toNat
  | .reg dk => (c.dr dk).toNat % 65536

/-- A port request's outcome; a value read goes to a register. -/
def portDone (t : Nat) (s0 : Chip) (write : Core → Nat → Core) : PortRes → InsRes
  | .ok v s => .done (setCore s t (write (coreOf s t) v))
  | .fault sub => .fault 5 sub none s0
  | .isolated => .fault 4 6 none s0

/-- IN (Table 9-5). -/
def inOp (t : Nat) (rd : Fin 16) (p : Nat) (s : Chip) : InsRes :=
  portDone t s (fun c v => c.setD rd (BitVec.ofNat 32 v)) (portIn s t p)

/-- OUT (Table 9-5). -/
def outOp (t p : Nat) (v : W32) (s : Chip) : InsRes := portDone t s (fun c _ => c) (portOut s t p v)

/-- The signal an S-format instruction names. -/
def sigNum (c : Core) : SigRef → Nat
  | .imm x => x.toNat
  | .reg dk => (c.dr dk).toNat % 4096

/-- The 64-bit value of a register pair. -/
def Core.pair (c : Core) (r : Fin 16) : Nat := (c.dr r).toNat + 2 ^ 32 * (c.dr (r + 1)).toNat

/-- SIGWT (09 R260): `eq` for the condition =. -/
def sigwtOp (t : Nat) (rd : Fin 16) (sig : SigRef) (eq : Bool) (s : Chip) : InsRes :=
  let c := coreOf s t
  let n := sigNum c sig
  if rd.val % 2 = 1 then illegal s
  else if !sigAllowed s (coreAgent t) n then .fault 5 2 none s
  else if fenced s (sigUnit n) then .fault 4 6 none s
  else if sigMeets (sigVal s n) (c.pair rd) eq then .done s
  else .hold (setCoreState (setCore s t { c with wait := .sigwt n eq (c.pair rd) false }) t 3)

/-- Push at `[--A15]` and go (R256). -/
def callTo (t : Nat) (target : W18) (s : Chip) : InsRes :=
  let c := coreOf s t
  let a := c.ar 15 - 8
  match dataAccess s t a 8 (some (leBytes 8 c.next.toNat)) with
  | .ok _ s => .goto target (setCore s t ((coreOf s t).setA 15 a))
  | .fault x sub s => .fault x sub (if x = 4 then some a else none) s

/-- A jump target must be a multiple of 4 (R256). -/
def aligned4 (a : Nat) : Bool := a % 4 == 0

end Sys2Proof.Machine
end

