-- ==== Sys2Proof/Machine/Rings.lean ====
section
/-! DEFINITION. Completion rings (15 R391 to R393, 10 R281), entry of a queue pair into ERROR (15 R386), entry of a native
queue into ERROR (16 R417), and the overrun that ties them together (R393, R416). -/
namespace Sys2Proof.Machine

/-! ## Completion rings -/

/-- A completion ring, if it has been made. -/
def cqOf (s : Chip) (n : Nat) : Option Cq := tget? s.rdma.cqs n

/-- Set it. -/
def setCq (s : Chip) (n : Nat) (q : Cq) : Chip := { s with rdma := { s.rdma with cqs := tput s.rdma.cqs n q } }

/-- Index `a` minus index `b`; indices wrap at 16 bits. -/
def idxSub (a b : Nat) : Nat := (a + 65536 - b % 65536) % 65536

/-- The next index. -/
def idxNext (a : Nat) : Nat := (a + 1) % 65536

/-- Phase of ring index `i` in a ring of 2^log entries: 1 on the first pass (R281). -/
def phaseOf (i log : Nat) : Nat := b2n (i / 2 ^ log % 2 == 0)

/-- EPOCH [15:0] of an owner; 0 for a domain. -/
def epochOf (s : Chip) (owner : Nat) : Nat := if owner < 64 then platEpoch s owner % 65536 else 0

/-- An MSI-X message of the function of an owner: its VF, or PF0. -/
def msixOwner (s : Chip) (owner vec : Nat) : Chip := if owner < 64 then msixPlat s owner vec else msix s 0 0 vec

/-- The ring is full. -/
def cqFull (q : Cq) : Bool := decide (2 ^ q.log ≤ idxSub q.prod q.cons)

/-- Write an entry, made from its ring index and phase, where there is room: whole, before the message of an armed ring
(R281, R393). A ring that does not exist takes nothing. -/
def cqPut (s : Chip) (n unit : Nat) (entry : Nat → Nat → Bytes) : Chip :=
  match cqOf s n with
  | none => s
  | some q =>
    if cqFull q then s
    else
      let x := xferWrite s (agentOf q.owner) (q.base + 64 * (q.prod % 2 ^ q.log)) (entry q.prod (phaseOf q.prod q.log)) 0 0 unit
        Bound.free
      let s := setCq x.s n { q with prod := idxNext q.prod, armed := false }
      if q.armed then msixOwner s q.owner q.vec else s

/-! ## Queue pairs -/

/-- A queue pair in RESET. -/
def Qp.off : Qp where
  state := 0
  plat := 0xFF
  cfg := zeros 96
  relaxed := false
  ecn := false
  sqProd := 0
  sqCons := 0
  rqProd := 0
  rqCons := 0
  nextPsn := 0
  una := 0
  sent := []
  group := 0
  gfirst := none
  msn := 0
  expPsn := 0
  placed := []
  finals := []
  atomics := []
  rx := none
  nakSent := false
  unacked := 0
  ackAt := 0
  cnpAt := none
  retries := 0
  rnrLeft := 0
  rnrUntil := none
  progress := 0
  times := []
  pace := none
  rate := 0
  srtt := 0
  samples := []
  yielded := false
  told := false
  above := 0
  nextInterval := 0
  cnpInInterval := false
  lastErr := 0

/-- A queue pair. -/
def qpOf (s : Chip) (n : Nat) : Qp := tget Qp.off s.rdma.qps n

/-- Set it; one in RESET is not listed. -/
def setQp (s : Chip) (n : Nat) (q : Qp) : Chip :=
  { s with rdma := { s.rdma with qps := tset Qp.off s.rdma.qps n q } }

/-- Fields of Table 15-3 that a queue pair holds. -/
def qSqBase (q : Qp) : Nat := fld q.cfg 8 8
/-- RQ_BASE -/
def qRqBase (q : Qp) : Nat := fld q.cfg 16 8
/-- SQ_LOG -/
def qSqLog (q : Qp) : Nat := fld q.cfg 24 1
/-- RQ_LOG -/
def qRqLog (q : Qp) : Nat := fld q.cfg 25 1
/-- SQ_CQ -/
def qSqCq (q : Qp) : Nat := fld q.cfg 28 2
/-- RQ_CQ -/
def qRqCq (q : Qp) : Nat := fld q.cfg 30 2

/-- A completion entry of a queue pair (Table 15-5). -/
def qpEntry (s : Chip) (qpn : Nat) (q : Qp) (recv : Bool) (status opcode wrid bytes imm orig : Nat) (idx ph : Nat) : Bytes :=
  leBytes 2 idx ++ leBytes 1 (ph + 2 * b2n recv) ++ leBytes 1 status ++ leBytes 1 opcode ++ zeros 1
    ++ leBytes 2 (epochOf s q.plat) ++ leBytes 8 wrid ++ leBytes 4 qpn ++ leBytes 4 bytes ++ leBytes 4 imm ++ zeros 4
    ++ leBytes 8 orig ++ leBytes 8 (epochNs s) ++ zeros 16

/-- Write a queue pair's completion where its ring has room. -/
def qpPut (s : Chip) (qpn : Nat) (recv : Bool) (status opcode wrid bytes imm orig : Nat) : Chip :=
  let q := qpOf s qpn
  cqPut s (if recv then qRqCq q else qSqCq q) uRdma (qpEntry s qpn q recv status opcode wrid bytes imm orig)

/-- Fetch a ring entry of a queue pair; bytes that cannot be read are zero. -/
def qpFetch (s : Chip) (q : Qp) (base log i : Nat) : Xfer :=
  xferRead s (agentOf q.plat) (base + 64 * (i % 2 ^ log)) 64 0 0 uRdma Bound.free

/-- Complete the posted send requests from index `i` on with FLUSHED, `n` of them (R386). -/
def flushSends (s : Chip) (qpn i : Nat) : Nat → Chip
  | 0 => s
  | n + 1 =>
    let q := qpOf s qpn
    let x := qpFetch s q (qSqBase q) (qSqLog q) i
    flushSends (qpPut x.s qpn false 8 (fld x.bytes 2 1) (fld x.bytes 8 8) 0 0 0) qpn (idxNext i) n

/-- Complete the posted receive requests from index `i` on with FLUSHED, `n` of them. -/
def flushRecvs (s : Chip) (qpn i : Nat) : Nat → Chip
  | 0 => s
  | n + 1 =>
    let q := qpOf s qpn
    let x := qpFetch s q (qRqBase q) (qRqLog q) i
    flushRecvs (qpPut x.s qpn true 8 0x20 (fld x.bytes 8 8) 0 0 0) qpn (idxNext i) n

/-- Requests under way complete in ring order: the oldest with `st`, the others with FLUSHED. -/
def flushSent (s : Chip) (qpn st : Nat) : List Sent → Chip
  | [] => s
  | x :: r => flushSent (qpPut s qpn false st (fld x.b 2 1) (fld x.b 8 8) 0 0 0) qpn 8 r

/-- Release a pacing entry of a queue pair. -/
def freePace (s : Chip) (p : Option Nat) : Chip :=
  match p with
  | none => s
  | some e => { s with net := { s.net with paces := tdel s.net.paces e, slots := s.net.slots.filter (fun x => x.2 != e) } }

/-- OD 24.002: queue pairs not in RESET, pacing entries held. -/
def countQps (s : Chip) : Chip :=
  odSet (odSet s 0x24002 1 s.rdma.qps.length) 0x24002 2 ((s.rdma.qps.filter (fun q => q.2.pace.isSome)).length)

/-- Entry into ERROR (R386): outstanding and posted work completes in ring order, the oldest request with `st` and the
others FLUSHED; the pacing entry is released; QP_ERROR with the status `ev`. -/
def qpErrorAs (s : Chip) (qpn st ev : Nat) : Chip :=
  let q := qpOf s qpn
  if q.state = 0 ∨ q.state = 4 then s
  else
    let s := setQp s qpn { q with state := 4, lastErr := ev, pace := none, sent := [], sqCons := q.sqProd, rqCons := q.rqProd,
                                  rx := none, finals := [] }
    let s := flushSent s qpn st q.sent
    let s := flushSends s qpn q.sqCons (idxSub q.sqProd q.sqCons)
    let s := flushRecvs s qpn q.rqCons (idxSub q.rqProd q.rqCons)
    let s := countQps (freePace s q.pace)
    raiseP s evQpError q.plat (qpn + ev * 2 ^ 24)

/-- ERROR for a failure of the oldest send request. -/
def qpError (s : Chip) (qpn st : Nat) : Chip := qpErrorAs s qpn st st

/-! ## Native storage queues -/

/-- The native queue, if it has been made. -/
def nqOf (s : Chip) (n : Nat) : Option NativeQ := tget? s.storage.queues n

/-- Set it. -/
def setNq (s : Chip) (n : Nat) (q : NativeQ) : Chip :=
  { s with storage := { s.storage with queues := tput s.storage.queues n q } }

/-- A storage completion (Table 16-4). -/
def wbEntry (s : Chip) (n : Nat) (q : NativeQ) (w : Wb) (flags energy : Nat) (idx ph : Nat) : Bytes :=
  leBytes 2 idx ++ leBytes 1 (ph + flags) ++ leBytes 1 w.status ++ leBytes 1 (fld w.b 2 1) ++ zeros 1
    ++ leBytes 2 (epochOf s q.owner) ++ slice w.b 8 8 ++ leBytes 2 n ++ leBytes 2 w.head ++ zeros 4 ++ leBytes 8 w.bytes
    ++ leBytes 8 energy ++ leBytes 8 (epochNs s) ++ leBytes 4 w.detail ++ zeros 12

/-- ORDERED -/
def wbOrdered (b : Bytes) : Bool := bit (fld b 3 1) 0

/-- The agent of a queue's signal adds (R486). -/
def wbSigAgent (owner : Nat) : SigAgent := if owner < 64 then .plat owner else .opn

/-- The counters of one completed waybill (OD 30.050, OD 30.080 + n). -/
def wbCount (s : Chip) (owner status : Nat) : Chip :=
  let s := odAdd64 s 0x30050 1 1
  let s := if status ≠ 0 then odAdd64 s 0x30050 4 1 else s
  let s := if status = 12 then odAdd64 s 0x30050 6 1 else s
  if owner < 64 then
    let o := 0x30080 + owner
    let s := odAdd64 s o 1 1
    let s := if status ≠ 0 then odAdd64 s o 4 1 else s
    let s := if status = 12 then odAdd64 s o 6 1 else s
    odAdd64 s o (8 + status) 1
  else s

/-- Status field of an emulated completion for an engine status (R430); the code points are NVMe's (log 58). -/
def nvStatus (st : Nat) : Nat :=
  nth [0, 0x02, 0x80, 0x02, 0x04, 0x04, 0x281, 0x06, 0x07, 0x06, 0x06, 0x06, 0x06, 0x20, 0x08, 0x82, 0x06, 0x06, 0x06, 0x06]
    (st + 1)

/-- An emulated completion queue entry: Dword 0, epoch, head and queue, command identifier with phase and status. -/
def nvEntry (s : Chip) (p dw0 head sq cid ph status : Nat) : Bytes :=
  leBytes 4 dw0 ++ leBytes 2 (epochOf s p) ++ zeros 2 ++ leBytes 2 head ++ leBytes 2 sq ++ leBytes 2 cid
    ++ leBytes 2 (ph + 2 * status)

/-- The emulated controller of a platform. -/
def nvCtl (s : Chip) (p : Nat) : NvCtl := tget ⟨[], [], [], []⟩ s.storage.ctls p

/-- Set it. -/
def setNvCtl (s : Chip) (p : Nat) (c : NvCtl) : Chip :=
  { s with storage := { s.storage with ctls := tput s.storage.ctls p c } }

/-- Complete command `cid` of I/O submission queue `sq` of a platform's controller: into its completion queue, then its
message. -/
def nvComplete (s : Chip) (p sq cid dw0 status : Nat) : Chip :=
  let c := nvCtl s p
  match tget? c.sqs sq with
  | none => s
  | some q =>
    match tget? c.cqs q.link with
    | none => s
    | some r =>
      let ph := b2n (r.tail / r.size % 2 == 0)
      let x := xferWrite s (.plat p) (r.base + 16 * (r.tail % r.size)) (nvEntry s p dw0 q.head sq cid ph status) 0 0 uStorage
        Bound.free
      let s := setNvCtl x.s p { c with cqs := tput c.cqs q.link { r with tail := r.tail + 1 } }
      if r.link = 0xFFFF then s else msixPlat s p r.link

/-- Write the completion of an ended waybill: into the queue's ring, or the emulated controller's, there once for all
waybills of one command. -/
def wbPut (s : Chip) (n : Nat) (q : NativeQ) (w : Wb) (flags energy : Nat) : Chip :=
  if w.src = 2 then
    let st := if w.status ≠ 0 then w.status else w.carry
    let same := fun (x : Wb) => x.src == 2 && x.ref == w.ref && x.seq != w.seq
    if q.wbs.any same then
      setNq s n { q with wbs := (q.wbs.filter (fun x => x.seq != w.seq)).map (fun x => if same x then { x with carry := st } else x) }
    else nvComplete s q.owner (w.ref / 65536) (w.ref % 65536) 0 (nvStatus st)
  else cqPut s q.cq uStorage (wbEntry s n q w flags energy)

/-- The ORDERED flags of a completion, [1] and [2] (R424). -/
def wbFlags (q : NativeQ) (w : Wb) : Nat :=
  if wbOrdered w.b then 2 * b2n q.ordFailed + 4 * b2n (q.fails.any (fun f => decide (f < w.seq))) else 0

/-- A queue's record of failures after a completion (R424). -/
def wbNote (q : NativeQ) (w : Wb) : NativeQ :=
  if wbOrdered w.b then
    { q with ordFailed := w.status != 0, fails := q.fails.filter (fun f => decide (w.seq < f)) }
  else if w.status ≠ 0 then { q with fails := q.fails ++ [w.seq] }
  else q

/-- A job that ran as a waybill leaves its dispatch queue (19 R493). -/
def dqDropJob (s : Chip) (id : Nat) : Chip :=
  { s with disp := { s.disp with
    dqs := s.disp.dqs.map (fun q => (q.1, { q.2 with running := q.2.running.filter (fun j => j.id != id) })) } }

/-- A waybill completes: completion entry, SIGNAL, counters, true-up (R421, R136). -/
def wbFinish (s : Chip) (n : Nat) (w : Wb) (energy : Nat) : Chip :=
  match nqOf s n with
  | none => s
  | some q =>
    let q' := wbNote { q with wbs := q.wbs.filter (fun x => x.seq != w.seq) } w
    let s := wbPut (setNq s n q') n q' w (wbFlags q w) energy
    let s := addSignal s (wbSigAgent q.owner) (fld w.b 28 2)
    let s := wbCount s q.owner w.status
    let s := if w.src = 1 then dqDropJob s w.ref else s
    if w.adm = 0 then s else jobEnd s w.adm

/-- Complete waybills with a status, in order. -/
def wbEndAll (s : Chip) (n st : Nat) : List Wb → Chip
  | [] => s
  | w :: r => wbEndAll (wbFinish s n { w with status := st } 0) n st r

/-- Fetch and complete with FLUSHED the waybills the tail covers (R417). -/
def flushPosted (s : Chip) (n : Nat) : Nat → Chip
  | 0 => s
  | k + 1 =>
    match nqOf s n with
    | none => s
    | some q =>
      if q.head = q.tail then s
      else
        let x := xferRead s (agentOf q.owner) (q.base + 64 * (q.head % 2 ^ q.log)) 64 0 0 uStorage Bound.free
        let w : Wb := ⟨q.nextSeq, slice x.bytes 0 64, 0, 0, [], 0, 0, 14, 0, 0, idxNext q.head, nowNs s, none, [], 0⟩
        let s := setNq x.s n { q with head := idxNext q.head, nextSeq := q.nextSeq + 1, wbs := q.wbs ++ [w] }
        flushPosted (wbFinish s n w 0) n k

/-- The flush of a native queue: every waybill that has not started completes FLUSHED, in ring order (R417). -/
def sqFlush (s : Chip) (n : Nat) : Chip :=
  match nqOf s n with
  | none => s
  | some q => flushPosted (wbEndAll s n 14 (q.wbs.filter (fun w => decide (w.stage < 2)))) n 65536

/-- Entry into ERROR with a cause (R417, Table 16-7): 1 doorbell, 2 index, 3 ring overrun. -/
def sqErrorEnter (s : Chip) (n cause : Nat) : Chip :=
  match nqOf s n with
  | none => s
  | some q =>
    if q.error then s
    else
      let s := sqFlush (setNq s n { q with error := true }) n
      raiseP s evSqError (if q.owner < 64 then q.owner else 0xFF) (n + cause * 65536)

/-! ## Overruns -/

/-- Queue pairs that feed a completion ring. -/
def feeders (s : Chip) (n : Nat) : List Nat :=
  (s.rdma.qps.filter (fun q => q.2.state != 0 && (qSqCq q.2 == n || qRqCq q.2 == n))).map (·.1)

/-- Native queues that feed it. -/
def nqFeeders (s : Chip) (n : Nat) : List Nat := (s.storage.queues.filter (fun q => q.2.cq == n)).map (·.1)

/-- A completion found its ring full (R393, R416). -/
def cqOverrun (s : Chip) (n : Nat) : Chip :=
  let owner := match cqOf s n with | some q => q.owner | none => 0xFF
  let s := raiseP s evCqOverrun (if owner < 64 then owner else 0xFF) n
  let s := (feeders s n).foldl (fun s q => qpError s q 8) s
  (nqFeeders s n).foldl (fun s q => sqErrorEnter s q 3) s

/-- The ring of a completion exists and is full. -/
def cqIsFull (s : Chip) (n : Nat) : Bool := (cqOf s n).any cqFull

/-- Write a completion of a queue pair; on a full ring it is not written, and every feeder goes to ERROR. -/
def qpComplete (s : Chip) (qpn : Nat) (recv : Bool) (status opcode wrid bytes imm orig : Nat) : Chip :=
  let q := qpOf s qpn
  let n := if recv then qRqCq q else qSqCq q
  if cqIsFull s n then cqOverrun s n else qpPut s qpn recv status opcode wrid bytes imm orig

/-- A waybill completes; on a full ring its entry is not written and the feeders go to ERROR (R416). -/
def wbComplete (s : Chip) (n : Nat) (w : Wb) (energy : Nat) : Chip :=
  match nqOf s n with
  | none => s
  | some q =>
    let full := w.src != 2 && cqIsFull s q.cq
    let s := wbFinish s n w energy
    if full then cqOverrun s q.cq else s

/-- DB_CQ (R393): the consumer index of a ring; [31] arms it. -/
def dbCq (s : Chip) (n idx : Nat) (arm : Bool) : Chip :=
  match cqOf s n with
  | none => s
  | some q => setCq s n { q with cons := idx % 65536, armed := arm }

end Sys2Proof.Machine
end

