-- ==== Sys2Proof/Machine/FrameDecode.lean ====
section
/-! DEFINITION. The frame decode unit (20): checks of a job (R507), its engine and profile at issue (R506, R511), selected
frames (R509 to R513), the record area, and its end (R512, R514, Table 20-7). What the codec finds in the stream is an
operand. -/
namespace Sys2Proof.Machine

/-! ## Job fields (Table 20-3) -/

/-- SAMPLE policy. -/
def dSample (b : Bytes) : Nat := fld b 4 1
/-- OUT -/
def dOut (b : Bytes) : Nat := fld b 5 1
/-- Format code of OUT. -/
def dFmt (b : Bytes) : Nat := dOut b % 16
/-- Channels of a tensor: 3, or 1 for luma only. -/
def dChannels (b : Bytes) : Nat := if bit (dOut b) 5 then 1 else 3
/-- MAX_FRAMES -/
def dMax (b : Bytes) : Nat := fld b 30 2
/-- SAMPLE_N -/
def dN (b : Bytes) : Nat := fld b 28 2
/-- SRC, SRC_LEN -/
def dSrc (b : Bytes) : Nat × Nat := (fld b 16 8, fld b 24 4)
/-- DST -/
def dDst (b : Bytes) : Nat := fld b 32 8
/-- FRAME_STRIDE -/
def dStride (b : Bytes) : Nat := fld b 40 4
/-- META -/
def dMeta (b : Bytes) : Nat := fld b 48 8
/-- PROC -/
def dProc (b : Bytes) : Nat := fld b 44 1

/-- A processing profile (Table 20-5). -/
def profile (s : Chip) (p : Nat) : Bytes := odB s (0x52100 + p / 16) (p % 16 + 1)
/-- OUT_W, OUT_H of a profile. -/
def profSize (p : Bytes) : Nat × Nat := (fld p 8 2, fld p 10 2)

/-- Bytes of one tensor. -/
def tensorBytes (b p : Bytes) : Nat := (profSize p).1 * (profSize p).2 * dChannels b * (fmtBits (dFmt b) / 8)

/-- A job completes with INVALID (R507). -/
def decodeBad (s : Chip) (d : Nat) (b : Bytes) : Bool :=
  let p := profile s (dProc b)
  let src := dSrc b
  fld b 0 1 != 0x40 || fld b 1 1 % 2 != 0 || decide (16 ≤ fld b 1 1) || !platPermitted s d (jPlat b)
  || !(decide (1 ≤ fld b 3 1) && decide (fld b 3 1 ≤ 4)) || decide (3 < dSample b) || decide (64 ≤ dOut b)
  || !(decide (1 ≤ dFmt b) && decide (dFmt b ≤ 4)) || decide (2048 ≤ jKet b) || src.2 == 0 || decide (2 ^ 31 < src.2)
  || dN b == 0 || dMax b == 0 || decide (1024 < dMax b) || dDst b % 64 != 0 || dStride b % 64 != 0
  || decide (64 ≤ dProc b) || fld b 45 3 != 0 || fld b 56 8 != 0 || dMeta b % 64 != 0 || !bit (fld p 15 1) 0
  || decide (dStride b < tensorBytes b p)
  || overlap src (dDst b, dMax b * dStride b) || overlap src (dMeta b, 16 + 16 * dMax b)
  || overlap (dDst b, dMax b * dStride b) (dMeta b, 16 + 16 * dMax b)

/-- Units of a decode job: frames (R508). -/
def decodeUnits (b : Bytes) : Nat := min (dMax b * (if dSample b = 1 then dN b else 1)) 4096

/-! ## Engines -/

/-- Unit number of decode engine `e`. -/
def decodeUnit (e : Nat) : Nat := 0xB000 + e

/-- OD 52.001: 0 idle, 1 busy, 2 fenced, 3 retired. -/
def setDecodeState (s : Chip) (e v : Nat) : Chip := odSet s 0x52001 (e + 1) v

/-- An engine's job has ended. -/
def freeEngine (s : Chip) (e : Nat) : Chip :=
  if odN s 0x52001 (e + 1) = 1 then setDecodeState s e (if fenced s (decodeUnit e) then 2 else 0) else s

/-- The lowest-numbered idle engine in service (R506). -/
def idleEngine (s : Chip) : Option Nat :=
  (List.range 16).find? (fun e => odN s 0x52001 (e + 1) != 1 && !fenced s (decodeUnit e) && !retired s (decodeUnit e))

/-- Every engine is retired (R516). -/
def enginesGone (s : Chip) : Bool := (List.range 16).all (fun e => retired s (decodeUnit e))

/-- The run of a job. -/
def decRun (s : Chip) (d id : Nat) : Option DecRun := s.engines.decodes.find? (fun r => r.dq == d && r.job == id)

/-- Change a run. -/
def setDecRun (s : Chip) (r : DecRun) : Chip :=
  { s with engines := { s.engines with
    decodes := s.engines.decodes.map (fun x => if x.dq == r.dq && x.job == r.job then r else x) } }

/-- A job is issued to an engine, with its profile as it stands (R506, R511). -/
def decodeIssue (s : Chip) (d : Nat) (j : DqJob) (e : Nat) : Chip :=
  let r : DecRun := ⟨d, j.id, e, profile s (dProc j.b), [], false, 0, 0, 0, none, [0, 0, 0, 0, 0]⟩
  setDecodeState { s with engines := { s.engines with decodes := s.engines.decodes ++ [r] } } e 1

/-- A decode job of platform or domain. -/
def decodeAgent (s : Chip) (d : Nat) (b : Bytes) : Agent := jobAgent s d (jPlat b)

/-- DECODE: the engine of an issued job reads its stream (R507); what was read before a refused or poisoned byte can still be
decoded (R514). -/
def decodeRead (s : Chip) (d id : Nat) : Chip :=
  match dqJob s d id, decRun s d id with
  | some j, some r =>
    if r.read ∨ j.done.isSome then s
    else
      let x := xferRead s (decodeAgent s d j.b) (dSrc j.b).1 (dSrc j.b).2 0 0 (decodeUnit r.engine) ⟨0, 2 ^ 64, .tiers⟩
      setDecRun x.s { r with stream := x.bytes, read := true, fail := xferStatus x.st }
  | _, _ => s

/-- DECODE. -/
def execDecode (d id : Nat) (s : State) : Host.Outcome State Fault Refusal := run s (fun c => decodeRead c d id)

/-! ## Frames -/

/-- The policy selects the frame (Table 20-4). -/
def selects (b : Bytes) (n : Nat) (key : Bool) : Bool :=
  match dSample b with
  | 0 => true
  | 1 => n % dN b == 0
  | 2 => key
  | _ => decide (n < dN b)

/-- The crop of a profile clipped to the picture: X, Y, W, H (R510 step 1). -/
def cropOf (p : Bytes) (w h : Nat) : Nat × Nat × Nat × Nat :=
  if fld p 4 2 = 0 then (0, 0, w, h)
  else
    let x := min (fld p 0 2) w
    let y := min (fld p 2 2) h
    (x, y, min (fld p 4 2) (w - x), min (fld p 6 2) (h - y))

/-- A value of the resized image: within [0, 1] unless a bicubic filter or luma alone can leave it (R510 steps 2 to 5). -/
def pixelVal (stream : Bytes) (resize : Nat) (luma : Bool) (key : List Nat) : Fv :=
  let x := Config.pixel stream key
  decodeFv 0 (if resize ≤ 1 ∧ !luma then x % 0x3F800001 else x % 2 ^ 32)

/-- Step 6 and 7: (v − MEAN) × SCALE, converted to the OUT format. -/
def pixelOut (b p : Bytes) (c : Nat) (v : Fv) : Nat :=
  let mean := decodeFv 0 (fld p (16 + 4 * c) 4)
  let scale := decodeFv 0 (fld p (28 + 4 * c) 4)
  (convFloat (dFmt b) (jSat b) (r32 (fvMul (r32 (fvAdd v (fvNeg mean))) scale))).raw

/-- The tensor of a frame: CHW or HWC, packed. -/
def tensor (b p stream : Bytes) (frame : Nat) (colour : List Nat) (crop : Nat × Nat × Nat × Nat) : Bytes :=
  let w := (profSize p).1
  let h := (profSize p).2
  let luma := bit (dOut b) 5
  let at_ := fun c y x => pixelOut b p c (pixelVal stream (fld p 12 1) luma
    ([frame, c, y, x, crop.1, crop.2.1, crop.2.2.1, crop.2.2.2, w, h, fld p 12 1, b2n luma] ++ colour))
  let chans := List.range (dChannels b)
  let l := if bit (dOut b) 4 then
      (List.range h).flatMap (fun y => (List.range w).flatMap (fun x => chans.map (fun c => at_ c y x)))
    else chans.flatMap (fun c => (List.range h).flatMap (fun y => (List.range w).map (fun x => at_ c y x)))
  packPlane (dFmt b) l

/-- A record of Table 20-6. -/
def frameRecord (n reason flags w h : Nat) : Bytes :=
  leBytes 4 n ++ leBytes 1 reason ++ leBytes 1 flags ++ leBytes 4 (w + h * 65536) ++ zeros 6

/-- One more skip of reason 1 to 5. -/
def addSkip (l : List Nat) (reason n : Nat) : List Nat :=
  l.zipIdx.map (fun x => if x.2 + 1 = reason then x.1 + n else x.1)

/-- An engine's write for a job: near tier or any staging SRAM (R507). -/
def decodeWrite (s : Chip) (d : Nat) (b : Bytes) (e a : Nat) (v : Bytes) : Xfer :=
  xferWrite s (decodeAgent s d b) a v (jHint b) 0 (decodeUnit e) ⟨0, 2 ^ 64, .local_⟩

/-- Matrix and range in force: the profile's, else the stream's, else the defaults of OD 52.020, OD 52.021 (R510). -/
def colourOf (s : Chip) (p : Bytes) (sigMatrix sigRange : Nat) : List Nat :=
  [if fld p 13 1 ≠ 0 then fld p 13 1 else if sigMatrix ≠ 0 then sigMatrix else odN s 0x52020 0,
   if fld p 14 1 ≠ 0 then fld p 14 1 else if sigRange ≠ 0 then sigRange else odN s 0x52021 0]

/-- A selected frame (R512): its tensor, its record, its add. `reason` is the codec's: 0, 1, 2, 3 or 5; an empty crop is 4. -/
def frameDone (s : Chip) (d id n w h : Nat) (key grain ten : Bool) (reason sigMatrix sigRange : Nat) : Chip :=
  match dqJob s d id, decRun s d id with
  | some j, some r =>
    if !r.read ∨ j.done.isSome ∨ !selects j.b n key ∨ dMax j.b ≤ r.recs ∨ r.lastFrame.any (fun m => decide (n ≤ m)) then s
    else
      let crop := cropOf r.profile w h
      let reason := if reason = 0 ∧ (crop.2.2.1 = 0 ∨ crop.2.2.2 = 0) then 4 else reason
      let slot := dDst j.b + r.recs * dStride j.b
      let x := if reason = 0 then
          decodeWrite s d j.b r.engine slot (tensor j.b r.profile r.stream n (colourOf s r.profile sigMatrix sigRange) crop)
        else ⟨0, [], 0, s⟩
      if x.st ≠ 0 then setDecRun x.s { r with read := false, fail := xferStatus x.st }
      else
        let y := decodeWrite x.s d j.b r.engine (dMeta j.b + 16 + 16 * r.recs)
          (frameRecord n reason (b2n key + 2 * b2n grain + 4 * b2n ten) w h)
        if y.st ≠ 0 then setDecRun y.s { r with read := false, fail := xferStatus y.st }
        else
          let s := setDecRun y.s { r with
            recs := r.recs + 1, written := r.written + b2n (reason == 0), lastFrame := some n
            skips := addSkip r.skips reason 1 }
          addSignal s (dqSigAgent s d j.b) (fld j.b 10 2)
  | _, _ => s

/-- FRAME_RECORD: a selected frame finishes; frame number, size, and what the codec says of it. -/
def execFrameRecord (d id n w h : Nat) (key grain ten : Bool) (reason sigMatrix sigRange : Nat) (s : State) :
    Host.Outcome State Fault Refusal :=
  run s (fun c => frameDone c d id n w h key grain ten reason sigMatrix sigRange)

/-! ## The end of a job -/

/-- The status of a job that met no fault (Table 20-7). -/
def decodeStatus (r : DecRun) (noPoint : Bool) : Nat :=
  if r.written = 0 then (if noPoint then 0x10 else 0x12) else if r.written < r.recs then 0x11 else 0

/-- The counters of OD 52.010 or OD 52.080 + n. -/
def decodeCount (s : Chip) (o recon written : Nat) (skips : List Nat) : Chip :=
  let s := odAdd64 (odAdd64 (odAdd64 s o 1 1) o 2 recon) o 3 written
  skips.zipIdx.foldl (fun s x => if x.1 = 0 then s else odAdd64 s o (4 + x.2) x.1) s

/-- The header of the record area. -/
def decodeHeader (r : DecRun) (recon : Nat) (skips : List Nat) : Bytes :=
  leBytes 2 r.recs ++ leBytes 2 r.written ++ leBytes 4 recon ++ leBytes 4 (nth skips 1 + nth skips 2)
    ++ leBytes 4 (nth skips 3 + nth skips 4 + nth skips 5)

/-- The end of a decode run: header, counters, events; the engine is idle again. Result: what the completion says.
`extra` are the frames skipped without a record, by reason 1 to 5. -/
def decodeEnd (s : Chip) (d : Nat) (j : DqJob) (r : DecRun) (recon : Nat) (extra : List Nat) (noPoint : Bool) :
    DqDone × Chip :=
  let skips := (List.range 5).map (fun i => nth r.skips (i + 1) + extra.getD i 0)
  let x := decodeWrite s d j.b r.engine (dMeta j.b) (decodeHeader r recon skips)
  let st := if r.fail ≠ 0 then r.fail else if x.st ≠ 0 then xferStatus x.st else decodeStatus r noPoint
  let s := decodeCount x.s 0x52010 recon r.written skips
  let s := if jPlat j.b < 64 then decodeCount s (0x52080 + jPlat j.b) recon r.written skips else s
  let s := if (st = 0x11 ∨ st = 0x12) ∧ odN s 0x52022 0 = 1 then
      raiseP s evDecodeSkips (jPlat j.b) (nth skips 1 + nth skips 2 + (nth skips 3 + nth skips 4 + nth skips 5) * 2 ^ 32)
    else s
  let s := freeEngine s r.engine
  (⟨st, 0, r.written * tensorBytes j.b r.profile, recon⟩,
   { s with engines := { s.engines with decodes := s.engines.decodes.filter (fun y => !(y.dq == d && y.job == j.id)) } })

/-- Rules on values written to group 52: an ENABLED profile has every field within Table 20-5. -/
def checkDecode (obj : Nat) (v : Bytes) : Nat :=
  if 0x52100 ≤ obj ∧ obj ≤ 0x52103 then
    let dim := fun n => decide (16 ≤ n) && decide (n ≤ 2048)
    if 2 ≤ fld v 15 1 ∨ fld v 40 8 ≠ 0 then eRange
    else if !bit (fld v 15 1) 0 then eOk
    else if fld v 0 2 % 2 ≠ 0 ∨ fld v 2 2 % 2 ≠ 0 ∨ fld v 4 2 % 2 ≠ 0 ∨ fld v 6 2 % 2 ≠ 0 ∨ !dim (fld v 8 2) ∨ !dim (fld v 10 2)
        ∨ 2 < fld v 12 1 ∨ 3 < fld v 13 1 ∨ 2 < fld v 14 1 then eRange
    else eOk
  else eOk

end Sys2Proof.Machine
end

