-- ==== Sys2Proof/Machine/Banks.lean ====
section
/-! DEFINITION. Weight banks (22 Table 22-1) as other engines see them: where they lie, the queue pairs a load holds. -/
namespace Sys2Proof.Machine

/-- Record of bank `b`. -/
def bankRec (s : Chip) (b : Nat) : Bytes := odB s 0x54040 (b + 1)
/-- BASE -/
def bankBase (r : Bytes) : Nat := fld r 0 8
/-- LENGTH -/
def bankLen (r : Bytes) : Nat := fld r 8 8
/-- The bank is an addition pool. -/
def bankPool (r : Bytes) : Bool := bit (fld r 24 1) 0
/-- OD 54.041: 0 EMPTY, 1 LOADING, 2 LOADED, 3 FAILED. -/
def bankState (s : Chip) (b : Nat) : Nat := odN s 0x54041 (b + 1)
/-- Set it. -/
def setBankState (s : Chip) (b v : Nat) : Chip := odSet s 0x54041 (b + 1) v

/-- The bank that holds an address. -/
def bankAt (s : Chip) (a : Nat) : Option Nat :=
  (List.range 16).find? (fun b => decide (bankBase (bankRec s b) ≤ a) && decide (a < bankBase (bankRec s b) + bankLen (bankRec s b)))

/-- A granule retired in place damages the bank it lies in (22 R555). -/
def bankDamage (s : Chip) (g : Nat) : Chip :=
  match bankAt s (g * granule) with
  | none => s
  | some b => raise (setBankState s b 3) evWeightBankDamaged (b + 256 * g)

/-- The running load holds the queue pair (22 R541). -/
def loadHolds (s : Chip) (qpn : Nat) : Bool :=
  s.weights.load.any (fun l => l.entries.any (fun e => fld e 0 1 == 3 && fld e 4 4 == qpn))

end Sys2Proof.Machine
end

