-- ==== Sys2Proof/Machine/Cursors.lean ====
section
/-! DEFINITION. Delivery of events: records, cursors (03 R100, R101), ALERT_N (R102) and the event rings of mailboxes
(10 R285). -/
namespace Sys2Proof.Machine

/-- An event record (Table 3-6a). -/
def eventBytes (e : Event) : Bytes :=
  leBytes 4 e.seq ++ leBytes 8 e.time ++ leBytes 2 e.code ++ leBytes 1 e.cls ++ leBytes 1 (if e.sealedOnly then 0x80 else 0)
    ++ leBytes 2 (e.obj % 4096) ++ leBytes 1 (e.obj / 4096) ++ leBytes 1 e.objSub ++ leBytes 1 e.plat ++ zeros 1
    ++ leBytes 2 e.unit ++ leBytes 8 e.arg

/-- Set a path's cursor. -/
def setCursor (s : Chip) (path : Path) (v : Nat) : Chip :=
  let p := cursorPath path
  { s with sl := { s.sl with cursors := (p, v) :: s.sl.cursors.filter (fun c => c.1 != p) } }

/-- The record EVENTS_LOST that a read begins with (R101): its SEQ is open. -/
def lostRecord (s : Chip) (d : Dom) (skipped : Nat) : Event × Chip :=
  let f := takeFree s 32
  (⟨f.1, epochNs s, evEventsLost.code, evEventsLost.cls, false, 0, 0, d.platByte, 0xFFFF, skipped⟩, f.2)

/-- Up to `n` records the domain may receive, oldest first, and how many records the cursor passes. -/
def collect (d : Dom) : Nat → List Event → List Event × Nat
  | 0, _ => ([], 0)
  | _, [] => ([], 0)
  | n + 1, e :: r =>
    if mayReceive d e then
      let x := collect d n r
      (e :: x.1, x.2 + 1)
    else
      let x := collect d (n + 1) r
      (x.1, x.2 + 1)

/-- A read of up to `n` records from a path's cursor onward, which advances it (R101). -/
def readEvents (s : Chip) (path : Path) (d : Dom) (n : Nat) : List Event × Chip :=
  if n = 0 then ([], s) else
  let held := s.events.length
  let k := behind s path
  if held < k then
    let l := lostRecord s d (k - held)
    let x := collect d (n - 1) s.events.reverse
    let s := odSet l.2 0x01123 0 ((odN l.2 0x01123 0 + (k - held)) % 2 ^ 32)
    (l.1 :: x.1, setCursor s path ((cursorOf s path + (k - held) + x.2) % 2 ^ 32))
  else
    let x := collect d n (s.events.take k).reverse
    (x.1, setCursor s path ((cursorOf s path + x.2) % 2 ^ 32))

/-- The path of a mailbox. -/
def mbxPath (m : Nat) : Path := if m < 64 then .plat m else .pf0

/-- The domain of a mailbox (Table 3-2). -/
def mbxDom (m : Nat) : Dom := if m < 64 then .plat m else .opn

/-- Write event entries one after another; a translation fault stops the mailbox (R283). -/
def evtWrite (s : Chip) (m : Nat) : List Event → Chip
  | [] => s
  | e :: r =>
    let x := mbxOf s m
    if x.state ≠ 1 then s else
    let n := mbxEvtEntries x
    let b := ringEntry s m x.evtProd n 0 0 32 [] (eventBytes e) 0xFF
    let w := mbxWrite s m (x.evtBase + 64 * (x.evtProd % n)) b
    if w.st ≠ 0 then mbxError w.s m 2
    else evtWrite (setMbx w.s m { mbxOf w.s m with evtProd := (x.evtProd + 1) % 65536 }) m r

/-- The event ring of a running mailbox is filled from its path's cursor as far as it has free slots (R285); one MSI-X
message for the group (R281). -/
def evtPump (s : Chip) (m : Nat) : Chip :=
  let x := mbxOf s m
  if x.state ≠ 1 ∨ gateClosed s m then s else
  let free := mbxEvtEntries x - (x.evtProd + 65536 - x.evtHead) % 65536
  let r := readEvents s (mbxPath m) (mbxDom m) free
  if r.1.isEmpty then r.2
  else mbxMsix (evtWrite r.2 m r.1) m (x.vec / 65536)

/-- Every mailbox's event ring. -/
def pumpAll (s : Chip) : Chip := (List.range 65).foldl evtPump s

end Sys2Proof.Machine
end

