-- ==== Sys2Proof/Machine/Mailboxes.lean ====
section
/-! DEFINITION. Mailboxes (10 R281 to R285): doorbells, descriptors, messages, registers. Mailbox 64 is PF0's. -/
namespace Sys2Proof.Machine

/-- A doorbell discarded in reset is counted in OD 10.180 + n:3. -/
def gateDiscard (s : Chip) (m : Nat) : Chip := platCount s m 3

/-- Fetched descriptors not yet processed are those without a SEQ behind them. -/
def unprocessed (x : Mbx) : List Bytes := x.fetched.filter (fun d => d.length == 64)

/-- Fetch descriptors in index order (R282): while fewer than 8 requests wait on the path, and with a free answer slot
reserved for each. -/
def mbxFetch (s : Chip) (m : Nat) : Nat → Chip
  | 0 => s
  | k + 1 =>
    let x := mbxOf s m
    let waits := (s.sl.waiting.filter (fun q => q.1.path == mbxPath m)).length + (unprocessed x).length
    if x.state ≠ 1 ∨ gateClosed s m ∨ x.head = x.db ∨ 8 ≤ waits ∨ ansFree x = 0 then s
    else
      let r := mbxRead s m (x.reqBase + 64 * (x.head % mbxEntries x)) 64
      if r.st ≠ 0 then mbxError r.s m 2
      else
        let y := mbxOf r.s m
        mbxFetch (setMbx r.s m { y with head := (y.head + 1) % 65536, fetched := y.fetched ++ [r.bytes] }) m k

/-- DB_MBX (R282, R283). -/
def mbxDoorbell (s : Chip) (m idx : Nat) : Chip :=
  let x := mbxOf s m
  if gateClosed s m then gateDiscard s m
  else if x.state ≠ 1 then s
  else if mbxEntries x < (idx + 65536 - x.head) % 65536 then mbxError s m 1
  else mbxFetch (setMbx s m { x with db := idx % 65536 }) m 8

/-- A write of a mailbox register through BAR0: after a FATAL error it is discarded and counted (24 R600). -/
def mbxBar (s : Chip) (m : Nat) (f : Chip → Chip) : Chip :=
  if s.boot.fatal then odInc s 0x11051 ((if m < 64 then linkOfPlat s m else 0) + 1) else f s

/-- MAILBOX_DOORBELL: with it the event ring is looked after (R285, log 35). -/
def execMailboxDoorbell (m idx : Nat) (s : State) : Host.Outcome State Fault Refusal :=
  run s (fun c => if m ≤ 64 then mbxBar c m (fun c => evtPump (mbxDoorbell c m idx) m) else c)

/-- A reserved field set, or DEST or LENGTH out of range (R283, Table 10-6); only PF0 may send DEST 2 (R284). -/
def badDesc (m : Nat) (d : Bytes) : Bool :=
  let dest := fld d 2 1
  let len := fld d 4 2
  fld d 6 2 != 0 || fld d 56 8 != 0 || decide (2 < dest) || (dest != 2 && fld d 3 1 != 0)
    || (dest == 2 && (m != 64 || decide (64 ≤ fld d 3 1)))
    || (if dest == 0 then decide (len < 16) || decide (1500 < len) || !isZero ((d.drop 32).take 24) else decide (40 < len))

/-- The next fetched descriptor, where it has the row's DEST or is bad. -/
def mbxNext (s : Chip) (m dest : Nat) (f : Chip → Bytes → Chip) : Chip :=
  let x := mbxOf s m
  if x.state ≠ 1 ∨ gateClosed s m then s
  else
    match (unprocessed x).head? with
    | none => s
    | some d =>
      if badDesc m d then mbxFetch (mbxReply s m d 2 0) m 8
      else if fld d 2 1 = dest then mbxFetch (f s d) m 8
      else s

/-- The descriptor is processed: its SEQ stands behind it until it is answered. -/
def mbxMark (s : Chip) (m : Nat) (d : Bytes) (seq : Nat) : Chip :=
  let x := mbxOf s m
  setMbx s m { x with fetched := x.fetched.map (fun e => if e == d then d ++ leBytes 2 seq else e) }

/-- A DEST 0 request (R282, R126): while the platform is DISABLED it is answered not-ready. -/
def mbxOdRequest (s : Chip) (m : Nat) (d : Bytes) : Chip :=
  let r := mbxRead s m (fld d 16 8) (fld d 4 2)
  if r.st ≠ 0 then mbxReply r.s m d 4 0
  else
    let seq := fld r.bytes 4 2
    let s := mbxMark r.s m d seq
    if m < 64 ∧ platState s m = 0 then
      sendAnswer s ⟨mbxPath m, seq, 0, false, false⟩ (some (fld r.bytes 2 1)) ⟨eNotReady, 0, []⟩
    else intakeLocal s (mbxPath m) r.bytes

/-- MBX_OD_REQUEST. -/
def execMbxOdRequest (m : Nat) (s : State) : Host.Outcome State Fault Refusal :=
  run s (fun c => if m ≤ 64 then mbxNext c m 0 (fun c d => mbxOdRequest c m d) else c)

/-- PF0 takes no message: PERST# on HP0, or its mailbox is not running (R284). -/
def managerAbsent (s : Chip) : Bool := perstOn s 0 || (mbxOf s 64).state != 1

/-- Entries of PF0's forward ring. -/
def fwdEntries (x : Mbx) : Nat := 2 ^ (x.fwdSize % 16)

/-- A DEST 1 message is copied into PF0's forward ring, with FROM stamped (R284). A DISABLED platform forwards nothing;
what it is told is open. -/
def mbxToManager (s : Chip) (m : Nat) (d : Bytes) : Chip :=
  if m < 64 ∧ platState s m = 0 then
    let f := takeFree s 8
    mbxReply f.2 m d f.1 0
  else if managerAbsent s then mbxReply s m d 1 0
  else
    let x := mbxOf s 64
    let n := fwdEntries x
    if n ≤ (x.fwdProd + 65536 - x.fwdHead) % 65536 then mbxReply s m d 6 0
    else
      let e := ringEntry s m x.fwdProd n 2 0 (fld d 4 2) (slice d 8 8) (slice d 16 (fld d 4 2)) (if m < 64 then m else 0xFF)
      let w := mbxWrite s 64 (x.fwdBase + 64 * (x.fwdProd % n)) e
      if w.st ≠ 0 then mbxReply (mbxError w.s 64 2) m d 1 0
      else
        let s := setMbx w.s 64 { mbxOf w.s 64 with fwdProd := (x.fwdProd + 1) % 65536 }
        mbxReply (mbxMsix s 64 (x.vec % 65536)) m d 0 0

/-- MBX_TO_MANAGER. -/
def execMbxToManager (m : Nat) (s : State) : Host.Outcome State Fault Refusal :=
  run s (fun c => if m ≤ 64 then mbxNext c m 1 (fun c d => mbxToManager c m d) else c)

/-- A DEST 2 message from PF0 goes into the target's answer ring with FLAGS[1] set (R284). -/
def mbxToPlatform (s : Chip) (d : Bytes) : Chip :=
  let n := fld d 3 1
  if !platOn s n then mbxReply s 64 d 3 0
  else if (mbxOf s n).state ≠ 1 ∨ ansFree (mbxOf s n) = 0 then mbxReply s 64 d 5 0
  else
    let s := ansWrite s n 2 0 (fld d 4 2) (slice d 8 8) (slice d 16 (fld d 4 2))
    mbxReply s 64 d (if (mbxOf s n).state = 1 then 0 else 5) 0

/-- MBX_TO_PLATFORM. -/
def execMbxToPlatform (s : State) : Host.Outcome State Fault Refusal :=
  run s (fun c => mbxNext c 64 2 mbxToPlatform)

/-- A register write that is discarded is counted in OD 10.180 + n:4 (R283). -/
def mbxDiscard (s : Chip) (m : Nat) : Chip := platCount s m 4

/-- A write of a mailbox register by offset (Table 10-5, R283). Values a register does not take are discarded as those of a
running mailbox are. -/
def mbxRegWrite (s : Chip) (m off v : Nat) : Chip :=
  let x := mbxOf s m
  let cfg (y : Mbx) (ok : Bool) : Chip := if x.enable || !ok then mbxDiscard s m else setMbx s m y
  if gateClosed s m then gateDiscard s m
  else
    match off with
    | 0x00 => cfg { x with reqBase := v } (v % 4096 == 0)
    | 0x08 => cfg { x with ansBase := v } (v % 4096 == 0)
    | 0x10 => cfg { x with evtBase := v } (v % 4096 == 0)
    | 0x18 => cfg { x with size := v } (decide (v < 256) && decide (3 ≤ v % 16) && decide (v % 16 ≤ 10)
        && decide (4 ≤ v / 16) && decide (v / 16 ≤ 12))
    | 0x1C =>
      if v % 2 = 0 then setMbx s m { x with enable := false, state := 0, fetched := [] }
      else if x.enable then s
      else setMbx s m { x with
        enable := true, state := 1, db := 0, head := 0, ansHead := 0, ansProd := 0, evtHead := 0, evtProd := 0,
        fwdHead := 0, fwdProd := 0, fetched := [] }
    | 0x24 => mbxDoorbell s m (v % 65536)
    | 0x2C => mbxFetch (setMbx s m { x with ansHead := v % 65536 }) m 8
    | 0x30 => setMbx s m { x with evtHead := v % 65536 }
    | 0x34 => setMbx s m { x with vec := v % 2 ^ 32 }
    | 0x38 => if m = 64 then cfg { x with fwdBase := v } (v % 4096 == 0) else mbxDiscard s m
    | 0x40 => if m = 64 then cfg { x with fwdSize := v } (decide (3 ≤ v) && decide (v ≤ 10)) else mbxDiscard s m
    | 0x44 => if m = 64 then setMbx s m { x with fwdHead := v % 65536 } else mbxDiscard s m
    | _ => mbxDiscard s m

/-- MBX_CTRL_WRITE: a write of a register of the block, MBX_CTRL at 0x1C. -/
def execMbxCtrlWrite (m off val : Nat) (s : State) : Host.Outcome State Fault Refusal :=
  run s (fun c => if m ≤ 64 then mbxBar c m (fun c => evtPump (mbxRegWrite c m off val) m) else c)

/-- MBX_EVT_HEAD_WRITE (R285). -/
def execMbxEvtHeadWrite (m idx : Nat) (s : State) : Host.Outcome State Fault Refusal :=
  run s (fun c => if m ≤ 64 then mbxBar c m (fun c => evtPump (mbxRegWrite c m 0x30 idx) m) else c)

/-- MBX_STATUS as it reads (Table 10-5). -/
def mbxStatus (s : Chip) (m : Nat) : Nat :=
  mbxEpoch s m * 65536 + (if s.boot.fatal then 2 else (mbxOf s m).state) * 256 + (if m < 64 then platState s m else 0)

end Sys2Proof.Machine
end

