-- ==== Sys2Proof/Machine/Images.lean ====
section
/-! DEFINITION. Image headers (06 Table 6-7, R183), signature blocks (07 Table 7-2, R189) and measurements (07 R193). -/
namespace Sys2Proof.Machine

/-- Header fields. -/
def imgKind (b : Bytes) : Nat := fld b 6 2
/-- VERSION -/
def imgVersion (b : Bytes) : Nat := fld b 8 4
/-- SECURITY_VERSION -/
def imgSecurity (b : Bytes) : Nat := fld b 12 4
/-- LOAD_OFFSET -/
def imgLoad (b : Bytes) : Nat := fld b 16 4
/-- BODY_LENGTH -/
def imgLength (b : Bytes) : Nat := fld b 20 4
/-- ENTRY -/
def imgEntry (b : Bytes) : Nat := fld b 24 4
/-- The body follows the 128 bytes of the header (log 32). -/
def imgBody (b : Bytes) : Bytes := (b.drop 128).take (imgLength b)

/-- MAGIC, FORMAT, kind, reserved fields, HEADER_CRC and BODY_DIGEST check (R183). -/
def headerOk (b : Bytes) (kind : Nat) : Bool :=
  decide (128 ≤ b.length) && fld b 0 4 == 0x474D494E && fld b 4 2 == 1 && imgKind b == kind && fld b 28 4 == 0
    && isZero ((b.drop 88).take 36) && fld b 124 4 == crc32 (b.take 124) && decide (128 + imgLength b ≤ b.length)
    && (b.drop 32).take 48 == sha384 (imgBody b)

/-- The body fits in I-space and ENTRY lies in it, a multiple of 4 (08 R221). -/
def layoutOk (b : Bytes) : Bool :=
  decide (imgLoad b + imgLength b ≤ 262144) && decide (imgLoad b ≤ imgEntry b)
    && decide (imgEntry b < imgLoad b + imgLength b) && imgEntry b % 4 == 0

/-- The hash pair held for a key class and index (R189): fused for classes 0 and 2, OD 04.032 for class 1. -/
def hashPair (s : Chip) (cls idx : Nat) : Bytes :=
  if cls = 0 then tget (zeros 96) s.sec.bootKeys idx
  else if cls = 1 then odB s 0x04032 (idx + 1)
  else tget (zeros 96) s.sec.debugKeys idx

/-- The key has been revoked (OD 04.003); code keys are not revoked but cleared. -/
def keyRevoked (s : Chip) (cls idx : Nat) : Bool :=
  if cls = 0 then bit (odN s 0x04003 0) idx else if cls = 2 then bit (odN s 0x04003 0) (4 + idx) else false

/-- A signature block is valid for a class (R189); `sigs` is the verdict of the two signature verifications. -/
def sigBlockOk (s : Chip) (cls : Nat) (k : Bytes) (sigs : Bool) : Bool :=
  let idx := fld k 5 1
  k.length == 7420 && fld k 0 4 == 0x4749534E && fld k 4 1 == cls && decide (idx ≤ 3) && fld k 6 2 == 0
    && fld k 7323 1 == 0 && !keyRevoked s cls idx
    && sha384 ((k.drop 8).take 2592) ++ sha384 ((k.drop 2600).take 96) == hashPair s cls idx && sigs

/-- The signature block of an image. -/
def imgSig (b : Bytes) : Bytes := (b.drop (fld b 80 4)).take (fld b 84 4)

/-- An image's check: 0 passes, 1 header, 2 signature, 3 security version, 4 layout (08 Table 8-10). -/
def imageCheck (s : Chip) (b : Bytes) (kind cls minSec : Nat) (sigs : Bool) : Nat :=
  if !headerOk b kind then 1
  else if !sigBlockOk s cls (imgSig b) sigs then 2
  else if imgSecurity b < minSec then 3
  else if (kind == 4 || layoutOk b) then 0 else 4

/-- An extension: MR := SHA-384(MR ‖ value) (R193). -/
def extendMr (s : Chip) (mr : Nat) (v : Bytes) : Chip :=
  odSetB s 0x04010 (mr + 1) (sha384 (odB s 0x04010 (mr + 1) ++ v))

/-- MIN_SECURITY in force: the descriptor field or the fused floor (R190). -/
def minSecurity (s : Chip) (desc : Bytes) : Nat := max (fld desc 20 4) (odN s 0x04005 0)

/-- I-space words of a body placed at an offset; every other word reads 0 (08 R222). -/
def placeWords : Nat → Nat → Bytes → Table W32
  | 0, _, _ => []
  | n + 1, i, b =>
    if b = [] then []
    else
      let w := BitVec.ofNat 32 (fld b 0 4)
      if w = 0 then placeWords n (i + 1) (b.drop 4) else (i, w) :: placeWords n (i + 1) (b.drop 4)

/-- I-space after a load: zeroed, then the body at LOAD_OFFSET. -/
def loadISpace (img : Bytes) : Table W32 := placeWords 65536 (imgLoad img / 4) (zeros (imgLoad img % 4) ++ imgBody img)

end Sys2Proof.Machine
end

