-- ==== Sys2Proof/Machine/Encodings.lean ====
section
/-! DEFINITION. Which 32-bit words R246 reserves (09 Tables 9-1 to 9-13). -/
namespace Sys2Proof.Machine

/-- Opcodes of format R: which FN values exist, and whether the fields an FN must hold at 0 do, and its accumulator fields
hold 0 to 3. -/
def okR (op rd ra rb fn : Nat) : Bool :=
  match op with
  | 0x01 =>
    if fn ≤ 0x0B ∨ (0x10 ≤ fn ∧ fn ≤ 0x12) ∨ (0x18 ≤ fn ∧ fn ≤ 0x1B) then true
    else if fn = 0x0C ∨ fn = 0x0D then rd == 0 else fn == 0x0E && rb == 0
  | 0x0A =>
    if fn = 2 then rd == 0 else decide (fn ≤ 3)
  | 0x0F =>
    if fn ≤ 4 then true
    else if fn = 8 then decide (ra ≤ 3) && decide (rb ≤ 2)
    else fn == 9 && decide (rd ≤ 3) && decide (rb ≤ 2)
  | 0x23 =>
    if fn ≤ 1 then rd == 0 && rb == 0 else fn == 2 && rd == 0 && ra == 0 && rb == 0
  | 0x28 =>
    decide (rd ≤ 3) &&
    (if fn ≤ 4 then true else if fn = 8 then ra == 0 && rb == 0 else fn == 9 && decide (ra ≤ 3) && rb == 0)
  | 0x32 => decide (fn ≤ 1) && rb == 0
  | _ => false

/-- Opcodes of format I. -/
def okI (op rd ra imm : Nat) : Bool :=
  match op with
  | 0x02 | 0x03 | 0x0C | 0x30 | 0x31 => ra == 0
  | 0x04 | 0x05 | 0x06 | 0x07 | 0x0B => true
  | 0x08 => rd == 0
  | 0x09 => decide (imm < 128)
  | 0x29 => decide (ra ≤ 3) && decide (imm < 128)
  | _ => false

/-- Sizes a memory opcode takes (R247): `k` = 0 LD, 1 LDS, 2 ST, 3 LD.Q, 4 ST.Q. -/
def okSz (k sz : Nat) : Bool := if k = 1 then decide (sz ≤ 1) else if k ≤ 2 then decide (sz ≤ 2) else sz == 3

/-- The M1 fields (R247, R248): for autoincrement modes SC and Dm are 0, and an A register is not the updated base. -/
def okM1 (k r an mode sc dm rsv : Nat) : Bool :=
  rsv == 0 && decide (mode ≤ 2) && (mode == 2 || (sc == 0 && dm == 0 && !(decide (3 ≤ k) && r == an)))

/-- Format SYS. -/
def okSys (rd sr imm fn : Nat) : Bool :=
  match fn with
  | 0 | 2 | 3 | 4 => rd == 0 && sr == 0 && imm == 0
  | 1 => rd == 0 && sr == 0
  | 5 => decide (sr ≤ 3)
  | 6 => decide (sr ≤ 1)
  | _ => false

/-- Format S. -/
def okS (op d rs cnd rsv sig : Nat) : Bool :=
  rsv == 0 && !(rs == 1 && sig != 0) && (if op = 0x35 then cnd == 0 else d % 2 == 0 && (op == 0x36 || cnd == 0))

/-- The word is executed (R246): a field that no table reserves or marks "must be 0" may hold anything. -/
def encodable (n : Nat) : Bool :=
  let op := bits n 31 26
  let f25 := bits n 25 22
  let f21 := bits n 21 18
  if [0x01, 0x0A, 0x0F, 0x23, 0x28, 0x32].contains op then
    bits n 13 8 == 0 && okR op f25 f21 (bits n 17 14) (bits n 7 0)
  else if op = 0x0D then bits n 17 16 == 0
  else if op = 0x0E then bits n 17 16 == 0 && bits n 15 14 == 2 && bits n 7 0 == 0
  else if 0x10 ≤ op ∧ op ≤ 0x14 then okSz (op - 0x10) (bits n 17 16)
  else if 0x18 ≤ op ∧ op ≤ 0x1C then
    okSz (op - 0x18) (bits n 17 16) && okM1 (op - 0x18) f25 f21 (bits n 15 14) (bits n 13 12) (bits n 11 8) (bits n 7 0)
  else if op = 0x20 then decide (f25 ≤ 14)
  else if op = 0x21 then f25 == 0
  else if op = 0x22 then true
  else if 0x34 ≤ op ∧ op ≤ 0x36 then
    okS op f25 (bits n 17 17) (bits n 16 16) (bits n 15 12) (bits n 11 0)
  else if op = 0x3E then bits n 17 16 == 0 && okSys f25 f21 (bits n 15 8) (bits n 7 0)
  else bits n 17 16 == 0 && okI op f25 f21 (bits n 15 0)

/-- A reserved word (R246). -/
def reserved (w : BitVec 32) : Bool := !encodable w.toNat

end Sys2Proof.Machine
end

