-- ==== Sys2Proof/Machine/Tuital.lean ====
section
/-! DEFINITION. The instructions of chapter 09 on a core, each issued under 08 R232 and R236. -/
namespace Sys2Proof.Machine

/-- Ad[47:32] replaced. -/
def withHigh (a : W48) (h : BitVec 16) : W48 := BitVec.ofNat 48 (a.toNat % 2 ^ 32 + h.toNat * 2 ^ 32)

/-- The parts of an accumulator: [31:0], [63:32], [79:64] sign-extended (Table 9-10). -/
def accPart (a : W80) (part : Nat) : W32 :=
  if part = 0 then a.truncate 32
  else if part = 1 then BitVec.ofNat 32 (a.toNat / 2 ^ 32)
  else BitVec.ofInt 32 (sInt 16 (a.toNat / 2 ^ 64))

/-- An accumulator with a part replaced. -/
def withPart (a : W80) (part : Nat) (v : W32) : W80 :=
  let n := a.toNat
  if part = 0 then BitVec.ofNat 80 (n / 2 ^ 32 * 2 ^ 32 + v.toNat)
  else if part = 1 then BitVec.ofNat 80 (n / 2 ^ 64 * 2 ^ 64 + v.toNat * 2 ^ 32 + n % 2 ^ 32)
  else BitVec.ofNat 80 (v.toNat % 65536 * 2 ^ 64 + n % 2 ^ 64)

/-- The second operand of ADDA. -/
def addaVal (c : Core) : AddaOp → W48
  | .reg db => (c.dr db).signExtend 48
  | .imm v => v.signExtend 48

/-- ADRA. -/
def adraOp (t : Nat) (rd n : Fin 16) (ea : Ea) (s : Chip) : InsRes :=
  if eaUpdates ea then illegal s
  else
    match eaOf (coreOf s t) n 1 ea with
    | none => illegal s
    | some (a, _) => onCore t (fun c => c.setA rd a) s

/-- EXT. -/
def extOp (t : Nat) (rd ra : Fin 16) (sh : Nat) (rnd : Bool) (s : Chip) : InsRes :=
  if 3 < ra.val then illegal s
  else
    let c := coreOf s t
    let x := extOf (c.ac ra) sh rnd
    let c' := (c.setD rd x.r).setF x.f
    if x.f.v then
      let s := setCore s t { c' with sw := setBit c'.sw swSat true }
      if swBit c.sw swSt then .trap 7 0 s else .done s
    else .done (setCore s t c')

/-- B.cc. -/
def branchOp (t cond : Nat) (off : W18) (s : Chip) : InsRes :=
  match condHolds (coreOf s t).sw cond with
  | none => illegal s
  | some b => if b then .goto ((coreOf s t).pc + off) s else .done s

/-- CNTNE: Dn counts, then is compared with Dm. -/
def cntneOp (t : Nat) (dn dm : Fin 16) (off : W18) (s : Chip) : InsRes :=
  let c := (coreOf s t).setD dn ((coreOf s t).dr dn + 1)
  if c.dr dn ≠ c.dr dm then .goto (c.pc + off) (setCore s t c) else .done (setCore s t c)

/-- RET. -/
def retOp (t : Nat) (s : Chip) : InsRes :=
  let a := (coreOf s t).ar 15
  match dataAccess s t a 8 none with
  | .fault c sub s => .fault c sub (if c = 4 then some a else none) s
  | .ok b s' =>
    if aligned4 (leNat b) then .goto (BitVec.ofNat 18 (leNat b)) (setCore s' t ((coreOf s' t).setA 15 (a + 8)))
    else .fault 3 0 none s

/-- SIGRD. -/
def sigrdOp (t : Nat) (rd : Fin 16) (sig : SigRef) (s : Chip) : InsRes :=
  if rd.val % 2 = 1 then illegal s
  else
    let n := sigNum (coreOf s t) sig
    if fenced s (sigUnit n) then .fault 4 6 none s
    else
      let v := sigRead s (coreAgent t) n
      onCore t (fun c => (c.setD rd (BitVec.ofNat 32 v.1)).setD (rd + 1) (BitVec.ofNat 32 (v.1 / 2 ^ 32))) v.2

/-- WAIT. -/
def waitOp (t : Nat) (s : Chip) : InsRes :=
  let c := coreOf s t
  if c.pendEnabled ≠ 0 then .done s else .hold (setCoreState (setCore s t { c with wait := .wait }) t 3)

/-- MFSR: 0 SW, 1 EPC, 2 ECAUSE, 3 PC. -/
def mfsrOp (t : Nat) (rd : Fin 16) (sr : Nat) (s : Chip) : InsRes :=
  let c := coreOf s t
  match sr with
  | 0 => onCore t (fun c => c.setD rd c.sw) s
  | 1 => onCore t (fun c => c.setD rd (c.epc.zeroExtend 32)) s
  | 2 => onCore t (fun c => c.setD rd c.ecause) s
  | 3 => onCore t (fun _ => c.setD rd (c.pc.zeroExtend 32)) s
  | _ => illegal s

/-- MTSR. -/
def mtsrOp (t : Nat) (rm : Fin 16) (sr : Nat) (s : Chip) : InsRes :=
  match sr with
  | 0 => onCore t (fun c => { c with sw := mtsrSw c.sw (c.dr rm) }) s
  | 1 => onCore t (fun c => { c with epc := BitVec.ofNat 18 (bits (c.dr rm).toNat 17 2 * 4) }) s
  | _ => illegal s

/-- ADD (R251). -/
def execAddR (t : Nat) (rd ra rb : Fin 16) (s : State) : Host.Outcome State Fault Refusal :=
  run s (fun x => issue x t (alu3 t rd ra rb (fun a b => aluAdd a b false)))

/-- SUB (R251). -/
def execSub (t : Nat) (rd ra rb : Fin 16) (s : State) : Host.Outcome State Fault Refusal :=
  run s (fun x => issue x t (alu3 t rd ra rb (fun a b => aluSub a b false)))

/-- ADDC: with carry (R251). -/
def execAddc (t : Nat) (rd ra rb : Fin 16) (s : State) : Host.Outcome State Fault Refusal :=
  run s (fun x => issue x t (alu3c t rd ra rb aluAdd))

/-- SUBC: with borrow (R251). -/
def execSubc (t : Nat) (rd ra rb : Fin 16) (s : State) : Host.Outcome State Fault Refusal :=
  run s (fun x => issue x t (alu3c t rd ra rb aluSub))

/-- AND (Table 9-7). -/
def execAndR (t : Nat) (rd ra rb : Fin 16) (s : State) : Host.Outcome State Fault Refusal :=
  run s (fun x => issue x t (alu3 t rd ra rb (fun a b => aluLogic (a &&& b))))

/-- OR (Table 9-7). -/
def execOrR (t : Nat) (rd ra rb : Fin 16) (s : State) : Host.Outcome State Fault Refusal :=
  run s (fun x => issue x t (alu3 t rd ra rb (fun a b => aluLogic (a ||| b))))

/-- XOR (Table 9-7). -/
def execXorR (t : Nat) (rd ra rb : Fin 16) (s : State) : Host.Outcome State Fault Refusal :=
  run s (fun x => issue x t (alu3 t rd ra rb (fun a b => aluLogic (a ^^^ b))))

/-- ANDN (Table 9-7). -/
def execAndn (t : Nat) (rd ra rb : Fin 16) (s : State) : Host.Outcome State Fault Refusal :=
  run s (fun x => issue x t (alu3 t rd ra rb (fun a b => aluLogic (a &&& ~~~b))))

/-- SHL by Db[4:0] (R251). -/
def execShl (t : Nat) (rd ra rb : Fin 16) (s : State) : Host.Outcome State Fault Refusal :=
  run s (fun x => issue x t (alu3 t rd ra rb (fun a b => aluShl a (b.toNat % 32))))

/-- SHR by Db[4:0] (R251). -/
def execShr (t : Nat) (rd ra rb : Fin 16) (s : State) : Host.Outcome State Fault Refusal :=
  run s (fun x => issue x t (alu3 t rd ra rb (fun a b => aluShr a (b.toNat % 32))))

/-- SAR by Db[4:0] (R251). -/
def execSar (t : Nat) (rd ra rb : Fin 16) (s : State) : Host.Outcome State Fault Refusal :=
  run s (fun x => issue x t (alu3 t rd ra rb (fun a b => aluSar a (b.toNat % 32))))

/-- ROL by Db[4:0] (R251). -/
def execRol (t : Nat) (rd ra rb : Fin 16) (s : State) : Host.Outcome State Fault Refusal :=
  run s (fun x => issue x t (alu3 t rd ra rb (fun a b => aluRol a (b.toNat % 32))))

/-- CMP: flags of Da − Db. -/
def execCmp (t : Nat) (ra rb : Fin 16) (s : State) : Host.Outcome State Fault Refusal :=
  run s (fun x => issue x t (aluFlags t ra rb (fun a b => aluSub a b false)))

/-- TST: flags of Da & Db. -/
def execTst (t : Nat) (ra rb : Fin 16) (s : State) : Host.Outcome State Fault Refusal :=
  run s (fun x => issue x t (aluFlags t ra rb (fun a b => aluLogic (a &&& b))))

/-- CLZ. -/
def execClz (t : Nat) (rd ra : Fin 16) (s : State) : Host.Outcome State Fault Refusal :=
  run s (fun x => issue x t (aluImm t rd ra (fun a => aluLogic (BitVec.ofNat 32 (clz32 a)))))

/-- MUL (R251). -/
def execMul (t : Nat) (rd ra rb : Fin 16) (s : State) : Host.Outcome State Fault Refusal :=
  run s (fun x => issue x t (alu3 t rd ra rb aluMul))

/-- MULHS (R251). -/
def execMulhs (t : Nat) (rd ra rb : Fin 16) (s : State) : Host.Outcome State Fault Refusal :=
  run s (fun x => issue x t (alu3 t rd ra rb aluMulhs))

/-- MULHU (R251). -/
def execMulhu (t : Nat) (rd ra rb : Fin 16) (s : State) : Host.Outcome State Fault Refusal :=
  run s (fun x => issue x t (alu3 t rd ra rb aluMulhu))

/-- DIVS (R252). -/
def execDivs (t : Nat) (rd ra rb : Fin 16) (s : State) : Host.Outcome State Fault Refusal :=
  run s (fun x => issue x t (aluDiv t rd ra rb aluDivs))

/-- DIVU (R252). -/
def execDivu (t : Nat) (rd ra rb : Fin 16) (s : State) : Host.Outcome State Fault Refusal :=
  run s (fun x => issue x t (aluDiv t rd ra rb aluDivu))

/-- REMS (R252). -/
def execRems (t : Nat) (rd ra rb : Fin 16) (s : State) : Host.Outcome State Fault Refusal :=
  run s (fun x => issue x t (aluDiv t rd ra rb aluRems))

/-- REMU (R252). -/
def execRemu (t : Nat) (rd ra rb : Fin 16) (s : State) : Host.Outcome State Fault Refusal :=
  run s (fun x => issue x t (aluDiv t rd ra rb aluRemu))

/-- MOVI: flags unchanged. -/
def execMovi (t : Nat) (rd : Fin 16) (imm : BitVec 16) (s : State) : Host.Outcome State Fault Refusal :=
  run s (fun x => issue x t (onCore t (fun c => c.setD rd (imm.signExtend 32))))

/-- LUI: flags unchanged. -/
def execLui (t : Nat) (rd : Fin 16) (imm : BitVec 16) (s : State) : Host.Outcome State Fault Refusal :=
  run s (fun x => issue x t (onCore t (fun c => c.setD rd (imm.zeroExtend 32 <<< 16))))

/-- ADDI (R251). -/
def execAddi (t : Nat) (rd ra : Fin 16) (imm : BitVec 16) (s : State) : Host.Outcome State Fault Refusal :=
  run s (fun x => issue x t (aluImm t rd ra (fun a => aluAdd a (imm.signExtend 32) false)))

/-- ANDI (Table 9-8). -/
def execAndi (t : Nat) (rd ra : Fin 16) (imm : BitVec 16) (s : State) : Host.Outcome State Fault Refusal :=
  run s (fun x => issue x t (aluImm t rd ra (fun a => aluLogic (a &&& imm.zeroExtend 32))))

/-- ORI (Table 9-8). -/
def execOri (t : Nat) (rd ra : Fin 16) (imm : BitVec 16) (s : State) : Host.Outcome State Fault Refusal :=
  run s (fun x => issue x t (aluImm t rd ra (fun a => aluLogic (a ||| imm.zeroExtend 32))))

/-- XORI (Table 9-8). -/
def execXori (t : Nat) (rd ra : Fin 16) (imm : BitVec 16) (s : State) : Host.Outcome State Fault Refusal :=
  run s (fun x => issue x t (aluImm t rd ra (fun a => aluLogic (a ^^^ imm.zeroExtend 32))))

/-- CMPI: flags of Da − sext(IMM). -/
def execCmpi (t : Nat) (ra : Fin 16) (imm : BitVec 16) (s : State) : Host.Outcome State Fault Refusal :=
  run s (fun x => issue x t (onCore t (fun c => c.setF (aluSub (c.dr ra) (imm.signExtend 32) false).f)))

/-- SHLI (R251). -/
def execShli (t : Nat) (rd ra : Fin 16) (n : Fin 32) (s : State) : Host.Outcome State Fault Refusal :=
  run s (fun x => issue x t (aluImm t rd ra (fun a => aluShl a n.val)))

/-- SHRI (R251). -/
def execShri (t : Nat) (rd ra : Fin 16) (n : Fin 32) (s : State) : Host.Outcome State Fault Refusal :=
  run s (fun x => issue x t (aluImm t rd ra (fun a => aluShr a n.val)))

/-- SARI (R251). -/
def execSari (t : Nat) (rd ra : Fin 16) (n : Fin 32) (s : State) : Host.Outcome State Fault Refusal :=
  run s (fun x => issue x t (aluImm t rd ra (fun a => aluSar a n.val)))

/-- ROLI (R251). -/
def execRoli (t : Nat) (rd ra : Fin 16) (n : Fin 32) (s : State) : Host.Outcome State Fault Refusal :=
  run s (fun x => issue x t (aluImm t rd ra (fun a => aluRol a n.val)))

/-- MACS (R253). -/
def execMacs (t : Nat) (rd ra rb : Fin 16) (s : State) : Host.Outcome State Fault Refusal :=
  run s (fun x => issue x t (accOp t rd (fun c => (c.ac rd).toInt + (c.dr ra).toInt * (c.dr rb).toInt)))

/-- MACU (R253). -/
def execMacu (t : Nat) (rd ra rb : Fin 16) (s : State) : Host.Outcome State Fault Refusal :=
  run s (fun x => issue x t (accOp t rd (fun c => (c.ac rd).toInt + (c.dr ra).toNat * (c.dr rb).toNat)))

/-- MSUS (R253). -/
def execMsus (t : Nat) (rd ra rb : Fin 16) (s : State) : Host.Outcome State Fault Refusal :=
  run s (fun x => issue x t (accOp t rd (fun c => (c.ac rd).toInt - (c.dr ra).toInt * (c.dr rb).toInt)))

/-- MPYS (R253). -/
def execMpys (t : Nat) (rd ra rb : Fin 16) (s : State) : Host.Outcome State Fault Refusal :=
  run s (fun x => issue x t (accOp t rd (fun c => (c.dr ra).toInt * (c.dr rb).toInt)))

/-- MPYU (R253). -/
def execMpyu (t : Nat) (rd ra rb : Fin 16) (s : State) : Host.Outcome State Fault Refusal :=
  run s (fun x => issue x t (accOp t rd (fun c => (c.dr ra).toNat * (c.dr rb).toNat)))

/-- CLRACC (R253). -/
def execClracc (t : Nat) (rd : Fin 16) (s : State) : Host.Outcome State Fault Refusal :=
  run s (fun x => issue x t (accOp t rd (fun _ => 0)))

/-- ADDACC (R253). -/
def execAddacc (t : Nat) (rd ra : Fin 16) (s : State) : Host.Outcome State Fault Refusal :=
  run s (fun x => issue x t (fun s => if 3 < ra.val then illegal s else accOp t rd (fun c => (c.ac rd).toInt + (c.ac ra).toInt) s))

/-- EXT (R255): the saturation sets SW.SAT, and is a SAT_TRAP with SW.ST. -/
def execExt (t : Nat) (rd ra : Fin 16) (sh : Fin 64) (rnd : Bool) (s : State) : Host.Outcome State Fault Refusal :=
  run s (fun x => issue x t (extOp t rd ra sh.val rnd))

/-- MVAD: Aa[31:0]. -/
def execMvad (t : Nat) (rd ra : Fin 16) (s : State) : Host.Outcome State Fault Refusal :=
  run s (fun x => issue x t (onCore t (fun c => c.setD rd ((c.ar ra).truncate 32))))

/-- MVAHD: Aa[47:32], zero-extended. -/
def execMvahd (t : Nat) (rd ra : Fin 16) (s : State) : Host.Outcome State Fault Refusal :=
  run s (fun x => issue x t (onCore t (fun c => c.setD rd (BitVec.ofNat 32 ((c.ar ra).toNat / 2 ^ 32)))))

/-- MVDA: zero-extended. -/
def execMvda (t : Nat) (rd ra : Fin 16) (s : State) : Host.Outcome State Fault Refusal :=
  run s (fun x => issue x t (onCore t (fun c => c.setA rd ((c.dr ra).zeroExtend 48))))

/-- MVDAS: sign-extended. -/
def execMvdas (t : Nat) (rd ra : Fin 16) (s : State) : Host.Outcome State Fault Refusal :=
  run s (fun x => issue x t (onCore t (fun c => c.setA rd ((c.dr ra).signExtend 48))))

/-- MVDAH: Ad[47:32] := Da[15:0]. -/
def execMvdah (t : Nat) (rd ra : Fin 16) (s : State) : Host.Outcome State Fault Refusal :=
  run s (fun x => issue x t (onCore t (fun c => c.setA rd (withHigh (c.ar rd) ((c.dr ra).truncate 16)))))

/-- MFACC.L, .H, .G; other parts are reserved. -/
def execMfacc (t : Nat) (rd ra part : Fin 16) (s : State) : Host.Outcome State Fault Refusal :=
  run s (fun x => issue x t (fun s => if 3 < ra.val ∨ 2 < part.val then illegal s else onCore t (fun c => c.setD rd (accPart (c.ac ra) part.val)) s))

/-- MTACC.L, .H, .G. -/
def execMtacc (t : Nat) (rd ra part : Fin 16) (s : State) : Host.Outcome State Fault Refusal :=
  run s (fun x => issue x t (fun s => if 3 < rd.val ∨ 2 < part.val then illegal s else onCore t (fun c => c.setAcc rd (withPart (c.ac rd) part.val (c.dr ra))) s))

/-- SUBA: (Aa − Ab)[31:0]. -/
def execSuba (t : Nat) (rd ra rb : Fin 16) (s : State) : Host.Outcome State Fault Refusal :=
  run s (fun x => issue x t (onCore t (fun c => c.setD rd ((c.ar ra - c.ar rb).truncate 32))))

/-- CMPA (R250). -/
def execCmpa (t : Nat) (ra rb : Fin 16) (s : State) : Host.Outcome State Fault Refusal :=
  run s (fun x => issue x t (onCore t (fun c => c.setF (flagsCmpa (c.ar ra) (c.ar rb)))))

/-- MOV of an address register. -/
def execMov (t : Nat) (rd ra : Fin 16) (s : State) : Host.Outcome State Fault Refusal :=
  run s (fun x => issue x t (onCore t (fun c => c.setA rd (c.ar ra))))

/-- SETAH: Ad[47:32] := IMM. -/
def execSetah (t : Nat) (rd : Fin 16) (imm : BitVec 16) (s : State) : Host.Outcome State Fault Refusal :=
  run s (fun x => issue x t (onCore t (fun c => c.setA rd (withHigh (c.ar rd) imm))))

/-- ADDA (R250). -/
def execAdda (t : Nat) (rd ra : Fin 16) (op : AddaOp) (s : State) : Host.Outcome State Fault Refusal :=
  run s (fun x => issue x t (onCore t (fun c => c.setA rd (c.ar ra + addaVal c op))))

/-- ADRA: the effective address; `[An++]` and `[--An]` are reserved (R250). -/
def execAdra (t : Nat) (rd n : Fin 16) (ea : Ea) (s : State) : Host.Outcome State Fault Refusal :=
  run s (fun x => issue x t (adraOp t rd n ea))

/-- LD.B, LD.H, LD.W: zero-extended (R247). -/
def execLd (t : Nat) (rd n : Fin 16) (sz : Fin 4) (ea : Ea) (s : State) : Host.Outcome State Fault Refusal :=
  run s (fun x => issue x t (fun s => if sz.val = 3 then illegal s else loadOp t rd n (szBytes sz) ea (fun c r b => c.setD r (BitVec.ofNat 32 (leNat b))) s))

/-- LDS.B, LDS.H: sign-extended (R247). -/
def execLds (t : Nat) (rd n : Fin 16) (sz : Fin 4) (ea : Ea) (s : State) : Host.Outcome State Fault Refusal :=
  run s (fun x => issue x t (fun s => if 1 < sz.val then illegal s else loadOp t rd n (szBytes sz) ea (fun c r b => c.setD r (BitVec.ofInt 32 (sInt (8 * szBytes sz) (leNat b)))) s))

/-- ST.B, ST.H, ST.W (R247). -/
def execSt (t : Nat) (rm n : Fin 16) (sz : Fin 4) (ea : Ea) (s : State) : Host.Outcome State Fault Refusal :=
  run s (fun x => issue x t (fun s => if sz.val = 3 then illegal s else storeOp t n (szBytes sz) ea (fun c => leBytes (szBytes sz) (c.dr rm).toNat) s))

/-- LD.Q: bits [63:48] are discarded; reserved when Ad is the updated base (R247, R248). -/
def execLdQ (t : Nat) (rd n : Fin 16) (ea : Ea) (s : State) : Host.Outcome State Fault Refusal :=
  run s (fun x => issue x t (fun s => if eaUpdates ea && rd == n then illegal s else loadOp t rd n 8 ea (fun c r b => c.setA r (BitVec.ofNat 48 (leNat b))) s))

/-- ST.Q: zero-extended to 64 bits (R247, R248). -/
def execStQ (t : Nat) (rm n : Fin 16) (ea : Ea) (s : State) : Host.Outcome State Fault Refusal :=
  run s (fun x => issue x t (fun s => if eaUpdates ea && rm == n then illegal s else storeOp t n 8 ea (fun c => leBytes 8 (c.ar rm).toNat) s))

/-- IN (R249). -/
def execInPort (t : Nat) (rd : Fin 16) (port : PortRef) (s : State) : Host.Outcome State Fault Refusal :=
  run s (fun x => issue x t (fun s => inOp t rd (portNum (coreOf s t) port) s))

/-- OUT (R249). -/
def execOut (t : Nat) (rm : Fin 16) (port : PortRef) (s : State) : Host.Outcome State Fault Refusal :=
  run s (fun x => issue x t (fun s => outOp t (portNum (coreOf s t) port) ((coreOf s t).dr rm) s))

/-- B.cc (R256); COND 15 is reserved. -/
def execBCc (t : Nat) (cond : Fin 16) (disp : BitVec 22) (s : State) : Host.Outcome State Fault Refusal :=
  run s (fun x => issue x t (branchOp t cond.val (4 * disp.signExtend 18)))

/-- CALL: push pc + 4 (R256). -/
def execCall (t : Nat) (disp : BitVec 22) (s : State) : Host.Outcome State Fault Refusal :=
  run s (fun x => issue x t (fun s => callTo t ((coreOf s t).pc + 4 * disp.signExtend 18) s))

/-- CNTNE: count up to a limit (R256). -/
def execCntne (t : Nat) (dn dm : Fin 16) (disp : BitVec 18) (s : State) : Host.Outcome State Fault Refusal :=
  run s (fun x => issue x t (cntneOp t dn dm (4 * disp)))

/-- JUMPR: ALIGN unless the target is a multiple of 4 (R256). -/
def execJumpr (t : Nat) (ra : Fin 16) (s : State) : Host.Outcome State Fault Refusal :=
  run s (fun x => issue x t (fun s => let a := ((coreOf s t).ar ra).toNat; if aligned4 a then .goto (BitVec.ofNat 18 a) s else .fault 3 0 none s))

/-- CALLR: a misaligned target pushes nothing (R256). -/
def execCallr (t : Nat) (ra : Fin 16) (s : State) : Host.Outcome State Fault Refusal :=
  run s (fun x => issue x t (fun s => let a := ((coreOf s t).ar ra).toNat; if aligned4 a then callTo t (BitVec.ofNat 18 a) s else .fault 3 0 none s))

/-- RET: pop the target (R256). -/
def execRet (t : Nat) (s : State) : Host.Outcome State Fault Refusal :=
  run s (fun x => issue x t (retOp t))

/-- SIGRD (R258): 64 bits into Dd and Dd+1. -/
def execSigrd (t : Nat) (rd : Fin 16) (sig : SigRef) (s : State) : Host.Outcome State Fault Refusal :=
  run s (fun x => issue x t (sigrdOp t rd sig))

/-- SIGADD (R259). -/
def execSigadd (t : Nat) (rm : Fin 16) (sig : SigRef) (s : State) : Host.Outcome State Fault Refusal :=
  run s (fun x => issue x t (fun s => .done (sigAdd s (coreAgent t) (sigNum (coreOf s t) sig) ((coreOf s t).dr rm).toNat)))

/-- SIGWT.GE (R260). -/
def execSigwtGe (t : Nat) (rd : Fin 16) (sig : SigRef) (s : State) : Host.Outcome State Fault Refusal :=
  run s (fun x => issue x t (sigwtOp t rd sig false))

/-- SIGWT.EQ (R260). -/
def execSigwtEq (t : Nat) (rd : Fin 16) (sig : SigRef) (s : State) : Host.Outcome State Fault Refusal :=
  run s (fun x => issue x t (sigwtOp t rd sig true))

/-- NOP. -/
def execNop (t : Nat) (s : State) : Host.Outcome State Fault Refusal :=
  run s (fun x => issue x t (fun s => .done s))

/-- TRAP: subcode IMM8, EPC at the next instruction (R233). -/
def execTrap (t : Nat) (imm : BitVec 8) (s : State) : Host.Outcome State Fault Refusal :=
  run s (fun x => issue x t (fun s => .trap 8 imm.toNat s))

/-- RETE (R233). -/
def execRete (t : Nat) (s : State) : Host.Outcome State Fault Refusal :=
  run s (fun x => issue x t (fun s => .goto (coreOf s t).epc (setCore s t (returnException (coreOf s t)))))

/-- WAIT (R237): goes on at once while an enabled binding is pending. -/
def execWait (t : Nat) (s : State) : Host.Outcome State Fault Refusal :=
  run s (fun x => issue x t (waitOp t))

/-- SYNC: every posted store has been accepted (the model posts none). -/
def execSync (t : Nat) (s : State) : Host.Outcome State Fault Refusal :=
  run s (fun x => issue x t (fun s => .done s))

/-- MFSR (Table 9-13). -/
def execMfsr (t : Nat) (rd sr : Fin 16) (s : State) : Host.Outcome State Fault Refusal :=
  run s (fun x => issue x t (mfsrOp t rd sr.val))

/-- MTSR: SW and EPC only (R263). -/
def execMtsr (t : Nat) (rm sr : Fin 16) (s : State) : Host.Outcome State Fault Refusal :=
  run s (fun x => issue x t (mtsrOp t rm sr.val))

/-- BIND_ARM: OUT of a word to BIND_SIG of binding n (R235). -/
def execBindArm (t : Nat) (n : Fin 8) (w : BitVec 32) (s : State) : Host.Outcome State Fault Refusal :=
  run s (fun x => issue x t (outOp t (0xF020 + 4 * n.val) w))

/-- INT_PEND_CLEAR: OUT of a word to INT_PEND (R236). -/
def execIntPendClear (t : Nat) (w : BitVec 32) (s : State) : Host.Outcome State Fault Refusal :=
  run s (fun x => issue x t (outOp t 0xF010 w))

/-- RTIME_LO_READ: IN of RTIME_LO, which latches RTIME_HI. -/
def execRtimeLoRead (t : Nat) (rd : Fin 16) (s : State) : Host.Outcome State Fault Refusal :=
  run s (fun x => issue x t (inOp t rd 0xF004))

/-- QUEUE_PUSH: OUT of a local-SRAM offset to the push port of queue q (R435). -/
def execQueuePush (t q off : Nat) (s : State) : Host.Outcome State Fault Refusal :=
  run s (fun x => issue x t (outOp t (0x2000 + 2 * (q % 2048)) (BitVec.ofNat 32 off)))

/-- QUEUE_POP: IN from the pop port of queue q (R436). -/
def execQueuePop (t : Nat) (rd : Fin 16) (q : Nat) (s : State) : Host.Outcome State Fault Refusal :=
  run s (fun x => issue x t (inOp t rd (0x2001 + 2 * (q % 2048))))

/-- OD_FAST_PORT_REQUEST: OUT of a PDU offset to OD_REQ (R229). -/
def execOdFastPortRequest (t off : Nat) (s : State) : Host.Outcome State Fault Refusal :=
  run s (fun x => issue x t (outOp t 0x8000 (BitVec.ofNat 32 off)))

/-- OD_STATE_READ: IN of OD_STATE (R229). -/
def execOdStateRead (t : Nat) (rd : Fin 16) (s : State) : Host.Outcome State Fault Refusal :=
  run s (fun x => issue x t (inOp t rd 0x8002))

/-- RESERVED_ENCODING: a word R246 reserves raises ILLEGAL; any other word is some other row’s, and nothing happens here. -/
def execReservedEncoding (t : Nat) (w : BitVec 32) (s : State) : Host.Outcome State Fault Refusal :=
  run s (fun x => issue x t (fun s => if reserved w then illegal s else .hold s))

/-! ## Waits and interrupts -/

/-- SIGNAL_INT (R236): the lowest enabled pending binding of a core that runs or waits is taken at this boundary. -/
def execSignalInt (t : Nat) (s : State) : Host.Outcome State Fault Refusal :=
  run s (fun x => if t < 24 ∧ (coreState x t = 2 ∨ coreState x t = 3) then takeInterrupt x t else x)

/-- The wait ends and issue goes on behind it. -/
def resume (s : Chip) (t : Nat) : Chip :=
  let c := coreOf s t
  setCoreState (setCore s t { c with wait := .none, pc := c.next }) t 2

/-- WAIT_RESUME (R237): an enabled binding is pending; with IE the interrupt is taken, with EPC behind the WAIT. -/
def execWaitResume (t : Nat) (s : State) : Host.Outcome State Fault Refusal :=
  run s (fun x =>
    if t < 24 ∧ coreState x t = 3 ∧ (coreOf x t).wait = .wait ∧ (coreOf x t).pendEnabled ≠ 0 then
      takeInterrupt (resume x t) t
    else x)

/-- SIGWT_RELEASE (R260): a satisfying value has been reached. -/
def execSigwtRelease (t : Nat) (s : State) : Host.Outcome State Fault Refusal :=
  run s (fun x =>
    if t < 24 ∧ coreState x t = 3 then
      match (coreOf x t).wait with
      | .sigwt _ _ _ true => resume x t
      | _ => x
    else x)

/-- The agent of SIGNAL_ADD by the OWNER code of its domain (19 R484). -/
def ownerAgent (owner : Nat) : SigAgent :=
  if owner < 64 then .plat owner else if owner = 0xFE then .sealed else .opn

/-- SIGNAL_ADD (R481, R483): the adds of one agent that reach a home in one arbitration window are summed and applied
together. -/
def execSignalAdd (owner sig : Nat) (vs : List Nat) (s : State) : Host.Outcome State Fault Refusal :=
  run s (fun x => signalAdds x (ownerAgent owner) sig vs)

end Sys2Proof.Machine
end

