-- ==== Sys2Proof/Machine/Programs.lean ====
section
/-! DEFINITION. Loading, starting and stopping customer programs (08 R238 to R240), and windows (R225). -/
namespace Sys2Proof.Machine

/-- The program buffer holds 272 KiB (R239). -/
abbrev progSize : Nat := 278528

/-- Set the buffer. -/
def setProg (s : Chip) (p : ProgBuf) : Chip := { s with prog := p }

/-- The buffer is another path's, or is being verified (R239). -/
def progBusy (s : Chip) (rq : Rq) : Bool :=
  s.prog.verify.isSome || (match s.prog.owner with | some p => p != rq.path | none => false)

/-- Bytes into the buffer at an offset, for a path. -/
def progFill (s : Chip) (rq : Rq) (off : Nat) (b : Bytes) : Chip :=
  odSet (setProg s { owner := some rq.path, bytes := splice s.prog.bytes off b, last := nowNs s, verify := none }) 0x08015 0 1

/-- PROG_FETCH (OD 08.010): PF0 host bus address and length. -/
def actProgFetch : Act := fun s rq arg =>
  let a := fld arg 0 8
  let n := fld arg 8 4
  if progSize < n then refuse s eRange
  else if progBusy s rq then refuse s eBusy
  else if !hostLinkUp s 0 ∨ !(fnOf s 0).bme then refuse s eNotReady
  else acted (progFill (setProg s { s.prog with bytes := [] }) rq 0 (hostRead s 0 a n))

/-- PROG_CHUNK (OD 08.011): buffer offset, then data. -/
def actProgChunk : Act := fun s rq arg =>
  let off := fld arg 0 4
  if progSize < off + (arg.length - 4) then refuse s eRange
  else if progBusy s rq then refuse s eBusy
  else acted (progFill s rq off (arg.drop 4))

/-- A core number 5 to 15. -/
def customerCore (t : Nat) : Bool := decide (5 ≤ t) && decide (t ≤ 15)

/-- PROG_START (OD 08.012): busy unless the core is STOPPED; without a code key it is denied (07 R192). -/
def actProgStart : Act := fun s rq arg =>
  let t := fld arg 0 1
  if !customerCore t then refuse s eRange
  else if (List.range 4).all (fun i => isZero (odB s 0x04032 (i + 1))) then refuse s eDenied
  else if progBusy s rq ∨ coreState s t ≠ 1 then refuse s eBusy
  else acted (odSet (setProg s { s.prog with owner := some rq.path, verify := some (t, nowNs s) }) 0x08015 0 2)

/-- PROG_STOP (OD 08.013): the core's gate closes between two instructions; a wait is abandoned (R240, 09 R266); a
fenced core stays STOPPED when its fence is lifted. -/
def actProgStop : Act := fun s _ arg =>
  let t := fld arg 0 1
  if !customerCore t then refuse s eRange
  else if coreState s t = 2 ∨ coreState s t = 3 ∨ coreState s t = 5 then
    acted (setCoreState (setCore s t { coreOf s t with wait := .none }) t 1)
  else if coreState s t = 4 then
    acted { s with faults := { s.faults with
      fences := s.faults.fences.map (fun f => if f.unit == uCore t then { f with prev := 1 } else f) } }
  else acted s

/-- PROG_DISCARD (OD 08.014). -/
def actProgDiscard : Act := fun s rq _ =>
  if progBusy s rq then refuse s eBusy else acted (odSet (setProg s ProgBuf.empty) 0x08015 0 0)

/-- PROG_FETCH. -/
def execProgFetch (rq : Rq) (arg : Bytes) (s : State) : Host.Outcome State Fault Refusal :=
  run s (actionRow actProgFetch 0x08010 rq arg)

/-- PROG_CHUNK. -/
def execProgChunk (rq : Rq) (arg : Bytes) (s : State) : Host.Outcome State Fault Refusal :=
  run s (actionRow actProgChunk 0x08011 rq arg)

/-- PROG_START. -/
def execProgStart (rq : Rq) (arg : Bytes) (s : State) : Host.Outcome State Fault Refusal :=
  run s (actionRow actProgStart 0x08012 rq arg)

/-- PROG_STOP. -/
def execProgStop (rq : Rq) (arg : Bytes) (s : State) : Host.Outcome State Fault Refusal :=
  run s (actionRow actProgStop 0x08013 rq arg)

/-- PROG_DISCARD. -/
def execProgDiscard (rq : Rq) (s : State) : Host.Outcome State Fault Refusal :=
  run s (actionRow actProgDiscard 0x08014 rq [])

/-- The end of a verification (R239, R221). -/
def progVerified (s : Chip) (sigs : Bool) : Chip :=
  match s.prog.verify with
  | none => s
  | some (t, _) =>
    let b := s.prog.bytes
    let cause := imageCheck s b 5 1 (odN s 0x08021 0) sigs
    let s := setProg s ProgBuf.empty
    if cause ≠ 0 then
      raiseFull (odSet s 0x08015 0 4) evProgRejected.code evProgRejected.cls false 0 0 0xFF (uCore t) (t + 256 * cause)
    else
      let s := setCore s t { coreOf s t with ispace := loadISpace b, bad := [] }
      let s := extendMr s (if t ≤ 10 then 6 else 7) (b.take 124)
      let s := startCore s t (BitVec.ofNat 18 (imgEntry b))
      raiseFull (odSet s 0x08015 0 3) evProgStarted.code evProgStarted.cls false 0 0 0xFF (uCore t) (t + 256 * imgVersion b)

/-- PROG_STARTED: verification ends; `sigOk` is the verdict on the two signatures (log 13). -/
def execProgStarted (sigOk : Bool) (s : State) : Host.Outcome State Fault Refusal := run s (fun c => progVerified c sigOk)

/-- PROG_BUFFER_TIMEOUT: 10 s with no write (R239). -/
def progTimeout (s : Chip) : Chip :=
  if s.prog.owner.isSome ∧ s.prog.verify.isNone ∧ s.prog.last + 10000000000 ≤ nowNs s then
    odSet (setProg s ProgBuf.empty) 0x08015 0 0
  else s

/-- PROG_BUFFER_TIMEOUT. -/
def execProgBufferTimeout (s : State) : Host.Outcome State Fault Refusal := run s progTimeout

/-! ## Windows -/

/-- A core whose windows may carry a platform (R225): T04 and T16 to T23. -/
def platCore (t : Nat) : Bool := t == 4 || (decide (16 ≤ t) && decide (t < 24))

/-- A window value is accepted (R225, Table 8-3). -/
def checkWindow (s : Chip) (t : Nat) (v : Bytes) : Nat :=
  let target := fld v 0 8
  let len := fld v 8 4
  let tag := fld v 12 1
  if target % 4096 ≠ 0 ∨ 2 ^ 48 ≤ target ∨ 268435456 < len ∨ 4 ≤ fld v 13 1 ∨ 4 ≤ fld v 14 1 ∨ fld v 15 1 ≠ 0 then eRange
  else if tag < 64 then (if platCore t && platOn s tag then eOk else eRange)
  else if tag ≠ 0xFF then eRange
  else if 4 ≤ t ∧ 0 < len ∧ !inOpenRanges s target (len * 4096) then eRange
  else eOk

/-- One window of a platform that is disabled or reset (R225). -/
def dropWindow (s : Chip) (p t w : Nat) : Chip :=
  let v := windowOf s t w
  if fld v 12 1 = p ∧ 0 < fld v 8 4 then
    raiseP (odSetB s (0x08100 + t) (w + 1) (setFld v 8 4 0)) evWindowDropped p (t + 256 * w)
  else s

/-- Every window tagged with a platform is set to LENGTH 0 (R225). -/
def dropWindows (s : Chip) (p : Nat) : Chip :=
  (List.range 24).foldl (fun s t => (List.range 16).foldl (fun s w => dropWindow s p t w) s) s

end Sys2Proof.Machine
end

