-- ==== Sys2Proof/Machine/Platforms.lean ====
section
/-! DEFINITION. Platforms: enable, the start of a reset, translations dropped, granules (10 R270 to R291). What a reset
clears in the engines is in PlatformReset.lean. -/
namespace Sys2Proof.Machine

/-- Set a platform's state, with its bit in OD 10.001. -/
def setPlatState (s : Chip) (p v : Nat) : Chip := odSetBit (odSet s (0x10040 + p) 0 v) 0x10001 0 p (v == 1)

/-- Raise the epoch by 1 (R288). -/
def raiseEpoch (s : Chip) (p : Nat) : Chip := odInc s (0x10100 + p) 0

/-! ## Enable -/

/-- Another platform that is not DISABLED has the same port and VF number. -/
def placeTaken (s : Chip) (p : Nat) : Bool :=
  (List.range 64).any (fun q => q != p && platState s q != 0 && hostPort s q == hostPort s p && vfNumber s q == vfNumber s p)

/-- The root table lies in the table region (R270). -/
def rootOk (s : Chip) (p : Nat) : Bool :=
  let r := odN s (0x100C0 + p) 0
  r % 4096 == 0 && inTables s r

/-- PLAT_ENABLE (OD 10.020, R270). The first one takes OD 01.001 to SERVING. -/
def actPlatEnable : Act := fun s _ arg =>
  let p := fld arg 0 1
  if 64 ≤ p then refuse s eRange
  else if platState s p = 2 then refuse s eBusy
  else if platState s p ≠ 0 ∨ !phase5 s ∨ perstOn s (hostPort s p) ∨ !vfEnabled s (hostPort s p) (vfNumber s p)
      ∨ placeTaken s p ∨ !rootOk s p then refuse s eRange
  else
    let s := setPlatState (raiseEpoch s p) p 1
    let s := if devState s = 2 then phaseBegins (odSet s 0x01001 0 3) 6 else s
    acted (raiseP s evPlatEnabled p (platEpoch s p))

/-- PLAT_ENABLE. -/
def execPlatEnable (rq : Rq) (arg : Bytes) (s : State) : Host.Outcome State Fault Refusal :=
  run s (actionRow actPlatEnable 0x10020 rq arg)

/-! ## Reset and disable: steps 1 and 2 of Table 10-8 -/

/-- A reset starts: RESETTING, the epoch rises, the gate closes. A reset that arrives while one runs joins it (R287). A
DISABLED platform has nothing to reset. -/
def resetStart (s : Chip) (p : Nat) (disable : Bool) : Chip :=
  if platState s p = 0 ∨ platState s p = 2 then s
  else
    let s := raiseEpoch (setPlatState s p 2) p
    { s with plats := { s.plats with resetting := tput s.plats.resetting p disable } }

/-- PLAT_RESET (OD 10.022, R271). -/
def actPlatReset : Act := fun s _ arg =>
  let p := fld arg 0 1
  if 64 ≤ p ∨ platState s p = 0 then refuse s eRange
  else if platState s p = 2 then refuse s eBusy
  else acted (resetStart s p false)

/-- PLAT_DISABLE (OD 10.021, R287); of a DISABLED platform it is refused as PLAT_RESET is (log 36). -/
def actPlatDisable : Act := fun s _ arg =>
  let p := fld arg 0 1
  if 64 ≤ p ∨ platState s p = 0 then refuse s eRange
  else if platState s p = 2 then refuse s eBusy
  else acted (resetStart s p true)

/-- PLAT_RESET: the action, or a Function Level Reset of the VF of platform `flr`. -/
def execPlatReset (rq : Rq) (arg : Bytes) (flr : Option Nat) (s : State) : Host.Outcome State Fault Refusal :=
  run s (match flr with
    | none => actionRow actPlatReset 0x10022 rq arg
    | some p => fun c => if p < 64 ∧ hasFn c p then resetStart c p false else c)

/-- PLAT_DISABLE. -/
def execPlatDisable (rq : Rq) (arg : Bytes) (s : State) : Host.Outcome State Fault Refusal :=
  run s (actionRow actPlatDisable 0x10021 rq arg)

/-- PLAT_FAILED (R286): an uncorrectable error in a per-platform structure closes the gate. -/
def platFail (s : Chip) (p unit : Nat) : Chip :=
  if platState s p = 1 then raiseP (setPlatState s p 3) evPlatFailed p unit else s

/-! ## Translations -/

/-- Drop cached translations of a platform in a page range; `n` = 0: all of them (R276). -/
def dropTlb (s : Chip) (p base n : Nat) : Chip :=
  let lo := tlbKey p base
  { s with plats := { s.plats with tlb := s.plats.tlb.filter (fun e =>
      !(e.1 / 2 ^ 36 == p && (n == 0 || (decide (lo ≤ e.1) && decide (e.1 < lo + n))))) } }

/-- An invalidation completes: OD 10.011 rises, INVAL_DONE. -/
def invalDone (s : Chip) (i : Inval) : Chip :=
  let s := odInc (dropTlb s i.plat i.base i.pages) 0x10011 0
  raiseP s evInvalDone i.plat (odN s 0x10011 0)

/-- XLATE_INVALIDATE (OD 10.010, R276): at most 4 pending; for a DISABLED platform it completes at once (R291). -/
def actXlateInvalidate : Act := fun s _ arg =>
  let p := fld arg 0 1
  let i : Inval := ⟨p, fld arg 4 4, fld arg 8 8⟩
  if 64 ≤ p ∨ fld arg 1 3 ≠ 0 ∨ i.base % 4096 ≠ 0 ∨ 2 ^ 48 ≤ i.base then refuse s eRange
  else if 4 ≤ s.plats.invals.length then refuse s eBusy
  else if platState s p = 0 then acted (invalDone s i)
  else
    let l := s.plats.invals ++ [i]
    acted (odSet { s with plats := { s.plats with invals := l } } 0x10012 0 l.length)

/-- XLATE_INVALIDATE. -/
def execXlateInvalidate (rq : Rq) (arg : Bytes) (s : State) : Host.Outcome State Fault Refusal :=
  run s (actionRow actXlateInvalidate 0x10010 rq arg)

/-- INVAL_DONE: the oldest pending invalidation completes, the accesses of its dropped entries having ended. -/
def execInvalDone (s : State) : Host.Outcome State Fault Refusal :=
  run s (fun c =>
    match c.plats.invals with
    | [] => c
    | i :: r => invalDone (odSet { c with plats := { c.plats with invals := r } } 0x10012 0 r.length) i)

/-! ## Granules -/

/-- A granule is free (R272): platform memory in service, zeroed, without an owner, not being reclaimed. -/
def granuleFree (s : Chip) (g : Nat) : Bool :=
  (tget? s.plats.owner g).isNone && !reclaiming s g &&
  match regionOf (g * granule) with
  | .near => s.boot.nearZeroed && !s.mem.retired.contains g
  | .staging d => dieLit s d
  | .far =>
    let f := g - 0x010000000000 / granule
    decide (f / 4 < tget 0 s.boot.farZeroed (f % 4)) && !s.ports.farOut.contains (f % 4)
  | _ => false

/-- GRANULE_GRANT (OD 10.030): all of the run or nothing; no granule of a weight bank (22 R538). -/
def actGranuleGrant : Act := fun s _ arg =>
  let base := fld arg 0 8
  let n := fld arg 8 4
  let p := fld arg 12 1
  let g := base / granule
  if base % granule ≠ 0 ∨ n = 0 ∨ 64 ≤ p ∨ fld arg 13 3 ≠ 0 ∨ 2 ^ 48 < base + n * granule then refuse s eRange
  else if !(List.range n).all (fun i => granuleFree s (g + i) && granKind (g + i) == granKind g
      && (bankAt s ((g + i) * granule)).isNone) then refuse s eRange
  else acted { s with plats := { s.plats with
    owner := (List.range n).foldl (fun o i => tput o (g + i) p) s.plats.owner } }

/-- GRANULE_GRANT. -/
def execGranuleGrant (rq : Rq) (arg : Bytes) (s : State) : Host.Outcome State Fault Refusal :=
  run s (actionRow actGranuleGrant 0x10030 rq arg)

/-- The owner of the first owned granule of a run; 0xFF: none. -/
def runOwner (s : Chip) (g n : Nat) : Nat :=
  ((s.plats.owner.find? (fun o => decide (g ≤ o.1) && decide (o.1 < g + n))).map (·.2)).getD 0xFF

/-- Steps 1 and 2 of a reclaim (R272): owners cleared, and cached translations that map into the run dropped. -/
def reclaimStart (s : Chip) (base n p : Nat) : Chip :=
  let g := base / granule
  { s with plats := { s.plats with
    owner := s.plats.owner.filter (fun o => !(decide (g ≤ o.1) && decide (o.1 < g + n)))
    tlb := s.plats.tlb.filter (fun e =>
      teHost e.2 || !(decide (base ≤ teAddr e.2) && decide (teAddr e.2 < base + n * granule)))
    reclaiming := s.plats.reclaiming ++ [⟨base, n, p⟩] } }

/-- GRANULE_RECLAIM (OD 10.031). -/
def actGranuleReclaim : Act := fun s _ arg =>
  let base := fld arg 0 8
  let n := fld arg 8 4
  if base % granule ≠ 0 ∨ n = 0 ∨ 2 ^ 48 < base + n * granule ∨ granKind (base / granule) = 6 then refuse s eRange
  else if (List.range n).any (fun i => reclaiming s (base / granule + i)) then refuse s eBusy
  else acted (reclaimStart s base n (runOwner s (base / granule) n))

/-- GRANULE_RECLAIM. -/
def execGranuleReclaim (rq : Rq) (arg : Bytes) (s : State) : Host.Outcome State Fault Refusal :=
  run s (actionRow actGranuleReclaim 0x10031 rq arg)

/-- The rest of a reclaim: accesses have ended, the run is zeroed and free (R272). -/
def reclaimEnd (s : Chip) (r : Reclaim) : Chip :=
  let s := zeroRange { s with plats := { s.plats with reclaiming := s.plats.reclaiming.erase r } } r.base (r.count * granule)
  raiseP s evGranuleReclaimed (if r.plat < 64 then r.plat else 0xFF) r.count

/-- GRANULE_RECLAIMED: the oldest run; it waits for a reset of its platform (R291). -/
def execGranuleReclaimed (s : State) : Host.Outcome State Fault Refusal :=
  run s (fun c =>
    match c.plats.reclaiming with
    | [] => c
    | r :: _ => if r.plat < 64 ∧ platState c r.plat = 2 then c else reclaimEnd c r)

/-! ## Writes in group 10 -/

/-- Rules on values written to group 10 (R271, Table 10-11). -/
def checkPlat (s : Chip) (obj sub : Nat) (v : Bytes) : Nat :=
  let n := leNat v
  if obj = 0x10013 then
    let b := fld v 0 8
    let l := fld v 8 8
    if b % 4096 ≠ 0 ∨ l % 4096 ≠ 0 ∨ (0 < l ∧ 191998459904 < b + l) then eRange
    else if odN s 0x10001 0 ≠ 0 then eBusy
    else eOk
  else if 0x10080 ≤ obj ∧ obj < 0x100C0 then
    if (sub = 1 ∧ 1 < n) ∨ (sub = 2 ∧ (n = 0 ∨ 64 < n)) then eRange
    else if platState s (obj - 0x10080) ≠ 0 then eBusy else eOk
  else if 0x100C0 ≤ obj ∧ obj < 0x10100 then
    if n % 4096 ≠ 0 then eRange
    else if platState s (obj - 0x100C0) ≠ 0 then eBusy else eOk
  else eOk

end Sys2Proof.Machine
end

