-- ==== Sys2Proof/Machine/HostLinks.lean ====
section
/-! DEFINITION. Host links, functions, BARs, MSI-X, SSD and far-tier links (11 R292 to R322). -/
namespace Sys2Proof.Machine

/-! ## Functions -/

/-- Host port and VF number of a VF's function number (100 + 64 * port + VF). -/
def fnPort (f : Nat) : Nat := (f - 101) / 64
/-- The VF number, 1 to 64. -/
def fnVf (f : Nat) : Nat := (f - 101) % 64 + 1

/-- A function number that names PF0, a carrier or a VF. -/
def fnKnown (f : Nat) : Bool := decide (f < 4) || (decide (101 ≤ f) && decide (f ≤ 228))

/-- The host link of a function. -/
def fnLink (s : Chip) (f : Nat) : Nat := if f < 4 then f else vfLink s (fnPort f) (fnVf f)

/-- The function is present: its link is up, and a VF is enabled. -/
def fnPresent (s : Chip) (f : Nat) : Bool :=
  fnKnown f && hostLinkUp s (fnLink s f) && (decide (f < 4) || vfEnabled s (fnPort f) (fnVf f))

/-- The platforms placed on a VF. -/
def platsOn (s : Chip) (f : Nat) : List Nat :=
  (List.range 64).filter (fun p => hostPort s p == fnPort f && vfNumber s p == fnVf f)

/-- The platform of a VF: the one that is not DISABLED, of which there is at most one (R270), else any placed there. -/
def platOfFn (s : Chip) (f : Nat) : Option Nat :=
  match (platsOn s f).find? (fun p => platState s p != 0) with
  | some p => some p
  | none => (platsOn s f).head?

/-- MSI-X vectors of a function (R307). -/
def vectors (f : Nat) : Nat := if f = 0 then 1024 else if f < 4 then 0 else 128

/-- A discarded BAR write (R301, R303). -/
def barDiscard (s : Chip) (f : Nat) : Chip := odInc s 0x11051 (fnLink s f + 1)

/-- A discarded doorbell (R304, R305). -/
def dbDiscard (s : Chip) (f : Nat) : Chip := odInc s 0x11050 (fnLink s f + 1)

/-- The function's BARs are decoded: Memory Space Enable, and not in D3hot (R300, R301). -/
def decodes (s : Chip) (f : Nat) : Bool := (fnOf s f).mse && !(fnOf s f).d3hot

/-- What may use a doorbell: a platform, or the open domain through PF0. -/
def dbOwner (p : Option Nat) : Nat := p.getD 0xFD

/-- A doorbell write up to the engine (R303 to R306, Table 6-3): `k` gets the OWNER of the function. -/
def doorbell (s : Chip) (f size : Nat) (sizes : List Nat) (rsv : Bool) (k : Chip → Nat → Chip) : Chip :=
  if !fnPresent s f ∨ (0 < f ∧ f < 4) then s
  else if s.boot.fatal then barDiscard s f
  else if !decodes s f ∨ (size ≠ 4 ∧ size ≠ 8) then barDiscard s f
  else if !sizes.contains size ∨ rsv then dbDiscard s f
  else if f = 0 then k s 0xFD
  else
    match platOfFn s f with
    | none => dbDiscard s f
    | some p =>
      if platOn s p then k s p
      else if platState s p = 0 then odInc s 0x01021 0
      else gateDiscard s p

/-- An engine doorbell: one 8-byte write, with `used` the bits Table 11-4 shows. -/
def engineDoorbell (s : Chip) (f size val used : Nat) (k : Chip → Nat → Chip) : Chip :=
  doorbell s f size [8] (val &&& used != val) k

/-- Slot `i` of DB_SIG: 16 bits of a binding object (19 R494). -/
def dbBinding (s : Chip) (owner slot : Nat) : Nat :=
  bits (odN s (if owner < 64 then 0x51200 + owner else 0x51240) (slot / 4 + 1) >>> (16 * (slot % 4))) 15 0

/-- DB_SIG (R305). -/
def dbSig (s : Chip) (f slot size val : Nat) : Chip :=
  doorbell s f size [4, 8] (decide (512 ≤ slot)) (fun s o =>
    let b := dbBinding s o slot
    if !bit b 15 then dbDiscard s f
    else sigAdd s (if o < 64 then .plat o else .opn) (b % 4096) (val % 2 ^ 32))

/-- DB_SIG. -/
def execDbSig (fn slot size val : Nat) (s : State) : Host.Outcome State Fault Refusal :=
  run s (fun c => dbSig c fn slot size val)

/-- BAR0 offsets that hold something (Table 11-3). -/
def barUsed (f off : Nat) : Bool :=
  decide (off < 0x80) || (decide (0x1000 ≤ off) && decide (off < 0x1030)) || (decide (0x2000 ≤ off) && decide (off < 0x3000))
    || (decide (0x8000 ≤ off) && decide (off < 0x8000 + 16 * vectors f))
    || (decide (0xC000 ≤ off) && decide (off < 0xC000 + vectors f / 8))

/-- A BAR access is one that R301 and R303 discard: not decoded, of another size or alignment, or at a reserved offset. -/
def barBad (s : Chip) (f bar off size : Nat) : Bool :=
  !decodes s f || (size != 4 && size != 8) || off % size != 0 || (bar == 0 && !barUsed f off) || (bar != 0 && bar != 2)

/-- BAR_ACCESS_DISCARD: a write is counted; a read is answered Unsupported Request, or zero at a reserved offset. After a
FATAL error every write is discarded, and a read returns zero (24 R600). -/
def execBarAccessDiscard (fn bar off size : Nat) (write : Bool) (s : State) : Host.Outcome State Fault Refusal :=
  run s (fun c =>
    if fnPresent c fn && (c.boot.fatal || barBad c fn bar off size) then
      (if write then barDiscard c fn else if c.boot.fatal then c else emit c (.unsupported (fnLink c fn)))
    else c)

/-- A vector masked or unmasked; unmasking sends one pending message (R308). -/
def msixUnmask (s : Chip) (f vec : Nat) (unmask : Bool) : Chip :=
  if !fnPresent s f ∨ vectors f ≤ vec then s
  else
    let x := fnOf s f
    let others := x.unmasked.filter (· != vec)
    if !unmask then setFn s f { x with unmasked := others }
    else
      let s := setFn s f { x with unmasked := vec :: others }
      if x.pend.contains vec && !x.fnMask then
        msix (setFn s f { fnOf s f with pend := x.pend.filter (· != vec) }) f (fnLink s f) vec
      else s

/-- MSIX_UNMASK. -/
def execMsixUnmask (fn vec : Nat) (unmask : Bool) (s : State) : Host.Outcome State Fault Refusal :=
  run s (fun c => msixUnmask c fn vec unmask)

/-! ## Host links -/

/-- The VFs that are gone: every ENABLED platform on them is reset (R295). -/
def resetLost (s : Chip) : Chip :=
  (List.range 64).foldl (fun s p => if platOn s p ∧ !hasFn s p then resetStart s p false else s) s

/-- VF Enable and NumVFs of the physical function of a link; OD 11.010 shows them (R294, R295). -/
def setVfs (s : Chip) (i : Nat) (on : Bool) (n : Nat) : Chip :=
  let had := (List.range 64).filter (fun p => platOn s p && hasFn s p)
  let s := setFn s i { fnOf s i with vfEnable := on, numVfs := n }
  let s := odSet s 0x11010 (i + 1) (if on then n else 0)
  had.foldl (fun s p => if hasFn s p then s else resetStart s p false) s

/-- TotalVFs of a link (R294). -/
def totalVfs (s : Chip) (i : Nat) : Nat := if bifurcated s (i / 2) then 32 else 64

/-- VF_ENABLE_CHANGE: a configuration write that the link completes. -/
def execVfEnableChange (link : Nat) (enable : Bool) (num : Nat) (s : State) : Host.Outcome State Fault Refusal :=
  run s (fun c =>
    if link < 4 ∧ hostLinkUp c link ∧ phase5 c ∧ num ≤ totalVfs c link then setVfs c link enable num else c)

/-- PF0's mailbox block, forward ring and MSI-X state cleared (R299). -/
def pf0Clear (s : Chip) : Chip :=
  let x := fnOf s 0
  setMbx (setFn s 0 { x with fnMask := false, unmasked := [], pend := [] }) 64 Mbx.off

/-- PF0_FLR. -/
def execPf0Flr (s : State) : Host.Outcome State Fault Refusal :=
  run s (fun c => if fnPresent c 0 ∧ phase5 c then pf0Clear c else c)

/-- CARRIER_FLR: the VFs of a carrier function are disabled (R299). -/
def execCarrierFlr (link : Nat) (s : State) : Host.Outcome State Fault Refusal :=
  run s (fun c => if 0 < link ∧ link < 4 ∧ fnPresent c link then setVfs c link false 0 else c)

/-- D3HOT_ENTRY: BAR decoding of the function stops, and nothing else (R300). -/
def execD3hotEntry (link : Nat) (s : State) : Host.Outcome State Fault Refusal :=
  run s (fun c => if link < 4 ∧ fnPresent c link then setFn c link { fnOf c link with d3hot := true } else c)

/-- Width a link is configured for: x16, or x8 on a bifurcated port (R292). -/
def linkWidth (s : Chip) (i : Nat) : Nat := if bifurcated s (i / 2) then 8 else 16

/-- A link exists: secondary links only on bifurcated ports (R292). -/
def linkExists (s : Chip) (i : Nat) : Bool := decide (i < 4) && (i % 2 == 0 || bifurcated s (i / 2))

/-- The word of OD 11.003: width, rate code, Flit mode, state. -/
def linkWord (width rate : Nat) (flit : Bool) (state : Nat) : Nat :=
  width * 65536 + rate * 256 + 16 * b2n flit + state

/-- A host link comes up (R293, R309): from training, at a rate up to the limit of OD 11.004. -/
def hostLinkComesUp (s : Chip) (i width rate : Nat) (flit : Bool) : Chip :=
  if !linkExists s i ∨ odN s 0x11003 (i + 1) % 4 ≠ 1 ∨ perstOn s (i / 2) ∨ rate < 1 ∨ odN s 0x11004 (i / 2 + 1) < rate
      ∨ linkWidth s i < width then s
  else
    let s := raise (odSet s 0x11003 (i + 1) (linkWord width rate flit 2)) evHostLinkUp i
    if width < linkWidth s i ∨ rate < odN s 0x11004 (i / 2 + 1) then
      raise s evLinkDegraded (i + width * 256 + rate * 65536)
    else s

/-- HOST_LINK_UP. -/
def execHostLinkUp (link width rate : Nat) (flit : Bool) (s : State) : Host.Outcome State Fault Refusal :=
  run s (fun c => hostLinkComesUp c link width rate flit)

/-- A link's functions lose what the host programmed, and every platform on it is reset (R169, R309); with link 0 PF0 is
absent. The link's state becomes `st`. -/
def hostLinkLost (s : Chip) (i st : Nat) : Chip :=
  let had := (List.range 64).filter (fun p => platOn s p && hasFn s p && linkOfPlat s p == i)
  let wasUp := hostLinkUp s i
  let s := odSet s 0x11003 (i + 1) st
  let s := { s with ports := { s.ports with fns := s.ports.fns.filter (fun f =>
    !(f.1 == i || (decide (101 ≤ f.1) && vfLink s (fnPort f.1) (fnVf f.1) == i))) } }
  let s := odSet s 0x11010 (i + 1) 0
  let s := had.foldl (fun s p => resetStart s p false) s
  let s := if i = 0 then setMbx s 64 Mbx.off else s
  if wasUp then raise (odInc s 0x11060 (i + 1)) evHostLinkDown i else s

/-- HOST_LINK_DOWN: the link trains again. -/
def execHostLinkDown (link : Nat) (s : State) : Host.Outcome State Fault Refusal :=
  run s (fun c => if link < 4 ∧ hostLinkUp c link then hostLinkLost c link 1 else c)

/-! ## SSD and far-tier links -/

/-- An SSD or far-tier link before its first training. -/
def Link.off : Link := ⟨0, none, false⟩

/-- Timers of a link index. -/
def linkOf (s : Chip) (i : Nat) : Link := tget Link.off s.ports.links i

/-- Set them. -/
def setLink (s : Chip) (i : Nat) (l : Link) : Chip := { s with ports := { s.ports with links := tput s.ports.links i l } }

/-- The state of SSD port `p`. -/
def ssdState (s : Chip) (p : Nat) : Nat := odN s 0x11021 (p + 1) % 4

/-- Drive a PERST_N output. -/
def drivePerst (s : Chip) (i : Nat) (high : Bool) : Chip := emit (setLink s i { linkOf s i with perstN := high }) (.perst i high)

/-- SSD_PRESENCE_DETECT: PRSNT_N low since running time `lowSince`, for 100 ms, on an enabled port (R311, R321). -/
def execSsdPresenceDetect (port lowSince : Nat) (s : State) : Host.Outcome State Fault Refusal :=
  run s (fun c =>
    if port < 8 ∧ c.boot.signalBox ∧ bit (odN c 0x11020 0) port ∧ ssdState c port = 0 ∧ lowSince + 100000000 ≤ nowNs c then
      odSet (drivePerst (setLink c (4 + port) { linkOf c (4 + port) with presentSince := some lowSince }) (4 + port) true)
        0x11021 (port + 1) 1
    else c)

/-- SSD_PRESENT: a training SSD link is up; an endpoint of another class code is left unconfigured, state 3 (R310). -/
def execSsdPresent (port width rate cls : Nat) (s : State) : Host.Outcome State Fault Refusal :=
  run s (fun c =>
    if port < 8 ∧ ssdState c port = 1 ∧ 1 ≤ rate ∧ rate ≤ 5 ∧ width ≤ 4 then
      if cls = 0x010802 then
        raise (odSet (odSet c 0x30022 (port + 1) 1) 0x11021 (port + 1) (linkWord width rate false 2)) evSsdPresent (4 + port)
      else odSet c 0x11021 (port + 1) (linkWord width rate false 3)
    else c)

/-- The state of far-tier port `p`. -/
def farState (s : Chip) (p : Nat) : Nat := odN s 0x11031 (p + 1) % 4

/-- A far-tier link goes down: its granules leave service until the next reset (R317); retries follow every 1 s. -/
def farDown (s : Chip) (p : Nat) : Chip :=
  if farState s p ≠ 2 then s
  else
    let zeroed := tget 0 s.boot.farZeroed p * granule
    let s := if s.ports.farOut.contains p then s
      else capacity { s with ports := { s.ports with farOut := s.ports.farOut ++ [p] } } 0x01047 (odN s 0x01047 0 - zeroed)
    let s := odInc (odSet s 0x11031 (p + 1) 0) 0x11060 (12 + p + 1)
    raise (setLink s (12 + p) { linkOf s (12 + p) with retryAt := nowNs s + 1000000000 }) evFarLinkDown (12 + p)

/-- FAR_LINK_DOWN. -/
def execFarLinkDown (port : Nat) (s : State) : Host.Outcome State Fault Refusal :=
  run s (fun c => if port < 4 then farDown c port else c)

/-- FAR_LINK_RETRY: a down port that is enabled trains again. -/
def execFarLinkRetry (port : Nat) (s : State) : Host.Outcome State Fault Refusal :=
  run s (fun c =>
    if port < 4 ∧ farState c port < 2 ∧ bit (odN c 0x11030 0) port ∧ (linkOf c (12 + port)).retryAt ≤ nowNs c
        ∧ 0 < (linkOf c (12 + port)).retryAt then
      setLink (odSet c 0x11031 (port + 1) 1) (12 + port)
        { linkOf c (12 + port) with retryAt := nowNs c + 1000000000 }
    else c)

end Sys2Proof.Machine
end

