-- ==== Sys2Proof/Machine/Storage.lean ====
section
/-! DEFINITION. The storage engine (16): namespaces (R414, R415), native queues and waybills (R416 to R425), inline XTS
(R426), local SSDs (R427, R428, 11 R311 to R313) and remote targets (R429). What a back end answers is the outside's. -/
namespace Sys2Proof.Machine

/-! ## Namespaces -/

/-- The record of namespace `k` (Table 16-1). -/
def nsRec (s : Chip) (k : Nat) : Bytes := odB s (0x30400 + k / 16) (k % 16 + 1)
/-- NS_STATE: 0 unused, 1 PREPARING, 2 READY, 3 FAILED. -/
def nsState (s : Chip) (k : Nat) : Nat := odN s (0x30440 + k / 16) (k % 16 + 1)
/-- Set NS_STATE. -/
def setNsState (s : Chip) (k v : Nat) : Chip := odSet s (0x30440 + k / 16) (k % 16 + 1) v
/-- OWNER -/
def nsOwner (r : Bytes) : Nat := fld r 0 1
/-- FLAGS -/
def nsFlags (r : Bytes) : Nat := fld r 1 1
/-- Block size in bytes. -/
def nsBlock (r : Bytes) : Nat := 2 ^ fld r 2 1
/-- BACKEND -/
def nsBack (r : Bytes) : Nat := fld r 3 1
/-- BLOCKS -/
def nsBlocks (r : Bytes) : Nat := fld r 16 8
/-- The namespace is encrypted. -/
def nsXts (r : Bytes) : Bool := bit (nsFlags r) 1

/-- A back end is READY (OD 30.022, OD 30.033). -/
def backReady (s : Chip) (be : Nat) : Bool :=
  if be < 8 then odN s 0x30022 (be + 1) == 2
  else if 0x10 ≤ be ∧ be < 0x20 then odN s 0x30033 (be - 0x10 + 1) == 2
  else false

/-- A back end as identified. -/
def backOf (s : Chip) (be : Nat) : BackEnd := tget ⟨[], false, 0⟩ s.storage.backs be

/-- Set it. -/
def setBack (s : Chip) (be : Nat) (b : BackEnd) : Chip :=
  { s with storage := { s.storage with backs := tput s.storage.backs be b } }

/-- The back end still has the namespace's NSID, block size and range (R414, R428). -/
def backHas (s : Chip) (r : Bytes) : Bool :=
  (backOf s (nsBack r)).ns.any (fun n =>
    n.1 == fld r 4 4 && n.2.1 == fld r 2 1 && decide (fld r 8 8 + nsBlocks r ≤ n.2.2))

/-- Two records take blocks of one back-end namespace. -/
def nsOverlap (r t : Bytes) : Bool :=
  nsBack r == nsBack t && fld r 4 4 == fld t 4 4 && overlapN (fld r 8 8) (nsBlocks r) (fld t 8 8) (nsBlocks t)
where
  /-- Two runs of blocks share one. -/
  overlapN (a n b m : Nat) : Bool := decide (a < b + m) && decide (b < a + n)

/-- Waybills on a namespace in flight. -/
def nsBusy (s : Chip) (k : Nat) : Bool := s.storage.queues.any (fun q => q.2.wbs.any (fun w => fld w.b 4 2 == k))

/-- The rules for a record write (R414); the back-end conditions concern a valid record (log 59). -/
def checkNs (s : Chip) (k : Nat) (v : Bytes) : Nat :=
  let old := nsRec s k
  let seg := slotOwner s (fld v 24 2)
  if nsOwner old < 64 ∧ platState s (nsOwner old) ≠ 0 then eBusy
  else if nsBusy s k then eBusy
  else if !(nsOwner v < 64 ∨ nsOwner v = 0xFD ∨ nsOwner v = 0xFF) ∨ 32 ≤ nsFlags v then eRange
  else if !bit (nsFlags v) 0 then eOk
  else if nsOwner v = 0xFF ∨ (fld v 2 1 ≠ 9 ∧ fld v 2 1 ≠ 12) ∨ nsBlocks v = 0 then eRange
  else if !backReady s (nsBack v) ∨ !backHas s v then eRange
  else if (List.range 1024).any (fun j => j != k && bit (nsFlags (nsRec s j)) 0 && nsOverlap v (nsRec s j)) then eRange
  else if nsXts v ∧ (keySlots ≤ fld v 24 2 ∨ seg ≠ nsOwner v) then eRange
  else eOk

/-- The clearing of a range (R415): deallocate, or Write Zeroes. -/
def nsPrepare (s : Chip) (k : Nat) : Chip :=
  let r := nsRec s k
  let cmd := if (backOf s (nsBack r)).zeroes then 0x09 else 0x08
  emit (setNsState s k 1) (.nvme (nsBack r) cmd (slice r 4 20))

/-- After an accepted record write (R415). -/
def effectNs (s : Chip) (k : Nat) (old : Bytes) : Chip :=
  let r := nsRec s k
  if !bit (nsFlags r) 0 then setNsState s k 0
  else if bit (nsFlags old) 0 then s
  else if nsBack r < 8 then nsPrepare s k
  else setNsState s k 2

/-- NS_READY: the clearing of a PREPARING namespace completes (R415). -/
def execNsReady (k : Nat) (s : State) : Host.Outcome State Fault Refusal :=
  run s (fun c =>
    if k < 1024 ∧ nsState c k = 1 ∧ backReady c (nsBack (nsRec c k)) then
      raiseP (setNsState c k 2) evNsReady (nsOwner (nsRec c k)) k
    else c)

/-! ## Queue ranges -/

/-- The storage record of a platform, OD 30.040 + n. -/
def platStorage (s : Chip) (p : Nat) : Bytes := odB s (0x30040 + p) 0

/-- A native queue lies in a platform's range. -/
def inPlatRange (s : Chip) (p q : Nat) : Bool :=
  let r := platStorage s p
  decide (fld r 0 2 ≤ q) && decide (q < fld r 0 2 + fld r 2 2)

/-- It carries an emulated I/O queue (16, NVMe emulation). -/
def emulQueue (s : Chip) (p q : Nat) : Bool :=
  let r := platStorage s p
  fld r 4 1 == 1 && decide (fld r 0 2 ≤ q) && decide (q < fld r 0 2 + fld r 5 1)

/-- The queue belongs to an owner: in its range, or outside every platform's for a domain (R416). -/
def queueOwned (s : Chip) (owner q : Nat) : Bool :=
  decide (q < 4096) && (if owner < 64 then inPlatRange s owner q else (List.range 64).all (fun p => !inPlatRange s p q))

/-- The owner a requester stands for. -/
def reqOwner (d : Dom) : Nat := match d with | .plat n => n | _ => 0xFD

/-- A dispatch queue in use names the completion ring. -/
def cqOfDispatch (s : Chip) (n : Nat) : Bool := (List.range 192).any (fun d => dqMode s d == 2 && dqCq s d == n)

/-- OD 30.010 (R416). -/
def actSqCreate : Act := fun s rq arg =>
  let owner := reqOwner (domainOf s rq)
  let q := fld arg 0 2
  let log := fld arg 2 1
  let cq := fld arg 4 2
  if log < 6 ∨ 12 < log ∨ fld arg 3 1 ≠ 0 ∨ fld arg 6 2 ≠ 0 ∨ fld arg 16 8 ≠ 0 ∨ fld arg 8 8 % 4096 ≠ 0 then refuse s eRange
  else if !queueOwned s owner q ∨ (owner < 64 ∧ emulQueue s owner q) ∨ (nqOf s q).isSome then refuse s eRange
  else if !(cqOf s cq).any (fun c => c.owner == owner) ∨ (feeders s cq).length ≠ 0 ∨ cqOfDispatch s cq then refuse s eRange
  else acted (setNq s q ⟨owner, log, cq, fld arg 8 8, 0, 0, false, [], 0, false, [], false⟩)

/-- SQ_CREATE. -/
def execSqCreate (rq : Rq) (arg : Bytes) (s : State) : Host.Outcome State Fault Refusal :=
  run s (actionRow actSqCreate 0x30010 rq arg)

/-- Free a queue: waybills that have started go on without it (16 R417; log 60). -/
def sqFree (s : Chip) (n : Nat) : Chip :=
  { s with storage := { s.storage with queues := tdel s.storage.queues n } }

/-- OD 30.011 (R417): as ERROR, then the queue is freed once the waybills already started have completed. -/
def actSqDelete : Act := fun s rq arg =>
  let n := leNat arg
  match nqOf s n with
  | none => refuse s eRange
  | some q =>
    if domainOf s rq ≠ .sealed ∧ reqOwner (domainOf s rq) ≠ q.owner then refuse s eRange
    else
      let f := takeFree s 8
      let s := sqFlush (setNq f.2 n { q with error := true }) n
      let s := if q.error then s else raiseP s evSqError (if q.owner < 64 then q.owner else 0xFF) (n + f.1 * 65536)
      match nqOf s n with
      | none => acted s
      | some q => if q.wbs.isEmpty then acted (sqFree s n) else acted (setNq s n { q with freed := true })

/-- SQ_DELETE. -/
def execSqDelete (rq : Rq) (arg : Bytes) (s : State) : Host.Outcome State Fault Refusal :=
  run s (actionRow actSqDelete 0x30011 rq arg)

/-- A deleted queue is freed with its last waybill. -/
def sqReap (s : Chip) (n : Nat) : Chip :=
  match nqOf s n with
  | none => s
  | some q => if q.freed ∧ q.wbs.isEmpty then sqFree s n else s

/-! ## Fetching waybills -/

/-- OPCODE -/
def wbOp (b : Bytes) : Nat := fld b 2 1
/-- NS -/
def wbNs (b : Bytes) : Nat := fld b 4 2
/-- KET -/
def wbKet (b : Bytes) : Nat := fld b 6 2
/-- LBA -/
def wbLba (b : Bytes) : Nat := fld b 16 8
/-- BLOCKS -/
def wbBlocks (b : Bytes) : Nat := fld b 24 4
/-- ADDR -/
def wbAddr (b : Bytes) : Nat := fld b 32 8
/-- The cache hint of FLAGS[3:2]. -/
def wbHint (b : Bytes) : Nat := bits (fld b 3 1) 3 2
/-- Bytes of data that a waybill moves or clears. -/
def wbBytes (w : Wb) : Nat := if wbOp w.b = 3 then 0 else wbBlocks w.b * nsBlock w.ns
/-- A write-class command: WRITE, DEALLOCATE, WRITE_ZEROES. -/
def wbWrites (op : Nat) : Bool := op == 2 || op == 4 || op == 5

/-- The check of a waybill against its record (R419, R415, R428): 0 or a status of Table 16-5. -/
def wbCheck (s : Chip) (owner : Nat) (b r : Bytes) : Nat :=
  let op := wbOp b
  let limit := 16777216 / nsBlock r
  if 16 ≤ fld b 3 1 ∨ fld b 30 2 ≠ 0 ∨ !isZero (slice b 40 24) ∨ !([1, 2, 3, 4, 5, 8].contains op) ∨ 1024 ≤ wbNs b
      ∨ 2048 ≤ wbKet b ∨ !bit (nsFlags r) 0 ∨ nsOwner r ≠ owner
      ∨ (wbAddr b ≠ 0 ∧ (op = 3 ∨ op = 4 ∨ op = 5)) then 1
  else if op ≠ 3 ∧ nsBlocks r < wbLba b + wbBlocks b then 2
  else if (op = 3 ∧ wbBlocks b ≠ 0) ∨ (op ≠ 3 ∧ wbBlocks b = 0)
      ∨ ((op = 1 ∨ op = 2 ∨ ((op = 4 ∨ op = 5) ∧ nsXts r)) ∧ limit < wbBlocks b) then 3
  else if wbWrites op ∧ bit (nsFlags r) 2 then 13
  else if nsState s (wbNs b) ≠ 2 ∨ !backReady s (nsBack r) then 15
  else 0

/-- A waybill joins its queue, checked against its namespace's record as it stands (R414). -/
def wbJoin (s : Chip) (n : Nat) (q : NativeQ) (b : Bytes) (src ref head : Nat) (prp : List (Nat × Nat)) : Chip :=
  let r := nsRec s (wbNs b % 1024)
  let st := wbCheck s q.owner b r
  let w : Wb := ⟨q.nextSeq, b, src, ref, r, 0, 0, st, 0, 0, head, nowNs s, none, prp, 0⟩
  let s := if wbOrdered b ∧ !q.wbs.isEmpty then
      (let s := odAdd64 s 0x30050 7 1; if q.owner < 64 then odAdd64 s (0x30080 + q.owner) 7 1 else s) else s
  setNq s n { q with nextSeq := q.nextSeq + 1, wbs := q.wbs ++ [w] }

/-- Fetch waybills in ring order while fewer than 256 are in flight (R417). A ring that cannot be read holds no waybill with
the expected index. -/
def sqFetch (s : Chip) (n : Nat) : Nat → Chip
  | 0 => s
  | k + 1 =>
    match nqOf s n with
    | none => s
    | some q =>
      if q.error ∨ q.head = q.tail ∨ 256 ≤ q.wbs.length then s
      else
        let x := xferRead s (agentOf q.owner) (q.base + 64 * (q.head % 2 ^ q.log)) 64 0 0 uStorage Bound.free
        if x.st ≠ 0 ∨ fld x.bytes 0 2 ≠ q.head then sqErrorEnter x.s n 2
        else sqFetch (wbJoin x.s n { q with head := idxNext q.head } x.bytes 0 0 (idxNext q.head) []) n k

/-- An accepted tail (R417). -/
def sqTail (s : Chip) (n tail : Nat) : Chip :=
  match nqOf s n with
  | none => s
  | some q =>
    if q.error then s
    else if 2 ^ q.log < idxSub tail q.head then sqErrorEnter s n 1
    else sqFetch (setNq s n { q with tail := tail }) n 256

/-- DB_SQ: [47:32] native queue, [15:0] tail (Table 11-4). -/
def execDbSq (fn size val : Nat) (s : State) : Host.Outcome State Fault Refusal :=
  run s (fun c => engineDoorbell c fn size val (0xFFFF * 2 ^ 32 + 0xFFFF) (fun s owner =>
    match nqOf s (bits val 47 32) with
    | none => dbDiscard s fn
    | some q => if q.owner = owner then sqTail s (bits val 47 32) (val % 65536) else dbDiscard s fn))

/-! ## Starting waybills -/

/-- A waybill of a queue. -/
def wbOf (s : Chip) (n seq : Nat) : Option Wb := (nqOf s n).bind (fun q => q.wbs.find? (fun w => w.seq == seq))

/-- Change a waybill. -/
def setWb (s : Chip) (n : Nat) (w : Wb) : Chip :=
  match nqOf s n with
  | none => s
  | some q => setNq s n { q with wbs := q.wbs.map (fun x => if x.seq == w.seq then w else x) }

/-- Every earlier waybill of the queue has completed. -/
def wbFirst (s : Chip) (n seq : Nat) : Bool := (nqOf s n).any (fun q => q.wbs.all (fun w => decide (seq ≤ w.seq)))

/-- The engine status of a key check (R431); a key without USE[1] or of another length is no key for XTS (log 61). -/
def wbKey (s : Chip) (r : Bytes) : Nat :=
  let slot := fld r 24 2
  match keyCheck s (nsOwner r) slot (fld r 26 2) 1 with
  | 0 => let n := (keySlot s slot).key.length; if n = 32 ∨ n = 64 then 0 else 9
  | 2 => 10
  | 4 => 11
  | _ => 9

/-- XTS over whole blocks from a namespace LBA (R426). -/
def wbXts (s : Chip) (r : Bytes) (enc : Bool) (lba : Nat) (data : Bytes) : Bytes :=
  aesXts enc (keySlot s (fld r 24 2)).key (nsBlock r) (fld r 28 4 * 2 ^ 64 + lba) data

/-- A waybill that runs: a command to its back end, in flight from now on. -/
def wbIssue (s : Chip) (n : Nat) (w : Wb) (cmd : Nat) (data : Bytes) : Chip :=
  let s := if nsXts w.ns ∧ cmd ≠ 0 then keyIssue s (fld w.ns 24 2) true else s
  emit (setWb s n { w with stage := 2, since := nowNs s })
    (.nvme (nsBack w.ns) cmd (slice w.ns 4 4 ++ leBytes 8 (fld w.ns 8 8 + wbLba w.b) ++ leBytes 4 (wbBlocks w.b) ++ data))

/-- A waybill that ends before it reaches its back end. -/
def wbStop (s : Chip) (n : Nat) (w : Wb) (st : Nat) : Chip := setWb s n { w with stage := 3, status := st }

/-- The parts that every start shares (R418, R423): admitted, of this command, its turn if ORDERED, its back end and key
usable; then `k`. -/
def wbStart (s : Chip) (n seq op : Nat) (k : Chip → Wb → Chip) : Chip :=
  match wbOf s n seq with
  | none => s
  | some w =>
    if w.stage ≠ 1 ∨ wbOp w.b ≠ op ∨ (wbOrdered w.b ∧ !wbFirst s n seq) then s
    else if !backReady s (nsBack w.ns) then wbStop s n w 15
    else if nsXts w.ns ∧ op ≠ 3 ∧ wbKey s w.ns ≠ 0 then wbStop s n w (wbKey s w.ns)
    else k s w

/-- NVMe command codes: Flush 0x00, Write 0x01, Read 0x02, Write Zeroes 0x08, Dataset Management 0x09. -/
def wbRead (s : Chip) (n : Nat) (w : Wb) : Chip := wbIssue s n w 0x02 []

/-- WAYBILL_READ: the read command goes to the back end. -/
def execWaybillRead (q seq : Nat) (s : State) : Host.Outcome State Fault Refusal :=
  run s (fun c => wbStart c q seq 1 (fun s w => wbRead s q w))

/-- LOAD_TO_TIER. -/
def execLoadToTier (q seq : Nat) (s : State) : Host.Outcome State Fault Refusal :=
  run s (fun c => wbStart c q seq 8 (fun s w => wbRead s q w))

/-- The status of a failed local transfer. -/
def wbXferStatus (st : Nat) : Nat := if st = 1 then 4 else if st = 2 then 5 else 0

/-- The owner of a queue as an agent. -/
def wbAgent (s : Chip) (n : Nat) : Agent := match nqOf s n with | some q => agentOf q.owner | none => .opn

/-- A write: the data is read, encrypted where the namespace is, checked, and goes to the back end (R426). -/
def wbWrite (s : Chip) (n : Nat) (w : Wb) (data : Bytes) (mismatch : Bool) : Chip :=
  if nsXts w.ns then
    if mismatch then wbStop s n w 12
    else wbIssue s n w 0x01 (wbXts s w.ns true (wbLba w.b) data)
  else wbIssue s n w 0x01 data

/-- The runs of memory of a waybill's local buffer. -/
def wbSegs (w : Wb) : List (Nat × Nat) := if w.prp.isEmpty then [(wbAddr w.b, wbBytes w)] else w.prp

/-- Read runs of memory in order. -/
def segRead (s : Chip) (g : Agent) (hint : Nat) : List (Nat × Nat) → Xfer
  | [] => ⟨0, [], 0, s⟩
  | (a, n) :: r =>
    let x := xferRead s g a n hint 0 uStorage Bound.free
    if x.st ≠ 0 then x
    else
      let y := segRead x.s g hint r
      ⟨y.st, x.bytes ++ y.bytes, x.count + y.count, y.s⟩

/-- Write bytes over runs of memory in order. -/
def segWrite (s : Chip) (g : Agent) (hint : Nat) (b : Bound) : Bytes → List (Nat × Nat) → Xfer
  | _, [] => ⟨0, [], 0, s⟩
  | v, (a, n) :: r =>
    let x := xferWrite s g a (v.take n) hint 0 uStorage b
    if x.st ≠ 0 then x
    else
      let y := segWrite x.s g hint b (v.drop n) r
      ⟨y.st, [], x.count + y.count, y.s⟩

/-- WAYBILL_WRITE; `mismatch`: a check of the cipher engine failed. -/
def execWaybillWrite (q seq : Nat) (mismatch : Bool) (s : State) : Host.Outcome State Fault Refusal :=
  run s (fun c => wbStart c q seq 2 (fun s w =>
    let x := segRead s (wbAgent s q) (wbHint w.b) (wbSegs w)
    if x.st ≠ 0 then wbStop x.s q w (wbXferStatus x.st) else wbWrite x.s q w x.bytes mismatch))

/-- FLUSH. -/
def execFlush (q seq : Nat) (s : State) : Host.Outcome State Fault Refusal :=
  run s (fun c => wbStart c q seq 3 (fun s w => wbIssue s q w 0x00 []))

/-- DEALLOCATE; on an XTS namespace it writes encrypted zeros (R419). -/
def execDeallocate (q seq : Nat) (mismatch : Bool) (s : State) : Host.Outcome State Fault Refusal :=
  run s (fun c => wbStart c q seq 4 (fun s w =>
    if nsXts w.ns then wbWrite s q w (zeros (wbBytes w)) mismatch else wbIssue s q w 0x09 []))

/-- WRITE_ZEROES; on an XTS namespace it writes encrypted zeros (R419). -/
def execWriteZeroes (q seq : Nat) (mismatch : Bool) (s : State) : Host.Outcome State Fault Refusal :=
  run s (fun c => wbStart c q seq 5 (fun s w =>
    if nsXts w.ns then wbWrite s q w (zeros (wbBytes w)) mismatch else wbIssue s q w 0x08 []))

/-! ## Completing waybills -/

/-- The end of a waybill: its key is released, its completion written (R421), and its queue fetches on. -/
def wbEnd (s : Chip) (n : Nat) (w : Wb) (energy : Nat) (issued : Bool) : Chip :=
  let s := if issued ∧ nsXts w.ns ∧ wbOp w.b ≠ 3 then keyIssue s (fld w.ns 24 2) false else s
  sqReap (sqFetch (wbComplete s n w energy) n 256) n

/-- The bound and hint of a waybill's data (R420). -/
def wbBound (w : Wb) : Bound := if wbOp w.b = 8 then ⟨0, 2 ^ 64, .tiers⟩ else Bound.free

/-- The hint: LOAD_TO_TIER places with STREAM unless another is named (R420). -/
def wbPlace (w : Wb) : Nat := if wbOp w.b = 8 ∧ wbHint w.b = 0 then 1 else wbHint w.b

/-- Data of a read placed (R420, R426): decrypted block by block; a block whose check fails and those behind it are
withheld. Result: status, bytes moved. -/
def wbDeliver (s : Chip) (n : Nat) (w : Wb) (data : Bytes) (bad : Option Nat) : Nat × Nat × Chip :=
  let bs := nsBlock w.ns
  let text := if nsXts w.ns then wbXts s w.ns false (wbLba w.b) (slice data 0 (wbBytes w)) else slice data 0 (wbBytes w)
  let good := match bad with
    | some k => if nsXts w.ns then min (k * bs) text.length else text.length
    | none => text.length
  let x := segWrite s (wbAgent s n) (wbPlace w) (wbBound w) (text.take good) (wbSegs w)
  (if x.st ≠ 0 then wbXferStatus x.st else if good < text.length then 12 else 0, x.count, x.s)

/-- Bytes counted for reads and writes (OD 30.050:2, 3). -/
def wbMoved (s : Chip) (owner sub n : Nat) : Chip :=
  let s := odAdd64 s 0x30050 sub n
  if owner < 64 then odAdd64 s (0x30080 + owner) sub n else s

/-- The owner of a queue. -/
def nqOwner (s : Chip) (n : Nat) : Nat := match nqOf s n with | some q => q.owner | none => 0xFF

/-- A back end answers with NVMe status `nv` (0: success), `data` where it read. -/
def wbAnswer (s : Chip) (n : Nat) (w : Wb) (nv : Nat) (data : Bytes) (bad : Option Nat) (energy : Nat) : Chip :=
  if nv ≠ 0 then wbEnd s n { w with status := 6, detail := nv % 65536 } energy true
  else if wbOp w.b = 1 ∨ wbOp w.b = 8 then
    let r := wbDeliver s n w data bad
    wbEnd (wbMoved r.2.2 (nqOwner s n) 2 r.2.1) n { w with status := r.1, bytes := r.2.1 } energy true
  else
    let m := wbBytes w
    let s := if wbOp w.b = 2 then wbMoved s (nqOwner s n) 3 m else s
    wbEnd s n { w with status := 0, bytes := m } energy true

/-- WAYBILL_COMPLETE: a waybill whose check failed, that was stopped, or whose back end answers, finishes (R421, R423). -/
def execWaybillComplete (q seq nv : Nat) (data : Bytes) (bad : Option Nat) (energy : Nat) (s : State) :
    Host.Outcome State Fault Refusal :=
  run s (fun c =>
    match wbOf c q seq with
    | none => c
    | some w =>
      if wbOrdered w.b ∧ !wbFirst c q seq then c
      else if w.stage = 3 ∨ (w.stage = 0 ∧ w.status ≠ 0) then wbEnd c q w energy false
      else if w.stage = 2 ∧ backReady c (nsBack w.ns) then wbAnswer c q w nv data bad energy
      else c)

/-- Waybills of a queue vanish without a completion (Table 10-8, R430). -/
def wbAbortAll (s : Chip) (n : Nat) : Chip :=
  match nqOf s n with
  | none => s
  | some q =>
    q.wbs.foldl (fun s w =>
      let s := if w.stage = 2 ∧ nsXts w.ns ∧ wbOp w.b ≠ 3 then keyIssue s (fld w.ns 24 2) false else s
      if w.adm = 0 then s else jobEnd s w.adm) (setNq s n { q with wbs := [] })

/-- Every waybill in flight on a back end completes with a status (R427 to R429). -/
def failBack (s : Chip) (be st : Nat) : Chip :=
  s.storage.queues.foldl (fun s q =>
    (q.2.wbs.filter (fun w => w.stage == 2 && nsBack w.ns == be)).foldl
      (fun s w => wbEnd s q.1 { w with status := st } 0 true) s) s

/-! ## Local SSDs -/

/-- A namespace on a back end that has come back (R428, R415): READY again if it checks, cleared again if its clearing was
cut short, else FAILED. -/
def nsReturn (s : Chip) (be k : Nat) : Chip :=
  let r := nsRec s k
  if !bit (nsFlags r) 0 ∨ nsBack r ≠ be ∨ nsState s k = 3 then s
  else if backHas s r then (if nsState s k = 1 then nsPrepare s k else setNsState s k 2)
  else raiseP (setNsState s k 3) evNsFailed (nsOwner r) k

/-- Every namespace of a back end. -/
def nsReturns (s : Chip) (be : Nat) : Chip := (List.range 1024).foldl (fun s k => nsReturn s be k) s

/-- SSD_INIT_DONE (R427, R422): the controller is enabled, its queues made and Identify read: its namespaces as NSID, block
shift and blocks, whether its atomic write unit is at least a block, and whether deallocated blocks read as zero. -/
def execSsdInitDone (port : Nat) (ns : List (Nat × Nat × Nat)) (awuOk zeroes : Bool) (s : State) :
    Host.Outcome State Fault Refusal :=
  run s (fun c =>
    if port < 8 ∧ odN c 0x30022 (port + 1) = 1 ∧ ssdState c port = 2 then
      if awuOk then
        let c := setBack (odSet c 0x30022 (port + 1) 2) port ⟨ns, zeroes, 0⟩
        nsReturns (raise c evSsdReady (4 + port)) port
      else odSet c 0x30022 (port + 1) 3
    else c)

/-- SSD_TIMEOUT (R427): a command not completed within OD 30.020 ms is aborted. -/
def execSsdTimeout (q seq : Nat) (s : State) : Host.Outcome State Fault Refusal :=
  run s (fun c =>
    match wbOf c q seq with
    | none => c
    | some w =>
      if w.stage = 2 ∧ nsBack w.ns < 8 ∧ w.abortAt = none ∧ w.since + ms (odN c 0x30020 0) ≤ nowNs c then
        let c := odAdd64 (setWb c q { w with abortAt := some (nowNs c) }) 0x30050 5 1
        let c := if nqOwner c q < 64 then odAdd64 c (0x30080 + nqOwner c q) 5 1 else c
        raise (emit c (.nvme (nsBack w.ns) 0x108 (leBytes 2 (seq % 65536)))) evSsdTimeout
          (4 + nsBack w.ns + seq % 65536 * 256)
      else c)

/-- The controller of a port is reset and initialises again (R313, R427). -/
def ssdReinit (s : Chip) (p : Nat) : Chip := odSet s 0x30022 (p + 1) 1

/-- SSD_ABORT_TIMEOUT (R427): 1,000 ms after the abort the controller is reset; the command completes with TIMEOUT, every
other in flight with PATH_ERROR. -/
def execSsdAbortTimeout (q seq : Nat) (s : State) : Host.Outcome State Fault Refusal :=
  run s (fun c =>
    match wbOf c q seq with
    | none => c
    | some w =>
      match w.abortAt with
      | none => c
      | some t =>
        if w.stage = 2 ∧ t + 1000000000 ≤ nowNs c then
          ssdReinit (failBack (wbEnd c q { w with status := 8 } 0 true) (nsBack w.ns) 7) (nsBack w.ns)
        else c)

/-- An SSD's link goes down (R311, R428): PERST_N asserted, commands in flight complete with PATH_ERROR. -/
def ssdGone (s : Chip) (p : Nat) : Chip :=
  let s := odInc (drivePerst s (4 + p) false) 0x11060 (4 + p + 1)
  let s := odSet (odSet s 0x11021 (p + 1) 0) 0x30022 (p + 1) 0
  raise (failBack s p 7) evSsdRemoved (4 + p)

/-- SSD_REMOVED. -/
def execSsdRemoved (port : Nat) (s : State) : Host.Outcome State Fault Refusal :=
  run s (fun c => if port < 8 ∧ (ssdState c port = 2 ∨ ssdState c port = 3) then ssdGone c port else c)

/-- SSD_STRAY_DMA (R312): a memory request outside the buffers in flight is answered Unsupported Request. -/
def execSsdStrayDma (port : Nat) (s : State) : Host.Outcome State Fault Refusal :=
  run s (fun c =>
    if port < 8 ∧ ssdState c port = 2 then
      raise (odInc (emit c (.unsupported (4 + port))) 0x11052 (port + 1)) evSsdStrayDma (4 + port)
    else c)

/-- SSD_ERROR_REPORT (R313): 0 correctable, 1 non-fatal naming commands, 2 fatal. -/
def execSsdErrorReport (port sev : Nat) (cmds : List (Nat × Nat)) (s : State) : Host.Outcome State Fault Refusal :=
  run s (fun c =>
    if 8 ≤ port ∨ ssdState c port ≠ 2 then c
    else if sev = 0 then odInc c 0x11040 (4 + port + 1)
    else if sev = 1 then
      cmds.foldl (fun c x =>
        match wbOf c x.1 x.2 with
        | none => c
        | some w => if w.stage = 2 ∧ nsBack w.ns = port then wbEnd c x.1 { w with status := 6 } 0 true else c) c
    else ssdReinit (failBack c port 7) port)

/-! ## Remote targets -/

/-- REMOTE_STATE: 0 DOWN, 1 connecting, 2 READY. -/
def remoteState (s : Chip) (i : Nat) : Nat := odN s 0x30033 (i + 1)

/-- The queue pairs of a target: the admin one and the I/O ones. -/
def remoteQps (s : Chip) (i : Nat) : List Nat :=
  let r := odB s 0x30030 (i + 1)
  fld r 0 4 :: (List.range (fld r 8 1)).map (fun k => fld r 4 4 + k)

/-- OD 30.031 (R429): every queue pair is an open-domain one in RTS; Fabrics Connect goes out on each. -/
def actRemoteAttach : Act := fun s _ arg =>
  let i := leNat arg
  let n := fld (odB s 0x30030 (i + 1)) 8 1
  if remoteState s i ≠ 0 then refuse s eBusy
  else if n = 0 ∨ 16 < n ∨ (remoteQps s i).any (fun q => (qpOf s q).state != 3 || (qpOf s q).plat != 0xFD) then refuse s eRange
  else acted (emit (odSet s 0x30033 (i + 1) 1) (.nvme (0x10 + i) 0x7F (odB s 0x30030 (i + 1))))

/-- REMOTE_ATTACH. -/
def execRemoteAttach (rq : Rq) (arg : Bytes) (s : State) : Host.Outcome State Fault Refusal :=
  run s (actionRow actRemoteAttach 0x30031 rq arg)

/-- Half the keep-alive timeout of a target, ns. -/
def keepHalf (s : Chip) (i : Nat) : Nat := ms (fld (odB s 0x30030 (i + 1)) 12 4) / 2

/-- REMOTE_UP: Connect and Identify have completed. -/
def execRemoteUp (i : Nat) (ns : List (Nat × Nat × Nat)) (s : State) : Host.Outcome State Fault Refusal :=
  run s (fun c =>
    if i < 16 ∧ remoteState c i = 1 then
      let c := setBack (odSet c 0x30033 (i + 1) 2) (0x10 + i) ⟨ns, false, nowNs c + keepHalf c i⟩
      nsReturns (raise c evRemoteUp i) (0x10 + i)
    else c)

/-- A target goes DOWN; its commands in flight complete with PATH_ERROR. -/
def remoteDrop (s : Chip) (i : Nat) : Chip := failBack (odSet s 0x30033 (i + 1) 0) (0x10 + i) 7

/-- OD 30.032. -/
def actRemoteDetach : Act := fun s _ arg =>
  let i := leNat arg
  acted (if remoteState s i = 0 then s else remoteDrop (emit s (.nvme (0x10 + i) 0x7E [])) i)

/-- REMOTE_DETACH. -/
def execRemoteDetach (rq : Rq) (arg : Bytes) (s : State) : Host.Outcome State Fault Refusal :=
  run s (actionRow actRemoteDetach 0x30032 rq arg)

/-- KEEP_ALIVE_TIMER (R429): Keep Alive every half timeout. -/
def execKeepAliveTimer (i : Nat) (s : State) : Host.Outcome State Fault Refusal :=
  run s (fun c =>
    let b := backOf c (0x10 + i)
    if i < 16 ∧ remoteState c i = 2 ∧ b.keepAt ≤ nowNs c then
      emit (setBack c (0x10 + i) { b with keepAt := nowNs c + keepHalf c i }) (.nvme (0x10 + i) 0x18 [])
    else c)

/-- REMOTE_DOWN: a keep alive has failed (`kato`), or a queue pair of the target is in ERROR (R429). -/
def execRemoteDown (i : Nat) (kato : Bool) (s : State) : Host.Outcome State Fault Refusal :=
  run s (fun c =>
    if i < 16 ∧ remoteState c i ≠ 0 ∧ (kato ∨ (remoteQps c i).any (fun q => (qpOf c q).state != 3)) then
      raise (remoteDrop c i) evRemoteDown i
    else c)

/-! ## Records -/

/-- Rules on values written to group 30 (R414, R429, OD 30.040 + n). -/
def checkStorage (s : Chip) (obj sub : Nat) (v : Bytes) : Nat :=
  if 0x30400 ≤ obj ∧ obj < 0x30440 ∧ 1 ≤ sub then checkNs s (16 * (obj - 0x30400) + (sub - 1)) v
  else if obj = 0x30030 then (if remoteState s (sub - 1) ≠ 0 then eBusy else if fld v 9 3 ≠ 0 then eRange else eOk)
  else if 0x30040 ≤ obj ∧ obj < 0x30080 then
    let p := obj - 0x30040
    let o := (List.range 64).any (fun j =>
      let r := platStorage s j
      j != p && decide (0 < fld v 2 2) && decide (0 < fld r 2 2)
        && decide (fld v 0 2 < fld r 0 2 + fld r 2 2) && decide (fld r 0 2 < fld v 0 2 + fld v 2 2))
    if platState s p ≠ 0 then eBusy
    else if o ∨ 4096 < fld v 0 2 + fld v 2 2 ∨ 1 < fld v 4 1 ∨ fld v 2 2 < fld v 5 1 ∨ 64 < fld v 5 1 ∨ 2048 ≤ fld v 6 2
        ∨ fld v 8 8 ≠ 0 then eRange
    else eOk
  else eOk

/-- The native queues that carry emulated I/O exist while the platform's controller is enabled. -/
def emulQueues (s : Chip) (p : Nat) : Chip :=
  let r := platStorage s p
  let s := { s with storage := { s.storage with queues := s.storage.queues.filter (fun q => q.2.owner != p) } }
  (List.range (if fld r 4 1 = 1 then fld r 5 1 else 0)).foldl
    (fun s y => setNq s (fld r 0 2 + y) ⟨p, 12, 0xFFFF, 0, 0, 0, false, [], 0, false, [], false⟩) s

end Sys2Proof.Machine
end

