-- ==== Sys2Proof/Machine/DispatchQ.lean ====
section
/-! DEFINITION. Dispatch queues, triggers and coupled signals (19): issue, control entries, completions, flush, firings, and
what writes to the objects of group 51 are checked for and do. -/
namespace Sys2Proof.Machine

/-! ## Completions -/

/-- A completion of an entry: into the bound core's area, or the ring of the queue's CQ. On a full ring it is not written
and CQ_OVERRUN is raised (R393). -/
def dqComplete (s : Chip) (d flags status unit : Nat) (b : Bytes) (bytes steps energy : Nat) : Chip :=
  if dqMode s d = 1 then dqPortComplete s d flags status unit b bytes steps energy
  else if dqMode s d = 2 then
    if cqIsFull s (dqCq s d) then cqOverrun s (dqCq s d)
    else cqPut s (dqCq s d) uDispatch (fun idx ph => dqCompletion s idx (flags + ph) status unit d b bytes steps energy)
  else s

/-- An admission that will not be used ends without energy. -/
def dropAdm (s : Chip) (adm : Nat) : Chip := if adm = 0 then s else jobEnd s adm

/-- One firing pushed in advance is no longer queued. -/
def unqueueFiring (s : Chip) (t : Nat) : Chip :=
  { s with disp := { s.disp with queued := tset 0 s.disp.queued t (tget 0 s.disp.queued t - 1) } }

/-- The WAIT of a firing pushed in advance, and its trigger. -/
def firingOf (e : DqEntry) : Option Nat := e.trig.bind (fun x => if 256 ≤ x.2 % 512 then some x.1 else none)

/-- Complete entries with FLUSHED in queue order. -/
def flushEntries (s : Chip) (d : Nat) : List DqEntry → Chip
  | [] => s
  | e :: r =>
    let s := match firingOf e with | some t => unqueueFiring s t | none => s
    flushEntries (dqSignal (dqComplete (dropAdm s e.adm) d 0 0x20 0xFF e.b 0 0 0) d e.b) d r

/-- Every entry that has not issued completes FLUSHED (R491). -/
def dqFlushAll (s : Chip) (d : Nat) : Chip :=
  let q := dqOf s d
  flushEntries (setDq s d { q with entries := [] }) d q.entries

/-- The queue enters ERROR (R491). -/
def dqError (s : Chip) (d : Nat) : Chip :=
  dqFlushAll (raiseP (setDqState s d 3) evDqError (if dqOwner s d < 64 then dqOwner s d else 0xFF) d) d

/-- Take the head off a queue. -/
def dqPop (s : Chip) (d : Nat) : Chip := let q := dqOf s d; setDq s d { q with entries := q.entries.drop 1 }

/-- BAD_CONTROL: the head completes so, and the queue enters ERROR. -/
def badControl (s : Chip) (d : Nat) (b : Bytes) : Chip := dqError (dqComplete (dqPop s d) d 0 0x21 0xFF b 0 0 0) d

/-! ## Control entries (Table 19-2) -/

/-- A control entry breaks Table 19-2 or R486. -/
def controlBad (s : Chip) (d : Nat) (b : Bytes) : Bool :=
  let op := fld b 0 1
  let sig := fld b 4 2
  let v := fld b 8 8
  decide (1 < fld b 1 1) || fld b 3 1 != 0 || fld b 6 2 != 0 || !isZero (b.drop 16) || !platPermitted s d (jPlat b)
  || (if op = 0xF1 then sig != 0 || v != 0 else !sigAllowed s (dqSigAgent s d b) sig)
  || (op == 0xF2 && decide (2 ^ 32 ≤ v))

/-- The head of a queue that runs and is neither off nor in ERROR. -/
def dqHead (s : Chip) (d : Nat) : Option DqEntry :=
  if 192 ≤ d ∨ dqMode s d = 0 ∨ dqState s d = 3 then none else (dqOf s d).entries.head?

/-- The head, if it is a control entry with this OP that obeys Table 19-2 and R486; otherwise what becomes of the queue. -/
def control (s : Chip) (d op : Nat) (k : DqEntry → Chip) : Chip :=
  match dqHead s d with
  | none => s
  | some e => if fld e.b 0 1 ≠ op then s else if controlBad s d e.b then badControl s d e.b else k e

/-- The home of a signal is lit (R501). -/
def homeLit (s : Chip) (sig : Nat) : Bool := (sigHome sig).all (fun d => dieLit s d)

/-- The condition of a WAIT entry holds now. -/
def waitMet (s : Chip) (b : Bytes) : Bool :=
  homeLit s (fld b 4 2) && sigMeets (sigVal s (fld b 4 2)) (fld b 8 8) (bit (fld b 1 1) 0)

/-- WAIT at the head: released if its condition holds, else the queue waits (R491). -/
def dqWait (s : Chip) (d : Nat) : Chip :=
  control s d 0xF0 (fun e =>
    if e.released then s
    else if waitMet s e.b then
      let q := dqOf s d
      setDq s d { q with entries := { e with released := true } :: q.entries.drop 1 }
    else setDqState s d 2)

/-- DQ_WAIT. -/
def execDqWait (d : Nat) (s : State) : Host.Outcome State Fault Refusal := run s (fun c => dqWait c d)

/-- A queue whose head is no WAIT any more runs. -/
def dqRunning (s : Chip) (d : Nat) : Chip := if dqState s d = 2 then setDqState s d 1 else s

/-- BARRIER at the head: it holds every later entry until every earlier one has completed (R491). -/
def dqBarrier (s : Chip) (d : Nat) : Chip :=
  control s d 0xF1 (fun _ => if (dqOf s d).running.isEmpty then dqPop s d else s)

/-- DQ_BARRIER. -/
def execDqBarrier (d : Nat) (s : State) : Host.Outcome State Fault Refusal := run s (fun c => dqBarrier c d)

/-- ADD at the head: VALUE is added once every earlier entry has completed (R491). -/
def dqAdd (s : Chip) (d : Nat) : Chip :=
  control s d 0xF2 (fun e =>
    if (dqOf s d).running.isEmpty then
      sigAdd (dqPop s d) (dqSigAgent s d e.b) (fld e.b 4 2) (fld e.b 8 8)
    else s)

/-- DQ_ADD. -/
def execDqAdd (d : Nat) (s : State) : Host.Outcome State Fault Refusal := run s (fun c => dqAdd c d)

/-! ## Issue (R490 to R493) -/

/-- An entry that no check lets run, so that it needs no admission. -/
def entryBad (s : Chip) (d : Nat) (b : Bytes) : Bool :=
  if dqTarget s d = 0 then arrayJobBad s d b
  else if dqTarget s d = 1 then decodeBad s d b
  else match nqOf s (dqNative s d) with
    | some q => wbCheck s q.owner b (nsRec s (wbNs b % 1024)) != 0
    | none => false

/-- The head is a job that may issue: admitted, or bad. -/
def mayIssue (s : Chip) (d : Nat) : Bool :=
  (dqHead s d).any (fun e => !isControl e.b && (e.adm != 0 || entryBad s d e.b))

/-- The admission of a job that the serving engine has pushed: it was admitted with its step (21 R520). -/
abbrev servAdm : Nat := 2 ^ 64

/-- A job of a serving queue of the die goes ahead of this queue's head (21 R520). -/
def servingAhead (s : Chip) (d : Nat) : Bool :=
  let mine := fun (d : Nat) => mayIssue s d && (dqHead s d).any (fun e => e.adm == servAdm)
  decide (0 < dqDie d) && !mine d && (List.range 32).any (fun i => mine (64 + 32 * (dqDie d - 1) + i))

/-- The queue whose turn it is among decode queues (R506): round robin from the one after that which issued last. -/
def decodeTurn (s : Chip) : Option Nat :=
  let ok := fun d => dqTarget s d == 1 && mayIssue s d
  match (List.range 64).find? (fun d => ok d && decide (s.engines.turn ≤ d)) with
  | some d => some d
  | none => (List.range 64).find? ok

/-- Move the head to the running jobs, with what it has ended as, if it has. -/
def dqStart (s : Chip) (d : Nat) (e : DqEntry) (done : Option DqDone) : DqJob × Chip :=
  let j : DqJob := ⟨s.disp.nextJob, e.b, e.adm, 0xFF, done⟩
  let s := dqPop s d
  let q := dqOf s d
  let s := showLeases (setDq s d { q with running := q.running ++ [j] })
  (j, { s with disp := { s.disp with nextJob := s.disp.nextJob + 1 } })

/-- A waybill joins its native queue (R493); in a queue in ERROR it completes FLUSHED (R417). Without the queue, or with 256
waybills in flight there, it waits. -/
def issueWaybill (s : Chip) (d : Nat) (e : DqEntry) : Chip :=
  let n := dqNative s d
  match nqOf s n with
  | none => s
  | some q =>
    if 256 ≤ q.wbs.length then s
    else
      let x := dqStart s d e none
      let s := wbJoin x.2 n q e.b 1 x.1.id 0xFFFF []
      match wbOf s n q.nextSeq with
      | none => s
      | some w =>
        if q.error then wbComplete (setWb s n w) n { w with status := 14, adm := e.adm } 0
        else if w.status = 0 then setWb s n { w with stage := 1, adm := e.adm }
        else setWb s n { w with adm := e.adm }

/-- DQ_ISSUE: the head job of a queue issues once it has been admitted. A decode job takes the lowest-numbered idle engine,
in its turn (R506). -/
def dqIssue (s : Chip) (d : Nat) : Chip :=
  match dqHead s d with
  | none => s
  | some e =>
    if !mayIssue s d then s
    else if dqTarget s d = 2 then issueWaybill s d e
    else if entryBad s d e.b then (dqStart s d e (some ⟨1, 0, 0, 0⟩)).2
    else if dqTarget s d = 0 then
      if dieLit s (dqDie d - 1) && !servingAhead s d then (dqStart s d e none).2 else s
    else if decodeTurn s ≠ some d then s
    else
      let s := { s with engines := { s.engines with turn := (d + 1) % 64 } }
      match idleEngine s with
      | some i => let x := dqStart s d e none; decodeIssue x.2 d x.1 i
      | none => if enginesGone s then (dqStart s d e (some ⟨9, 0, 0, 0⟩)).2 else s

/-- DQ_ISSUE. -/
def execDqIssue (d : Nat) (s : State) : Host.Outcome State Fault Refusal := run s (fun c => dqIssue c d)

/-- The entries of a firing whose WAIT is released belong to no firing any more. -/
def releaseFiring (t f : Nat) (e : DqEntry) : DqEntry := if e.trig = some (t, f) then { e with trig := none } else e

/-- A WAIT at the head that has been released leaves the queue; a firing's WAIT raises FIRINGS (R495); the job behind it
starts (R492). -/
def dqWaitRelease (s : Chip) (d : Nat) : Chip :=
  control s d 0xF0 (fun e =>
    if !e.released then s
    else
      let s := dqRunning (dqPop s d) d
      let s := match e.trig with
        | some (t, f) =>
          let s := odIncFld (unqueueFiring s t) (0x51500 + t / 16) (t % 16 + 1) 48 8
          let q := dqOf s d
          setDq s d { q with entries := q.entries.map (releaseFiring t (f - 256)) }
        | none => s
      dqIssue s d)

/-- DQ_WAIT_RELEASE. -/
def execDqWaitRelease (d : Nat) (s : State) : Host.Outcome State Fault Refusal := run s (fun c => dqWaitRelease c d)

/-! ## Completion of jobs -/

/-- Remove a running job from its queue. -/
def dropRun (s : Chip) (d id : Nat) : Chip :=
  let q := dqOf s d
  showLeases (setDq s d { q with running := q.running.filter (fun j => j.id != id) })

/-- Statistics of an array or vector job (Table 18-9). -/
def arrayStats (s : Chip) (die : Nat) (j : DqJob) (r : DqDone) : Chip :=
  let s := if r.status ≤ 10 then odInc s 0x50010 (r.status + 1) else s
  let s := if bit r.flags 1 then odInc s 0x50011 1 else s
  let s := if bit r.flags 2 then odInc s 0x50011 2 else s
  let s := if bit r.flags 3 then odInc s 0x50011 3 else s
  let mat := jOp j.b == 1
  let s := if j.unit < 4 then
      odAdd64 (odAdd64 s 0x50003 (4 * (die - 1) + j.unit + 1) 1) 0x50004 (4 * (die - 1) + j.unit + 1) r.work
    else if j.unit = 4 then odAdd64 s 0x50006 die 1 else s
  let p := jPlat j.b
  if p < 64 then
    let o := 0x50080 + p
    let s := if mat then odAdd64 (odAdd64 s o 1 1) o 2 r.work else odAdd64 s o 3 1
    if r.status ≠ 0 then odAdd64 s o 4 1 else s
  else s

/-- The completion entry and the add to SIGNAL of an ended job, in this order, whatever its status (R471). -/
def dqFinish (s : Chip) (d : Nat) (j : DqJob) (r : DqDone) (unit steps energy : Nat) : Chip :=
  let s := dropRun s d j.id
  let s := dqComplete s d r.flags r.status unit j.b r.bytes steps energy
  dropAdm (dqSignal s d j.b) j.adm

/-- Free the unit of a job. -/
def freeUnit (s : Chip) (die u : Nat) : Chip := 
  if u ≤ 4 ∧ arrayState s die u = 2 then setArrayState s die u (if fenced s (jobUnit die u) then 3 else 1) else s

/-- JOB_COMPLETE: an array or vector job that has ended completes; a parity or residue mismatch fails it and fences its
unit (R475). -/
def jobComplete (s : Chip) (d id : Nat) (mismatch : Bool) (steps energy : Nat) : Chip :=
  match dqJob s d id with
  | none => s
  | some j =>
    match j.done with
    | none => s
    | some r =>
      let die := dqDie d
      if die = 0 then s
      else
        let bad := mismatch && decide (j.unit ≤ 4)
        let r := if bad then { r with status := 4 } else r
        let n := if j.unit = 4 then 15 + die else 4 * (die - 1) + j.unit
        let s := if bad then
            recordError (raiseU s evArrayCheck (jobUnit die j.unit) n) 3 3 (jobUnit die j.unit) 0 (platBit (jPlat j.b)) 0
          else s
        dqFinish (arrayStats (freeUnit s die j.unit) die j r) d j r j.unit steps energy

/-- JOB_COMPLETE. -/
def execJobComplete (d id : Nat) (mismatch : Bool) (steps energy : Nat) (s : State) :
    Host.Outcome State Fault Refusal :=
  run s (fun c => jobComplete c d id mismatch steps energy)

/-- DECODE_COMPLETE: frames reconstructed, frames skipped by reason that no record reported, and whether no random-access
point passed R504; steps and energy as measured. -/
def decodeComplete (s : Chip) (d id recon : Nat) (extra : List Nat) (noPoint : Bool) (steps energy : Nat) : Chip :=
  match dqJob s d id with
  | none => s
  | some j =>
    match j.done, decRun s d id with
    | some r, _ => if dqTarget s d = 1 ∧ dqDie d = 0 then dqFinish s d j r 0xFF steps energy else s
    | none, some r =>
      if !r.read ∧ r.fail = 0 then s
      else
        let x := decodeEnd s d j r recon extra noPoint
        dqFinish x.2 d j x.1 r.engine steps energy
    | none, none => s

/-- DECODE_COMPLETE. -/
def execDecodeComplete (d id recon : Nat) (extra : List Nat) (noPoint : Bool) (steps energy : Nat) (s : State) :
    Host.Outcome State Fault Refusal :=
  run s (fun c => decodeComplete c d id recon extra noPoint steps energy)

/-! ## Flush and doorbell -/

/-- OD 51.050: every entry completes FLUSHED, and the queue runs (R491); a queue that is off stays off. -/
def actDqFlush : Act := fun s _ arg =>
  let d := leNat arg
  if 192 ≤ d then refuse s eRange
  else if dqMode s d = 0 then acted s
  else acted (setDqState (dqFlushAll s d) d 1)

/-- DQ_FLUSH. -/
def execDqFlush (rq : Rq) (arg : Bytes) (s : State) : Host.Outcome State Fault Refusal :=
  run s (actionRow actDqFlush 0x51050 rq arg)

/-- RING_BASE -/
def dqRing (s : Chip) (d : Nat) : Nat := fld (dqRec s d) 16 8
/-- LOG -/
def dqLog (s : Chip) (d : Nat) : Nat := fld (dqRec s d) 4 1

/-- Fetch the entries of a ring-fed queue in ring order (R489); in ERROR they complete FLUSHED. A ring that cannot be read
puts the queue into ERROR (log 63). -/
def dqFetch (s : Chip) (d : Nat) : Nat → Chip
  | 0 => s
  | k + 1 =>
    let q := dqOf s d
    if q.cons = q.prod then s
    else
      let x := xferRead s (agentOf (dqOwner s d)) (dqRing s d + 64 * (q.cons % 2 ^ dqLog s d)) 64 0 0 uDispatch Bound.free
      let s := setDq x.s d { q with cons := idxNext q.cons }
      if x.st ≠ 0 then dqError (setDq s d { q with cons := q.prod }) d
      else if dqState s d = 3 then dqFetch (dqSignal (dqComplete s d 0 0x20 0xFF x.bytes 0 0 0) d x.bytes) d k
      else dqFetch (setDq s d { q with cons := idxNext q.cons, entries := q.entries ++ [⟨x.bytes, 0, false, none⟩] }) d k

/-- A producer index: beyond the ring it moves the queue to ERROR (R391). -/
def dqProducer (s : Chip) (d idx : Nat) : Chip :=
  let q := dqOf s d
  if 2 ^ dqLog s d < idxSub idx q.cons then dqError s d
  else dqFetch (setDq s d { q with prod := idx }) d 65536

/-- DB_DISPATCH: [47:32] dispatch queue, [15:0] producer index, from the function of the queue's OWNER (Table 11-4). -/
def execDbDispatch (fn size val : Nat) (s : State) : Host.Outcome State Fault Refusal :=
  run s (fun c => engineDoorbell c fn size val (0xFFFF * 2 ^ 32 + 0xFFFF) (fun s owner =>
    let d := bits val 47 32
    if d < 192 ∧ dqMode s d = 2 ∧ dqOwner s d = owner then dqProducer s d (val % 65536) else dbDiscard s fn))

/-! ## Triggers (Table 19-4) -/

/-- The dispatch queue a trigger feeds. -/
def trigDq (t : Nat) (r : Bytes) : Nat := 64 + 32 * (t / 64) + fld r 6 1

/-- The agent of a trigger (R486): its sequencer, for the platform of the chain. -/
def trigAgent (r : Bytes) : SigAgent := if fld r 2 1 < 64 then .openFor (fld r 2 1) else .opn

/-- Threshold of firing `f`. -/
def trigThr (r : Bytes) (f : Nat) : Nat := fld r 8 8 + f * fld r 16 4

/-- A sequencer of the die serves the triggers (R497). -/
def sequencerUp (s : Chip) (die : Nat) : Bool :=
  dieLit s die && [16 + 2 * die, 17 + 2 * die].any (fun t => !fenced s (uCore t) && !retired s (uCore t))

/-- A job entry of the chain with the address fields that RELOC names moved to the slot of firing `f` (R495). -/
def relocate (r : Bytes) (f : Nat) (b : Bytes) : Bytes :=
  if isControl b then b
  else
    let add := f % (fld r 20 4) * fld r 24 8
    (List.range 3).foldl (fun b i =>
      if bit (fld r 3 1) i then setFld b (24 + 8 * i) 8 ((fld b (24 + 8 * i) 8 + add) % 2 ^ 64) else b) b

/-- The chain of firing `f` from the bytes of LIST. -/
def chain (r : Bytes) (f : Nat) (l : Bytes) : List Bytes :=
  (List.range (fld r 40 2)).map (fun i => relocate r f (slice l (64 * i) 64))

/-- The WAIT of firing `f` pushed in advance (R495). -/
def firingWait (r : Bytes) (f : Nat) : Bytes :=
  leBytes 1 0xF0 ++ leBytes 1 (b2n (bit (fld r 0 1) 1)) ++ leBytes 1 (fld r 2 1) ++ zeros 1 ++ leBytes 2 (fld r 4 2) ++ zeros 2
    ++ leBytes 8 (trigThr r f) ++ zeros 48

/-- Entries of firings of trigger `t`. -/
def ofTrigger (t : Nat) (e : DqEntry) : Bool := e.trig.any (fun x => x.1 == t)

/-- Disabling withdraws the WAITs pushed in advance and the chains behind them, without completions (R496). -/
def trigWithdraw (s : Chip) (t : Nat) (r : Bytes) : Chip :=
  let d := trigDq t r
  let q := dqOf s d
  let s := (q.entries.filter (ofTrigger t)).foldl (fun s e => dropAdm s e.adm) s
  let s := setDq s d { q with entries := q.entries.filter (fun e => !ofTrigger t e) }
  let s := dqRunning s d
  { s with disp := { s.disp with queued := tdel s.disp.queued t, pushed := tdel s.disp.pushed t } }

/-- Clear FLAGS[0]. -/
def trigDisable (s : Chip) (t : Nat) : Chip :=
  let r := trigRec s t
  trigWithdraw (odSetFld s (0x51500 + t / 16) (t % 16 + 1) 0 1 (fld r 0 1 / 2 * 2)) t r

/-- Append entries that a sequencer pushes; in ERROR they complete FLUSHED (R491). -/
def pushEntries (s : Chip) (d : Nat) (l : List DqEntry) : Chip :=
  if dqState s d = 3 then flushEntries s d l
  else let q := dqOf s d; setDq s d { q with entries := q.entries ++ l }

/-- Outstanding entries of a port-fed dispatch queue (R488). -/
def dqOutstanding (s : Chip) (d : Nat) : Nat :=
  let q := dqOf s d
  q.entries.length + q.running.length + q.ready.length

/-- The condition of the next firing of a trigger without firings ahead holds (R495). -/
def trigMet (s : Chip) (t : Nat) (r : Bytes) : Bool :=
  homeLit s (fld r 4 2) && (decide (0 < tget 0 s.disp.pushed t)
    || sigMeets (sigVal s (fld r 4 2)) (trigThr r (fld r 48 8)) (bit (fld r 0 1) 1))

/-- TRIGGER_FIRING: the sequencer pushes the chain of the next firing, once its condition holds, or a WAIT and the chain in
advance (R495). A fault reading LIST disables the trigger (R496). -/
def triggerFiring (s : Chip) (t : Nat) : Chip :=
  let r := trigRec s t
  let d := trigDq t r
  let ahead := fld r 1 1
  let n := tget 0 s.disp.queued t
  let f := fld r 48 8 + n
  let count := fld r 40 2
  let room := decide (dqOutstanding s d + count + b2n (0 < ahead) ≤ 64)
  if 256 ≤ t ∨ !bit (fld r 0 1) 0 ∨ !sequencerUp s (t / 64) ∨ !room then s
  else if (if ahead = 0 then trigMet s t r else decide (n < ahead)) then
    let g : Agent := if fld r 2 1 < 64 then .plat (fld r 2 1) else .opn
    let x := xferRead s g (fld r 32 8) (64 * count) 0 (t / 64 + 1) uDispatch Bound.free
    if x.st ≠ 0 then raiseP (trigDisable x.s t) evTriggerFault (fld r 2 1) (256 * (t / 64) + t % 64)
    else if ahead = 0 then
      let s := pushEntries x.s d ((chain r f x.bytes).map (fun b => ⟨b, 0, false, none⟩))
      let s := { s with disp := { s.disp with pushed := tset 0 s.disp.pushed t (tget 0 s.disp.pushed t - 1) } }
      odIncFld s (0x51500 + t / 16) (t % 16 + 1) 48 8
    else
      let s := { x.s with disp := { x.s.disp with queued := tput x.s.disp.queued t (n + 1) } }
      let tag := f % 256
      pushEntries s d (⟨firingWait r f, 0, false, some (t, tag + 256)⟩
        :: (chain r f x.bytes).map (fun b => ⟨b, 0, false, some (t, tag)⟩))
  else s

/-- TRIGGER_FIRING. -/
def execTriggerFiring (t : Nat) (s : State) : Host.Outcome State Fault Refusal := run s (fun c => triggerFiring c t)

/-! ## Coupled signals -/

/-- PENDING_FLUSH (R499): when a link to the partner is back, PENDING is sent as one add; what an add cannot hold of a sum
beyond 32 bits stays for the next (log 64). -/
def pendingFlush (s : Chip) (r : Nat) : Chip :=
  let o := 0x51300 + r / 16
  let ord := couple s r 3 1
  let v := min (couple s r 8 8) 0xFFFFFFFF
  if 256 ≤ r ∨ !bit (couple s r 2 1) 0 ∨ bit (couple s r 2 1) 1 ∨ v = 0 ∨ !routeUp s ord then s
  else odSetFld (sendAdd s ord 0xFF (couple s r 4 2) v) o (r % 16 + 1) 8 8 (couple s r 8 8 - v)

/-- PENDING_FLUSH. -/
def execPendingFlush (r : Nat) (s : State) : Host.Outcome State Fault Refusal := run s (fun c => pendingFlush c r)

/-- The sums held for a package that leaves the consist are lost (R499). -/
def coupleLost (s : Chip) (ord : Nat) : Chip :=
  (odListed s 0x51300 0x5130F).foldl (fun s x =>
    let r := 16 * (x.1 - 0x51300) + (x.2 - 1)
    let v := couple s r 8 8
    if couple s r 3 1 = ord ∧ v ≠ 0 then
      raise (odAdd64 (odSetFld s x.1 x.2 8 8 0) 0x51020 4 1) evSigCoupleLost (r + v % 2 ^ 56 * 256)
    else s) s

/-! ## Writes to group 51 -/

/-- A doorbell binding names the signal (R494). -/
def boundBy (s : Chip) (sig : Nat) : Bool :=
  (odListed s 0x51200 0x51240).any (fun x =>
    let v := odN s x.1 x.2
    (List.range 4).any (fun i => bit v (16 * i + 15) && bits v (16 * i + 11) (16 * i) == sig))

/-- A coupling record, a trigger or a queued WAIT names the signal (R484). -/
def namedElsewhere (s : Chip) (sig : Nat) : Bool :=
  (odListed s 0x51300 0x5130F).any (fun x => bit (odFld s x.1 x.2 2 1) 0 && odFld s x.1 x.2 0 2 == sig)
  || (odListed s 0x51500 0x5150F).any (fun x => bit (odFld s x.1 x.2 0 1) 0 && odFld s x.1 x.2 4 2 == sig)
  || s.disp.dqs.any (fun q => q.2.entries.any (fun e => fld e.b 0 1 == 0xF0 && fld e.b 4 2 == sig))

/-- The fields of a DQ_CONFIG record (R489). -/
def dqRecBad (s : Chip) (dom : Dom) (d : Nat) (v : Bytes) : Bool :=
  let mode := fld v 0 1
  let target := fld v 1 1
  let core := fld v 2 1
  let owner := fld v 3 1
  let cq := fld v 6 2
  fld v 5 1 != 0 || fld v 10 2 != 0 || !isZero (slice v 24 8) || decide (2 < mode)
  || (mode != 0
    && ((if d < 64 then target != 1 && target != 2 else target != 0)
      || (target == 2 && !queueOwned s (if owner < 64 then owner else 0xFD) (fld v 8 2))
      || (if mode = 1 then owner != 0xFF || decide (23 < core) || (decide (core < 4) && dom != .sealed)
            || fld v 12 4 % 4096 != 0 || decide (sramSize < fld v 12 4 + 4096)
          else !(decide (owner < 64) || owner == 0xFD) || decide (fld v 4 1 < 6) || decide (12 < fld v 4 1)
            || fld v 16 8 % 4096 != 0 || !(cqOf s cq).any (fun q => q.owner == owner)
            || !(feeders s cq).isEmpty || !(nqFeeders s cq).isEmpty)))

/-- The fields of a trigger record (Table 19-4, R496). -/
def trigBad (s : Chip) (t : Nat) (v : Bytes) : Bool :=
  let d := trigDq t v
  decide (3 < fld v 0 1) || decide (4 < fld v 1 1) || !(decide (fld v 2 1 < 64) || fld v 2 1 == 0xFF) || decide (7 < fld v 3 1)
  || decide (4096 ≤ fld v 4 2) || decide (31 < fld v 6 1) || fld v 7 1 != 0 || fld v 16 4 == 0 || fld v 20 4 == 0
  || decide (65536 < fld v 20 4) || fld v 24 8 % 64 != 0 || fld v 32 8 % 64 != 0 || fld v 40 2 == 0 || decide (63 < fld v 40 2)
  || !isZero (slice v 42 6) || !isZero (slice v 56 8) || decide (64 < fld v 1 1 * (fld v 40 2 + 1))
  || dqMode s d != 1 || !(dqCore s d == 16 + 2 * (t / 64) || dqCore s d == 17 + 2 * (t / 64))
  || !sigAllowed s (trigAgent v) (fld v 4 2)

/-- A bound slot names a signal its function may add to (R494). -/
def bindBad (s : Chip) (owner v : Nat) : Bool :=
  (List.range 4).any (fun i =>
    bits v (16 * i + 14) (16 * i + 12) != 0
    || (bit v (16 * i + 15) && sigOwner s (bits v (16 * i + 11) (16 * i)) != owner))

/-- The rules on values written to group 51. -/
def checkDispatch (s : Chip) (dom : Dom) (obj sub : Nat) (v : Bytes) : Nat :=
  let n := leNat v
  if 0x51040 ≤ obj ∧ obj ≤ 0x5104B then
    let d := 16 * (obj - 0x51040) + (sub - 1)
    if dqRecBad s dom d v then eRange
    else if !(dqOf s d).entries.isEmpty ∨ !(dqOf s d).running.isEmpty then eBusy
    else eOk
  else if 0x51100 ≤ obj ∧ obj ≤ 0x511FF then
    let sig := 16 * (obj - 0x51100) + (sub - 1)
    let old := sigOwner s sig
    if (64 ≤ n ∧ n < 0xFD) ∨ ((n = 0xFE ∨ old = 0xFE) ∧ dom ≠ .sealed) then eRange
    else if n ≠ old ∧ (boundBy s sig ∨ namedElsewhere s sig) then eBusy
    else eOk
  else if 0x51200 ≤ obj ∧ obj ≤ 0x51240 then
    if bindBad s (if obj = 0x51240 then 0xFD else obj - 0x51200) n then eRange else eOk
  else if 0x51300 ≤ obj ∧ obj ≤ 0x5130F then
    if 4096 ≤ fld v 0 2 ∨ 3 < fld v 2 1 ∨ 15 < fld v 3 1 ∨ 4096 ≤ fld v 4 2 ∨ fld v 6 2 ≠ 0 then eRange else eOk
  else if 0x51500 ≤ obj ∧ obj ≤ 0x5150F then
    let t := 16 * (obj - 0x51500) + (sub - 1)
    let old := trigRec s t
    if bit (fld old 0 1) 0 then
      (if splice (splice v 48 (slice old 48 8)) 0 [0] = splice old 0 [0] ∧ fld v 0 1 = fld old 0 1 - 1 then eOk else eBusy)
    else if trigBad s t v then eRange else eOk
  else eOk

/-- The agent of a waiting core may wait on a signal of this owner. -/
def coreMayUse (s : Chip) (t sig : Nat) : Bool := sigAllowed s (coreAgent t) sig

/-- A change of owner disarms bindings of cores outside the new owner's domain, and a SIGWT of such a core raises PORT_FAULT
(R485). -/
def ownerChanged (s : Chip) (sig : Nat) : Chip :=
  (List.range 24).foldl (fun s t =>
    if coreMayUse s t sig then s
    else
      let c := coreOf s t
      let b := c.binds.map (fun x =>
        (x.1, if x.2.armed ∧ x.2.num = sig then { x.2 with armed := false, refused := true } else x.2))
      let s := if b = c.binds then s else setCore s t { c with binds := b }
      match c.wait with
      | .sigwt n _ _ _ => if n = sig then enterException s t 5 2 c.pc none else s
      | _ => s) s

/-- What a write in group 51 does besides setting its object; `old` is the value before. -/
def effectDispatch (s : Chip) (obj sub : Nat) (old : Bytes) : Chip :=
  if 0x51040 ≤ obj ∧ obj ≤ 0x5104B then
    let d := 16 * (obj - 0x51040) + (sub - 1)
    setDqState { s with disp := { s.disp with dqs := tdel s.disp.dqs d } } d (min (dqMode s d) 1)
  else if 0x51100 ≤ obj ∧ obj ≤ 0x511FF then
    let sig := 16 * (obj - 0x51100) + (sub - 1)
    if leNat old = sigOwner s sig then s else ownerChanged s sig
  else if 0x51500 ≤ obj ∧ obj ≤ 0x5150F then
    let t := 16 * (obj - 0x51500) + (sub - 1)
    let was := bit (fld old 0 1) 0
    let is := bit (fld (trigRec s t) 0 1) 0
    if is ∧ !was then
      let s := odSetFld s obj sub 48 8 0
      { s with disp := { s.disp with queued := tdel s.disp.queued t, pushed := tdel s.disp.pushed t } }
    else if was ∧ !is then trigWithdraw s t old
    else s
  else s

/-! ## Resets (R500, R501) -/

/-- The platform of an entry. -/
def entryPlat (s : Chip) (d : Nat) (b : Bytes) : Nat := (dqView s d b).2.1

/-- A running job stops without a completion (R478): its unit and its admission are free. -/
def stopJob (s : Chip) (d : Nat) (j : DqJob) : Chip :=
  let s := if dqDie d = 0 then s else freeUnit s (dqDie d) j.unit
  let s := match decRun s d j.id with
    | some r =>
      let s := freeEngine s r.engine
      { s with engines := { s.engines with decodes := s.engines.decodes.filter (fun y => !(y.dq == d && y.job == j.id)) } }
    | none => s
  dropAdm (dropRun s d j.id) j.adm

/-- Take the entries and running jobs that `p` names out of a queue. -/
def dqClear (s : Chip) (d : Nat) (p : Bytes → Bool) : Chip :=
  let q := dqOf s d
  let s := (q.running.filter (fun j => p j.b)).foldl (fun s j => stopJob s d j) s
  let s := (q.entries.filter (fun e => p e.b)).foldl (fun s e => dropAdm s e.adm) s
  let q := dqOf s d
  dqRunning (setDq s d { q with entries := q.entries.filter (fun e => !p e.b) }) d

/-- The indices of a ring-fed queue return to 0. -/
def dqRewind (s : Chip) (d : Nat) : Chip := let q := dqOf s d; setDq s d { q with prod := 0, cons := 0 }

/-- Every enabled trigger that `p` names is disabled, and TRIGGER_DISABLED raised where `tell`. -/
def trigsOff (s : Chip) (p : Bytes → Bool) (tell : Bool) : Chip :=
  (odListed s 0x51500 0x5150F).foldl (fun s x =>
    let t := 16 * (x.1 - 0x51500) + (x.2 - 1)
    let r := trigRec s t
    if bit (fld r 0 1) 0 && p r then
      let s := trigDisable s t
      if tell then raiseP s evTriggerDisabled (fld r 2 1) (256 * (t / 64) + t % 64) else s
    else s) s

/-- Platform reset (R500). -/
def dqPlatReset (s : Chip) (p : Nat) : Chip :=
  let s := trigsOff s (fun r => fld r 2 1 == p) true
  s.disp.dqs.foldl (fun s q =>
    let d := q.1
    if dqMode s d = 2 ∧ dqOwner s d = p then
      let s := dqRewind (dqClear s d (fun _ => true)) d
      if dqState s d = 3 then setDqState s d 1 else s
    else dqClear s d (fun b => entryPlat s d b == p)) s

/-- Warm reset (R501): every queue is empty, every trigger disabled. -/
def dqWarmReset (s : Chip) : Chip :=
  let s := trigsOff s (fun _ => true) false
  let s := s.disp.dqs.foldl (fun s q => dqRewind (dqClear s q.1 (fun _ => true)) q.1) s
  let s := (List.range 192).foldl (fun s d => if dqState s d = 3 then setDqState s d 1 else s) s
  { s with disp := { s.disp with dqs := [], queued := [], pushed := [] } }

end Sys2Proof.Machine
end

