-- ==== Sys2Proof/Machine/Coupling.lean ====
section
/-! DEFINITION. Coupling links (23 R556 to R570, R582 to R587): flits and replay, spare lanes, training, routes and membership. -/
namespace Sys2Proof.Machine

/-! ## The CRC of a flit (Table 23-2) -/

/-- One bit of CRC-64, most significant bit first. -/
def crc64Bit (c : Nat) : Nat := if c / 2 ^ 63 = 1 then (2 * c % 2 ^ 64) ^^^ 0x42F0E1EBA9EA3693 else 2 * c

/-- One byte of CRC-64. -/
def crc64Byte (c : Nat) (b : Byte) : Nat :=
  crc64Bit (crc64Bit (crc64Bit (crc64Bit (crc64Bit (crc64Bit (crc64Bit (crc64Bit (c ^^^ (b.toNat * 2 ^ 56)))))))))

/-- CRC-64: initial value 0, no final XOR. -/
def crc64 (b : Bytes) : Nat := b.foldl crc64Byte 0

/-! ## Messages received (Table 23-5, R570) -/

/-- A message breaks Table 23-5: a TYPE not listed, a reserved field set, more than 4,096 bytes. -/
def msgBad (m : Bytes) : Bool :=
  let t := fld m 0 1
  let p := fld m 2 1
  let a := fld m 8 8
  t == 0 || decide (7 < t) || decide (2 ≤ fld m 3 1) || (decide (64 ≤ p) && p != 0xFF) || decide (4096 < fld m 4 2)
  || (t == 1 && bits a 15 12 != 0) || (t == 2 && bits a 47 0 != 0)

/-- The messages whole in a run of payload bytes, and what is left of one that continues; TYPE 0 runs to the end of the
flit. -/
def splitMsgs : Nat → Bytes → List Bytes × Bytes
  | 0, b => ([], b)
  | n + 1, b =>
    if b = [] ∨ fld b 0 1 = 0 then ([], [])
    else
      let k := 16 + (fld b 4 2 + 7) / 8 * 8
      if b.length < 16 ∨ b.length < k then ([], b)
      else
        let r := splitMsgs n (b.drop k)
        (b.take (16 + fld b 4 2) :: r.1, r.2)

/-- Return credit for a message that has left the receive buffer (R562). -/
def giveCredit (s : Chip) (l : Nat) (m : Bytes) : Chip := sendBare s l 0 (vcOf (fld m 0 1)) (cdiv m.length 64) []

/-- A message off a link: discarded, forwarded unchanged (R568, R570), or taken into the receive buffer. -/
def takeMsg (s : Chip) (l : Nat) (m : Bytes) : Chip :=
  if msgBad m then giveCredit (odAdd64 s 0x60090 6 1) l m
  else if msgDst m ≠ ownOrd s then sendMsg (giveCredit (odAdd64 s 0x60090 4 1) l m) m
  else { s with cons := { s.cons with inbox := s.cons.inbox ++ [(l, m)] } }

/-! ## Replay (R559, R560) -/

/-- ACK of the partner: flits up to it are released; waiting messages may go. -/
def ackFlits (s : Chip) (l ack : Nat) : Chip :=
  let x := clLink s l
  if x.buf.any (fun f => f.1 == ack) then
    let gone := x.buf.takeWhile (fun f => f.1 != ack)
    let done : List Nat := ack :: gone.map (·.1)
    drainWaiting (setCl s l { x with
      buf := x.buf.drop (gone.length + 1)
      msgs := x.msgs.filter (fun m => !done.contains m.1)
      resends := 0
      ackAt := nowNs s }) l 4096
  else s

/-- Send a replay request: a KIND 2 flit carrying ACK. -/
def askReplay (s : Chip) (l : Nat) : Chip :=
  sendBare (setCl s l { clLink s l with reqAt := some (nowNs s) }) l 2 0 0 []

/-- A flit is discarded; the first one asks for a replay (R560). -/
def discardFlit (s : Chip) (l : Nat) : Chip := if (clLink s l).reqAt.isNone then askReplay s l else s

/-- A substitution completes within 10 µs (R563). -/
def switchOver (s : Chip) (l : Nat) : Bool :=
  match (clLink s l).switch with
  | none => true
  | some w => decide (w.2 + 10000 ≤ nowNs s)

/-- FLIT_RX: idle and data flits; a flit of another KIND is only counted here, its effect is its own command's. -/
def flitRx (s : Chip) (l : Nat) (f : RxFlit) : Chip :=
  if 8 ≤ l ∨ !clUp s l then s else
  let o := 0x60020 + l
  let s := odAdd64 (odAdd64 s o 2 1) o 3 f.lanes.sum
  if !f.decoded then
    let s := odAdd64 s o 4 1
    discardFlit (setCl s l { clLink s l with undec := (clLink s l).undec + 1 }) l
  else
    let s := setCl s l { clLink s l with undec := 0 }
    if crc64 (slice f.b 0 752) ≠ fld f.b 752 8 then discardFlit (odAdd64 s o 5 1) l
    else
      let kind := fld f.b 4 1
      if 1 < kind then s
      else
        let x := clLink s l
        if kind = 1 ∧ fld f.b 0 2 ≠ x.expectF then discardFlit (ackFlits s l (fld f.b 2 2)) l
        else
          let vc := fld f.b 5 1 % 2
          let s := ackFlits (setCl s l (withCredit x vc (creditOf x vc + fld f.b 6 2))) l (fld f.b 2 2)
          let s := drainWaiting s l 4096
          if kind = 0 then s
          else
            let x := clLink s l
            let r := splitMsgs 94 (x.part ++ slice f.b 8 744)
            let s := setCl s l { x with expectF := (x.expectF + 1) % 65536, reqAt := none, part := r.2 }
            r.1.foldl (fun s m => takeMsg s l m) s

/-- FLIT_RX. -/
def execFlitRx (l : Nat) (f : RxFlit) (s : State) : Host.Outcome State Fault Refusal := run s (fun c => flitRx c l f)

/-- Send every held flit again, in order (R560). -/
def resendFlits (s : Chip) (l : Nat) : Chip :=
  let x := clLink s l
  let s := x.buf.foldl (fun s f => emit s (.flit l 1 f.1 (ackOf x) 0 0 f.2)) s
  let o := 0x60020 + l
  setCl (odAdd64 (odAdd64 s o 1 x.buf.length) o 6 x.buf.length) l { x with resends := x.resends + 1, ackAt := nowNs s }

/-- REPLAY_REQUEST: resend from ACK + 1. -/
def replayRequest (s : Chip) (l ack : Nat) : Chip :=
  if 8 ≤ l ∨ !clUp s l then s
  else
    let s := ackFlits s l ack
    if (clLink s l).buf = [] then s else resendFlits s l

/-- REPLAY_REQUEST. -/
def execReplayRequest (l ack : Nat) (s : State) : Host.Outcome State Fault Refusal := run s (fun c => replayRequest c l ack)

/-- REPLAY_TIMEOUT: ACK has not advanced for 2 µs while a flit is unacknowledged. -/
def replayTimeout (s : Chip) (l : Nat) : Chip :=
  let x := clLink s l
  if 8 ≤ l ∨ !clUp s l ∨ x.buf = [] ∨ nowNs s < x.ackAt + 2000 then s else resendFlits s l

/-- REPLAY_TIMEOUT. -/
def execReplayTimeout (l : Nat) (s : State) : Host.Outcome State Fault Refusal := run s (fun c => replayTimeout c l)

/-- REPLAY_REQUEST_REPEAT: at most once per 256 ns until the expected flit arrives. -/
def replayRepeat (s : Chip) (l : Nat) : Chip :=
  if 8 ≤ l ∨ !clUp s l then s
  else match (clLink s l).reqAt with
    | none => s
    | some t => if nowNs s < t + 256 then s else askReplay s l

/-- REPLAY_REQUEST_REPEAT. -/
def execReplayRequestRepeat (l : Nat) (s : State) : Host.Outcome State Fault Refusal := run s (fun c => replayRepeat c l)

/-! ## Routes and membership (R568, R569) -/

/-- OD 60.041 of an ordinal: 0 REACHABLE, 1 UNREACHABLE, 2 LEFT, 3 ABSENT. -/
def memberState (s : Chip) (o : Nat) : Nat := odN s 0x60041 (o + 1)

/-- Set it. -/
def setMember (s : Chip) (o v : Nat) : Chip := odSet s 0x60041 (o + 1) v

/-- A relay operation names an ordinal: its destination, or a member of its group. -/
def opNames (s : Chip) (r : RelayOp) (o : Nat) : Bool :=
  if fld r.b 0 1 = 0x60 then fld r.b 4 1 == o
  else
    let g := odB s 0x60070 (fld r.b 4 1 + 1)
    ((g.drop 4).take (fld g 1 1)).any (fun x => x.toNat == o)

/-- End an operation with a status and the ordinal at fault; one that has ended keeps its own. -/
def opEnd (r : RelayOp) (st fault : Nat) : RelayOp := if r.status.isSome then r else { r with status := some st, fail := fault }

/-- Relay work that names a lost ordinal ends with PEER_LOST (R576, R582); adds and messages to it are dropped. -/
def memberGone (s : Chip) (o : Nat) : Chip :=
  coupleLost { s with cons := { s.cons with
    ops := s.cons.ops.map (fun r => if opNames s r o then opEnd r 5 o else r)
    kept := s.cons.kept.filter (fun k => k.1 != o)
    early := s.cons.early.filter (fun k => k.1 != o)
    stranded := s.cons.stranded.filter (fun m => msgDst m != o) } } o

/-- The ordinal becomes LEFT. -/
def memberLeft (s : Chip) (o : Nat) : Chip := memberGone (raise (setMember s o 2) evMemberLeft o) o

/-- A LEFT package is back: the end-to-end sequences of the pair begin anew (log 70). -/
def memberJoined (s : Chip) (o : Nat) : Chip :=
  raise (setMember { s with cons := { s.cons with
    nextAdd := tdel s.cons.nextAdd o, nextApply := tdel s.cons.nextApply o } } o 0) evMemberJoined o

/-- One ordinal after links changed; `fresh`: the link that has just trained. -/
def showRoute (fresh : Option Nat) (s : Chip) (o : Nat) : Chip :=
  let up := routeUp s o
  let s := odSetBit s 0x60031 0 o up
  match memberState s o with
  | 0 =>
    if up then s
    else raise (setMember { s with cons := { s.cons with lostAt := tput s.cons.lostAt o (nowNs s) } } o 1) evMemberUnreachable o
  | 1 => if up then raise (setMember s o 0) evMemberReachable o else s
  | 2 => if fresh.any (fun l => (routeLinks s o).contains l) then memberJoined s o else s
  | _ => if up then raise (setMember s o 0) evMemberReachable o else s

/-- Ordinals of MEMBERS other than this package's. -/
def otherMembers (s : Chip) : List Nat := (List.range 16).filter (fun o => bit (inForce s 2) o && o != ownOrd s)

/-- Every ordinal after links changed. -/
def showRoutes (s : Chip) (fresh : Option Nat) : Chip := (otherMembers s).foldl (showRoute fresh) s

/-- Adds to an ordinal that are not acknowledged are sent again on its present route (R571). -/
def resendKept (s : Chip) (p : Nat × Nat × Bytes → Bool) : Chip :=
  (s.cons.kept.filter p).foldl (fun s k => if routeUp s k.1 then sendMsg (odAdd64 s 0x60090 5 1) k.2.2 else s) s

/-- Messages that no route took are tried again. -/
def resendStranded (s : Chip) : Chip :=
  s.cons.stranded.foldl sendMsg { s with cons := { s.cons with stranded := [] } }

/-! ## Links down (R561, R564, R585) -/

/-- A message is one of the adds this package keeps. -/
def ownAdd (s : Chip) (m : Bytes) : Bool := fld m 0 1 == 1 && msgSrc m == ownOrd s

/-- A link goes to state `st`: its messages not acknowledged go out again on another route (R571, R572, R587). -/
def linkDown (s : Chip) (l st : Nat) : Chip :=
  let x := clLink s l
  let lost : List Bytes := x.msgs.map (·.2) ++ x.waiting.map (·.2)
  let s := odSet s 0x60011 (l + 1) st
  let s := if switchOver s l then s else odSet s 0x60012 (l + 1) ((x.switch.map (·.1)).getD 0)
  let s := showRoutes (setCl s l { ClLink.off with badLanes := x.badLanes }) none
  let s := (lost.filter (fun m => !ownAdd s m)).foldl sendMsg s
  resendKept s (fun k => lost.contains k.2.2)

/-- Spare lane of a link, 7 none (OD 60.012 [14:12]). -/
def spareLane (s : Chip) (l : Nat) : Nat := bits (odN s 0x60012 (l + 1)) 14 12

/-- CL_DOWN: counted, reported, and training begins again at once (R561). -/
def clDown (s : Chip) (l : Nat) : Chip := linkDown (raise (odAdd64 s (0x60020 + l) 7 1) evClDown l) l 1

/-- A link with four good lanes and no spare loses one: down and retired (R564). -/
def clRetire (s : Chip) (l : Nat) : Chip :=
  let s := raise (odAdd64 s (0x60020 + l) 7 1) evClDown l
  raise (linkDown s l 4) evClRetired l

/-- CL_DOWN: `lostLock`: a lane has lost lock. -/
def clDownRow (s : Chip) (l : Nat) (lostLock : Bool) : Chip :=
  let x := clLink s l
  if 8 ≤ l ∨ !clUp s l then s
  else if lostLock && spareLane s l == 7 then clRetire s l
  else if 16 ≤ x.resends ∨ 8 ≤ x.undec then clDown s l
  else s

/-- CL_DOWN. -/
def execClDown (l : Nat) (lostLock : Bool) (s : State) : Host.Outcome State Fault Refusal :=
  run s (fun c => clDownRow c l lostLock)

/-! ## Spare lane (R563, R586) -/

/-- The logical lane a physical lane carries, in a lane map. -/
def logicalOf (map lane : Nat) : Option Nat := (List.range 4).find? (fun i => bits map (3 * i + 2) (3 * i) == lane)

/-- The lane map with the spare in place of a lane, and no spare. -/
def substMap (map lane spare : Nat) : Nat :=
  match logicalOf map lane with
  | none => map
  | some i => map % 4096 - lane * 8 ^ i + spare * 8 ^ i + 7 * 4096

/-- A substitution at one end: LANE_SPARED (R563). -/
def laneSwitch (s : Chip) (l lane spare : Nat) : Chip :=
  let map := odN s 0x60012 (l + 1)
  let s := setCl s l { clLink s l with switch := some (map, nowNs s) }
  let s := odSet s 0x60012 (l + 1) (substMap map lane spare)
  raise (odAdd64 s (0x60020 + l) 8 1) evLaneSpared (l + 256 * lane)

/-- The unit of a lane (Table 24-2). -/
def uLane (l lane : Nat) : Nat := 0x8000 + 8 * l + lane

/-- LANE_SUSPECT: `lock`: it lost lock; otherwise its corrected symbols exceeded OD 60.014 within 1 ms. The end that sees it
names the lane, the spare and an FSEQ 64 ahead; the lane then takes its test. Without a spare the link goes down (R564). A
lane that carries no logical lane has no traffic to move. -/
def laneSuspect (s : Chip) (l lane : Nat) (lock : Bool) : Chip :=
  let detect := if lock then 6 else 2
  if 8 ≤ l ∨ 5 ≤ lane ∨ !clUp s l ∨ (clLink s l).badLanes.contains lane ∨ fenced s (uLane l lane) then s
  else if (logicalOf (odN s 0x60012 (l + 1)) lane).isNone then
    recordError (if spareLane s l = lane then odSet s 0x60012 (l + 1) (odN s 0x60012 (l + 1) % 4096 + 7 * 4096) else s)
      2 detect (uLane l lane) 0 0 lane
  else
    let spare := spareLane s l
    if spare = 7 then recordError (clRetire s l) 4 detect (uLane l lane) 0 0 lane
    else
      let fseq := ((clLink s l).nextF + 64) % 65536
      let s := sendBare s l 4 0 0 (leBytes 1 lane ++ leBytes 1 spare ++ leBytes 2 fseq)
      recordError (laneSwitch s l lane spare) 2 detect (uLane l lane) 0 0 lane

/-- LANE_SUSPECT. -/
def execLaneSuspect (l lane : Nat) (lock : Bool) (s : State) : Host.Outcome State Fault Refusal :=
  run s (fun c => laneSuspect c l lane lock)

/-- LANE_CONTROL_RX: this end switches too, and tests the lane; a record that does not fit the lane map is discarded. -/
def laneControl (s : Chip) (l lane spare : Nat) : Chip :=
  if 8 ≤ l ∨ !clUp s l ∨ spareLane s l ≠ spare ∨ spare = 7 ∨ (logicalOf (odN s 0x60012 (l + 1)) lane).isNone then s
  else recordError (laneSwitch s l lane spare) 2 6 (uLane l lane) 0 0 lane

/-- LANE_CONTROL_RX. The switch falls on the flit of FSEQ; flits lost at it are replayed, so the model makes it at once. -/
def execLaneControlRx (l lane spare fseq : Nat) (s : State) : Host.Outcome State Fault Refusal :=
  run s (fun c => if fseq < 65536 then laneControl c l lane spare else c)

/-- A suspect lane has passed its test and becomes the spare (R563). -/
def lanePass (s : Chip) (l lane : Nat) : Chip :=
  if odN s 0x60011 (l + 1) = 4 then s
  else if spareLane s l = 7 ∧ (logicalOf (odN s 0x60012 (l + 1)) lane).isNone then
    raise (odSet s 0x60012 (l + 1) (odN s 0x60012 (l + 1) % 4096 + lane * 4096)) evLaneRestored (l + 256 * lane)
  else s

/-- It has failed: the lane is retired; a lane that carries traffic takes the link with it (R564). -/
def laneFail (s : Chip) (l lane : Nat) : Chip :=
  let x := clLink s l
  let s := setCl s l { x with badLanes := x.badLanes ++ [lane] }
  if clUp s l ∧ (logicalOf (odN s 0x60012 (l + 1)) lane).isSome then clRetire s l
  else if spareLane s l = lane then odSet s 0x60012 (l + 1) (odN s 0x60012 (l + 1) % 4096 + 7 * 4096)
  else s

/-! ## Training (R565, R566, R583) -/

/-- LINK_MAP of a link as of the last reset. -/
def linkMap (s : Chip) (l : Nat) : Nat := inForce s (3 + l)

/-- A link may train: used, in a consist, not retired, and the package has not left; coupling links are up in E0 to E2. -/
def mayTrain (s : Chip) (l : Nat) : Bool :=
  decide (l < 8) && bit (linkMap s l) 15 && inForce s 0 != 0 && odN s 0x60011 (l + 1) != 4 && odN s 0x60042 0 == 0
    && decide (power s < 3)

/-- The training record this end sends (Table 23-3): 64 KiB and 1 MiB of credit. -/
def trainRecord (s : Chip) (l : Nat) : Bytes :=
  leBytes 4 0x4C50434E ++ leBytes 2 1 ++ leBytes 1 (ownOrd s) ++ leBytes 1 l ++ leBytes 4 (inForce s 0) ++ leBytes 4 1024
    ++ leBytes 4 16384 ++ zeros 724

/-- The record received matches this end's objects. -/
def recordOk (s : Chip) (l : Nat) (r : Bytes) : Bool :=
  let m := linkMap s l
  fld r 0 4 == 0x4C50434E && fld r 4 2 == 1 && fld r 8 4 == inForce s 0 && fld r 6 1 == bits m 3 0 && fld r 7 1 == bits m 10 8

/-- The link comes up. -/
def clUpNow (s : Chip) (l : Nat) (r : Bytes) : Chip :=
  let x := clLink s l
  let s := setCl s l { ClLink.off with badLanes := x.badLanes, credit0 := fld r 12 4, credit1 := fld r 16 4 }
  let s := raise (odSet s 0x60011 (l + 1) 2) evClUp (l + 256 * fld r 6 1)
  let before := (List.range 16).filter (fun o => !bit (odN s 0x60031 0) o)
  let s := showRoutes s (some l)
  resendKept (resendStranded s) (fun k => before.contains k.1)

/-- CL_TRAINING: the exchange of training records. `peerOk`: the other end accepts this end's record; `other`: the package
presents an ordinal that is held REACHABLE through another route (R583). -/
def clTraining (s : Chip) (l : Nat) (r : Bytes) (peerOk other : Bool) : Chip :=
  if !mayTrain s l ∨ clUp s l then s
  else
    let s := sendBare s l 3 0 0 (trainRecord s l)
    let held := other && memberState s (fld r 6 1) == 0
    if recordOk s l r && peerOk && !held then clUpNow s l r
    else raise (odSet s 0x60011 (l + 1) 3) evClMiswired (l + 256 * fld r 6 1 + 65536 * fld r 7 1)

/-- CL_TRAINING. -/
def execClTraining (l : Nat) (rec : Bytes) (peerOk other : Bool) (s : State) : Host.Outcome State Fault Refusal :=
  run s (fun c => clTraining c l rec peerOk other)

/-- The package's training slot runs: 2 ms from 30 + 2 × ordinal ms of running time, every 32 ms (R174, R566). -/
def inSlot (s : Chip) : Bool :=
  let t := nowNs s
  let start := ms (30 + 2 * ownOrd s)
  decide (start ≤ t) && decide ((t - start) % ms 32 < ms 2)

/-- CL_SLOT: used links that are not up begin training. -/
def clSlot (s : Chip) : Chip :=
  if !inSlot s then s
  else (List.range 8).foldl (fun s l =>
    let st := odN s 0x60011 (l + 1)
    if mayTrain s l && (st == 0 || st == 3) then odSet s 0x60011 (l + 1) 1 else s) s

/-- CL_SLOT. -/
def execClSlot (s : State) : Host.Outcome State Fault Refusal := run s clSlot

/-- MEMBER_TIMEOUT: no route for OD 60.032 ms. -/
def memberTimeout (s : Chip) (o : Nat) : Chip :=
  if 16 ≤ o ∨ memberState s o ≠ 1 ∨ nowNs s < tget 0 s.cons.lostAt o + ms (odN s 0x60032 0) then s else memberLeft s o

/-- MEMBER_TIMEOUT. -/
def execMemberTimeout (ord : Nat) (s : State) : Host.Outcome State Fault Refusal := run s (fun c => memberTimeout c ord)

/-- Every link of the package goes down: a warm reset, E3, E4 (R585), or leaving (R582). -/
def clAllDown (s : Chip) : Chip :=
  (List.range 8).foldl (fun s l =>
    let st := odN s 0x60011 (l + 1)
    if st = 4 then s else linkDown s l 0) s

/-- The objects of R567 as they now stand, taken at a reset. -/
def clSnapshot (s : Chip) : Chip :=
  { s with cons := { s.cons with
    force := [odN s 0x60001 0, odN s 0x60002 0, odN s 0x60005 0] ++ (List.range 8).map (fun l => odN s 0x60010 (l + 1)) } }

end Sys2Proof.Machine
end

