-- ==== Sys2Proof/Machine/MemTiers.lean ====
section
/-! DEFINITION. Scrubbing, remap, migration and retirement of near-tier granules (12 R324 to R332). A move changes no byte
that any agent reads. -/
namespace Sys2Proof.Machine

/-- The first raw granule of the remap pool: behind 91,552 platform and 1,024 context granules (R324). -/
abbrev poolBase : Nat := 92576

/-- Granules of the near tier: platform and context granules (Table 12-1). -/
def nearGranule (g : Nat) : Bool :=
  match regionOf (g * granule) with
  | .near => true
  | .context => true
  | _ => false

/-- Free raw granules of the pool (OD 40.002). -/
def poolLeft (s : Chip) : Nat := 5728 - s.mem.remapUsed + s.mem.remapBack.length

/-- OD 40.002 follows the pool. -/
def showPool (s : Chip) : Chip := odSet s 0x40002 0 (poolLeft s)

/-- A free raw granule, taken. -/
def takeRaw (s : Chip) : Option (Nat × Chip) :=
  match s.mem.remapBack with
  | r :: l => some (r, showPool { s with mem := { s.mem with remapBack := l } })
  | [] =>
    if s.mem.remapUsed < 5728 then
      some (poolBase + s.mem.remapUsed, showPool { s with mem := { s.mem with remapUsed := s.mem.remapUsed + 1 } })
    else none

/-- PLATFORM of a granule's events: its owner or 0xFF. -/
def ownerByte (s : Chip) (g : Nat) : Nat := (tget? s.plats.owner g).getD 0xFF

/-- A faulty granule is retired in place (R328); a context granule with no remap left is class FATAL. -/
def retireGranule (s : Chip) (g : Nat) : Chip :=
  if s.mem.retired.contains g then s
  else if regionOf (g * granule) = .context then recordError s 5 1 0xD008 (g * granule) 0 0
  else
    let s := { s with mem := { s.mem with retired := s.mem.retired ++ [g] } }
    let s := capacity s 0x01046 (odN s 0x01046 0 - granule)
    let s := odSet s 0x40004 0 s.mem.retired.length
    bankDamage (raiseP s evNearGranuleRetired (ownerByte s g) g) g

/-- A move starts (R326, R327): at once into a free raw granule; a second one of the same granule waits for the first
(R342). Without a free raw granule a lasting fault retires the granule. -/
def startMove (s : Chip) (g : Nat) (lasting : Bool) : Chip :=
  if !nearGranule g ∨ s.mem.retired.contains g ∨ s.mem.migs.any (fun m => m.gran == g) then s
  else
    match takeRaw s with
    | some (r, s) => { s with mem := { s.mem with migs := s.mem.migs ++ [⟨g, r, 0⟩] } }
    | none => if lasting then retireGranule s g else s

/-- GRANULE_MIGRATE: for a lasting fault the move of a granule starts; one under way copies `chunks` more of its 1,024
chunks of 2 KiB. -/
def execGranuleMigrate (g : Nat) (lasting : Bool) (chunks : Nat) (s : State) : Host.Outcome State Fault Refusal :=
  run s (fun c =>
    let c := if lasting then startMove c g true else c
    { c with mem := { c.mem with
      migs := c.mem.migs.map (fun m => if m.gran == g then { m with done := min 1024 (m.done + chunks) } else m) } })

/-- NEAR_REMAPPED: every chunk is copied: the remap entry is switched; the old raw granule returns to service only if
self-test passes it (R326). -/
def nearRemapped (s : Chip) (g : Nat) (oldOk : Bool) : Chip :=
  match s.mem.migs.find? (fun m => m.gran == g) with
  | none => s
  | some m =>
    if m.done < 1024 then s
    else
      let old := tget g s.mem.remap g
      let s := { s with mem := { s.mem with
        migs := s.mem.migs.filter (fun x => x.gran != g)
        remap := tput s.mem.remap g m.raw
        remapBack := if oldOk then s.mem.remapBack ++ [old] else s.mem.remapBack } }
      raiseP (odInc (showPool s) 0x40003 0) evNearRemapped (ownerByte s g) g

/-- NEAR_REMAPPED. -/
def execNearRemapped (g : Nat) (oldOk : Bool) (s : State) : Host.Outcome State Fault Refusal :=
  run s (fun c => nearRemapped c g oldOk)

/-- Corrected errors of a granule counted over 24 h (R327). -/
def noteCe (s : Chip) (g : Nat) : Chip :=
  let x := tget (0, nowNs s) s.mem.ce g
  let x := if x.2 + 86400000000000 ≤ nowNs s then (0, nowNs s) else x
  { s with mem := { s.mem with ce := tput s.mem.ce g (x.1 + 1, x.2) } }

/-- The granule lies inside a range of OD 40.030. -/
def inPinned (s : Chip) (g : Nat) : Bool :=
  (List.range 16).any (fun i =>
    let b := odFld s 0x40030 (i + 1) 0 8 / granule
    decide (b ≤ g) && decide (g < b + odFld s 0x40030 (i + 1) 8 4))

/-- PREVENTIVE_MIGRATION (R327): MIGRATION_PINNED once per 24 h for a pinned granule. -/
def preventive (s : Chip) (g : Nat) : Chip :=
  let x := tget (0, 0) s.mem.ce g
  if odN s 0x40020 0 = 0 ∨ x.1 ≤ odN s 0x40021 0 ∨ x.2 + 86400000000000 ≤ nowNs s ∨ regionOf (g * granule) ≠ .near then s
  else if inPinned s g then
    match tget? s.mem.pinned g with
    | some t => if nowNs s < t + 86400000000000 then s
      else raise { s with mem := { s.mem with pinned := tput s.mem.pinned g (nowNs s) } } evMigrationPinned g
    | none => raise { s with mem := { s.mem with pinned := tput s.mem.pinned g (nowNs s) } } evMigrationPinned g
  else startMove { s with mem := { s.mem with ce := tdel s.mem.ce g } } g false

/-- PREVENTIVE_MIGRATION. -/
def execPreventiveMigration (g : Nat) (s : State) : Host.Outcome State Fault Refusal := run s (fun c => preventive c g)

/-- The part of OD 40.012 a store counts in: near 1 and 2, staging 3 + d and 7 + d. -/
def eccSub (a : Nat) (corrected : Bool) : Option Nat :=
  match regionOf a with
  | .near => some (if corrected then 1 else 2)
  | .context => some (if corrected then 1 else 2)
  | .staging d => some (if corrected then 3 + d else 7 + d)
  | _ => none

/-- PATROL_SCRUB of the sector at `addr` (R331): `res` 0 clean, 1 corrected, 2 uncorrectable. A write-back overtaken by a
newer write is dropped; the data stands either way. -/
def patrolScrub (s : Chip) (a res : Nat) (newer passEnd : Bool) : Chip :=
  let s := match eccSub a (res == 1) with
    | none => s
    | some k =>
      if res = 0 then s
      else
        let s := odInc s 0x40012 k
        if res = 1 then noteCe s (a / granule) else if newer then s else markPoison s (a / 32 * 32) 32
  if passEnd then odInc s 0x40011 0 else s

/-- PATROL_SCRUB. -/
def execPatrolScrub (addr res : Nat) (newer passEnd : Bool) (s : State) : Host.Outcome State Fault Refusal :=
  run s (fun c => patrolScrub c addr res newer passEnd)

/-- Rules on values written to groups 40 and 41: pinned ranges are granule-aligned, reserved bytes zero. -/
def checkMem (obj : Nat) (v : Bytes) : Nat :=
  if obj = 0x40030 then (if fld v 0 8 % granule ≠ 0 ∨ fld v 12 4 ≠ 0 then eRange else eOk) else eOk

end Sys2Proof.Machine
end

