-- ==== Sys2Proof/Machine/Slots.lean ====
section
/-! DEFINITION. Image slots of the boot flash: directory, images, descriptor copies (06 Table 6-6, R181 to R183, 07 R190,
R191), and starting a core from its slot. -/
namespace Sys2Proof.Machine

/-- The bytes of slot 0 (A) or 1 (B). -/
def slotBytes (s : Chip) (k : Nat) : Bytes := if k = 0 then s.flash.slotA else s.flash.slotB

/-- Set them. -/
def setSlotBytes (s : Chip) (k : Nat) (b : Bytes) : Chip :=
  if k = 0 then { s with flash := { s.flash with slotA := b } } else { s with flash := { s.flash with slotB := b } }

/-- Bytes of an image slot: 15,360 KiB (Table 6-5). -/
abbrev imageSlotSize : Nat := 15728640

/-- Images of a slot's 4 KiB directory; a count that does not fit in it lists none. -/
def slotImages (b : Bytes) : List Bytes :=
  let n := fld b 0 4
  if 511 < n then [] else (List.range n).map (fun i => (b.drop (fld b (4 + 8 * i) 4)).take (fld b (8 + 8 * i) 4))

/-- The image of a kind, where the directory lists exactly one. -/
def slotImage (b : Bytes) (kind : Nat) : Option Bytes :=
  match (slotImages b).filter (fun i => imgKind i == kind) with
  | [i] => some i
  | _ => none

/-- Slot running, OD 01.005. -/
def runningSlot (s : Chip) : Nat := odN s 0x01005 0

/-- The descriptor copies (Table 6-6). -/
def descCopy (s : Chip) (k : Nat) : Bytes := if k = 0 then s.flash.descA else s.flash.descB

/-- A copy is valid by MAGIC and CRC. -/
def descValid (b : Bytes) : Bool := fld b 0 4 == 0x5344464E && fld b 28 4 == crc32 (b.take 28)

/-- SEQ `a` is newer than `b` (03 R83). -/
def seqNewer (a b : Nat) : Bool := let d := (a + 2 ^ 32 - b) % 2 ^ 32; decide (0 < d) && decide (d < 2 ^ 31)

/-- The copy in use: the valid one of newer SEQ (R181); copy 0 on equal SEQs. -/
def descUsed (s : Chip) : Option Nat :=
  let a := descCopy s 0
  let b := descCopy s 1
  match descValid a, descValid b with
  | true, true => some (if seqNewer (fld b 4 4) (fld a 4 4) then 1 else 0)
  | true, false => some 0
  | false, true => some 1
  | false, false => none

/-- MIN_SECURITY in force (R190). -/
def minSec (s : Chip) : Nat :=
  match descUsed s with
  | none => odN s 0x04005 0
  | some k => minSecurity s (descCopy s k)

/-- The inputs of MR5: SEC_STATE, DBG_STATE, MIN_SECURITY in force, OD 04.030 and OD 04.032 (Table 7-3); how they are laid
out is open (log 33). -/
def mr5Inputs (s : Chip) : Bytes :=
  leBytes 1 (odN s 0x04001 0) ++ leBytes 1 (odN s 0x05001 0) ++ leBytes 4 (minSec s)
    ++ ((List.range 4).map (fun i => odB s 0x04030 (i + 1) ++ odB s 0x04032 (i + 1))).flatten

/-- MR5 is extended on every change of its inputs (R193): from `s0` to `s`. -/
def noteSecurity (s0 s : Chip) : Chip := if mr5Inputs s0 = mr5Inputs s then s else extendMr s 5 (mr5Inputs s)

/-- The image of `kind` in slot `k` passes R183; `sigs` is the verdict on its two signatures. -/
def slotImageOk (s : Chip) (k kind : Nat) (sigs : Bool) : Bool :=
  match slotImage (slotBytes s k) kind with
  | none => false
  | some i => imageCheck s i kind 0 (minSec s) sigs == 0

/-- A slot is usable (R191): kinds 1 to 4, one image each, every one passes. -/
def slotUsable (s : Chip) (k : Nat) (sigs : List Bool) : Bool :=
  (List.range 4).all (fun i => slotImageOk s k (i + 1) (sigs.getD i false))

/-- The image kind of a core that the device loads itself: 1 for T00 to T03, 2 for T04, 3 for T16 to T23, 0 for the others. -/
def coreKind (t : Nat) : Nat := if t < 4 then 1 else if t = 4 then 2 else if 16 ≤ t then 3 else 0

/-- Load a core's I-space from an image and start it (08 R238). -/
def startImage (s : Chip) (t : Nat) (img : Bytes) : Chip :=
  startCore (setCore s t { coreOf s t with ispace := loadISpace img, bad := [] }) t (BitVec.ofNat 18 (imgEntry img))

/-- A core starts from the running slot's image; without one it is left STOPPED. -/
def startFromSlot (s : Chip) (t : Nat) : Chip :=
  match slotImage (slotBytes s (runningSlot s)) (coreKind t) with
  | some i => startImage s t i
  | none => setCoreState (setCore s t Core.off) t 1

end Sys2Proof.Machine
end

