-- ==== Sys2Proof/Machine/Faults.lean ====
section
/-! DEFINITION. Faults, targeted self-test and repair (24 R589 to R605). -/
namespace Sys2Proof.Machine

/-! ## Detection -/

/-- Subindex of OD 70.011 that bounds the corrected errors of a unit's type; 0: the type has none. -/
def ceTrigger (unit : Nat) : Nat :=
  match unit / 4096 with | 0x1 => 1 | 0x5 => 2 | 0x6 => 3 | 0x7 => 4 | 0x8 => 5 | _ => 0

/-- A corrected error is counted over 24 h of running time, near-tier errors by row; the trigger is reached (R589). -/
def noteCorrected (s : Chip) (unit row : Nat) : Bool × Chip :=
  let sub := ceTrigger unit
  let key := unit + (if unit / 4096 = 7 then 65536 * row else 0)
  let x := tget (0, nowNs s) s.faults.ce key
  let x := if x.2 + 86400000000000 ≤ nowNs s then (0, nowNs s) else x
  if sub = 0 then (true, s)
  else if odN s 0x70011 sub ≤ x.1 + 1 then (true, { s with faults := { s.faults with ce := tdel s.faults.ce key } })
  else (false, { s with faults := { s.faults with ce := tput s.faults.ce key (x.1 + 1, x.2) } })

/-- What an error leaves in the store that met it: counts of OD 40.012, poison (12 R330), a bad word of a Tuital core. -/
def storeError (s : Chip) (unit detect addr detail : Nat) : Chip :=
  match unit / 4096 with
  | 0x1 =>
    let t := unit % 4096
    if detect = 1 ∧ t < 24 ∧ detail ≤ 0x18000 then setCore s t { coreOf s t with bad := detail :: (coreOf s t).bad } else s
  | 0x5 =>
    let s := match eccSub addr (detect == 2) with | some k => odInc s 0x40012 k | none => s
    if detect = 1 then markPoison s (addr / 32 * 32) 32 else s
  | 0x7 =>
    let s := match eccSub addr (detect == 2) with | some k => odInc s 0x40012 k | none => s
    if detect = 1 then markPoison s (addr / 32 * 32) 32 else noteCe s (addr / granule)
  | _ => s

/-- An uncorrectable error in a sector of the platform cache (12 R340): a clean one is fetched again and counts as CE; a dirty
one is written back poisoned. The class of its record, and the block. -/
def cacheError (s : Chip) (addr : Nat) : Nat × Chip :=
  let ln := addr / 128
  let hi := addr / 64 % 2 == 1
  match tget? s.mem.cache ln with
  | none => (2, s)
  | some l =>
    let dirty := if hi then l.dirty1 else l.dirty0
    let l' := if hi then { l with valid1 := false, dirty1 := false } else { l with valid0 := false, dirty0 := false }
    let s := { s with mem := { s.mem with cache := tput s.mem.cache ln l' } }
    if dirty then
      (3, raiseP (markPoison s (addr / 64 * 64) 64) evCacheDirtyPoison l.plat (addr / 64 * 64))
    else (2, s)

/-- Poison read from a far-tier expander (11 R316). -/
def farPoison (s : Chip) (addr : Nat) : Chip :=
  raiseP (markPoison s (addr / 64 * 64) 64) evFarPoison (ownerByte s (addr / granule)) (addr / 64 * 64)

/-- An error is detected (R589). `cls` and `detect` as Tables 24-1 and 24-3; DETECT 2 reports one corrected error, which
writes a record when the unit's count reaches its trigger. `also`: a second error of the unit in the same arbitration
window, whose DETAIL counts where its DETECT is the lower (R598). `struct`: the platform of a per-platform structure that
cannot be corrected (10 R286). -/
def errorDetected (s : Chip) (unit cls detect addr plats detail : Nat) (also : Option (Nat × Nat)) (struct : Option Nat) :
    Chip :=
  if !unitOk unit ∨ cls < 2 ∨ 5 < cls ∨ detect = 0 ∨ 9 < detect ∨ (unitDie unit).any (fun d => !dieLit s d) then s
  else
    let low := match also with | some a => if a.1 < detect then a else (detect, detail) | none => (detect, detail)
    let detect := low.1
    let detail := low.2
    let s := match struct with | some p => if p < 64 then platFail s p unit else s | none => s
    let s := storeError s unit detect addr detail
    let c := if unit / 4096 = 6 ∧ detect = 1 ∧ cls < 5 then cacheError s addr else (cls, s)
    let s := if detect = 7 ∧ unit / 4096 = 0xC ∧ regionOf addr = .far then farPoison c.2 addr else c.2
    if detect = 2 then
      let n := noteCorrected s unit detail
      if n.1 then recordError n.2 2 2 unit addr 0 detail else n.2
    else recordError s c.1 detect unit addr plats detail

/-- ERROR_DETECTED. -/
def execErrorDetected (unit cls detect addr plats detail : Nat) (also : Option (Nat × Nat)) (struct : Option Nat)
    (s : State) : Host.Outcome State Fault Refusal :=
  run s (fun c => errorDetected c unit cls detect addr (plats % 2 ^ 64) detail also struct)

/-! ## Tests -/

/-- The fence of a unit. -/
def fenceOf (s : Chip) (unit : Nat) : Option Fence := s.faults.fences.find? (fun f => f.unit == unit)

/-- Change it. -/
def setFence (s : Chip) (f : Fence) : Chip :=
  { s with faults := { s.faults with fences := s.faults.fences.map (fun g => if g.unit == f.unit then f else g) } }

/-- Maximum duration of a test in µs (Table 24-4). -/
def testMax (unit : Nat) : Nat :=
  match unit / 4096 with
  | 0x1 => 120 | 0x2 => 15 | 0x3 => 10 | 0x4 => 5 | 0x5 => 210 | 0x6 => 5 | 0x7 => 8 | 0x8 => 2000 | 0x9 => 10
  | 0xA => 16 | 0xB => 2000 | 0xD => 200 | 0xE => 210 | _ => 0

/-- A test slot is free: 4 on the hub, 1 on each array die (R593). -/
def testSlotFree (s : Chip) (unit : Nat) : Bool :=
  let n := (s.faults.fences.filter (fun f => f.testing && unitDie f.unit == unitDie unit)).length
  if (unitDie unit).isNone then decide (n < 4) else decide (n < 1)

/-- The unit still works on a job it had: the fence of a corrected error or a reset is taken at the job's end (R592). -/
def unitBusy (s : Chip) (unit : Nat) : Bool :=
  let i := unit % 4096
  match unit / 4096 with
  | 0x2 => odN s 0x50001 (i + 1) == 2
  | 0x3 => odN s 0x50005 (i + 1) == 2
  | 0xB => odN s 0x52001 (i + 1) == 1
  | _ => false

/-- The local SRAM and windows of T00 to T03 are zeroised before their test (R593). -/
def zeroiseDspace (s : Chip) (t : Nat) : Chip :=
  let c := coreOf s t
  let s := setCore s t { c with sram := [], bad := c.bad.filter (fun w => decide (0x8000 ≤ w)) }
  (List.range 16).foldl (fun s w => odSetB s (0x08100 + t) (w + 1) (zeros 16)) s

/-- SELF_TEST_START. -/
def selfTestStart (s : Chip) (unit : Nat) : Chip :=
  match fenceOf s unit with
  | none => s
  | some f =>
    if f.testing ∨ f.result ≠ 0 ∨ !testSlotFree s unit ∨ unitBusy s unit ∨ (unitDie unit).any (fun d => !dieLit s d) then s
    else
      let s := odInc (setFence s { f with testing := true, since := nowNs s }) 0x70020 1
      if 0x1000 ≤ unit ∧ unit < 0x1004 then zeroiseDspace s (unit - 0x1000) else s

/-- SELF_TEST_START. -/
def execSelfTestStart (unit : Nat) (s : State) : Host.Outcome State Fault Refusal := run s (fun c => selfTestStart c unit)

/-- The fence is lifted: the unit takes work again, and waiting adds reach a signal home. -/
def liftFence (s : Chip) (f : Fence) : Chip :=
  let s := { s with faults := { s.faults with fences := s.faults.fences.filter (fun g => g.unit != f.unit) } }
  let s := odSet s 0x70021 0 s.faults.fences.length
  let i := f.unit % 4096
  match f.unit / 4096 with
  | 0x1 => if i < 24 ∧ coreState s i = 4 then setCoreState s i f.prev else s
  | 0x2 => if odN s 0x50001 (i + 1) = 3 then odSet s 0x50001 (i + 1) 1 else s
  | 0x3 => if odN s 0x50005 (i + 1) = 3 then odSet s 0x50005 (i + 1) 1 else s
  | 0xB => if odN s 0x52001 (i + 1) = 2 then setDecodeState s i 0 else s
  | 0xA => applyHeld s
  | _ => s

/-- The records of a fence are rewritten with the result, and reported again (R591, R598, R603). `cls`: class of the fault
after its repair, 0 as it was; a class is never lowered. -/
def testResult (s : Chip) (f : Fence) (test action cls : Nat) (unstored : Bool) : Chip :=
  let dur := min ((nowNs s - f.since) / 1000) (2 ^ 32 - 1)
  let n := transientCount s f.unit
  let g := fun (r : ErrRec) =>
    { r with test := test, action := action, transients := n, testTime := dur
             cls := if cls = 5 ∨ (cls = 4 ∧ r.cls = 3) then cls else r.cls
             flags := if unstored then r.flags ||| 4 else r.flags }
  let s := { s with faults := { s.faults with
    log := s.faults.log.map (fun r => if f.recs.contains r.seq then g r else r) } }
  f.recs.foldl (fun s q =>
    match s.faults.log.find? (fun r => r.seq == q) with
    | some r => faultEvents s r
    | none => s) s

/-- A repair goes into the store of 256 entries (R597): whether it could not be stored. -/
def storeRepair (s : Chip) (unit kind : Nat) : Bool × Chip :=
  if s.faults.store.length < 256 then
    let l := s.faults.store ++ [(unit, kind)]
    (false, odSet { s with faults := { s.faults with store := l } } 0x70040 0 l.length)
  else if s.faults.storeFull then (true, s)
  else (true, raise { s with faults := { s.faults with storeFull := true } } evRepairStoreFull 0)

/-- What a repair came to: ACTION of Table 24-3, the class it raises the record to (0: none), and whether it is one that the
store keeps. -/
structure Repair where
  action : Nat
  cls : Nat
  stored : Bool
  s : Chip
deriving DecidableEq, Repr

/-- Retired units. -/
def retireUnit (s : Chip) (unit : Nat) : Chip :=
  { s with faults := { s.faults with retired := if s.faults.retired.contains unit then s.faults.retired else s.faults.retired ++ [unit] } }

/-- A unit whose number names a spare from now on. -/
def spareUnit (s : Chip) (unit : Nat) : Chip := { s with faults := { s.faults with spared := s.faults.spared ++ [unit] } }

/-- Without a repair the error is class FATAL (R596). -/
def fatalRepair (s : Chip) (unit : Nat) : Repair := ⟨3, 5, false, retireUnit s unit⟩

/-- Retirement of a unit without an event of its own. -/
def plainRetire (s : Chip) (unit : Nat) : Repair := ⟨2, 4, false, raiseU (retireUnit s unit) evUnitRetired unit unit⟩

/-- A Tuital core (08 R241, R242): the spare of its group takes its number, or it is retired; without T04 the device cannot go
on. An unused spare that fails is retired itself. -/
def repairCore (s : Chip) (unit : Nat) : Repair :=
  let t := unit % 4096
  if 24 ≤ t then plainRetire (odSet s 0x01043 0 (odN s 0x01043 0 - 1)) unit
  else
    let g := t / 8
    if odN s 0x08004 (g + 1) = 0xFF ∧ !retired s (0x1018 + g) then
      let s := odSet (odSet s 0x08004 (g + 1) t) 0x01043 0 (odN s 0x01043 0 - 1)
      let s := spareUnit (raiseU s evCoreSpared unit t) unit
      let dark := decide (16 ≤ t) && !dieLit s ((t - 16) / 2)
      ⟨1, 0, true,
        if dark then setCoreState s t 0
        else if coreKind t = 0 then setCoreState (setCore s t Core.off) t 1 else startFromSlot s t⟩
    else
      let m := odN s 0x01042 0
      let s := capacity s 0x01042 (if bit m t then m - 2 ^ t else m)
      let s := setCoreState (raiseU (retireUnit s unit) evCoreRetired unit t) t 6
      if t = 4 then ⟨3, 5, false, s⟩ else ⟨2, 4, false, s⟩

/-- An array (18 R476): a spare row (`place` 1) or column (2), else retirement. -/
def repairArray (s : Chip) (unit place : Nat) : Repair :=
  let i := unit % 4096
  let sp := odN s 0x50002 (i + 1)
  if place = 1 ∧ 0 < bits sp 11 8 then ⟨4, 0, true, raiseU (odSet s 0x50002 (i + 1) (sp - 256)) evArraySpared unit (i + 256)⟩
  else if place = 2 ∧ 0 < bits sp 3 0 then
    ⟨4, 0, true, raiseU (odSet s 0x50002 (i + 1) (sp - 1)) evArraySpared unit (i + 512)⟩
  else
    let m := odN s 0x01040 0
    let s := capacity s 0x01040 (if bit m i then m - 2 ^ i else m)
    ⟨2, 4, false, raiseU (odSet (retireUnit s unit) 0x50001 (i + 1) 4) evArrayRetired unit i⟩

/-- A cipher core (17 R433, R454): its cluster's spare, else a pair fewer. -/
def repairCipher (s : Chip) (unit : Nat) : Repair :=
  let c := unit % 4096 / 32
  let spareUnitNo := 0x4000 + 32 * c + 16
  if unit = spareUnitNo then plainRetire (odSet s 0x01045 0 (odN s 0x01045 0 - 1)) unit
  else if !retired s spareUnitNo ∧ !s.faults.spared.any (fun u => u / 32 == unit / 32) then
    let s := odSet s 0x01045 0 (odN s 0x01045 0 - 1)
    ⟨1, 0, true, raiseU (spareUnit s unit) evUnitSpared unit unit⟩
  else
    let s := raiseU (retireUnit s unit) evUnitRetired unit unit
    let s := capacity s 0x01044 (odN s 0x01044 0 - 1)
    ⟨2, 4, false, clusterLosesPair s c (clusterPairs s c)⟩

/-- A staging bank (12 R332): 8 spare rows and 4 spare columns. -/
def repairStaging (s : Chip) (unit place : Nat) : Repair :=
  let u := tget (0, 0) s.faults.bankUsed unit
  let die := unit % 4096 / 64
  let set := fun (v : Nat × Nat) => { s with faults := { s.faults with bankUsed := tput s.faults.bankUsed unit v } }
  if place = 1 ∧ u.1 < 8 then ⟨4, 0, true, raiseU (set (u.1 + 1, u.2)) evNearRepaired unit (8 + die + 256 * 3)⟩
  else if place = 2 ∧ u.2 < 4 then ⟨4, 0, true, raiseU (set (u.1, u.2 + 1)) evNearRepaired unit (8 + die + 256 * 4)⟩
  else plainRetire s unit

/-- A near-tier row (12 R332, R327, R328): a spare row of its bank (`spare`), held in the stack; else its granule moves; else
the granule is retired in place. -/
def repairNear (s : Chip) (unit addr : Nat) (spare : Bool) : Repair :=
  let stack := unit % 4096 / 32
  let g := addr / granule
  if spare then
    let s := odSet s 0x40041 (stack + 1) (odN s 0x40041 (stack + 1) + 1)
    let s := { s with mem := { s.mem with softRows := s.mem.softRows ++ [(unit, addr)] } }
    ⟨4, 0, false, raiseU s evNearRepaired unit (stack + 256)⟩
  else
    let n := s.mem.retired.length
    let m := s.mem.migs.length
    let s := startMove s g true
    if m < s.mem.migs.length then ⟨5, 0, false, s⟩ else if n < s.mem.retired.length then ⟨2, 4, false, s⟩ else ⟨5, 0, false, s⟩

/-- A coupling-link lane (23 R563, R564): its traffic has moved to the spare; without one the link is retired. -/
def repairLane (s : Chip) (unit : Nat) : Repair :=
  let l := unit % 4096 / 8
  let s := laneFail (retireUnit s unit) l (unit % 8)
  if odN s 0x60011 (l + 1) = 4 then ⟨2, 4, false, s⟩ else ⟨1, 0, true, s⟩

/-- A lasting fault (R596). `place`: the row or column that the test located; `spare`: the near-tier bank, or the bridge, has
a spare left. -/
def repair (s : Chip) (unit addr place : Nat) (spare : Bool) : Repair :=
  let i := unit % 4096
  match unit / 4096 with
  | 0x1 => repairCore s unit
  | 0x2 => repairArray s unit place
  | 0x3 => ⟨2, 4, false, raiseU (odSet (retireUnit s unit) 0x50005 (i + 1) 4) evArrayRetired unit (16 + i)⟩
  | 0x4 => repairCipher s unit
  | 0x5 => repairStaging s unit place
  | 0x7 => repairNear s unit addr spare
  | 0x8 => repairLane s unit
  | 0x9 => if spare then ⟨1, 0, true, raiseU s evUnitSpared unit unit⟩ else fatalRepair s unit
  | 0xA => fatalRepair s unit
  | 0xB => ⟨2, 4, false, raiseU (setDecodeState (retireUnit s unit) i 3) evDecodeEngineRetired unit i⟩
  | 0xD => fatalRepair s unit
  | 0xE => ⟨2, 4, false, clusterLosesPair (retireUnit s unit) i 0⟩
  | _ => plainRetire s unit

/-- ADDR of a fence's first record. -/
def fenceAddr (s : Chip) (f : Fence) : Nat :=
  ((s.faults.log.find? (fun r => f.recs.head? == some r.seq)).map (·.addr)).getD 0

/-- The fault is lasting: repaired, stored, reported (R596, R597), and the fence ends. -/
def lastingFault (s : Chip) (f : Fence) (test place : Nat) (spare : Bool) : Chip :=
  let r := repair s f.unit (fenceAddr s f) place spare
  let st := if r.stored then storeRepair r.s f.unit (r.action + 16 * place) else (false, r.s)
  liftFence (testResult st.2 f test r.action r.cls st.1) f

/-- A transient of a unit (R594). -/
def noteTransient (s : Chip) (unit : Nat) : Chip :=
  { s with faults := { s.faults with transients := tmod [] s.faults.transients (transientKey unit) (fun l => nowNs s :: l) } }

/-- The threshold of a unit's type, OD 70.010. -/
def threshold (s : Chip) (unit : Nat) : Nat := odN s 0x70010 (unit / 4096)

/-- A pass (R594): transient, unless the count exceeds the threshold. A lane that passes is the link's spare again. -/
def testPassed (s : Chip) (f : Fence) (place : Nat) (spare : Bool) : Chip :=
  let s := noteTransient s f.unit
  if threshold s f.unit < transientCount s f.unit then lastingFault (odInc s 0x70020 3) f 2 place spare
  else
    let s := if f.unit / 4096 = 8 then lanePass s (f.unit % 4096 / 8) (f.unit % 8) else s
    liftFence (testResult (odInc s 0x70020 2) f 1 0 0 false) f

/-! ## Cipher pairs (R595) -/

/-- The fence of a check mismatch. -/
def mismatchFence (s : Chip) (f : Fence) : Bool :=
  f.unit / 4096 == 4 && s.faults.log.any (fun r => f.recs.contains r.seq && r.detect == 4)

/-- The other core of a pair, while its own mismatch fence stands. -/
def pairMate (s : Chip) (f : Fence) : Option Fence :=
  if !mismatchFence s f ∨ f.unit % 32 = 16 then none
  else (fenceOf s (f.unit ^^^ 1)).bind (fun g => if mismatchFence s g then some g else none)

/-- Transients of a pair are counted under its lower core. -/
def clearPair (s : Chip) (lo : Nat) : Chip :=
  { s with faults := { s.faults with transients := tdel s.faults.transients lo } }

/-- One core of a pair is replaced, the other returns to service with its own result. -/
def replaceOne (s : Chip) (bad good : Fence) (lo : Nat) : Chip :=
  let s := clearPair s lo
  let s := liftFence (testResult s good (if good.result = 1 then 1 else good.result) 0 0 false) good
  lastingFault s bad (if bad.result = 1 then 2 else bad.result) 0 false

/-- Both cores of a pair have been tested. -/
def pairEnd (s : Chip) (a b : Fence) : Chip :=
  let lo := if a.unit < b.unit then a else b
  let hi := if a.unit < b.unit then b else a
  let owed := s.faults.owed
  if owed.contains lo.unit then
    replaceOne { s with faults := { s.faults with owed := owed.filter (· != lo.unit) } } lo hi lo.unit
  else if lo.result ≠ 1 ∧ hi.result ≠ 1 then
    replaceOne { s with faults := { s.faults with owed := owed ++ [lo.unit] } } hi lo lo.unit
  else if lo.result ≠ 1 then replaceOne s lo hi lo.unit
  else if hi.result ≠ 1 then replaceOne s hi lo lo.unit
  else
    let s := noteTransient s lo.unit
    if threshold s lo.unit < transientCount s lo.unit then replaceOne s hi lo lo.unit
    else
      let s := liftFence (testResult s lo 1 0 0 false) lo
      liftFence (testResult s hi 1 0 0 false) hi

/-- The end of a test with a result: 1 passed, 2 failed, 4 overran. A core of a pair waits for its partner's result. -/
def testEnds (s : Chip) (f : Fence) (result place : Nat) (spare : Bool) : Chip :=
  match pairMate s f with
  | some g =>
    let f' := { f with testing := false, result := result }
    let s := odInc s 0x70020 (if result = 1 then 2 else if result = 2 then 3 else 4)
    if g.result = 0 then setFence s f' else pairEnd (setFence s f') f' g
  | none =>
    if result = 1 then testPassed s f place spare
    else lastingFault (odInc s 0x70020 (if result = 2 then 3 else 4)) f result place spare

/-- SELF_TEST_END. -/
def selfTestEnd (s : Chip) (unit : Nat) (pass : Bool) (place : Nat) (spare : Bool) : Chip :=
  match fenceOf s unit with
  | none => s
  | some f => if f.testing then testEnds s f (if pass then 1 else 2) place spare else s

/-- SELF_TEST_END. `place`: the row (1) or column (2) that the test located, 0 none; `spare`: a spare row of the bank, or a
spare wire of the bridge, is left. -/
def execSelfTestEnd (unit : Nat) (pass : Bool) (place : Nat) (spare : Bool) (s : State) :
    Host.Outcome State Fault Refusal :=
  run s (fun c => selfTestEnd c unit pass place spare)

/-- TEST_OVERRUN: the test is stopped after its maximum, and the fault is lasting (R594). -/
def testOverrun (s : Chip) (unit place : Nat) (spare : Bool) : Chip :=
  match fenceOf s unit with
  | none => s
  | some f =>
    if !f.testing ∨ nowNs s ≤ f.since + us (testMax unit) then s
    else testEnds (raiseU s evTestOverrun unit unit) f 4 place spare

/-- TEST_OVERRUN. -/
def execTestOverrun (unit place : Nat) (spare : Bool) (s : State) : Host.Outcome State Fault Refusal :=
  run s (fun c => testOverrun c unit place spare)

/-! ## Actions -/

/-- State of a unit in OD 70.031: 0 in service, 1 fenced, 2 spared, 3 retired. -/
def unitState (s : Chip) (u : Nat) : Nat :=
  if fenced s u then 1 else if retired s u then 3 else if s.faults.spared.contains u then 2 else 0

/-- OD 70.030, UNIT_QUERY: OD 70.031 takes the unit's state. -/
def actUnitQuery : Act := fun s _ arg =>
  let u := leNat arg
  if !unitOk u then refuse s eRange
  else
    let seq := ((s.faults.log.find? (fun r => r.unit == u)).map (·.seq)).getD 0
    acted (odSetB s 0x70031 0 (leBytes 2 u ++ leBytes 1 (unitState s u) ++ zeros 1 ++ leBytes 2 (transientCount s u)
      ++ zeros 2 ++ leBytes 4 seq ++ zeros 4))

/-- UNIT_QUERY. -/
def execUnitQuery (rq : Rq) (arg : Bytes) (s : State) : Host.Outcome State Fault Refusal :=
  run s (actionRow actUnitQuery 0x70030 rq arg)

/-- The internal state of a unit is cleared (Table 6-1): a core that runs starts again from its image. An Ethernet sub-port
retrains. -/
def clearUnit (s : Chip) (u : Nat) : Chip :=
  let i := u % 4096
  match u / 4096 with
  | 0x1 =>
    if i < 24 ∧ (coreState s i = 2 ∨ coreState s i = 3 ∨ coreState s i = 5) then startCore s i (coreOf s i).entry else s
  | 0xC => if 16 ≤ i then { s with net := { s.net with retrain := s.net.retrain ++ [(i - 16) / 8] } } else s
  | _ => s

/-- OD 01.011, UNIT_RESET: reset and self-test of one unit; one that is fenced is busy (R598). -/
def actUnitReset : Act := fun s _ arg =>
  let u := leNat arg
  if !unitOk u then refuse s eRange
  else if fenced s u then refuse s eBusy
  else if retired s u ∨ (unitDie u).any (fun d => !dieLit s d) then refuse s eNotReady
  else acted (recordError (clearUnit s u) 2 9 u 0 0 0)

/-- UNIT_RESET. -/
def execUnitReset (rq : Rq) (arg : Bytes) (s : State) : Host.Outcome State Fault Refusal :=
  run s (actionRow actUnitReset 0x01011 rq arg)

/-- Rules on values written to group 70: the reserved subindex of OD 70.010 stays 0. -/
def checkFaults (obj sub n : Nat) : Nat := if obj = 0x70010 ∧ sub = 12 ∧ n ≠ 0 then eRange else eOk

end Sys2Proof.Machine
end

