-- ==== Sys2Proof/Machine/Timebase.lean ====
section
/-! DEFINITION. The timebase island (02 R50 to R59, R67 to R70) and the step meters (R45 to R47). -/
namespace Sys2Proof.Machine

/-- OD 03.001, Table 2-3: 0 NO_REF, 1 LOCKED, 2 HOLDOVER, 3 HOLDOVER_EXPIRED, 4 RELOCK. -/
def tbState (s : Chip) : Nat := odN s 0x03001 0

/-- Change of the island's state; READY_MASK[1] follows LOCKED (Table 6-10). -/
def tbSetState (s : Chip) (v : Nat) : Chip := odSetBit (odSet s 0x03001 0 v) 0x01004 0 1 (v == 1)

/-- The rate adjustment as an integer, parts per trillion. -/
def rateAdj (s : Chip) : Int := sInt 32 (odN s 0x03006 0)

/-- One nanosecond of the island passes: 65,536 units of 2^-16 ns, times 1 + RATE_ADJ * 10^-12, the remainder kept. -/
def advanceNs (s : Chip) : Chip :=
  let x : Nat := (65536 * (1000000000000 + rateAdj s)).toNat + s.tb.resid
  let t := s.tb.ns * 65536 + s.tb.frac + x / 1000000000000
  { s with tb := { s.tb with ns := t / 65536, frac := t % 65536, resid := x % 1000000000000 } }

/-- An edge within 1 ns of its prediction is accepted (R51); `err` in ps, none where no edge came. A reference outside
±100 ppm never is (R50). -/
def edgeOk (err : Option Int) (inSpec : Bool) : Bool :=
  match err with
  | none => false
  | some e => inSpec && decide (-1000 ≤ e) && decide (e ≤ 1000)

/-- An expected edge time (R51): in LOCKED and RELOCK a rejected edge is counted in OD 03.007 and enters the window of the
last 32; in the other states the run of accepted edges is counted. -/
def refEdge (s : Chip) (err : Option Int) (inSpec : Bool) : Chip :=
  let ok := edgeOk err inSpec
  let s := { s with tb := { s.tb with okRun := if ok then s.tb.okRun + 1 else 0 } }
  if tbState s = 1 ∨ tbState s = 4 then
    let s := { s with tb := { s.tb with recent := (ok :: s.tb.recent).take 32 } }
    if ok then s else odInc s 0x03007 0
  else s

/-- TIMEBASE_REF_EDGE. -/
def execTimebaseRefEdge (err : Option Int) (inSpec : Bool) (s : State) : Host.Outcome State Fault Refusal :=
  run s (fun c => refEdge c err inSpec)

/-- 8 rejections within 32 expected edge times (R52). -/
def tooManyRejects (s : Chip) : Bool := decide (8 ≤ (s.tb.recent.filter (fun b => !b)).length)

/-- Entry into HOLDOVER (R52). -/
def tbHoldover (s : Chip) : Chip :=
  if (tbState s = 1 ∨ tbState s = 4) ∧ tooManyRejects s then
    let s := tbSetState s 2
    let s := { s with tb := { s.tb with holdSince := nowNs s, okRun := 0, recent := [] } }
    raise (odInc s 0x03008 0) evTbHoldover (odN s 0x03007 0)
  else s

/-- TB_HOLDOVER. -/
def execTbHoldover (s : State) : Host.Outcome State Fault Refusal := run s tbHoldover

/-- After 10 s of holdover (R52). -/
def tbExpired (s : Chip) : Chip :=
  if tbState s = 2 ∧ s.tb.holdSince + 10000000000 ≤ nowNs s then raise (tbSetState s 3) evTbHoldoverExpired 0 else s

/-- TB_HOLDOVER_EXPIRED. -/
def execTbHoldoverExpired (s : State) : Host.Outcome State Fault Refusal := run s tbExpired

/-- After 1,024 consecutive accepted edges in holdover (R53). -/
def tbRelock (s : Chip) : Chip :=
  if (tbState s = 2 ∨ tbState s = 3) ∧ 1024 ≤ s.tb.okRun then
    let d := nowNs s - s.tb.holdSince
    raise (tbSetState { s with tb := { s.tb with holdLast := d, recent := [] } } 4) evTbRelock d
  else s

/-- TB_RELOCK. -/
def execTbRelock (s : State) : Host.Outcome State Fault Refusal := run s tbRelock

/-- Entry into LOCKED (R53): from RELOCK once the phase difference is removed, from NO_REF after 1,024 accepted edges. -/
def tbLocked (s : Chip) (phaseDone : Bool) : Chip :=
  if (tbState s = 4 ∧ phaseDone) ∨ (tbState s = 0 ∧ 1024 ≤ s.tb.okRun) then
    tbSetState { s with tb := { s.tb with recent := [] } } 1
  else s

/-- TB_LOCKED. -/
def execTbLocked (phaseDone : Bool) (s : State) : Host.Outcome State Fault Refusal := run s (fun c => tbLocked c phaseDone)

/-- TB_NO_REF is raised once, at 30 ms without a reference (R53, R186). -/
def tbNoRef (s : Chip) : Chip :=
  if tbState s = 0 ∧ s.tb.noRefRaised = false ∧ ms 30 ≤ nowNs s then
    raise { s with tb := { s.tb with noRefRaised := true } } evTbNoRef 0
  else s

/-- TB_NO_REF. -/
def execTbNoRef (s : State) : Host.Outcome State Fault Refusal := run s tbNoRef

/-- The step object of a die: OD 03.010 for the hub (0), OD 01.049:d for array die d, 1 to 4 (R45). -/
def setStep (s : Chip) (die v : Nat) : Chip := if die = 0 then odSet s 0x03010 0 v else odSet s 0x01049 die v

/-- The end of a gate window of 100 µs (R45, R46): step_fs = 10^11 / count, 0 for a count of 0. A quotient that does not fit
a U32 is a value the spec does not give. -/
def stepWindow (s : Chip) (die count : Nat) : Chip :=
  match tget? s.tb.gateEnd die with
  | none => s
  | some e =>
    if nowNs s < e then s else
    let s := { s with tb := { s.tb with gateEnd := tput s.tb.gateEnd die (e + 100000) } }
    if count = 0 then setStep s die 0
    else if 100000000000 / count < 2 ^ 32 then setStep s die (100000000000 / count)
    else let f := takeFree s 32; setStep f.2 die f.1

/-- STEP_METER_WINDOW. -/
def execStepMeterWindow (die count : Nat) (s : State) : Host.Outcome State Fault Refusal :=
  run s (fun c => stepWindow c die count)

/-- A die goes dark or is lit (R70): its step reads 0 until a window of its own has completed. -/
def stepReset (s : Chip) (die : Nat) (lit : Bool) : Chip :=
  let s := setStep s die 0
  { s with tb := { s.tb with gateEnd := if lit then tput s.tb.gateEnd die (nowNs s + 100000) else tdel s.tb.gateEnd die } }

/-- OD 03.040: the epoch offset that makes epoch time equal the argument (R57). -/
def actTimeSet : Act := fun s _ arg =>
  acted (odSetI s 0x03005 0 ((leNat arg : Int) - (nowNs s : Int)))

/-- TIME_SET. -/
def execTimeSet (rq : Rq) (arg : Bytes) (s : State) : Host.Outcome State Fault Refusal :=
  run s (actionRow actTimeSet 0x03040 rq arg)

/-- A servo correction (R59): within 1 ms by rate adjustment within ±100 ppm, beyond it by a step of the epoch offset. -/
def servo (s : Chip) (offsetErr : Int) (rate : Int) : Chip :=
  if offsetErr ≤ 1000000 ∧ -1000000 ≤ offsetErr then
    odSet s 0x03006 0 (uInt 32 (clampI (-100000000) 100000000 rate))
  else
    let s := odSetI s 0x03005 0 (odI s 0x03005 0 - offsetErr)
    raise s evTbEpochStep (uInt 64 (-offsetErr))

/-- Writes to the timebase group: RATE_ADJ is held at 0 in source REFERENCE, and writes to it are rejected (R58). -/
def checkTb (s : Chip) (obj : Nat) : Nat :=
  if obj = 0x03006 ∧ odN s 0x03002 0 = 0 then eReadOnly else eOk

/-- What a write in the timebase group does besides setting its object: source REFERENCE sets RATE_ADJ to 0 (R58). -/
def effectTb (s : Chip) (obj : Nat) : Chip :=
  if obj = 0x03002 ∧ odN s 0x03002 0 = 0 then odSet s 0x03006 0 0 else s

end Sys2Proof.Machine
end

