-- ==== Sys2Proof/Machine/Traffic.lean ====
section
/-! DEFINITION. The traffic manager (14): buckets, meters, the egress scheduler, the timetable wheel, samplers, and the rules
on writes to groups 21 to 23. -/
namespace Sys2Proof.Machine

/-! ## Buckets (R362, R363) -/

/-- The record of shaper `k` (Table 14-4). -/
def shaperRec (s : Chip) (k : Nat) : Bytes := odB s (0x23800 + k / 16) (k % 16 + 1)

/-- The record of meter `m` (Table 14-1). -/
def meterRec (s : Chip) (m : Nat) : Bytes := odB s (0x22400 + m / 16) (m % 16 + 1)

/-- Parameters of a bucket: interval in µs, two rates in kb/s, two bursts in bytes. -/
abbrev BucketParams := Nat × Nat × Nat × Nat × Nat

/-- Those of a shaper's record. -/
def shaperParams (r : Bytes) : BucketParams := (fld r 2 2, fld r 4 4, 0, fld r 8 4, 0)

/-- Those of a meter's record. -/
def meterParams (r : Bytes) : BucketParams := (fld r 4 2, fld r 8 4, fld r 12 4, fld r 16 4, fld r 20 4)

/-- A full bucket pair. -/
def fullBucket (p : BucketParams) (t : Nat) : Bucket := ⟨256 * p.2.2.2.1, 256 * p.2.2.2.2, t, none, p⟩

/-- The buckets of shaper `k`; one that has not been touched is full. -/
def shaperBucket (s : Chip) (k : Nat) : Bucket :=
  (tget? s.net.buckets (16384 + k)).getD (fullBucket (shaperParams (shaperRec s k)) 0)

/-- The buckets of meter `m`. -/
def meterBucket (s : Chip) (m : Nat) : Bucket :=
  (tget? s.net.buckets m).getD (fullBucket (meterParams (meterRec s m)) 0)

/-- Set a shaper's bucket, and LEVEL in its record: whole bytes, rounded toward minus infinity. -/
def setShaperBucket (s : Chip) (k : Nat) (b : Bucket) : Chip :=
  odSetFld { s with net := { s.net with buckets := tput s.net.buckets (16384 + k) b } } (0x23800 + k / 16) (k % 16 + 1) 20 4
    (uInt 32 (b.l0 / 256))

/-- Set a meter's buckets, and the levels in METER_STATS. -/
def setMeterBucket (s : Chip) (m : Nat) (b : Bucket) : Chip :=
  let o := 0x22800 + m / 16
  let s := { s with net := { s.net with buckets := tput s.net.buckets m b } }
  odSetFld (odSetFld s o (m % 16 + 1) 24 4 (b.l0 / 256).toNat) o (m % 16 + 1) 28 4 (b.l1 / 256).toNat

/-- The credit of R362. -/
def credit (kbps dt : Nat) : Int := ((kbps * dt * 256 / 8000000 : Nat) : Int)

/-- The credit of a pair at a refill: `mode` 1 gives the committed bucket's surplus to the second (R367). -/
def refillBucket (b : Bucket) (mode t : Nat) : Bucket :=
  let dt := t - b.last
  let c0 := 256 * (b.cur.2.2.2.1 : Int)
  let c1 := 256 * (b.cur.2.2.2.2 : Int)
  let x := credit b.cur.2.1 dt
  let l0 := min (b.l0 + x) c0
  let l1 := if mode = 1 then min (b.l1 + (x - (l0 - b.l0))) c1
    else min (b.l1 + credit b.cur.2.2.1 dt) c1
  match b.pending with
  | none => { b with l0 := l0, l1 := l1, last := t }
  | some p => ⟨min l0 (256 * p.2.2.2.1), min l1 (256 * p.2.2.2.2), t, none, p⟩

/-- The latest refill instant of a bucket not after now, if it lies after its previous one. -/
def refillDue (s : Chip) (b : Bucket) : Option Nat :=
  let i := us (max b.cur.1 1)
  let t := nowNs s / i * i
  if b.last < t then some t else none

/-- BUCKET_REFILL of meter `k`, or of shaper `k` - 16,384: due at its refill instants (R362). -/
def bucketRefill (s : Chip) (k : Nat) : Chip :=
  if k < 16384 then
    let b := meterBucket s k
    match refillDue s b with
    | some t => if fld (meterRec s k) 0 1 = 0 then s else setMeterBucket s k (refillBucket b (fld (meterRec s k) 0 1) t)
    | none => s
  else if k < 49152 then
    let b := shaperBucket s (k - 16384)
    match refillDue s b with
    | some t => if bit (fld (shaperRec s (k - 16384)) 0 1) 0 then setShaperBucket s (k - 16384) (refillBucket b 0 t) else s
    | none => s
  else s

/-- BUCKET_REFILL. -/
def execBucketRefill (k : Nat) (s : State) : Host.Outcome State Fault Refusal := run s (fun c => bucketRefill c k)

/-- New parameters under a change mode: NEXT holds them to the next refill, KEEP applies them at once (R363). -/
def changeBucket (b : Bucket) (next : Bool) (p : BucketParams) : Bucket :=
  if p = b.cur then { b with pending := none }
  else if next then { b with pending := some p }
  else ⟨min b.l0 (256 * p.2.2.2.1), min b.l1 (256 * p.2.2.2.2), b.last, none, p⟩

/-! ## Meters (R364 to R368) -/

/-- A decision: colour (0 green, 1 yellow, 2 red), action (0 pass, 1 pass with drop precedence, 2 drop). -/
structure Marked where
  colour : Nat
  action : Nat
deriving DecidableEq, Repr

/-- Table 14-2: the colour of a frame of `n` bytes and the debits of both buckets. -/
def meterColour (mode : Nat) (b : Bucket) (input n : Nat) : Nat × Int × Int :=
  let c : Int := 256 * n
  if mode = 1 then
    (if input = 0 ∧ c ≤ b.l0 then (0, c, 0) else if input ≤ 1 ∧ c ≤ b.l1 then (1, 0, c) else (2, 0, 0))
  else
    (if input = 0 ∧ c ≤ b.l1 ∧ c ≤ b.l0 then (0, c, c) else if input ≤ 1 ∧ c ≤ b.l1 then (1, 0, c) else (2, 0, 0))

/-- One meter marks a frame; 0xFFFF is no meter. -/
def meterOne (s : Chip) (m input n : Nat) : Marked × Chip :=
  let r := meterRec s m
  if 16384 ≤ m ∨ fld r 0 1 = 0 then (⟨0, 0⟩, s)
  else
    let b := meterBucket s m
    let x := meterColour (fld r 0 1) b (if bit (fld r 1 1) 0 then input else 0) n
    (⟨x.1, bits (fld r 2 1) (2 * x.1 + 1) (2 * x.1)⟩, setMeterBucket s m { b with l0 := b.l0 - x.2.1, l1 := b.l1 - x.2.2 })

/-- Count a frame in a meter's statistics under its final colour. -/
def meterStat (s : Chip) (m colour : Nat) : Chip :=
  if 16384 ≤ m then s else odIncFld s (0x22800 + m / 16) (m % 16 + 1) (8 * colour) 8

/-- The input colour of a class meter from the fields a frame has (R365). -/
def inputColour (s : Chip) (m : Nat) (dscp : Option Nat) (pcpdei : Option Nat) : Nat :=
  if bit (fld (meterRec s m) 1 1) 2 then (match pcpdei with | some v => odN s 0x22011 (v + 1) | none => 0)
  else (match dscp with | some v => odN s 0x22010 (v + 1) | none => 0)

/-- The meters a frame passes, class meter then flow meter: the worse colour, and among equal colours the worse action; the
meters it was presented to. -/
def meterFrame (s : Chip) (i t flow n : Nat) (dscp pcpdei : Option Nat) : Marked × List Nat × Chip :=
  let cm := odN s 0x22020 (8 * i + t + 1)
  let x := meterOne s cm (inputColour s cm dscp pcpdei) n
  if x.1.action = 2 then (x.1, [cm], x.2)
  else
    let input := if cm < 16384 then x.1.colour else inputColour x.2 flow dscp pcpdei
    let y := meterOne x.2 flow input n
    let out : Marked := if y.1.colour < x.1.colour then x.1 else if x.1.colour < y.1.colour then y.1
      else ⟨x.1.colour, max x.1.action y.1.action⟩
    (out, [cm, flow], y.2)

/-! ## Eligibility (R369 to R371) -/

/-- A shaper in force: named and enabled. -/
def shaperOn (s : Chip) (k : Nat) : Bool := decide (k < 32768) && bit (fld (shaperRec s k) 0 1) 0

/-- A maximum shaper does not hold its node back. -/
def maxOk (s : Chip) (k : Nat) : Bool := !shaperOn s k || decide (0 ≤ (shaperBucket s k).l0)

/-- A minimum shaper's node is below minimum. -/
def belowMin (s : Chip) (k : Nat) : Bool := shaperOn s k && decide (0 < (shaperBucket s k).l0)

/-- A pacing entry is due: it waits in no slot of the wheel. -/
def entryDue (s : Chip) (e : Nat) : Bool := (tget? s.net.paces e).all (fun p => p.slot.isNone)

/-- Acknowledgements and notifications, which pacing does not hold: ACK, RELAXED ACK, notification. -/
def unpaced (op : Nat) : Bool := op == 0x11 || op == 0xC2 || op == 0x81

/-- A packet of the requester: a request, ordinary or relaxed. -/
def isRequest (op : Nat) : Bool := decide (op ≤ 0x0C) || op == 0x13 || op == 0x14 || op == 0xC0 || op == 0xC1

/-- The pacing entry of a queue pair whose packet the frame is. -/
def framePace (s : Chip) (f : Frame) : Option Nat := f.pkt.bind (fun p => if unpaced p.2.1 then none else (qpOf s p.1).pace)

/-- A queue is eligible: it holds a frame whose pacing entries are due and which needs no encryption any more. -/
def queueOk (s : Chip) (q : Nat) : Bool :=
  match qFrames s q with
  | [] => false
  | f :: _ => f.sa.isNone && maxOk s (fld (queueRec s q) 6 2) && entryDue s q && (framePace s f).all (entryDue s)

/-- Length of a queue's head frame. -/
def headLen (s : Chip) (q : Nat) : Nat := match qFrames s q with | [] => 0 | f :: _ => f.len

/-! ## Deficit round robin -/

/-- A child of a node: its number, its weight, the length of the frame it would send. -/
abbrev Child := Nat × Nat × Nat

/-- One round: each child in turn gets its quantum of WEIGHT × 256 bytes, until one's deficit covers its frame. -/
def drrRound (base : Nat) (d : Table Nat) : List Child → Option Nat × Table Nat
  | [] => (none, d)
  | c :: r =>
    let v := tget 0 d (base + c.1) + 256 * c.2.1
    let d := tput d (base + c.1) v
    if c.2.2 ≤ v then (some c.1, d) else drrRound base d r

/-- Rounds until a child is chosen. -/
def drrRounds (base : Nat) (cs : List Child) : Nat → Table Nat → Option Nat × Table Nat
  | 0, d => (none, d)
  | n + 1, d =>
    match drrRound base d cs with
    | (some c, d) => (some c, d)
    | (none, d) => drrRounds base cs n d

/-- The child served next: the one served last while its deficit lasts, then the others in ascending order round and round. -/
def drr (base turn : Nat) (d : Table Nat) (cs : List Child) : Option (Nat × Table Nat) :=
  if cs.isEmpty then none else
  match cs.find? (fun c => c.1 == turn && decide (c.2.2 ≤ tget 0 d (base + c.1))) with
  | some c => some (c.1, d)
  | none =>
    match drrRounds base (cs.filter (fun c => decide (turn < c.1)) ++ cs.filter (fun c => decide (c.1 ≤ turn))) 65536 d with
    | (some c, d) => some (c, d)
    | (none, _) => none

/-- The children below minimum, or all where none is (R371). -/
def preferred (below : Nat → Bool) (cs : List Child) : List Child :=
  if cs.any (fun c => below c.1) then cs.filter (fun c => below c.1) else cs

/-- Served last at a node. -/
def turnOf (s : Chip) (node : Nat) : Nat := tget 0 s.net.turns node

/-- The queue that group `g` would send from. -/
def pickQueue (s : Chip) (d : Table Nat) (g : Nat) : Option (Nat × Table Nat) :=
  let qs := (s.net.queues.map (·.1)).filter (fun q => qGroup s q == g && queueOk s q)
  drr 0 (turnOf s (2 ^ 16 + g)) d
    (preferred (fun q => belowMin s (fld (queueRec s q) 4 2)) (qs.map (fun q => (q, fld (queueRec s q) 2 2, headLen s q))))

/-- Groups of class `t` of sub-port `i` that could send, each with its weight and the frame it would send. -/
def groupsOf (s : Chip) (i t : Nat) : List Child :=
  let gs := (s.net.queues.map (fun q => qGroup s q.1)).filter (fun g => decide (g < 2048) && gSub s g == i && gTcl s g == t
    && maxOk s (fld (groupRec s g) 6 2))
  (gs.foldl (fun (l : Table Nat) g => tput l g g) []).filterMap (fun g =>
    (pickQueue s s.net.deficits g.1).map (fun q => (g.1, fld (groupRec s g.1) 2 2, headLen s q.1)))

/-- The group and queue that class `t` would send from. -/
def pickGroup (s : Chip) (d : Table Nat) (i t : Nat) : Option (Nat × Nat × Table Nat) :=
  match drr (2 ^ 16) (turnOf s (16 + 8 * i + t)) d
      (preferred (fun g => belowMin s (fld (groupRec s g) 4 2)) (groupsOf s i t)) with
  | none => none
  | some (g, d) => (pickQueue s d g).map (fun q => (g, q.1, q.2))

/-- A class of a sub-port is paused by PFC (R355). -/
def pausedNow (s : Chip) (i t : Nat) : Bool := (tget? s.net.paused (8 * i + t)).any (fun e => decide (nowNs s < e))

/-- The classes that could send. -/
def classesOf (s : Chip) (i : Nat) : List Child :=
  (List.range 8).filterMap (fun t =>
    if pausedNow s i t || !maxOk s (fld (tclNode s i t) 6 2) then none
    else (pickGroup s s.net.deficits i t).map (fun g => (t, fld (tclNode s i t) 2 2, headLen s g.2.1)))

/-- The class served next: below minimum in descending order, then strict in descending order, then weighted (R371). -/
def pickClass (s : Chip) (i : Nat) : Option (Nat × Table Nat) :=
  let cs := classesOf s i
  let high := fun p => (cs.filter (fun c => p c.1)).getLast?
  match high (fun t => belowMin s (fld (tclNode s i t) 4 2)) with
  | some c => some (c.1, s.net.deficits)
  | none =>
    match high (fun t => fld (tclNode s i t) 0 1 == 0) with
    | some c => some (c.1, s.net.deficits)
    | none => drr (2 ^ 17 + 8 * i) (turnOf s i) s.net.deficits cs

/-! ## Sending -/

/-- Debit a frame of `n` bytes from a shaper: n + OVERHEAD. -/
def debitShaper (s : Chip) (n k : Nat) : Chip :=
  if shaperOn s k then
    let b := shaperBucket s k
    setShaperBucket s k { b with l0 := b.l0 - 256 * ((n : Int) + sInt 8 (fld (shaperRec s k) 1 1)) }
  else s

/-- Every shaper on the path of queue `q` (R371). -/
def pathShapers (s : Chip) (q : Nat) : List Nat :=
  let g := qGroup s q
  let i := gSub s g
  let t := tclNode s i (gTcl s g)
  [odN s 0x21020 (i + 1), fld t 4 2, fld t 6 2, fld (groupRec s g) 4 2, fld (groupRec s g) 6 2, fld (queueRec s q) 4 2,
   fld (queueRec s q) 6 2]

/-- The slot of an eligibility time: one beyond the horizon waits in the last slot of the wheel (R376). -/
def slotFor (s : Chip) (e : Nat) : Nat :=
  if (nowNs s + 1048576) * 65536 ≤ e then nowNs s / 16 + 65535 else e / 2 ^ 20

/-- Place an entry in a slot. -/
def placeEntry (s : Chip) (n : Nat) (p : Pace) (k : Nat) : Chip :=
  { s with net := { s.net with paces := tput s.net.paces n { p with slot := some k }, slots := s.net.slots ++ [(k, n)] } }

/-- A frame of `b` bytes paced by entry `n` at `rate` is sent now (R375, R377). -/
def paceSent (s : Chip) (n rate b : Nat) : Chip :=
  let p := tget ⟨0, none, 0⟩ s.net.paces n
  let t := nowNs s * 65536
  if rate = 0 then { s with net := { s.net with paces := tput s.net.paces n ⟨t, none, 0⟩ } }
  else
    let e := max (p.e + (b + 20) * 8000000 * 65536 / rate) t
    placeEntry s n ⟨e, none, rate⟩ (slotFor s e)

/-- Counters of a packet sent for a queue pair (OD 24.030:1), and the time it was sent (R400). -/
def packetSent (s : Chip) (qpn op psn : Nat) : Chip :=
  let q := qpOf s qpn
  let s := odAdd64 s 0x24030 1 1
  let s := if q.plat < 64 then odAdd64 s (0x24080 + q.plat) 1 1 else s
  if q.state = 0 ∨ !isRequest op then s else setQp s qpn { q with times := tput q.times psn (nowNs s) }

/-- Send the head frame of a queue. -/
def sendHead (s : Chip) (i q : Nat) : Chip :=
  match qFrames s q with
  | [] => s
  | f :: r =>
    let s := setFrames s q r
    let s := (pathShapers s q).foldl (fun s k => debitShaper s f.len k) s
    let s := if qPace s q = 0 then s else paceSent s q (qPace s q) f.len
    let s := match framePace s f with
      | some e => paceSent s e (tget ⟨0, none, 0⟩ s.net.paces e).rate f.len
      | none => s
    let s := portCount (portCount s i 3 1) i 4 f.len
    match f.pkt with
    | some (qpn, op, psn) => emit (packetSent s qpn op psn) (.packet qpn op psn f.data)
    | none => emit s (.frame i q f.data)

/-- Set deficits and turns after a choice. -/
def served (s : Chip) (d : Table Nat) (i t g q : Nat) : Chip :=
  let n := headLen s q
  let less := fun (d : Table Nat) k => tset 0 d k (tget 0 d k - n)
  let d := less (less (less d q) (2 ^ 16 + g)) (2 ^ 17 + 8 * i + t)
  let d := if (qFrames s q).length ≤ 1 then tdel d q else d
  { s with net := { s.net with
    deficits := d, turns := tput (tput (tput s.net.turns (2 ^ 16 + g) q) (16 + 8 * i + t) g) i t } }

/-- EGRESS_SELECT: a sub-port can start a frame: a PTP message first, else one queue chosen level by level (R371). -/
def egressSelect (s : Chip) (i : Nat) : Chip :=
  if !subExists s i ∨ subState s i ≠ 2 then s
  else
    match tget [] s.net.ptp i with
    | m :: r =>
      let s := { s with net := { s.net with ptp := tset [] s.net.ptp i r } }
      emit (portCount (portCount s i 3 1) i 4 (m.length + 4)) (.frame i 0xFFFF m)
    | [] =>
      if !maxOk s (odN s 0x21020 (i + 1)) then s
      else
        match pickClass s i with
        | none => s
        | some (t, d) =>
          match pickGroup s d i t with
          | none => s
          | some (g, q, d) => sendHead (served s d i t g q) i q

/-- EGRESS_SELECT. -/
def execEgressSelect (sub : Nat) (s : State) : Host.Outcome State Fault Refusal := run s (fun c => egressSelect c sub)

/-! ## The wheel (R375, R376) -/

/-- An entry of the slot being processed: due, or placed again. -/
def wheelEntry (s : Chip) (n : Nat) : Chip :=
  match tget? s.net.paces n with
  | none => s
  | some p =>
    if p.e < (s.net.wheel + 1) * 2 ^ 20 then
      { s with net := { s.net with paces := tput s.net.paces n { p with slot := none } } }
    else placeEntry s n p (slotFor s p.e)

/-- WHEEL_SLOT: the next slot is processed once running time has reached its end; more than 1 µs later it counts as late. -/
def wheelSlot (s : Chip) : Chip :=
  let k := s.net.wheel
  if nowNs s < 16 * (k + 1) then s
  else
    let l := s.net.slots.filter (fun x => x.1 == k)
    let s := { s with net := { s.net with slots := s.net.slots.filter (fun x => x.1 != k) } }
    let s := l.foldl (fun s x => wheelEntry s x.2) s
    let s := if 16 * (k + 1) + 1000 < nowNs s then odInc s 0x23011 0 else s
    { s with net := { s.net with wheel := k + 1 } }

/-- WHEEL_SLOT. -/
def execWheelSlot (s : State) : Host.Outcome State Fault Refusal := run s wheelSlot

/-! ## Samplers (R378 to R380) -/

/-- A moving average (R379): truncating division (R16). -/
def ewma (s : Chip) (old x : Nat) : Nat := ((old : Int) + Int.tdiv ((x : Int) - old) (2 ^ odN s 0x21031 0)).toNat

/-- A sample record after a visit (Table 14-5). -/
def sampleRec (s : Chip) (r : Bytes) (bytes frames sojourn : Nat) : Bytes :=
  let so := min sojourn 0xFFFFFFFF
  leBytes 4 bytes ++ leBytes 4 frames ++ leBytes 4 (min (fld r 8 4) bytes) ++ leBytes 4 (max (fld r 12 4) bytes)
    ++ leBytes 4 (ewma s (fld r 16 4) bytes) ++ leBytes 4 so ++ leBytes 4 (min (fld r 24 4) so)
    ++ leBytes 4 (max (fld r 28 4) so) ++ leBytes 4 (ewma s (fld r 32 4) so) ++ leBytes 4 ((fld r 36 4 + 1) % 2 ^ 32)

/-- The histogram bin of a sojourn time in ns. -/
def sojournBin (ns : Nat) : Nat := let u := ns / 1000; if u = 0 then 0 else min 15 (u.log2 + 1)

/-- One visit to an egress queue: its record, and one bin of its sub-port and class. -/
def sampleQueue (s : Chip) (q : Nat) : Chip :=
  let so := match qFrames s q with | [] => 0 | f :: _ => nowNs s - f.at_
  let o := 0x21800 + q / 16
  let s := odSetB s o (q % 16 + 1) (sampleRec s (odB s o (q % 16 + 1)) (qBytes s q) (qFrames s q).length so)
  let g := qGroup s q
  odInc s (0x21040 + gSub s g) (16 * gTcl s g + sojournBin so + 1)

/-- The next egress queue of the pass; a pass starts at the start of its period, or late as soon as the last one ends. -/
def samplerNext (s : Chip) : Chip :=
  let q := s.net.sampler.1
  let start := s.net.sampler.2
  let period := us (odN s 0x21030 0)
  if nowNs s < start then s
  else
    let s := sampleQueue s q
    if q < 16383 then { s with net := { s.net with sampler := (q + 1, start) } }
    else if start + period < nowNs s then
      odInc { s with net := { s.net with sampler := (0, nowNs s) } } 0x21033 0
    else { s with net := { s.net with sampler := (0, start + period) } }

/-- OD 21.032, SAMPLER_RESET: first queue, count. -/
def actSamplerReset : Act := fun s _ arg =>
  let a := fld arg 0 2
  let n := fld arg 2 2
  if 16384 < a + n then refuse s eRange
  else acted ((List.range n).foldl (fun s k =>
    let o := 0x21800 + (a + k) / 16
    let i := (a + k) % 16 + 1
    let r := odB s o i
    odSetB s o i (splice (splice r 8 (leBytes 4 0xFFFFFFFF ++ leBytes 4 0)) 24 (leBytes 4 0xFFFFFFFF ++ leBytes 4 0))) s)

/-- SAMPLER_RESET. -/
def execSamplerReset (rq : Rq) (arg : Bytes) (s : State) : Host.Outcome State Fault Refusal :=
  run s (actionRow actSamplerReset 0x21032 rq arg)

/-! ## Writes to groups 21 to 23 -/

/-- Shapers attached to node slots: object, subindex, shapers of its slots. -/
def attachments (s : Chip) : List (Nat × Nat × List Nat) :=
  (odListed s 0x21020 0x21020).map (fun x => (x.1, x.2, [odN s x.1 x.2]))
    ++ (odListed s 0x21080 0x217FF).map (fun x => (x.1, x.2, [odFld s x.1 x.2 4 2, odFld s x.1 x.2 6 2]))

/-- Shapers a node write names, or names again, against R369. -/
def attachBad (s : Chip) (obj sub : Nat) (ks : List Nat) : Bool :=
  let ks := ks.filter (· != 0xFFFF)
  ks.any (fun k => decide (32768 ≤ k)) || ks.eraseDups.length != ks.length
  || ks.any (fun k => (attachments s).any (fun a => !(a.1 == obj && a.2.1 == sub) && a.2.2.contains k))

/-- A weight of 1 to 4,096. -/
def weightOk (w : Nat) : Bool := decide (1 ≤ w) && decide (w ≤ 4096)

/-- An interval of 1 to 1,000 µs. -/
def intervalOk (n : Nat) : Bool := decide (1 ≤ n) && decide (n ≤ 1000)

/-- The rules on a shaper record (Table 14-4, R374). -/
def shaperBad (s : Chip) (k : Nat) (v : Bytes) : Bool :=
  let above := sInt 8 (fld v 1 1)
  decide (7 < fld v 0 1) || decide (above < -64) || decide (63 < above) || !intervalOk (fld v 2 2) || decide (fld v 8 4 < 64)
  || decide (16777216 < fld v 8 4) || !isZero (slice v 24 8)
  || (bit (fld v 0 1) 2 && (decide (fld v 16 4 < fld v 12 4)
      || (fld v 4 4 != fld (shaperRec s k) 4 4 && (decide (fld v 4 4 < fld v 12 4) || decide (fld v 16 4 < fld v 4 4)))))

/-- The rules on a meter record (Table 14-1, R364). -/
def meterBad (v : Bytes) : Bool :=
  let mode := fld v 0 1
  let a := fld v 2 1
  decide (2 < mode) || decide (7 < fld v 1 1) || decide (64 ≤ a) || a % 4 == 3 || a / 4 % 4 == 3 || a / 16 == 3
  || fld v 3 1 != 0 || fld v 6 2 != 0 || !isZero (slice v 24 8) || decide (16777216 < fld v 16 4)
  || decide (16777216 < fld v 20 4) || (mode != 0 && !intervalOk (fld v 4 2))
  || (mode == 2 && decide (fld v 12 4 < fld v 8 4)) || (mode == 1 && fld v 12 4 != 0)

/-- The rules on values written to groups 21 to 23. -/
def checkTraffic (s : Chip) (obj sub : Nat) (v : Bytes) : Nat :=
  let n := leNat v
  if obj = 0x21020 then (if attachBad s obj sub [n] then eRange else eOk)
  else if 0x21080 ≤ obj ∧ obj ≤ 0x2108F then
    if 1 < fld v 0 1 ∨ fld v 1 1 ≠ 0 ∨ !weightOk (fld v 2 2) ∨ attachBad s obj sub [fld v 4 2, fld v 6 2] then eRange else eOk
  else if 0x21100 ≤ obj ∧ obj ≤ 0x2117F then
    let g := 16 * (obj - 0x21100) + (sub - 1)
    if 15 < fld v 0 1 ∨ 7 < fld v 1 1 ∨ !weightOk (fld v 2 2) ∨ !isZero (slice v 8 8)
        ∨ attachBad s obj sub [fld v 4 2, fld v 6 2] then eRange
    else if v.take 2 ≠ (groupRec s g).take 2 ∧ s.net.queues.any (fun q => qGroup s q.1 == g) then eBusy
    else eOk
  else if 0x21400 ≤ obj ∧ obj ≤ 0x217FF then
    let q := 16 * (obj - 0x21400) + (sub - 1)
    if 2047 < fld v 0 2 ∨ !weightOk (fld v 2 2) ∨ 16777216 < fld v 8 4 ∨ attachBad s obj sub [fld v 4 2, fld v 6 2] then eRange
    else if v.take 2 ≠ (queueRec s q).take 2 ∧ !(qFrames s q).isEmpty then eBusy
    else eOk
  else if 0x22400 ≤ obj ∧ obj ≤ 0x227FF then (if meterBad v then eRange else eOk)
  else if 0x23800 ≤ obj ∧ obj ≤ 0x23FFF then
    if shaperBad s (16 * (obj - 0x23800) + (sub - 1)) v then eRange else eOk
  else eOk

/-- The latest multiple of an interval in µs not after now. -/
def lastInstant (s : Chip) (i : Nat) : Nat := nowNs s / us (max i 1) * us (max i 1)

/-- What a write in groups 21 to 23 does besides setting its object; `old` is the value before. The change mode that governs
is the one that stood before the write (R363). -/
def effectTraffic (s : Chip) (obj sub : Nat) (old : Bytes) : Chip :=
  if 0x21400 ≤ obj ∧ obj ≤ 0x217FF then
    odSet s 0x23010 1 ((odListed s 0x21400 0x217FF).filter (fun x => odFld s x.1 x.2 12 4 != 0)).length
  else if 0x22400 ≤ obj ∧ obj ≤ 0x227FF then
    let m := 16 * (obj - 0x22400) + (sub - 1)
    let p := meterParams (meterRec s m)
    if fld old 0 1 ≠ fld (meterRec s m) 0 1 then setMeterBucket s m (fullBucket p (lastInstant s p.1))
    else
      let b := (tget? s.net.buckets m).getD (fullBucket (meterParams old) 0)
      setMeterBucket s m (changeBucket b (bit (fld old 1 1) 1) p)
  else if 0x23800 ≤ obj ∧ obj ≤ 0x23FFF then
    let k := 16 * (obj - 0x23800) + (sub - 1)
    let r := shaperRec s k
    let s := if bit (fld r 0 1) 2 ∧ (fld r 4 4 < fld r 12 4 ∨ fld r 16 4 < fld r 4 4) then
        odSetFld s obj sub 4 4 (min (max (fld r 4 4) (fld r 12 4)) (fld r 16 4)) else s
    let s := { s with rdma := { s.rdma with loops := tdel s.rdma.loops k } }
    let p := shaperParams (shaperRec s k)
    if bit (fld r 0 1) 0 ∧ !bit (fld old 0 1) 0 then setShaperBucket s k (fullBucket p (lastInstant s p.1))
    else
      let b := (tget? s.net.buckets (16384 + k)).getD (fullBucket (shaperParams old) 0)
      setShaperBucket s k (changeBucket b (bit (fld old 0 1) 1) p)
  else s

/-- The adaptive loop writes RATE of a shaper under NEXT (R373). -/
def loopRate (s : Chip) (k rate : Nat) : Chip :=
  let b := shaperBucket s k
  let s := odSetFld s (0x23800 + k / 16) (k % 16 + 1) 4 4 rate
  setShaperBucket s k (changeBucket b true (shaperParams (shaperRec s k)))

end Sys2Proof.Machine
end

