-- ==== Sys2Proof/Machine/Ethernet.lean ====
section
/-! DEFINITION. Ethernet ports (13): links, breakout, priority flow control, PTP messages, and the rules on writes to group
20. Received frames are in EthFrames. -/
namespace Sys2Proof.Machine

/-! ## Links (R343 to R347) -/

/-- Links may train: from phase 3 on, with a power state above E3 (R347). -/
def portsOn (s : Chip) : Bool := s.boot.signalBox && decide (power s < 3)

/-- A sub-port has alignment and codeword lock (R346). -/
def ethLinkUp (s : Chip) (i : Nat) : Chip :=
  if !subExists s i ∨ !portsOn s ∨ subState s i = 2 ∨ !bit (odN s 0x20003 0) i then s
  else
    let s := { s with net := { s.net with anRetry := tdel s.net.anRetry i } }
    raise (setSubState s i 2) evEthLinkUp (i + rateCode s i * 256)

/-- ETH_LINK_UP. -/
def execEthLinkUp (sub : Nat) (s : State) : Host.Outcome State Fault Refusal := run s (fun c => ethLinkUp c sub)

/-- A sub-port's link is lost: it trains again, or stays down. -/
def linkLost (s : Chip) (i v : Nat) : Chip :=
  if subState s i = 2 then raise (setSubState s i v) evEthLinkDown i else setSubState s i v

/-- ETH_LINK_DOWN; a frame being transmitted then is lost (R359). -/
def execEthLinkDown (sub : Nat) (sending : Bool) (s : State) : Host.Outcome State Fault Refusal :=
  run s (fun c =>
    if subExists c sub ∧ subState c sub = 2 then
      (let c := linkLost c sub 1; if sending then portCount c sub 19 1 else c)
    else c)

/-- ETH_FEC_DEGRADED: more uncorrectable codewords than OD 20.012 in a window of 1 s, reported once in it (R346). -/
def fecDegraded (s : Chip) (i : Nat) : Chip :=
  match tget? s.net.fec i with
  | some (start, n, false) =>
    if i < 16 ∧ odN s 0x20012 0 < n ∧ nowNs s < start + 1000000000 then
      raise { s with net := { s.net with fec := tput s.net.fec i (start, n, true) } } evEthFecDegraded (i + n * 256)
    else s
  | _ => s

/-- ETH_FEC_DEGRADED. -/
def execEthFecDegraded (sub : Nat) (s : State) : Host.Outcome State Fault Refusal := run s (fun c => fecDegraded c sub)

/-- Codewords counted on a sub-port (R346): the counters, and the window of 1 s. -/
def fecCount (s : Chip) (i corrected uncorrectable : Nat) : Chip :=
  let s := portCount (portCount s i 6 corrected) i 7 uncorrectable
  if uncorrectable = 0 then s
  else
    let w := match tget? s.net.fec i with
      | some (start, n, told) =>
        if nowNs s < start + 1000000000 then (start, n + uncorrectable, told) else (nowNs s, uncorrectable, false)
      | none => (nowNs s, uncorrectable, false)
    { s with net := { s.net with fec := tput s.net.fec i w } }

/-- The frames queued for egress on a port are discarded and counted (R347). -/
def dropQueued (s : Chip) (p : Nat) : Chip :=
  s.net.queues.foldl (fun s q =>
    let i := gSub s (qGroup s q.1)
    if i / 8 = p then tmDrop (setFrames s q.1 []) i q.2.length else s) s

/-- ETH_RETRAIN: a change of breakout, medium or polarity takes every link of the port down and retrains it (R347). -/
def ethRetrain (s : Chip) (p : Nat) : Chip :=
  if !s.net.retrain.contains p then s
  else
    let s := { s with net := { s.net with retrain := s.net.retrain.filter (· != p) } }
    let s := dropQueued s p
    (List.range 8).foldl (fun s k =>
      let i := 8 * p + k
      linkLost s i (b2n (subExists s i && portsOn s && bit (odN s 0x20003 0) i))) s

/-- ETH_RETRAIN. -/
def execEthRetrain (port : Nat) (s : State) : Host.Outcome State Fault Refusal := run s (fun c => ethRetrain c port)

/-- ETH_AN_RETRY: a sub-port left in training because its partner offers no common rate tries again every 500 ms (R344). -/
def anRetry (s : Chip) (i : Nat) : Chip :=
  if !subExists s i ∨ !portsOn s ∨ subState s i ≠ 1 ∨ odN s 0x20002 (i / 8 + 1) = 0 ∨ nowNs s < tget 0 s.net.anRetry i then s
  else { s with net := { s.net with anRetry := tput s.net.anRetry i (nowNs s + ms 500) } }

/-- ETH_AN_RETRY. -/
def execEthAnRetry (sub : Nat) (s : State) : Host.Outcome State Fault Refusal := run s (fun c => anRetry c sub)

/-- Both ports go down, as in E3. -/
def portsDown (s : Chip) : Chip := (List.range 16).foldl (fun s i => linkLost s i 0) s

/-! ## Priority flow control (R355) -/

/-- Ingress occupancy of class `t` of a sub-port: buffered frames and held FINAL packets. -/
def occupancy (s : Chip) (i t : Nat) : Nat :=
  ((s.net.buffer.filter (fun f => f.sub == i && f.tcl == t)).map (·.len)).sum
    + (s.rdma.qps.map (fun q => ((q.2.finals.filter (fun h => h.sub == i && h.tcl == t)).map (·.len)).sum)).sum

/-- Occupancy of a port's ingress buffer. -/
def portOccupancy (s : Chip) (p : Nat) : Nat :=
  ((List.range 8).map (fun k => ((List.range 8).map (occupancy s (8 * p + k))).sum)).sum

/-- PFC_ENABLE of a sub-port. -/
def pfcEnable (s : Chip) (i : Nat) : Nat := odN s 0x20030 (i + 1)

/-- ns of a number of quanta: 512 bit times each. -/
def quantaNs (s : Chip) (i q : Nat) : Nat := cdiv (512 * q) (subGbps s i)

/-- Big-endian field of a frame. -/
def be (b : Bytes) (off n : Nat) : Nat := leNat (slice b off n).reverse

/-- A PFC frame acts on one class. -/
def pfcClass (s : Chip) (i : Nat) (b : Bytes) (t : Nat) : Chip :=
  if bit (be b 2 2) t && bit (pfcEnable s i) t then
    let q := be b (4 + 2 * t) 2
    { s with net := { s.net with
      paused := if q = 0 then tdel s.net.paused (8 * i + t) else tput s.net.paused (8 * i + t) (nowNs s + quantaNs s i q) } }
  else s

/-- The oldest buffered frame of a class (Table 13-2) on a sub-port, and the buffer without it. -/
def takeFrame (s : Chip) (p : RxFrame → Bool) : Option (RxFrame × Chip) :=
  match s.net.buffer.find? p with
  | none => none
  | some f => some (f, { s with net := { s.net with buffer := s.net.buffer.erase f } })

/-- PFC_FRAME_RX: the oldest received PFC frame of a sub-port pauses and resumes classes; disabled ones are ignored. -/
def pfcFrameRx (s : Chip) (i : Nat) : Chip :=
  match takeFrame s (fun f => f.sub == i && f.cls == 5) with
  | none => s
  | some (f, s) => (List.range 8).foldl (fun s t => pfcClass s i f.data t) (portCount s i 14 1)

/-- PFC_FRAME_RX. -/
def execPfcFrameRx (sub : Nat) (s : State) : Host.Outcome State Fault Refusal := run s (fun c => pfcFrameRx c sub)

/-- PFC_PAUSE_EXPIRE: a pause ends after its quanta. -/
def execPfcPauseExpire (sub tcl : Nat) (s : State) : Host.Outcome State Fault Refusal :=
  run s (fun c =>
    match tget? c.net.paused (8 * sub + tcl) with
    | some e => if tcl < 8 ∧ e ≤ nowNs c then { c with net := { c.net with paused := tdel c.net.paused (8 * sub + tcl) } } else c
    | none => c)

/-- Send a PFC frame. -/
def pfcSend (s : Chip) (i t quanta : Nat) : Chip := emit (portCount s i 15 1) (.pfc i t quanta)

/-- PFC_XOFF_SEND: occupancy has reached the XOFF threshold. -/
def xoffSend (s : Chip) (i t : Nat) : Chip :=
  if 8 ≤ t ∨ !subExists s i ∨ subState s i ≠ 2 ∨ !bit (pfcEnable s i) (8 + t) ∨ (tget? s.net.xoff (8 * i + t)).isSome
      ∨ occupancy s i t < odN s 0x20031 0 then s
  else pfcSend { s with net := { s.net with xoff := tput s.net.xoff (8 * i + t) (nowNs s) } } i t 65535

/-- PFC_XOFF_SEND. -/
def execPfcXoffSend (sub tcl : Nat) (s : State) : Host.Outcome State Fault Refusal := run s (fun c => xoffSend c sub tcl)

/-- PFC_XOFF_REPEAT: every 32,768 quanta while occupancy is at or above the XON threshold. -/
def xoffRepeat (s : Chip) (i t : Nat) : Chip :=
  match tget? s.net.xoff (8 * i + t) with
  | none => s
  | some since =>
    if 8 ≤ t ∨ !subExists s i ∨ !bit (pfcEnable s i) (8 + t) ∨ occupancy s i t < odN s 0x20032 0
        ∨ nowNs s < since + quantaNs s i 32768 then s
    else pfcSend { s with net := { s.net with xoff := tput s.net.xoff (8 * i + t) (nowNs s) } } i t 65535

/-- PFC_XOFF_REPEAT. -/
def execPfcXoffRepeat (sub tcl : Nat) (s : State) : Host.Outcome State Fault Refusal := run s (fun c => xoffRepeat c sub tcl)

/-- PFC_XON_SEND: occupancy has fallen below the XON threshold. -/
def xonSend (s : Chip) (i t : Nat) : Chip :=
  if 8 ≤ t ∨ (tget? s.net.xoff (8 * i + t)).isNone ∨ odN s 0x20032 0 ≤ occupancy s i t then s
  else pfcSend { s with net := { s.net with xoff := tdel s.net.xoff (8 * i + t) } } i t 0

/-- PFC_XON_SEND. -/
def execPfcXonSend (sub tcl : Nat) (s : State) : Host.Outcome State Fault Refusal := run s (fun c => xonSend c sub tcl)

/-! ## PTP (R356 to R358) -/

/-- A state that a role of OD 20.040 allows a sub-port. -/
def ptpAllowed (s : Chip) (i v : Nat) : Bool :=
  let role := odN s 0x20040 (i + 1)
  decide (v ≤ 6) && (if role = 0 then v == 0 else v != 0) && !(role == 1 && v == 2) && !(role == 2 && (v == 3 || v == 4))
    && (v != 3 || (List.range 16).all (fun j => j == i || odN s 0x20041 (j + 1) != 3))

/-- PTP_STATE_CHANGED: the clock algorithm changes a sub-port's state. -/
def ptpState (s : Chip) (i v : Nat) : Chip :=
  if odN s 0x20041 (i + 1) = v ∨ !ptpAllowed s i v then s
  else raise (odSet s 0x20041 (i + 1) v) evPtpStateChanged (i + v * 256)

/-- The servo acts on the SLAVE sub-port of the port that OD 03.002 names; on the other port its timestamps do not steer. -/
def ptpServo (s : Chip) (i : Nat) (offsetErr rate : Int) : Chip :=
  if odN s 0x20041 (i + 1) ≠ 3 then s
  else if odN s 0x03002 0 = i / 8 + 1 then servo s offsetErr rate
  else if odN s 0x03002 0 = 1 ∨ odN s 0x03002 0 = 2 then raise s evPtpSourceMismatch i
  else s

/-- PTP_MESSAGE_RX: the oldest received PTP message of a sub-port reaches the firmware with its timestamp; what the firmware
makes of it: a new state, a mean path delay in ps, a servo correction, a message to send. -/
def ptpMessageRx (s : Chip) (i : Nat) (state : Option Nat) (delay : Option Int) (fix : Option (Int × Int))
    (reply : Option Bytes) : Chip :=
  match takeFrame s (fun f => f.sub == i && f.cls == 1) with
  | none => s
  | some (_, s) =>
    let s := match state with | some v => ptpState s i v | none => s
    let s := match delay with | some v => odSetI s 0x20046 (i + 1) v | none => s
    let s := match fix with | some v => ptpServo s i v.1 v.2 | none => s
    match reply with
    | some b => { s with net := { s.net with ptp := tput s.net.ptp i (tget [] s.net.ptp i ++ [b]) } }
    | none => s

/-- PTP_MESSAGE_RX. -/
def execPtpMessageRx (sub : Nat) (state : Option Nat) (delay : Option Int) (fix : Option (Int × Int)) (reply : Option Bytes)
    (s : State) : Host.Outcome State Fault Refusal :=
  run s (fun c => ptpMessageRx c sub state delay fix reply)

/-! ## Writes to group 20 -/

/-- The rules on values written to group 20. -/
def checkEth (s : Chip) (obj sub n : Nat) : Nat :=
  if obj = 0x20032 then (if odN s 0x20031 0 ≤ n then eRange else eOk)
  else if obj = 0x20040 ∧ n = 1 then
    (if (List.range 16).any (fun j => j + 1 != sub && odN s 0x20040 (j + 1) == 1) then eRange else eOk)
  else eOk

/-- What a write in group 20 does besides setting its object. -/
def effectEth (s : Chip) (obj sub old : Nat) : Chip :=
  if obj = 0x20001 ∨ obj = 0x20002 ∨ obj = 0x20004 then
    if odN s obj sub = old then s
    else { s with net := { s.net with retrain := s.net.retrain.filter (· != sub - 1) ++ [sub - 1] } }
  else if obj = 0x20003 then
    (List.range 16).foldl (fun s i => if bit (odN s obj 0) i then s else linkLost s i 0) s
  else if obj = 0x20040 then
    let v := odN s obj sub
    if v = old then s
    else if v = 0 then ptpState s (sub - 1) 0
    else ptpState s (sub - 1) 1
  else s

/-- Objects of group 20 with one subindex per sub-port: one that does not exist in the current mode reads zero and ignores
writes (R343). -/
def perSubPort (obj : Nat) : Bool :=
  [0x20005, 0x20010, 0x20013, 0x20014, 0x20015, 0x20016, 0x20020, 0x20021, 0x20023, 0x20030, 0x20040, 0x20041, 0x20043, 0x20044,
   0x20046].contains obj

end Sys2Proof.Machine
end

