-- ==== Sys2Proof/Machine/KeyStore.lean ====
section
/-! DEFINITION. The key store (07 R199 to R203): loads, zeroisation, segments. -/
namespace Sys2Proof.Machine

/-- OD 04.053: READY slots of a segment. -/
def showSegment (s : Chip) (seg : Nat) : Chip :=
  odSet s 0x04053 (seg + 1) ((s.sec.slots.filter (fun k => k.1 / 256 == seg && k.2.state == 1)).length)

/-- The owner number of a domain's segments. -/
def Dom.segOwner : Dom → Nat
  | .sealed => 0xFE
  | .opn => 0xFD
  | .plat n => n

/-- The USE field fits the key (R200). -/
def useOk (use len : Nat) : Bool :=
  (use == 2 && (len == 32 || len == 64)) || ((use == 1 || use == 4 || use == 5 || use == 8) && (len == 16 || len == 32))

/-- The key of a load: plain, or unwrapped; none where the unwrap fails, which is the request's verdict (log 11). -/
def loadedKey (s : Chip) (rq : Rq) (arg : Bytes) : Option Bytes :=
  let mat := arg.drop 8
  if fld arg 4 1 = 0 then some mat
  else if rq.verdict then some (leBytes (fld arg 5 1) (Config.keyUnwrap (keySlot s (fld arg 2 2)).key mat)) else none

/-- KEY_LOAD (OD 04.051, R200). In DBG-FULL a sealed load under a zeroised key is denied (R208). -/
def actKeyLoad : Act := fun s rq arg =>
  let d := domainOf s rq
  let slot := fld arg 0 2
  let kek := fld arg 2 2
  let form := fld arg 4 1
  let len := fld arg 5 1
  let own := d.segOwner
  let kekBad := form == 1 && (decide (keySlots ≤ kek) || slotOwner s kek != own || (keySlot s kek).state != 1
    || !bit (keySlot s kek).use 3)
  if keySlots ≤ slot ∨ slotOwner s slot ≠ own then refuse s eRange
  else if kekBad ∧ d = .sealed ∧ odN s 0x05001 0 = 2 then refuse s eDenied
  else if kekBad ∨ 1 < form ∨ !useOk (fld arg 6 2) len ∨ arg.length ≠ 8 + len + (if form = 1 then 8 else 0)
      ∨ (keySlot s slot).state ≠ 0 then refuse s eRange
  else
    match loadedKey s rq arg with
    | none => acted (raiseP s evKeyLoadFailed d.platByte (slot + 65536))
    | some k =>
      let g := ((keySlot s slot).gen + 1) % 65536
      let s := showSegment (setKeySlot s slot ⟨1, k, fld arg 6 2, g, 0⟩) (slot / 256)
      acted (raiseP s evKeyLoaded d.platByte (slot + 65536 * g))

/-- KEY_LOAD. -/
def execKeyLoad (rq : Rq) (arg : Bytes) (s : State) : Host.Outcome State Fault Refusal :=
  run s (actionRow actKeyLoad 0x04051 rq arg)

/-- A slot is overwritten: EMPTY, its generation one higher (R201, R202). -/
def zeroiseSlot (s : Chip) (slot : Nat) : Chip :=
  let k := keySlot s slot
  if k.state = 0 then s
  else
    let g := (k.gen + 1) % 65536
    let s := showSegment (setKeySlot s slot { k with state := 0, key := [], use := 0, gen := g }) (slot / 256)
    raiseP s evKeyZeroised (slotOwner s slot) (slot + 65536 * g)

/-- KEY_ZEROISE (OD 04.052, R202): a READY slot is CLOSING at once. -/
def actKeyZeroise : Act := fun s rq arg =>
  let slot := leNat arg
  if keySlots ≤ slot ∨ slotOwner s slot ≠ (domainOf s rq).segOwner then refuse s eRange
  else if (keySlot s slot).state = 1 then
    acted (showSegment (setKeySlot s slot { keySlot s slot with state := 2 }) (slot / 256))
  else acted s

/-- KEY_ZEROISE. -/
def execKeyZeroise (rq : Rq) (arg : Bytes) (s : State) : Host.Outcome State Fault Refusal :=
  run s (actionRow actKeyZeroise 0x04052 rq arg)

/-- KEY_ZEROISED: a CLOSING slot whose last issued request has completed. -/
def execKeyZeroised (slot : Nat) (s : State) : Host.Outcome State Fault Refusal :=
  run s (fun c =>
    let k := keySlot c slot
    if slot < keySlots ∧ k.state = 2 ∧ k.issued = 0 then zeroiseSlot c slot else c)

/-- Zeroise every slot that a test names (R203). -/
def zeroiseSlots (s : Chip) (p : Nat → Bool) : Chip :=
  ((s.sec.slots.map (·.1)).filter p).foldl zeroiseSlot s

/-- Slots of a segment that hold a key. -/
def slotsHeld (s : Chip) (seg : Nat) : Nat := (s.sec.slots.filter (fun k => k.1 / 256 == seg && k.2.state != 0)).length

/-- A new segment owner needs every slot of the segment EMPTY (R199). -/
def checkSegment (s : Chip) (sub n : Nat) : Nat :=
  if n ≠ odN s 0x04050 sub ∧ slotsHeld s (sub + 3) ≠ 0 then eBusy else eOk

end Sys2Proof.Machine
end

