-- ==== Sys2Proof/Machine/NvmeEmu.lean ====
section
/-! DEFINITION. The NVMe controller that a platform sees (16, NVMe emulation, R430, Table 16-6). Where the spec names a field
or status by NVMe's name, its place and code are those of NVMe 2.0 (log 58). Commands arrive as their 64-byte entries. -/
namespace Sys2Proof.Machine

/-- Opcode of a command. -/
def nvOp (e : Bytes) : Nat := fld e 0 1
/-- Command identifier. -/
def nvCid (e : Bytes) : Nat := fld e 2 2
/-- Namespace identifier. -/
def nvNsid (e : Bytes) : Nat := fld e 4 4
/-- Command Dword `n`, 10 to 15. -/
def nvDw (e : Bytes) (n : Nat) : Nat := fld e (4 * n) 4

/-- The controller of a platform works: NVME_ENABLE, the platform ENABLED and its function there. -/
def nvOn (s : Chip) (p : Nat) : Bool := decide (p < 64) && fld (platStorage s p) 4 1 == 1 && platOn s p && hasFn s p

/-- I/O queue pairs of a controller. -/
def nvQueues (s : Chip) (p : Nat) : Nat := fld (platStorage s p) 5 1

/-- The native queue that carries I/O queue `y`. -/
def nvNative (s : Chip) (p y : Nat) : Nat := fld (platStorage s p) 0 2 + y - 1

/-- An admin command completes: Dword 0, status; vector 0 is the admin queue's. -/
def nvAdmin (s : Chip) (p : Nat) (e : Bytes) (dw0 status : Nat) : Chip :=
  msixPlat (emit s (.nvmeAdmin p (leBytes 4 dw0 ++ leBytes 2 (epochOf s p) ++ zeros 2 ++ zeros 4 ++ leBytes 2 (nvCid e)
    ++ leBytes 2 (2 * status)))) p 0

/-- An admin row: where the controller works. -/
def nvRow (p : Nat) (s : State) (f : Chip → Chip) : Host.Outcome State Fault Refusal :=
  run s (fun c => if nvOn c p then f c else c)

/-- READY namespaces of a platform in ascending order, at most 32 (Table 16-6). -/
def nvSpaces (s : Chip) (p : Nat) : List Nat :=
  ((List.range 1024).filter (fun k => nsOwner (nsRec s k) == p && nsState s k == 2)).take 32

/-- The namespace of an NSID. -/
def nvSpace (s : Chip) (p nsid : Nat) : Option Nat := if nsid = 0 then none else (nvSpaces s p)[nsid - 1]?

/-! ## PRPs -/

/-- Entries of a PRP list; the last of a page that does not suffice points to the next page. -/
def prpList (s : Chip) (p : Nat) : Nat → Nat → Nat → List (Nat × Nat) × Chip
  | 0, _, _ => ([], s)
  | fuel + 1, a, n =>
    if n = 0 then ([], s)
    else
      let x := xferRead s (.plat p) a 8 0 0 uStorage Bound.free
      let e := leNat x.bytes
      if a % 4096 = 4088 ∧ 4096 < n then prpList x.s p fuel e n
      else
        let r := prpList x.s p fuel (a + 8) (n - min n 4096)
        ((e, min n 4096) :: r.1, r.2)

/-- The runs of memory that PRP1 and PRP2 give for `n` bytes, in pages of 4 KiB. -/
def prpRuns (s : Chip) (p : Nat) (e : Bytes) (n : Nat) : List (Nat × Nat) × Chip :=
  let a := fld e 24 8
  let n1 := min n (4096 - a % 4096)
  let rest := n - n1
  if rest = 0 then ([(a, n1)], s)
  else if rest ≤ 4096 then ([(a, n1), (fld e 32 8, rest)], s)
  else
    let r := prpList s p (rest / 2048 + 4) (fld e 32 8) rest
    ((a, n1) :: r.1, r.2)

/-- Data of an admin command to the host; the status of the command. -/
def nvData (s : Chip) (p : Nat) (e data : Bytes) : Nat × Chip :=
  let r := prpRuns s p e data.length
  let x := segWrite r.2 (.plat p) 0 Bound.free data r.1
  (if x.st = 0 then 0 else 0x04, x.s)

/-! ## Queues -/

/-- NVME_CREATE_IO_CQ. -/
def nvCreateCq (s : Chip) (p : Nat) (e : Bytes) : Chip :=
  let c := nvCtl s p
  let id := nvDw e 10 % 65536
  let size := nvDw e 10 / 65536
  let iv := nvDw e 11 / 65536
  if id = 0 ∨ nvQueues s p < id ∨ (tget? c.cqs id).isSome then nvAdmin s p e 0 0x101
  else if size = 0 ∨ 1023 < size then nvAdmin s p e 0 0x102
  else if !bit (nvDw e 11) 0 ∨ fld e 24 8 % 4096 ≠ 0 then nvAdmin s p e 0 0x02
  else if bit (nvDw e 11) 1 ∧ 128 ≤ iv then nvAdmin s p e 0 0x108
  else
    let q : NvQueue := ⟨size + 1, fld e 24 8, if bit (nvDw e 11) 1 then iv else 0xFFFF, 0, 0⟩
    nvAdmin (setNvCtl s p { c with cqs := tput c.cqs id q }) p e 0 0

/-- NVME_CREATE_IO_CQ. -/
def execNvmeCreateIoCq (p : Nat) (sqe : Bytes) (s : State) : Host.Outcome State Fault Refusal :=
  nvRow p s (fun c => nvCreateCq c p sqe)

/-- NVME_CREATE_IO_SQ. -/
def nvCreateSq (s : Chip) (p : Nat) (e : Bytes) : Chip :=
  let c := nvCtl s p
  let id := nvDw e 10 % 65536
  let size := nvDw e 10 / 65536
  let cq := nvDw e 11 / 65536
  if id = 0 ∨ nvQueues s p < id ∨ (tget? c.sqs id).isSome then nvAdmin s p e 0 0x101
  else if size = 0 ∨ 1023 < size then nvAdmin s p e 0 0x102
  else if !bit (nvDw e 11) 0 ∨ fld e 24 8 % 4096 ≠ 0 then nvAdmin s p e 0 0x02
  else if (tget? c.cqs cq).isNone then nvAdmin s p e 0 0x100
  else nvAdmin (setNvCtl s p { c with sqs := tput c.sqs id ⟨size + 1, fld e 24 8, cq, 0, 0⟩ }) p e 0 0

/-- NVME_CREATE_IO_SQ. -/
def execNvmeCreateIoSq (p : Nat) (sqe : Bytes) (s : State) : Host.Outcome State Fault Refusal :=
  nvRow p s (fun c => nvCreateSq c p sqe)

/-- NVME_DELETE_IO_SQ: commands that have not started complete as aborted by the deletion. -/
def nvDeleteSq (s : Chip) (p : Nat) (e : Bytes) : Chip :=
  let id := nvDw e 10 % 65536
  if (tget? (nvCtl s p).sqs id).isNone then nvAdmin s p e 0 0x101
  else
    let s := sqFlush s (nvNative s p id)
    let c := nvCtl s p
    nvAdmin (setNvCtl s p { c with sqs := tdel c.sqs id }) p e 0 0

/-- NVME_DELETE_IO_SQ. -/
def execNvmeDeleteIoSq (p : Nat) (sqe : Bytes) (s : State) : Host.Outcome State Fault Refusal :=
  nvRow p s (fun c => nvDeleteSq c p sqe)

/-- NVME_DELETE_IO_CQ. -/
def nvDeleteCq (s : Chip) (p : Nat) (e : Bytes) : Chip :=
  let id := nvDw e 10 % 65536
  let c := nvCtl s p
  if (tget? c.cqs id).isNone then nvAdmin s p e 0 0x101
  else if c.sqs.any (fun q => q.2.link == id) then nvAdmin s p e 0 0x10C
  else nvAdmin (setNvCtl s p { c with cqs := tdel c.cqs id }) p e 0 0

/-- NVME_DELETE_IO_CQ. -/
def execNvmeDeleteIoCq (p : Nat) (sqe : Bytes) (s : State) : Host.Outcome State Fault Refusal :=
  nvRow p s (fun c => nvDeleteCq c p sqe)

/-! ## Admin commands -/

/-- Identify data of 4,096 bytes: what the spec gives of it in its NVMe place, everything else open. -/
def nvIdentify (s : Chip) (p : Nat) (e : Bytes) : Option Bytes × Chip :=
  let cns := nvDw e 10 % 256
  let f := takeFree s 32768
  let base := leBytes 4096 f.1
  if cns = 0 then
    match nvSpace s p (nvNsid e) with
    | none => (some (zeros 4096), s)
    | some k =>
      let r := nsRec s k
      let n := leBytes 8 (nsBlocks r)
      (some (setFld (splice (setFld (setFld base 25 1 0) 26 1 0) 0 (n ++ n ++ n)) 128 4 (fld r 2 1 * 65536)), f.2)
  else if cns = 1 then (some (setFld (setFld base 80 4 0x00020000) 516 4 32), f.2)
  else if cns = 2 then
    let ids := ((List.range (nvSpaces s p).length).map (· + 1)).filter (fun i => decide (nvNsid e < i))
    (some (slice (ids.map (leBytes 4)).flatten 0 4096), s)
  else if cns = 3 then (some base, f.2)
  else (none, s)

/-- NVME_IDENTIFY: CNS 0x00 to 0x03. -/
def execNvmeIdentify (p : Nat) (sqe : Bytes) (s : State) : Host.Outcome State Fault Refusal :=
  nvRow p s (fun c =>
    let d := nvIdentify c p sqe
    match d.1 with
    | none => nvAdmin c p sqe 0 0x02
    | some b => let x := nvData d.2 p sqe b; nvAdmin x.2 p sqe 0 x.1)

/-- NVME_GET_LOG_PAGE: pages 0x01 to 0x03; `page` is the page as the owning SSD's figures make it. Without a local namespace
the figures read zero (R430). -/
def execNvmeGetLogPage (p : Nat) (sqe page : Bytes) (s : State) : Host.Outcome State Fault Refusal :=
  nvRow p s (fun c =>
    let lid := nvDw sqe 10 % 256
    let n := 4 * (nvDw sqe 10 / 65536 + 65536 * (nvDw sqe 11 % 65536) + 1)
    let local_ := (nvSpaces c p).any (fun k => decide (nsBack (nsRec c k) < 8))
    if lid = 0 ∨ 3 < lid then nvAdmin c p sqe 0 0x02
    else
      let x := nvData c p sqe (if lid = 2 ∧ !local_ then zeros (min n 4096) else slice page 0 (min n 4096))
      nvAdmin x.2 p sqe 0 x.1)

/-- The value of a feature; Number of Queues is NVME_QUEUES for both kinds, the write cache's is open. -/
def nvFeature (s : Chip) (p fid : Nat) : Nat × Chip :=
  if fid = 7 then ((nvQueues s p - 1) * 65537, s)
  else if fid = 6 then takeFree s 1
  else (tget 0 (nvCtl s p).features fid, s)

/-- NVME_GET_FEATURES. -/
def execNvmeGetFeatures (p : Nat) (sqe : Bytes) (s : State) : Host.Outcome State Fault Refusal :=
  nvRow p s (fun c =>
    let fid := nvDw sqe 10 % 256
    if !([1, 6, 7, 8, 0xB].contains fid) then nvAdmin c p sqe 0 0x02
    else let v := nvFeature c p fid; nvAdmin v.2 p sqe v.1 0)

/-- NVME_SET_FEATURES: every feature but the write cache's. -/
def execNvmeSetFeatures (p : Nat) (sqe : Bytes) (s : State) : Host.Outcome State Fault Refusal :=
  nvRow p s (fun c =>
    let fid := nvDw sqe 10 % 256
    if !([1, 7, 8, 0xB].contains fid) then nvAdmin c p sqe 0 0x02
    else
      let t := nvCtl c p
      let c := if fid = 7 then c else setNvCtl c p { t with features := tput t.features fid (nvDw sqe 11) }
      let v := nvFeature c p fid
      nvAdmin v.2 p sqe (if fid = 7 then v.1 else 0) 0)

/-- NVME_ABORT: a command that has not started completes as aborted; of any other, Dword 0 says that it was not. -/
def execNvmeAbort (p : Nat) (sqe : Bytes) (s : State) : Host.Outcome State Fault Refusal :=
  nvRow p s (fun c =>
    let sq := nvDw sqe 10 % 65536
    let n := nvNative c p sq
    let key := sq * 65536 + nvDw sqe 10 / 65536
    let l : List Wb := ((nqOf c n).map (fun q => q.wbs.filter (fun w => w.src == 2 && w.ref == key))).getD []
    if l.isEmpty ∨ l.any (fun w => decide (2 ≤ w.stage)) ∨ (tget? (nvCtl c p).sqs sq).isNone then nvAdmin c p sqe 1 0
    else nvAdmin (wbEndAll c n 8 l) p sqe 0 0)

/-- NVME_ASYNC_EVENT_REQUEST: kept until there is an event to report. -/
def execNvmeAsyncEventRequest (p : Nat) (sqe : Bytes) (s : State) : Host.Outcome State Fault Refusal :=
  nvRow p s (fun c => let t := nvCtl c p; setNvCtl c p { t with asyncs := t.asyncs ++ [nvCid sqe] })

/-! ## I/O commands -/

/-- An I/O command of queue `sq`: fetched, the head moves on; `k` gets the state behind the fetch. -/
def nvIo (p sq : Nat) (s : State) (k : Chip → Nat → Chip) : Host.Outcome State Fault Refusal :=
  nvRow p s (fun c =>
    let t := nvCtl c p
    match tget? t.sqs sq, nqOf c (nvNative c p sq) with
    | some q, some nq =>
      if 256 ≤ nq.wbs.length then c
      else k (setNvCtl c p { t with sqs := tput t.sqs sq { q with head := (q.head + 1) % q.size } }) (nvNative c p sq)
    | _, _ => c)

/-- A waybill for an I/O command (R430): without ORDERED, with NVME_KET. -/
def nvWaybill (s : Chip) (p : Nat) (e : Bytes) (op k lba blocks addr : Nat) (fua : Bool) : Bytes :=
  zeros 2 ++ leBytes 1 op ++ leBytes 1 (2 * b2n fua) ++ leBytes 2 k ++ slice (platStorage s p) 6 2 ++ leBytes 8 (nvCid e)
    ++ leBytes 8 lba ++ leBytes 4 blocks ++ leBytes 2 0xFFFF ++ zeros 2 ++ leBytes 8 addr ++ zeros 24

/-- Start a waybill for a command. -/
def nvPush (s : Chip) (n sq : Nat) (e b : Bytes) (prp : List (Nat × Nat)) : Chip :=
  match nqOf s n with
  | none => s
  | some q => wbJoin s n q b 2 (sq * 65536 + nvCid e) 0 prp

/-- Checks shared by I/O commands: no fused operation, PRPs only, a namespace that is there. -/
def nvChecked (s : Chip) (p sq : Nat) (e : Bytes) (k : Nat → Chip) : Chip :=
  if fld e 1 1 ≠ 0 then nvComplete s p sq (nvCid e) 0 0x02
  else
    match nvSpace s p (nvNsid e) with
    | none => nvComplete s p sq (nvCid e) 0 0x0B
    | some j => k j

/-- Read and Write: CDW10 and CDW11 the LBA, CDW12 the count less 1 and FUA. -/
def nvRw (s : Chip) (p sq n op : Nat) (e : Bytes) : Chip :=
  nvChecked s p sq e (fun j =>
    let blocks := nvDw e 12 % 65536 + 1
    let runs := prpRuns s p e (min (blocks * nsBlock (nsRec s j)) 16777216)
    nvPush runs.2 n sq e (nvWaybill s p e op j (fld e 40 8) blocks (fld e 24 8) (bit (nvDw e 12) 30)) runs.1)

/-- NVME_READ. -/
def execNvmeRead (p sq : Nat) (sqe : Bytes) (s : State) : Host.Outcome State Fault Refusal :=
  nvIo p sq s (fun c n => nvRw c p sq n 1 sqe)

/-- NVME_WRITE. -/
def execNvmeWrite (p sq : Nat) (sqe : Bytes) (s : State) : Host.Outcome State Fault Refusal :=
  nvIo p sq s (fun c n => nvRw c p sq n 2 sqe)

/-- NVME_FLUSH. -/
def execNvmeFlush (p sq : Nat) (sqe : Bytes) (s : State) : Host.Outcome State Fault Refusal :=
  nvIo p sq s (fun c n => nvChecked c p sq sqe (fun j => nvPush c n sq sqe (nvWaybill c p sqe 3 j 0 0 0 false) []))

/-- NVME_WRITE_ZEROES. -/
def execNvmeWriteZeroes (p sq : Nat) (sqe : Bytes) (s : State) : Host.Outcome State Fault Refusal :=
  nvIo p sq s (fun c n => nvChecked c p sq sqe (fun j =>
    nvPush c n sq sqe (nvWaybill c p sqe 5 j (fld sqe 40 8) (nvDw sqe 12 % 65536 + 1) 0 (bit (nvDw sqe 12) 30)) []))

/-- One deallocating waybill per range of Dataset Management. -/
def nvRanges (s : Chip) (p sq n j : Nat) (e : Bytes) : Nat → Bytes → Chip
  | 0, _ => s
  | k + 1, b => nvRanges (nvPush s n sq e (nvWaybill s p e 4 j (fld b 8 8) (fld b 4 4) 0 false) []) p sq n j e k (b.drop 16)

/-- NVME_DATASET_MANAGEMENT: deallocate only; without its bit there is nothing to do. -/
def execNvmeDatasetManagement (p sq : Nat) (sqe : Bytes) (s : State) : Host.Outcome State Fault Refusal :=
  nvIo p sq s (fun c n => nvChecked c p sq sqe (fun j =>
    let nr := nvDw sqe 10 % 256 + 1
    if !bit (nvDw sqe 11) 2 then nvComplete c p sq (nvCid sqe) 0 0
    else
      let runs := prpRuns c p sqe (16 * nr)
      let x := segRead runs.2 (.plat p) 0 runs.1
      if x.st ≠ 0 then nvComplete x.s p sq (nvCid sqe) 0 0x04
      else nvRanges x.s p sq n j sqe nr x.bytes))

/-- Admin opcodes of Table 16-6. -/
def nvAdminOps : List Nat := [0x00, 0x01, 0x02, 0x04, 0x05, 0x06, 0x08, 0x09, 0x0A, 0x0C]

/-- NVME_UNSUPPORTED (R430): queue 0 is the admin queue. An opcode of Table 16-6 comes here for a feature or page it lacks. -/
def execNvmeUnsupported (p sq : Nat) (sqe : Bytes) (s : State) : Host.Outcome State Fault Refusal :=
  if sq = 0 then nvRow p s (fun c => nvAdmin c p sqe 0 (if nvAdminOps.contains (nvOp sqe) then 0x02 else 0x01))
  else nvIo p sq s (fun c _ =>
    nvComplete c p sq (nvCid sqe) 0 (if [0, 1, 2, 8, 9].contains (nvOp sqe) then 0x02 else 0x01))

/-- Every I/O queue of a controller goes, its commands without a completion (R430, step 3 of Table 10-8). -/
def nvClear (s : Chip) (p : Nat) : Chip :=
  let s := (List.range (nvQueues s p)).foldl (fun s y => wbAbortAll s (nvNative s p (y + 1))) s
  { s with storage := { s.storage with ctls := tdel s.storage.ctls p } }

/-- NVME_CC_EN_CLEAR. -/
def execNvmeCcEnClear (p : Nat) (s : State) : Host.Outcome State Fault Refusal := nvRow p s (fun c => nvClear c p)

end Sys2Proof.Machine
end

