-- ==== Sys2Proof/Machine/Rdma.lean ====
section
/-! DEFINITION. Remote memory access (15): queue pairs, regions and rings; the requester, its recovery and its pacing. The
responder is in RdmaRx. BTH, RETH, AETH and opcode numbers are those of the RoCEv2 specification. -/
namespace Sys2Proof.Machine

/-! ## Platform resources (Table 15-1) -/

/-- The record of a platform. -/
def rdmaRec (s : Chip) (p : Nat) : Bytes := odB s (0x24040 + p) 0

/-- A number lies in a range of a base and a count. -/
def inRange (base count n : Nat) : Bool := decide (base ≤ n) && decide (n < base + count)

/-- A queue pair number lies in the range of platform `p`. -/
def qpnOf (s : Chip) (p n : Nat) : Bool := let r := rdmaRec s p; inRange (fld r 0 4) (fld r 4 4) n

/-- A completion queue number does. -/
def cqnOf (s : Chip) (p n : Nat) : Bool := let r := rdmaRec s p; inRange (fld r 8 2) (fld r 10 2) n

/-- A region index does. -/
def mrnOf (s : Chip) (p n : Nat) : Bool := let r := rdmaRec s p; inRange (fld r 12 4) (fld r 16 4) n

/-- A security association does (OD 25.040 + n). -/
def sanOf (s : Chip) (p n : Nat) : Bool := inRange (odN s (0x25040 + p) 1) (odN s (0x25040 + p) 2) n

/-- Who owns a number: the platform whose range holds it, else 0xFD. -/
def ownerIn (s : Chip) (f : Chip → Nat → Nat → Bool) (n : Nat) : Nat :=
  ((List.range 64).find? (fun p => f s p n)).getD 0xFD

/-- The owner's numbers: its range; for the open domain whatever lies outside every range. -/
def ownsNum (s : Chip) (f : Chip → Nat → Nat → Bool) (owner n : Nat) : Bool := ownerIn s f n == owner

/-- TCL_MASK; a queue pair of PF0 has no record and may use every class (log 65). -/
def tclMask (s : Chip) (owner : Nat) : Nat := if owner < 64 then fld (rdmaRec s owner) 22 1 else 0xFF

/-- FLOW_METER -/
def flowMeter (s : Chip) (owner : Nat) : Nat := if owner < 64 then fld (rdmaRec s owner) 24 2 else 0xFFFF

/-- The profile of an owner, if one is named and enabled (Table 15-7). -/
def profileOf (s : Chip) (owner : Nat) : Option Nat :=
  if owner < 64 then
    let k := fld (rdmaRec s owner) 23 1
    if k < 16 ∧ bit (odFld s 0x24020 (k + 1) 34 1) 0 then some k else none
  else none

/-- A field of a profile. -/
def prof (s : Chip) (k off n : Nat) : Nat := odFld s 0x24020 (k + 1) off n

/-- The adaptive shaper of an owner's profile, if it names one. -/
def profShaper (s : Chip) (owner : Nat) : Option Nat :=
  (profileOf s owner).bind (fun k => if prof s k 32 2 = 0xFFFF then none else some (prof s k 32 2))

/-! ## Fields of a queue pair (Table 15-3) -/

/-- TYPE: 1 RAW -/
def qRaw (q : Qp) : Bool := fld q.cfg 5 1 == 1
/-- ESP required -/
def qEsp (q : Qp) : Bool := bit (fld q.cfg 6 1) 2
/-- TCL -/
def qTcl (q : Qp) : Nat := fld q.cfg 7 1
/-- REMOTE_QPN -/
def qRemote (q : Qp) : Nat := fld q.cfg 32 4
/-- MTU in bytes -/
def qMtu (q : Qp) : Nat := 128 * 2 ^ fld q.cfg 44 1
/-- The timeout in ns -/
def qTimeout (q : Qp) : Nat := 4096 * 2 ^ fld q.cfg 45 1
/-- SUBPORT, for RAW the sub-port of TCL -/
def qSub (q : Qp) : Nat := if qRaw q then qTcl q else fld q.cfg 64 1
/-- FINAL_SIGNAL -/
def qFinal (q : Qp) : Nat := fld q.cfg 72 2
/-- OUT_SA -/
def qOutSa (q : Qp) : Option Nat := if fld q.cfg 76 4 = 0xFFFFFFFF then none else some (fld q.cfg 76 4)
/-- IN_SA -/
def qInSa (q : Qp) : Option Nat := if fld q.cfg 80 4 = 0xFFFFFFFF then none else some (fld q.cfg 80 4)

/-- The egress queue of a queue pair (R388). -/
def qEgress (s : Chip) (q : Qp) : Nat :=
  let t := if qRaw q then ((List.range 8).find? (bit (tclMask s q.plat))).getD 0 else qTcl q
  (if q.plat < 64 then fld (rdmaRec s q.plat) 20 2 else 8 * qSub q) + t

/-- Bytes on the wire of a packet: `n` bytes from its BTH on, ICRC, UDP, IP, Ethernet, FCS, and ESP where it is used. -/
def wireLen (s : Chip) (sub : Nat) (v4 esp : Bool) (n : Nat) : Nat :=
  14 + (if odN s 0x20016 (sub + 1) = 0 then 0 else 4) + (if v4 then 20 else 40)
    + (if esp then 16 + ((8 + n + 4 + 2 + 3) / 4 * 4) + 16 else 8 + n + 4) + 4

/-! ## QP_MODIFY (R386 to R388) -/

/-- `c` with the fields of the argument at the given places. -/
def copyFields (c a : Bytes) (l : List (Nat × Nat)) : Bytes := l.foldl (fun c x => splice c x.1 (slice a x.1 x.2)) c

/-- The fields read for INIT are in range (R387). -/
def initOk (s : Chip) (owner : Nat) (a : Bytes) : Bool :=
  let raw := fld a 5 1 == 1
  let logOk := fun n => decide (6 ≤ n) && decide (n ≤ 15)
  let cqOk := fun n => ownsNum s cqnOf owner n && (nqFeeders s n).isEmpty
  decide (fld a 5 1 ≤ 1) && (!raw || owner == 0xFD) && decide (fld a 6 1 < 8)
  && (if raw then decide (fld a 7 1 < 16) else decide (fld a 7 1 < 8) && bit (tclMask s owner) (fld a 7 1))
  && fld a 8 8 % 4096 == 0 && fld a 16 8 % 4096 == 0 && logOk (fld a 24 1) && logOk (fld a 25 1)
  && cqOk (fld a 28 2) && cqOk (fld a 30 2)

/-- A security association field: none, or one of the owner's. -/
def saOk (s : Chip) (owner n : Nat) : Bool := n == 0xFFFFFFFF || (decide (n < 65536) && ownsNum s sanOf owner n)

/-- Both halves of DEPTH are 1 to 15. -/
def depthOk (n : Nat) : Bool := n % 16 != 0 && n / 16 != 0

/-- The fields read for RTR are in range; the frame of an MTU-sized packet fits the sub-port. -/
def rtrOk (s : Chip) (owner : Nat) (q : Qp) (a : Bytes) : Bool :=
  let sub := fld a 64 1
  let mtu := fld a 44 1
  decide (fld a 32 4 < 2 ^ 24) && decide (fld a 40 4 < 2 ^ 24) && decide (3 ≤ mtu) && decide (mtu ≤ 5)
  && decide (fld a 47 1 < 32) && decide (sub < 16) && decide (fld a 65 1 < 64) && fld a 66 1 != 0 && depthOk (fld a 67 1)
  && (fld a 72 2 == 0xFFFF || (decide (fld a 72 2 < 4096) && sigOwner s (fld a 72 2) == owner))
  && saOk s owner (fld a 80 4)
  && decide (wireLen s sub (isV4 (slice a 48 16)) (qEsp q || fld a 80 4 != 0xFFFFFFFF) (12 + 16 + 128 * 2 ^ mtu)
      ≤ odN s 0x20010 (sub + 1))

/-- The fields read for RTS are in range. -/
def rtsOk (s : Chip) (owner : Nat) (a : Bytes) : Bool :=
  decide (fld a 36 4 < 2 ^ 24) && decide (1 ≤ fld a 45 1) && decide (fld a 45 1 ≤ 31) && !bit (fld a 46 1) 3 && !bit (fld a 46 1) 7
  && depthOk (fld a 67 1) && saOk s owner (fld a 76 4)

/-- The queue pair uses relaxed mode (R395). -/
def relaxedOn (s : Chip) (owner : Nat) (a : Bytes) (flags : Nat) : Bool :=
  let caps := fld a 68 4
  bit flags 0 && (decide (64 ≤ owner) || bit (fld (rdmaRec s owner) 26 1) 0) && caps % 4 == 3 && bits caps 7 4 != 0

/-- The lowest pacing entry that is free for a queue pair. -/
def freePaceEntry (s : Chip) : Option Nat :=
  let used := (s.rdma.qps.filterMap (fun q => q.2.pace))
  ((List.range (used.length + 1)).map (16384 + ·)).find? (fun e => decide (e < 262144) && !used.contains e)

/-- Enter RTS: the first PSN, the retry counts, and a pacing entry where the profile paces per queue pair. -/
def enterRts (s : Chip) (qpn : Nat) (q : Qp) : ActRes :=
  let q := { q with state := 3, nextPsn := fld q.cfg 36 4, una := fld q.cfg 36 4, retries := fld q.cfg 46 1 % 8,
                    rnrLeft := bits (fld q.cfg 46 1) 6 4, progress := nowNs s }
  match profileOf s q.plat with
  | none => acted (countQps (setQp s qpn q))
  | some k =>
    let q := { q with rate := prof s k 0 4, nextInterval := nowNs s + us (prof s k 18 2) }
    if (profShaper s q.plat).isSome then acted (countQps (setQp s qpn q))
    else
      match freePaceEntry s with
      | none => refuse s eBusy
      | some e =>
        let s := { s with net := { s.net with paces := tput s.net.paces e ⟨nowNs s * 65536, none, q.rate⟩ } }
        acted (countQps (setQp s qpn { q with pace := some e }))

/-- Frames of a queue pair leave the egress queues. -/
def dropPackets (s : Chip) (p : Nat → Bool) : Chip :=
  { s with net := { s.net with queues := (s.net.queues.map (fun q =>
      (q.1, q.2.filter (fun f => !(f.pkt.any (fun k => p k.1)))))).filter (fun q => !q.2.isEmpty) } }

/-- RESET discards the context without completions. -/
def qpReset (s : Chip) (qpn : Nat) : Chip :=
  countQps (freePace (dropPackets (setQp s qpn Qp.off) (· == qpn)) (qpOf s qpn).pace)

/-- OD 24.010, QP_MODIFY. -/
def actQpModify : Act := fun s rq arg =>
  let d := domainOf s rq
  let w := fld arg 0 4
  let q := qpOf s w
  let owner := ownerIn s qpnOf w
  let dest := fld arg 4 1
  if 2 ^ 18 ≤ w ∨ arg.length ≠ 96 ∨ (reqOwner d < 64 ∧ owner ≠ reqOwner d) then refuse s eRange
  else if dest = 0 then acted (qpReset s w)
  else if dest = 4 then
    if q.state = 4 then acted s
    else acted (qpError (if q.state = 0 then setQp s w { q with state := 1, plat := owner } else s) w 8)
  else if dest = 1 ∧ q.state = 0 then
    if !initOk s owner arg then refuse s eRange
    else
      let f := fld arg 6 1
      acted (countQps (setQp s w { Qp.off with
        state := 1, plat := owner
        cfg := copyFields (zeros 96) arg [(0, 4), (5, 3), (8, 18), (28, 4)]
        ecn := bit f 1 && (decide (64 ≤ owner) || bit (fld (rdmaRec s owner) 26 1) 1) }))
  else if dest = 2 ∧ q.state = 1 then
    if !rtrOk s owner q arg then refuse s eRange
    else acted (setQp s w { q with
      state := 2, expPsn := fld arg 40 4, ackAt := nowNs s
      relaxed := relaxedOn s owner arg (fld q.cfg 6 1)
      cfg := copyFields q.cfg arg [(32, 4), (40, 5), (47, 27), (80, 4)] })
  else if dest = 3 ∧ q.state = 2 then
    if !rtsOk s owner arg then refuse s eRange
    else enterRts s w { q with cfg := copyFields q.cfg arg [(36, 4), (45, 2), (67, 1), (76, 4)] }
  else refuse s eRange

/-- QP_MODIFY. -/
def execQpModify (rq : Rq) (arg : Bytes) (s : State) : Host.Outcome State Fault Refusal :=
  run s (actionRow actQpModify 0x24010 rq arg)

/-- OD 24.011, QP_QUERY: the context of a platform's queue pair, into the platform's query result. -/
def actQpQuery : Act := fun s rq arg =>
  let w := leNat arg
  let q := qpOf s w
  let owner := ownerIn s qpnOf w
  if 2 ^ 18 ≤ w ∨ 64 ≤ owner ∨ (reqOwner (domainOf s rq) < 64 ∧ owner ≠ reqOwner (domainOf s rq)) then refuse s eRange
  else acted (odSetB s (0x240C0 + owner) 0
    (leBytes 4 w ++ leBytes 1 q.state ++ leBytes 1 (b2n q.relaxed) ++ zeros 2 ++ leBytes 4 q.nextPsn ++ leBytes 4 q.expPsn
      ++ leBytes 4 q.rate ++ leBytes 4 q.srtt ++ leBytes 1 q.lastErr ++ zeros 39))

/-- QP_QUERY. -/
def execQpQuery (rq : Rq) (arg : Bytes) (s : State) : Host.Outcome State Fault Refusal :=
  run s (actionRow actQpQuery 0x24011 rq arg)

/-! ## Completion queues and regions -/

/-- OD 24.012, CQ_CREATE. -/
def actCqCreate : Act := fun s rq arg =>
  let owner := reqOwner (domainOf s rq)
  let n := fld arg 0 2
  let log := fld arg 2 1
  let vec := fld arg 4 2
  if !ownsNum s cqnOf owner n ∨ log < 6 ∨ 15 < log ∨ fld arg 3 1 ≠ 0 ∨ fld arg 6 2 ≠ 0
      ∨ (if owner < 64 then 128 else 1024) ≤ vec then refuse s eRange
  else if (cqOf s n).isSome then refuse s eBusy
  else acted (setCq s n ⟨owner, log, vec, fld arg 8 8, 0, 0, false⟩)

/-- CQ_CREATE. -/
def execCqCreate (rq : Rq) (arg : Bytes) (s : State) : Host.Outcome State Fault Refusal :=
  run s (actionRow actCqCreate 0x24012 rq arg)

/-- OD 24.013, CQ_DESTROY: busy while a queue pair, a native queue or a dispatch queue names it. -/
def actCqDestroy : Act := fun s rq arg =>
  let n := leNat arg
  if !ownsNum s cqnOf (reqOwner (domainOf s rq)) n ∨ (cqOf s n).isNone then refuse s eRange
  else if !(feeders s n).isEmpty ∨ !(nqFeeders s n).isEmpty ∨ cqOfDispatch s n then refuse s eBusy
  else acted { s with rdma := { s.rdma with cqs := tdel s.rdma.cqs n } }

/-- CQ_DESTROY. -/
def execCqDestroy (rq : Rq) (arg : Bytes) (s : State) : Host.Outcome State Fault Refusal :=
  run s (actionRow actCqDestroy 0x24013 rq arg)

/-- OD 24.014, MR_REGISTER (R389). -/
def actMrRegister : Act := fun s rq arg =>
  let owner := reqOwner (domainOf s rq)
  let k := fld arg 0 4
  let i := k / 256
  let pages := fld arg 16 4
  if 2 ^ 20 ≤ i ∨ !ownsNum s mrnOf owner i ∨ fld arg 4 4 ≠ 0 ∨ pages = 0 ∨ 268435456 < pages ∨ 7 < fld arg 20 1
      ∨ 3 < fld arg 21 1 ∨ fld arg 22 2 ≠ 0 then refuse s eRange
  else if (tget? s.rdma.mrs i).isSome then refuse s eBusy
  else acted { s with rdma := { s.rdma with
    mrs := tput s.rdma.mrs i ⟨owner, k, fld arg 8 8, pages, fld arg 20 1, fld arg 21 1⟩ } }

/-- MR_REGISTER. -/
def execMrRegister (rq : Rq) (arg : Bytes) (s : State) : Host.Outcome State Fault Refusal :=
  run s (actionRow actMrRegister 0x24014 rq arg)

/-- OD 24.015, MR_DEREGISTER (R390). -/
def actMrDeregister : Act := fun s rq arg =>
  let k := leNat arg
  match tget? s.rdma.mrs (k / 256) with
  | some m =>
    if m.plat ≠ reqOwner (domainOf s rq) ∨ m.rkey ≠ k then refuse s eRange
    else acted { s with rdma := { s.rdma with mrs := tdel s.rdma.mrs (k / 256) } }
  | none => refuse s eRange

/-- MR_DEREGISTER. -/
def execMrDeregister (rq : Rq) (arg : Bytes) (s : State) : Host.Outcome State Fault Refusal :=
  run s (actionRow actMrDeregister 0x24015 rq arg)

/-! ## Doorbells (R391, R393, Table 11-4) -/

/-- A queue pair's doorbell from the function of its owner. -/
def rdmaDoorbell (s : Chip) (fn size val : Nat) (k : Chip → Nat → Qp → Nat → Chip) : Chip :=
  engineDoorbell s fn size val (0x3FFFF * 2 ^ 32 + 0xFFFF) (fun s owner =>
    let w := bits val 49 32
    let q := qpOf s w
    if q.state ≠ 0 ∧ q.plat = owner then k s w q (val % 65536) else dbDiscard s fn)

/-- DB_RSQ: [49:32] queue pair, [15:0] send producer index; in ERROR the requests it covers are flushed. While a weight load
holds the queue pair it is discarded (22 R541). -/
def execDbRsq (fn size val : Nat) (s : State) : Host.Outcome State Fault Refusal :=
  run s (fun c => rdmaDoorbell c fn size val (fun s w q i =>
    let n := idxSub i q.sqCons
    if loadHolds s w then dbDiscard s fn
    else if 2 ^ qSqLog q < n then qpError s w 8
    else if q.state = 4 then flushSends (setQp s w { q with sqProd := i, sqCons := i }) w q.sqCons n
    else setQp s w { q with sqProd := i }))

/-- DB_RRQ: [49:32] queue pair, [15:0] receive producer index. -/
def execDbRrq (fn size val : Nat) (s : State) : Host.Outcome State Fault Refusal :=
  run s (fun c => rdmaDoorbell c fn size val (fun s w q i =>
    let n := idxSub i q.rqCons
    if 2 ^ qRqLog q < n then qpError s w 8
    else if q.state = 4 then flushRecvs (setQp s w { q with rqProd := i, rqCons := i }) w q.rqCons n
    else setQp s w { q with rqProd := i }))

/-- DB_CQ: [47:32] completion queue, [31] arm, [15:0] consumer index. -/
def execDbCq (fn size val : Nat) (s : State) : Host.Outcome State Fault Refusal :=
  run s (fun c => engineDoorbell c fn size val (0xFFFF * 2 ^ 32 + 0x8000FFFF) (fun s owner =>
    match cqOf s (bits val 47 32) with
    | some q => if q.owner = owner then dbCq s (bits val 47 32) (val % 65536) (bit val 31) else dbDiscard s fn
    | none => dbDiscard s fn))

/-! ## Packets -/

/-- `n` bytes of a number, most significant first. -/
def beN (n v : Nat) : Bytes := (leBytes n v).reverse

/-- A base transport header. -/
def bth (op dest psn : Nat) (ackReq : Bool) (pad : Nat) : Bytes :=
  beN 1 op ++ beN 1 (pad * 16) ++ beN 2 0xFFFF ++ zeros 1 ++ beN 3 dest ++ beN 1 (128 * b2n ackReq) ++ beN 3 psn

/-- An RDMA extended transport header: address, key, length. -/
def reth (addr key len : Nat) : Bytes := beN 8 addr ++ beN 4 key ++ beN 4 len

/-- The next PSN; PSNs are 24 bits. -/
def psnAdd (a n : Nat) : Nat := (a + n) % 2 ^ 24

/-- PSN `a` minus PSN `b`. -/
def psnSub (a b : Nat) : Nat := (a + 2 ^ 24 - b % 2 ^ 24) % 2 ^ 24

/-- PSN `a` lies at or before PSN `b`. -/
def psnLe (a b : Nat) : Bool := decide (psnSub b a < 2 ^ 23)

/-- Hand a packet of a queue pair to its egress queue. -/
def putPacket (s : Chip) (qpn op psn : Nat) (p : Bytes) : Chip :=
  let q := qpOf s qpn
  let n := wireLen s (qSub q) (isV4 (slice q.cfg 48 16)) (qOutSa q).isSome p.length
  enqueueFrame s (qEgress s q) ⟨n, nowNs s, some (qpn, op, psn), p, qOutSa q⟩

/-- A packet of this many bytes would fit. -/
def packetRoom (s : Chip) (q : Qp) (n : Nat) : Bool :=
  let w := wireLen s (qSub q) (isV4 (slice q.cfg 48 16)) (qOutSa q).isSome n
  qRoom s (qEgress s q) w || decide (qLimit s (qEgress s q) < w)

/-! ## The requester -/

/-- OPCODE of a send request. -/
def wOp (b : Bytes) : Nat := fld b 2 1
/-- LENGTH -/
def wLen (b : Bytes) : Nat := fld b 4 4

/-- A request names a read or an atomic. -/
def isReadAtomic (op : Nat) : Bool := op == 3 || op == 4 || op == 5

/-- PSNs that a request takes: its packets, or for a read those of its response. -/
def psnCount (q : Qp) (b : Bytes) : Nat :=
  if wOp b = 4 ∨ wOp b = 5 then 1 else max 1 (cdiv (wLen b) (qMtu q))

/-- Packets that the requester sends for it. -/
def sendCount (q : Qp) (b : Bytes) : Nat := if isReadAtomic (wOp b) then 1 else psnCount q b

/-- The entry breaks Table 15-4, or its INDEX is not its slot's (R391). -/
def wrBad (s : Chip) (q : Qp) (i : Nat) (b : Bytes) : Bool :=
  let op := wOp b
  fld b 0 2 != i || decide (16 ≤ fld b 3 1) || !isZero (slice b 56 8)
  || (if qRaw q then op != 0x10 else !([0, 1, 2, 3, 4, 5, 8, 9].contains op))
  || (if op = 4 ∨ op = 5 then wLen b != 8 || fld b 24 8 % 8 != 0
      else if op = 0x10 then decide (wLen b < 60) || decide (odN s 0x20010 (qSub q + 1) < wLen b + 4)
      else decide (2 ^ 31 < wLen b))

/-- The packet `k` of a request under way: opcode and header after the BTH, and the range of local bytes it carries. -/
def packetShape (q : Qp) (x : Sent) (k : Nat) : Nat × Bytes × Nat × Nat :=
  let mtu := qMtu q
  let len := wLen x.b
  let off := k * mtu
  let n := min mtu (len - off)
  let last := k + 1 == sendCount q x.b
  let addr := fld x.b 24 8
  let key := fld x.b 32 4
  let op := wOp x.b
  let relaxed := q.relaxed && (op == 8 || op == 9)
  if relaxed then
    let final := op == 9 && last
    (if final then 0xC1 else 0xC0,
     reth (addr + off) key n ++ leBytes 3 x.group ++ leBytes 1 (b2n final) ++ leBytes 3 x.gfirst ++ zeros 1, off, n)
  else if op = 3 then (0x0C, reth addr key len, 0, 0)
  else if op = 4 then (0x14, beN 8 addr ++ beN 4 key ++ beN 8 (fld x.b 40 8) ++ zeros 8, 0, 0)
  else if op = 5 then (0x13, beN 8 addr ++ beN 4 key ++ beN 8 (fld x.b 48 8) ++ beN 8 (fld x.b 40 8), 0, 0)
  else
    let imm := op == 2
    let base := if op = 0 then 0 else 6
    let pos := if k = 0 then (if last then (if op = 0 then 4 else if imm then 5 else 4) else 0)
      else if last then (if imm then 3 else 2) else 1
    (base + pos,
     (if op ≠ 0 ∧ k = 0 then reth addr key len else []) ++ (if imm ∧ last then slice x.b 36 4 else []), off, n)

/-- Request `x` of a queue pair ends with a status once its turn comes. -/
def failSent (q : Qp) (x : Sent) (st : Nat) : Qp :=
  { q with sent := q.sent.map (fun y => if y.first = x.first ∧ y.idx = x.idx then { y with done := some st } else y) }

/-- Send the packets that are due and fit their egress queue (R370), in PSN order. Local data that cannot be read ends its
request. -/
def pump (s : Chip) (qpn : Nat) : Nat → Chip
  | 0 => s
  | fuel + 1 =>
    let q := qpOf s qpn
    if q.state ≠ 3 ∨ q.rnrUntil.isSome then s
    else
      match q.sent.find? (fun x => x.done.isNone && decide (x.next < sendCount q x.b)) with
      | none => s
      | some x =>
        if q.sent.any (fun y => y.done.any (· != 0)) then s
        else
          let p := packetShape q x x.next
          if !packetRoom s q (12 + p.2.1.length + p.2.2.2 + 3) then s
          else
            let r := if p.2.2.2 = 0 then (⟨0, [], 0, s⟩ : Xfer)
              else xferRead s (agentOf q.plat) (fld x.b 16 8 + p.2.2.1) p.2.2.2 (bits (fld x.b 3 1) 3 2) 0 uRdma
                ⟨0, fld x.b 16 8 + wLen x.b, .any⟩
            if r.st ≠ 0 then setQp r.s qpn (failSent q x (if r.st = 1 then 2 else 9))
            else
              let psn := psnAdd x.first x.next
              let pad := (4 - r.bytes.length % 4) % 4
              let last := x.next + 1 == sendCount q x.b
              let pk := bth p.1 (qRemote q) psn (last || psn % 8 == 7) pad ++ p.2.1 ++ r.bytes ++ zeros pad
              let s := setQp r.s qpn { q with
                sent := q.sent.map (fun y => if y.first = x.first ∧ y.idx = x.idx then { y with next := y.next + 1 } else y)
                progress := if q.sent.all (fun y => y.next == 0) then nowNs s else q.progress }
              pump (putPacket s qpn p.1 psn pk) qpn fuel

/-- Completions due in ring order (R392): a request that has ended with an error takes the queue pair to ERROR. -/
def settle (s : Chip) (qpn : Nat) : Nat → Chip
  | 0 => s
  | fuel + 1 =>
    let q := qpOf s qpn
    match q.sent with
    | [] => s
    | x :: r =>
      match x.done with
      | none => s
      | some 0 =>
        let s := setQp s qpn { q with sent := r }
        let s := if bit (fld x.b 3 1) 0 then qpComplete s qpn false 0 (wOp x.b) (fld x.b 8 8) x.moved 0 x.orig else s
        settle s qpn fuel
      | some st => qpError s qpn st

/-- Work that follows every change of a queue pair: completions, then packets. -/
def advance (s : Chip) (qpn : Nat) : Chip :=
  let n := (qpOf s qpn).sent.length
  let s := pump (settle s qpn (n + 1)) qpn 65536
  settle s qpn (n + 1)

/-- A request may not start yet: FENCE, or the depth of reads and atomics. -/
def mustWait (q : Qp) (b : Bytes) : Bool :=
  let open_ := (q.sent.filter (fun x => isReadAtomic (wOp x.b) && x.done.isNone)).length
  (bit (fld b 3 1) 1 && decide (0 < open_))
  || (isReadAtomic (wOp b) && decide (fld q.cfg 67 1 / 16 ≤ open_))

/-- Start the request taken from the ring: its PSNs, and its group in relaxed mode (R396). -/
def startWr (s : Chip) (qpn : Nat) (q : Qp) (b : Bytes) : Chip :=
  let op := wOp b
  let gf := q.gfirst.getD q.nextPsn
  let x : Sent := ⟨q.sqCons, b, q.nextPsn, psnCount q b, 0, none, 0, 0, q.group, gf⟩
  let q := { q with sent := q.sent ++ [x], nextPsn := psnAdd q.nextPsn (psnCount q b), sqCons := idxNext q.sqCons }
  let q := if op = 8 then { q with gfirst := some gf }
    else if op = 9 then { q with gfirst := none, group := (q.group + 1) % 2 ^ 24 } else q
  advance (setQp s qpn q) qpn

/-- The next send request of a queue pair, if it has this opcode; a bad entry completes BAD_DESCRIPTOR and takes the queue
pair to ERROR (R391). -/
def sendWr (s : Chip) (qpn op : Nat) (k : Chip → Qp → Bytes → Chip) : Chip :=
  let q := qpOf s qpn
  if q.state ≠ 3 ∨ q.sqCons = q.sqProd ∨ q.rnrUntil.isSome then s
  else
    let x := qpFetch s q (qSqBase q) (qSqLog q) q.sqCons
    let q := qpOf x.s qpn
    if x.st ≠ 0 ∨ wrBad x.s q q.sqCons x.bytes then
      let z : Sent := ⟨q.sqCons, slice x.bytes 0 64, q.nextPsn, 0, 0, some 10, 0, 0, 0, 0⟩
      advance (setQp x.s qpn { q with sent := q.sent ++ [z], sqCons := idxNext q.sqCons }) qpn
    else if wOp x.bytes ≠ op then s
    else if mustWait q x.bytes then s
    else k x.s q x.bytes

/-- SEND. -/
def execSend (qpn : Nat) (s : State) : Host.Outcome State Fault Refusal :=
  run s (fun c => sendWr c qpn 0x00 (fun s q b => startWr s qpn q b))

/-- WR_WRITE. -/
def execWrWrite (qpn : Nat) (s : State) : Host.Outcome State Fault Refusal :=
  run s (fun c => sendWr c qpn 0x01 (fun s q b => startWr s qpn q b))

/-- WRITE_IMM. -/
def execWriteImm (qpn : Nat) (s : State) : Host.Outcome State Fault Refusal :=
  run s (fun c => sendWr c qpn 0x02 (fun s q b => startWr s qpn q b))

/-- WR_READ. -/
def execWrRead (qpn : Nat) (s : State) : Host.Outcome State Fault Refusal :=
  run s (fun c => sendWr c qpn 0x03 (fun s q b => startWr s qpn q b))

/-- FETCH_ADD. -/
def execFetchAdd (qpn : Nat) (s : State) : Host.Outcome State Fault Refusal :=
  run s (fun c => sendWr c qpn 0x04 (fun s q b => startWr s qpn q b))

/-- CMP_SWAP. -/
def execCmpSwap (qpn : Nat) (s : State) : Host.Outcome State Fault Refusal :=
  run s (fun c => sendWr c qpn 0x05 (fun s q b => startWr s qpn q b))

/-- RELAXED_WRITE. -/
def execRelaxedWrite (qpn : Nat) (s : State) : Host.Outcome State Fault Refusal :=
  run s (fun c => sendWr c qpn 0x08 (fun s q b => startWr s qpn q b))

/-- RELAXED_FINAL. -/
def execRelaxedFinal (qpn : Nat) (s : State) : Host.Outcome State Fault Refusal :=
  run s (fun c => sendWr c qpn 0x09 (fun s q b => startWr s qpn q b))

/-- RAW_SEND (R388): a whole frame, without FCS, into the egress queue; it is complete once queued. -/
def rawSend (s : Chip) (qpn : Nat) (q : Qp) (b : Bytes) : Chip :=
  let e := qEgress s q
  if !qRoom s e (wLen b + 4) ∧ wLen b + 4 ≤ qLimit s e then s
  else
    let r := xferRead s (agentOf q.plat) (fld b 16 8) (wLen b) (bits (fld b 3 1) 3 2) 0 uRdma ⟨0, fld b 16 8 + wLen b, .any⟩
    let st := if r.st = 0 then 0 else if r.st = 1 then 2 else 9
    let x : Sent := ⟨q.sqCons, b, q.nextPsn, 0, 0, some st, 0, if st = 0 then wLen b else 0, 0, 0⟩
    let s := setQp r.s qpn { q with sent := q.sent ++ [x], sqCons := idxNext q.sqCons }
    let s := if st = 0 then enqueueFrame s e ⟨max 64 (wLen b + 4), nowNs s, none, r.bytes, none⟩ else s
    settle s qpn (q.sent.length + 2)

/-- RAW_SEND. -/
def execRawSend (qpn : Nat) (s : State) : Host.Outcome State Fault Refusal :=
  run s (fun c => sendWr c qpn 0x10 (fun s q b => rawSend s qpn q b))

/-! ## Recovery (R398, R404, R405) -/

/-- Everything from a PSN on is sent again; packets still queued are not sent twice. Retransmitted packets are counted. -/
def resend (s : Chip) (qpn psn : Nat) : Chip :=
  let s := dropPackets s (· == qpn)
  let q := qpOf s qpn
  let back := fun (x : Sent) =>
    if x.done.isSome then x
    else
      let k := if psnLe psn x.first then 0 else psnSub psn x.first
      { x with next := min x.next (if isReadAtomic (wOp x.b) then 0 else k) }
  let n := (q.sent.map (fun x => x.next - (back x).next)).sum
  let s := odAdd64 s 0x24030 3 n
  let s := if q.plat < 64 then odAdd64 s (0x24080 + q.plat) 3 n else s
  let q := qpOf s qpn
  advance (setQp s qpn { q with sent := q.sent.map back, progress := nowNs s }) qpn

/-- One retry is consumed, then everything from `psn` on is sent again; with none left the oldest request fails. -/
def retryFrom (s : Chip) (qpn psn : Nat) : Chip :=
  let q := qpOf s qpn
  if q.retries = 0 then qpError s qpn 6 else resend (setQp s qpn { q with retries := q.retries - 1 }) qpn psn

/-- Unacknowledged packets have been sent. -/
def inFlight (q : Qp) : Bool := q.sent.any (fun x => x.done.isNone && decide (0 < x.next))

/-- RATE_MIN of the profile of a queue pair. -/
def rateMin (s : Chip) (q : Qp) : Nat := match profileOf s q.plat with | some k => prof s k 4 4 | none => 0

/-- Write the rate of a queue pair: its context and its pacing entry (under NEXT, R377). -/
def setRate (s : Chip) (qpn r : Nat) : Chip :=
  let q := qpOf s qpn
  let s := setQp s qpn { q with rate := r }
  match q.pace with
  | some e =>
    { s with net := { s.net with paces := tput s.net.paces e { tget ⟨0, none, 0⟩ s.net.paces e with rate := r } } }
  | none => s

/-- RETRANSMIT_TIMEOUT (R405, R400). -/
def retransmitTimeout (s : Chip) (qpn : Nat) : Chip :=
  let q := qpOf s qpn
  if q.state ≠ 3 ∨ !inFlight q ∨ q.rnrUntil.isSome ∨ nowNs s < q.progress + qTimeout q then s
  else
    let s := if (profileOf s q.plat).isSome then setRate s qpn (max (q.rate / 2) (rateMin s q)) else s
    retryFrom s qpn q.una

/-- RETRANSMIT_TIMEOUT. -/
def execRetransmitTimeout (qpn : Nat) (s : State) : Host.Outcome State Fault Refusal :=
  run s (fun c => retransmitTimeout c qpn)

/-- RNR_TIMER: the wait is over and the request is sent again. -/
def rnrTimer (s : Chip) (qpn : Nat) : Chip :=
  let q := qpOf s qpn
  match q.rnrUntil with
  | some t => if q.state = 3 ∧ t ≤ nowNs s then resend (setQp s qpn { q with rnrUntil := none }) qpn q.una else s
  | none => s

/-- RNR_TIMER. -/
def execRnrTimer (qpn : Nat) (s : State) : Host.Outcome State Fault Refusal := run s (fun c => rnrTimer c qpn)

/-! ## Transit pacing (R399 to R403) -/

/-- The rate of R400 from the smallest sample of an interval, within bounds. -/
def newRate (s : Chip) (k rate r lo hi : Nat) (yielded : Bool) : Nat :=
  let high := prof s k 24 4
  let new := if r ≤ prof s k 20 4 then rate + prof s k 12 4
    else if r ≤ high then rate
    else rate - rate * prof s k 16 2 * (r - high) / (256 * r)
  min (max new (if yielded then 1000 else lo)) hi

/-- The congestion ceiling (R401): yielded, intervals over, whether the floor is restored now. -/
def ceiling (s : Chip) (k r above : Nat) (yielded : Bool) : Bool × Nat × Bool :=
  let c := prof s k 28 4
  if c < r then (if 3 ≤ above + 1 then (true, above + 1, false) else (yielded, above + 1, false))
  else if r = c then (yielded, 0, false)
  else (false, 0, yielded)

/-- The smallest of a list of samples. -/
def smallest : List Nat → Option Nat
  | [] => none
  | x :: r => some (r.foldl min x)

/-- PACING_INTERVAL of a queue pair. -/
def pacingQp (s : Chip) (qpn : Nat) : Chip :=
  let q := qpOf s qpn
  match profileOf s q.plat with
  | none => s
  | some k =>
    if q.state ≠ 3 ∨ nowNs s < q.nextInterval ∨ q.pace.isNone then s
    else
      let lo := prof s k 4 4
      let hi := prof s k 8 4
      let q' := { q with samples := [], cnpInInterval := false, nextInterval := q.nextInterval + us (max 1 (prof s k 18 2)) }
      match smallest q.samples with
      | none => setRate (setQp s qpn q') qpn (min (max q.rate (if q.yielded then 1000 else lo)) hi)
      | some r =>
        let c := ceiling s k r q.above q.yielded
        let n := if r = prof s k 28 4 then q.rate else newRate s k q.rate r lo hi c.1
        let tell := decide (n < lo) && !q.told
        let s := setRate (setQp s qpn { q' with yielded := c.1, above := c.2.1, told := (q.told || tell) && c.1 }) qpn n
        let s := if tell then raise s evFloorYielded qpn else s
        if c.2.2 then raise s evFloorRestored qpn else s

/-- The queue pairs of the profiles that name a shaper. -/
def loopQps (s : Chip) (k : Nat) : List Nat :=
  (s.rdma.qps.filter (fun q => q.2.state == 3 && profShaper s q.2.plat == some k)).map (·.1)

/-- PACING_INTERVAL of an adaptive shaper (R402): the largest interval sample of its queue pairs; a software write coincident
with the update wins (R374). -/
def pacingShaper (s : Chip) (k : Nat) (coincident : Bool) : Chip :=
  match (List.range 16).find? (fun p => bit (prof s p 34 1) 0 && prof s p 32 2 == k) with
  | none => s
  | some p =>
    let l := tget ⟨0, false, false, 0⟩ s.rdma.loops k
    let rec_ := shaperRec s k
    if 32768 ≤ k ∨ !bit (fld rec_ 0 1) 2 ∨ nowNs s < l.nextInterval then s
    else
      let qs := loopQps s k
      let rs := qs.filterMap (fun n => smallest (qpOf s n).samples)
      let s := qs.foldl (fun s n => setQp s n { qpOf s n with samples := [], cnpInInterval := false }) s
      let next := nowNs s + us (max 1 (prof s p 18 2))
      let put := fun (s : Chip) (x : Loop) => { s with rdma := { s.rdma with loops := tput s.rdma.loops k x } }
      let rate := fld rec_ 4 4
      let lo := fld rec_ 12 4
      let hi := fld rec_ 16 4
      match rs with
      | [] => put s { l with nextInterval := next }
      | x :: xs =>
        let r := xs.foldl max x
        let c := ceiling s p r l.above l.yielded
        let n := if r = prof s p 28 4 then rate else newRate s p rate r lo hi c.1
        if coincident then put (raise s evShaperRateCollision (k + n * 65536)) ⟨next, false, false, 0⟩
        else
          let tell := decide (n < lo) && !l.told
          let s := put (loopRate s k n) ⟨next, c.1, (l.told || tell) && c.1, c.2.1⟩
          let s := if tell then raise s evFloorYielded (k + 2 ^ 63) else s
          if c.2.2 then raise s evFloorRestored (k + 2 ^ 63) else s

/-- PACING_INTERVAL of a queue pair, or with `shaper` of an adaptive shaper. -/
def execPacingInterval (shaper : Bool) (n : Nat) (coincident : Bool) (s : State) : Host.Outcome State Fault Refusal :=
  run s (fun c => if shaper then pacingShaper c n coincident else pacingQp c n)

/-! ## Writes to groups 24 and 25 -/

/-- Two ranges share a number. -/
def rangesMeet (b1 n1 b2 n2 : Nat) : Bool := decide (0 < n1) && decide (0 < n2) && decide (b1 < b2 + n2) && decide (b2 < b1 + n1)

/-- A platform record (R385). -/
def platRdmaBad (s : Chip) (p : Nat) (v : Bytes) : Bool :=
  decide (2 ^ 18 < fld v 0 4 + fld v 4 4) || decide (65536 < fld v 8 2 + fld v 10 2) || decide (2 ^ 20 < fld v 12 4 + fld v 16 4)
  || decide (16383 < fld v 20 2 + 7) || !(decide (fld v 23 1 < 16) || fld v 23 1 == 0xFF)
  || !(decide (fld v 24 2 < 16384) || fld v 24 2 == 0xFFFF) || decide (3 < fld v 26 1) || !isZero (slice v 27 5)
  || (List.range 64).any (fun k => k != p && (let r := rdmaRec s k
      rangesMeet (fld v 0 4) (fld v 4 4) (fld r 0 4) (fld r 4 4) || rangesMeet (fld v 8 2) (fld v 10 2) (fld r 8 2) (fld r 10 2)
      || rangesMeet (fld v 12 4) (fld v 16 4) (fld r 12 4) (fld r 16 4)))

/-- A pacing profile (Table 15-7, R399, R402). -/
def profileBad (s : Chip) (v : Bytes) : Bool :=
  let k := fld v 32 2
  decide (fld v 0 4 < fld v 4 4) || decide (fld v 8 4 < fld v 0 4) || decide (800000000 < fld v 8 4)
  || decide (fld v 24 4 ≤ fld v 20 4) || decide (fld v 28 4 ≤ fld v 24 4) || fld v 16 2 == 0 || decide (256 < fld v 16 2)
  || decide (fld v 18 2 < 5) || decide (1000 < fld v 18 2) || decide (1 < fld v 34 1) || !isZero (slice v 35 5)
  || (k != 0xFFFF && (decide (32768 ≤ k) || !bit (fld (shaperRec s k) 0 1) 2))

/-- The rules on values written to groups 24 and 25. -/
def checkRdma (s : Chip) (obj sub : Nat) (v : Bytes) : Nat :=
  if obj = 0x24020 then (if profileBad s v then eRange else eOk)
  else if 0x24040 ≤ obj ∧ obj < 0x24080 then
    if platRdmaBad s (obj - 0x24040) v then eRange
    else if platState s (obj - 0x24040) ≠ 0 then eBusy else eOk
  else if 0x25040 ≤ obj ∧ obj < 0x25080 then
    let base := if sub = 1 then leNat v else odN s obj 1
    let n := if sub = 2 then leNat v else odN s obj 2
    if 65536 < base + n ∨ (List.range 64).any (fun k => 0x25040 + k != obj
        && rangesMeet base n (odN s (0x25040 + k) 1) (odN s (0x25040 + k) 2)) then eRange
    else eOk
  else eOk

/-- A platform reset (R411): every queue pair to RESET without completions, its security associations freed. -/
def rdmaPlatReset (s : Chip) (p : Nat) : Chip :=
  let l := (s.rdma.qps.filter (fun q => q.2.plat == p)).map (·.1)
  let s := l.foldl qpReset s
  { s with rdma := { s.rdma with sas := s.rdma.sas.filter (fun a => a.2.owner != p) } }

end Sys2Proof.Machine
end

