-- ==== Sys2Proof/Machine/Relay.lean ====
section
/-! DEFINITION. The relay engine and the messages of coupling links (23 R571 to R582): copies, collectives, end-to-end adds,
leaving. -/
namespace Sys2Proof.Machine

/-! ## Descriptor (Table 23-6) -/

/-- OP -/
def rOp (b : Bytes) : Nat := fld b 0 1
/-- PLATFORM -/
def rPlat (b : Bytes) : Nat := fld b 2 1
/-- Element format of FMT -/
def rFmt (b : Bytes) : Nat := fld b 3 1 % 16
/-- Operation of FMT -/
def rFn (b : Bytes) : Nat := fld b 3 1 / 16
/-- TARGET -/
def rTarget (b : Bytes) : Nat := fld b 4 1
/-- ROOT -/
def rRoot (b : Bytes) : Nat := fld b 5 1
/-- KET -/
def rKet (b : Bytes) : Nat := fld b 6 2
/-- SIGNAL -/
def rSignal (b : Bytes) : Nat := fld b 8 2
/-- REMOTE_SIGNAL -/
def rRemote (b : Bytes) : Nat := fld b 10 2
/-- SRC -/
def rSrc (b : Bytes) : Nat := fld b 16 8
/-- DST -/
def rDst (b : Bytes) : Nat := fld b 24 8
/-- LENGTH -/
def rLen (b : Bytes) : Nat := fld b 32 8
/-- The cache hint of the writes. -/
def rHint (b : Bytes) : Nat := bits (fld b 1 1) 3 2

/-- A group's record, OD 60.070:g+1. -/
def relayGroup (s : Chip) (g : Nat) : Bytes := odB s 0x60070 (g + 1)
/-- COUNT -/
def groupSize (s : Chip) (g : Nat) : Nat := fld (relayGroup s g) 1 1
/-- The ordinal at a ring position. -/
def groupOrd (s : Chip) (g p : Nat) : Nat := fld (relayGroup s g) (4 + p) 1

/-- This package's ring position in a group, if it lists it. -/
def groupPos (s : Chip) (g : Nat) : Option Nat := (List.range (groupSize s g)).find? (fun p => groupOrd s g p == ownOrd s)

/-- A group operation. -/
def isGroupOp (op : Nat) : Bool := decide (0x61 ≤ op) && decide (op ≤ 0x64)
/-- A reduction. -/
def isReduce (op : Nat) : Bool := op == 0x63 || op == 0x64

/-- Bytes per element of a reduction's format. -/
def rElem (b : Bytes) : Nat := if rFmt b = 0 ∨ rFmt b = 10 then 4 else 2

/-- A block or chunk of a group operation. -/
def rBlock (s : Chip) (b : Bytes) : Nat := rLen b / groupSize s (rTarget b)

/-- Source and destination bytes at this package (23, table of operations). -/
def rRanges (s : Chip) (b : Bytes) : (Nat × Nat) × (Nat × Nat) :=
  match rOp b with
  | 0x62 => ((rSrc b, rBlock s b), (rDst b, rLen b))
  | 0x63 => ((rSrc b, rLen b), (rDst b, rBlock s b))
  | _ => ((rSrc b, rLen b), (rDst b, rLen b))

/-- INVALID (R574); `core`: the core that pushed the descriptor. -/
def relayInvalid (s : Chip) (core : Nat) (b : Bytes) : Bool :=
  let op := rOp b
  let g := groupSize s (rTarget b)
  let r := rRanges s b
  decide (op < 0x60) || decide (0x64 < op) || bits (fld b 1 1) 1 0 != 0 || decide (16 ≤ fld b 1 1)
  || !cipherPlatOk core (rPlat b) || decide (2048 ≤ rKet b) || !isZero (b.drop 40)
  || decide (rLen b < 64) || decide (2 ^ 36 < rLen b) || rLen b % 64 != 0
  || (op != 0x61 && rRoot b != 0) || (!isReduce op && op != 0x62 && fld b 3 1 != 0)
  || (if op = 0x60 then rTarget b == ownOrd s || decide (16 ≤ rTarget b)
      else decide (32 ≤ rTarget b) || decide (g < 2) || (groupPos s (rTarget b)).isNone
        || (relayGroup s (rTarget b)).take 1 != leBytes 1 (if rPlat b = 0xFF then 0xFD else rPlat b)
        || rLen b % (64 * g) != 0 || decide (g ≤ rRoot b))
  || (isReduce op && (!([0, 1, 2, 10].contains (rFmt b)) || decide (2 < rFn b)))
  || rangesMeet r.1.1 r.1.2 r.2.1 r.2.2

/-- Bytes this package sends (R579, the worked example). -/
def relaySends (s : Chip) (b : Bytes) : Nat :=
  let g := groupSize s (rTarget b)
  let k := rBlock s b
  match rOp b with
  | 0x60 => rLen b
  | 0x61 => if groupPos s (rTarget b) = some (rRoot b) then (g - 1) * rLen b else 0
  | 0x62 => (g - 1) * k
  | 0x63 => (g - 1) * k * (4 / rElem b)
  | _ => (g - 1) * k * (4 / rElem b) + (g - 1) * k

/-- Units of work (R579). -/
def relayUnits (s : Chip) (b : Bytes) : Nat := cdiv (relaySends s b) 1024

/-- Who reads and writes for a descriptor here (R575). -/
def relayAgent (b : Bytes) : Agent := agentOf (rPlat b)

/-! ## Operations under way -/

/-- The operation with a tag. -/
def opOf (s : Chip) (tag : Nat) : Option RelayOp := s.cons.ops.find? (fun r => r.tag == tag)

/-- Set it. -/
def setOp (s : Chip) (r : RelayOp) : Chip :=
  { s with cons := { s.cons with ops := s.cons.ops.map (fun x => if x.tag == r.tag then r else x) } }

/-- A message of a relay operation goes out. -/
def relaySend (s : Chip) (type ord plat flags tag addr : Nat) (data : Bytes) : Chip :=
  sendMsg (odAdd64 s 0x60090 2 data.length) (message type (ownOrd s) ord plat flags tag addr data)

/-- The messages of a run of bytes to consecutive addresses, each within one 4 KiB page (R278). -/
def dataMsgs (a : Nat) (b : Bytes) : List (Nat × Bytes) :=
  (transactions a b.length).map (fun p => (p.1, (b.drop (p.1 - a)).take p.2))

/-- The number that tells the messages of a group operation apart (TAG; log 71): phase, group, operation count. -/
def groupTag (phase g count : Nat) : Nat := phase * 2 ^ 15 + g * 2 ^ 10 + count % 1024

/-- ADDR of an operation's first message, and of the message that ends it after a platform reset (log 71). -/
abbrev addrFirst : Nat := 2 ^ 64 - 1
/-- The second. -/
abbrev addrAbort : Nat := 2 ^ 64 - 2

/-- Send to every other member of a group. -/
def toMembers (s : Chip) (g : Nat) (f : Chip → Nat → Chip) : Chip :=
  (List.range (groupSize s g)).foldl (fun s p => if groupOrd s g p = ownOrd s then s else f s (groupOrd s g p)) s

/-- Data of one phase of a group operation to an ordinal. -/
def sendGroup (s : Chip) (r : RelayOp) (phase ord : Nat) (l : List (Nat × Bytes)) : Chip :=
  l.foldl (fun s m => relaySend s 5 ord (rPlat r.b) 0 (groupTag phase (rTarget r.b) r.count) m.1 m.2) s

/-- An element as the exact FP32 it travels as, or INT32 (R577). -/
def partialOf (f : Nat) (raw : Nat) : Nat := if f = 10 ∨ f = 0 then raw else rawOf (decodeFv f raw)

/-- One step of a reduction (R577): FP32 rounding for SUM; NaN propagates; INT32 saturates. -/
def reduceOne (f fn acc x : Nat) : Nat :=
  if f = 10 then
    let a := sInt 32 acc
    let b := sInt 32 x
    uInt 32 (if fn = 0 then satInt 32 (a + b) else if fn = 1 then max a b else min a b)
  else
    let a := decodeFv 0 acc
    let b := decodeFv 0 x
    if a = .nan ∨ b = .nan then nanBits 0
    else rawOf (if fn = 0 then r32 (fvAdd a b) else vMax (fn == 2) a b)

/-- The elements of a run of source bytes as partials. -/
def partials (b : Bytes) (src : Bytes) : List Nat :=
  (List.range (src.length / rElem b)).map (fun i => partialOf (rFmt b) (elemAt (rFmt b) src i))

/-- The result of a reduction in FMT (R463, SATURATE clear). -/
def reduceOut (b : Bytes) (l : List Nat) : Bytes :=
  packPlane (rFmt b) (l.map (fun x => if rFmt b = 10 ∨ rFmt b = 0 then x else (convFloat (rFmt b) false (decodeFv 0 x)).raw))

/-- Partials as bytes, 4 each. -/
def partialBytes (l : List Nat) : Bytes := (l.map (leBytes 4)).flatten

/-- The source bytes of a chunk in parts whose partials fill one message at most: 1,024 elements, with their offsets. -/
def chunkParts (b : Bytes) (len : Nat) : List (Nat × Nat) :=
  let k := 1024 * rElem b
  (List.range (cdiv len k)).map (fun i => (i * k, min k (len - i * k)))

/-- An operation fails here. -/
def opFail (s : Chip) (tag st : Nat) : Chip :=
  match opOf s tag with
  | none => s
  | some r => setOp s (opEnd r st 0xFF)

/-- The status of Table 23-7 for a failed transfer. -/
def relayXferStatus (st : Nat) : Nat := if st = 1 then 2 else if st = 2 then 3 else 0

/-- Write received or own data of a group operation here: a failure ends the operation. -/
def opPlace (s : Chip) (tag a : Nat) (v : Bytes) : Chip :=
  match opOf s tag with
  | none => s
  | some r =>
    if r.status.isSome then s else
    let x := xferWrite s (relayAgent r.b) a v (rHint r.b) 0 uRelay Bound.free
    if x.st ≠ 0 then opFail x.s tag (relayXferStatus x.st)
    else setOp x.s { r with bytes := r.bytes + x.count }

/-- Read source bytes for a group operation: a failure ends it. -/
def opFetch (s : Chip) (tag a n : Nat) (k : Chip → Bytes → Chip) : Chip :=
  match opOf s tag with
  | none => s
  | some r =>
    if r.status.isSome then s else
    let x := xferRead s (relayAgent r.b) a n 0 0 uRelay Bound.free
    if x.st ≠ 0 then opFail x.s tag (relayXferStatus x.st) else k x.s x.bytes

/-- A group operation has come to its end here: every member's first message is in, and nothing is left to do. -/
def opSettle (s : Chip) (tag : Nat) : Chip :=
  match opOf s tag with
  | none => s
  | some r =>
    if rOp r.b ≠ 0x60 ∧ r.need = 0 ∧ groupSize s (rTarget r.b) - 1 ≤ r.heard.length then setOp s (opEnd r 0 0xFF) else s

/-- `n` bytes of work of a group operation done. -/
def opDone (s : Chip) (tag n : Nat) : Chip :=
  match opOf s tag with
  | none => s
  | some r => opSettle (setOp s { r with need := r.need - n, since := nowNs s }) tag

/-! ## Starting an operation -/

/-- COPY: the source goes out in messages; a source that cannot be read in full ends the transfer once what was read has
been placed (R279, R330). -/
def copyStart (s : Chip) (r : RelayOp) : Chip :=
  if memberState s (rTarget r.b) = 2 then setOp s (opEnd r 5 (rTarget r.b))
  else
    let x := xferRead s (relayAgent r.b) (rSrc r.b) (rLen r.b) 0 0 uRelay Bound.free
    let l := dataMsgs (rDst r.b) (x.bytes.take x.count)
    let s := setOp x.s { r with
      msgs := l.map (fun m => (m.1, m.2.length, 0)), hold := relayXferStatus x.st, sent := x.count,
      status := if l = [] then some (relayXferStatus x.st) else none }
    let n := l.length
    (l.zip (List.range n)).foldl (fun s m =>
      relaySend s 3 (rTarget r.b) (rPlat r.b) (b2n (m.2 + 1 == n)) r.tag m.1.1 m.1.2) s

/-- The first message of a group operation carries its OP, FMT, LENGTH and count (R576; log 71). -/
def firstMessage (s : Chip) (r : RelayOp) : Chip :=
  toMembers s (rTarget r.b) (fun s o =>
    relaySend s 5 o (rPlat r.b) 0 (groupTag 0 (rTarget r.b) r.count) addrFirst
      (leBytes 1 (rOp r.b) ++ leBytes 1 (fld r.b 3 1) ++ zeros 2 ++ leBytes 4 r.count ++ leBytes 8 (rLen r.b)))

/-- BROADCAST at the root: everything to every member, itself included. -/
def broadcastStart (s : Chip) (r : RelayOp) : Chip :=
  if r.pos ≠ rRoot r.b then s
  else opFetch s r.tag (rSrc r.b) (rLen r.b) (fun s v =>
    opPlace (toMembers s (rTarget r.b) (fun s o => sendGroup s r 0 o (dataMsgs (rDst r.b) v))) r.tag (rDst r.b) v)

/-- ALL_GATHER: this member's block to every member, itself included. -/
def gatherStart (s : Chip) (r : RelayOp) : Chip :=
  let k := rBlock s r.b
  let a := rDst r.b + r.pos * k
  opFetch s r.tag (rSrc r.b) k (fun s v =>
    opPlace (toMembers s (rTarget r.b) (fun s o => sendGroup s r 0 o (dataMsgs a v))) r.tag a v)

/-- A reduction starts here for the chunk before this position: its elements, converted, to the next position (R577). -/
def reduceStart (s : Chip) (r : RelayOp) : Chip :=
  let g := groupSize s (rTarget r.b)
  let k := rBlock s r.b
  let a := rSrc r.b + (r.pos + g - 1) % g * k
  let next := groupOrd s (rTarget r.b) ((r.pos + 1) % g)
  opFetch s r.tag a k (fun s v =>
    sendGroup s r 0 next ((chunkParts r.b k).map (fun p =>
      (a + p.1, partialBytes (partials r.b ((v.drop p.1).take p.2))))))

/-- Bytes a member has to place or pass on. -/
def groupNeed (s : Chip) (b : Bytes) (pos : Nat) : Nat :=
  let k := rBlock s b
  let g := groupSize s (rTarget b)
  match rOp b with
  | 0x61 => if pos = rRoot b then 0 else rLen b
  | 0x64 => 2 * ((g - 1) * k)
  | _ => (g - 1) * k

/-- Start an operation: queue and number of its descriptor, the descriptor, its admission. -/
def relayStart (s : Chip) (queue id : Nat) (b : Bytes) (adm : Nat) : Chip :=
  let tag := s.cons.nextTag
  let g := rTarget b
  let group := isGroupOp (rOp b)
  let count := if group then tget 0 s.cons.groupOps g else 0
  let pos := (groupPos s g).getD 0
  let r : RelayOp := ⟨queue, id, b, adm, tag, [], pos, count, [], if group then groupNeed s b pos else 0, [], 0, 0, 0xFF,
    nowNs s, 0, none⟩
  let s := { s with cons := { s.cons with
    ops := s.cons.ops ++ [r]
    nextTag := (tag + 1) % 2 ^ 16
    groupOps := if group then tput s.cons.groupOps g (count + 1) else s.cons.groupOps } }
  if !group then copyStart s r
  else
    let s := firstMessage s r
    opSettle (match rOp b with
      | 0x61 => broadcastStart s r
      | 0x62 => gatherStart s r
      | _ => reduceStart s r) tag

/-- A descriptor that ends before anything in it takes effect. -/
def relayReject (s : Chip) (queue id : Nat) (b : Bytes) (adm st : Nat) : Chip :=
  let tag := s.cons.nextTag
  { s with cons := { s.cons with
    ops := s.cons.ops ++ [⟨queue, id, b, adm, tag, [], 0, 0, [], 0, [], 0, 0, 0xFF, nowNs s, 0, some st⟩]
    nextTag := (tag + 1) % 2 ^ 16 } }

/-- The tag is in use by an operation under way. -/
def tagTaken (s : Chip) : Bool := s.cons.ops.any (fun r => r.tag == s.cons.nextTag)

/-- The oldest waiting descriptor of relay queue `k` starts, if it has this OP: admitted, or INVALID at once. Leaving stops
admission (R582). -/
def relayRow (s : Chip) (k op : Nat) : Chip :=
  match (portQ s (32 + k)).waiting with
  | [] => s
  | e :: _ =>
    if 16 ≤ k ∨ rOp e.b ≠ op ∨ tagTaken s then s
    else if relayInvalid s (portCore s (32 + k)) e.b then
      relayReject (takeWaiting s (32 + k) e.id) k e.id e.b e.adm 1
    else if e.adm = 0 ∨ s.cons.leaving.isSome then s
    else relayStart (takeWaiting s (32 + k) e.id) k e.id e.b e.adm

/-- COPY. -/
def execCopy (k : Nat) (s : State) : Host.Outcome State Fault Refusal := run s (fun c => relayRow c k 0x60)

/-- BROADCAST. -/
def execBroadcast (k : Nat) (s : State) : Host.Outcome State Fault Refusal := run s (fun c => relayRow c k 0x61)

/-- ALL_GATHER. -/
def execAllGather (k : Nat) (s : State) : Host.Outcome State Fault Refusal := run s (fun c => relayRow c k 0x62)

/-- REDUCE_SCATTER. -/
def execReduceScatter (k : Nat) (s : State) : Host.Outcome State Fault Refusal := run s (fun c => relayRow c k 0x63)

/-- ALL_REDUCE. -/
def execAllReduce (k : Nat) (s : State) : Host.Outcome State Fault Refusal := run s (fun c => relayRow c k 0x64)

/-! ## Messages of this package -/

/-- Take the oldest message of a TYPE out of the receive buffer, returning its credit. -/
def withMsg (s : Chip) (type : Nat) (p : Bytes → Bool) (k : Chip → Bytes → Chip) : Chip :=
  match s.cons.inbox.find? (fun m => fld m.2 0 1 == type && p m.2) with
  | none => s
  | some m => k (giveCredit { s with cons := { s.cons with inbox := s.cons.inbox.erase m } } m.1 m.2) m.2

/-- The end-to-end sequence of an add or of its acknowledgement. -/
def addSeq (m : Bytes) : Nat := fld m 6 2 + 65536 * bits (fld m 8 8) 63 48

/-- An enabled in-record lets a sender's add reach a signal (R498; log 72). -/
def coupledIn (s : Chip) (ord sig : Nat) : Bool :=
  (odListed s 0x51300 0x5130F).any (fun x =>
    let f := odFld s x.1 x.2 2 1
    bit f 0 && bit f 1 && odFld s x.1 x.2 0 2 == sig && odFld s x.1 x.2 3 1 == ord)

/-- Apply a received add: of a platform under its rights (R486), else as an in-record permits (R498). -/
def applyMsgAdd (s : Chip) (m : Bytes) : Chip :=
  let a := fld m 8 8
  let sig := a % 4096
  let v := bits a 47 16
  if fld m 2 1 < 64 then sigAdd s (.openFor (fld m 2 1)) sig v
  else if coupledIn s (msgSrc m) sig then deliverAdd s sig v
  else odAdd64 s 0x51020 3 1

/-- Apply the adds from an ordinal that arrived early and are due now. -/
def applyEarly (s : Chip) (o : Nat) : Nat → Chip
  | 0 => s
  | n + 1 =>
    let q := tget 0 s.cons.nextApply o
    match s.cons.early.find? (fun e => e.1 == o && e.2.1 == q) with
    | none => s
    | some e =>
      applyEarly (applyMsgAdd { s with cons := { s.cons with
        early := s.cons.early.erase e, nextApply := tput s.cons.nextApply o ((q + 1) % 2 ^ 32) } } e.2.2) o n

/-- MSG_SIGNAL_ADD (R571): in order of the sequence; an early one is held, a duplicate dropped; each is acknowledged. -/
def msgSignalAdd (s : Chip) : Chip :=
  withMsg s 1 (fun _ => true) (fun s m =>
    let o := msgSrc m
    let q := addSeq m
    let want := tget 0 s.cons.nextApply o
    let s := sendMsg s (message 2 (ownOrd s) o (fld m 2 1) 0 (q % 65536) (q / 65536 * 2 ^ 48) [])
    if q = want then
      applyEarly (applyMsgAdd { s with cons := { s.cons with nextApply := tput s.cons.nextApply o ((q + 1) % 2 ^ 32) } } m) o
        (s.cons.early.length + 1)
    else if (q + 2 ^ 32 - want) % 2 ^ 32 < 2 ^ 31 ∧ !s.cons.early.any (fun e => e.1 == o && e.2.1 == q) then
      { s with cons := { s.cons with early := s.cons.early ++ [(o, q, m)] } }
    else s)

/-- MSG_SIGNAL_ADD. -/
def execMsgSignalAdd (s : State) : Host.Outcome State Fault Refusal := run s msgSignalAdd

/-- MSG_SIGNAL_ACK: the kept add is released. -/
def msgSignalAck (s : Chip) : Chip :=
  withMsg s 2 (fun _ => true) (fun s m =>
    { s with cons := { s.cons with kept := s.cons.kept.filter (fun k => !(k.1 == msgSrc m && k.2.1 == addSeq m)) } })

/-- MSG_SIGNAL_ACK. -/
def execMsgSignalAck (s : State) : Host.Outcome State Fault Refusal := run s msgSignalAck

/-- A device physical range lies within one range of OD 60.050 (R575). -/
def inInbound (s : Chip) (a n : Nat) : Bool :=
  (List.range 8).any (fun i =>
    let b := odFld s 0x60050 (i + 1) 0 8
    let l := odFld s 0x60050 (i + 1) 8 8
    decide (b ≤ a) && decide (a + n ≤ b + l))

/-- Place a received WRITE whole or refuse it whole (R575): where a transaction of it is refused, none is done, and that one
is recorded. -/
def placeWrite (s : Chip) (p a : Nat) (v : Bytes) : Xfer :=
  let g : Agent := if p = 0xFF then .phys else .plat p
  if p = 0xFF ∧ !inInbound s a v.length then ⟨1, [], 0, s⟩
  else
    let x := xferWrite s g a v 0 0 uRelay Bound.free
    if x.st = 0 then x
    else
      let l := transactions a v.length
      match (if x.count = 0 then l.head? else l.getLast?) with
      | some t => xferWrite s g t.1 ((v.drop (t.1 - a)).take t.2) 0 0 uRelay Bound.free
      | none => x

/-- MSG_WRITE: placed under this package's bounds and translation, and acknowledged with the outcome: TAG and ADDR of the
message, one byte of status (log 71). -/
def msgWrite (s : Chip) : Chip :=
  withMsg s 3 (fun _ => true) (fun s m =>
    let v := m.drop 16
    let x := placeWrite s (fld m 2 1) (fld m 8 8) v
    let s := if x.st = 0 then odAdd64 x.s 0x60090 3 v.length else x.s
    sendMsg s (message 4 (ownOrd s) (msgSrc m) (fld m 2 1) 0 (fld m 6 2) (fld m 8 8) (leBytes 1 (relayXferStatus x.st))))

/-- MSG_WRITE. -/
def execMsgWrite (s : State) : Host.Outcome State Fault Refusal := run s msgWrite

/-- Bytes of the longest prefix of messages that have been placed (R279, R575). -/
def ackedPrefix : List (Nat × Nat × Nat) → Nat
  | [] => 0
  | m :: r => if m.2.2 = 1 then m.2.1 + ackedPrefix r else 0

/-- A COPY with every message answered ends. -/
def copySettle (r : RelayOp) : RelayOp :=
  if r.msgs.all (fun m => m.2.2 != 0) then
    let bad := r.msgs.any (fun m => m.2.2 == 2)
    opEnd { r with bytes := ackedPrefix r.msgs } (if bad then 2 else r.hold) (if bad then rTarget r.b else 0xFF)
  else { r with bytes := ackedPrefix r.msgs }

/-- MSG_WRITE_ACK: the transfer advances; a duplicate changes nothing (R572). -/
def msgWriteAck (s : Chip) : Chip :=
  withMsg s 4 (fun _ => true) (fun s m =>
    match s.cons.ops.find? (fun r => r.tag == fld m 6 2 && rOp r.b == 0x60 && rTarget r.b == msgSrc m && r.status.isNone) with
    | none => s
    | some r =>
      let st := if fld m 16 1 = 0 then 1 else 2
      setOp s (copySettle { r with
        msgs := r.msgs.map (fun x => if x.1 = fld m 8 8 ∧ x.2.2 = 0 then (x.1, x.2.1, st) else x) }))

/-- MSG_WRITE_ACK. -/
def execMsgWriteAck (s : State) : Host.Outcome State Fault Refusal := run s msgWriteAck

/-! ## Collectives (R576, R577) -/

/-- Group of a COLLECTIVE message. -/
def mGroup (m : Bytes) : Nat := bits (fld m 6 2) 14 10
/-- Operation count modulo 1,024. -/
def mCount (m : Bytes) : Nat := fld m 6 2 % 1024
/-- Phase: 0 blocks and partials, 1 results of ALL_REDUCE. -/
def mPhase (m : Bytes) : Nat := fld m 6 2 / 2 ^ 15

/-- The operation a COLLECTIVE message belongs to. -/
def msgOp (s : Chip) (m : Bytes) : Option RelayOp :=
  s.cons.ops.find? (fun r => isGroupOp (rOp r.b) && rTarget r.b == mGroup m && r.count % 1024 == mCount m && r.status.isNone)

/-- The message belongs to an operation that this member has not issued yet. -/
def msgFuture (s : Chip) (m : Bytes) : Bool :=
  decide ((mCount m + 1024 - tget 0 s.cons.groupOps (mGroup m) % 1024) % 1024 < 512)

/-- The first message of a member: on any difference MISMATCH (R576). -/
def groupFirst (s : Chip) (r : RelayOp) (m : Bytes) : Chip :=
  if fld m 16 1 = rOp r.b ∧ fld m 17 1 = fld r.b 3 1 ∧ fld m 20 4 = r.count % 2 ^ 32 ∧ fld m 24 8 = rLen r.b then
    let h := if r.heard.contains (msgSrc m) then r.heard else r.heard ++ [msgSrc m]
    opSettle (setOp s { r with heard := h, since := nowNs s }) r.tag
  else setOp (odAdd64 s 0x60090 7 1) (opEnd r 4 (msgSrc m))

/-- A partial of a reduction: this member's elements are taken in; passed on, or the result placed at its position and, for
ALL_REDUCE, sent to every member. -/
def groupPartial (s : Chip) (r : RelayOp) (a : Nat) (v : Bytes) : Chip :=
  let g := groupSize s (rTarget r.b)
  let k := rBlock s r.b
  let c := (a - rSrc r.b) / k
  let n := v.length / 4 * rElem r.b
  let off := (a - rSrc r.b) % k
  opFetch s r.tag a n (fun s own =>
    let acc := (List.range (v.length / 4)).map (fun i => fld v (4 * i) 4)
    let sum := (acc.zip (partials r.b own)).map (fun x => reduceOne (rFmt r.b) (rFn r.b) x.1 x.2)
    if c = r.pos then
      let out := reduceOut r.b sum
      let at_ := if rOp r.b = 0x63 then rDst r.b + off else rDst r.b + c * k + off
      let s := opPlace s r.tag at_ out
      let s := if rOp r.b = 0x64 then
          toMembers s (rTarget r.b) (fun s o => sendGroup s r 1 o [(at_, out)])
        else s
      opDone s r.tag n
    else
      opDone (sendGroup s r 0 (groupOrd s (rTarget r.b) ((r.pos + 1) % g)) [(a, partialBytes sum)]) r.tag n)

/-- Data of a group operation: each message once. -/
def groupData (s : Chip) (r : RelayOp) (m : Bytes) : Chip :=
  let a := fld m 8 8
  let v := m.drop 16
  let key := a + 2 ^ 64 * mPhase m
  if r.seen.contains key then s
  else
    let r := { r with seen := r.seen ++ [key] }
    let s := odAdd64 (setOp s r) 0x60090 3 v.length
    if isReduce (rOp r.b) ∧ mPhase m = 0 then
      (if a < rSrc r.b ∨ rSrc r.b + rLen r.b < a + v.length / 4 * rElem r.b then opFail s r.tag 4 else groupPartial s r a v)
    else if a < rDst r.b ∨ rDst r.b + rLen r.b < a + v.length then opFail s r.tag 4
    else opDone (opPlace s r.tag a v) r.tag v.length

/-- MSG_COLLECTIVE: the oldest one that belongs to an operation issued here; one of an operation that has ended is
discarded. -/
def msgCollective (s : Chip) : Chip :=
  withMsg s 5 (fun m => (msgOp s m).isSome || !msgFuture s m) (fun s m =>
    match msgOp s m with
    | none => s
    | some r =>
      let a := fld m 8 8
      if a = addrFirst then groupFirst s r m
      else if a = addrAbort then setOp s (opEnd r 10 (msgSrc m))
      else groupData s r m)

/-- MSG_COLLECTIVE. -/
def execMsgCollective (s : State) : Host.Outcome State Fault Refusal := run s msgCollective

/-- A member whose first message has not come, or else none. -/
def silentMember (s : Chip) (r : RelayOp) : Nat :=
  match (List.range (groupSize s (rTarget r.b))).find? (fun p =>
      groupOrd s (rTarget r.b) p != ownOrd s && !r.heard.contains (groupOrd s (rTarget r.b) p)) with
  | some p => groupOrd s (rTarget r.b) p
  | none => 0xFF

/-- GROUP_OPERATION_TIMEOUT: a group operation that has waited for OD 60.032 ms (R576). -/
def groupTimeout (s : Chip) (tag : Nat) : Chip :=
  match opOf s tag with
  | none => s
  | some r =>
    if isGroupOp (rOp r.b) ∧ r.since + ms (odN s 0x60032 0) < nowNs s then setOp s (opEnd r 5 (silentMember s r)) else s

/-- GROUP_OPERATION_TIMEOUT. -/
def execGroupOperationTimeout (tag : Nat) (s : State) : Host.Outcome State Fault Refusal :=
  run s (fun c => groupTimeout c tag)

/-! ## Completion (R578) and leaving (R582) -/

/-- Counters of a completed descriptor. -/
def relayCount (s : Chip) (r : RelayOp) (st : Nat) : Chip :=
  let s := odAdd64 s 0x60090 1 1
  let p := rPlat r.b
  if p < 64 then
    let s := odAdd64 (odAdd64 s (0x60100 + p) 1 1) (0x60100 + p) 2 (if st = 1 then 0 else relaySends s r.b)
    if st ≠ 0 then odAdd64 s (0x60100 + p) 3 1 else s
  else s

/-- The adds to REMOTE_SIGNAL: at the destination of a COPY; at this member where it received its part. -/
def remoteAdds (s : Chip) (r : RelayOp) : Chip :=
  if rRemote r.b = 0xFFFF then s
  else if rOp r.b = 0x60 then sendAdd s (rTarget r.b) (rPlat r.b) (rRemote r.b) 1
  else if rOp r.b = 0x61 ∧ r.pos = rRoot r.b then s
  else addSignal s (agentFor (rPlat r.b)) (rRemote r.b)

/-- Every coupling link down, LEAVE sent to every member first (R582). -/
def leaveNow (s : Chip) : Chip :=
  let s := (otherMembers s).foldl (fun s o => sendMsg s (message 7 (ownOrd s) o 0xFF 0 0 0 [])) s
  clAllDown (odSet { s with cons := { s.cons with leaving := none } } 0x60042 0 1)

/-- Leaving ends with the last operation. -/
def leaveCheck (s : Chip) : Chip := if s.cons.leaving.isSome ∧ s.cons.ops = [] then leaveNow s else s

/-- Write an operation's completion: the completion entry, the adds, the true-up; a template notes its status. -/
def relayFinish (s : Chip) (r : RelayOp) (st : Nat) : Chip :=
  let s := { s with cons := { s.cons with ops := s.cons.ops.filter (fun x => x.tag != r.tag) } }
  let s := dropAdm s r.adm
  let s :=
    if r.queue < 16 then
      let q := portQ s (32 + r.queue)
      let s := setPortQ s (32 + r.queue) { q with running := q.running - 1 }
      portComplete s (32 + r.queue) st r.fail r.b r.bytes
    else { s with cons := { s.cons with ended := s.cons.ended ++ [(r.id, st)] } }
  let s := addSignal s (agentFor (rPlat r.b)) (rSignal r.b)
  relayCount (if st = 0 then remoteAdds s r else s) r st

/-- RELAY_COMPLETE: an operation that has ended, or that 100 ms of leaving have not let end (R582). -/
def relayComplete (s : Chip) (tag : Nat) : Chip :=
  match opOf s tag with
  | none => s
  | some r =>
    let above := s.cons.leaving.any (fun t => decide (t + ms 100 ≤ nowNs s))
    match r.status with
    | some st => leaveCheck (relayFinish s r st)
    | none => if above then leaveCheck (relayFinish s r 7) else s

/-- RELAY_COMPLETE. -/
def execRelayComplete (tag : Nat) (s : State) : Host.Outcome State Fault Refusal := run s (fun c => relayComplete c tag)

/-- MSG_LEAVE: the sender is LEFT at once (R582). -/
def msgLeave (s : Chip) : Chip :=
  withMsg s 7 (fun _ => true) (fun s m => if memberState s (msgSrc m) = 2 then s else memberLeft s (msgSrc m))

/-- MSG_LEAVE. -/
def execMsgLeave (s : State) : Host.Outcome State Fault Refusal := run s msgLeave

/-- OD 60.040, CONSIST_LEAVE: admission stops; what runs has 100 ms. -/
def actConsistLeave : Act := fun s _ _ =>
  if odN s 0x60042 0 = 1 ∨ s.cons.leaving.isSome then acted s
  else acted (leaveCheck { s with cons := { s.cons with leaving := some (nowNs s) } })

/-- CONSIST_LEAVE. -/
def execConsistLeave (rq : Rq) (s : State) : Host.Outcome State Fault Refusal :=
  run s (actionRow actConsistLeave 0x60040 rq [])

/-! ## Resets, drain, emergencies, writes -/

/-- A platform reset (R588): its descriptors stop, no completion is written, and the other members end their part. -/
def relayPlatReset (s : Chip) (p : Nat) : Chip :=
  let mine : List RelayOp := s.cons.ops.filter (fun r => rPlat r.b == p)
  let s := mine.foldl (fun s r =>
    if isGroupOp (rOp r.b) then
      toMembers s (rTarget r.b) (fun s o =>
        relaySend s 5 o p 0 (groupTag 0 (rTarget r.b) r.count) addrAbort [])
    else s) s
  let s := mine.foldl (fun s r =>
    let s := dropAdm s r.adm
    if r.queue < 16 then
      let q := portQ s (32 + r.queue)
      setPortQ s (32 + r.queue) { q with running := q.running - 1 }
    else s) s
  let s := { s with cons := { s.cons with ops := s.cons.ops.filter (fun r => rPlat r.b != p) } }
  (List.range 16).foldl (fun s k =>
    let q := portQ s (32 + k)
    let gone : List PqEntry := q.waiting.filter (fun e => rPlat e.b == p)
    if gone.isEmpty then s
    else gone.foldl (fun s e => dropAdm s e.adm)
      (setPortQ s (32 + k) { q with waiting := q.waiting.filter (fun e => rPlat e.b != p) })) s

/-- Operations end with a status at once: drain, emergency, dwell trip (R159, R154, R64). -/
def relayEndAll (s : Chip) (st : Nat) : Chip := s.cons.ops.foldl (fun s r => relayFinish s r (r.status.getD st)) s

/-- The link map with a subindex replaced is a wiring of a topology of X by Y packages (Table 23-4, R567). -/
def wiringOk (s : Chip) (topo x y : Nat) (map : List Nat) : Bool :=
  let o := odN s 0x60002 0
  let members := odN s 0x60005 0
  let n := ((List.range 16).filter (fun i => bit members i)).length
  let links := fun (p : Nat) => (map.filter (fun m => bit m 15 && m % 16 == p)).length
  let want : List Nat := match topo with
    | 1 => List.replicate 4 ((o + 1) % n) ++ List.replicate 4 ((o + n - 1) % n)
    | 2 =>
      let u := o % x
      let v := o / x
      let two := fun (a b : Nat) => List.replicate 2 (a + x * b)
      two ((u + 1) % x) v ++ two ((u + x - 1) % x) v ++ two u ((v + 1) % y) ++ two u ((v + y - 1) % y)
    | _ => ((List.range 16).filter (fun i => bit members i && i != o)).flatMap (fun i => [i, i])
  let size := match topo with
    | 1 => decide (2 ≤ n)
    | 2 => n == x * y && decide (o < n)
    | _ => decide (2 ≤ n) && decide (n ≤ 5)
  if topo = 0 then true
  else size && (List.range 16).all (fun p => links p == (want.filter (· == p)).length)

/-- The link map as its objects stand. -/
def linkMaps (s : Chip) : List Nat := (List.range 8).map (fun l => odN s 0x60010 (l + 1))

/-- An operation of the group runs, or waits. -/
def groupBusy (s : Chip) (g : Nat) : Bool := s.cons.ops.any (fun r => isGroupOp (rOp r.b) && rTarget r.b == g)

/-- The rules on values written to group 60 (R434, R567, R568, R573). -/
def checkConsist (s : Chip) (dom : Dom) (obj sub : Nat) (v : Bytes) : Nat :=
  let n := leNat v
  let k := sub - 1
  let ok := fun (b : Bool) => if b then eOk else eRange
  let topo := odN s 0x60003 0
  let x := odN s 0x60004 1
  let y := odN s 0x60004 2
  if obj = 0x60003 then ok (wiringOk s n x y (linkMaps s))
  else if obj = 0x60004 then
    ok (topo != 2 || wiringOk s topo (if sub = 1 then n else x) (if sub = 2 then n else y) (linkMaps s))
  else if obj = 0x60010 then
    ok (n &&& 0x78F0 == 0 && wiringOk s topo x y ((linkMaps s).set k n))
  else if obj = 0x60030 then
    ok ((List.range 8).all (fun l => bit (odN s 0x60010 (l + 1)) 15
      || !(bit n l || bit n (8 + l) || bit n (16 + l))))
  else if obj = 0x60060 then
    ok (decide (fld v 0 1 ≤ 2) && decide (fld v 1 1 < 16) && decide (fld v 2 1 < 32) && decide (fld v 4 1 ≤ 16)
      && (fld v 0 1 == 0 || decide (fld v 3 1 < fld v 4 1)))
  else if obj = 0x60070 then
    let c := fld v 1 1
    let l : List Nat := (List.range c).map (fun i => fld v (4 + i) 1)
    if groupBusy s k then eBusy
    else ok (isZero v || ((decide (fld v 0 1 < 64) || fld v 0 1 == 0xFD) && decide (2 ≤ c) && decide (c ≤ 16)
      && l.all (· < 16) && l.all (fun x => (l.filter (· == x)).length == 1)))
  else if obj = 0x60080 then
    let busy := decide (0 < (portQ s (32 + k)).outstanding)
    if n = 0xFF then (if busy then eBusy else eOk)
    else if k < 4 ∧ (4 ≤ n ∨ dom ≠ .sealed) then eRange
    else if 4 ≤ k ∧ n < 4 then eRange
    else if busy then eBusy else eOk
  else if obj = 0x60081 then
    (if n % 32 ≠ 0 ∨ 0x1F800 < n then eRange
     else if 0 < (portQ s (32 + k)).outstanding then eBusy else eOk)
  else eOk

end Sys2Proof.Machine
end

