-- ==== Sys2Proof/Machine/Serving.lean ====
section
/-! DEFINITION. Model serving (21) and split plans (23 R580, R581): models, slots, requests, steps, the pause rule, the siding,
logits and completions. -/
namespace Sys2Proof.Machine

/-! ## Models and plans (Tables 21-1, 21-2) -/

/-- Record of model `m`. -/
def mdl (s : Chip) (m : Nat) : Bytes := odB s 0x53400 (m + 1)
/-- LAYERS -/
def mLayers (r : Bytes) : Nat := fld r 2 2
/-- VOCAB -/
def mVocab (r : Bytes) : Nat := fld r 4 4
/-- PLAN -/
def mPlan (r : Bytes) : Nat := fld r 16 8
/-- MAX_CONTEXT × KV_ROW_BYTES, the KV area of a slot. -/
def mKv (r : Bytes) : Nat := fld r 32 4 * fld r 36 4
/-- ACT_BYTES -/
def mAct (r : Bytes) : Nat := fld r 40 4
/-- EMBED_ROW_BYTES -/
def mEmbedRow (r : Bytes) : Nat := fld r 44 4
/-- PREFILL_CHUNK -/
def mChunk (r : Bytes) : Nat := fld r 54 2
/-- CONCURRENT -/
def mPlaces (r : Bytes) : Nat := fld r 56 1
/-- A slot of the model, rounded up to 64 KiB. -/
def mSlot (r : Bytes) : Nat := cdiv (mKv r + mAct r + 4 * mVocab r) 65536 * 65536

/-- Bytes of device memory as the engine's firmware reads them. -/
def peek (s : Chip) (a n : Nat) : Bytes := memRead s.mem.dev a n

/-- Layer entry `l` of a layer table. -/
def layerEntry (s : Chip) (plan l : Nat) : Bytes := peek s (plan + 16 * l) 16
/-- JOBS -/
def lJobs (e : Bytes) : Nat := fld e 0 8
/-- DIE -/
def lDie (e : Bytes) : Nat := fld e 8 1
/-- COUNT -/
def lCount (e : Bytes) : Nat := fld e 9 1
/-- LAYER_STEPS -/
def lSteps (e : Bytes) : Nat := fld e 12 4

/-- Addition record `a` (Table 22-6). -/
def addRec (s : Chip) (a : Nat) : Bytes := odB s (0x54400 + a / 16) (a % 16 + 1)

/-- The step object of an array die, in fs (R45). -/
def dieStep (s : Chip) (d : Nat) : Nat := odN s 0x01049 (d + 1)

/-! ## Platform records and slots (Table 21-3) -/

/-- Serving record of a platform. -/
def servRec (s : Chip) (p : Nat) : Bytes := odB s (0x53040 + p) 0
/-- The handle lies in the platform's range. -/
def ownHandle (s : Chip) (p h : Nat) : Bool :=
  let r := servRec s p
  decide (fld r 0 2 ≤ h) && decide (h < fld r 0 2 + fld r 2 2)
/-- CQ -/
def servCq (s : Chip) (p : Nat) : Nat := fld (servRec s p) 6 2
/-- Bytes of a slot. -/
def slotSize (s : Chip) (p : Nat) : Nat := fld (servRec s p) 28 4 * 65536
/-- Address of a slot (R521). -/
def slotAddr (s : Chip) (p : Nat) (far : Bool) (i : Nat) : Nat :=
  fld (servRec s p) (if far then 32 else 16) 8 + i * slotSize s p

/-! ## Requests -/

/-- An open request, by its key. -/
def reqOf (s : Chip) (h : Nat) : Option ServReq := tget? s.serv.reqs h

/-- OD 53.020 and 53.401: open, paused and demoted requests; open requests of each model. Members' shares count at their
lead. -/
def showServing (s : Chip) : Chip :=
  let l : List ServReq := (s.serv.reqs.map (·.2)).filter (fun r => r.lead.isNone)
  let s := odSet (odSet (odSet s 0x53020 1 l.length) 0x53020 2 (l.filter (fun r => r.reason != 0)).length) 0x53020 3
    (l.filter (·.far)).length
  (List.range 64).foldl (fun s m => odSet s 0x53401 (m + 1) (l.filter (fun r => fld r.b 6 1 == m)).length) s

/-- Set a request. -/
def setReq (s : Chip) (h : Nat) (r : ServReq) : Chip :=
  showServing { s with serv := { s.serv with reqs := tput s.serv.reqs h r } }

/-- Remove a request: its slot is free; jobs of it that still run are nobody's. -/
def dropReq (s : Chip) (h : Nat) : Chip :=
  match reqOf s h with
  | none => s
  | some r =>
    let s := dropAdm s r.adm
    showServing { s with serv := { s.serv with reqs := tdel s.serv.reqs h, orphans := s.serv.orphans ++ r.jobs } }

/-- HANDLE -/
def qHandle (r : ServReq) : Nat := fld r.b 4 2
/-- MODEL -/
def qModel (r : ServReq) : Nat := fld r.b 6 1
/-- CLASS -/
def qClass (r : ServReq) : Nat := fld r.b 7 1
/-- ADDITION -/
def qAddition (r : ServReq) : Nat := fld r.b 8 2
/-- PROMPT_LEN -/
def qPrompt (r : ServReq) : Nat := fld r.b 12 4
/-- MAX_TOKENS -/
def qMax (r : ServReq) : Nat := fld r.b 32 4
/-- Top-K mode -/
def qTop (r : ServReq) : Bool := bit (fld r.b 3 1) 0

/-- Requests led here. -/
def ledReqs (s : Chip) : List (Nat × ServReq) := s.serv.reqs.filter (fun r => r.2.lead.isNone)

/-- Requests of a platform. -/
def platReqs (s : Chip) (p : Nat) : List (Nat × ServReq) := s.serv.reqs.filter (fun r => r.2.plat == p)

/-- A free slot of a platform in one tier. -/
def freeSlotOf (s : Chip) (p : Nat) (far : Bool) : Option Nat :=
  let used : List Nat := ((platReqs s p).filter (fun r => r.2.far == far && r.2.phase != 5)).map (fun r => r.2.slot)
  (List.range (fld (servRec s p) (if far then 26 else 24) 2)).find? (fun i => !used.contains i)

/-- Completion slots of a platform's ring that are free and not reserved (R522). -/
def cqRoom (s : Chip) (p : Nat) : Nat :=
  match cqOf s (servCq s p) with
  | none => 0
  | some q => 2 ^ q.log - idxSub q.prod q.cons - ((platReqs s p).filter (fun r => r.2.reserved)).length

/-- The deadline of a step that becomes ready now (R525): 0 none. -/
def deadlineOf (s : Chip) (r : ServReq) (step : Nat) : Nat :=
  let own := fld r.b 36 4
  let cls := odFld s 0x53010 (qClass r + 1) (if step = 0 then 4 else 0) 4
  let t := if own ≠ 0 then own else cls
  if t = 0 then 0 else nowNs s + us t

/-- Rank of a ready step (R527): class, deadline with none last, handle. -/
def rankOf (h : Nat) (r : ServReq) : Nat :=
  qClass r * 2 ^ 100 + (if r.deadline = 0 then 2 ^ 66 else r.deadline) * 2 ^ 20 + h

/-- The least of a list by a number. -/
def leastBy (f : Nat × ServReq → Nat) (l : List (Nat × ServReq)) : Option (Nat × ServReq) :=
  l.foldl (fun b x => match b with | none => some x | some y => if f x < f y then some x else some y) none

/-- Ready steps of a model that may take a place. -/
def readySteps (s : Chip) (m : Nat) : List (Nat × ServReq) :=
  (ledReqs s).filter (fun r => qModel r.2 == m && r.2.phase == 1 && !r.2.blocked)

/-- The most urgent of them. -/
def urgent (s : Chip) (m : Nat) : Option (Nat × ServReq) := leastBy (fun x => rankOf x.1 x.2) (readySteps s m)

/-- Running steps of a model. -/
def runningSteps (s : Chip) (m : Nat) : List (Nat × ServReq) :=
  (ledReqs s).filter (fun r => qModel r.2 == m && (r.2.phase == 2 || r.2.phase == 3))

/-- The model has a free place. -/
def placeFree (s : Chip) (m : Nat) : Bool := decide ((runningSteps s m).length < mPlaces (mdl s m))

/-! ## Split models (23 R580, R581) -/

/-- Split record of a model. -/
def splitRec (s : Chip) (m : Nat) : Bytes := odB s 0x60060 (m + 1)
/-- MODE: 0 none, 1 pipeline, 2 tensor. -/
def splitMode (s : Chip) (m : Nat) : Nat := fld (splitRec s m) 0 1

/-- The other members of a split model's group. -/
def splitMembers (s : Chip) (m : Nat) : List Nat :=
  let g := fld (splitRec s m) 2 1
  if splitMode s m = 0 then []
  else ((List.range (groupSize s g)).map (groupOrd s g)).filter (fun o => o != ownOrd s)

/-- A SERVE message: what (1 run a pass, 2 mark, 3 zero the slot, 4 demote, 5 promote, 6 stopped, 7 end), platform, far,
handle, slot, step, pass, layer, then the submission entry's model and the pass's tokens (log 71). -/
def serveMsg (what : Nat) (r : ServReq) (slot : Nat) (toks : List Nat) : Bytes :=
  leBytes 1 what ++ leBytes 1 r.plat ++ leBytes 1 (b2n r.far) ++ leBytes 1 (qModel r) ++ leBytes 2 (qHandle r) ++ leBytes 2 slot
    ++ leBytes 4 r.step ++ leBytes 4 r.pass ++ slice r.b 0 64 ++ (toks.map (leBytes 4)).flatten

/-- Send it to every other member of the request's group. -/
def serveAll (s : Chip) (what : Nat) (r : ServReq) (slot : Nat) (toks : List Nat) : Chip :=
  if r.lead.isSome then s
  else (splitMembers s (qModel r)).foldl (fun s o =>
    sendMsg s (message 6 (ownOrd s) o 0xFF 0 0 0 (serveMsg what r slot toks))) s

/-! ## Completions (R534, Table 21-8) -/

/-- Positions filled after a step. -/
def contextOf (r : ServReq) (done : Bool) : Nat :=
  if done then qPrompt r + r.step else if r.step = 0 then 0 else qPrompt r + r.step - 1

/-- Energy charged so far to an admission. -/
def admActual (s : Chip) (adm : Nat) : Nat := ((s.en.jobs.filter (fun j => j.id == adm)).map (·.actual)).sum

/-- A serving completion. -/
def servEntry (s : Chip) (r : ServReq) (flags st energy idx ph : Nat) : Bytes :=
  leBytes 2 idx ++ leBytes 1 (ph + flags) ++ leBytes 1 st ++ leBytes 2 (qHandle r) ++ leBytes 2 (platEpoch s r.plat % 65536)
    ++ slice r.b 40 8 ++ leBytes 4 r.step ++ leBytes 4 (contextOf r (st == 0)) ++ leBytes 8 energy ++ leBytes 8 (epochNs s)
    ++ leBytes 4 (min r.waited 0xFFFFFFFF) ++ leBytes 2 r.pauses ++ zeros 18

/-- The completion, and then the add to SIGNAL. -/
def servComplete (s : Chip) (r : ServReq) (flags st energy : Nat) : Chip :=
  addSignal (cqPut s (servCq s r.plat) uDispatch (servEntry s r flags st energy)) (.plat r.plat) (fld r.b 48 2)

/-- A request that nothing has been opened for. -/
def reqBlank (p : Nat) (b : Bytes) : ServReq where
  plat := p
  b := b
  lead := none
  far := false
  slot := 0
  step := 0
  tokens := []
  phase := 1
  status := 0
  deadline := 0
  readyAt := 0
  pass := 0
  layer := 0
  adm := 0
  blocked := false
  reserved := false
  marked := false
  asked := false
  reason := 0
  pausedAt := 0
  pauses := 0
  waited := 0
  jobs := []
  todo := []
  since := 0
  overrun := false
  closing := false
  away := []

/-! ## The pause rule (R528) -/

/-- An addition's layer steps for a request's layer. -/
def addSteps (s : Chip) (r : ServReq) (l : Nat) : Nat :=
  if qAddition r = 0xFFFF then 0 else lSteps (layerEntry s (fld (addRec s (qAddition r)) 24 8) l)

/-- Bound of a layer of a request, ns: base and addition (22 R549). -/
def layerNs (s : Chip) (r : ServReq) (l : Nat) : Nat :=
  let e := layerEntry s (mPlan (mdl s (qModel r))) l
  (lSteps e + addSteps s r l) * dieStep s (lDie e) / 1000000

/-- Passes of the step. -/
def passesOf (s : Chip) (r : ServReq) : Nat := if r.step = 0 then cdiv (qPrompt r) (mChunk (mdl s (qModel r))) else 1

/-- Time the remaining passes and layers take, ns. -/
def estNs (s : Chip) (r : ServReq) : Nat :=
  let n := mLayers (mdl s (qModel r))
  let all := ((List.range n).map (layerNs s r)).sum
  let now := (((List.range n).drop r.layer).map (layerNs s r)).sum
  now + (passesOf s r - r.pass - 1) * all

/-- The step that gives way: not marked, of a class after `c`, the least urgent. -/
def victim (s : Chip) (m c : Nat) : Option (Nat × ServReq) :=
  leastBy (fun x => 2 ^ 120 - rankOf x.1 x.2)
    ((runningSteps s m).filter (fun r => !r.2.marked && decide (c < qClass r.2) && r.2.phase == 2 && r.2.status == 0))

/-- The rule for one model without a free place. -/
def pauseModel (s : Chip) (m : Nat) : Chip :=
  if placeFree s m then s
  else match urgent s m with
    | none => s
    | some (h, w) =>
      let margin : Int := us (odFld s 0x53010 (qClass w + 1) 8 4)
      let slack : Int := (w.deadline : Int) - nowNs s - estNs s w
      if w.deadline = 0 ∨ margin ≤ slack ∨ w.asked then s
      else match victim s m (qClass w) with
        | none => s
        | some (g, r) => serveAll (setReq (setReq s g { r with marked := true }) h { w with asked := true }) 2 r r.slot []

/-- Every model. -/
def pauseRule (s : Chip) : Chip := (List.range 64).foldl pauseModel s

/-! ## Doorbells (R522, R523) -/

/-- DB_TOKEN: reserved bits, KIND 3 and other platforms' handles are discarded; a row acts on its own KIND. -/
def tokenDoorbell (s : Chip) (fn size val kind : Nat) (handle : Bool) (k : Chip → Nat → Chip) : Chip :=
  if size = 8 ∧ val / 2 ^ 62 % 4 ≠ kind ∧ val / 2 ^ 62 % 4 ≠ 3 then s
  else engineDoorbell s fn size val (2 ^ 64 - 1 - 0x3FFF * 2 ^ 18) (fun s p =>
    if 64 ≤ p ∨ val / 2 ^ 62 % 4 = 3 ∨ (handle && !ownHandle s p (bits val 47 32)) then dbDiscard s fn else k s p)

/-- TOKEN: the next step becomes ready, or the token is discarded and counted. -/
def tokenTaken (s : Chip) (p val : Nat) : Chip :=
  let h := bits val 47 32
  let v := val % 2 ^ 18
  match reqOf s h with
  | none => odAdd64 s (0x53080 + p) 5 1
  | some r =>
    if r.phase = 0 ∧ bits val 61 48 = r.step % 2 ^ 14 ∧ v < mVocab (mdl s (qModel r)) then
      pauseRule (setReq s h { r with
        step := r.step + 1, tokens := [v], phase := 1, readyAt := nowNs s, deadline := deadlineOf s r (r.step + 1)
        pass := 0, layer := 0, adm := 0, blocked := false, marked := false, asked := false, reason := 0, pauses := 0
        waited := 0, pausedAt := nowNs s })
    else odAdd64 s (0x53080 + p) 5 1

/-- DB_TOKEN_TOKEN. -/
def execDbTokenToken (fn size val : Nat) (s : State) : Host.Outcome State Fault Refusal :=
  run s (fun c => tokenDoorbell c fn size val 0 true (fun s p => tokenTaken s p val))

/-- SUBMIT: the producer index of the submission ring; one beyond the ring is discarded (log 80). -/
def submitTaken (s : Chip) (fn p val : Nat) : Chip :=
  let x := tget (0, 0) s.serv.subs p
  if 2 ^ fld (servRec s p) 4 1 < idxSub (val % 65536) x.2 ∨ bits val 61 16 ≠ 0 then dbDiscard s fn
  else { s with serv := { s.serv with subs := tput s.serv.subs p (val % 65536, x.2) } }

/-- DB_TOKEN_SUBMIT. -/
def execDbTokenSubmit (fn size val : Nat) (s : State) : Host.Outcome State Fault Refusal :=
  run s (fun c => tokenDoorbell c fn size val 1 false (fun s p => submitTaken s fn p val))

/-- Write the CLOSED completion of a request and remove it; without room in the ring it waits (R522). -/
def closeNow (s : Chip) (h : Nat) (r : ServReq) : Chip :=
  let s := serveAll s 7 r r.slot []
  if r.reserved ∨ 0 < cqRoom s r.plat then
    let e := admActual s r.adm
    servComplete (dropReq s h) r (4 + (if 0 < r.pauses then 8 else 0)) 4 e
  else setReq s h { r with phase := 5, closing := true }

/-- CLOSE (R523, R536). -/
def closeTaken (s : Chip) (val : Nat) : Chip :=
  let h := bits val 47 32
  match reqOf s h with
  | none => s
  | some r => if r.phase = 0 ∨ r.phase = 1 then closeNow s h r else setReq s h { r with closing := true }

/-- DB_TOKEN_CLOSE. -/
def execDbTokenClose (fn size val : Nat) (s : State) : Host.Outcome State Fault Refusal :=
  run s (fun c => tokenDoorbell c fn size val 2 true (fun s _ => closeTaken s val))

/-! ## OPEN (R522) -/

/-- The addition is resident for the platform and model (22 R548). -/
def additionFor (s : Chip) (a p m : Nat) : Bool :=
  let r := addRec s a
  decide (a < 4096) && bit (fld r 0 1) 0 && fld r 1 1 == m && (fld r 2 1 == p || fld r 2 1 == 0xFD)

/-- INVALID (R522), but for the tokens of the prompt. -/
def openBad (s : Chip) (p idx : Nat) (b : Bytes) : Bool :=
  let m := fld b 6 1
  let r := mdl s m
  let v := mVocab r
  fld b 0 2 != idx || fld b 2 1 != 1 || decide (2 ≤ fld b 3 1) || !isZero (b.drop 50) || !ownHandle s p (fld b 4 2)
  || decide (64 ≤ m) || !bit (fld r 0 1) 0 || !bit (fld r 8 8) p
  || decide (8 ≤ fld b 7 1) || !bit (fld (servRec s p) 5 1) (fld b 7 1)
  || (if bit (fld b 3 1) 0 then fld b 10 2 == 0 || decide (min 1024 v < fld b 10 2) else fld b 10 2 != 0)
  || fld b 12 4 == 0 || fld b 32 4 == 0 || fld b 24 8 % 64 != 0
  || decide (fld r 32 4 < fld b 12 4 + fld b 32 4 - 1) || decide (slotSize s p < mSlot r)
  || (fld b 8 2 != 0xFFFF && !additionFor s (fld b 8 2) p m)
  || (splitMode s m != 0 && fld (splitRec s m) 1 1 != ownOrd s)

/-- A paused request of the platform is near, and a far slot is free: a demotion is possible (R532). -/
def canDemote (s : Chip) (p : Nat) : Bool :=
  (platReqs s p).any (fun r => r.2.reason != 0 && r.2.phase == 1 && !r.2.far) && (freeSlotOf s p true).isSome

/-- Take the entry at the consumer index. -/
def takeSub (s : Chip) (p : Nat) : Chip :=
  let x := tget (0, 0) s.serv.subs p
  { s with serv := { s.serv with subs := tput s.serv.subs p (x.1, idxNext x.2) } }

/-- OPEN: the next entry of a platform's ring, once a completion slot is free for it. The near slot it gets is zeroed. -/
def openReq (s : Chip) (p : Nat) : Chip :=
  let x := tget (0, 0) s.serv.subs p
  if 64 ≤ p ∨ x.1 = x.2 ∨ !platOn s p ∨ cqRoom s p = 0 ∨ s.en.admissionStopped then s
  else
    let r := servRec s p
    let e := xferRead s (.plat p) (fld r 8 8 + 64 * (x.2 % 2 ^ fld r 4 1)) 64 0 0 uDispatch Bound.free
    let b := slice e.bytes 0 64
    let q := reqBlank p b
    if e.st ≠ 0 ∨ openBad s p x.2 b then servComplete (takeSub e.s p) q 0 1 0
    else if (reqOf s (fld b 4 2)).isSome then servComplete (takeSub e.s p) q 0 2 0
    else match freeSlotOf s p false with
      | none =>
        if canDemote s p then s
        else servComplete (raiseP (takeSub e.s p) evSlotExhausted p (fld b 4 2)) q 0 3 0
      | some i =>
        let s := zeroRange (takeSub e.s p) (slotAddr s p false i) (slotSize s p)
        let q := { q with slot := i, reserved := true, readyAt := nowNs s, deadline := deadlineOf s q 0, pausedAt := nowNs s }
        pauseRule (serveAll (setReq s (fld b 4 2) q) 3 q i [])

/-- OPEN. -/
def execOpenReq (plat : Nat) (s : State) : Host.Outcome State Fault Refusal := run s (fun c => openReq c plat)

/-! ## Jobs of a layer (R518) -/

/-- First position of a pass. -/
def firstPos (s : Chip) (r : ServReq) : Nat :=
  if r.step = 0 then r.pass * mChunk (mdl s (qModel r)) else qPrompt r + r.step - 1

/-- Tokens of a pass. -/
def passTokens (s : Chip) (r : ServReq) : List Nat :=
  if r.step = 0 then (r.tokens.drop (firstPos s r)).take (mChunk (mdl s (qModel r))) else r.tokens

/-- A job from its template: PLATFORM, SIGNAL, COOKIE, ARRAY and RELOC. A relay template takes the adjustments of its source
and destination (23 R580). -/
def buildJob (s : Chip) (r : ServReq) (base cookie : Nat) (t : Bytes) : Bytes :=
  let m := mdl s (qModel r)
  let rel := fld t 14 2
  let rows := (passTokens s r).length
  let ctx := firstPos s r + rows
  let align := max 1 (fld m 1 1)
  let addTo := fun (b : Bytes) (off v : Nat) => setFld b off 8 ((fld b off 8 + v) % 2 ^ 64)
  let kv := firstPos s r * fld m 36 4
  if 0x60 ≤ rOp t ∧ rOp t ≤ 0x64 then
    let b := if bit rel 0 then addTo t 16 base else t
    let b := if bit rel 2 then addTo b 24 base else b
    let b := if bit rel 3 then addTo b 24 kv else b
    setFld (setFld (setFld b 2 1 0xFF) 8 2 0xFFFF) 12 4 cookie
  else
    let b := if bit rel 0 then addTo t 24 base else t
    let b := if bit rel 1 then addTo b 32 base else b
    let b := if bit rel 2 then addTo b 40 base else b
    let b := if bit rel 3 then addTo b 40 kv else b
    let b := if bit rel 6 then setFld (addTo b 24 ((rows - 1) * fld t 48 4)) 10 2 1
      else if bit rel 4 then setFld b 10 2 rows else b
    let b := if bit rel 5 then setFld b 16 4 (cdiv ctx align * align) else b
    let b := setFld (setFld b 2 1 0xFF) 5 1 (if jOp t = 1 then 0xFF else 0)
    setFld (setFld (setFld b 8 2 0xFFFF) 20 4 cookie) 14 2 0

/-- The dispatch queue of a layer's die (Table 21-1 DQ). -/
def layerDq (s : Chip) (r : ServReq) : Option Nat :=
  let m := mdl s (qModel r)
  let die := lDie (layerEntry s (mPlan m) r.layer)
  let j := fld m (60 + die) 1
  if die < 4 ∧ j < 32 then some (64 + 32 * die + j) else none

/-- BARRIER between the base and the addition of a layer (22 R549). -/
def barrierEntry : Bytes := leBytes 1 0xF1 ++ zeros 1 ++ leBytes 1 0xFF ++ zeros 61

/-- The templates of a layer: base, then with an addition a BARRIER and its templates. -/
def layerTemplates (s : Chip) (r : ServReq) : List Bytes :=
  let e := layerEntry s (mPlan (mdl s (qModel r))) r.layer
  let base := (List.range (lCount e)).map (fun i => peek s (lJobs e + 64 * i) 64)
  if qAddition r = 0xFFFF then base
  else
    let a := layerEntry s (fld (addRec s (qAddition r)) 24 8) r.layer
    base ++ (if lCount a = 0 then [] else barrierEntry :: (List.range (lCount a)).map (fun i => peek s (lJobs a + 64 * i) 64))

/-- A relay template. -/
def isRelayOp (b : Bytes) : Bool := decide (0x60 ≤ rOp b) && decide (rOp b ≤ 0x64)

/-- Reserved RELOC bits of a template. -/
def relocBad (t : Bytes) : Bool := !isControl t && fld t 14 2 / 128 != 0

/-- A built job fails its check (R470, 23 R574). -/
def builtBad (s : Chip) (d : Nat) (b : Bytes) : Bool :=
  if isControl b then false
  else if isRelayOp b then relayInvalid s 4 b
  else arrayJobBad s d b

/-- Push the jobs of a layer that may go now: array jobs while the queue has room; a relay template alone, when every job
before it has completed. A job that fails its check ends the step with INVALID_PLAN. -/
def pushJobs (s : Chip) (h d : Nat) : Nat → Chip
  | 0 => s
  | n + 1 =>
    match reqOf s h with
    | none => s
    | some r =>
      match r.todo with
      | [] => s
      | t :: rest =>
        if r.status ≠ 0 then s
        else
          let k := s.serv.nextJob % 2 ^ 32
          let b := if isControl t then t else buildJob s r (slotAddr s r.plat false r.slot) k t
          if relocBad t || builtBad s d b then setReq s h { r with status := 5, todo := [] }
          else
            let s' := { s with serv := { s.serv with nextJob := s.serv.nextJob + 1 } }
            if isRelayOp b then
              if r.jobs ≠ [] ∨ tagTaken s then s
              else relayStart (setReq s' h { r with todo := rest, jobs := [k] }) 0xFF k b 0
            else if 64 ≤ dqOutstanding s d ∨ (r.jobs.any (fun j => s.cons.ops.any (fun o => o.queue == 0xFF && o.id == j))) then s
            else
              let jobs := if isControl b then r.jobs else r.jobs ++ [k]
              pushJobs (pushEntries (setReq s' h { r with todo := rest, jobs := jobs }) d [⟨b, servAdm, false, none⟩]) h d n

/-- Push what may go of a request's layer. -/
def pushLayer (s : Chip) (h : Nat) : Chip :=
  match reqOf s h with
  | none => s
  | some r =>
    match layerDq s r with
    | some d => pushJobs s h d 64
    | none => setReq s h { r with status := 5, todo := [] }

/-- Start a layer. -/
def layerStart (s : Chip) (h : Nat) : Chip :=
  match reqOf s h with
  | none => s
  | some r => pushLayer (setReq s h { r with todo := layerTemplates s r, jobs := [], since := nowNs s, overrun := false }) h

/-- Copy embedding rows into the activation area. -/
def embedRows (s : Chip) (m : Bytes) (dst : Nat) : List Nat → Xfer
  | [] => ⟨0, [], 0, s⟩
  | t :: r =>
    let n := mEmbedRow m
    let x := xferRead s .opn (fld m 24 8 + t * n) n 0 0 uDispatch Bound.free
    if x.st ≠ 0 then x
    else
      let y := xferWrite x.s .opn dst x.bytes 0 0 uDispatch Bound.free
      if y.st ≠ 0 then y else embedRows y.s m (dst + n) r

/-- Start a pass: members of a split model are told, the embedding rows go into the activation area, the first layer
starts. -/
def passStart (s : Chip) (h : Nat) : Chip :=
  match reqOf s h with
  | none => s
  | some r =>
    let m := mdl s (qModel r)
    let toks := passTokens s r
    let s := serveAll (setReq s h { r with away := if r.lead.isSome then [] else splitMembers s (qModel r) }) 1 r r.slot toks
    let x := embedRows s m (slotAddr s r.plat false r.slot + mKv m) toks
    if x.st = 0 then layerStart x.s h
    else match reqOf x.s h with
      | none => x.s
      | some r => setReq x.s h { r with status := if x.st = 2 then 7 else 6 }

/-! ## A step takes a place (R526, R527) -/

/-- End a step with a status: its completion is SERVING_STEP_COMPLETE's. -/
def stepFail (s : Chip) (h : Nat) (r : ServReq) (st : Nat) : Chip := setReq s h { r with phase := 4, status := st }

/-- Energy units of a step (R526, 22 R549). -/
def stepUnits (s : Chip) (r : ServReq) : Nat :=
  let u := fld (mdl s (qModel r)) 48 4 + (if qAddition r = 0xFFFF then 0 else fld (addRec s (qAddition r)) 4 4)
  (if r.step = 0 then qPrompt r else 1) * u

/-- The die that the step's admission is made on: the hub, where the platform's balance is (R526). -/
def stepAdmit (s : Chip) (r : ServReq) : AdmRes := admitJob s r.plat (fld (mdl s (qModel r)) 52 2) (stepUnits s r) 0

/-- A step that is not admitted goes to the siding (R526). -/
def energyPause (s : Chip) (h : Nat) (r : ServReq) : Chip :=
  let fresh := r.reason != 2
  let s := setReq s h { r with
    blocked := true, reason := 2, pauses := if fresh then r.pauses + 1 else r.pauses
    pausedAt := if r.reason = 0 then nowNs s else r.pausedAt }
  if fresh then odAdd64 (odAdd64 s 0x53021 8 1) (0x53080 + r.plat) 4 1 else s

/-- The step runs: from its first layer, or from the one behind its pause (R531). -/
def stepRun (s : Chip) (h : Nat) (r : ServReq) (adm : Nat) : Chip :=
  let s := if r.reason = 1 then odAdd64 s 0x53021 3 1 else s
  let fresh := r.layer == 0
  let s := setReq s h { r with
    phase := 2, adm := adm, reason := 0, asked := false, marked := false, waited := r.waited + (nowNs s - r.readyAt)
    status := 0, reserved := true }
  if fresh then passStart s h
  else
    let s := serveAll (setReq s h { (reqOf s h).getD r with away := splitMembers s (qModel r) }) 1 r r.slot (passTokens s r)
    layerStart s h

/-- The prompt of step 0 (R522): tokens, or the status that ends the request. -/
def readPrompt (s : Chip) (r : ServReq) : Nat × List Nat × Chip :=
  if r.step ≠ 0 ∨ r.tokens ≠ [] then (0, r.tokens, s)
  else
    let x := xferRead s (.plat r.plat) (fld r.b 16 8) (4 * qPrompt r) 0 0 uDispatch Bound.free
    let l := (List.range (qPrompt r)).map (fun i => fld x.bytes (4 * i) 4)
    if x.st ≠ 0 then (if x.st = 1 then 6 else 7, [], x.s)
    else if l.any (fun t => decide (mVocab (mdl s (qModel r)) ≤ t)) then (1, [], x.s)
    else (0, l, x.s)

/-- A step of a model takes a free place. In E2 steps wait (R535), as do those of a platform that is not ENABLED, those whose
slot is far, and split steps of a package that leaves (23 R582). -/
def stepStart (s : Chip) (m : Nat) : Chip :=
  if 64 ≤ m ∨ !placeFree s m ∨ 1 < power s ∨ s.en.admissionStopped ∨ (s.cons.leaving.isSome && splitMode s m != 0) then s
  else match urgent s m with
    | none => s
    | some (h, r) =>
      if r.far ∨ !platOn s r.plat ∨ (!r.reserved && cqRoom s r.plat == 0) then s
      else
        let p := readPrompt s r
        let r := { r with tokens := p.2.1, reserved := true }
        if p.1 ≠ 0 then stepFail p.2.2 h r p.1
        else if r.adm ≠ 0 then stepRun p.2.2 h r r.adm
        else match stepAdmit p.2.2 r with
          | .tooLarge => stepFail p.2.2 h r 9
          | .waits s => energyPause s h r
          | .admitted id s => stepRun s h r id

/-- SERVING_STEP_START. -/
def execServingStepStart (m : Nat) (s : State) : Host.Outcome State Fault Refusal := run s (fun c => stepStart c m)

/-! ## Layer boundaries (R528, R529) -/

/-- The status of Table 21-9 for a job's status. -/
def jobToServ (relay : Bool) (st : Nat) : Nat :=
  if st = 0 then 0
  else if relay then (match st with | 1 => 5 | 2 => 6 | 3 => 7 | 6 => 9 | 7 => 10 | 8 => 11 | 9 => 12 | _ => 8)
  else match st with | 1 => 5 | 2 => 6 | 3 => 7 | 6 => 9 | 7 => 10 | 8 => 11 | 9 => 12 | 10 => 13 | _ => 8

/-- A completion of a dispatch queue that belongs to serving: slot, number, status. -/
def servSlots (s : Chip) (d : Nat) (mine : List Nat) : List (Nat × Nat × Nat) :=
  ((dqOf s d).ready.map (fun k =>
    let c := memRead (coreOf s (dqCore s d)).sram (dqArea s d + 64 * k) 64
    (k, fld c 8 4, fld c 3 1))).filter (fun x => mine.contains x.2.1)

/-- The engine takes its completions off a queue: those of a request, and those of requests that have gone. -/
def collectJobs (s : Chip) (h d : Nat) : Chip :=
  match reqOf s h with
  | none => s
  | some r =>
    let got := servSlots s d (r.jobs ++ s.serv.orphans)
    let slots := got.map (·.1)
    let q := dqOf s d
    let s := setDq s d { q with ready := q.ready.filter (fun k => !slots.contains k) }
    let relays := s.cons.ended.filter (fun e => r.jobs.contains e.1)
    let own := got.filter (fun x => r.jobs.contains x.2.1)
    let bad := (own.map (fun x => jobToServ false x.2.2) ++ relays.map (fun x => jobToServ true x.2)).filter (· != 0)
    let gone : List Nat := own.map (fun x => x.2.1) ++ relays.map (·.1)
    let st : Nat := if r.status ≠ 0 then r.status else bad.headD 0
    let r : ServReq := { r with jobs := r.jobs.filter (fun j => !gone.contains j), status := st }
    let s := { s with cons := { s.cons with ended := s.cons.ended.filter (fun e => !relays.contains e) } }
    let s := { s with serv := { s.serv with orphans := s.serv.orphans.filter (fun j => !(got.map (fun x => x.2.1)).contains j) } }
    setReq s h (if r.status ≠ 0 then { r with todo := [] } else r)

/-- A marked step reaches its pause point: into the siding, its place free (R529, R530). -/
def pausePoint (s : Chip) (h : Nat) (r : ServReq) : Chip :=
  let s := setReq s h { r with
    phase := 1, marked := false, reason := 1, pauses := r.pauses + 1, readyAt := nowNs s, pausedAt := nowNs s }
  odAdd64 (odAdd64 s 0x53021 2 1) (0x53080 + r.plat) 2 1

/-- A member's share has stopped, or has run its pass: it tells the lead (23 R581). -/
def shareStops (s : Chip) (h : Nat) (r : ServReq) (lead : Nat) : Chip :=
  let s := setReq s h { r with phase := 0, marked := false }
  sendMsg s (message 6 (ownOrd s) lead 0xFF 0 0 0 (serveMsg 6 r r.slot []))

/-- The layer of a running step has completed. -/
def layerDone (s : Chip) (h : Nat) (r : ServReq) : Chip :=
  let n := mLayers (mdl s (qModel r))
  let lastLayer := decide (n ≤ r.layer + 1)
  let lastPass := decide (passesOf s r ≤ r.pass + 1)
  let next := { r with layer := if lastLayer then 0 else r.layer + 1, pass := if lastLayer then r.pass + 1 else r.pass }
  match r.lead with
  | some o =>
    if r.status ≠ 0 then setReq s h { r with phase := 4 }
    else if lastLayer then shareStops s h { next with pass := r.pass } o
    else if r.marked then shareStops s h next o
    else layerStart (setReq s h next) h
  | none =>
    if r.status ≠ 0 then setReq s h { r with phase := 4 }
    else if r.closing then closeNow s h r
    else if lastLayer && lastPass then setReq s h { r with phase := 3, marked := false }
    else if r.marked then (if r.away = [] then pausePoint s h next else s)
    else if lastLayer then passStart (setReq s h next) h
    else layerStart (setReq s h next) h

/-- LAYER_BOUNDARY: completions of the request's jobs are taken, jobs that waited for room go, and once the layer is
complete the step ends, pauses or goes on; then the pause rule is evaluated. -/
def layerBoundary (s : Chip) (h : Nat) : Chip :=
  match reqOf s h with
  | none => s
  | some r =>
    if r.phase ≠ 2 then s
    else
      let s := match layerDq s r with | some d => collectJobs s h d | none => s
      let s := pushLayer s h
      match reqOf s h with
      | none => s
      | some r => if r.jobs = [] ∧ r.todo = [] then leaveCheck (pauseRule (layerDone s h r)) else s

/-- LAYER_BOUNDARY. -/
def execLayerBoundary (h : Nat) (s : State) : Host.Outcome State Fault Refusal := run s (fun c => layerBoundary c h)

/-- LAYER_OVERRUN: a layer runs longer than LAYER_STEPS × the step of its die (R529). -/
def layerOverrun (s : Chip) (h : Nat) : Chip :=
  match reqOf s h with
  | none => s
  | some r =>
    if r.phase ≠ 2 ∨ r.overrun ∨ nowNs s ≤ r.since + layerNs s r r.layer then s
    else
      let s := setReq s h { r with overrun := true }
      raiseP (odAdd64 s 0x53021 7 1) evLayerOverrun r.plat (qModel r + 256 * r.layer)

/-- LAYER_OVERRUN. -/
def execLayerOverrun (h : Nat) (s : State) : Host.Outcome State Fault Refusal := run s (fun c => layerOverrun c h)

/-! ## Output (R533, R534) -/

/-- The logits buffer of a step (Table 21-7). -/
def logitsOut (r : ServReq) (vocab : Nat) (row : Bytes) : Bytes :=
  let v := rowVals 0 row vocab
  let lse := (vecRow 0x34 v [] [] fvZero).map (convFloat 0 false)
  let k := fld r.b 10 2
  let head := leBytes 4 r.step ++ leBytes 4 (if qTop r then k else vocab) ++ packPlane 0 (lse.map (·.raw)) ++ zeros 4
  if qTop r then
    let t := topK k v.zipIdx
    head ++ packPlane 0 (t.map (fun x => (convFloat 0 false x.1).raw)) ++ (t.map (fun x => leBytes 4 x.2)).flatten
  else head ++ packPlane 2 ((convRow 2 false v).1.map (·.raw))

/-- The end of a step: counters, completion, SIGNAL; the request closes with its last step or a failure (R524). -/
def stepEnd (s : Chip) (h : Nat) (r : ServReq) (st energy : Nat) : Chip :=
  let late := r.deadline != 0 && decide (r.deadline < nowNs s)
  let final := st != 0 || decide (qMax r ≤ r.step + 1)
  let flags := 2 * b2n late + 4 * b2n (final && !(st == 1)) + 8 * b2n (decide (0 < r.pauses))
  let s := if st = 1 then s else odAdd64 (odAdd64 s 0x53021 1 1) (0x53080 + r.plat) 1 1
  let s := if late then odAdd64 (odAdd64 s 0x53021 6 1) (0x53080 + r.plat) 3 1 else s
  let s := if final then serveAll (dropReq s h) 7 r r.slot []
    else dropAdm (setReq s h { r with phase := 0, adm := 0, reserved := false }) r.adm
  let s := servComplete s r flags st energy
  if r.closing ∧ !final then
    (match reqOf s h with | some q => closeNow s h q | none => s)
  else s

/-- SERVING_STEP_COMPLETE: the output jobs of a step have run, or a step has ended with a failure; `energy` as measured. -/
def stepComplete (s : Chip) (h energy : Nat) : Chip :=
  match reqOf s h with
  | none => s
  | some r =>
    if r.phase = 5 then (if 0 < cqRoom s r.plat then closeNow s h r else s)
    else if r.phase = 4 then (if r.lead.isSome then dropReq s h else pauseRule (stepEnd s h r r.status energy))
    else if r.phase ≠ 3 then s
    else
      let m := mdl s (qModel r)
      let a := slotAddr s r.plat false r.slot + mKv m + mAct m
      let x := xferRead s .opn a (4 * mVocab m) 0 0 uDispatch Bound.free
      let done :=
        if x.st ≠ 0 then stepEnd x.s h r (if x.st = 2 then 7 else 6) energy
        else
          let w := xferWrite x.s (.plat r.plat) (fld r.b 24 8) (logitsOut r (mVocab m) x.bytes) 0 0 uDispatch Bound.free
          stepEnd w.s h r (if w.st = 0 then 0 else if w.st = 1 then 6 else 7) energy
      leaveCheck (pauseRule done)

/-- SERVING_STEP_COMPLETE. -/
def execServingStepComplete (h energy : Nat) (s : State) : Host.Outcome State Fault Refusal :=
  run s (fun c => stepComplete c h energy)

/-! ## Demotion and promotion (R532) -/

/-- Copy a slot, with its poison. -/
def copySlot (s : Chip) (a b n : Nat) : Chip :=
  let t := putBytes (clearPoison (dropRange s b n) b n) b (memRead s.mem.dev a n)
  (s.mem.poison.filter (fun u => decide (a ≤ 32 * u.1) && decide (32 * u.1 < a + n))).foldl (fun t u =>
    if u.2 then markPoison t (b + 32 * u.1 - a) 1 else t) t

/-- A near slot of the platform is needed and none is free. -/
def nearNeeded (s : Chip) (p : Nat) : Bool :=
  let x := tget (0, 0) s.serv.subs p
  (freeSlotOf s p false).isNone
    && (x.1 != x.2 || (platReqs s p).any (fun r => r.2.far && r.2.phase == 1 && r.2.lead.isNone))

/-- A request moves to another tier. -/
def moveSlot (s : Chip) (h : Nat) (r : ServReq) (far : Bool) (i : Nat) : Chip :=
  let s := copySlot s (slotAddr s r.plat r.far r.slot) (slotAddr s r.plat far i) (slotSize s r.plat)
  let s := odAdd64 s 0x53021 (if far then 4 else 5) 1
  serveAll (setReq s h { r with far := far, slot := i }) (if far then 4 else 5) r i []

/-- SLOT_DEMOTE: the paused request of the highest class, the longest paused. -/
def slotDemote (s : Chip) (p : Nat) : Chip :=
  if 64 ≤ p ∨ !nearNeeded s p then s
  else
    let l := (platReqs s p).filter (fun r => r.2.reason != 0 && r.2.phase == 1 && !r.2.far && r.2.lead.isNone)
    match leastBy (fun x => (8 - qClass x.2) * 2 ^ 70 + x.2.pausedAt) l, freeSlotOf s p true with
    | some (h, r), some i => moveSlot s h r true i
    | _, _ => s

/-- SLOT_DEMOTE. -/
def execSlotDemote (plat : Nat) (s : State) : Host.Outcome State Fault Refusal := run s (fun c => slotDemote c plat)

/-- SLOT_PROMOTE: a demoted request's slot comes back before it resumes. -/
def slotPromote (s : Chip) (h : Nat) : Chip :=
  match reqOf s h with
  | none => s
  | some r =>
    if !r.far ∨ r.phase ≠ 1 ∨ r.lead.isSome then s
    else match freeSlotOf s r.plat false with
      | none => s
      | some i => moveSlot s h r false i

/-- SLOT_PROMOTE. -/
def execSlotPromote (h : Nat) (s : State) : Host.Outcome State Fault Refusal := run s (fun c => slotPromote c h)

/-! ## A member of a split model (23 R581) -/

/-- The share of a request that a message names. -/
def shareKey (lead h : Nat) : Nat := 65536 * (lead + 1) + h

/-- A SERVE message at a member: a pass to run or to resume, a mark, a slot to zero, demote, promote, or free. -/
def serveMember (s : Chip) (lead : Nat) (d : Bytes) : Chip :=
  let p := fld d 1 1
  let h := shareKey lead (fld d 4 2)
  let slot := fld d 6 2
  let old := (reqOf s h).getD { reqBlank p (slice d 16 64) with lead := some lead, slot := slot, phase := 0 }
  match fld d 0 1 with
  | 1 =>
    let n := (d.length - 80) / 4
    let toks := (List.range n).map (fun i => fld d (80 + 4 * i) 4)
    let same := old.step == fld d 8 4 && old.pass == fld d 12 4 && old.layer != 0
    let r := { old with
      step := fld d 8 4, pass := fld d 12 4, phase := 2, status := 0, marked := false, slot := slot, far := false
      tokens := if fld d 8 4 = 0 then List.replicate (fld d 12 4 * mChunk (mdl s (fld d 3 1))) 0 ++ toks else toks }
    if same then layerStart (setReq s h r) h else passStart (setReq s h { r with layer := 0 }) h
  | 2 => if old.phase = 2 then setReq s h { old with marked := true } else s
  | 3 => zeroRange (setReq s h old) (slotAddr s p false slot) (slotSize s p)
  | 4 => if (reqOf s h).isSome then moveSlot s h old true slot else s
  | 5 => if (reqOf s h).isSome then moveSlot s h old false slot else s
  | 7 => dropReq s h
  | _ => s

/-- A member tells the lead that its share has stopped; with the last one a marked step that has stopped here too is at its
pause point. -/
def serveStopped (s : Chip) (o : Nat) (d : Bytes) : Chip :=
  match reqOf s (fld d 4 2) with
  | none => s
  | some r =>
    let r := { r with away := r.away.filter (· != o) }
    layerBoundary (setReq s (fld d 4 2) r) (fld d 4 2)

/-- MSG_SERVE. -/
def msgServe (s : Chip) : Chip :=
  withMsg s 6 (fun _ => true) (fun s m =>
    let d := m.drop 16
    if fld d 0 1 = 6 then serveStopped s (msgSrc m) d else serveMember s (msgSrc m) d)

/-- MSG_SERVE. -/
def execMsgServe (s : State) : Host.Outcome State Fault Refusal := run s msgServe

/-! ## Resets, drain, writes -/

/-- A platform reset (R535): its requests go, no completion is written. -/
def servPlatReset (s : Chip) (p : Nat) : Chip :=
  let s := (platReqs s p).foldl (fun s r => dropReq s r.1) s
  { s with serv := { s.serv with subs := tdel s.serv.subs p } }

/-- Every request goes: warm reset (R535). -/
def servReset (s : Chip) : Chip :=
  let s := s.serv.reqs.foldl (fun s r => dropReq s r.1) s
  { s with serv := { s.serv with subs := [], orphans := [] } }

/-- Steps under way end with a status: drain, emergency (R159, R154). -/
def servEndAll (s : Chip) (st : Nat) : Chip :=
  (ledReqs s).foldl (fun s r => if r.2.phase = 2 ∨ r.2.phase = 3 ∨ r.2.phase = 1 then stepEnd s r.1 r.2 st (admActual s r.2.adm) else s) s

/-- A range lies within the open ranges and one tier. -/
def slotsOk (s : Chip) (a n : Nat) (kind : Region) : Bool :=
  n == 0 || (inOpenRanges s a n && regionOf a == kind && regionOf (a + n - 1) == kind)

/-- A layer table is as Table 21-2 asks, with a queue for each layer's die. -/
def planOk (s : Chip) (r : Bytes) : Bool :=
  (List.range (mLayers r)).all (fun l =>
    let e := layerEntry s (mPlan r) l
    decide (lDie e < 4) && fld r (60 + lDie e) 1 != 0xFF)

/-- Its bounds, checked when the model is enabled (R519); 39,000 steps for a split model (23 R580). -/
def planBounds (s : Chip) (m : Nat) (r : Bytes) : Bool :=
  let top := if splitMode s m = 0 then 40000 else 39000
  (List.range (mLayers r)).all (fun l =>
    let e := layerEntry s (mPlan r) l
    decide (1 ≤ lCount e) && decide (lCount e ≤ 16) && decide (1 ≤ lSteps e) && decide (lSteps e ≤ top) && fld e 10 2 == 0
      && lJobs e % 64 == 0)

/-- A model record (R519). -/
def modelBad (s : Chip) (m : Nat) (r : Bytes) : Bool :=
  let f := fun (off n : Nat) => fld r off n
  !(decide (f 0 1 ≤ 1) && (f 1 1 == 1 || f 1 1 == 32) && decide (1 ≤ f 2 2) && decide (f 2 2 ≤ 512)
    && decide (2 ≤ f 4 4) && decide (f 4 4 ≤ 262144) && f 16 8 % 64 == 0 && decide (1 ≤ f 32 4) && decide (f 32 4 ≤ 1048576)
    && f 36 4 % 64 == 0 && f 40 4 % 64 == 0 && f 44 4 % 64 == 0 && decide (f 52 2 < 2048) && decide (1 ≤ f 54 2)
    && decide (f 54 2 ≤ 1024) && decide (1 ≤ f 56 1) && decide (f 56 1 ≤ 64) && f 57 3 == 0
    && inOpenRanges s (mPlan r) (16 * mLayers r) && inOpenRanges s (f 24 8) (mVocab r * mEmbedRow r)
    && decide (mChunk r * mEmbedRow r ≤ mAct r)
    && (List.range 4).all (fun d =>
        let j := f (60 + d) 1
        j == 0xFF || (decide (j < 32) && dqMode s (64 + 32 * d + j) == 1
          && (dqCore s (64 + 32 * d + j) == 16 + 2 * d || dqCore s (64 + 32 * d + j) == 17 + 2 * d)))
    && planOk s r && (f 0 1 == 0 || planBounds s m r))

/-- Handle ranges, near slots or far slots of two records overlap. -/
def servClash (a b : Bytes) : Bool :=
  let n := fun (r : Bytes) (off : Nat) => fld r off 2 * (fld r 28 4 * 65536)
  rangesMeet (fld a 0 2) (fld a 2 2) (fld b 0 2) (fld b 2 2) || rangesMeet (fld a 16 8) (n a 24) (fld b 16 8) (n b 24)
    || rangesMeet (fld a 32 8) (n a 26) (fld b 32 8) (n b 26)

/-- The completion queue feeds something else. -/
def cqNamed (s : Chip) (n : Nat) : Bool :=
  s.rdma.qps.any (fun q => qSqCq q.2 == n || qRqCq q.2 == n) || s.storage.queues.any (fun q => q.2.cq == n)
    || (List.range 192).any (fun d => dqMode s d == 2 && dqCq s d == n)

/-- A platform serving record (R521). -/
def servRecBad (s : Chip) (p : Nat) (v : Bytes) : Bool :=
  let n := fun (off : Nat) => fld v off 2 * (fld v 28 4 * 65536)
  !isZero v &&
  (decide (65536 < fld v 0 2 + fld v 2 2) || decide (fld v 4 1 < 6) || decide (12 < fld v 4 1) || fld v 8 8 % 4096 != 0
    || fld v 16 8 % 65536 != 0 || fld v 32 8 % 65536 != 0 || !isZero (slice v 40 8)
    || !slotsOk s (fld v 16 8) (n 24) .near || !slotsOk s (fld v 32 8) (n 26) .far || cqNamed s (fld v 6 2)
    || (List.range 64).any (fun q => q != p && servClash v (servRec s q)))

/-- The rules on values written to group 53. -/
def checkServing (s : Chip) (obj sub : Nat) (v : Bytes) : Nat :=
  if 0x53040 ≤ obj ∧ obj < 0x53080 then
    let p := obj - 0x53040
    if servRecBad s p v then eRange else if platState s p ≠ 0 then eBusy else eOk
  else if obj = 0x53400 then
    let m := sub - 1
    if !isZero v && modelBad s m v then eRange
    else if (ledReqs s).any (fun r => qModel r.2 == m) then eBusy else eOk
  else if obj = 0x53010 then (if fld v 12 4 = 0 then eOk else eRange)
  else eOk

end Sys2Proof.Machine
end

