-- ==== Sys2Proof/Machine/Weights.lean ====
section
/-! DEFINITION. The weight loader (22): banks, manifests, pieces, broadcast, additions. -/
namespace Sys2Proof.Machine

/-! ## The manifest (Tables 22-2, 22-3) -/

/-- MODE 1: broadcast. -/
def lBroadcast (h : Bytes) : Bool := fld h 6 1 == 1
/-- BANK -/
def lBank (h : Bytes) : Nat := fld h 7 1
/-- LOAD_ID -/
def lId (h : Bytes) : Nat := fld h 12 4
/-- KET -/
def lKet (h : Bytes) : Nat := fld h 24 2
/-- READER -/
def lReader (h : Bytes) : Nat := fld h 28 1
/-- SOURCE of an entry. -/
def eSource (e : Bytes) : Nat := fld e 0 1
/-- ORDINALS -/
def eOrds (e : Bytes) : Nat := fld e 2 2
/-- NS_QP -/
def eNsQp (e : Bytes) : Nat := fld e 4 4
/-- SRC -/
def eSrc (e : Bytes) : Nat := fld e 8 8
/-- DST -/
def eDst (e : Bytes) : Nat := fld e 24 8
/-- LENGTH -/
def eLen (e : Bytes) : Nat := fld e 32 8

/-- This package reads the sources: shard mode, or the reader of a broadcast. -/
def readsHere (s : Chip) (h : Bytes) : Bool := !lBroadcast h || lReader h == ownOrd s

/-- A fault in the header (R540). -/
def headerBad (h : Bytes) (entries : List Bytes) : Bool :=
  fld h 0 4 != 0x4E414D4E || fld h 4 2 != 1 || decide (1 < fld h 6 1) || decide (15 < lBank h) || fld h 8 4 == 0
  || decide (65536 < fld h 8 4) || lId h == 0 || decide (2048 ≤ lKet h) || !isZero (h.drop 29)
  || (if lBroadcast h then decide (15 < lReader h) else lReader h != 0)
  || fld h 16 8 != (entries.map eLen).sum
  || (lBroadcast h && entries.all (fun e => !bit (eOrds e) (lReader h)))

/-- A fault in an entry's source (R540). -/
def sourceBad (s : Chip) (bank : Bytes) (e : Bytes) : Bool :=
  match eSource e with
  | 1 =>
    let r := nsRec s (eNsQp e % 1024)
    decide (1024 ≤ eNsQp e) || fld e 16 4 != 0 || nsState s (eNsQp e) != 2 || nsOwner r != 0xFD || eLen e % nsBlock r != 0
  | 3 =>
    let q := qpOf s (eNsQp e)
    decide (2 ^ 18 ≤ eNsQp e) || q.state != 3 || q.plat != 0xFD || q.sqProd != q.sqCons || !q.sent.isEmpty
  | k =>
    let tier : Region := if k = 2 then .far else .near
    eNsQp e != 0 || fld e 16 4 != 0 || (k != 2 && k != 4)
    || !slotsOk s (eSrc e) (eLen e) tier
    || (k == 4 && rangesMeet (eSrc e) (eLen e) (bankBase bank) (bankLen bank))

/-- A fault in entry `i` (R540). -/
def weightEntryBad (s : Chip) (h : Bytes) (entries : List Bytes) (i : Nat) (e : Bytes) : Bool :=
  let bank := bankRec s (lBank h)
  decide (4 ≤ fld e 1 1) || fld e 20 4 != 0 || !isZero (e.drop 40) || eDst e % 4096 != 0 || decide (eLen e < 4096)
  || decide (2 ^ 36 < eLen e) || eLen e % 4096 != 0
  || decide (eDst e < bankBase bank) || decide (bankBase bank + bankLen bank < eDst e + eLen e)
  || (entries.take i).any (fun f => rangesMeet (eDst f) (eLen f) (eDst e) (eLen e))
  || (readsHere s h && sourceBad s bank e)

/-- The first entry with a fault, from `i` on. -/
def firstBad (s : Chip) (h : Bytes) (all : List Bytes) : Nat → List Bytes → Option Nat
  | _, [] => none
  | i, e :: r => if weightEntryBad s h all i e then some i else firstBad s h all (i + 1) r

/-- A power transition, a drain or a warm reset runs or is deferred. -/
def poweringDown (s : Chip) : Bool :=
  s.en.trans.isSome || s.en.drainAt.isSome || s.boot.warmSince.isSome || s.boot.warmDeferred

/-- A resident addition. -/
def residentAt (s : Chip) (a : Nat) : Bool := bit (fld (addRec s a) 0 1) 0

/-- The numbers of the resident additions. -/
def residents (s : Chip) : List Nat :=
  ((odListed s 0x54400 0x544FF).map (fun x => 16 * (x.1 - 0x54400) + (x.2 - 1))).filter (residentAt s)

/-- A model named in MODELS is enabled. -/
def modelsOn (s : Chip) (mask : Nat) : Bool := (List.range 64).any (fun m => bit mask m && bit (fld (mdl s m) 0 1) 0)

/-- The load is refused with busy (R540). -/
def loadBusy (s : Chip) (h : Bytes) (entries : List Bytes) : Bool :=
  let bank := bankRec s (lBank h)
  s.weights.load.isSome || poweringDown s
  || (!bankPool bank && modelsOn s (fld bank 16 8))
  || (bankPool bank && entries.any (fun e => (residents s).any (fun a =>
      fld (addRec s a) 3 1 == lBank h && rangesMeet (eDst e) (eLen e) (fld (addRec s a) 8 8) (fld (addRec s a) 16 8))))

/-! ## Pieces (R541) -/

/-- Piece size by source: 1 MiB from the network, else 16 MiB. -/
def pieceSize (e : Bytes) : Nat := if eSource e = 3 then 1048576 else 16777216

/-- Pieces of entry `i`. -/
def entryPieces (i : Nat) (e : Bytes) : List (Nat × Nat × Nat) :=
  let k := pieceSize e
  (List.range (cdiv (eLen e) k)).map (fun j => (i, j * k, min k (eLen e - j * k)))

/-- The entries this package reads: its own, or at the reader of a broadcast all that name anyone. -/
def readsEntry (s : Chip) (h e : Bytes) : Bool :=
  readsHere s h && (if lBroadcast h then eOrds e != 0 else bit (eOrds e) (ownOrd s))

/-- Bytes that come to a receiver of a broadcast from the reader. -/
def relayedBytes (s : Chip) (h : Bytes) (entries : List Bytes) : Nat :=
  if readsHere s h then 0 else ((entries.filter (fun e => bit (eOrds e) (ownOrd s))).map eLen).sum

/-- Ordinals other than the reader that a broadcast names. -/
def receivers (s : Chip) (l : Load) : List Nat :=
  if lBroadcast l.hdr && lReader l.hdr == ownOrd s then
    (List.range 16).filter (fun o => o != ownOrd s && l.entries.any (fun e => bit (eOrds e) o))
  else []

/-- What a piece's start sends out: a read command to a back end, or a READ of a queue pair, whose PSNs it takes. -/
def pieceOut (s : Chip) (p : Piece) : Chip :=
  match eSource p.entry with
  | 1 =>
    let r := nsRec s (eNsQp p.entry)
    let s := if nsXts r then keyIssue s (fld r 24 2) true else s
    emit s (.nvme (nsBack r) 0x02 (slice r 4 4 ++ leBytes 8 (fld r 8 8 + eSrc p.entry + p.off / nsBlock r)
      ++ leBytes 4 (p.len / nsBlock r)))
  | 3 =>
    let q := qpOf s (eNsQp p.entry)
    let n := cdiv p.len (qMtu q)
    emit (setQp s (eNsQp p.entry) { q with nextPsn := (q.nextPsn + n) % 2 ^ 24, una := (q.una + n) % 2 ^ 24 })
      (.packet (eNsQp p.entry) 0x0C q.nextPsn
        (leBytes 8 (eSrc p.entry + p.off) ++ slice p.entry 16 4 ++ leBytes 4 p.len))
  | _ => s

/-- LOAD_RESULT: status, engine status, entry. -/
def loadResult (s : Chip) (st eng idx id : Nat) : Chip :=
  odSet s 0x54003 0 (st + 256 * (eng % 256) + 65536 * (idx % 65536) + 2 ^ 32 * id)

/-- End of a load that fails or is aborted (R543): pieces in flight complete on their own. -/
def loadFail (s : Chip) (l : Load) (state st eng idx : Nat) : Chip :=
  let s := { s with weights := { s.weights with load := none } }
  let s := setBankState (odSet (loadResult s st eng idx (lId l.hdr)) 0x54001 0 state) (lBank l.hdr) 3
  let s := raise (odAdd64 s 0x54020 2 1) evWeightLoadFailed (odN s 0x54003 0)
  addSignal s .opn (fld l.hdr 26 2)

/-- Issue pieces, in order, while fewer than OD 54.012 are in flight and the device balance covers them. -/
def issuePieces (s : Chip) : Nat → Chip
  | 0 => s
  | n + 1 =>
    match s.weights.load with
    | none => s
    | some l =>
      match l.todo with
      | [] => s
      | (i, off, len) :: rest =>
        let units := cdiv len 1024
        if odN s 0x54012 0 ≤ s.weights.flying.length then s
        else if capEffective s < estimate s (lKet l.hdr) units then loadFail s l 3 8 0 i
        else match admitJob s 64 (lKet l.hdr) units 0 with
          | .admitted adm s =>
            let p : Piece := ⟨s.weights.next, l.id, l.entries.getD i [], i, off, len, adm⟩
            let s := { s with weights := { s.weights with
              load := some { l with todo := rest }, flying := s.weights.flying ++ [p], next := s.weights.next + 1 } }
            issuePieces (pieceOut s p) n
          | _ => s

/-- As many as can be. -/
def pumpLoad (s : Chip) : Chip := issuePieces s 256

/-- Pieces complete at the reader go to receivers that have accepted the load, in order (R545). -/
def relayPieces (s : Chip) : Chip :=
  match s.weights.load with
  | none => s
  | some l =>
    let go := l.toRelay.filter (fun x => l.accepted.contains x.1)
    let s := { s with weights := { s.weights with
      load := some { l with toRelay := l.toRelay.filter (fun x => !l.accepted.contains x.1) } } }
    go.foldl (fun s x => emit (odAdd64 s 0x54020 4 1) (.piece x.1 (lId l.hdr) x.2.1 x.2.2)) s

/-- Receivers that have accepted the load. -/
def noteAccepted (s : Chip) (acc : List Nat) : Chip :=
  match s.weights.load with
  | none => s
  | some l => relayPieces { s with weights := { s.weights with load := some { l with accepted := l.accepted ++ acc } } }

/-! ## The actions -/

/-- OD 54.010, WEIGHT_LOAD. -/
def actWeightLoad : Act := fun s _ arg =>
  let a := leNat arg
  let h := peek s a 64
  let bad := fun (i id : Nat) => (eRange, ([] : Bytes), loadResult s 1 0 i id)
  if !inOpenRanges s a 64 || poisoned s a 64 then bad 0xFFFF 0
  else
    let n := min (fld h 8 4) 65537
    let entries := (List.range n).map (fun i => peek s (a + 64 + 64 * i) 64)
    if !inOpenRanges s a (64 + 64 * n) || headerBad h entries then bad 0xFFFF (lId h)
    else match firstBad s h entries 0 entries with
      | some i => bad i (lId h)
      | none =>
        if loadBusy s h entries then refuse s eBusy
        else
          let todo := (entries.zip (List.range n)).flatMap (fun x => if readsEntry s h x.1 then entryPieces x.2 x.1 else [])
          let l : Load := ⟨s.weights.next, h, entries, todo, [], [], relayedBytes s h entries, nowNs s⟩
          let s := { s with weights := { s.weights with load := some l, next := s.weights.next + 1 } }
          let s := loadResult (odSet (odSet (setBankState s (lBank h) 1) 0x54001 0 1) 0x54002 0 0) 0 0 0 (lId h)
          acted (pumpLoad s)

/-- WEIGHT_LOAD. -/
def execWeightLoad (rq : Rq) (arg : Bytes) (s : State) : Host.Outcome State Fault Refusal :=
  run s (actionRow actWeightLoad 0x54010 rq arg)

/-- OD 54.011, WEIGHT_ABORT: without a running load there is nothing to end. -/
def actWeightAbort : Act := fun s _ _ =>
  match s.weights.load with
  | none => refuse s eNotReady
  | some l => acted (loadFail s l 4 7 0 0)

/-- WEIGHT_ABORT. -/
def execWeightAbort (rq : Rq) (s : State) : Host.Outcome State Fault Refusal :=
  run s (actionRow actWeightAbort 0x54011 rq [])

/-- A running load ends with ABORTED: drain, warm reset, E3 (R553). -/
def loadAbort (s : Chip) : Chip :=
  match s.weights.load with
  | none => s
  | some l => loadFail s l 4 7 0 0

/-! ## Completion of pieces (R542, R543) -/

/-- The load status of an engine's status, by source: Table 16-5, Table 15-6 or Table 23-7. -/
def pieceStatus (src st : Nat) : Nat :=
  match src with
  | 1 => if st = 4 then 3 else if st = 5 then 4 else 2
  | 3 => if st = 2 then 3 else if st = 9 then 4 else 2
  | _ => if st = 2 then 3 else if st = 3 then 4 else 2

/-- The bytes of a piece: read by the relay engine from memory, delivered by the network, or delivered by a back end and
decrypted where the namespace is encrypted (16 R426); a status of the engine if not. -/
def pieceData (s : Chip) (p : Piece) (st : Nat) (data : Bytes) : Nat × Bytes × Chip :=
  match eSource p.entry with
  | 1 =>
    let r := nsRec s (eNsQp p.entry)
    let k := if nsXts r then wbKey s r else 0
    let s' := if nsXts r then keyIssue s (fld r 24 2) false else s
    let d := slice data 0 p.len
    if st ≠ 0 then (st, [], s') else if k ≠ 0 then (k, [], s')
    else (0, if nsXts r then wbXts s r false (eSrc p.entry + p.off / nsBlock r) d else d, s')
  | 3 => if st ≠ 0 then (st, [], s) else (0, slice data 0 p.len, s)
  | _ =>
    if st ≠ 0 then (st, [], s) else
    let x := xferRead s .opn (eSrc p.entry + p.off) p.len 0 0 uRelay Bound.free
    if x.st = 0 then (0, x.bytes, x.s) else (relayXferStatus x.st, [], x.s)

/-- Placement under the entry's hint, STREAM when it is 0 (R541). -/
def placePiece (s : Chip) (e : Bytes) (a : Nat) (b : Bytes) : Xfer :=
  xferWrite s .opn a b (if fld e 1 1 = 0 then 1 else fld e 1 1) 0 uRelay Bound.free

/-- Bytes placed. -/
def countPlaced (s : Chip) (n : Nat) : Chip := odAdd64 (odAdd64 s 0x54002 0 n) 0x54020 3 n

/-- WEIGHT_PIECE_COMPLETE: a piece ends with its engine's status; the data that a back end or the network delivered;
receivers that have accepted the load by now. A piece of a load that has ended is placed or not (R543). -/
def pieceComplete (s : Chip) (id st : Nat) (data : Bytes) (acc : List Nat) : Chip :=
  match s.weights.flying.find? (fun p => p.id == id) with
  | none => s
  | some p =>
    let s := { s with weights := { s.weights with flying := s.weights.flying.filter (fun x => x.id != id) } }
    let d := pieceData (jobEnd s p.adm) p st data
    let s := d.2.2
    match s.weights.load.filter (fun l => l.id == p.load) with
    | none =>
      let f := takeFree s 1
      if d.1 = 0 ∧ f.1 = 1 then (placePiece f.2 p.entry (eDst p.entry + p.off) d.2.1).s else f.2
    | some l =>
      if d.1 ≠ 0 then loadFail s l 3 (pieceStatus (eSource p.entry) d.1) d.1 p.idx
      else
        let a := eDst p.entry + p.off
        let mine := bit (eOrds p.entry) (ownOrd s)
        let x := if mine then placePiece s p.entry a d.2.1 else ⟨0, [], 0, s⟩
        if x.st ≠ 0 then loadFail x.s l 3 3 2 p.idx
        else
          let s := if mine then countPlaced x.s p.len else x.s
          let dests := (receivers s l).filter (fun o => bit (eOrds p.entry) o)
          let s := { s with weights := { s.weights with
            load := some { l with toRelay := l.toRelay ++ dests.map (fun o => (o, a, d.2.1)) } } }
          pumpLoad (noteAccepted s acc)

/-- WEIGHT_PIECE_COMPLETE. -/
def execWeightPieceComplete (id status : Nat) (data : Bytes) (accepted : List Nat) (s : State) :
    Host.Outcome State Fault Refusal :=
  run s (fun c => pieceComplete c id status data accepted)

/-- WEIGHT_LOAD_DONE (R542): every piece placed, and at the reader of a broadcast every relayed piece accepted by its receiver
(`relayed`). -/
def loadDone (s : Chip) (acc : List Nat) (relayed : Bool) : Chip :=
  let s := noteAccepted s acc
  match s.weights.load with
  | none => s
  | some l =>
    if l.todo ≠ [] ∨ s.weights.flying.any (fun p => p.load == l.id) ∨ l.toRelay ≠ [] ∨ l.expect ≠ 0
        ∨ (!(receivers s l).isEmpty && !relayed) then pumpLoad s
    else
      let s := { s with weights := { s.weights with load := none } }
      let s := setBankState (odSet (odAdd64 s 0x54020 1 1) 0x54001 0 2) (lBank l.hdr) 2
      addSignal (raise s evWeightLoadDone (lId l.hdr + lBank l.hdr * 2 ^ 32)) .opn (fld l.hdr 26 2)

/-- WEIGHT_LOAD_DONE. -/
def execWeightLoadDone (accepted : List Nat) (relayed : Bool) (s : State) : Host.Outcome State Fault Refusal :=
  run s (fun c => loadDone c accepted relayed)

/-- RELAYED_PIECE_RX (R546): placed if it belongs to the running load and lies within an entry that names this package. -/
def relayedPiece (s : Chip) (id a : Nat) (data : Bytes) : Chip :=
  match s.weights.load with
  | none => odAdd64 s 0x54020 6 1
  | some l =>
    match l.entries.find? (fun e => bit (eOrds e) (ownOrd s) && decide (eDst e ≤ a) && decide (a + data.length ≤ eDst e + eLen e)) with
    | none => odAdd64 s 0x54020 6 1
    | some e =>
      if lId l.hdr ≠ id then odAdd64 s 0x54020 6 1
      else
        let x := placePiece s e a data
        if x.st ≠ 0 then loadFail x.s l 3 3 2 ((l.entries.findIdx? (· == e)).getD 0)
        else countPlaced (odAdd64 { x.s with weights := { x.s.weights with
          load := some { l with expect := l.expect - data.length } } } 0x54020 5 1) data.length

/-- RELAYED_PIECE_RX: the sender's ordinal, LOAD_ID, address, bytes. -/
def execRelayedPieceRx (ord loadId dst : Nat) (data : Bytes) (s : State) : Host.Outcome State Fault Refusal :=
  run s (fun c => if ord < 16 then relayedPiece c loadId dst data else c)

/-- PEER_WAIT_TIMEOUT (R545): at the reader a receiver has not accepted within OD 54.013; at a receiver the reader has had no
link for that long. -/
def peerTimeout (s : Chip) (o : Nat) (acc : List Nat) : Chip :=
  let s := noteAccepted s acc
  match s.weights.load with
  | none => s
  | some l =>
    let wait := ms (odN s 0x54013 0)
    if (receivers s l).contains o then
      (if !l.accepted.contains o ∧ l.since + wait ≤ nowNs s then loadFail s l 3 5 0 0 else s)
    else if lBroadcast l.hdr ∧ lReader l.hdr = o ∧ o ≠ ownOrd s ∧ !routeUp s o
        ∧ max l.since (tget 0 s.cons.lostAt o) + wait < nowNs s then loadFail s l 3 6 0 0
    else s

/-- PEER_WAIT_TIMEOUT. -/
def execPeerWaitTimeout (ord : Nat) (accepted : List Nat) (s : State) : Host.Outcome State Fault Refusal :=
  run s (fun c => peerTimeout c ord accepted)

/-! ## Additions (R547 to R550) -/

/-- OD 54.500. -/
def showResidents (s : Chip) : Chip := odSet s 0x54500 0 (residents s).length

/-- A template of an addition passes R518 with the model's record: as built for the first position of a request. -/
def templateOk (s : Chip) (m : Nat) (d : Nat) (t : Bytes) : Bool :=
  let r := { reqBlank 0xFF (setFld (zeros 64) 6 1 m) with tokens := [0] }
  let r := { r with b := setFld r.b 12 4 1 }
  !relocBad t && !builtBad s d (buildJob s r 0 0 t)

/-- Layer `l` of an addition's plan fits the model's layer (R547). -/
def addLayerOk (s : Chip) (m plan l : Nat) : Bool :=
  let r := mdl s m
  let e := layerEntry s (mPlan r) l
  let a := layerEntry s plan l
  let j := fld r (60 + lDie e) 1
  lDie a == lDie e && decide (lCount a ≤ 16) && fld a 10 2 == 0 && lJobs a % 64 == 0
    && (lCount a == 0 || decide (1 ≤ lSteps a)) && decide (lSteps a + lSteps e ≤ 40000)
    && (List.range (lCount a)).all (fun i => templateOk s m (64 + 32 * lDie e + j) (peek s (lJobs a + 64 * i) 64))

/-- A write that sets RESIDENT is accepted (R547). -/
def residentOk (s : Chip) (n : Nat) (v : Bytes) : Bool :=
  let m := fld v 1 1
  let base := fld v 8 8
  let len := fld v 16 8
  let bank := bankRec s (fld v 3 1)
  decide (m < 64) && mLayers (mdl s m) != 0 && decide (fld v 3 1 < 16) && bankPool bank && bankState s (fld v 3 1) == 2
    && base % 65536 == 0 && len % 65536 == 0 && decide (0 < len) && decide (bankBase bank ≤ base)
    && decide (base + len ≤ bankBase bank + bankLen bank)
    && (residents s).all (fun a => a == n || !rangesMeet base len (fld (addRec s a) 8 8) (fld (addRec s a) 16 8))
    && fld v 24 8 % 64 == 0 && decide (base ≤ fld v 24 8) && decide (fld v 24 8 + 16 * mLayers (mdl s m) ≤ base + len)
    && (List.range (mLayers (mdl s m))).all (addLayerOk s m (fld v 24 8))

/-- An open request names the addition. -/
def additionOpen (s : Chip) (n : Nat) : Bool := s.serv.reqs.any (fun r => qAddition r.2 == n)

/-- The write only clears RESIDENT. -/
def onlyClears (old v : Bytes) : Bool := v == setFld old 0 1 (fld old 0 1 / 2 * 2)

/-- A bank record (R538). -/
def bankBad (s : Chip) (b : Nat) (v : Bytes) : Bool :=
  let base := fld v 0 8
  let len := fld v 8 8
  base % granule != 0 || len % granule != 0 || decide (2 ≤ fld v 24 1) || !isZero (slice v 25 7)
  || (len != 0 && (!slotsOk s base len .near
    || (List.range 16).any (fun c => c != b && rangesMeet base len (bankBase (bankRec s c)) (bankLen (bankRec s c)))
    || s.plats.owner.any (fun o => decide (base ≤ o.1 * granule) && decide (o.1 * granule < base + len))))

/-- The rules on values written to group 54. -/
def checkWeights (s : Chip) (obj sub : Nat) (v : Bytes) : Nat :=
  if obj = 0x54040 then
    let b := sub - 1
    let old := bankRec s b
    let moved := slice v 0 16 != slice old 0 16 || slice v 24 1 != slice old 24 1
    if bankBad s b v then eRange
    else if bankState s b = 1 ∨ (moved ∧ (modelsOn s (fld old 16 8) || modelsOn s (fld v 16 8))) then eBusy
    else eOk
  else if 0x54400 ≤ obj ∧ obj ≤ 0x544FF then
    let n := 16 * (obj - 0x54400) + (sub - 1)
    let old := addRec s n
    if residentAt s n then
      (if !onlyClears old v then eBusy else if additionOpen s n then eBusy else eOk)
    else if decide (2 ≤ fld v 0 1) || decide (64 ≤ fld v 1 1) || (decide (64 ≤ fld v 2 1) && fld v 2 1 != 0xFD) then eRange
    else if bit (fld v 0 1) 0 ∧ !residentOk s n v then eRange
    else eOk
  else eOk

/-- DIE of every layer of a model. -/
def planDies (s : Chip) (r : Bytes) : List Nat := (List.range (mLayers r)).map (fun l => lDie (layerEntry s (mPlan r) l))

/-- RESIDENT of an addition cleared (R550). -/
def dropAddition (s : Chip) (a : Nat) : Chip :=
  let r := addRec s a
  let s := odSetFld s (0x54400 + a / 16) (a % 16 + 1) 0 1 (fld r 0 1 / 2 * 2)
  raiseP s evAdditionDropped (if fld r 2 1 < 64 then fld r 2 1 else 0xFF) a

/-- After a model record has been written: additions of a model whose layers change are dropped (R550). -/
def effectModel (s : Chip) (m : Nat) (old : Bytes) : Chip :=
  let r := mdl s m
  if mLayers old ≠ mLayers r ∨ planDies s old ≠ planDies s r then
    showResidents (((residents s).filter (fun a => fld (addRec s a) 1 1 == m)).foldl dropAddition s)
  else s

/-- After a bank record or an addition record has been written: a bank that moves is EMPTY (R539). -/
def effectWeights (s : Chip) (obj sub : Nat) (old : Bytes) : Chip :=
  if obj = 0x54040 then
    (if slice (odB s obj sub) 0 16 ≠ slice old 0 16 then setBankState s (sub - 1) 0 else s)
  else if 0x54400 ≤ obj ∧ obj ≤ 0x544FF then showResidents s
  else s

/-- Cold start, warm reset and E3 (R553). -/
def weightsReset (s : Chip) : Chip :=
  let s := loadAbort s
  let named := (List.range 16).foldl (fun m b => m ||| fld (bankRec s b) 16 8) 0
  let s := (List.range 16).foldl (fun s b => setBankState s b 0) s
  let s := (residents s).foldl (fun s a =>
    odSetFld s (0x54400 + a / 16) (a % 16 + 1) 0 1 (fld (addRec s a) 0 1 / 2 * 2)) s
  showResidents ((List.range 64).foldl (fun s m =>
    if bit named m && bit (fld (mdl s m) 0 1) 0 then odSetFld s 0x53400 (m + 1) 0 1 (fld (mdl s m) 0 1 / 2 * 2) else s) s)

end Sys2Proof.Machine
end

