-- ==== Sys2Proof/Machine/ForcedHalt.lean ====
section
/-! DEFINITION. Ending the work of the engines with one status (05 R154, R159), and the forced-halt sequence (07 R206). -/
namespace Sys2Proof.Machine

/-! ## Ending work -/

/-- Running jobs of dispatch queues that `p` names complete with a status of Table 18-6 (also Table 20-7); waybill jobs end
with their native queue. -/
def dqEndRunning (s : Chip) (st : Nat) (p : Nat → DqJob → Bool) : Chip :=
  s.disp.dqs.foldl (fun s q =>
    (q.2.running.filter (fun j => p q.1 j && !dqWaybill s q.1 j.b)).foldl (fun s j =>
      let e := admActual s j.adm
      let s := if dqDie q.1 = 0 then s else freeUnit s (dqDie q.1) j.unit
      let s := match decRun s q.1 j.id with
        | some r =>
          let s := freeEngine s r.engine
          { s with engines := { s.engines with decodes := s.engines.decodes.filter (fun y => !(y.dq == q.1 && y.job == j.id)) } }
        | none => s
      dqFinish s q.1 j ⟨st, 0, 0, 0⟩ j.unit 0 e) s) s

/-- Waybills under way end with a status of Table 16-5. -/
def wbEndRunning (s : Chip) (st : Nat) (p : Wb → Bool) : Chip :=
  s.storage.queues.foldl (fun s q => wbEndAll s q.1 st (q.2.wbs.filter p)) s

/-- Everything under way ends with its engine's status: 0 DRAINED (R159), 1 POWER_EMERGENCY (R154). A weight load is aborted
(22 R553). -/
def endAllWork (s : Chip) (k : Nat) : Chip :=
  let s := servEndAll s (10 + k)
  let s := dqEndRunning s (7 + k) (fun _ _ => true)
  let s := wbEndRunning s (17 + k) (fun w => k == 1 || decide (1 ≤ w.stage))
  let s := cipherEndAll s (13 + k) (fun _ => true)
  loadAbort (relayEndAll s (7 + k))

/-! ## Forced halt (R206) -/

/-- The report of one block: LEASE_REVOKED sealed-only, OD 04.043 (step 5). -/
def leaseRevoked (s : Chip) (unit : Nat) : Chip :=
  odInc (raiseFull s evLeaseRevoked.code evLeaseRevoked.cls true 0 0 0xFF unit unit) 0x04043 0

/-- A test of a fenced unit begins again once a forced halt has completed (24 R599). -/
def restartTest (s : Chip) (unit : Nat) : Chip :=
  match fenceOf s unit with
  | some f => if f.testing then setFence s { f with since := nowNs s } else s
  | none => s

/-- A key segment: its slots are zeroised, requests that name them complete REVOKED. -/
def haltSegment (s : Chip) (seg : Nat) : Chip :=
  let s := cipherEndAll s 8 (fun r => !r.key.isEmpty && r.slot / 256 == seg)
  leaseRevoked (zeroiseSlots s (fun i => i / 256 == seg)) 0xFFFF

/-- A cipher cluster: its requests complete REVOKED; its slots stay as they are (R203). -/
def forceCluster (s : Chip) (c : Nat) : Chip :=
  showLeases (restartTest (leaseRevoked (cipherRevoke s c) (0xE000 + c)) (0xE000 + c))

/-- An array die: its jobs complete REVOKED (18 R478). -/
def forceDie (s : Chip) (die : Nat) : Chip :=
  showLeases (leaseRevoked (dqEndRunning s 10 (fun d _ => dqDie d == die)) 0xFFFF)

/-- T00 to T03: D-space and registers are zeroised; the core goes on from its image. -/
def forceCore (s : Chip) (t : Nat) : Chip :=
  let s := zeroiseDspace s t
  let s := if coreState s t = 2 ∨ coreState s t = 3 then startCore s t (coreOf s t).entry else s
  restartTest (leaseRevoked s (uCore t)) (uCore t)

/-- The sequence on every block leased at this moment: clusters, array dies, key segments 0 to 3 and T00 to T03. -/
def forceDevice (s : Chip) : Chip :=
  let s := (List.range 8).foldl (fun s c => if clusterLeased s c then forceCluster s c else s) s
  let s := (List.range 4).foldl (fun s d => if dieLeased s (d + 1) then forceDie s (d + 1) else s) s
  let s := (List.range 4).foldl haltSegment s
  (List.range 4).foldl forceCore s

end Sys2Proof.Machine
end

