-- ==== Sys2Proof/Machine/Security.lean ====
section
/-! DEFINITION. Measurements, ownership, fused keys and floor, debug states (07 R193, R196, R207 to R210, R217, R218). -/
namespace Sys2Proof.Machine

/-! ## Measurements -/

/-- OD 04.011, MEAS_EXTEND: software registers MR8 to MR15 (Table 7-3). -/
def actMeasExtend : Act := fun s _ arg =>
  let r := fld arg 0 1
  if r < 8 ∨ 15 < r then refuse s eRange else acted (extendMr s r (arg.drop 1))

/-- MEAS_EXTEND. -/
def execMeasExtend (rq : Rq) (arg : Bytes) (s : State) : Host.Outcome State Fault Refusal :=
  run s (actionRow actMeasExtend 0x04011 rq arg)

/-! ## Sessions and debug state -/

/-- Every session is closed (R208, R217). -/
def closeSessions (s : Chip) : Chip := odSet { s with sl := { s.sl with sessions := [] } } 0x04034 0 0

/-- DBG_STATE, OD 05.001. -/
def dbgState (s : Chip) : Nat := odN s 0x05001 0

/-- A new debug state, with its event. -/
def setDbg (s : Chip) (v : Nat) : Chip := raise (odSet s 0x05001 0 v) evDbgStateChanged v

/-- A core halted by the debugger goes on at its pc (R210, 09 R266); one that is fenced, once its fence is lifted. -/
def resumeCore (s : Chip) (t : Nat) : Chip :=
  let s := { s with sec := { s.sec with dbgHalted := s.sec.dbgHalted.filter (· != t) } }
  if coreState s t = 5 then setCoreState s t 2
  else if coreState s t = 4 then
    { s with faults := { s.faults with
      fences := s.faults.fences.map (fun f => if f.unit == uCore t && f.prev == 5 then { f with prev := 2 } else f) } }
  else s

/-- Every debugger halt ends. -/
def resumeAll (s : Chip) : Chip := s.sec.dbgHalted.foldl resumeCore s

/-! ## Ownership -/

/-- OD 04.031, OWNER_CLAIM (R196): the first station key. -/
def actOwnerClaim : Act := fun s _ arg =>
  if odN s 0x04001 0 ≠ 1 then refuse s eDenied
  else acted (raise (noteSecurity s (odSet (odSetB s 0x04030 1 (sha384 arg)) 0x04001 0 0)) evOwnerClaimed 0)

/-- OWNER_CLAIM. -/
def execOwnerClaim (rq : Rq) (arg : Bytes) (s : State) : Host.Outcome State Fault Refusal :=
  run s (actionRow actOwnerClaim 0x04031 rq arg)

/-- Station and code keys are cleared. -/
def clearKeys (s : Chip) : Chip :=
  (List.range 4).foldl (fun s i => odSetB (odSetB s 0x04030 (i + 1) (zeros 48)) 0x04032 (i + 1) (zeros 96)) s

/-- OD 04.033, OWNER_RELEASE (R217): every slot is zeroised, keys cleared, sessions closed; DBG-OPEN ends. -/
def actOwnerRelease : Act := fun s _ _ =>
  let x := closeSessions (clearKeys (zeroiseSlots s (fun _ => true)))
  let x := odSet x 0x04001 0 1
  let x := if dbgState x = 1 then setDbg (resumeAll x) 0 else x
  acted (raise (noteSecurity s x) evOwnerReleased 0)

/-- OWNER_RELEASE. -/
def execOwnerRelease (rq : Rq) (s : State) : Host.Outcome State Fault Refusal :=
  run s (actionRow actOwnerRelease 0x04033 rq [])

/-- A station or code key written: the device is UNOWNED only until its first station key is installed; MR5 (R193). -/
def effectSecurity (s0 s : Chip) (obj sub : Nat) : Chip :=
  if obj = 0x04030 ∨ obj = 0x04032 then
    let s := if obj = 0x04030 ∧ odN s 0x04001 0 = 1 ∧ !isZero (odB s obj sub) then odSet s 0x04001 0 0 else s
    noteSecurity s0 s
  else s

/-- Rules on values written to group 04. -/
def checkSecurity (s : Chip) (obj sub n : Nat) : Nat := if obj = 0x04050 then checkSegment s sub n else eOk

/-! ## Fused keys and floor -/

/-- OD 04.004, KEY_REVOKE (R218). A reserved bit of the argument is out of range. -/
def actKeyRevoke : Act := fun s _ arg =>
  let n := leNat arg
  let cls := n / 4
  let revoked := odN s 0x04003 0 ||| 2 ^ n
  if 8 ≤ n ∨ (cls = 0 ∧ n = odN s 0x04002 0) ∨ bits revoked (4 * cls + 3) (4 * cls) = 15 then refuse s eRange
  else acted (odSet s 0x04003 0 revoked)

/-- KEY_REVOKE. -/
def execKeyRevoke (rq : Rq) (arg : Bytes) (s : State) : Host.Outcome State Fault Refusal :=
  run s (actionRow actKeyRevoke 0x04004 rq arg)

/-- OD 04.006, FLOOR_RAISE (R218). -/
def actFloorRaise : Act := fun s _ arg =>
  let n := leNat arg
  if s.sec.fw.runSecurity < n then refuse s eRange
  else acted (noteSecurity s (odSet s 0x04005 0 (max (odN s 0x04005 0) n)))

/-- FLOOR_RAISE. -/
def execFloorRaise (rq : Rq) (arg : Bytes) (s : State) : Host.Outcome State Fault Refusal :=
  run s (actionRow actFloorRaise 0x04006 rq arg)

/-! ## Debug -/

/-- OD 05.002, DBG_OPEN (Table 7-8). -/
def actDbgOpen : Act := fun s _ _ =>
  if odN s 0x04001 0 ≠ 0 ∨ dbgState s = 2 then refuse s eDenied
  else if dbgState s = 1 then acted s
  else acted (noteSecurity s (setDbg s 1))

/-- DBG_OPEN. -/
def execDbgOpen (rq : Rq) (s : State) : Host.Outcome State Fault Refusal := run s (actionRow actDbgOpen 0x05002 rq [])

/-- OD 05.003, DBG_CLOSE (Table 7-8, R210): debugger halts end. -/
def actDbgClose : Act := fun s _ _ =>
  if dbgState s = 2 then refuse s eDenied
  else if dbgState s = 0 then acted s
  else acted (noteSecurity s (setDbg (resumeAll s) 0))

/-- DBG_CLOSE. -/
def execDbgClose (rq : Rq) (s : State) : Host.Outcome State Fault Refusal := run s (actionRow actDbgClose 0x05003 rq [])

/-- OD 05.005, DBG_TOKEN_CHUNK: bytes into the 8 KiB buffer (R207). -/
def actDbgTokenChunk : Act := fun s _ arg =>
  let off := fld arg 0 2
  if 8192 < off + (arg.length - 2) then refuse s eRange
  else acted { s with sec := { s.sec with token := splice s.sec.token off (arg.drop 2) } }

/-- DBG_TOKEN_CHUNK. -/
def execDbgTokenChunk (rq : Rq) (arg : Bytes) (s : State) : Host.Outcome State Fault Refusal :=
  run s (actionRow actDbgTokenChunk 0x05005 rq arg)

/-- OD 05.004 takes a new random value (R207). -/
def newNonce (s : Chip) : Chip :=
  let f := takeFree s 256
  odSetB f.2 0x05004 0 (leBytes 32 f.1)

/-- The token's check (R207): 0 valid, else the cause of DBG_TOKEN_REJECTED. -/
def tokenCheck (s : Chip) (sigs : Bool) : Nat :=
  let t := s.sec.token
  if t.length < 7580 ∨ fld t 0 4 ≠ 0x5442444E ∨ fld t 4 2 ≠ 1 ∨ fld t 6 2 ≠ 0 ∨ fld t 152 8 ≠ 0 then 1
  else if slice t 8 16 ≠ slice (odB s 0x00005 0) 0 16 then 2
  else if slice t 24 32 ≠ slice (odB s 0x05004 0) 0 32 then 3
  else if !sigBlockOk s 2 (slice t 160 7420) sigs then 4
  else 0

/-- Entry to DBG-FULL (R208): key segments 0 to 3 are halted, the identity key and the session keys go. -/
def dbgFull (s : Chip) : Chip :=
  let held := ((List.range 4).map (slotsHeld s)).sum
  let x := (List.range 4).foldl haltSegment s
  let x := closeSessions { x with sec := { x.sec with identity := false, tokenKey := slice x.sec.token 56 96 } }
  noteSecurity s (setDbg (raise x evSealedZeroised held) 2)

/-- OD 05.006, DBG_FULL_ENTER: the nonce is renewed by every attempt; `rq.verdict` is the verdict on the two
signatures. -/
def actDbgFullEnter : Act := fun s rq _ =>
  if dbgState s = 2 then (eDenied, [], newNonce s)
  else
    let c := tokenCheck s rq.verdict
    acted (newNonce (if c = 0 then dbgFull s else raise s evDbgTokenRejected c))

/-- DBG_FULL_ENTER. -/
def execDbgFullEnter (rq : Rq) (s : State) : Host.Outcome State Fault Refusal :=
  run s (actionRow actDbgFullEnter 0x05006 rq [])

end Sys2Proof.Machine
end

