-- ==== Sys2Proof/Machine/Firmware.lean ====
section
/-! DEFINITION. Live firmware update (07 R212 to R216). -/
namespace Sys2Proof.Machine

/-- FW_STATUS, OD 04.063. -/
def fwStatus (s : Chip) : Nat := odN s 0x04063 0

/-- Set it. -/
def setFwStatus (s : Chip) (v : Nat) : Chip := odSet s 0x04063 0 v

/-- Change the update. -/
def fwMod (s : Chip) (f : Fw → Fw) : Chip := { s with sec := { s.sec with fw := f s.sec.fw } }

/-- An update that excludes power transitions, drains and warm resets (R216). -/
def fwActive (s : Chip) : Bool := fwStatus s == 1 || fwStatus s == 3 || fwStatus s == 5

/-- The slot that an update may write (R212): the one that does not run. -/
def otherSlot (s : Chip) : Nat := 1 - runningSlot s

/-- The first write makes the slot invalid until it is verified. -/
def fwTouch (s : Chip) (fetching : Bool) : Chip :=
  setFwStatus (fwMod s (fun f => { f with slot := otherSlot s, verified := false, fetching := fetching })) 1

/-- OD 04.060, FW_FETCH: a bundle from PF0 host memory into the slot that does not run. -/
def actFwFetch : Act := fun s _ arg =>
  let n := fld arg 8 4
  if poweringDown s then refuse s eBusy
  else if imageSlotSize < n then refuse s eRange
  else if fwActive s then refuse s eBusy
  else if !hostLinkUp s 0 ∨ !(fnOf s 0).bme then refuse s eNotReady
  else acted (fwTouch (setSlotBytes s (otherSlot s) (hostRead s 0 (fld arg 0 8) n)) true)

/-- FW_FETCH. -/
def execFwFetch (rq : Rq) (arg : Bytes) (s : State) : Host.Outcome State Fault Refusal :=
  run s (actionRow actFwFetch 0x04060 rq arg)

/-- OD 04.061, FW_CHUNK: bytes at an offset of the slot that does not run. -/
def actFwChunk : Act := fun s _ arg =>
  let off := fld arg 0 4
  if poweringDown s then refuse s eBusy
  else if imageSlotSize < off + (arg.length - 4) then refuse s eRange
  else if s.sec.fw.fetching ∨ fwStatus s = 3 ∨ fwStatus s = 5 then refuse s eBusy
  else acted (fwTouch (setSlotBytes s (otherSlot s) (splice (slotBytes s (otherSlot s)) off (arg.drop 4))) false)

/-- FW_CHUNK. -/
def execFwChunk (rq : Rq) (arg : Bytes) (s : State) : Host.Outcome State Fault Refusal :=
  run s (actionRow actFwChunk 0x04061 rq arg)

/-- FW_FAILED with its kind; its cause is open. -/
def fwFail (s : Chip) (kind : Nat) : Chip :=
  let c := takeFree s 8
  raise (setFwStatus c.2 7) evFwFailed (256 * kind + c.1)

/-- The bundle is written; after a flash fault what the slot holds is open. -/
def fwWritten (s : Chip) (ok : Bool) : Chip :=
  if fwStatus s ≠ 1 then s
  else
    let s := fwMod s (fun f => { f with fetching := false })
    if ok then setFwStatus s 2
    else
      let k := s.sec.fw.slot
      let n := (slotBytes s k).length
      let f := takeFree s (8 * n)
      fwFail (setSlotBytes f.2 k (leBytes n f.1)) 0

/-- FW_WRITTEN. -/
def execFwWritten (flashOk : Bool) (s : State) : Host.Outcome State Fault Refusal := run s (fun c => fwWritten c flashOk)

/-- OD 04.062, FW_VERIFY. -/
def actFwVerify : Act := fun s _ _ =>
  if poweringDown s ∨ fwActive s then refuse s eBusy
  else acted (setFwStatus (fwMod s (fun f => { f with slot := otherSlot s, verified := false })) 3)

/-- FW_VERIFY. -/
def execFwVerify (rq : Rq) (s : State) : Host.Outcome State Fault Refusal := run s (actionRow actFwVerify 0x04062 rq [])

/-- SECURITY_VERSION of a slot: the least of its images'. -/
def slotSecurity (b : Bytes) : Nat :=
  ((List.range 4).map (fun i => ((slotImage b (i + 1)).map imgSecurity).getD 0)).foldl min (2 ^ 32 - 1)

/-- VERSION of a slot's bundle: its signal-box image's. -/
def slotVersion (b : Bytes) : Nat := ((slotImage b 1).map imgVersion).getD 0

/-- The end of a verification (R191); `sigs`: the verdicts on the signatures of kinds 1 to 4. -/
def fwVerified (s : Chip) (sigs : List Bool) : Chip :=
  if fwStatus s ≠ 3 then s
  else
    let k := s.sec.fw.slot
    match (List.range 4).find? (fun i => !slotImageOk s k (i + 1) (sigs.getD i false)) with
    | some i => fwFail s (i + 1)
    | none =>
      let b := slotBytes s k
      let s := fwMod s (fun f => { f with verified := true, secVersion := slotSecurity b, version := slotVersion b })
      raise (setFwStatus s 4) evFwVerified k

/-- FW_VERIFIED. -/
def execFwVerified (sigs : List Bool) (s : State) : Host.Outcome State Fault Refusal := run s (fun c => fwVerified c sigs)

/-! ## Activation -/

/-- A core goes on with an image of a slot; a fenced one, once its fence is lifted; a stopped or retired one does not. -/
def switchCore (s : Chip) (slot t : Nat) : Chip :=
  match slotImage (slotBytes s slot) (coreKind t) with
  | none => s
  | some i =>
    if coreState s t = 6 ∨ coreState s t = 0 then s
    else if coreState s t = 4 then
      let s := setCoreState (startImage s t i) t 4
      { s with faults := { s.faults with fences := s.faults.fences.map (fun f => if f.unit == uCore t then { f with prev := 2 } else f) } }
    else startImage s t i

/-- An image is measured: its header, which carries BODY_DIGEST (Table 7-3). -/
def measure (s : Chip) (mr slot kind : Nat) : Chip :=
  match slotImage (slotBytes s slot) kind with
  | some i => extendMr s mr (i.take 124)
  | none => s

/-- The key that verifies a slot's signal-box image, OD 04.002. -/
def bootKeyIndex (s : Chip) (slot : Nat) : Nat := ((slotImage (slotBytes s slot) 1).map (fun i => fld (imgSig i) 5 1)).getD 0

/-- Kind 1 (R213): T00 to T03 load the image; sessions, leases and the key store are handed over. -/
def switchKind1 (s : Chip) (slot : Nat) : Chip :=
  let s := odSet s 0x04002 0 (bootKeyIndex s slot)
  (List.range 4).foldl (fun s t => switchCore s slot t) (measure s 1 slot 1)

/-- Kinds 2 to 4: T04, the sequencers in the order of the dies, and the microcode from each next training on. -/
def switchRest (s : Chip) (slot : Nat) : Chip :=
  let s := switchCore (measure s 2 slot 2) slot 4
  let s := (List.range 8).foldl (fun s i => switchCore s slot (16 + i)) (measure s 3 slot 3)
  measure s 4 slot 4

/-- OD 04.064, FW_ACTIVATE (R213): kind 1. -/
def actFwActivate : Act := fun s _ _ =>
  if poweringDown s then refuse s eBusy
  else if fwStatus s ≠ 4 then refuse s eNotReady
  else
    let s := setFwStatus (fwMod s (fun f => { f with
      stage := 1, kind1At := nowNs s, healthy := false, oldVersion := odN s 0x00006 0, oldSecurity := f.runSecurity })) 5
    acted (switchKind1 s s.sec.fw.slot)

/-- FW_ACTIVATE. -/
def execFwActivate (rq : Rq) (s : State) : Host.Outcome State Fault Refusal := run s (actionRow actFwActivate 0x04064 rq [])

/-- Active once every kind runs and the new signal box has reported health (R214). -/
def fwSettle (s : Chip) : Chip :=
  if s.sec.fw.stage = 4 ∧ s.sec.fw.healthy then setFwStatus (fwMod s (fun f => { f with stage := 0 })) 6 else s

/-- Kind 3 completes: OD 01.005 and OD 00.006 change (R213). -/
def fwActivated (s : Chip) : Chip :=
  if s.sec.fw.stage ≠ 1 then s
  else
    let k := s.sec.fw.slot
    let s := switchRest s k
    let s := odSet (odSet s 0x01005 0 k) 0x00006 0 s.sec.fw.version
    let s := fwMod s (fun f => { f with stage := 4, runSecurity := f.secVersion })
    fwSettle (raise s evFwActivated s.sec.fw.version)

/-- FW_ACTIVATED. -/
def execFwActivated (s : State) : Host.Outcome State Fault Refusal := run s fwActivated

/-- The new signal-box image reports health within 500 ms of its start. -/
def fwHealth (s : Chip) : Chip :=
  if s.sec.fw.stage = 0 ∨ s.sec.fw.kind1At + ms 500 < nowNs s then s
  else fwSettle (fwMod s (fun f => { f with healthy := true }))

/-- FW_HEALTH_REPORT. -/
def execFwHealthReport (s : State) : Host.Outcome State Fault Refusal := run s fwHealth

/-- The previous images are restored by the same handover (R214). -/
def fwRestore (s : Chip) : Chip :=
  if s.sec.fw.stage = 0 then s
  else
    let old := 1 - s.sec.fw.slot
    let whole := s.sec.fw.stage == 4
    let s := switchKind1 s old
    let s := if whole then switchRest s old else s
    let s := odSet (odSet s 0x01005 0 old) 0x00006 0 s.sec.fw.oldVersion
    let s := fwMod s (fun f => { f with stage := 0, verified := false, runSecurity := f.oldSecurity })
    raise (setFwStatus s 7) evFwRollback s.sec.fw.version

/-- FW_ROLLBACK: no health report within 500 ms. -/
def fwRollback (s : Chip) : Chip :=
  if s.sec.fw.healthy ∨ nowNs s < s.sec.fw.kind1At + ms 500 then s else fwRestore s

/-- FW_ROLLBACK. -/
def execFwRollback (s : State) : Host.Outcome State Fault Refusal := run s fwRollback

/-! ## Commit -/

/-- The descriptor copy to write, and its SEQ (R215): the older or invalid copy, one above the newer. -/
def commitCopy (s : Chip) : Nat × Nat :=
  match descUsed s with
  | none => (0, 1)
  | some k => (1 - k, (fld (descCopy s k) 4 4 + 1) % 2 ^ 32)

/-- The new descriptor (Table 6-6). -/
def newDesc (s : Chip) (seq slot version minSecurity : Nat) : Bytes :=
  let old := match descUsed s with | some k => descCopy s k | none => []
  let va := if slot = 0 then version else fld old 12 4
  let vb := if slot = 1 then version else fld old 16 4
  let b := leBytes 4 0x5344464E ++ leBytes 4 seq ++ leBytes 1 slot ++ leBytes 1 (fld old 9 1) ++ zeros 2
    ++ leBytes 4 va ++ leBytes 4 vb ++ leBytes 4 minSecurity ++ zeros 4
  b ++ leBytes 4 (crc32 b)

/-- OD 04.065, FW_COMMIT (R215). In RECOVERY the slot that was verified is committed (R216). -/
def actFwCommit : Act := fun s _ arg =>
  let n := leNat arg
  let rec_ := devState s == 5
  let slot := if rec_ then s.sec.fw.slot else runningSlot s
  let top := if rec_ then s.sec.fw.secVersion else s.sec.fw.runSecurity
  let version := if rec_ then s.sec.fw.version else odN s 0x00006 0
  if poweringDown s ∨ fwStatus s = 5 then refuse s eBusy
  else if rec_ ∧ !s.sec.fw.verified then refuse s eNotReady
  else if n < minSec s ∨ top < n then refuse s eRange
  else
    let c := commitCopy s
    let d := newDesc s c.2 slot version n
    let x := if c.1 = 0 then { s with flash := { s.flash with descA := d } } else { s with flash := { s.flash with descB := d } }
    acted (raise (noteSecurity s x) evFwCommitted c.2)

/-- FW_COMMIT. -/
def execFwCommit (rq : Rq) (arg : Bytes) (s : State) : Host.Outcome State Fault Refusal :=
  run s (actionRow actFwCommit 0x04065 rq arg)

end Sys2Proof.Machine
end

