-- ==== Sys2Proof/Machine/Resets.lean ====
section
/-! DEFINITION. What a warm reset, E2, E3, a FATAL error and a cold start clear and keep (06 Table 6-1, R167, R168, 05
Table 5-3, 24 R600). -/
namespace Sys2Proof.Machine

/-- Change the bring-up state. -/
def bootMod (s : Chip) (f : Boot → Boot) : Chip := { s with boot := f s.boot }

/-! ## Array dies -/

/-- First address of the staging SRAM of AD(d), and its 64 MiB (Table 12-1). -/
def stagingBase (d : Nat) : Nat := 0x004000000000 + d * 0x000100000000
/-- 64 MiB -/
abbrev stagingSize : Nat := 67108864

/-- An array or vector unit follows its die: 0 dark, 1 idle, 3 fenced; a retired one stays. -/
def unitFollows (s : Chip) (d u : Nat) (lit : Bool) : Chip :=
  if arrayState s (d + 1) u = 4 then s
  else setArrayState s (d + 1) u (if !lit then 0 else if fenced s (jobUnit (d + 1) u) then 3 else 1)

/-- AD(d) goes dark (05 R147, 08 R243): staging SRAM and the state of its cores are lost. Its signal values are kept. -/
def dieDark (s : Chip) (d : Nat) : Chip :=
  let s := bootMod s (fun b => { b with dieLit := tput b.dieLit (d + 1) false })
  let s := stepReset s (d + 1) false
  let s := [16 + 2 * d, 17 + 2 * d].foldl (fun s t =>
    if coreState s t = 6 then s else setCoreState (setCore s t Core.off) t 0) s
  let s := (List.range 5).foldl (fun s u => unitFollows s d u false) s
  odSetBit (zeroRange s (stagingBase d) stagingSize) 0x01004 0 (9 + d) false

/-- Every array die goes dark. -/
def diesDark (s : Chip) : Chip := (List.range 4).foldl dieDark s

/-! ## Hub engines -/

/-- Admitted work is trued up with what it has used. -/
def jobsEnd (s : Chip) : Chip :=
  { s with en := { s.en with jobs := s.en.jobs.map (fun j => { j with done := true }) } }

/-- The state of the hub's engines goes, and with it the near tier, the platform cache and the far-tier contents: no
completion is written. -/
def hubClear (s : Chip) : Chip :=
  let s := jobsEnd (dqWarmReset (servReset (weightsReset s)))
  let s := clAllDown s
  { s with
    mem := { s.mem with dev := [], poison := [], cache := [], migs := [], ce := [], pinned := [] }
    disp := { s.disp with held := [], dqs := [], portQs := [], queued := [], pushed := [] }
    net := { s.net with
      queues := [], buckets := [], deficits := [], turns := [], paces := [], slots := [], paused := [], buffer := [],
      retrain := [], xoff := [], fec := [], anRetry := [], ptp := [] }
    rdma := ⟨[], [], [], [], []⟩
    storage := ⟨[], [], []⟩
    engines := { s.engines with ciphers := [], decodes := [] }
    cons := { s.cons with inbox := [], stranded := [], ops := [], ended := [] }
    serv := { s.serv with subs := [], reqs := [], orphans := [] }
    weights := { s.weights with load := none, flying := [] }
    plats := { s.plats with owner := [], reclaiming := [], tlb := [], invals := [], resetting := [] }
    prog := ProgBuf.empty }

/-- T05 to T15 stand STOPPED, their programs gone (08 R243). -/
def customerCoresOff (s : Chip) : Chip :=
  (List.range 11).foldl (fun s i =>
    let t := 5 + i
    if coreState s t = 6 then s else setCoreState (setCore s t Core.off) t 1) s

/-- SSD and far-tier links go down. -/
def memoryLinksDown (s : Chip) : Chip :=
  let s := (List.range 8).foldl (fun s p => if ssdState s p = 0 then s else ssdGone s p) s
  let s := (List.range 4).foldl (fun s p => odSet (farDown s p) 0x11031 (p + 1) 0) s
  let s := bootMod s (fun b => { b with farLeft := [], farZeroed := [] })
  odSet { s with ports := { s.ports with farOut := [], links := [] } } 0x01047 0 0

/-- What bring-up has brought up is undone: READY_MASK keeps the signal box, the island and PMBus. -/
def notReady (s : Chip) : Chip :=
  let s := bootMod s (fun b => { b with
    managerUp := false, nearZeroed := false, cacheInit := false, dieFailed := [], readyLate := false })
  odSet s 0x01004 0 (odN s 0x01004 0 % 8)

/-- Running tests are abandoned (24 R599): TEST reads 3, and the units are tested again. -/
def abandonTests (s : Chip) : Chip :=
  (s.faults.fences.filter (·.testing)).foldl (fun s f =>
    let s := odInc (setFence s { f with testing := false }) 0x70020 5
    { s with faults := { s.faults with
      log := s.faults.log.map (fun r => if f.recs.contains r.seq then { r with test := 3 } else r) } }) s

/-- The mirror of the newest 64 records survives (24 R591). -/
def logFromMirror (s : Chip) : Chip := { s with faults := { s.faults with log := s.faults.log.take 64 } }

/-! ## E3 -/

/-- The rails that E3 turns off: the core rails, MEM, and PHY unless a host port is kept. -/
def keepRails (s : Chip) : Chip :=
  let s := (List.range 6).foldl (fun s i => emit s (.rail (i + 1) 0)) s
  if odN s 0x02004 0 = 0 then emit s (.rail 7 0) else s

/-- Entry into E3 (Table 5-3): objects, timebase, events, key store and sessions are kept. -/
def enterE3 (s : Chip) : Chip :=
  let s := memoryLinksDown (portsDown (hubClear s))
  let s := (List.range 4).foldl (fun s i =>
    if bit (odN s 0x02004 0) (i / 2) then s else hostLinkLost s i 0) s
  let s := abandonTests (customerCoresOff s)
  keepRails (logFromMirror (notReady s))

/-! ## Warm reset -/

/-- A V object that a warm reset keeps (Table 6-1): groups 00 to 06 and 70; what counts from the cold start or names hardware
that is gone or repaired; T00 to T03; epochs (10 R290); the states of dispatch queues, which follow their records. -/
def warmKeeps (obj sub : Nat) (v : OdVal) : Bool :=
  let g := obj / 4096
  let n := v.nat
  decide (g ≤ 0x06) || g == 0x70
  || (obj == 0x08001 && (decide (sub ≤ 4) || n == 6)) || ((obj == 0x08002 || obj == 0x08003) && decide (sub ≤ 4))
  || obj == 0x08004 || (decide (0x08100 ≤ obj) && decide (obj ≤ 0x08103))
  || (decide (0x10100 ≤ obj) && decide (obj < 0x10140)) || obj == 0x11060
  || obj == 0x40002 || obj == 0x40004 || obj == 0x40040 || obj == 0x40041
  || (obj == 0x31040 && n == 3) || obj == 0x31041
  || ((obj == 0x50001 || obj == 0x50005) && n == 4) || obj == 0x50002 || (obj == 0x52001 && decide (2 ≤ n))
  || (decide (0x51060 ≤ obj) && decide (obj ≤ 0x5106B))
  || (obj == 0x60011 && n == 4) || obj == 0x60012

/-- The objects after a warm reset: P and F objects, and the V objects it keeps. -/
def warmObjects (od : Table OdVal) : Table OdVal :=
  od.filter (fun x => (match odRow (x.1 / 256) with | some r => r.persist != 0 | none => false)
    || warmKeeps (x.1 / 256) (x.1 % 256) x.2)

/-- Egress queues with a pacing entry set (OD 23.010:1). -/
def showPaces (s : Chip) : Chip :=
  odSet s 0x23010 1 ((odListed s 0x21400 0x217FF).filter (fun x => odFld s x.1 x.2 12 4 != 0)).length

/-- A far port that is enabled trains. -/
def farTrain (s : Chip) (p : Nat) : Chip :=
  if bit (odN s 0x11030 0) p then
    setLink (odSet s 0x11031 (p + 1) 1) (12 + p) { linkOf s (12 + p) with retryAt := nowNs s + 1000000000 }
  else s

/-- Phase 2: host links without PERST# train (Table 6-2). -/
def phase2 (s : Chip) : Chip :=
  phaseBegins ((List.range 4).foldl (fun s i =>
    if linkExists s i ∧ !perstOn s (i / 2) ∧ !hostLinkUp s i then odSet s 0x11003 (i + 1) 1 else s) s) 2

/-- Phases 3 and 4: Ethernet and far-tier links train; coupling links train in their slots. -/
def phases34 (s : Chip) : Chip :=
  let s := (List.range 16).foldl (fun s i =>
    if subExists s i ∧ bit (odN s 0x20003 0) i ∧ subState s i = 0 then setSubState s i 1 else s) s
  phaseBegins (phaseBegins ((List.range 4).foldl farTrain s) 3) 4

/-- What a reset puts into force: bifurcation (11 R292), the consist (23 R567). -/
def takeConfig (s : Chip) : Chip :=
  clSnapshot { s with ports := { s.ports with
    bifur := [(0, odN s 0x11002 1 == 1), (1, odN s 0x11002 2 == 1)] } }

/-- Fences outlast a warm reset: a core's state behind one is that of the reset. -/
def refence (s : Chip) : Chip :=
  let s := { s with faults := { s.faults with fences := s.faults.fences.map (fun (f : Fence) =>
    if 0x1005 ≤ f.unit ∧ f.unit ≤ 0x100F then { f with prev := 1 } else if f.unit / 4096 = 1 then { f with prev := 2 } else f) } }
  s.faults.fences.foldl (fun s f => showFence s f.unit) s

/-- A warm reset for a cause of OD 01.006 (R167): phases 2 to 5 run again, the signal box goes on. -/
def warmReset (s : Chip) (cause : Nat) : Chip :=
  let s := (List.range 64).foldl (fun s p => if platState s p = 0 then s else setPlatState s p 0) s
  let s := (List.range 4).foldl (fun s i => hostLinkLost s i 0) s
  let s := abandonTests (memoryLinksDown (portsDown (hubClear s)))
  let s := zeroiseSlots s (fun i => decide (4 ≤ i / 256))
  let s := diesDark (customerCoresOff s)
  let s := { s with od := warmObjects s.od, plats := { s.plats with mbx := [] } }
  let s := diesDark (customerCoresOff s)
  let s := odSet { s with sl := { s.sl with stages := [] } } 0x01114 0 0
  let s := switchCore (if coreState s 4 = 6 then s else setCoreState s 4 1) (runningSlot s) 4
  let s := refence s
  let s := showPaces (takeConfig (logFromMirror (notReady s)))
  let s := bootMod s (fun b => { b with warmSince := some (nowNs s), warmDeferred := false, fatal := false })
  let s := odInc (odSet (odSet s 0x01006 0 cause) 0x01001 0 4) 0x01007 0
  phases34 (phase2 (odSet s 0x01002 0 3))

/-- The blocks that a warm reset would halt (R168): clusters and array dies under lease. Block c is cluster c, block 8 + d
array die AD(d). -/
def blockLeased (s : Chip) (b : Nat) : Bool := if b < 8 then clusterLeased s b else decide (b < 12) && dieLeased s (b - 7)

/-- The unit number of a block; an array die has none. -/
def blockUnit (b : Nat) : Nat := if b < 8 then 0xE000 + b else 0xFFFF

/-- The lowest block under lease among some. -/
def firstLeased (s : Chip) (l : List Nat) : Option Nat := l.find? (blockLeased s)

/-- OD 01.010, WARM_RESET (R168). -/
def actWarmReset : Act := fun s _ _ =>
  if poweringDown s ∨ fwActive s then refuse s eBusy
  else
    match firstLeased s (List.range 12) with
    | some b => (eDeferred, [], bootMod (deferHalt s 2 0 (blockUnit b)) (fun x => { x with warmDeferred := true }))
    | none => acted (warmReset s 2)

/-- WARM_RESET. -/
def execWarmReset (rq : Rq) (s : State) : Host.Outcome State Fault Refusal := run s (actionRow actWarmReset 0x01010 rq [])

/-! ## FATAL -/

/-- Every work item ends without a completion, a signal add or a host write (24 R600). -/
def dropWork (s : Chip) : Chip :=
  let s := jobsEnd (servReset s)
  { s with
    disp := { s.disp with held := [], dqs := [], portQs := [], queued := [], pushed := [] }
    rdma := { s.rdma with qps := [] }
    storage := { s.storage with queues := [] }
    engines := { s.engines with ciphers := [], decodes := [] }
    cons := { s.cons with ops := [], ended := [] }
    weights := { s.weights with load := none, flying := [] } }

/-- FATAL_HALT: a FATAL record starts the procedure of R600, once. -/
def fatalHalt (s : Chip) : Chip :=
  match s.faults.log.find? (fun r => r.cls == 5 && !s.boot.fatalSeen.contains r.seq) with
  | none => s
  | some r =>
    if s.boot.fatal ∨ s.boot.signalBox = false then s
    else
      let auto := odN s 0x01012 0 == 1
      let seen := (s.faults.log.filter (fun r => r.cls == 5)).map (·.seq)
      let s := raiseU (bootMod s (fun b => { b with fatal := true, fatalSeen := seen })) evFatalHalt r.unit r.seq
      let leased := (List.range 12).filter (blockLeased s)
      let s := dropWork (odSet s 0x01001 0 6)
      let s := { s with plats := { s.plats with mbx := s.plats.mbx.map (fun x => (x.1, { x.2 with state := 2 })) } }
      let s := leased.foldl (fun s b => restartTest (leaseRevoked s (blockUnit b)) (blockUnit b)) s
      let s := fwRestore (forceDevice (showLeases s))
      if auto then warmReset s 3 else s

/-- FATAL_HALT. -/
def execFatalHalt (s : State) : Host.Outcome State Fault Refusal := run s fatalHalt

end Sys2Proof.Machine
end

