-- ==== Sys2Proof/Machine/Power.lean ====
section
/-! DEFINITION. Power states and transitions (05 R144 to R149), leases that hold them up (07 R204, R205), thermal trip and
energy emergency (R154, 07 R206), drain and REMOVE_OK (R159, R160). -/
namespace Sys2Proof.Machine

/-- Change the energy state. -/
def enMod (s : Chip) (f : Energy → Energy) : Chip := { s with en := f s.en }

/-- The step from a state toward a target. -/
def stepTo (start target : Nat) : Nat := if start < target then start + 1 else start - 1

/-! ## Drain (R159) -/

/-- DRAIN_STATE, OD 02.046. -/
def drainState (s : Chip) : Nat := odN s 0x02046 0

/-- A drain fails: REMOVE_OK stays low. -/
def drainFails (s : Chip) (dom : Nat) : Chip :=
  raise (odSet (enMod s (fun e => { e with drainAt := none, admissionStopped := false })) 0x02046 0 4) evDrainFailed dom

/-- Steps 4 and 5: every regulator but VAON's off, bleeders on. -/
def drainBleed (s : Chip) : Chip :=
  let s := (List.range 7).foldl (fun s i => emit s (.rail (i + 1) 0)) s
  odSet (enMod s (fun e => { e with railsOff := true })) 0x02046 0 2

/-! ## Steps -/

/-- What a step would halt while it is under lease: array dies in E1 to E2, cipher clusters in E2 to E3. -/
def stepLeased (s : Chip) (start to_ : Nat) : Option Nat :=
  if start = 1 ∧ to_ = 2 then firstLeased s [8, 9, 10, 11]
  else if start = 2 ∧ to_ = 3 then firstLeased s (List.range 8)
  else none

/-- The condition of Table 5-4 fails. -/
def stepRefused (s : Chip) (start to_ : Nat) (drain : Bool) : Bool :=
  (start == 1 && to_ == 2 && !drain && (stepLeased s start to_).isSome)
    || (start == 2 && to_ == 3 && (List.range 64).any (fun p => platState s p != 0))

/-- What a step does when it begins: dies darken and lose power once their work is done; bring-up begins again; VAON is
commanded off. -/
def stepBegins (s : Chip) (start to_ : Nat) : Chip :=
  if start = 3 ∧ to_ = 2 then
    let s := odSet (clearSignals (takeConfig s)) 0x01001 0 1
    phases34 (phase2 (odSet s 0x01002 0 3))
  else if start = 3 ∧ to_ = 4 then emit s (.rail 8 0)
  else s

/-- The next step toward a target: refused, deferred or running (OD 02.003); the status for the one who asked. -/
def powerStepStart (s : Chip) (target : Nat) (drain : Bool) : Nat × Chip :=
  let start := power s
  let to_ := stepTo start target
  if stepRefused s start to_ drain then
    let s := raise (odSet (enMod s (fun e => { e with trans := none })) 0x02003 0 3) evPowerRefused (256 * start + to_)
    (eOk, if drain then drainFails s 1 else s)
  else
    match stepLeased s start to_ with
    | some b =>
      let s := enMod s (fun e => { e with trans := some ⟨target, true, drain, nowNs s⟩ })
      (eDeferred, deferHalt (odSet s 0x02003 0 2) 0 to_ (blockUnit b))
    | none =>
      let s := enMod s (fun e => { e with trans := some ⟨target, false, drain, nowNs s⟩ })
      (eOk, stepBegins (odSet s 0x02003 0 1) start to_)

/-- OD 02.002, POWER_REQUEST (R145, R146). -/
def actPowerRequest : Act := fun s _ arg =>
  let target := leNat arg
  if 4 < target then refuse s eRange
  else if poweringDown s ∨ fwActive s then refuse s eBusy
  else if target = power s then acted (odSet s 0x02003 0 0)
  else
    let r := powerStepStart s target false
    (r.1, [], r.2)

/-- POWER_REQUEST. -/
def execPowerRequest (rq : Rq) (arg : Bytes) (s : State) : Host.Outcome State Fault Refusal :=
  run s (actionRow actPowerRequest 0x02002 rq arg)

/-- Work on the array dies has ended: running jobs, and tests (R145, R165). -/
def diesQuiet (s : Chip) : Bool :=
  s.disp.dqs.all (fun q => dqDie q.1 == 0 || q.2.running.isEmpty)
    && s.faults.fences.all (fun f => !f.testing || (unitDie f.unit).isNone)

/-- Every array die is lit, or its bring-up has failed. -/
def diesUp (s : Chip) : Bool := (List.range 4).all (fun d => dieLit s d || tget false s.boot.dieFailed (d + 1))

/-- A step can complete now. -/
def stepReady (s : Chip) (start to_ : Nat) : Bool :=
  if start = 1 ∧ to_ = 2 then diesQuiet s
  else if start = 2 ∧ to_ = 1 then diesUp s
  else if start = 3 ∧ to_ = 2 then phase5 s
  else true

/-- What the volatile state of the block is without VAON: nothing but the flash, the fuses and what the outside keeps. F
objects are kept (R79). -/
def coldOf (s : Chip) : Chip :=
  { Chip.cold with
    od := s.od.foldl (fun t x => match odRow (x.1 / 256) with
      | some r => if r.persist = 2 ∨ x.1 / 256 = 0x40040 ∨ x.1 / 256 = 0x70040 then tput t x.1 x.2 else t
      | none => t) Chip.cold.od
    flash := s.flash
    sec := { Security.cold with bootKeys := s.sec.bootKeys, debugKeys := s.sec.debugKeys }
    mem := { Chip.cold.mem with host := s.mem.host, softRows := s.mem.softRows }
    faults := { Chip.cold.faults with store := s.faults.store }
    boot := { Boot.cold with perst := s.boot.perst, resetLow := s.boot.resetLow, vaon := s.boot.vaon }
    free := s.free
    out := s.out }

/-- E4 (Table 5-3): everything off. -/
def enterE4 (s : Chip) : Chip :=
  odSet { coldOf s with boot := { (coldOf s).boot with vaon := false } } 0x02001 0 4

/-- What a step does when it completes. -/
def stepEnds (s : Chip) (start to_ : Nat) : Chip :=
  if start = 1 ∧ to_ = 2 then (List.range 4).foldl (fun s d => emit s (.rail (d + 2) 0)) (diesDark s)
  else if start = 2 ∧ to_ = 3 then enterE3 s
  else s

/-- POWER_STEP_DONE (R145): the state changes; the next step begins, the target is reached, or the drain goes on. -/
def powerStepDone (s : Chip) : Chip :=
  match s.en.trans with
  | none => s
  | some t =>
    let start := power s
    let to_ := stepTo start t.target
    if t.deferred ∨ start = t.target ∨ !stepReady s start to_ then s
    else if to_ = 4 then enterE4 s
    else
      let s := raise (odSet (stepEnds s start to_) 0x02001 0 to_) evPowerStateChanged to_
      if to_ = t.target then
        let s := odSet (enMod s (fun e => { e with trans := none })) 0x02003 0 0
        if t.drain then drainBleed s else s
      else (powerStepStart s t.target t.drain).2

/-- POWER_STEP_DONE. -/
def execPowerStepDone (s : State) : Host.Outcome State Fault Refusal := run s powerStepDone

/-- E4_REFUSED (R149): 10 ms after the off command VAON is still on; the device stays in E3. -/
def e4Refused (s : Chip) : Chip :=
  match s.en.trans with
  | none => s
  | some t =>
    if power s = 3 ∧ t.target = 4 ∧ !t.deferred ∧ t.since + ms 10 ≤ nowNs s then
      raise (odSet (enMod s (fun e => { e with trans := none })) 0x02003 0 0) evE4Refused 0
    else s

/-- E4_REFUSED. -/
def execE4Refused (s : State) : Host.Outcome State Fault Refusal := run s e4Refused

/-! ## Deferred requests (07 R204, R205) -/

/-- Blocks that a deferred request waits for. -/
def waitsFor (d : Deferred) : List Nat :=
  match d.kind with
  | 0 => if d.arg = 2 then [8, 9, 10, 11] else List.range 8
  | 1 => [d.arg]
  | _ => List.range 12

/-- A deferred request is carried out. -/
def carryOut (s : Chip) (d : Deferred) : Chip :=
  match d.kind with
  | 0 => match s.en.trans with
    | some t =>
      let held := if t.drain then (nowNs s - t.since) / 1000000 else 0
      (powerStepStart (enMod s (fun e => { e with drainHeld := e.drainHeld + held })) t.target t.drain).2
    | none => s
  | 1 => haltCluster s d.arg
  | _ => warmReset s 2

/-- Deferred requests whose blocks are no longer leased, in the order of acceptance. -/
def runDeferred (s : Chip) : Chip :=
  s.sec.deferred.foldl (fun s d =>
    if (firstLeased s (waitsFor d)).isSome then s
    else carryOut { s with sec := { s.sec with deferred := s.sec.deferred.erase d } } d) s

/-- LEASE_RELEASE: the block (0 to 7 a cluster, 8 to 11 an array die) is no longer leased; deferred requests go on. -/
def execLeaseRelease (block : Nat) (s : State) : Host.Outcome State Fault Refusal :=
  run s (fun c => if blockLeased c block then c else runDeferred (showLeases c))

/-- LEASE_OVERRUN (R204): a lease still held OD 04.041 ms after a deferral is ended by the forced-halt sequence. -/
def leaseOverrun (s : Chip) (b : Nat) : Chip :=
  if blockLeased s b ∧ s.sec.deferred.any (fun d => (waitsFor d).contains b && decide (d.since + ms (odN s 0x04041 0) ≤ nowNs s)) then
    let s := if b < 8 then forceCluster s b else forceDie s (b - 7)
    runDeferred (raiseU s evLeaseOverrun (blockUnit b) (blockUnit b))
  else s

/-- LEASE_OVERRUN. -/
def execLeaseOverrun (block : Nat) (s : State) : Host.Outcome State Fault Refusal := run s (fun c => leaseOverrun c block)

/-! ## Emergencies -/

/-- The whole device is forced: leased blocks by the sequence of R206, all other work ends with the power-emergency status;
a firmware activation is undone (R216). -/
def emergency (s : Chip) : Chip := fwRestore (endAllWork (forceDevice s) 1)

/-- Dies and hub engines lose power at once: E3 without its conditions, platforms disabled first. -/
def straightToE3 (s : Chip) : Chip :=
  if 3 ≤ power s then s
  else
    let s := (List.range 64).foldl (fun s p => if platState s p = 0 then s else setPlatState s p 0) s
    let s := enterE3 (diesDark s)
    raise (odSet s 0x02001 0 3) evPowerStateChanged 3

/-- THERMAL_TRIP (R154): at 110 °C to E3 without deferral; a transition under way is given up, a drain goes on from E3. -/
def thermalTrip (s : Chip) (dom tj : Nat) : Chip :=
  if dom < 1 ∨ 5 < dom ∨ tj < 110 ∨ s.boot.signalBox = false ∨ 3 ≤ power s then s
  else
    let s := raise (odSet s 0x02037 dom (min tj 125)) evThermalTrip dom
    let s := { s with sec := { s.sec with deferred := [] } }
    let s := straightToE3 (emergency s)
    let s := bootMod s (fun b => { b with warmSince := none, warmDeferred := false })
    let s := odSet (enMod s (fun e => { e with trans := none })) 0x02003 0 0
    if s.en.drainAt.isSome ∧ drainState s = 1 then drainBleed s else s

/-- THERMAL_TRIP. -/
def execThermalTrip (dom tj : Nat) (s : State) : Host.Outcome State Fault Refusal := run s (fun c => thermalTrip c dom tj)

/-- ENERGY_EMERGENCY: a regulator of a domain reports an over-current or over-power fault (07 R206). -/
def execEnergyEmergency (dom : Nat) (s : State) : Host.Outcome State Fault Refusal :=
  run s (fun c => if dom < 1 ∨ 8 < dom ∨ c.boot.signalBox = false ∨ 3 ≤ power c then c else emergency c)

/-! ## Drain rows -/

/-- OD 02.045, DRAIN: all admission stops. -/
def actDrain : Act := fun s _ _ =>
  if poweringDown s ∨ fwActive s then refuse s eBusy
  else acted (loadAbort (odSet (enMod s (fun e => { e with admissionStopped := true, drainAt := some (nowNs s), drainHeld := 0 })) 0x02046 0 1))

/-- DRAIN. -/
def execDrain (rq : Rq) (s : State) : Host.Outcome State Fault Refusal := run s (actionRow actDrain 0x02045 rq [])

/-- Work that a drain waits for still runs. -/
def workRuns (s : Chip) : Bool :=
  s.disp.dqs.any (fun q => !q.2.running.isEmpty) || s.storage.queues.any (fun q => q.2.wbs.any (fun w => decide (1 ≤ w.stage)))
    || s.engines.ciphers.any (fun r => r.done.isNone) || !s.cons.ops.isEmpty

/-- DRAIN_JOB_TIMEOUT (R159 steps 2 and 3): after 100 ms, or once nothing runs, what still runs ends drained and the
transitions to E3 begin. -/
def drainGoesOn (s : Chip) : Chip :=
  match s.en.drainAt with
  | none => s
  | some t =>
    if drainState s ≠ 1 ∨ s.en.trans.isSome ∨ (nowNs s < t + ms 100 ∧ workRuns s) then s
    else
      let s := endAllWork s 0
      if 3 ≤ power s then drainBleed s else (powerStepStart s 3 true).2

/-- DRAIN_JOB_TIMEOUT. -/
def execDrainJobTimeout (s : State) : Host.Outcome State Fault Refusal := run s drainGoesOn

/-- Table 5-5 as capacitance in µF: VCORE_J, A0 to A3, VMEM, VPP_M, VPHY, VIO. -/
def railMicrofarad : List Nat := [1100000, 600000, 600000, 600000, 600000, 400000, 20000, 150000, 50000]

/-- Half C V² summed over sensed voltages in mV, in µJ. -/
def storedEnergy (volts : List Nat) : Nat := ((railMicrofarad.zip volts).map (fun x => x.1 * x.2 * x.2)).sum / 2000000

/-- The computed energy (step 6); REMOVE_OK once it is at or below the removal figure (step 7). -/
def drainReady (s : Chip) (volts : List Nat) : Chip :=
  if drainState s ≠ 2 then s
  else
    let e := storedEnergy volts
    let s := odSet s 0x02043 0 e
    if odN s 0x02044 0 < e then s
    else
      let s := odSet (enMod s (fun x => { x with removeOk := true, drainAt := none })) 0x02046 0 3
      raise s evDrainReady e

/-- DRAIN_READY: sensed voltages of the discharged rails in the order of Table 5-5, mV. -/
def execDrainReady (volts : List Nat) (s : State) : Host.Outcome State Fault Refusal := run s (fun c => drainReady c volts)

/-- DRAIN_FAILED: not complete within 1 s, plus what a lease deferral took; `dom` is the rail at fault. -/
def drainTimeout (s : Chip) (dom : Nat) : Chip :=
  match s.en.drainAt with
  | none => s
  | some t =>
    let held := match s.en.trans with | some x => x.deferred | none => false
    if held || decide (nowNs s < t + ms 1000 + ms s.en.drainHeld) then s else drainFails s dom

/-- DRAIN_FAILED. -/
def execDrainFailed (dom : Nat) (s : State) : Host.Outcome State Fault Refusal := run s (fun c => drainTimeout c dom)

/-- DISCHARGED_RAIL_RISE (R160): a discharged rail above 50 mV takes REMOVE_OK low. -/
def execDischargedRailRise (dom mv : Nat) (s : State) : Host.Outcome State Fault Refusal :=
  run s (fun c => if 1 ≤ dom ∧ dom ≤ 7 ∧ c.en.railsOff ∧ 50 < mv then enMod c (fun e => { e with removeOk := false }) else c)

end Sys2Proof.Machine
end

