-- ==== Sys2Proof/Machine/ObjectWrites.lean ====
section
/-! DEFINITION. Reads and writes of objects by a request: checks in the order of 03 R92 (address, phase, access, kind, type,
range, reserved bits, the rules of the owning chapter), and what a write sets in motion beside its value. -/
namespace Sys2Proof.Machine

/-! ## Address -/

/-- The row an entry names and its instance, or the error: no such object or subindex (R72, R73, R17), not served (R107). -/
def locate (s : Chip) (d : Dom) (obj sub : Nat) : Nat × Option (OdDef × Nat) :=
  match resolve d obj with
  | none => (eNoObj, none)
  | some (r, o) =>
    if !subOk r sub then (eNoObj, none)
    else if !servedNow s o then (eNotReady, none)
    else (eOk, some (r, o))

/-- A subindex of a sub-port that does not exist in the current mode (13 R343). -/
def noSubPort (s : Chip) (o sub : Nat) : Bool := perSubPort o && decide (1 ≤ sub) && !subExists s (sub - 1)

/-- READY_MASK, OD 01.004, with the bits that follow the links (Table 6-10). -/
def readyMask (s : Chip) : Nat :=
  let st := odN s 0x01004 0
  let host := fun (h : Nat) => hostLinkUp s (2 * h) || hostLinkUp s (2 * h + 1)
  let eth := fun (e : Nat) => (List.range 8).any (fun i => subState s (8 * e + i) == 2)
  let present := (List.range 8).filter (fun p => ssdState s p != 0)
  let far := (List.range 4).filter (fun p => bit (odN s 0x11030 0) p)
  let base := st - (if bit st 3 then 8 else 0) - (if bit st 4 then 16 else 0) - (if bit st 5 then 32 else 0)
    - (if bit st 6 then 64 else 0) - (if bit st 14 then 2 ^ 14 else 0) - (if bit st 15 then 2 ^ 15 else 0)
  base + 8 * b2n (host 0) + 16 * b2n (host 1) + 32 * b2n (eth 0) + 64 * b2n (eth 1)
    + 2 ^ 14 * b2n (!present.isEmpty && present.all (fun p => odN s 0x30022 (p + 1) == 2))
    + 2 ^ 15 * b2n (!far.isEmpty && far.all (fun p => farState s p == 2))

/-- The value that a read entry answers. -/
def readVal (s : Chip) (path : Path) (d : Dom) (r : OdDef) (o sub : Nat) : OdVal :=
  if r.subs ≠ 0 ∧ sub = 0 then .num r.subs
  else if o = 0x01004 then .num (readyMask s)
  else if noSubPort s o sub then
    match r.type with
    | .str | .blob => .bytes (zeros r.lo.toNat)
    | _ => .num 0
  else odRead s path d r o sub

/-! ## Checks on a write -/

/-- The owning chapter's rules on a value of the right type and range. -/
def groupCheck (s : Chip) (d : Dom) (o sub : Nat) (v : Bytes) : Nat :=
  let n := leNat v
  match o / 4096 with
  | 0x02 => checkEnergy s o sub n
  | 0x03 => checkTb s o
  | 0x04 => checkSecurity s o sub n
  | 0x08 => if 0x08100 ≤ o ∧ o ≤ 0x08117 then checkWindow s (o - 0x08100) v else eOk
  | 0x10 => checkPlat s o sub v
  | 0x20 => checkEth s o sub n
  | 0x21 | 0x22 | 0x23 => checkTraffic s o sub v
  | 0x24 | 0x25 => checkRdma s o sub v
  | 0x30 => checkStorage s o sub v
  | 0x31 => checkCipher s d o sub v
  | 0x40 | 0x41 => checkMem o v
  | 0x51 => checkDispatch s d o sub v
  | 0x52 => checkDecode o v
  | 0x53 => checkServing s o sub v
  | 0x54 => checkWeights s o sub v
  | 0x60 => checkConsist s d o sub v
  | 0x70 => checkFaults o sub n
  | _ => eOk

/-- Which counters a rejected entry advances: OD 01.105 (R77), the object's write-rejection counter (R89). -/
structure Rejection where
  status : Nat
  denial : Bool
  own : Bool
deriving DecidableEq, Repr

/-- A rejection that no counter shows; status 0: accepted. -/
def plainRej (st : Nat) : Rejection := ⟨st, false, false⟩

/-- Count a rejection of a write to an object. -/
def countRej (s : Chip) (o : Nat) (x : Rejection) : Chip :=
  let s := if x.denial then odInc s 0x01105 0 else s
  if x.own then rejCount s o else s

/-- The checks on the object and type of a write entry: access (R77), read-only (R80, R88), type (R75). -/
def writeTypeCheck (d : Dom) (r : OdDef) (e : Entry) : Rejection :=
  if r.acc d ≠ 2 ∧ r.acc d ≠ 3 then ⟨eDenied, true, r.persist == 2 || r.first / 4096 == 0⟩
  else if r.kind = .ro ∨ (r.subs ≠ 0 ∧ e.sub = 0) then ⟨eReadOnly, false, true⟩
  else if e.type ≠ r.type.code ∨ valueCheck r e.val = eType then plainRej eType
  else plainRej eOk

/-- Every check on a write entry; a segment of a staged block is checked for address, access and type alone (R96). -/
def writeCheck (s : Chip) (d : Dom) (e : Entry) (segment : Bool) : Nat × Rejection :=
  match locate s d e.obj e.sub with
  | (st, none) => (e.obj, plainRej st)
  | (_, some (r, o)) =>
    let x := writeTypeCheck d r e
    if x.status ≠ eOk ∨ segment ∨ noSubPort s o e.sub then (o, x)
    else if reservedSet r e.val then (o, ⟨eRange, false, true⟩)
    else if valueCheck r e.val ≠ eOk then (o, plainRej eRange)
    else
      let st := groupCheck s d o e.sub e.val
      (o, ⟨st, false, st == eReadOnly⟩)

/-! ## Applying a write -/

/-- RO bytes of a record that mixes kinds (R88): the fire count of a trigger. -/
def roBytes (o : Nat) : Option (Nat × Nat) := if 0x51500 ≤ o ∧ o ≤ 0x5150F then some (48, 8) else none

/-- A changed port enable (11 R322): a port that is disabled goes down, an enabled one trains. -/
def effectPorts (s : Chip) (o old : Nat) : Chip :=
  if o = 0x11020 then
    (List.range 8).foldl (fun s p =>
      if bit (odN s o 0) p then s
      else if ssdState s p = 0 then s
      else if ssdState s p = 1 then odSet (drivePerst s (4 + p) false) 0x11021 (p + 1) 0
      else ssdGone s p) s
  else if o = 0x11030 then
    (List.range 4).foldl (fun s p =>
      if bit (odN s o 0) p then (if bit old p ∨ !bit (odN s 0x01002 0) 4 then s else farTrain s p)
      else if farState s p = 2 then farDown s p
      else odSet s 0x11031 (p + 1) 0) s
  else s

/-- What an applied write sets in motion; `s0` is the state before it, `old` the bytes before it. -/
def groupEffect (s0 s : Chip) (o sub : Nat) (old : Bytes) : Chip :=
  match o / 4096 with
  | 0x03 => effectTb s o
  | 0x04 | 0x05 => effectSecurity s0 s o sub
  | 0x11 => effectPorts s o (leNat old)
  | 0x20 => effectEth s o sub (leNat old)
  | 0x21 | 0x22 | 0x23 => effectTraffic s o sub old
  | 0x30 => if 0x30400 ≤ o ∧ o < 0x30440 then effectNs s (16 * (o - 0x30400) + (sub - 1)) old else s
  | 0x51 => effectDispatch s o sub old
  | 0x53 => if o = 0x53400 then effectModel s (sub - 1) old else s
  | 0x54 => effectWeights s o sub old
  | _ => s

/-- A value is stored in its object, RO bytes kept (R88). -/
def storeVal (s : Chip) (r : OdDef) (o sub : Nat) (val : Bytes) : Chip :=
  match roBytes o with
  | none => odPut s o sub (decodeVal r.type val)
  | some (off, n) =>
    let old := odB s o sub
    let v := splice val off (slice old off n)
    odSetB (if v = val then s else rejCount s o) o sub v

/-- An accepted write entry takes effect. -/
def writeEntry (s : Chip) (path : Path) (d : Dom) (e : Entry) : Chip :=
  match locate s d e.obj e.sub with
  | (_, none) => s
  | (_, some (r, o)) =>
    if noSubPort s o e.sub then s
    else if o = 0x01122 then setCursor s path (leNat e.val)
    else groupEffect s (storeVal s r o e.sub e.val) o e.sub (encodeVal r.type (odGet s o e.sub))

/-- The write entries of a request in order. -/
def applyWrites (s : Chip) (path : Path) (d : Dom) (es : List Entry) : Chip :=
  (es.filter (fun e => e.op == 0)).foldl (fun s e => writeEntry s path d e) s

/-- OD 01.104 counts an applied request that writes (R95); it runs from 1 to 2^64 - 1. -/
def countGeneration (s : Chip) : Chip :=
  let n := odN s 0x01104 0 + 1
  odSet s 0x01104 0 (if n = 2 ^ 64 then 1 else n)

/-- The first write entry that fails, by its index, its object and why; entries see the values of those before them (R92). -/
def firstRejected (d : Dom) (segment : Bool) : Chip → Nat → List Entry → Option (Nat × Nat × Rejection)
  | _, _, [] => none
  | s, i, e :: es =>
    if e.op ≠ 0 then firstRejected d segment s (i + 1) es
    else
      let x := writeCheck s d e segment
      if x.2.status ≠ eOk then some (i, x)
      else
        let s := match locate s d e.obj e.sub with
          | (_, some (r, o)) => if noSubPort s o e.sub then s else odPut s o e.sub (decodeVal r.type e.val)
          | _ => s
        firstRejected d segment s (i + 1) es

/-- The blocks that own the entries: one for each group; the dwell limits of chapter 02 are held on every die (03, worked
example). -/
def manyBlocks (es : List Entry) : Bool :=
  es.any (fun e => decide (0x03020 ≤ e.obj) && decide (e.obj ≤ 0x03024))
    || es.any (fun e => e.obj / 4096 != ((es.headD ⟨0, 0, 0, 0, []⟩).obj) / 4096)

end Sys2Proof.Machine
end

