-- ==== Sys2Proof/Machine/BringUp.lean ====
section
/-! DEFINITION. Cold start, boot, restoring the saved objects, bring-up to phase 5, PERST# and configuration requests (06,
03 R79 to R84). -/
namespace Sys2Proof.Machine

/-! ## Cold start -/

/-- A save region: 0 A, 1 B. -/
def saveRegion (s : Chip) (k : Nat) : Bytes := if k = 0 then s.flash.saveA else s.flash.saveB

/-- Set it. -/
def setSaveRegion (s : Chip) (k : Nat) (b : Bytes) : Chip :=
  if k = 0 then { s with flash := { s.flash with saveA := b } } else { s with flash := { s.flash with saveB := b } }

/-- A running save is torn (R103, R184): how much of body and then header has reached the target is open. -/
def tearSave (s : Chip) : Chip :=
  match s.save with
  | none => s
  | some j =>
    let old := saveRegion s j.target
    let f := takeFree s 32
    let t := f.1 % (j.body.length + 33)
    let h := t - j.body.length
    let region := j.header.take h ++ (old.take 32).drop h ++ j.body.take t ++ (old.drop 32).drop t
    setSaveRegion { f.2 with save := none } j.target region

/-- Key slots at a cold start: zeroised; while VAON stands, generations rise on and are kept (07 R202). -/
def coldSlots (t : Table KeySlot) : Table KeySlot :=
  t.map (fun x =>
    let k : KeySlot := x.2
    (x.1, if k.state = 0 then { k with issued := 0 } else ⟨0, [], 0, (k.gen + 1) % 65536, 0⟩))

/-- The block as a cold start leaves it (R79, Table 6-1), with its cause in OD 01.006. -/
def coldStart (s : Chip) (cause : Nat) : Chip :=
  let slots := if cause = 0 then [] else coldSlots s.sec.slots
  let c := coldOf (tearSave s)
  let c := { c with sec := { c.sec with slots := slots } }
  newNonce (odSet c 0x01006 0 cause)

/-- RESET_N low for a time (R166): shorter than 1 µs it is ignored; else a cold reset begins, with REMOVE_OK low. -/
def resetAssert (s : Chip) (ns : Nat) : Chip :=
  if ns < 1000 ∨ !s.boot.vaon then (if ns < 1000 then s else bootMod s (fun b => { b with resetLow := true }))
  else bootMod (coldStart s 1) (fun b => { b with resetLow := true })

/-- RESET_N_ASSERT. -/
def execResetNAssert (ns : Nat) (s : State) : Host.Outcome State Fault Refusal := run s (fun c => resetAssert c ns)

/-- RESET_N_RELEASE: the cold start begins, running time 0 (R79). -/
def resetRelease (s : Chip) : Chip :=
  if !s.boot.resetLow then s
  else if s.boot.vaon then bootMod (coldStart s 1) (fun b => { b with resetLow := false })
  else bootMod s (fun b => { b with resetLow := false })

/-- RESET_N_RELEASE. -/
def execResetNRelease (s : State) : Host.Outcome State Fault Refusal := run s resetRelease

/-- VAON_COLLAPSE (R69): the island stops, everything volatile is gone. -/
def vaonCollapse (s : Chip) : Chip := bootMod (coldOf (tearSave s)) (fun b => { b with vaon := false })

/-- VAON_COLLAPSE. -/
def execVaonCollapse (s : State) : Host.Outcome State Fault Refusal := run s vaonCollapse

/-- VAON_RISING: with RESET_N released, a cold start with cause 0. -/
def vaonRising (s : Chip) : Chip :=
  if s.boot.vaon then s else bootMod (coldStart s 0) (fun b => { b with vaon := true })

/-- VAON_RISING. -/
def execVaonRising (s : State) : Host.Outcome State Fault Refusal := run s vaonRising

/-! ## Restoring objects (R83, R84) -/

/-- LENGTH of a region's header. -/
def saveLength (b : Bytes) : Nat := fld b 12 4

/-- MAGIC, both CRCs and FORMAT check (Table 3-3). -/
def regionValid (b : Bytes) : Bool :=
  fld b 0 4 == 0x5653444F && fld b 10 2 == 1 && fld b 28 4 == crc32 (b.take 28) && decide (32 + saveLength b ≤ b.length)
    && fld b 16 4 == crc32 ((b.drop 32).take (saveLength b))

/-- One entry of a save body: object, subindex, type code, value. -/
def restoreOne (s : Chip) (obj sub type : Nat) (val : Bytes) : Option Chip :=
  match odRow obj with
  | none => none
  | some r =>
    if r.persist = 1 ∧ subOk r sub ∧ (r.subs = 0 ∨ 0 < sub) ∧ type = r.type.code ∧ valueCheck r val = eOk then
      some (odPut s obj sub (decodeVal r.type val))
    else none

/-- The entries of a save body, and how many were skipped. -/
def restoreAll : Nat → Chip → Bytes → Nat → Chip × Nat
  | 0, s, _, skipped => (s, skipped)
  | n + 1, s, b, skipped =>
    if b.length < 7 then (s, skipped)
    else
      let len := fld b 5 2
      let rest := b.drop (7 + len)
      match restoreOne s (fld b 0 1 * 4096 + fld b 1 2) (fld b 3 1) (fld b 4 1) ((b.drop 7).take len) with
      | some s => restoreAll n s rest skipped
      | none => restoreAll n s rest (skipped + 1)

/-- The copy to restore, and whether the other one is invalid. -/
def saveUsed (s : Chip) : Option (Nat × Bool) :=
  match regionValid s.flash.saveA, regionValid s.flash.saveB with
  | true, true => some (if seqNewer (fld s.flash.saveB 4 4) (fld s.flash.saveA 4 4) then 1 else 0, false)
  | true, false => some (0, true)
  | false, true => some (1, true)
  | false, false => none

/-- P objects from the newer valid copy, or their defaults (R83). -/
def restoreSaved (s : Chip) : Chip :=
  match saveUsed s with
  | none => raise (odSet s 0x01103 0 2) evOdRestoredDefaults 0
  | some (k, one) =>
    let b := saveRegion s k
    let x := restoreAll (saveLength b) s ((b.drop 32).take (saveLength b)) 0
    let s := odSet (odSet x.1 0x01102 0 (fld b 4 4)) 0x01103 0 k
    let s := if one then raise s evOdRestoredCopy (fld b 4 4) else s
    if x.2 = 0 then s else raise s evOdRestoreSkipped x.2

/-- What follows from restored objects: states of dispatch queues, paced egress queues, bifurcation and the consist in force,
the PLCA configuration. -/
def configTaken (s : Chip) : Chip :=
  let s := (odListed s 0x51040 0x5104B).foldl (fun s x => effectDispatch s x.1 x.2 []) s
  let s := takeConfig (showPaces s)
  { s with sl := { s.sl with plca := (odN s 0x06010 0, odN s 0x06011 0, odN s 0x06012 0, odN s 0x06013 0) } }

/-! ## Boot (R180 to R183, R191) -/

/-- RECOVERY (R182). -/
def enterRecovery (s : Chip) : Chip :=
  let x := odSet (odSet s 0x01001 0 5) 0x04001 0 2
  noteSecurity s x

/-- The signal box of a slot starts, with everything that the boot takes from flash. -/
def bootSlot (s : Chip) (k : Nat) (fallback : Bool) : Chip :=
  let b := slotBytes s k
  let s := odSet (odSet (odSet s 0x01005 0 k) 0x04002 0 (bootKeyIndex s k)) 0x00006 0 (slotVersion b)
  let s := fwMod s (fun f => { f with runSecurity := slotSecurity b })
  let s := (List.range 4).foldl (fun s i => measure s (i + 1) k (i + 1)) s
  let s := restoreSaved s
  let owned := (List.range 4).any (fun i => !isZero (odB s 0x04030 (i + 1)))
  let s := odSet s 0x04001 0 (if owned then 0 else 1)
  let s := configTaken (extendMr s 5 (mr5Inputs s))
  let s := (List.range 5).foldl startFromSlot s
  if fallback then raise s evBootSlotFallback k else s

/-- BOOT_ROM_LOAD: from 2 ms, the descriptor copy in use, its preferred slot, then the other one; `sigsA`, `sigsB` are the
verdicts on the signatures of the images of kinds 1 to 4. -/
def bootRomLoad (s : Chip) (sigsA sigsB : List Bool) : Chip :=
  if s.boot.resetLow ∨ !s.boot.vaon ∨ devState s ≠ 1 ∨ s.boot.signalBox ∨ coreState s 0 ≠ 0 ∨ nowNs s < ms 2 then s
  else
    let s := odSet s 0x01003 1 (ms 2)
    match descUsed s with
    | none => enterRecovery s
    | some d =>
      let desc := (descCopy s d).take 32
      let s := extendMr s 0 (leBytes 4 Config.bootRomVersion ++ desc)
      let sigs := fun (k : Nat) => if k = 0 then sigsA else sigsB
      let first := if fld desc 8 1 = 0 then 0 else 1
      if slotUsable s first (sigs first) then bootSlot s first false
      else if slotUsable s (1 - first) (sigs (1 - first)) then bootSlot s (1 - first) true
      else enterRecovery s

/-- BOOT_ROM_LOAD. -/
def execBootRomLoad (sigsA sigsB : List Bool) (s : State) : Host.Outcome State Fault Refusal :=
  run s (fun c => bootRomLoad c sigsA sigsB)

/-! ## Phases 1 to 4 -/

/-- Units that fail their bring-up test, and stored repairs, are dealt with without an event or a count (R39, R597). -/
def silently (s : Chip) (f : Chip → Chip) : Chip :=
  let x := f s
  odSet (odSet { x with events := s.events } 0x01120 0 (odN s 0x01120 0)) 0x01048 0 (odN s 0x01048 0)

/-- The repair store applied again (R597), and soft near-tier repairs turned into hard ones (12 R332). -/
def repairsAgain (s : Chip) : Chip :=
  let s := silently s (fun s => s.faults.store.foldl (fun s x => (repair s x.1 0 (x.2 / 16) true).s) s)
  let s := s.mem.softRows.foldl (fun s x =>
    let stack := x.1 % 4096 / 32
    raiseU (odSet s 0x40040 (stack + 1) (odN s 0x40040 (stack + 1) - 1)) evNearRepaired x.1 (stack + 512)) s
  { s with mem := { s.mem with softRows := [] } }

/-- PHASE1_END (R170): never before 30 ms; `bad`: hub units that fail their bring-up test. -/
def phase1End (s : Chip) (bad : List Nat) : Chip :=
  if s.boot.signalBox ∨ devState s ≠ 1 ∨ coreState s 0 = 0 ∨ nowNs s < ms 30 then s
  else
    let s := bootMod s (fun b => { b with signalBox := true })
    let s := { s with en := { s.en with intervalEnd := nowNs s + ms 1, windowEnd := nowNs s + ms (odN s 0x02020 0) } }
    let s := odSetBit (odSetBit s 0x01004 0 0 true) 0x01004 0 2 true
    let s := phases34 (repairsAgain (customerCoresOff s))
    (bad.filter (fun u => unitOk u && (unitDie u).isNone && !retired s u)).foldl (fun s u => (repair s u 0 0 false).s) s

/-- PHASE1_END. -/
def execPhase1End (bad : List Nat) (s : State) : Host.Outcome State Fault Refusal := run s (fun c => phase1End c bad)

/-- PHASE2_BEGIN: at 20 ms (Table 6-2). -/
def execPhase2Begin (s : State) : Host.Outcome State Fault Refusal :=
  run s (fun c =>
    if c.boot.resetLow ∨ !c.boot.vaon ∨ devState c ≠ 1 ∨ coreState c 0 = 0 ∨ bit (odN c 0x01002 0) 2 ∨ nowNs c < ms 20 then c
    else phase2 c)

/-- Array dies are being lit: in phase 4 of a bring-up, or in the step from E2 to E1. -/
def lighting (s : Chip) : Bool :=
  ((devState s == 1 || devState s == 4) && bit (odN s 0x01002 0) 4 && decide (power s ≤ 1))
    || (power s == 2 && s.en.trans.any (fun t => decide (t.target < 2) && !t.deferred))

/-- The arrays, vector unit and sequencers of a die that cannot be brought up. -/
def dieRetired (s : Chip) (d : Nat) : Chip :=
  let units := (List.range 4).map (fun u => 0x2000 + 4 * d + u) ++ [0x3000 + d]
  let s := (units.filter (fun u => !retired s u)).foldl (fun s u => (repair s u 0 0 false).s) s
  bootMod s (fun b => { b with dieFailed := tput b.dieFailed (d + 1) true })

/-- A die is lit (R175): staging SRAM zeroed, units that fail their test repaired or retired, sequencers started, adds held
for its signals applied, shadows and fences as they stand (03 R74). -/
def dieStarts (s : Chip) (d : Nat) (bad : List Nat) (seqOk : Bool) : Chip :=
  let s := emit s (.rail (d + 2) (tget 750 s.en.vcmd (d + 2)))
  let s := zeroRange s (stagingBase d) stagingSize
  let s := bootMod s (fun b => { b with dieLit := tput b.dieLit (d + 1) true })
  let s := (bad.filter (fun u => unitOk u && unitDie u == some d && !retired s u)).foldl (fun s u => (repair s u 0 0 false).s) s
  let s := (List.range 5).foldl (fun s u => unitFollows s d u true) s
  let s := [16 + 2 * d, 17 + 2 * d].foldl (fun s t =>
    if coreState s t = 6 then s else if seqOk then startFromSlot s t else setCoreState (setCore s t Core.off) t 1) s
  refence (applyHeld (stepReset s (d + 1) true))

/-- DIE_LIT: die 0 to 3 in order; `ok` is false where it cannot be brought up. -/
def dieComesUp (s : Chip) (d : Nat) (bad : List Nat) (ok seqOk : Bool) : Chip :=
  let up := fun (e : Nat) => dieLit s e || tget false s.boot.dieFailed (e + 1)
  if !lighting s ∨ 4 ≤ d ∨ up d ∨ !(List.range d).all up then s
  else odSetBit (if ok then dieStarts s d bad seqOk else dieRetired s d) 0x01004 0 (9 + d) true

/-- DIE_LIT. -/
def execDieLit (die : Nat) (bad : List Nat) (ok seqOk : Bool) (s : State) : Host.Outcome State Fault Refusal :=
  run s (fun c => dieComesUp c die bad ok seqOk)

/-! ## Phase 5 -/

/-- The running time at which the bring-up under way began: a cold start, a warm reset, or the step from E3 to E2. -/
def upSince (s : Chip) : Nat :=
  match s.boot.warmSince with
  | some t => t
  | none => match s.en.trans with
    | some t => if power s = 3 then t.since else 0
    | none => 0

/-- The package's own slot has passed once since then (R174). -/
def slotPassed (s : Chip) : Bool :=
  let first := ms (30 + 2 * ownOrd s)
  let base := upSince s
  let k := if base ≤ first then 0 else (base - first + ms 32 - 1) / ms 32
  decide (first + k * ms 32 + ms 2 ≤ nowNs s)

/-- Every link configured for the consist has trained, or has been declared down (R171, R174). -/
def clSettled (s : Chip) : Bool :=
  (List.range 8).all (fun l => !mayTrain s l || decide (2 ≤ odN s 0x60011 (l + 1))) || slotPassed s

/-- DEVICE_READY: phase 5 at the first moment at which all of R171 holds; `near`, `cache`, `manager` report that the near tier
is zeroed, the platform cache initialised, and the manager firmware running. -/
def deviceReady (s : Chip) (near cache manager : Bool) : Chip :=
  if !(devState s == 1 || devState s == 4) || !s.boot.signalBox || !bit (odN s 0x01002 0) 4 || !(near && cache && manager)
      || (decide (power s ≤ 1) && !diesUp s) || !clSettled s || coreState s 4 == 0 || coreState s 4 == 6 then s
  else
    let warm := s.boot.warmSince.isSome
    let s := bootMod s (fun b => { b with
      nearZeroed := true, cacheInit := true, managerUp := true, linksSettled := true, warmSince := none })
    let s := [7, 8, 13, 16].foldl (fun s b => odSetBit s 0x01004 0 b true) s
    let s := raise (phaseBegins (odSet s 0x01001 0 2) 5) evDeviceReady (nowNs s / 1000)
    if warm then raise s evWarmResetDone (odN s 0x01006 0) else s

/-- DEVICE_READY. -/
def execDeviceReady (near cache manager : Bool) (s : State) : Host.Outcome State Fault Refusal :=
  run s (fun c => deviceReady c near cache manager)

/-- READY_LATE (R172): 480 ms after a cold start, 400 ms after a warm reset (Table 6-1) or the start of E3 to E2 (R187). -/
def readyLate (s : Chip) : Chip :=
  let limit := if upSince s = 0 then ms 480 else ms 400
  if (devState s = 1 ∨ devState s = 4) ∧ upSince s + limit ≤ nowNs s ∧ !s.boot.readyLate ∧ !s.boot.resetLow ∧ s.boot.vaon then
    raise (odSet (bootMod s (fun b => { b with readyLate := true })) 0x01001 0 6) evReadyLate (readyMask s)
  else s

/-- READY_LATE. -/
def execReadyLate (s : State) : Host.Outcome State Fault Refusal := run s readyLate

/-! ## Far tier (R176) -/

/-- FAR_ZEROED, once every enabled port has been zeroed. -/
def farAllZeroed (s : Chip) : Chip :=
  let used := (List.range 4).filter (fun p => bit (odN s 0x11030 0) p && farState s p == 2 && !s.ports.farOut.contains p)
  if used.all (fun p => tget 0 s.boot.farLeft p == 0) && (List.range 4).all (fun p =>
      !bit (odN s 0x11030 0) p || farState s p != 1) then
    raise (odSetBit s 0x01004 0 17 true) evFarZeroed ((used.map (fun p => tget 0 s.boot.farZeroed p)).sum * granule)
  else s

/-- FAR_LINK_UP: `ok` reports the rows of Table 11-5 that width, rate, Flit mode and capacity do not show. -/
def farLinkUp (s : Chip) (p width rate : Nat) (flit256 ok : Bool) (cap : Nat) : Chip :=
  if 4 ≤ p ∨ farState s p ≠ 1 ∨ !bit (odN s 0x11030 0) p then s
  else
    let good := ok && (width == 16 || width == 8) && decide (1 ≤ rate) && decide (rate ≤ 6) && (flit256 || decide (rate ≤ 5))
      && cap % 1073741824 == 0 && decide (0 < cap) && decide (cap ≤ 549755813888)
    let word := fun (st : Nat) => linkWord (width % 256) (rate % 16) flit256 st + 32 * b2n flit256
    let s := odSet s 0x11031 (p + 1) (word (if good then 2 else 3))
    if !good then s
    else
      let s := odSet s 0x11032 (p + 1) cap
      let s := if width < 16 ∨ rate < 6 then raise s evLinkDegraded (12 + p + width * 256 + rate * 65536) else s
      if s.ports.farOut.contains p then s
      else bootMod s (fun b => { b with
        farLeft := tput b.farLeft p (cap / 1073741824), farZeroed := tput b.farZeroed p 0 })

/-- FAR_LINK_UP. -/
def execFarLinkUp (port width rate : Nat) (flit256 ok : Bool) (cap : Nat) (s : State) : Host.Outcome State Fault Refusal :=
  run s (fun c => farLinkUp c port width rate flit256 ok cap)

/-- FAR_ZEROING_BLOCK_DONE: 1 GiB of expander address, 512 granules, join the free pool and OD 01.047. -/
def farBlockDone (s : Chip) (p : Nat) : Chip :=
  if 4 ≤ p ∨ farState s p ≠ 2 ∨ s.ports.farOut.contains p ∨ tget 0 s.boot.farLeft p = 0 then s
  else
    let done := tget 0 s.boot.farZeroed p
    let s := (List.range 512).foldl (fun s i => zeroRange s (0x010000000000 + ((done + i) * 4 + p) * granule) granule) s
    let s := bootMod s (fun b => { b with
      farLeft := tput b.farLeft p (tget 0 b.farLeft p - 1), farZeroed := tput b.farZeroed p (done + 512) })
    let s := capacity s 0x01047 (odN s 0x01047 0 + 1073741824)
    if tget 0 s.boot.farLeft p = 0 then farAllZeroed s else s

/-- FAR_ZEROING_BLOCK_DONE. -/
def execFarZeroingBlockDone (port : Nat) (s : State) : Host.Outcome State Fault Refusal := run s (fun c => farBlockDone c port)

/-! ## Host ports -/

/-- PERST_ASSERT (R169): both links of the port go down, with their functions and platforms. -/
def perstAssert (s : Chip) (h : Nat) : Chip :=
  if 2 ≤ h ∨ perstOn s h then s
  else
    let s := [2 * h, 2 * h + 1].foldl (fun s i => hostLinkLost s i 0) s
    bootMod s (fun b => { b with perst := tput b.perst h true })

/-- PERST_ASSERT. -/
def execPerstAssert (port : Nat) (s : State) : Host.Outcome State Fault Refusal := run s (fun c => perstAssert c port)

/-- PERST_DEASSERT: the port trains, once phase 2 has begun (R177, R184). -/
def perstDeassert (s : Chip) (h : Nat) : Chip :=
  if 2 ≤ h ∨ !perstOn s h then s
  else
    let s := bootMod s (fun b => { b with perst := tput b.perst h false })
    if !bit (odN s 0x01002 0) 2 ∨ 3 ≤ power s ∧ !bit (odN s 0x02004 0) h then s
    else [2 * h, 2 * h + 1].foldl (fun s i => if linkExists s i then odSet s 0x11003 (i + 1) 1 else s) s

/-- PERST_DEASSERT. -/
def execPerstDeassert (port : Nat) (s : State) : Host.Outcome State Fault Refusal := run s (fun c => perstDeassert c port)

/-- Function Mask cleared: vectors that are unmasked and pending send their message (11 R308). -/
def unmaskFunction (s : Chip) (f : Nat) : Chip :=
  let x := fnOf s f
  let send := x.pend.filter (fun v => x.unmasked.contains v)
  let s := setFn s f { x with fnMask := false, pend := x.pend.filter (fun v => !x.unmasked.contains v) }
  send.foldl (fun s v => msix s f (fnLink s f) v) s

/-- A configuration write to a function that the link carries. -/
def configWrite (s : Chip) (link f : Nat) (w : Chip → Chip) : Chip :=
  if fnPresent s f && fnLink s f == link then w s else s

/-- What a completed configuration request does. -/
def configDone (s : Chip) (link : Nat) : CfgOp → Chip
  | .read =>
    let v := takeFree s 32
    emit v.2 (.config link false v.1)
  | .busMaster f on => emit (configWrite s link f (fun s => setFn s f { fnOf s f with bme := on })) (.config link false 0)
  | .memSpace f on => emit (configWrite s link f (fun s => setFn s f { fnOf s f with mse := on })) (.config link false 0)
  | .functionMask f on =>
    emit (configWrite s link f (fun s => if on then setFn s f { fnOf s f with fnMask := true } else unmaskFunction s f))
      (.config link false 0)
  | .powerState f d3 =>
    emit (configWrite s link f (fun s => if f < 4 then setFn s f { fnOf s f with d3hot := d3 } else s)) (.config link false 0)

/-- CONFIG_REQUEST (R173, R177): Retry Status, counted, before phase 5; completed from then on, also after a FATAL error
(24 R600) and in E3. -/
def configRequest (s : Chip) (link : Nat) (what : CfgOp) : Chip :=
  if 4 ≤ link ∨ !hostLinkUp s link then s
  else if phase5 s ∨ s.boot.fatal ∨ power s = 3 ∧ devState s ≠ 1 then configDone s link what
  else emit (odInc s 0x01020 (link / 2 + 1)) (.config link true 1)

/-- CONFIG_REQUEST. -/
def execConfigRequest (link : Nat) (what : CfgOp) (s : State) : Host.Outcome State Fault Refusal :=
  run s (fun c => configRequest c link what)

end Sys2Proof.Machine
end

