-- ==== Sys2Proof/Machine/PlatformReset.lean ====
section
/-! DEFINITION. The end of a platform reset: steps 3 to 6 of Table 10-8 (10 R287), each engine's part by its own chapter. -/
namespace Sys2Proof.Machine

/-- The platform's native queues go, their waybills without a completion (16 R431). -/
def nqPlatReset (s : Chip) (p : Nat) : Chip :=
  let mine := (s.storage.queues.filter (fun q => q.2.owner == p)).map (·.1)
  let s := mine.foldl wbAbortAll s
  { s with storage := { s.storage with queues := s.storage.queues.filter (fun q => q.2.owner != p) } }

/-- Steps 3 to 5. -/
def platClear (s : Chip) (p : Nat) : Chip :=
  let s := nqPlatReset (nvClear s p) p
  let s := relayPlatReset (servPlatReset (cipherPlatReset (dqPlatReset s p) p) p) p
  let s := rdmaPlatReset s p
  let s := { s with rdma := { s.rdma with cqs := s.rdma.cqs.filter (fun q => q.2.owner != p) } }
  let s := dropTlb (setMbx s p Mbx.off) p 0 0
  let s := dropWindows s p
  zeroiseSlots s (fun k => slotOwner s k == p)

/-- Every granule of the platform is reclaimed: zeroed and free (R272). -/
def reclaimAll (s : Chip) (p : Nat) : Chip :=
  let mine := (s.plats.owner.filter (fun o => o.2 == p)).map (·.1)
  let s := { s with plats := { s.plats with owner := s.plats.owner.filter (fun o => o.2 != p) } }
  let s := mine.foldl (fun s g => zeroRange s (g * granule) granule) s
  if mine.isEmpty then s else raiseP s evGranuleReclaimed p mine.length

/-- PLAT_RESET_DONE: step 6, or the end of PLAT_DISABLE. -/
def platResetDone (s : Chip) (p : Nat) : Chip :=
  if 64 ≤ p ∨ platState s p ≠ 2 then s
  else
    let disable := tget false s.plats.resetting p
    let s := platClear s p
    let s := { s with plats := { s.plats with resetting := tdel s.plats.resetting p } }
    if disable then
      let s := setPlatState (reclaimAll s p) p 0
      raiseP s evPlatDisabled p (platEpoch s p)
    else
      let s := setPlatState s p 1
      raiseP s evPlatResetDone p (platEpoch s p)

/-- PLAT_RESET_DONE. -/
def execPlatResetDone (plat : Nat) (s : State) : Host.Outcome State Fault Refusal := run s (fun c => platResetDone c plat)

end Sys2Proof.Machine
end

