-- ==== Sys2Proof/Machine/Admission.lean ====
section
/-! DEFINITION. Admission of waiting jobs against energy (05 R140 to R142), the window boundary (R137), dwell trips
(02 R62 to R65). -/
namespace Sys2Proof.Machine

/-! ## JOB_ADMIT -/

/-- A platform's work may be admitted: it is ENABLED; the domains' own always may. -/
def platAdmits (s : Chip) (p : Nat) : Bool := decide (64 ≤ p) || platOn s p

/-- The units of an entry of a dispatch queue (R139, by the chapter of its engine). -/
def entryUnits (s : Chip) (d : Nat) (b : Bytes) : Nat :=
  if dqTarget s d = 0 then jobUnits b
  else if dqTarget s d = 1 then decodeUnits b
  else if wbOp b = 3 then 0 else cdiv (wbBlocks b * nsBlock (nsRec s (wbNs b % 1024))) 1024

/-- The entry that asks: the head, or the job behind a WAIT at the head (19 R492). -/
def askingEntry (s : Chip) (d : Nat) : Option (Nat × DqEntry) :=
  match dqHead s d with
  | none => none
  | some e =>
    if !isControl e.b then some (0, e)
    else if fld e.b 0 1 ≠ 0xF0 then none
    else match (dqOf s d).entries.drop 1 with
      | f :: _ => if isControl f.b then none else some (1, f)
      | [] => none

/-- A waybill entry whose estimate is too large joins its native queue and ends there (16 Table 16-5). -/
def waybillTooLarge (s : Chip) (d : Nat) (e : DqEntry) : Chip :=
  let n := dqNative s d
  match nqOf s n with
  | none => s
  | some q =>
    if 256 ≤ q.wbs.length then s
    else
      let x := dqStart s d e none
      let s := wbJoin x.2 n q e.b 1 x.1.id 0xFFFF []
      match wbOf s n q.nextSeq with
      | none => s
      | some w => wbStop s n w 16

/-- A dispatch queue (R140, R141). Behind a WAIT, a job too large stays until it is the head. -/
def dispatchAdmit (s : Chip) (d : Nat) : Chip :=
  match askingEntry s d with
  | none => s
  | some (i, e) =>
    if e.adm ≠ 0 ∨ entryBad s d e.b ∨ !platAdmits s (dqView s d e.b).2.1 then s
    else match admitJob s (dqView s d e.b).2.1 (fld e.b 6 2) (entryUnits s d e.b) (dqDie d) with
      | .waits s => s
      | .admitted id s =>
        let q := dqOf s d
        setDq s d { q with entries := q.entries.take i ++ { e with adm := id } :: q.entries.drop (i + 1) }
      | .tooLarge =>
        if i ≠ 0 then s
        else if dqTarget s d = 2 then waybillTooLarge s d e
        else (dqStart s d e (some ⟨6, 0, 0, 0⟩)).2

/-- A native queue: the oldest waybill that has passed its checks and is not admitted (16 R418). -/
def nativeAdmit (s : Chip) (n : Nat) : Chip :=
  match nqOf s n with
  | none => s
  | some q =>
    match q.wbs.find? (fun w => w.stage == 0 && w.status == 0) with
    | none => s
    | some w =>
      if q.error ∨ !platAdmits s q.owner then s
      else match admitJob s q.owner (wbKet w.b) (cdiv (wbBytes w) 1024) 0 with
        | .waits s => s
        | .admitted id s => setWb s n { w with stage := 1, adm := id }
        | .tooLarge => wbStop s n w 16

/-- A cipher queue: its oldest request (17 R440). -/
def cipherAdmit (s : Chip) (k : Nat) : Chip :=
  if 16 ≤ k then s else
  match (portQ s k).waiting with
  | [] => s
  | e :: r =>
    if e.adm ≠ 0 ∨ cipherBad s k e.b ≠ 0 ∨ !platAdmits s (cPlat e.b) then s
    else match admitJob s (cPlat e.b) (cKet e.b) (cipherUnits e.b) 0 with
      | .waits s => s
      | .admitted id s => setPortQ s k { portQ s k with waiting := { e with adm := id } :: r }
      | .tooLarge => startRun s k e 0xFF [] (some (12, 0))

/-- A relay queue: its oldest descriptor; a package that leaves admits none (23 R582). -/
def relayAdmit (s : Chip) (k : Nat) : Chip :=
  if 16 ≤ k ∨ s.cons.leaving.isSome then s else
  match (portQ s (32 + k)).waiting with
  | [] => s
  | e :: r =>
    if e.adm ≠ 0 ∨ relayInvalid s (portCore s (32 + k)) e.b ∨ !platAdmits s (rPlat e.b) ∨ tagTaken s then s
    else match admitJob s (rPlat e.b) (rKet e.b) (relayUnits s e.b) 0 with
      | .waits s => s
      | .admitted id s => setPortQ s (32 + k) { portQ s (32 + k) with waiting := { e with adm := id } :: r }
      | .tooLarge => relayReject (takeWaiting s (32 + k) e.id) k e.id e.b 0 6

/-- JOB_ADMIT. A serving step and a weight load ask in the way of their chapters (21 R526, 22 R544). -/
def jobAdmit (s : Chip) : JobRef → Chip
  | .dispatch d => dispatchAdmit s d
  | .native n => nativeAdmit s n
  | .cipher k => cipherAdmit s k
  | .relay k => relayAdmit s k
  | .serving m => stepStart s m
  | .load => pumpLoad s

/-- JOB_ADMIT. -/
def execJobAdmit (job : JobRef) (s : State) : Host.Outcome State Fault Refusal := run s (fun c => jobAdmit c job)

/-! ## WINDOW_BOUNDARY -/

/-- The platform has jobs queued on a die (R142). -/
def jobsQueued (s : Chip) (die p : Nat) : Bool :=
  s.disp.dqs.any (fun q => dqDie q.1 == die && q.2.entries.any (fun e => !isControl e.b && (dqView s q.1 e.b).2.1 == p))

/-- WINDOW_BOUNDARY. -/
def execWindowBoundary (s : State) : Host.Outcome State Fault Refusal := run s (fun c => windowBoundary c jobsQueued)

/-! ## DWELL_TRIP -/

/-- Least and greatest limit of a dwell class, µs (02 Table 2-5). -/
def dwellRange (cls : Nat) : Nat × Nat :=
  match cls with
  | 0 => (2, 1000)
  | 1 => (5, 1000)
  | 2 => (10, 2000)
  | 3 => (500, 100000)
  | _ => (20, 10000)

/-- The dispatch jobs that a unit holds: those on it, by type. -/
def heldByUnit (unit d : Nat) (j : DqJob) : Bool :=
  let i := unit % 4096
  match unit / 4096 with
  | 0x2 => dqDie d == i / 4 + 1 && j.unit == i % 4
  | 0x3 => dqDie d == i + 1 && j.unit == 4
  | _ => false

/-- Work that the unit held ends with the dwell-timeout status of its engine (02 R64, 17 R451, 18 R478). -/
def heldEnds (s : Chip) (unit : Nat) (work : List HeldWork) : Chip :=
  let onEngine := fun (s : Chip) (d id : Nat) =>
    unit / 4096 == 0xB && (decRun s d id).any (fun r => r.engine == unit % 4096)
  let s := dqEndRunning s 9 (fun d j => heldByUnit unit d j || onEngine s d j.id || work.contains (.job j.id))
  let s := cipherEndAll s 15 (fun r => work.contains (.cipher r.id))
  let s := (s.cons.ops.filter (fun r => work.contains (.relay r.tag))).foldl (fun s r => relayFinish s r (r.status.getD 9)) s
  let s := s.storage.queues.foldl (fun s q =>
    wbEndAll s q.1 19 (q.2.wbs.filter (fun w => work.contains (.waybill q.1 w.seq)))) s
  (List.range 24).foldl (fun s t =>
    let c := coreOf s t
    let waits := match c.wait with | .sigwt n _ _ _ => sigUnit n == unit | _ => false
    if waits || work.contains (.core t) then enterException s t 4 6 c.pc none else s) s

/-- DWELL_TRIP: a stall that began at running time `start` has lasted its limit, in force when it began (R65), at a tick.
Channels of a dark die, and of a gate that is closed, are not timed (R62). The core side of a coupling link isolates the
link, which trains again (23 R587). -/
def dwellTrip (s : Chip) (unit cls die start limit plats detail : Nat) (work : List HeldWork) : Chip :=
  let r := dwellRange cls
  if !unitOk unit ∨ 4 < cls ∨ 4 < die ∨ limit < r.1 ∨ r.2 < limit ∨ nowNs s < start + us limit ∨ fenced s unit ∨ retired s unit
      ∨ (0 < die ∧ !dieLit s (die - 1)) ∨ (unitDie unit).any (fun d => !dieLit s d) ∨ s.boot.signalBox = false then s
  else
    let s := heldEnds s unit work
    let s := recordError s 3 5 unit 0 (plats % 2 ^ 64) detail
    let s := odInc s 0x03030 (die + 1)
    if unit / 4096 = 8 ∧ cls = 4 ∧ clUp s (unit % 4096 / 8) then clDown s (unit % 4096 / 8) else s

/-- DWELL_TRIP. -/
def execDwellTrip (unit cls die start limit plats detail : Nat) (work : List HeldWork) (s : State) :
    Host.Outcome State Fault Refusal :=
  run s (fun c => dwellTrip c unit cls die start limit plats detail work)

end Sys2Proof.Machine
end

