-- ==== Sys2Proof/Machine/DebugPort.lean ====
section
/-! DEFINITION. The SPDM responder (07 R194, R195; code points log 67) and the test access port (R209). -/
namespace Sys2Proof.Machine

/-! ## SPDM -/

/-- Requests reach the responder through PF0 while OD 04.020 is 1 (R194): configuration space is served from phase 5, and
the link of PF0 is up. -/
def spdmServed (s : Chip) : Bool :=
  odN s 0x04020 0 == 1 && phase5 s && hostLinkUp s 0 && power s != 4

/-- An answer. -/
def spdmAnswer (s : Chip) (code param : Nat) (body : Bytes) : Chip := emit s (.spdm code param body)

/-- ERROR with its code: 1 InvalidRequest, 4 UnexpectedRequest, 5 Unspecified, 7 UnsupportedRequest, 0x41 VersionMismatch. -/
def spdmError (s : Chip) (e : Nat) : Chip := spdmAnswer s 0x7F e []

/-- A request that the responder takes. -/
def spdm (s : Chip) (f : Chip → Chip) : Chip := if spdmServed s then f s else s

/-- GET_VERSION: versions 1.2 and 1.3; a negotiation begins again. -/
def execGetVersion (s : State) : Host.Outcome State Fault Refusal :=
  run s (fun c => spdm c (fun c =>
    spdmAnswer { c with sec := { c.sec with spdmVersion := 0, spdmAlgs := false } } 0x04 0
      (leBytes 1 2 ++ leBytes 2 0x1200 ++ leBytes 2 0x1300)))

/-- Capability flags: CERT [1], CHAL [2], MEAS signed [4:3] = 2. -/
abbrev spdmCaps : Nat := 0x16

/-- GET_CAPABILITIES in a version of 1.2 (0x12) or 1.3 (0x13). -/
def execGetCapabilities (version : Nat) (s : State) : Host.Outcome State Fault Refusal :=
  run s (fun c => spdm c (fun c =>
    if version = 0x12 ∨ version = 0x13 then
      spdmAnswer { c with sec := { c.sec with spdmVersion := version } } 0x61 version (leBytes 4 spdmCaps)
    else spdmError c 0x41))

/-- NEGOTIATE_ALGORITHMS: BaseAsymAlgo ECDSA P-384 (bit 7), BaseHashAlgo and MeasurementHashAlgo SHA-384. -/
def execNegotiateAlgorithms (s : State) : Host.Outcome State Fault Refusal :=
  run s (fun c => spdm c (fun c =>
    spdmAnswer { c with sec := { c.sec with spdmAlgs := true } } 0x63 0 (leBytes 4 0x80 ++ leBytes 4 0x02 ++ leBytes 4 0x04)))

/-- GET_DIGESTS: certificate slot 0 alone is populated. -/
def execGetDigests (s : State) : Host.Outcome State Fault Refusal :=
  run s (fun c => spdm c (fun c => spdmAnswer c 0x01 0x01 (sha384 certificates)))

/-- GET_CERTIFICATE: a part of the chain of slot 0, and how much remains. -/
def execGetCertificate (slot offset length : Nat) (s : State) : Host.Outcome State Fault Refusal :=
  run s (fun c => spdm c (fun c =>
    if slot ≠ 0 ∨ certificates.length ≤ offset then spdmError c 1
    else
      let part := (certificates.drop offset).take length
      spdmAnswer c 0x02 0 (leBytes 2 part.length ++ leBytes 2 (certificates.length - offset - part.length) ++ part)))

/-- The measurement registers MR0 to MR15. -/
def allMrs (s : Chip) : Bytes := ((List.range 16).map (fun i => odB s 0x04010 (i + 1))).flatten

/-- A nonce of the device. -/
def spdmNonce (s : Chip) : Bytes × Chip := let f := takeFree s 256; (leBytes 32 f.1, f.2)

/-- The signature by the identity key over what was asked and answered. -/
def spdmSign (s : Chip) (b : Bytes) : Bytes := signBytes (leBytes 1 s.sec.spdmVersion ++ b)

/-- CHALLENGE with a measurement summary over MR0 to MR15; Unspecified once the identity key is zeroised (R195). -/
def execChallenge (slot : Nat) (nonce : Bytes) (s : State) : Host.Outcome State Fault Refusal :=
  run s (fun c => spdm c (fun c =>
    if !c.sec.identity then spdmError c 5
    else if slot ≠ 0 then spdmError c 1
    else
      let n := spdmNonce c
      let body := sha384 certificates ++ n.1 ++ sha384 (allMrs c)
      spdmAnswer n.2 0x03 0 (body ++ spdmSign c (nonce ++ body))))

/-- GET_MEASUREMENTS: index 0 asks for their number, 1 to 16 for MR0 to MR15, 0xFF for all of them; a signature on
request, but none once the identity key is zeroised (R195). -/
def execGetMeasurements (index : Nat) (signed : Bool) (nonce : Bytes) (s : State) : Host.Outcome State Fault Refusal :=
  run s (fun c => spdm c (fun c =>
    if signed ∧ !c.sec.identity then spdmError c 5
    else if 16 < index ∧ index ≠ 0xFF then spdmError c 1
    else
      let body := if index = 0 then [] else if index = 0xFF then allMrs c else odB c 0x04010 index
      let param := if index = 0 then 16 else 0
      if signed then
        let n := spdmNonce c
        spdmAnswer n.2 0x60 param (body ++ n.1 ++ spdmSign c (nonce ++ body ++ n.1))
      else spdmAnswer c 0x60 param body))

/-- An SPDM answer among the outputs. -/
def Output.isSpdm : Output → Bool
  | .spdm _ _ _ => true
  | _ => false

/-- RESPOND_IF_READY: every request is answered at once, so the answer that stands is given again. -/
def execRespondIfReady (s : State) : Host.Outcome State Fault Refusal :=
  run s (fun c => spdm c (fun c =>
    match c.out.reverse.find? Output.isSpdm with
    | some o => emit c o
    | none => spdmError c 4))

/-- Every other request: ERROR UnsupportedRequest (Table 7-4). -/
def execSpdmUnsupported (code : Nat) (s : State) : Host.Outcome State Fault Refusal :=
  run s (fun c => spdm c (fun c => spdmAnswer c 0x7F 7 (leBytes 1 code)))

/-! ## Test access port -/

/-- The instruction register of the port, numbered in the order of R209; without VAON nothing is loaded. -/
def tapLoad (s : Chip) (n : Nat) : Chip :=
  if power s = 4 ∨ !s.boot.vaon then s else { s with sec := { s.sec with tapIr := n } }

/-- An instruction treated as BYPASS, and counted. -/
def tapRefused (s : Chip) : Chip := if power s = 4 ∨ !s.boot.vaon then s else odInc (tapLoad s 0) 0x05007 0

/-- An instruction that acts only while RESET_N is low. -/
def tapBoundary (s : Chip) (n : Nat) : Chip := if s.boot.resetLow then tapLoad s n else tapRefused s

/-- BYPASS. -/
def execBypass (s : State) : Host.Outcome State Fault Refusal := run s (fun c => tapLoad c 0)

/-- IDCODE: its register is shifted out. -/
def execIdcode (s : State) : Host.Outcome State Fault Refusal :=
  run s (fun c => if power c = 4 ∨ !c.boot.vaon then c else emit (tapLoad c 1) (.tap Config.idcode))

/-- SAMPLE/PRELOAD. -/
def execSamplePreload (s : State) : Host.Outcome State Fault Refusal := run s (fun c => tapLoad c 2)

/-- EXTEST. -/
def execExtest (s : State) : Host.Outcome State Fault Refusal := run s (fun c => tapBoundary c 3)

/-- CLAMP. -/
def execClamp (s : State) : Host.Outcome State Fault Refusal := run s (fun c => tapBoundary c 4)

/-- HIGHZ. -/
def execHighz (s : State) : Host.Outcome State Fault Refusal := run s (fun c => tapBoundary c 5)

/-- EXTEST_PULSE. -/
def execExtestPulse (s : State) : Host.Outcome State Fault Refusal := run s (fun c => tapBoundary c 6)

/-- EXTEST_TRAIN. -/
def execExtestTrain (s : State) : Host.Outcome State Fault Refusal := run s (fun c => tapBoundary c 7)

/-- The core of a debug access. -/
def tapTarget (op : TapOp) : Option Nat :=
  match op with
  | .halt t | .resume t | .readPc t | .readA t _ | .readD t _ | .writePc t _ | .writeA t _ _ | .writeD t _ _ => some t
  | .engine _ | .group7F _ => none

/-- The debug state allows the access (R209): DBG-OPEN reaches T04 to T23 and the engines of the open domain, DBG-FULL
everything. -/
def tapAllowed (s : Chip) (op : TapOp) : Bool :=
  match op, tapTarget op with
  | _, some t => decide (t < 24) && (dbgState s == 2 || (dbgState s == 1 && decide (4 ≤ t)))
  | .engine u, _ => unitOk u && (dbgState s == 2 || (dbgState s == 1 && !unitSealed s u))
  | _, _ => dbgState s == 2

/-- The block of an access has power: the dark dies of E2 have none, in E3 only what VAON feeds, T00 to T04 (Table 7-9). -/
def tapPowered (s : Chip) (op : TapOp) : Bool :=
  match op, tapTarget op with
  | _, some t => if power s = 3 then decide (t ≤ 4) else decide (t < 16) || dieLit s ((t - 16) / 2)
  | .engine u, _ => power s != 3 && (unitDie u).all (fun d => dieLit s d)
  | _, _ => true

/-- A debugger halt (08 R245): a wait is left, its instruction is executed again on resume (09 R266). -/
def tapHalt (s : Chip) (t : Nat) : Chip :=
  if coreState s t = 2 ∨ coreState s t = 3 then
    let s := setCoreState (setCore s t { coreOf s t with wait := .none }) t 5
    { s with sec := { s.sec with dbgHalted := s.sec.dbgHalted ++ [t] } }
  else s

/-- What an access does; what the state of an engine, or an object of group 7F, reads as is open (R72). -/
def tapAccess (s : Chip) (op : TapOp) : Chip :=
  match op with
  | .halt t => tapHalt s t
  | .resume t => if s.sec.dbgHalted.contains t then resumeCore s t else s
  | .readPc t => emit s (.tap (coreOf s t).pc.toNat)
  | .readA t r => emit s (.tap ((coreOf s t).ar r).toNat)
  | .readD t r => emit s (.tap ((coreOf s t).dr r).toNat)
  | .writePc t v => setCore s t { coreOf s t with pc := BitVec.ofNat 18 v }
  | .writeA t r v => setCore s t ((coreOf s t).setA r (BitVec.ofNat 48 v))
  | .writeD t r v => setCore s t ((coreOf s t).setD r (BitVec.ofNat 32 v))
  | .engine _ => let f := takeFree s 64; emit f.2 (.tap f.1)
  | .group7F _ => let f := takeFree s 64; emit f.2 (.tap f.1)

/-- A debug access: refused ones act as BYPASS; a block without power returns zero and sets the port's status bit. -/
def tapDebug (s : Chip) (op : TapOp) : Chip :=
  if power s = 4 ∨ !s.boot.vaon then s
  else if !tapAllowed s op then tapRefused s
  else
    let s := tapLoad s 8
    if !tapPowered s op then emit { s with sec := { s.sec with tapStatus := true } } (.tap 0)
    else tapAccess { s with sec := { s.sec with tapStatus := false } } op

/-- TAP_DEBUG_ACCESS. -/
def execTapDebugAccess (op : TapOp) (s : State) : Host.Outcome State Fault Refusal := run s (fun c => tapDebug c op)

end Sys2Proof.Machine
end

