-- ==== Sys2Proof/Machine/RdmaRx.lean ====
section
/-! DEFINITION. The responder (15 R389, R392, R394, R397), what the requester does with answers (R398, R400, R403, R404,
R405), and IPsec ESP (R407 to R410). -/
namespace Sys2Proof.Machine

/-! ## Counters and answers -/

/-- A counter of OD 24.030 and of the platform of the queue pair. -/
def rdmaCount (s : Chip) (plat sub : Nat) : Chip :=
  let s := odAdd64 s 0x24030 sub 1
  if plat < 64 then odAdd64 s (0x24080 + plat) sub 1 else s

/-- A counter of OD 25.001 and of a platform. -/
def espCount (s : Chip) (plat sub : Nat) : Chip :=
  let s := odAdd64 s 0x25001 sub 1
  if plat < 64 then odAdd64 s (0x25080 + plat) sub 1 else s

/-- The highest PSN up to which every packet has been placed. -/
def lastPlaced (q : Qp) : Nat := psnAdd q.expPsn (2 ^ 24 - 1)

/-- An AETH. -/
def aeth (syndrome msn : Nat) : Bytes := beN 1 syndrome ++ beN 3 msn

/-- The SACK of a relaxed queue pair: bit i for PSN + 1 + i (R396). -/
def sackBits (q : Qp) : Nat := maskOf 256 (fun i => q.placed.contains (psnAdd q.expPsn i))

/-- An acknowledgement of everything placed (R394, R396, R400). -/
def sendAck (s : Chip) (qpn : Nat) : Chip :=
  let q := qpOf s qpn
  if q.state ≠ 2 ∧ q.state ≠ 3 then s
  else
    let s := setQp s qpn { q with unacked := 0, ackAt := nowNs s }
    let op := if q.relaxed then 0xC2 else 0x11
    putPacket s qpn op (lastPlaced q) (bth op (qRemote q) (lastPlaced q) false 0 ++ aeth 0x1F q.msn
      ++ (if q.relaxed then leBytes 32 (sackBits q) else []))

/-- A NAK or RNR NAK for a PSN. -/
def sendNak (s : Chip) (qpn psn syndrome : Nat) : Chip :=
  let q := qpOf s qpn
  putPacket (rdmaCount s q.plat 4) qpn 0x11 psn (bth 0x11 (qRemote q) psn false 0 ++ aeth syndrome q.msn)

/-- NAK codes of an AETH: sequence error, invalid request, remote access error, remote operational error. -/
abbrev nakSequence : Nat := 0x60
/-- invalid request -/
abbrev nakInvalid : Nat := 0x61
/-- remote access error -/
abbrev nakAccess : Nat := 0x62
/-- remote operational error -/
abbrev nakOperation : Nat := 0x63

/-- Acknowledge where the packet asks for it, or 8 packets have gone unacknowledged (R400). -/
def ackIfDue (s : Chip) (qpn : Nat) (asked : Bool) : Chip :=
  let q := qpOf s qpn
  let n := q.unacked + 1
  if asked || decide (8 ≤ n) then sendAck s qpn else setQp s qpn { q with unacked := n }

/-- RESPONDER_ACK_TIMER: 2 µs since the last acknowledgement, with packets unacknowledged (R400). -/
def responderAckTimer (s : Chip) (qpn : Nat) : Chip :=
  let q := qpOf s qpn
  if 0 < q.unacked ∧ q.ackAt + 2000 ≤ nowNs s then sendAck s qpn else s

/-- RESPONDER_ACK_TIMER. -/
def execResponderAckTimer (qpn : Nat) (s : State) : Host.Outcome State Fault Refusal := run s (fun c => responderAckTimer c qpn)

/-! ## Packets received -/

/-- Fields of a base transport header. -/
def bthOp (b : Bytes) : Nat := be b 0 1
/-- destination queue pair -/
def bthQpn (b : Bytes) : Nat := be b 5 3
/-- acknowledgement requested -/
def bthAck (b : Bytes) : Bool := bit (be b 8 1) 7
/-- PSN -/
def bthPsn (b : Bytes) : Nat := be b 9 3
/-- What follows the BTH, without its pad bytes. -/
def bthBody (b : Bytes) : Bytes := (b.drop 12).take (b.length - 12 - bits (be b 1 1) 5 4)

/-- Opcodes of acknowledgements and responses. -/
def isAnswerOp (op : Nat) : Bool := op == 0x11 || op == 0x12 || op == 0xC2 || (decide (0x0D ≤ op) && decide (op ≤ 0x10))

/-- The oldest RoCEv2 frame that waits, where it has an opcode of this kind. -/
def takeRoce (s : Chip) (kind : Nat → Bool) : Option (RxFrame × Chip) :=
  match s.net.buffer.find? (fun f => f.cls == 3) with
  | none => none
  | some f => if kind (bthOp f.data) then some (f, { s with net := { s.net with buffer := s.net.buffer.erase f } }) else none

/-- A congestion notification to the peer, at most one per 50 µs (R403). -/
def notifyPeer (s : Chip) (qpn : Nat) : Chip :=
  let q := qpOf s qpn
  if q.cnpAt.any (fun t => decide (nowNs s < t + 50000)) then s
  else putPacket (setQp s qpn { q with cnpAt := some (nowNs s) }) qpn 0x81 0 (bth 0x81 (qRemote q) 0 false 0 ++ zeros 16)

/-- What every packet passes: ICRC, the queue pair's state (Table 15-2), ESP policy (R409), counts of packets and CE marks. -/
def received (s : Chip) (f : RxFrame) (k : Chip → Nat → Qp → Chip) : Chip :=
  let w := bthQpn f.data
  let q := qpOf s w
  let plat := if q.state = 0 then ownerIn s qpnOf w else q.plat
  if !f.icrcOk ∨ 2 ^ 18 ≤ w then s
  else if q.state < 2 then rdmaCount s plat 8
  else if q.state = 4 then s
  else if (match f.sa with | none => qEsp q | some i => qInSa q != some i) then espCount s q.plat 7
  else
    let s := rdmaCount s q.plat 2
    let s := if f.ecn = 3 then (let s := rdmaCount s q.plat 5; if q.ecn then notifyPeer s w else s) else s
    k s w (qpOf s w)

/-! ## Regions (R389) -/

/-- A fault record of the responder's own platform, where it has one; its cause is open for a key or an access right. -/
def regionFault (s : Chip) (plat a n : Nat) (cause : Option Nat) (write : Bool) : Chip :=
  if plat < 64 then
    match cause with
    | some c => xlateFault s plat a c uRdma n write
    | none => let f := takeFree s 8; xlateFault f.2 plat a f.1 uRdma n write
  else s

/-- The region of a remote request: key, access right (0 read, 1 write, 2 atomic), bound; none: refused, and recorded. -/
def regionFor (s : Chip) (q : Qp) (key a n right : Nat) : Option Mr × Chip :=
  match tget? s.rdma.mrs (key / 256) with
  | none => (none, regionFault s q.plat a n none (right != 0))
  | some m =>
    if m.rkey ≠ key ∨ m.plat ≠ q.plat ∨ !bit m.access right then (none, regionFault s q.plat a n none (right != 0))
    else if a < m.base ∨ m.base + 4096 * m.pages < a + n then
      (none, regionFault s q.plat (if a < m.base then a else max a (m.base + 4096 * m.pages)) n (some 5) (right != 0))
    else (some m, s)

/-- The bound of a region. -/
def mrBound (m : Mr) : Bound := ⟨m.base, m.base + 4096 * m.pages, .any⟩

/-! ## Placing (R392, R394, R397) -/

/-- The PSNs placed beyond the expected one are taken up. -/
def catchUp : Nat → Nat → List Nat → Nat × List Nat
  | 0, e, l => (e, l)
  | n + 1, e, l => if l.contains e then catchUp n (psnAdd e 1) (l.filter (· != e)) else (e, l)

/-- `n` PSNs from `psn` on have been placed. -/
def placedPsn (q : Qp) (psn n : Nat) : Qp :=
  if psn = q.expPsn then
    let r := catchUp (q.placed.length + 1) (psnAdd psn n) q.placed
    { q with expPsn := r.1, placed := r.2, nakSent := false }
  else { q with placed := q.placed ++ [psn] }

/-- A receive request that fails: its completion, the NAK, and ERROR. -/
def recvFails (s : Chip) (qpn psn st nak wrid n : Nat) : Chip :=
  let q := qpOf s qpn
  let s := sendNak s qpn psn nak
  let s := qpComplete (setQp s qpn { q with rqCons := idxNext q.rqCons, rx := none }) qpn true st 0x20 wrid n 0 0
  qpErrorAs s qpn 8 st

/-- A receive entry breaks its format, or its INDEX is not its slot's (R391). -/
def recvBad (i : Nat) (b : Bytes) : Bool :=
  fld b 0 2 != i || decide (3 < fld b 2 1) || fld b 3 1 != 0 || !isZero (slice b 24 40)

/-- The receive request at the head of a queue pair's ring: none posted, bad, or its entry. -/
inductive RecvWr where
  | empty
  | bad (b : Bytes) (s : Chip)
  | ok (b : Bytes) (s : Chip)
deriving DecidableEq, Repr

/-- Fetch it. -/
def recvHead (s : Chip) (qpn : Nat) : RecvWr :=
  let q := qpOf s qpn
  if q.rqCons = q.rqProd then .empty
  else
    let x := qpFetch s q (qRqBase q) (qRqLog q) q.rqCons
    if x.st ≠ 0 ∨ recvBad q.rqCons x.bytes then .bad x.bytes x.s else .ok x.bytes x.s

/-- Run `k` on the receive request at the head: RNR NAK where none is posted, BAD_DESCRIPTOR where it is malformed. -/
def withRecv (s : Chip) (qpn psn : Nat) (k : Chip → Bytes → Chip) : Chip :=
  match recvHead s qpn with
  | .empty => sendNak s qpn psn (0x20 + fld (qpOf s qpn).cfg 47 1 % 32)
  | .bad b s => recvFails s qpn psn 10 nakOperation (fld b 8 8) 0
  | .ok b s => k s b

/-- A message is complete on the receive side: its request is consumed and completed, then acknowledged. -/
def recvDone (s : Chip) (qpn opcode wrid n imm : Nat) (asked : Bool) : Chip :=
  let q := qpOf s qpn
  let s := setQp s qpn { q with rqCons := idxNext q.rqCons, rx := none, msn := (q.msn + 1) % 2 ^ 24 }
  ackIfDue (qpComplete s qpn true 0 opcode wrid n imm 0) qpn asked

/-- Status and NAK of a local transfer that failed. -/
def localStatus (st : Nat) : Nat := if st = 1 then 2 else 9

/-- A packet of a SEND, `first` and `last` by its opcode. -/
def rxSend (s : Chip) (qpn psn : Nat) (asked first last : Bool) (data : Bytes) : Chip :=
  withRecv s qpn psn (fun s b =>
    let q := qpOf s qpn
    let off := match q.rx with | some (_, _, n, _, _, _) => n | none => 0
    let addr := fld b 16 8
    let limit := fld b 4 4
    if first != q.rx.isNone ∨ (q.rx.any (fun r => r.1 != 1)) then sendNak s qpn psn nakInvalid
    else if limit < off + data.length then recvFails s qpn psn 1 nakInvalid (fld b 8 8) off
    else
      let x := xferWrite s (agentOf q.plat) (addr + off) data (fld b 2 1) 0 uRdma ⟨addr, addr + limit, .any⟩
      if x.st ≠ 0 then recvFails x.s qpn psn (localStatus x.st) nakOperation (fld b 8 8) (off + x.count)
      else
        let n := off + data.length
        let s := setQp x.s qpn (placedPsn { qpOf x.s qpn with rx := some (1, addr, n, limit, fld b 2 1, fld b 8 8) } psn 1)
        if last then recvDone s qpn 0x20 (fld b 8 8) n 0 asked else ackIfDue s qpn asked)

/-- A packet of a WRITE: address and key of the message, bytes so far, and its whole length. -/
def rxWriteData (s : Chip) (qpn psn : Nat) (asked last : Bool) (addr key off len : Nat) (imm : Option Nat) (data : Bytes) : Chip :=
  let q := qpOf s qpn
  if len < off + data.length ∨ (last && off + data.length != len) then sendNak s qpn psn nakInvalid
  else
    let m := if len = 0 then (some ⟨q.plat, key, addr, 0, 0, 0⟩, s) else regionFor s q key addr len 1
    match m with
    | (none, s) => sendNak s qpn psn nakAccess
    | (some m, s) =>
      let x := xferWrite s (agentOf q.plat) (addr + off) data m.hint 0 uRdma (mrBound m)
      if x.st ≠ 0 then sendNak x.s qpn psn (if x.st = 1 then nakAccess else nakOperation)
      else
        let s := setQp x.s qpn (placedPsn { qpOf x.s qpn with rx := some (2, addr, off + data.length, len, key, 0) } psn 1)
        if !last then ackIfDue s qpn asked
        else
          match imm with
          | none =>
            let q := qpOf s qpn
            ackIfDue (setQp s qpn { q with rx := none, msn := (q.msn + 1) % 2 ^ 24 }) qpn asked
          | some v =>
            match recvHead s qpn with
            | .ok b s => recvDone s qpn 0x21 (fld b 8 8) len v asked
            | .bad b s => recvFails s qpn psn 10 nakOperation (fld b 8 8) 0
            | .empty => s

/-- A packet of a WRITE or WRITE_IMM; a last packet with immediate data needs a receive request before it is placed. -/
def rxWrite (s : Chip) (qpn psn : Nat) (asked first last imm : Bool) (body : Bytes) : Chip :=
  let q := qpOf s qpn
  if first != q.rx.isNone ∨ (q.rx.any (fun r => r.1 != 2)) then sendNak s qpn psn nakInvalid
  else
    let v := if imm then some (leNat (slice body (if first then 16 else 0) 4)) else none
    let data := body.drop ((if first then 16 else 0) + (if imm then 4 else 0))
    let go := fun (s : Chip) =>
      if first then rxWriteData s qpn psn asked last (be body 0 8) (be body 8 4) 0 (be body 12 4) v data
      else
        match q.rx with
        | some (_, addr, n, len, key, _) => rxWriteData s qpn psn asked last addr key n len v data
        | none => s
    if imm then withRecv s qpn psn (fun s _ => go s) else go s

/-- The packets of a read's response, of a path MTU each. -/
def readAnswers (s : Chip) (qpn psn k total : Nat) (data : Bytes) : Nat → Chip
  | 0 => s
  | n + 1 =>
    let q := qpOf s qpn
    let first := k == 0
    let last := k + 1 == total
    let op := if first then (if last then 0x10 else 0x0D) else if last then 0x0F else 0x0E
    let part := data.take (qMtu q)
    let pad := (4 - part.length % 4) % 4
    let p := bth op (qRemote q) (psnAdd psn k) false pad ++ (if first || last then aeth 0x1F q.msn else []) ++ part ++ zeros pad
    readAnswers (putPacket s qpn op (psnAdd psn k) p) qpn psn (k + 1) total (data.drop (qMtu q)) n

/-- A READ request: also when it is a duplicate (R394). -/
def rxRead (s : Chip) (qpn psn : Nat) (dup : Bool) (body : Bytes) : Chip :=
  let q := qpOf s qpn
  let a := be body 0 8
  let len := be body 12 4
  if q.rx.isSome ∨ 2 ^ 31 < len then sendNak s qpn psn nakInvalid
  else
    match (if len = 0 then (some ⟨q.plat, 0, a, 0, 0, 0⟩, s) else regionFor s q (be body 8 4) a len 0) with
    | (none, s) => sendNak s qpn psn nakAccess
    | (some m, s) =>
      let x := xferRead s (agentOf q.plat) a len m.hint 0 uRdma (mrBound m)
      if x.st ≠ 0 then sendNak x.s qpn psn (if x.st = 1 then nakAccess else nakOperation)
      else
        let n := max 1 (cdiv len (qMtu q))
        let q := qpOf x.s qpn
        let s := if dup then x.s else setQp x.s qpn { placedPsn q psn n with msn := (q.msn + 1) % 2 ^ 24, unacked := 0, ackAt := nowNs x.s }
        readAnswers s qpn psn 0 n x.bytes n

/-- The answer to an atomic. -/
def atomicAnswer (s : Chip) (qpn psn orig : Nat) : Chip :=
  let q := qpOf s qpn
  putPacket s qpn 0x12 psn (bth 0x12 (qRemote q) psn false 0 ++ aeth 0x1F q.msn ++ beN 8 orig)

/-- The target of an atomic lies in device memory. -/
def atomicInDevice (s : Chip) (g : Agent) (a : Nat) : Bool :=
  match g with
  | .plat p => match translate s p a true with | .host _ _ _ => false | _ => true
  | _ => true

/-- An atomic (R389): one read-modify-write; a duplicate is answered from the last 15 results (R394). -/
def rxAtomic (s : Chip) (qpn psn : Nat) (swap dup : Bool) (body : Bytes) : Chip :=
  let q := qpOf s qpn
  let a := be body 0 8
  let g := agentOf q.plat
  if dup then
    match q.atomics.find? (fun x => x.1 == psn) with
    | some x => atomicAnswer s qpn psn x.2
    | none => sendNak s qpn psn nakInvalid
  else if q.rx.isSome ∨ a % 8 ≠ 0 then sendNak s qpn psn nakInvalid
  else
    match regionFor s q (be body 8 4) a 8 2 with
    | (none, s) => sendNak s qpn psn nakAccess
    | (some m, s) =>
      if !atomicInDevice s g a then sendNak (regionFault s q.plat a 8 none true) qpn psn nakAccess
      else
        let x := xferRead s g a 8 m.hint 0 uRdma (mrBound m)
        if x.st ≠ 0 then sendNak x.s qpn psn (if x.st = 1 then nakAccess else nakOperation)
        else
          let old := leNat x.bytes
          let new := if swap then (if old = be body 20 8 then be body 12 8 else old) else (old + be body 12 8) % 2 ^ 64
          let y := xferWrite x.s g a (leBytes 8 new) m.hint 0 uRdma (mrBound m)
          if y.st ≠ 0 then sendNak y.s qpn psn (if y.st = 1 then nakAccess else nakOperation)
          else
            let q := placedPsn (qpOf y.s qpn) psn 1
            let s := setQp y.s qpn { q with
              msn := (q.msn + 1) % 2 ^ 24, atomics := ((psn, old) :: q.atomics).take 15, unacked := 0, ackAt := nowNs y.s }
            atomicAnswer s qpn psn old

/-- Lengths that the position of a packet in its message allows: full packets but for the last. -/
def lengthOk (q : Qp) (first last : Bool) (n : Nat) : Bool :=
  if last then decide (n ≤ qMtu q) && (first || decide (0 < n)) else n == qMtu q

/-- A request packet in its turn: opcodes of RC (R384), any other is an invalid request. -/
def rxPerform (s : Chip) (qpn : Nat) (dup : Bool) (b : Bytes) : Chip :=
  let q := qpOf s qpn
  let op := bthOp b
  let psn := bthPsn b
  let asked := bthAck b
  let body := bthBody b
  let first := op == 0 || op == 4 || op == 6 || op == 0xA || op == 0xB
  let last := op == 2 || op == 4 || op == 8 || op == 9 || op == 0xA || op == 0xB
  let imm := op == 9 || op == 0xB
  let head := if 6 ≤ op then (if first then 16 else 0) + (if imm then 4 else 0) else 0
  if op = 0x0C then rxRead s qpn psn dup body
  else if op = 0x13 ∨ op = 0x14 then rxAtomic s qpn psn (op == 0x13) dup body
  else if !([0, 1, 2, 4, 6, 7, 8, 9, 0xA, 0xB].contains op) then sendNak s qpn psn nakInvalid
  else if dup then sendAck s qpn
  else if body.length < head ∨ !lengthOk q first last (body.length - head) then sendNak s qpn psn nakInvalid
  else if op < 6 then rxSend s qpn psn asked first last body
  else rxWrite s qpn psn asked first last imm body

/-- RX_REQUEST_PACKET (R389, R394, R404): the expected packet is performed, an earlier one is a duplicate, and the first
one ahead is answered with a sequence error. -/
def rxRequest (s : Chip) : Chip :=
  match takeRoce s (fun op => !isAnswerOp op && op != 0x81 && op != 0xC0 && op != 0xC1) with
  | none => s
  | some (f, s) =>
    received s f (fun s w q =>
      let psn := bthPsn f.data
      if psn = q.expPsn then rxPerform s w false f.data
      else if psnLe psn q.expPsn ∨ q.placed.contains psn then rxPerform s w true f.data
      else if q.nakSent then s
      else sendNak (setQp s w { q with nakSent := true }) w q.expPsn nakSequence)

/-- RX_REQUEST_PACKET. -/
def execRxRequestPacket (s : State) : Host.Outcome State Fault Refusal := run s rxRequest

/-- A relaxed packet inside the window that has not been placed. -/
def rxRelaxedNew (s : Chip) (w : Nat) (q : Qp) (f : RxFrame) (body : Bytes) : Chip :=
  let psn := bthPsn f.data
  let a := be body 0 8
  let key := be body 8 4
  let data := body.drop 24
  if body.length < 24 ∨ be body 12 4 ≠ data.length ∨ qMtu q < data.length then sendNak s w psn nakInvalid
  else
    match (if data.length = 0 then (some ⟨q.plat, key, a, 0, 0, 0⟩, s) else regionFor s q key a data.length 1) with
    | (none, s) => sendNak s w psn nakAccess
    | (some m, s) =>
      if bthOp f.data = 0xC1 then
        sendAck (setQp s w { q with
          finals := q.finals ++ [⟨psn, fld body 16 3, fld body 20 3, a, key, data, f.sub, f.tcl, f.len⟩] }) w
      else
        let x := xferWrite s (agentOf q.plat) a data m.hint 0 uRdma (mrBound m)
        if x.st ≠ 0 then sendNak x.s w psn (if x.st = 1 then nakAccess else nakOperation)
        else sendAck (setQp x.s w (placedPsn (qpOf x.s w) psn 1)) w

/-- RX_RELAXED_PACKET (R397): placed in any order within 256 of the next expected PSN; a FINAL is held; a packet already
placed is acknowledged alone, one already held is dropped. -/
def rxRelaxed (s : Chip) : Chip :=
  match takeRoce s (fun op => op == 0xC0 || op == 0xC1) with
  | none => s
  | some (f, s) =>
    received s f (fun s w q =>
      let psn := bthPsn f.data
      if !q.relaxed then sendNak s w psn nakInvalid
      else if q.placed.contains psn || (psn != q.expPsn && psnLe psn q.expPsn) then sendAck s w
      else if 256 ≤ psnSub psn q.expPsn then rdmaCount s q.plat 7
      else if q.finals.any (fun h => h.psn == psn) then s
      else rxRelaxedNew s w q f (bthBody f.data))

/-- RX_RELAXED_PACKET. -/
def execRxRelaxedPacket (s : State) : Host.Outcome State Fault Refusal := run s rxRelaxed

/-- Every PSN from the group's first to the FINAL's has been placed. -/
def groupPlaced (q : Qp) (h : Held) : Bool :=
  (List.range (psnSub h.psn h.first)).all (fun i =>
    let p := psnAdd h.first i
    q.placed.contains p || (p != q.expPsn && psnLe p q.expPsn))

/-- The agent of a queue pair's signal adds (R486). -/
def qpSigAgent (q : Qp) : SigAgent := if q.plat < 64 then .plat q.plat else .opn

/-- FINAL_PLACED (R397): the held FINAL is placed once, then the signal or the FINAL_PLACED completion, then the ACK. -/
def finalPlaced (s : Chip) (w : Nat) : Chip :=
  let q := qpOf s w
  match q.finals.find? (groupPlaced q) with
  | none => s
  | some h =>
    let q := { q with finals := q.finals.erase h }
    match (if h.data.length = 0 then (some ⟨q.plat, h.rkey, h.addr, 0, 0, 0⟩, s) else regionFor s q h.rkey h.addr h.data.length 1) with
    | (none, s) => sendNak (setQp s w q) w h.psn nakAccess
    | (some m, s) =>
      let x := xferWrite s (agentOf q.plat) h.addr h.data m.hint 0 uRdma (mrBound m)
      if x.st ≠ 0 then sendNak (setQp x.s w q) w h.psn (if x.st = 1 then nakAccess else nakOperation)
      else
        let s := setQp x.s w (placedPsn { q with msn := (q.msn + 1) % 2 ^ 24 } h.psn 1)
        let s := if qFinal q = 0xFFFF then qpComplete s w true 0 0x22 0 h.data.length h.group 0
          else addSignal s (qpSigAgent q) (qFinal q)
        sendAck s w

/-- FINAL_PLACED. -/
def execFinalPlaced (qpn : Nat) (s : State) : Host.Outcome State Fault Refusal := run s (fun c => finalPlaced c qpn)

/-! ## Answers to the requester (R392, R398, R400, R405) -/

/-- The last PSN of a request under way. -/
def lastPsn (x : Sent) : Nat := psnAdd x.first (x.pkts - 1)

/-- The request is a relaxed write of a relaxed queue pair. -/
def isRelaxed (q : Qp) (x : Sent) : Bool := q.relaxed && (wOp x.b == 8 || wOp x.b == 9)

/-- A request is complete once `p` is acknowledged: its own packets, and in relaxed mode the FINAL of its group (R398). A
read or an atomic waits for its response. -/
def ackedBy (q : Qp) (p : Nat) (x : Sent) : Bool :=
  x.done.isNone && !isReadAtomic (wOp x.b) && decide (x.next = sendCount q x.b) &&
    (if isRelaxed q x then
      q.sent.any (fun y => isRelaxed q y && wOp y.b == 9 && y.group == x.group && y.next == sendCount q y.b && psnLe (lastPsn y) p)
     else psnLe (lastPsn x) p)

/-- The PSN that a cumulative acknowledgement covers lies among those outstanding. -/
def ackNew (q : Qp) (p : Nat) : Bool := decide (psnSub p q.una < psnSub q.nextPsn q.una)

/-- Everything up to `p` is acknowledged: requests done, RTT samples (R400), progress. The smoothed RTT's rule is open. -/
def ackTo (s : Chip) (w p : Nat) : Chip :=
  let q := qpOf s w
  if !ackNew q p then s
  else
    let covered := q.times.filter (fun t => psnLe t.1 p)
    let rtt := (covered.filter (fun t => t.1 % 8 == 0)).map (fun t => nowNs s - t.2)
    let f := if rtt.isEmpty then (q.srtt, s) else takeFree s 32
    setQp f.2 w { q with
      una := psnAdd p 1, progress := nowNs s, retries := fld q.cfg 46 1 % 8, srtt := f.1
      times := q.times.filter (fun t => !psnLe t.1 p), samples := q.samples ++ rtt
      sent := q.sent.map (fun x => if ackedBy q p x then { x with done := some 0, moved := wLen x.b } else x) }

/-- One packet is sent again, and consumes a retry (R398). -/
def resendOne (s : Chip) (w psn : Nat) : Chip :=
  let q := qpOf s w
  if q.state ≠ 3 then s
  else
    match q.sent.find? (fun x => x.done.isNone && isRelaxed q x && decide (psnSub psn x.first < x.next)) with
    | none => s
    | some x =>
      if q.retries = 0 then qpError s w 6
      else
        let p := packetShape q x (psnSub psn x.first)
        let r := if p.2.2.2 = 0 then (⟨0, [], 0, s⟩ : Xfer)
          else xferRead s (agentOf q.plat) (fld x.b 16 8 + p.2.2.1) p.2.2.2 (bits (fld x.b 3 1) 3 2) 0 uRdma
            ⟨0, fld x.b 16 8 + wLen x.b, .any⟩
        if r.st ≠ 0 then setQp r.s w (failSent q x (localStatus r.st))
        else
          let pad := (4 - r.bytes.length % 4) % 4
          let s := rdmaCount (setQp r.s w { q with retries := q.retries - 1 }) q.plat 3
          putPacket s w p.1 psn (bth p.1 (qRemote q) psn true pad ++ p.2.1 ++ r.bytes ++ zeros pad)

/-- A SACK marks a higher PSN: missing ones sent more than one smoothed RTT ago are sent again (R398). -/
def sackMissing (s : Chip) (w p bitsIn : Nat) : Chip :=
  let q := qpOf s w
  if bitsIn = 0 then s
  else
    let miss := (List.range bitsIn.log2).filter (fun i => !bit bitsIn i)
    miss.foldl (fun s i =>
      let psn := psnAdd p (i + 1)
      match tget? q.times psn with
      | some t => if t + q.srtt < nowNs s then resendOne s w psn else s
      | none => s) s

/-- The RNR time of a timer code in ns (RoCEv2 specification). -/
def rnrNs (code : Nat) : Nat :=
  nth [65536, 1, 2, 3, 4, 6, 8, 12, 16, 24, 32, 48, 64, 96, 128, 192, 256, 384, 512, 768, 1024, 1536, 2048, 3072, 4096, 6144, 8192,
       12288, 16384, 24576, 32768, 49152] (code + 1) * 10000

/-- The request that a PSN belongs to. -/
def sentAt (q : Qp) (psn : Nat) : Option Sent := q.sent.find? (fun x => x.done.isNone && decide (psnSub psn x.first < max 1 x.pkts))

/-- A NAK fails the request of its PSN; a refused relaxed opcode is also reported (R395). -/
def nakFails (s : Chip) (w psn st : Nat) : Chip :=
  let q := qpOf s w
  match sentAt q psn with
  | none => s
  | some x =>
    let s := if st = 4 ∧ isRelaxed q x then raiseP s evRelaxedRefused q.plat w else s
    advance (setQp s w (failSent q x st)) w

/-- An ACK, RNR NAK or NAK. -/
def rxAeth (s : Chip) (w psn syn sack : Nat) : Chip :=
  let before := psnAdd psn (2 ^ 24 - 1)
  let code := syn % 32
  if syn / 32 % 4 = 0 then advance (sackMissing (ackTo s w psn) w psn sack) w
  else
    let s := settle (ackTo s w before) w ((qpOf s w).sent.length + 1)
    let q := qpOf s w
    if q.state ≠ 3 ∨ (sentAt q psn).isNone then advance s w
    else if syn / 32 % 4 = 1 then
      (if q.rnrLeft = 0 then qpError s w 7
       else setQp s w { q with rnrLeft := (if q.rnrLeft = 7 then 7 else q.rnrLeft - 1), rnrUntil := some (nowNs s + rnrNs code) })
    else if code = 0 then retryFrom s w psn
    else if code = 1 then nakFails s w psn 4
    else if code = 2 then nakFails s w psn 3
    else nakFails s w psn 5

/-- A packet of a read's response; one ahead of its turn shows a loss. -/
def rxReadAnswer (s : Chip) (w psn : Nat) (body : Bytes) (op : Nat) : Chip :=
  let q := qpOf s w
  match q.sent.find? (fun x => x.done.isNone && wOp x.b == 3 && decide (psnSub psn x.first < x.pkts)) with
  | none => s
  | some x =>
    let due := psnAdd x.first (x.moved / qMtu q)
    if psn ≠ due then (if psnLe psn due then s else retryFrom s w due)
    else
      let data := if op = 0x0E then body else body.drop 4
      let n := wLen x.b
      if n < x.moved + data.length then s
      else
        let a := fld x.b 16 8
        let y := xferWrite s (agentOf q.plat) (a + x.moved) data (bits (fld x.b 3 1) 3 2) 0 uRdma ⟨a, a + n, .any⟩
        if y.st ≠ 0 then advance (setQp y.s w (failSent (qpOf y.s w) x (localStatus y.st))) w
        else
          let m := x.moved + data.length
          let q := qpOf y.s w
          let s := setQp y.s w { q with sent := q.sent.map (fun z =>
            if z.first = x.first ∧ z.idx = x.idx then { z with moved := m, done := if m = n then some 0 else none } else z) }
          advance (ackTo s w psn) w

/-- The answer to an atomic. -/
def rxAtomicAnswer (s : Chip) (w psn : Nat) (body : Bytes) : Chip :=
  let q := qpOf s w
  match q.sent.find? (fun x => x.done.isNone && (wOp x.b == 4 || wOp x.b == 5) && x.first == psn) with
  | none => s
  | some x =>
    let orig := be body 4 8
    let a := fld x.b 16 8
    let y := xferWrite s (agentOf q.plat) a (leBytes 8 orig) (bits (fld x.b 3 1) 3 2) 0 uRdma ⟨a, a + 8, .any⟩
    if y.st ≠ 0 then advance (setQp y.s w (failSent (qpOf y.s w) x (localStatus y.st))) w
    else
      let q := qpOf y.s w
      let s := setQp y.s w { q with sent := q.sent.map (fun z =>
        if z.first = x.first ∧ z.idx = x.idx then { z with orig := orig, moved := 8, done := some 0 } else z) }
      advance (ackTo s w psn) w

/-- RX_ACK: acknowledgements and responses; only a queue pair in RTS has requests out. -/
def rxAck (s : Chip) : Chip :=
  match takeRoce s isAnswerOp with
  | none => s
  | some (f, s) =>
    received s f (fun s w q =>
      let op := bthOp f.data
      let psn := bthPsn f.data
      let body := bthBody f.data
      if q.state ≠ 3 then s
      else if op = 0x12 then rxAtomicAnswer s w psn body
      else if op = 0x11 then rxAeth s w psn (be body 0 1) 0
      else if op = 0xC2 then rxAeth s w psn (be body 0 1) (fld body 4 32)
      else rxReadAnswer s w psn body op)

/-- RX_ACK. -/
def execRxAck (s : State) : Host.Outcome State Fault Refusal := run s rxAck

/-- A congestion notification lowers the rate, once per interval (R403). -/
def cnpRate (s : Chip) (w : Nat) (q : Qp) : Chip :=
  match profileOf s q.plat with
  | none => s
  | some k =>
    let low := fun (r : Nat) => r - r * prof s k 16 2 / 512
    let s := setQp s w { q with cnpInInterval := true }
    match profShaper s q.plat with
    | none => setRate s w (min (max (low q.rate) (if q.yielded then 1000 else prof s k 4 4)) (prof s k 8 4))
    | some h =>
      let r := shaperRec s h
      let y := (tget ⟨0, false, false, 0⟩ s.rdma.loops h).yielded
      loopRate s h (min (max (low (fld r 4 4)) (if y then 1000 else fld r 12 4)) (fld r 16 4))

/-- CNP_RX: counted; acted on only with ECN assist. -/
def cnpRx (s : Chip) : Chip :=
  match takeRoce s (· == 0x81) with
  | none => s
  | some (f, s) =>
    received s f (fun s w q =>
      let s := rdmaCount s q.plat 6
      if q.ecn ∧ q.state = 3 ∧ !q.cnpInInterval then cnpRate s w q else s)

/-- CNP_RX. -/
def execCnpRx (s : State) : Host.Outcome State Fault Refusal := run s cnpRx

/-! ## ESP (R407 to R410) -/

/-- Fields of the argument of SA_ADD. -/
def saSpi (a : Sa) : Nat := fld a.arg 4 4
/-- outbound -/
def saOut (a : Sa) : Bool := fld a.arg 8 1 == 1
/-- KEY_SLOT -/
def saSlot (a : Sa) : Nat := fld a.arg 10 2
/-- KEY_GEN -/
def saGen (a : Sa) : Nat := fld a.arg 12 2

/-- The flow meter of an association: the argument's for the open domain, the platform's else. -/
def saMeter (s : Chip) (a : Sa) : Nat := if a.owner < 64 then flowMeter s a.owner else fld a.arg 14 2

/-- A slot's key may be used for ESP by its owner: READY, USE[0], 16 or 32 bytes. -/
def espKeyOk (s : Chip) (owner i : Nat) : Bool :=
  let k := keySlot s i
  decide (i < keySlots) && slotOwner s i == owner && k.state == 1 && bit k.use 0 && (k.key.length == 16 || k.key.length == 32)

/-- OD 25.010, SA_ADD. -/
def actSaAdd : Act := fun s rq arg =>
  let owner := reqOwner (domainOf s rq)
  let i := fld arg 0 4
  let dir := fld arg 8 1
  let meter := fld arg 14 2
  if 65536 ≤ i ∨ !ownsNum s sanOf owner i ∨ (tget? s.rdma.sas i).isSome ∨ !espKeyOk s owner (fld arg 10 2) ∨ 1 < dir
      ∨ (dir = 0 ∧ s.rdma.sas.any (fun a => !saOut a.2 && saSpi a.2 == fld arg 4 4))
      ∨ fld arg 9 1 ≠ 0 ∨ fld arg 20 4 ≠ 0 ∨ !isZero (slice arg 48 16)
      ∨ (64 ≤ owner ∧ 16384 ≤ meter ∧ meter ≠ 0xFFFF) then refuse s eRange
  else acted { s with rdma := { s.rdma with sas := tput s.rdma.sas i ⟨owner, arg, fld arg 24 8, 0, 0, false⟩ } }

/-- SA_ADD. -/
def execSaAdd (rq : Rq) (arg : Bytes) (s : State) : Host.Outcome State Fault Refusal :=
  run s (actionRow actSaAdd 0x25010 rq arg)

/-- OD 25.011, SA_DELETE. -/
def actSaDelete : Act := fun s rq arg =>
  let i := leNat arg
  if !ownsNum s sanOf (reqOwner (domainOf s rq)) i ∨ (tget? s.rdma.sas i).isNone then refuse s eRange
  else acted { s with rdma := { s.rdma with sas := tdel s.rdma.sas i } }

/-- SA_DELETE. -/
def execSaDelete (rq : Rq) (arg : Bytes) (s : State) : Host.Outcome State Fault Refusal :=
  run s (actionRow actSaDelete 0x25011 rq arg)

/-- A sequence number may still be accepted: ahead, or in the window of 4,096 and not seen. -/
def replayOk (a : Sa) (n : Nat) : Bool :=
  decide (a.highest < n) || (decide (a.highest < n + 4096) && !bit a.window (a.highest - n))

/-- The window after a number has been accepted. -/
def replayTake (a : Sa) (n : Nat) : Sa :=
  if a.highest < n then { a with highest := n, window := (a.window * 2 ^ min 4096 (n - a.highest) + 1) % 2 ^ 4096 }
  else { a with window := a.window ||| 2 ^ (a.highest - n) }

/-- Initialisation vector of an association's packet: salt, then the number. -/
def espIv (a : Sa) (n : Nat) : Bytes := slice a.arg 16 4 ++ beN 8 n

/-- Additional data: SPI, then the 64-bit number. -/
def espAad (a : Sa) (n : Nat) : Bytes := beN 4 (saSpi a) ++ beN 8 n

/-- The RoCEv2 packet in the plaintext of an ESP packet: behind its UDP header, without ICRC, pad and trailer. -/
def espInner (t : Bytes) : Option Bytes :=
  let n := t.length
  let pad := fld t (n - 2) 1
  if n < pad + 26 ∨ fld t (n - 1) 1 ≠ 17 ∨ be t 2 2 ≠ 4791 then none
  else some ((t.drop 8).take (n - 2 - pad - 12))

/-- ESP_INBOUND (R409): the oldest ESP packet: association, window, verification, window, inner packet. `fault`: the cipher
engine reports a fault. -/
def espInbound (s : Chip) (fault : Bool) : Chip :=
  match takeFrame s (fun f => f.cls == 4) with
  | none => s
  | some (f, s) =>
    let b := f.data
    let n := be b 8 8
    match s.rdma.sas.find? (fun a => !saOut a.2 && !a.2.stopped && saSpi a.2 == be b 0 4) with
    | none => odAdd64 s 0x25001 3 1
    | some (i, a) =>
      if b.length < 32 ∨ !replayOk a n then espCount s a.owner 4
      else if fault ∨ keyCheck s a.owner (saSlot a) (saGen a) 0 ≠ 0 then espCount s a.owner 6
      else
        let key := (keySlot s (saSlot a)).key
        let ct := (b.drop 16).take (b.length - 32)
        if gcmTag key (espIv a n) (espAad a n) ct ≠ b.drop (b.length - 16) then espCount s a.owner 5
        else
          let s := espCount { s with rdma := { s.rdma with sas := tput s.rdma.sas i (replayTake a n) } } a.owner 1
          match espInner (gcmText key (espIv a n) ct) with
          | none => espCount s a.owner 7
          | some p => { s with net := { s.net with buffer := s.net.buffer ++ [{ f with cls := 3, data := p, sa := some i }] } }

/-- ESP_INBOUND. -/
def execEspInbound (fault : Bool) (s : State) : Host.Outcome State Fault Refusal := run s (fun c => espInbound c fault)

/-- Queue pairs that name an outbound association. -/
def saUsers (s : Chip) (i : Nat) : List Nat := (s.rdma.qps.filter (fun q => qOutSa q.2 == some i)).map (·.1)

/-- The ESP packet around a RoCEv2 packet; UDP source port and ICRC are open. -/
def espPacket (s : Chip) (a : Sa) (key p : Bytes) : Bytes × Chip :=
  let f := takeFree s 16
  let g := takeFree f.2 32
  let t := beN 2 f.1 ++ beN 2 4791 ++ beN 2 (12 + p.length) ++ zeros 2 ++ p ++ leBytes 4 g.1
  let pad := (4 - (t.length + 2) % 4) % 4
  let t := t ++ (List.range pad).map (fun i => BitVec.ofNat 8 (i + 1)) ++ beN 1 pad ++ beN 1 17
  let ct := gcmText key (espIv a a.next) t
  (beN 4 (saSpi a) ++ beN 4 (a.next % 2 ^ 32) ++ beN 8 a.next ++ ct ++ gcmTag key (espIv a a.next) (espAad a a.next) ct, g.2)

/-- A frame of queue `q` is replaced, or dropped. -/
def editFrame (s : Chip) (q : Nat) (f : Frame) (g : Option Frame) : Chip :=
  setFrames s q ((qFrames s q).filterMap (fun x => if x = f then g else some x))

/-- ESP_OUTBOUND (R410): the oldest frame of an egress queue that is still to be encrypted takes the next number of its
association. -/
def espOutbound (s : Chip) (q : Nat) (fault : Bool) : Chip :=
  match (qFrames s q).find? (fun f => f.sa.isSome) with
  | none => s
  | some f =>
    let i := f.sa.getD 0
    match tget? s.rdma.sas i with
    | none => editFrame s q f none
    | some a =>
      if a.stopped ∨ !saOut a then editFrame s q f none
      else if 2 ^ 64 ≤ a.next then
        let s := { s with rdma := { s.rdma with sas := tput s.rdma.sas i { a with stopped := true } } }
        let s := raiseP (espCount (editFrame s q f none) a.owner 8) evSaExhausted (if a.owner < 64 then a.owner else 0xFF) i
        (saUsers s i).foldl (fun s w => qpError s w 11) s
      else
        let s := { s with rdma := { s.rdma with sas := tput s.rdma.sas i { a with next := a.next + 1 } } }
        if fault ∨ keyCheck s a.owner (saSlot a) (saGen a) 0 ≠ 0 then espCount (editFrame s q f none) a.owner 6
        else
          let p := espPacket s a (keySlot s (saSlot a)).key f.data
          espCount (editFrame p.2 q f (some { f with data := p.1, sa := none })) a.owner 2

/-- ESP_OUTBOUND. -/
def execEspOutbound (queue : Nat) (fault : Bool) (s : State) : Host.Outcome State Fault Refusal :=
  run s (fun c => espOutbound c queue fault)

end Sys2Proof.Machine
end

