-- ==== Sys2Proof/Machine/EthFrames.lean ====
section
/-! DEFINITION. Received Ethernet frames (13 R348 to R354, R360) and the in-band datagrams among them (04 R127). -/
namespace Sys2Proof.Machine

/-! ## In-band datagrams -/

/-- The in-band path is served on the Ethernet port of a sub-port (R124, R127). -/
def inbandOn (s : Chip) (i : Nat) : Bool :=
  subState s i == 2 && (bit (odN s 0x06020 0) (i / 8) || bit s.sl.fallback (i / 8))

/-- A datagram addressed to the in-band port (R127): peer, checksum, no fragment, rate; then as any request of a network. -/
def inbandRx (s : Chip) (d : Datagram) : Chip :=
  let seen := s.sl.seen.filter (fun x => decide (nowNs s < x.2 + 1000000000))
  if !answering s ∨ !inbandOn s d.ep then s
  else if 16 ≤ d.peer ∨ isZero (odB s 0x06024 (d.peer + 1)) ∨ !d.checksumOk ∨ d.fragment ∨ 1500 < d.pdu.length
      ∨ odN s 0x06026 0 ≤ (seen.filter (fun x => x.1 == d.peer)).length then odInc s 0x06045 0
  else
    intakeNet { s with sl := { s.sl with seen := seen ++ [(d.peer, nowNs s)] } } (.inband d.ep d.peer) d.pdu false

/-- INBAND_DATAGRAM_RX. -/
def execInbandDatagramRx (d : Datagram) (s : State) : Host.Outcome State Fault Refusal := run s (fun c => inbandRx c d)

/-! ## The parser -/

/-- The headers of an accepted frame: tag, whether the frame is parsed behind it, EtherType, addresses (IPv4 mapped), DSCP,
ECN, upper protocol (none: no IP packet that is recognised) and where its header and the packet's end lie. -/
structure Parsed where
  tag : Option Nat
  et : Nat
  ip : Bool
  src : Bytes
  dst : Bytes
  dscp : Nat
  ecn : Nat
  proto : Option Nat
  l4 : Nat
  stop : Nat
deriving DecidableEq, Repr

/-- An IPv4 address as an IPv4-mapped one. -/
def mapped (a : Bytes) : Bytes := zeros 10 ++ [0xFF, 0xFF] ++ a

/-- Extension headers of IPv6: hop-by-hop, routing, destination options; at most two. -/
def skipExt (b : Bytes) : Nat → Nat → Nat → Nat × Nat
  | 0, next, off => (next, off)
  | n + 1, next, off =>
    if next = 0 ∨ next = 43 ∨ next = 60 then skipExt b n (be b off 1) (off + 8 * (be b (off + 1) 1 + 1)) else (next, off)

/-- Headers within the first 256 bytes. -/
def l4Proto (b : Bytes) (next off : Nat) : Option Nat := if off + 8 ≤ min 256 b.length then some next else none

/-- Parse from the EtherType `et` at `off` on. -/
def parseIp (b : Bytes) (tag : Option Nat) (et off : Nat) : Parsed :=
  if et = 0x0800 ∧ be b off 1 / 16 = 4 ∧ 20 ≤ 4 * (be b off 1 % 16) then
    let l4 := off + 4 * (be b off 1 % 16)
    let frag := be b (off + 6) 2 % 2 ^ 14 != 0
    ⟨tag, et, true, mapped (slice b (off + 12) 4), mapped (slice b (off + 16) 4), be b (off + 1) 1 / 4, be b (off + 1) 1 % 4,
     if frag then none else l4Proto b (be b (off + 9) 1) l4, l4, min b.length (off + be b (off + 2) 2)⟩
  else if et = 0x86DD ∧ be b off 1 / 16 = 6 then
    let tc := be b off 2 / 16 % 256
    let x := skipExt b 2 (be b (off + 6) 1) (off + 40)
    ⟨tag, et, true, slice b (off + 8) 16, slice b (off + 24) 16, tc / 4, tc % 4, l4Proto b x.1 x.2, x.2,
     min b.length (off + 40 + be b (off + 4) 2)⟩
  else ⟨tag, et, false, [], [], 0, 0, none, off, b.length⟩

/-- Parse a frame: only the first tag; one with a second tag or a service tag is not parsed further. -/
def parseFrame (b : Bytes) : Parsed :=
  let t := be b 12 2
  if t = 0x8100 then
    let e := be b 16 2
    if e = 0x8100 ∨ e = 0x88A8 then ⟨some (be b 14 2), 0, false, [], [], 0, 0, none, 18, b.length⟩
    else parseIp b (some (be b 14 2)) e 18
  else if t = 0x88A8 then ⟨none, 0, false, [], [], 0, 0, none, 14, b.length⟩
  else parseIp b none t 14

/-! ## Addresses -/

/-- Multicast addresses of Table 13-2 and the solicited-node address of OD 20.015. -/
def multicastOk (s : Chip) (i : Nat) (a : Nat) : Bool :=
  [0x011B19000000, 0x0180C200000E, 0x0180C2000001, 0x01005E000181, 0x01005E00006B, 0x333300000181, 0x33330000006B].contains a
  || (!isZero (odB s 0x20015 (i + 1)) && a == 0x3333FF000000 + be (odB s 0x20015 (i + 1)) 13 3)

/-- The frame is addressed to the sub-port. -/
def frameAddressed (s : Chip) (i : Nat) (b : Bytes) : Bool :=
  let a := be b 0 6
  a == odN s 0x20013 (i + 1) || a == 0xFFFFFFFFFFFF || multicastOk s i a

/-- The frame's tag is allowed. -/
def tagAllowed (s : Chip) (i : Nat) (b : Bytes) : Bool :=
  be b 12 2 != 0x8100 || be b 14 2 % 4096 == odN s 0x20016 (i + 1) || be b 14 2 % 4096 == 0

/-- A numeric IPv4 address and an IPv6 address, where set, name this destination. -/
def addressedTo (v4 : Nat) (v6 : Bytes) (a : Bytes) : Bool :=
  (v4 != 0 && a == mapped (beN 4 v4)) || (!isZero v6 && a == slice v6 0 16)

/-- The IP addresses of a sub-port. -/
def subAddressed (s : Chip) (i : Nat) (a : Bytes) : Bool := addressedTo (odN s 0x20014 (i + 1)) (odB s 0x20015 (i + 1)) a

/-- Multicast destinations of PTP over UDP. -/
def ptpGroups : List Bytes :=
  [mapped [224, 0, 1, 129], mapped [224, 0, 0, 107], [0xFF, 0x0E] ++ zeros 12 ++ [0x01, 0x81], [0xFF, 0x02] ++ zeros 13 ++ [0x6B]]

/-- Ingress classes (Table 13-2): 1 PTP, 2 in-band, 3 RoCEv2, 4 ESP, 5 flow control, 6 other. -/
def frameClass (s : Chip) (i : Nat) (b : Bytes) (p : Parsed) : Nat :=
  let a := be b 0 6
  let port := be b (p.l4 + 2) 2
  if p.et = 0x8808 then 5
  else if p.et = 0x88F7 ∧ (a = 0x011B19000000 ∨ a = 0x0180C200000E) then 1
  else
    match p.proto with
    | some 17 =>
      if (port = 319 ∨ port = 320) ∧ (subAddressed s i p.dst || ptpGroups.contains p.dst) then 1
      else if port = odN s 0x06021 0 ∧ inbandOn s i ∧ addressedTo (odN s 0x06022 0) (odB s 0x06023 0) p.dst then 2
      else if port = 4791 ∧ subAddressed s i p.dst then 3
      else 6
    | some 50 => if subAddressed s i p.dst then 4 else 6
    | _ => 6

/-- The traffic class (R351). -/
def trafficClass (s : Chip) (i : Nat) (p : Parsed) : Nat :=
  if odN s 0x20020 (i + 1) = 0 then
    match p.tag with
    | some t => bits (odN s 0x20021 (i + 1)) (3 * (t / 8192) + 2) (3 * (t / 8192))
    | none => odN s 0x20023 (i + 1)
  else if p.ip then odN s 0x20022 (p.dscp + 1)
  else odN s 0x20023 (i + 1)

/-! ## Delivery -/

/-- PF0's raw queue pair of a sub-port (R350). -/
def rawQp (s : Chip) (i : Nat) : Option Nat :=
  (s.rdma.qps.find? (fun q => qRaw q.2 && qTcl q.2 == i && (q.2.state == 2 || q.2.state == 3))).map (·.1)

/-- A frame of the class other: into the raw receive queue, or counted. -/
def rawDeliver (s : Chip) (i : Nat) (b : Bytes) : Chip :=
  match rawQp s i with
  | none => portCount s i 17 1
  | some w =>
    match recvHead s w with
    | .empty => portCount s i 17 1
    | .bad e s => rawFails s w 10 (fld e 8 8) 0
    | .ok e s =>
      if fld e 4 4 < b.length then rawFails s w 1 (fld e 8 8) 0
      else
        let x := xferWrite s (agentOf (qpOf s w).plat) (fld e 16 8) b (fld e 2 1) 0 uRdma ⟨fld e 16 8, fld e 16 8 + fld e 4 4, .any⟩
        if x.st ≠ 0 then rawFails x.s w (localStatus x.st) (fld e 8 8) x.count
        else
          let s := setQp x.s w { qpOf x.s w with rqCons := idxNext (qpOf x.s w).rqCons }
          qpComplete s w true 0 0x23 (fld e 8 8) b.length 0 0
where
  /-- a raw receive request that fails takes its queue pair to ERROR -/
  rawFails (s : Chip) (w st wrid n : Nat) : Chip :=
    let s := setQp s w { qpOf s w with rqCons := idxNext (qpOf s w).rqCons }
    qpErrorAs (qpComplete s w true st 0x23 wrid n 0 0) w 8 st

/-- The flow meter of a frame: of the platform of its queue pair, or of its security association. -/
def frameMeter (s : Chip) (cls : Nat) (data : Bytes) : Nat :=
  if cls = 3 then flowMeter s (ownerIn s qpnOf (bthQpn data))
  else if cls = 4 then
    match s.rdma.sas.find? (fun a => !saOut a.2 && saSpi a.2 == be data 0 4) with
    | some (_, a) => saMeter s a
    | none => 0xFFFF
  else 0xFFFF

/-- Traffic class, meters and buffer admission (R351, R366, R368, R355): the frame passes, or is dropped. -/
def admitFrame (s : Chip) (i cls len : Nat) (p : Parsed) (data : Bytes) : Bool × Nat × Chip :=
  let t := trafficClass s i p
  let m := meterFrame s i t (frameMeter s cls data) len (if p.ip then some p.dscp else none)
    (p.tag.map (fun t => 2 * (t / 8192) + t / 4096 % 2))
  let occ := portOccupancy s (i / 8)
  let stats := fun (s : Chip) c => m.2.1.foldl (fun s k => meterStat s k c) s
  if m.1.action = 2 then (false, t, stats m.2.2 m.1.colour)
  else if m.1.action = 1 ∧ odN s 0x22030 (i / 8 + 1) ≤ occ then (false, t, stats m.2.2 2)
  else if 16777216 < occ + len then (false, t, portCount (stats m.2.2 m.1.colour) i 13 1)
  else (true, t, stats m.2.2 m.1.colour)

/-- Put a frame in the ingress buffer for its consumer. -/
def bufferFrame (s : Chip) (f : RxFrame) : Chip := { s with net := { s.net with buffer := s.net.buffer ++ [f] } }

/-- A UDP payload. -/
def udpBody (b : Bytes) (p : Parsed) : Bytes := (b.drop (p.l4 + 8)).take (min (p.stop - p.l4 - 8) (be b (p.l4 + 4) 2 - 8))

/-- The peer of a source address, 16 where none is listed. -/
def peerOf (s : Chip) (a : Bytes) : Nat :=
  ((List.range 16).find? (fun k => !isZero (odB s 0x06024 (k + 1)) && odB s 0x06024 (k + 1) == a)).getD 16

/-- A frame in its class (Table 13-2). -/
def classified (s : Chip) (i : Nat) (b : Bytes) (mark : RxMark) (p : Parsed) : Chip :=
  let cls := frameClass s i b p
  let len := b.length + 4
  let early := odInc s 0x01022 (i / 8 + 1)
  if cls = 5 then
    let o := if p.tag.isSome then 18 else 14
    if be b o 2 = 0x0101 then bufferFrame s ⟨i, 0, 0, 5, b.drop o, [], [], 0, true, none⟩ else portCount s i 16 1
  else if cls = 1 then bufferFrame s ⟨i, 0, 0, 1, b, p.src, p.dst, p.ecn, true, none⟩
  else if cls = 2 then inbandRx s ⟨i, peerOf s p.src, false, mark.udpOk, udpBody b p⟩
  else if !phase5 s then early
  else if cls = 6 then
    let a := admitFrame s i cls len p []
    if a.1 then rawDeliver a.2.2 i b else a.2.2
  else if cls = 3 then
    let d := udpBody b p
    let w := bthQpn d
    if d.length < 16 then s
    else if (let o := ownerIn s qpnOf w; o < 64 && !platOn s o) then early
    else
      let a := admitFrame s i cls len p d
      if a.1 then bufferFrame a.2.2 ⟨i, a.2.1, len, 3, d.take (d.length - 4), p.src, p.dst, p.ecn, mark.icrcOk, none⟩ else a.2.2
  else
    let d := (b.drop p.l4).take (p.stop - p.l4)
    let a := admitFrame s i cls len p d
    if a.1 then bufferFrame a.2.2 ⟨i, a.2.1, len, 4, d, p.src, p.dst, p.ecn, mark.icrcOk, none⟩ else a.2.2

/-! ## Cut-through (R353, R354) -/

/-- The header checks of a write packet that cut-through needs: its queue pair, its turn, its region: where its payload goes. -/
def cutTarget (s : Chip) (d : Bytes) (esp : Bool) : Option (Agent × Nat × Mr) :=
  let w := bthQpn d
  let q := qpOf s w
  let op := bthOp d
  let body := bthBody d
  let relaxed := op == 0xC0
  if esp ∨ (q.state ≠ 2 ∧ q.state ≠ 3) ∨ qEsp q ∨ !([6, 7, 8, 0xA, 0xC0].contains op) ∨ relaxed != q.relaxed
      ∨ (!relaxed && bthPsn d != q.expPsn) ∨ (relaxed && decide (256 ≤ psnSub (bthPsn d) q.expPsn)) then none
  else if op = 7 ∨ op = 8 then
    match q.rx with
    | some (2, addr, n, len, key, _) => ((regionFor s q key addr len 1).1).map (fun m => (agentOf q.plat, addr + n, m))
    | _ => none
  else ((regionFor s q (be body 8 4) (be body 0 8) (be body 12 4) 1).1).map (fun m => (agentOf q.plat, be body 0 8, m))

/-- Bytes of a write's headers after its BTH. -/
def cutHeader (op : Nat) : Nat := if op = 0xC0 then 24 else if op = 6 ∨ op = 0xA then 16 else 0

/-- A frame that fails its FCS or a codeword, or a write that fails its ICRC: the payload that cut-through has written stays
written; dropped and counted in 18. -/
def cutThrough (s : Chip) (i : Nat) (b : Bytes) (mark : RxMark) (p : Parsed) : Option Chip :=
  if !phase5 s ∨ !bit (odN s 0x20011 0) i ∨ !mark.clean ∨ mark.cut = 0 ∨ !frameAddressed s i b ∨ !tagAllowed s i b
      ∨ frameClass s i b p ≠ 3 then none
  else
    let d := udpBody b p
    match cutTarget s d false with
    | none => none
    | some (g, a, m) =>
      let data := ((bthBody (d.take (d.length - 4))).drop (cutHeader (bthOp d))).take mark.cut
      some (portCount (xferWrite s g a data m.hint 0 uRdma (mrBound m)).s i 18 1)

/-! ## Receipt -/

/-- ETH_FRAME_RX: FEC and FCS, size, address, VLAN (R346, R348), then the parser. -/
def ethFrameRx (s : Chip) (i : Nat) (b : Bytes) (mark : RxMark) : Chip :=
  let len := b.length + 4
  let p := parseFrame b
  if !subExists s i ∨ subState s i ≠ 2 then s
  else
    let s := fecCount s i mark.corrected mark.uncorrectable
    let bad := !mark.fecOk || !mark.fcsOk
    if bad || !mark.icrcOk then
      match cutThrough s i b mark p with
      | some s => s
      | none =>
        if !mark.fecOk then portCount s i 8 1
        else if !mark.fcsOk then portCount s i 5 1
        else accept s i b mark p len
    else accept s i b mark p len
where
  /-- the checks of a frame whose FCS holds -/
  accept (s : Chip) (i : Nat) (b : Bytes) (mark : RxMark) (p : Parsed) (len : Nat) : Chip :=
    if len < 64 then portCount s i 9 1
    else if odN s 0x20010 (i + 1) < len then portCount s i 10 1
    else if !frameAddressed s i b then portCount s i 11 1
    else if !tagAllowed s i b then portCount s i 12 1
    else classified (portCount (portCount s i 1 1) i 2 len) i b mark p

/-- ETH_FRAME_RX. -/
def execEthFrameRx (sub : Nat) (frame : Bytes) (mark : RxMark) (s : State) : Host.Outcome State Fault Refusal :=
  run s (fun c => ethFrameRx c sub frame mark)

end Sys2Proof.Machine
end

