-- ==== Sys2Proof/Machine/Stages.lean ====
section
/-! DEFINITION. The save of the persistent objects (03 R82, R85) and staged blocks (03 R96 to R98). -/
namespace Sys2Proof.Machine

/-! ## The save -/

/-- An entry of a save body: group, index, subindex, type code, length, value (03, The two-copy save). -/
def saveEntry (obj sub : Nat) (r : OdDef) (val : Bytes) : Bytes :=
  leBytes 1 (obj / 4096) ++ leBytes 2 (obj % 4096) ++ leBytes 1 sub ++ leBytes 1 r.type.code ++ leBytes 2 val.length ++ val

/-- The body: every P object that does not have its default, since an object without an entry takes its default (R84). -/
def saveBody (s : Chip) : Bytes :=
  ((odListed s 0 0xFFFFF).map (fun x =>
    match odRow x.1 with
    | none => []
    | some r => if r.persist = 1 then saveEntry x.1 x.2 r (encodeVal r.type (odGet s x.1 x.2)) else [])).flatten

/-- The header (Table 3-3). -/
def saveHeader (s : Chip) (seq : Nat) (body : Bytes) : Bytes :=
  let h := leBytes 4 0x5653444F ++ leBytes 4 seq ++ leBytes 2 (odN s 0x00007 0) ++ leBytes 2 1 ++ leBytes 4 body.length
    ++ leBytes 4 (crc32 body) ++ leBytes 8 (epochNs s)
  h ++ leBytes 4 (crc32 h)

/-- Target region and SEQ (R82): an invalid region, else the one of older SEQ; one above the newer valid copy. With no
valid copy the spec names no SEQ. -/
def saveTarget (s : Chip) : Nat × Nat × Chip :=
  match saveUsed s with
  | none => let f := takeFree s 32; (0, f.1, f.2)
  | some (k, _) => (1 - k, (fld (saveRegion s k) 4 4 + 1) % 2 ^ 32, s)

/-- OD 01.100, OD_SAVE: busy while a save runs (R82). -/
def actOdSave : Act := fun s _ _ =>
  if s.save.isSome then refuse s eBusy
  else
    let t := saveTarget s
    let body := saveBody t.2.2
    acted (odSet { t.2.2 with save := some ⟨t.1, t.2.1, saveHeader t.2.2 t.2.1 body, body, nowNs s⟩ } 0x01101 0 1)

/-- OD_SAVE. -/
def execOdSave (rq : Rq) (s : State) : Host.Outcome State Fault Refusal := run s (actionRow actOdSave 0x01100 rq [])

/-- OD_SAVED: body, then header are in the target (R82); where the flash fails the target is left invalid (R85). -/
def odSaved (s : Chip) (flashOk : Bool) : Chip :=
  match s.save with
  | none => s
  | some j =>
    let s := { s with save := none }
    if flashOk then
      let tail := (saveRegion s j.target).drop (32 + j.body.length)
      let s := setSaveRegion s j.target (j.header ++ j.body ++ tail)
      raise (odSet (odSet s 0x01101 0 0) 0x01102 0 j.seq) evOdSaved j.seq
    else raise (odSet (setSaveRegion s j.target []) 0x01101 0 2) evOdSaveFailed j.target

/-- OD_SAVED. -/
def execOdSaved (flashOk : Bool) (s : State) : Host.Outcome State Fault Refusal := run s (fun c => odSaved c flashOk)

/-! ## Staged blocks -/

/-- The domain is the sealed one. -/
def isSealed (s : Chip) (rq : Rq) : Bool := domainOf s rq == .sealed

/-- The open block of a handle, for the path and domain that opened it (R98). -/
def stageOf (s : Chip) (rq : Rq) (h : Nat) : Option Stage :=
  s.sl.stages.find? (fun x => x.handle == h && x.path == wayOf rq.path && x.sealedDom == isSealed s rq)

/-- The open blocks set, with OD 01.114. -/
def setStages (s : Chip) (l : List Stage) : Chip := odSet { s with sl := { s.sl with stages := l } } 0x01114 0 l.length

/-- A block discarded or committed: its handle is closed. -/
def closeStage (s : Chip) (h : Nat) : Chip := setStages s (s.sl.stages.filter (fun x => x.handle != h))

/-- One block changed. -/
def putStage (s : Chip) (x : Stage) : Chip :=
  setStages s (s.sl.stages.map (fun y => if y.handle == x.handle then x else y))

/-- OD 01.110, STAGE_OPEN: a free handle from 1 to 8, or busy (R98). -/
def actStageOpen : Act := fun s rq _ =>
  match (List.range 8).find? (fun i => s.sl.stages.all (fun x => x.handle != i + 1)) with
  | none => refuse s eBusy
  | some i =>
    (eOk, leBytes 1 (i + 1), setStages s (s.sl.stages ++ [⟨i + 1, wayOf rq.path, isSealed s rq, [], nowNs s⟩]))

/-- STAGE_OPEN. -/
def execStageOpen (rq : Rq) (s : State) : Host.Outcome State Fault Refusal := run s (actionRow actStageOpen 0x01110 rq [])

/-- OD 01.112, STAGE_ABORT. -/
def actStageAbort : Act := fun s rq arg =>
  let h := leNat arg
  if h = 0 ∨ 8 < h then refuse s eRange
  else if (stageOf s rq h).isNone then refuse s eHandle
  else acted (closeStage s h)

/-- STAGE_ABORT. -/
def execStageAbort (rq : Rq) (arg : Bytes) (s : State) : Host.Outcome State Fault Refusal :=
  run s (actionRow actStageAbort 0x01112 rq arg)

/-- A block without a segment or commit for OD 01.113 ms of running time (R98). -/
def stageExpired (s : Chip) (h : Nat) : Chip :=
  if s.sl.stages.any (fun x => x.handle == h && decide (x.last + ms (odN s 0x01113 0) ≤ nowNs s)) then
    raise (closeStage s h) evStageExpired h
  else s

/-- STAGE_EXPIRED. -/
def execStageExpired (handle : Nat) (s : State) : Host.Outcome State Fault Refusal := run s (fun c => stageExpired c handle)

/-- Entries and bytes of values of a block's segments. -/
def stageSize (t : Table (List Entry)) : Nat × Nat :=
  ((t.map (fun x => x.2.length)).sum, (t.map (fun x => (x.2.map (fun e => e.val.length)).sum)).sum)

/-- The first entry of a segment beyond 4,096 entries or 256 KiB of values, with `n` entries and `b` bytes held (R98). -/
def stageOver : Nat → Nat → Nat → List Entry → Option Nat
  | _, _, _, [] => none
  | i, n, b, e :: r =>
    if 4096 ≤ n ∨ 262144 < b + e.val.length then some i else stageOver (i + 1) (n + 1) (b + e.val.length) r

/-- A segment (R96, R98, R122): kept if its entries pass, with an earlier one of its number replaced. -/
def stagedSegment (s : Chip) (rq : Rq) (h seg : Nat) (es : List Entry) : Chip :=
  if !answering s || !inTurn s rq then s
  else if 64 < es.length then answer s rq (errAnswer eTooLarge 0xFF)
  else if es.any (fun e => e.op != 0) then answer s rq (errAnswer eFormat 0xFF)
  else
    match stageOf s rq h with
    | none => answer s rq (errAnswer eHandle 0xFF)
    | some x =>
      let x := { x with last := nowNs s }
      let rej := firstRejected (domainOf s rq) true s 0 es
      let s := putStage s x
      match rej with
      | some (i, o, rej) => answer (countRej s o rej) rq (errAnswer rej.status i)
      | none =>
        let others := tdel x.segs seg
        let size := stageSize others
        if 1024 ≤ others.length then answer s rq (errAnswer eTooLarge 0)
        else
          match stageOver 0 size.1 size.2 es with
          | some i => answer s rq (errAnswer eTooLarge i)
          | none => answer (putStage s { x with segs := tput others seg es }) rq ⟨eOk, 0xFF, []⟩

/-- STAGED_SEGMENT. -/
def execStagedSegment (rq : Rq) (handle segment : Nat) (es : List Entry) (s : State) : Host.Outcome State Fault Refusal :=
  run s (fun c => stagedSegment c rq handle segment es)

/-! ## Commit -/

/-- The next whole tick of the 1 µs timebase, strictly after now (R93, 02 R55). -/
def nextTick (s : Chip) : Nat := (nowNs s / 1000 + 1) * 1000

/-- A validated change waits for its apply tick. -/
def waitTick (s : Chip) (rq : Rq) (es : List Entry) (h : Nat) : Chip :=
  { s with sl := { s.sl with applyQ := s.sl.applyQ ++ [⟨rq, es, h, nextTick s⟩] } }

/-- What a commit comes to: a status with the entry it names, or the entries to apply. -/
abbrev CommitRes := Nat × Nat × List Entry × Chip

/-- STAGE_COMMIT up to validation (R97): `pre` are the write entries of the request it ends, `i` its own index. -/
def commitCheck (s : Chip) (rq : Rq) (arg : Bytes) (pre : List Entry) (i : Nat) : CommitRes :=
  let h := fld arg 0 1
  let count := fld arg 2 2
  let want := fld arg 4 8
  if fld arg 1 1 ≠ 0 then (eRange, i, [], s)
  else
    match stageOf s rq h with
    | none => (eHandle, 0xFF, [], s)
    | some x =>
      let s0 := s
      let s := putStage s { x with last := nowNs s }
      let segs := (List.range count).map (fun k => tget? x.segs k)
      if segs.any (fun o => o.isNone) then (eGap, i, [], s)
      else if want ≠ 0 ∧ want ≠ odN s 0x01104 0 then (eStale, i, [], s)
      else
        let es := (segs.map (fun o => o.getD [])).flatten
        match firstRejected (domainOf s0 rq) false s0 0 (pre ++ es) with
        | some (k, o, rej) =>
          let f := if k < 255 then (k, s) else takeFree s 8
          (rej.status, f.1, [], countRej (closeStage f.2 h) o rej)
        | none => (eOk, h, pre ++ es, closeStage s h)

/-- Commit, or answer why not. -/
def commitOr (s : Chip) (rq : Rq) (arg : Bytes) (pre : List Entry) (i : Nat) : Chip :=
  let c := commitCheck s rq arg pre i
  if c.1 ≠ eOk then answer c.2.2.2 rq (errAnswer c.1 c.2.1)
  else waitTick c.2.2.2 rq c.2.2.1 c.2.1

/-- STAGE_COMMIT: OD 01.111 sent alone. -/
def stageCommit (s : Chip) (rq : Rq) (arg : Bytes) : Chip :=
  if !answering s || !inTurn s rq then s else
  let c := execCheck s rq 0x01111 arg
  if c.1 ≠ eOk then answer c.2 rq (errAnswer c.1 0) else commitOr c.2 rq arg [] 0

/-- STAGE_COMMIT. -/
def execStageCommit (rq : Rq) (arg : Bytes) (s : State) : Host.Outcome State Fault Refusal :=
  run s (fun c => stageCommit c rq arg)

end Sys2Proof.Machine
end

