-- ==== Sys2Proof/Machine/Services.lean ====
section
/-! DEFINITION. The services of Slaino (04 Table 4-3): reads, writes with the action that may end them, describe, discover,
echo, and the apply tick of 03 R93. -/
namespace Sys2Proof.Machine

/-! ## Fitting an answer -/

/-- The first entry that does not fit in the `room` left (R113). -/
def overflowAt : Nat → Nat → List Entry → Option Nat
  | _, _, [] => none
  | i, room, e :: r =>
    let n := 8 + (padded e.val).length
    if room < n then some i else overflowAt (i + 1) (room - n) r

/-- An answer of up to 1,500 bytes, or too-large, without effect on `s0` (R113). -/
def fitAnswer (s0 s : Chip) (rq : Rq) (es : List Entry) : Chip :=
  match overflowAt 0 (1484 - (if rq.tagged then 16 else 0)) es with
  | some i => answer s0 rq (errAnswer eTooLarge i)
  | none => answer s rq ⟨eOk, 0xFF, es⟩

/-- A request that may be handled now: in its turn (R118) and at a time when answers are given (R117). -/
def handles (s : Chip) (rq : Rq) : Bool := answering s && inTurn s rq

/-! ## READ -/

/-- A read entry fails: no such object, not served, access denied (R77, R107; an ACTION has no read, R76). -/
def readCheck (s : Chip) (d : Dom) (e : Entry) : Nat :=
  match locate s d e.obj e.sub with
  | (st, none) => st
  | (_, some (r, _)) => if (r.acc d = 1 ∨ r.acc d = 3) ∧ r.type ≠ .action then eOk else eDenied

/-- The first read entry that fails. -/
def readRejected (s : Chip) (d : Dom) : Nat → List Entry → Option (Nat × Nat)
  | _, [] => none
  | i, e :: r => if readCheck s d e ≠ eOk then some (i, readCheck s d e) else readRejected s d (i + 1) r

/-- A window of a BLOB: offset [15:0], maximum length [31:16]; set bit 0 of OP where bytes remain (R113). -/
def window (val b : Bytes) : Nat × Bytes :=
  if val.isEmpty then (0, b)
  else
    let w := (b.drop (fld val 0 2)).take (fld val 2 2)
    (b2n (decide (fld val 0 2 + w.length < b.length)), w)

/-- The answer entry of a read entry. A read of EVENT_READ advances the path's cursor by the records it returns (R101). -/
def answerRead (s : Chip) (path : Path) (d : Dom) (e : Entry) : Entry × Chip :=
  match locate s d e.obj e.sub with
  | (_, none) => (e, s)
  | (_, some (r, o)) =>
    if o = 0x01121 then
      let n := if e.val.isEmpty then 16 else min 16 ((fld e.val 0 2 + fld e.val 2 2) / 32)
      let x := readEvents s path d n
      let w := window e.val (x.1.map eventBytes).flatten
      (⟨e.obj, e.sub, r.type.code, w.1, w.2⟩, x.2)
    else
      let v := readVal s path d r o e.sub
      match v with
      | .num n => (⟨e.obj, e.sub, if r.subs ≠ 0 ∧ e.sub = 0 then 2 else r.type.code, 0,
          leBytes (if r.subs ≠ 0 ∧ e.sub = 0 then 1 else r.type.size) n⟩, s)
      | .bytes b => let w := window e.val b; (⟨e.obj, e.sub, r.type.code, w.1, w.2⟩, s)

/-- The answer entries of read entries. -/
def readEntries (path : Path) (d : Dom) : Chip → List Entry → List Entry × Chip
  | s, [] => ([], s)
  | s, e :: r =>
    let x := answerRead s path d e
    let y := readEntries path d x.2 r
    (x.1 :: y.1, y.2)

/-- A window is asked of an object that is no BLOB (R113). -/
def badWindow (d : Dom) (e : Entry) : Bool :=
  !e.val.isEmpty && (e.val.length != 4 || (match resolve d e.obj with | some (r, _) => r.type != .blob | none => false))

/-- READ. -/
def readService (s : Chip) (rq : Rq) (es : List Entry) : Chip :=
  let d := domainOf s rq
  if !handles s rq then s
  else if 64 < es.length then answer s rq (errAnswer eTooLarge 0xFF)
  else if es.any (badWindow d) then answer s rq (errAnswer eFormat 0xFF)
  else
    match readRejected s d 0 es with
    | some (i, st) => answer (if st = eDenied then odInc s 0x01105 0 else s) rq (errAnswer st i)
    | none =>
      let x := readEntries rq.path d s es
      fitAnswer s x.2 rq x.1

/-- READ. -/
def execRead (rq : Rq) (es : List Entry) (s : State) : Host.Outcome State Fault Refusal := run s (fun c => readService c rq es)

/-- EVENT_READ: a read of OD 01.121. -/
def execEventRead (rq : Rq) (s : State) : Host.Outcome State Fault Refusal :=
  run s (fun c => readService c rq [⟨0x01121, 0, 0, 0, []⟩])

/-! ## DESCRIBE, DISCOVER, ECHO -/

/-- A default as 8 bytes; 0 for STR, BLOB and ACTION (R114). -/
def describeDefault (r : OdDef) (o sub : Nat) : Bytes :=
  match odDefault o (if r.subs ≠ 0 ∧ sub = 0 then 1 else sub) with
  | .bytes _ => zeros 8
  | .num n => leBytes 8 (if r.type = .s32 then uInt 64 (sInt 32 n) else n)

/-- The 36 bytes of R114. -/
def describeVal (s : Chip) (r : OdDef) (o sub : Nat) : Bytes :=
  let hi : Int := match r.extra with
    | some x => max r.hi (x : Int)
    | none => r.hi
  leBytes 1 r.type.code ++ leBytes 1 r.persist ++ leBytes 2 (r.accS * 256 + r.accO * 16 + r.accP) ++ leBytes 1 r.subs
    ++ zeros 3 ++ leBytes 4 (tget 0 s.rej o) ++ leBytes 8 (uInt 64 r.lo) ++ leBytes 8 (uInt 64 hi) ++ describeDefault r o sub

/-- The answer entries of describe entries, or the first that fails. -/
def describeEntries (s : Chip) (d : Dom) : Nat → List Entry → (Nat × Nat) ⊕ List Entry
  | _, [] => .inr []
  | i, e :: t =>
    match locate s d e.obj e.sub with
    | (st, none) => .inl (i, st)
    | (_, some (r, o)) =>
      match describeEntries s d (i + 1) t with
      | .inl x => .inl x
      | .inr l => .inr (⟨e.obj, e.sub, 0x0D, 0, describeVal s r o e.sub⟩ :: l)

/-- DESCRIBE. -/
def describeService (s : Chip) (rq : Rq) (es : List Entry) : Chip :=
  if !handles s rq then s
  else if 64 < es.length then answer s rq (errAnswer eTooLarge 0xFF)
  else
    match describeEntries s (domainOf s rq) 0 es with
    | .inl (i, st) => answer s rq (errAnswer st i)
    | .inr l => fitAnswer s s rq l

/-- DESCRIBE. -/
def execDescribe (rq : Rq) (es : List Entry) (s : State) : Host.Outcome State Fault Refusal :=
  run s (fun c => describeService c rq es)

/-- DISCOVER (R112): one BLOB entry of node ID, OD 06.015, 00.002, 00.003 and 00.005. -/
def discoverService (s : Chip) (rq : Rq) : Chip :=
  if !handles s rq then s
  else
    let v := Config.discover (odN s 0x06010 0) (odN s 0x06015 0) (odB s 0x00002 0) (odB s 0x00003 0) (odB s 0x00005 0)
    answer s rq ⟨eOk, 0xFF, [⟨v.1, 0, 0x0D, 0, v.2⟩]⟩

/-- DISCOVER. -/
def execDiscover (rq : Rq) (s : State) : Host.Outcome State Fault Refusal := run s (fun c => discoverService c rq)

/-- ECHO (R126, Table 4-3): the entries come back unchanged. -/
def echoService (s : Chip) (rq : Rq) (es : List Entry) : Chip :=
  if !handles s rq then s
  else if 64 < es.length then answer s rq (errAnswer eTooLarge 0xFF)
  else fitAnswer s s rq es

/-- ECHO. -/
def execEcho (rq : Rq) (es : List Entry) (s : State) : Host.Outcome State Fault Refusal := run s (fun c => echoService c rq es)

/-! ## WRITE -/

/-- The action of an ACTION object; none: STAGE_COMMIT, which only an apply tick carries out. -/
def actionOf (obj : Nat) : Option Act :=
  match obj with
  | 0x01010 => some actWarmReset
  | 0x01011 => some actUnitReset
  | 0x01100 => some actOdSave
  | 0x01110 => some actStageOpen
  | 0x01112 => some actStageAbort
  | 0x02002 => some actPowerRequest
  | 0x02045 => some actDrain
  | 0x03040 => some actTimeSet
  | 0x04004 => some actKeyRevoke
  | 0x04006 => some actFloorRaise
  | 0x04011 => some actMeasExtend
  | 0x04031 => some actOwnerClaim
  | 0x04033 => some actOwnerRelease
  | 0x04051 => some actKeyLoad
  | 0x04052 => some actKeyZeroise
  | 0x04060 => some actFwFetch
  | 0x04061 => some actFwChunk
  | 0x04062 => some actFwVerify
  | 0x04064 => some actFwActivate
  | 0x04065 => some actFwCommit
  | 0x05002 => some actDbgOpen
  | 0x05003 => some actDbgClose
  | 0x05005 => some actDbgTokenChunk
  | 0x05006 => some actDbgFullEnter
  | 0x08010 => some actProgFetch
  | 0x08011 => some actProgChunk
  | 0x08012 => some actProgStart
  | 0x08013 => some actProgStop
  | 0x08014 => some actProgDiscard
  | 0x10010 => some actXlateInvalidate
  | 0x10020 => some actPlatEnable
  | 0x10021 => some actPlatDisable
  | 0x10022 => some actPlatReset
  | 0x10030 => some actGranuleGrant
  | 0x10031 => some actGranuleReclaim
  | 0x21032 => some actSamplerReset
  | 0x24010 => some actQpModify
  | 0x24011 => some actQpQuery
  | 0x24012 => some actCqCreate
  | 0x24013 => some actCqDestroy
  | 0x24014 => some actMrRegister
  | 0x24015 => some actMrDeregister
  | 0x25010 => some actSaAdd
  | 0x25011 => some actSaDelete
  | 0x30010 => some actSqCreate
  | 0x30011 => some actSqDelete
  | 0x30031 => some actRemoteAttach
  | 0x30032 => some actRemoteDetach
  | 0x31042 => some actClusterGate
  | 0x51050 => some actDqFlush
  | 0x54010 => some actWeightLoad
  | 0x54011 => some actWeightAbort
  | 0x60040 => some actConsistLeave
  | 0x70030 => some actUnitQuery
  | _ => none

/-- Carry out an action. -/
def runAction (s : Chip) (rq : Rq) (obj : Nat) (arg : Bytes) : ActRes :=
  match actionOf obj with
  | some act => act s rq arg
  | none => refuse s eNoObj

/-- The checks on an execute entry: subindex 0 and type ACTION beside those of every action (R75). -/
def executeCheck (s : Chip) (rq : Rq) (e : Entry) : Nat × Chip :=
  if e.sub ≠ 0 then (eNoObj, s)
  else
    let c := execCheck s rq e.obj e.val
    if c.1 = eOk ∧ e.type ≠ 0x0E then (eType, s) else c

/-- Write entries of a request. -/
def writesOf (es : List Entry) : List Entry := es.filter (fun e => e.op == 0)

/-- The execute entry that ends a request. -/
def executeOf (es : List Entry) : Option Entry := es.getLast?.filter (fun e => e.op == 1)

/-- Values applied and counted (R95). -/
def applyRequest (s : Chip) (rq : Rq) (es : List Entry) : Chip :=
  if (writesOf es).isEmpty then s else countGeneration (applyWrites s rq.path (domainOf s rq) es)

/-- An accepted request without an execute entry, or with one whose preconditions hold: in one window of its block, or at
the apply tick (R93, R94). A deferred action alone is held, and answered so (R78). -/
def acceptWrite (s : Chip) (rq : Rq) (es : List Entry) : Chip :=
  match executeOf es with
  | none =>
    if manyBlocks es then waitTick s rq es 0 else answer (applyRequest s rq es) rq ⟨eOk, 0xFF, []⟩
  | some e =>
    let i := es.length - 1
    let r := runAction (applyRequest s rq es) rq e.obj e.val
    let r0 := runAction s rq e.obj e.val
    if r.1 = eDeferred then answer (if r0.1 = eDeferred then r0.2.2 else s) rq (errAnswer eDeferred i)
    else if r.1 ≠ eOk then answer (if r0.1 = r.1 then r0.2.2 else s) rq (errAnswer r.1 i)
    else if manyBlocks es then waitTick s rq es 0
    else answer r.2.2 rq ⟨eOk, 0xFF, actEntry e.obj r.2.1⟩

/-- WRITE: every entry is checked before any is applied (R92, R94); the error names the first that fails. -/
def writeService (s : Chip) (rq : Rq) (es : List Entry) : Chip :=
  if !handles s rq then s
  else if 64 < es.length then answer s rq (errAnswer eTooLarge 0xFF)
  else if es.any (fun e => 1 < e.op) || !executeLast es then answer s rq (errAnswer eFormat 0xFF)
  else
    match firstRejected (domainOf s rq) false s 0 es with
    | some (i, o, rej) => answer (countRej s o rej) rq (errAnswer rej.status i)
    | none =>
      match executeOf es with
      | none => acceptWrite s rq es
      | some e =>
        let c := executeCheck s rq e
        if c.1 ≠ eOk then answer c.2 rq (errAnswer c.1 (es.length - 1))
        else if e.obj = 0x01111 then commitOr c.2 rq e.val (writesOf es) (es.length - 1)
        else acceptWrite c.2 rq es

/-- WRITE. -/
def execWrite (rq : Rq) (es : List Entry) (s : State) : Host.Outcome State Fault Refusal := run s (fun c => writeService c rq es)

/-- A request reaches its apply tick: its values, its one count, its action, its answer (R93 to R95, R97). -/
def applyJob (s : Chip) (j : ApplyJob) : Chip :=
  if j.handle ≠ 0 then answer (countGeneration (applyWrites s j.rq.path (domainOf s j.rq) j.es)) j.rq ⟨eOk, 0xFF, []⟩
  else
    let s := applyRequest s j.rq j.es
    match executeOf j.es with
    | none => answer s j.rq ⟨eOk, 0xFF, []⟩
    | some e =>
      let r := runAction s j.rq e.obj e.val
      answer r.2.2 j.rq ⟨eOk, 0xFF, actEntry e.obj r.2.1⟩

/-- APPLY_TICK: every request whose tick has come, in the order of validation (R99). -/
def applyTick (s : Chip) : Chip :=
  let due := s.sl.applyQ.filter (fun j => decide (j.due ≤ nowNs s))
  let s := { s with sl := { s.sl with applyQ := s.sl.applyQ.filter (fun j => decide (nowNs s < j.due)) } }
  due.foldl applyJob s

/-- APPLY_TICK. -/
def execApplyTick (s : State) : Host.Outcome State Fault Refusal := run s applyTick

/-! ## A write that coincides with a hardware update -/

/-- The event of a collision on a HWU field (R86, R87), with the hardware value that is discarded. -/
def collision (s : Chip) (e : Entry) (hw : Nat) : Chip :=
  if e.obj = 0x03006 then raise s evTbRateCollision (uInt 64 (sInt 32 hw))
  else if e.obj = 0x02033 then raise s evRailCollision hw
  else if 0x02800 ≤ e.obj ∧ e.obj ≤ 0x02FFF ∧ e.sub = 2 then raise s evKetCollision (e.obj - 0x02800)
  else if 0x23800 ≤ e.obj ∧ e.obj ≤ 0x23FFF then
    let k := 16 * (e.obj - 0x23800) + (e.sub - 1)
    if bit (fld (shaperRec s k) 0 1) 2 then raise s evShaperRateCollision (k + hw % 2 ^ 32 * 65536) else s
  else s

/-- OD_WRITE_GENERIC: the write alone; a hardware update of the same window loses against an accepted write of a RW or HWU
field, and the collision on a HWU field is an event (Table 3-4). -/
def writeGeneric (s : Chip) (rq : Rq) (e : Entry) (hw : Option Nat) : Chip :=
  let ok := handles s rq && decide (e.op = 0) && (firstRejected (domainOf s rq) false s 0 [e]).isNone
  let s := writeService s rq [{ e with op := 0 }]
  match hw with
  | some v => if ok then collision s e v else s
  | none => s

/-- OD_WRITE_GENERIC. -/
def execOdWriteGeneric (rq : Rq) (e : Entry) (hw : Option Nat) (s : State) : Host.Outcome State Fault Refusal :=
  run s (fun c => writeGeneric c rq e hw)

end Sys2Proof.Machine
end

