-- ==== Sys2Proof/Machine/FieldPort.lean ====
section
/-! DEFINITION. The 10BASE-T1S port (04 R108 to R112, R124, R125, R129 to R131), the duplicate record (R119), sessions
(07 R197), and window writes (08 R225). -/
namespace Sys2Proof.Machine

/-! ## Sessions -/

/-- "slaino session" -/
def sessionInfo : Bytes := ascii [0x73, 0x6C, 0x61, 0x69, 0x6E, 0x6F, 0x20, 0x73, 0x65, 0x73, 0x73, 0x69, 0x6F, 0x6E]

/-- A session number that is not 0 and not in use; which one is open. -/
def newSession (s : Chip) : Nat × Chip :=
  let f := takeFree s 16
  let pick := (List.range 5).find? (fun i => s.sl.sessions.all (fun x => x.num != (f.1 + i) % 65535 + 1))
  ((f.1 + pick.getD 0) % 65535 + 1, f.2)

/-- The open sessions set, with OD 04.034. -/
def setSessions (s : Chip) (l : List Session) : Chip := odSet { s with sl := { s.sl with sessions := l } } 0x04034 0 l.length

/-- A session closed. -/
def dropSession (s : Chip) (num : Nat) : Chip := setSessions s (s.sl.sessions.filter (fun x => x.num != num))

/-- A session closed with its event. -/
def closeSession (s : Chip) (num : Nat) : Chip := raise (dropSession s num) evSessionClosed num

/-- The SESSION services are known on network paths alone (R126). -/
def onNetwork : Path → Bool
  | .field _ => true
  | .inband _ _ => true
  | _ => false

/-- Why a SESSION_OPEN value is refused (Table 7-5, R197, R211). -/
def openCheck (s : Chip) (val : Bytes) : Nat :=
  let key := fld val 0 1
  if !servedNow s 0x040F0 then eNotReady
  else if val.length ≠ 132 then eType
  else if fld val 1 3 ≠ 0 ∨ 4 < key then eRange
  else if dbgState s = 2 ∧ key ≠ 0 then eDenied
  else if dbgState s ≠ 2 ∧ key = 0 then eRange
  else if key ≠ 0 ∧ isZero (odB s 0x04030 key) then eDenied
  else if 4 ≤ s.sl.sessions.length then eBusy
  else eOk

/-- SESSION_OPEN (R197): number, ephemeral key, nonce and the signature over the transcript, which is zero in DBG-FULL. -/
def sessionOpen (s : Chip) (rq : Rq) (val : Bytes) : Chip :=
  if !handles s rq then s
  else if !onNetwork rq.path then answer s rq (errAnswer eService 0xFF)
  else if openCheck s val ≠ eOk then answer s rq (errAnswer (openCheck s val) 0)
  else
    let own := s.free
    let n := newSession s
    let f := takeFree n.2 256
    let nonce := leBytes 32 f.1
    let head := leBytes 2 n.1 ++ zeros 2 ++ ephemeralKey own ++ nonce
    let sig := if dbgState s = 2 then zeros 96 else signBytes (sha384 (val ++ head))
    let k := hkdfKey (ecdhSecret own (slice val 4 96)) (slice val 100 32 ++ nonce) (sessionInfo ++ leBytes 2 n.1)
    let x : Session := ⟨n.1, wayOf rq.path, fld val 0 1, k, false, 0, false, 0, nowNs s⟩
    answer (setSessions f.2 (s.sl.sessions ++ [x])) rq ⟨eOk, 0xFF, [⟨0x040F0, 0, 0x0D, 0, head ++ sig⟩]⟩

/-- SESSION_OPEN. -/
def execSessionOpen (rq : Rq) (val : Bytes) (s : State) : Host.Outcome State Fault Refusal :=
  run s (fun c => sessionOpen c rq val)

/-- SESSION_AUTH (R197): header SESSION set and FLAGS[6] clear; `rq.verdict` is the verdict on the station's signature over
the transcript. -/
def sessionAuth (s : Chip) (rq : Rq) (val : Bytes) : Chip :=
  if !handles s rq then s
  else if !onNetwork rq.path then answer s rq (errAnswer eService 0xFF)
  else if rq.tagged then answer s rq (errAnswer eFormat 0xFF)
  else
    match sessionOn s rq.path rq.session with
    | none => answer s rq (errAnswer eSession 0xFF)
    | some x =>
      if val.length ≠ 96 then answer s rq (errAnswer eType 0)
      else if rq.verdict then answer (setSession s { x with authed := true, last := nowNs s }) rq ⟨eOk, 0xFF, []⟩
      else answer (odInc (raise s evSessionAuthFailed x.key) 0x04036 0) rq (errAnswer eDenied 0)

/-- SESSION_AUTH. -/
def execSessionAuth (rq : Rq) (val : Bytes) (s : State) : Host.Outcome State Fault Refusal :=
  run s (fun c => sessionAuth c rq val)

/-- SESSION_CLOSE: the session that the header names. -/
def sessionClose (s : Chip) (rq : Rq) : Chip :=
  if !handles s rq then s
  else if !onNetwork rq.path then answer s rq (errAnswer eService 0xFF)
  else if (sessionOn s rq.path rq.session).isNone then answer s rq (errAnswer eSession 0xFF)
  else dropSession (answer s rq ⟨eOk, 0xFF, []⟩) rq.session

/-- SESSION_CLOSE. -/
def execSessionClose (rq : Rq) (s : State) : Host.Outcome State Fault Refusal := run s (fun c => sessionClose c rq)

/-- A session without a valid frame for OD 04.035 ms (R197). -/
def sessionIdle (s : Chip) (num : Nat) : Chip :=
  if s.sl.sessions.any (fun x => x.num == num && decide (x.last + ms (odN s 0x04035 0) ≤ nowNs s)) then closeSession s num
  else s

/-- SESSION_IDLE_CLOSE. -/
def execSessionIdleClose (num : Nat) (s : State) : Host.Outcome State Fault Refusal := run s (fun c => sessionIdle c num)

/-! ## Frames and the duplicate record -/

/-- A frame on the field network (R112, R119, R121, R123): EtherType, address, FCS; then as any request of a network. -/
def fieldFrame (s : Chip) (f : FieldFrame) : Chip :=
  if !answering s then s
  else if !f.fcsOk then odInc s 0x06041 0
  else if f.etherType ≠ 0x88B5 then s
  else if f.dst = odN s 0x06015 0 % 2 ^ 48 ∨ (f.dst = 0xFFFFFFFFFFFF ∧ fld f.pdu 2 1 = 0x01) then
    intakeNet (odInc s 0x06040 0) (.field f.src) f.pdu true
  else s

/-- FIELD_FRAME_RX. -/
def execFieldFrameRx (f : FieldFrame) (s : State) : Host.Outcome State Fault Refusal := run s (fun c => fieldFrame c f)

/-- DUP_RECORD_EXPIRE: answers kept for 1 s of running time go (R119). -/
def dupExpire (s : Chip) : Chip :=
  { s with sl := { s.sl with dups := s.sl.dups.filter (fun d => decide (nowNs s < d.time + 1000000000)) } }

/-- DUP_RECORD_EXPIRE. -/
def execDupRecordExpire (s : State) : Host.Outcome State Fault Refusal := run s dupExpire

/-! ## The segment -/

/-- The port is powered: VAON stands and the state is E0 to E3. -/
def portPowered (s : Chip) : Bool := s.boot.vaon && !s.boot.resetLow && power s != 4

/-- Ethernet ports with a link up: bit 0 EP0, bit 1 EP1. -/
def linkedPorts (s : Chip) : Nat :=
  let up := fun (e : Nat) => (List.range 8).any (fun i => subState s (8 * e + i) == 2)
  b2n (up 0) + 2 * b2n (up 1)

/-- The segment jams (R124): PLCA status false since `falseSince`, for at least 10 ms. -/
def t1sJam (s : Chip) (falseSince : Nat) : Chip :=
  if !portPowered s || decide (odN s 0x06001 0 = 2) || decide (nowNs s < falseSince + ms 10) then s
  else
    let s := raise (odInc (odSet s 0x06001 0 2) 0x06043 0) evT1sJammed 0
    let s := { s with sl := { s.sl with jamSince := nowNs s } }
    if odN s 0x06030 0 = 1 then
      raise { s with sl := { s.sl with fallback := linkedPorts s } } evInbandFallback (linkedPorts s)
    else s

/-- T1S_JAMMED. -/
def execT1sJammed (falseSince : Nat) (s : State) : Host.Outcome State Fault Refusal := run s (fun c => t1sJam c falseSince)

/-- The path of a session is withdrawn with the fallback (R125): its port was enabled by the fallback alone. -/
def withdrawn (s : Chip) (p : Path) : Bool :=
  match p with
  | .inband e _ => bit s.sl.fallback e && !bit (odN s 0x06020 0) e
  | _ => false

/-- The segment is back (R125): PLCA status true since `trueSince`, for at least 100 ms. -/
def t1sRestore (s : Chip) (trueSince : Nat) : Chip :=
  if !portPowered s || decide (odN s 0x06001 0 ≠ 2) || decide (nowNs s < trueSince + ms 100) then s
  else
    let s := raise (odSet s 0x06001 0 1) evT1sRestored ((nowNs s - s.sl.jamSince) / 1000000)
    let gone := s.sl.sessions.filter (fun x => withdrawn s x.path)
    let s := { s with sl := { s.sl with fallback := 0 } }
    gone.foldl (fun s x => closeSession s x.num) s

/-- T1S_RESTORED. -/
def execT1sRestored (trueSince : Nat) (s : State) : Host.Outcome State Fault Refusal := run s (fun c => t1sRestore c trueSince)

/-- A short begins or clears (R110). -/
def outputLimit (s : Chip) (short : Bool) : Chip :=
  if !portPowered s then s
  else if short && !s.sl.outLimited then raise { s with sl := { s.sl with outLimited := true } } evT1sOutputLimit 0
  else { s with sl := { s.sl with outLimited := short } }

/-- T1S_OUTPUT_LIMIT. -/
def execT1sOutputLimit (short : Bool) (s : State) : Host.Outcome State Fault Refusal := run s (fun c => outputLimit c short)

/-- A beacon sent or received (R111): PLCA configuration takes effect; the first valid cycle ends DOWN (R131). -/
def plcaBeacon (s : Chip) : Chip :=
  if !portPowered s then s
  else
    let s := { s with sl := { s.sl with plca := (odN s 0x06010 0, odN s 0x06011 0, odN s 0x06012 0, odN s 0x06013 0) } }
    if odN s 0x06001 0 = 0 then odSet s 0x06001 0 1 else s

/-- PLCA_BEACON. -/
def execPlcaBeacon (s : State) : Host.Outcome State Fault Refusal := run s plcaBeacon

/-! ## Windows -/

/-- WINDOW_WRITE (08 R225): a write of OD 08.100 + core at the window's subindex. -/
def execWindowWrite (rq : Rq) (core window : Nat) (val : Bytes) (s : State) : Host.Outcome State Fault Refusal :=
  run s (fun c => writeService c rq [⟨if core < 24 then 0x08100 + core else 0x08000, window + 1, 0x0D, 0, val⟩])

end Sys2Proof.Machine
end

