-- ==== Sys2Proof/Machine/Sampler.lean ====
section
/-! DEFINITION. SAMPLER_VISIT: egress queues (14 R378, R379), native queues and serving classes (R380). -/
namespace Sys2Proof.Machine

/-- A visit to a native queue: its waybills that have not been started, 64 bytes each, and the time since the oldest of
them was fetched (log 66). -/
def sampleNative (s : Chip) (q : Nat) : Chip :=
  match nqOf s q with
  | none => s
  | some n =>
    let l : List Wb := n.wbs.filter (fun w => decide (w.stage < 2))
    let so := match l with | [] => 0 | w :: _ => nowNs s - w.since
    let k := l.length + (n.tail + 65536 - n.head) % 65536
    let o := 0x30800 + q / 16
    odSetB s o (q % 16 + 1) (sampleRec s (odB s o (q % 16 + 1)) (64 * k) k so)

/-- A visit to a serving class (21 Table 21-6): DEPTH_BYTES is its steps ready and not running, DEPTH_FRAMES its steps in the
siding, and the sojourn runs since the oldest of them became ready. -/
def sampleClass (s : Chip) (c : Nat) : Chip :=
  let l : List ServReq := ((ledReqs s).map (·.2)).filter (fun r => qClass r == c && r.phase == 1)
  let siding : List ServReq := l.filter (fun r => r.reason != 0)
  let oldest := l.foldl (fun t r => min t r.readyAt) (nowNs s)
  let so := nowNs s - oldest
  let s := odSetB s (0x53030 + c) 0 (sampleRec s (odB s (0x53030 + c) 0) l.length siding.length so)
  odInc s 0x53038 (16 * c + sojournBin so + 1)

/-- SAMPLER_VISIT: `kind` 0 the next four egress queues of the pass (R378), 1 native queue `i`, 2 serving class `i`. -/
def samplerVisit (s : Chip) (kind i : Nat) : Chip :=
  match kind with
  | 0 => samplerNext (samplerNext (samplerNext (samplerNext s)))
  | 1 => if i < 4096 then sampleNative s i else s
  | 2 => if i < 8 then sampleClass s i else s
  | _ => s

/-- SAMPLER_VISIT. -/
def execSamplerVisit (kind i : Nat) (s : State) : Host.Outcome State Fault Refusal := run s (fun c => samplerVisit c kind i)

end Sys2Proof.Machine
end

