-- ==== Sys2Proof/Machine/Dispatch.lean ====
section
/-! DEFINITION. The dispatch of a command to its meaning: one arm per row of spec/opcode_table.json. -/
namespace Sys2Proof.Machine

/-- A command's effect on everything but the queue. -/
def exec (i : Instr) (s : State) : Host.Outcome State Fault Refusal :=
  match i with
  | .read rq es => Sys2Proof.Machine.execRead rq es s
  | .write rq es => Sys2Proof.Machine.execWrite rq es s
  | .describe rq es => Sys2Proof.Machine.execDescribe rq es s
  | .discover rq => Sys2Proof.Machine.execDiscover rq s
  | .echo rq es => Sys2Proof.Machine.execEcho rq es s
  | .sessionOpen rq val => Sys2Proof.Machine.execSessionOpen rq val s
  | .sessionAuth rq val => Sys2Proof.Machine.execSessionAuth rq val s
  | .sessionClose rq => Sys2Proof.Machine.execSessionClose rq s
  | .stagedSegment rq handle segment es => Sys2Proof.Machine.execStagedSegment rq handle segment es s
  | .fieldFrameRx f => Sys2Proof.Machine.execFieldFrameRx f s
  | .inbandDatagramRx d => Sys2Proof.Machine.execInbandDatagramRx d s
  | .applyTick => Sys2Proof.Machine.execApplyTick s
  | .dupRecordExpire => Sys2Proof.Machine.execDupRecordExpire s
  | .eventRead rq => Sys2Proof.Machine.execEventRead rq s
  | .odWriteGeneric rq e hw => Sys2Proof.Machine.execOdWriteGeneric rq e hw s
  | .odSave rq => Sys2Proof.Machine.execOdSave rq s
  | .odSaved flashOk => Sys2Proof.Machine.execOdSaved flashOk s
  | .stageOpen rq => Sys2Proof.Machine.execStageOpen rq s
  | .stageCommit rq arg => Sys2Proof.Machine.execStageCommit rq arg s
  | .stageAbort rq arg => Sys2Proof.Machine.execStageAbort rq arg s
  | .stageExpired handle => Sys2Proof.Machine.execStageExpired handle s
  | .mailboxDoorbell m idx => Sys2Proof.Machine.execMailboxDoorbell m idx s
  | .mbxOdRequest m => Sys2Proof.Machine.execMbxOdRequest m s
  | .mbxToManager m => Sys2Proof.Machine.execMbxToManager m s
  | .mbxToPlatform => Sys2Proof.Machine.execMbxToPlatform s
  | .mbxCtrlWrite m off val => Sys2Proof.Machine.execMbxCtrlWrite m off val s
  | .mbxEvtHeadWrite m idx => Sys2Proof.Machine.execMbxEvtHeadWrite m idx s
  | .odFastPortRequest t off => Sys2Proof.Machine.execOdFastPortRequest t off s
  | .odStateRead t rd => Sys2Proof.Machine.execOdStateRead t rd s
  | .timebaseRefEdge err inSpec => Sys2Proof.Machine.execTimebaseRefEdge err inSpec s
  | .tbHoldover => Sys2Proof.Machine.execTbHoldover s
  | .tbHoldoverExpired => Sys2Proof.Machine.execTbHoldoverExpired s
  | .tbRelock => Sys2Proof.Machine.execTbRelock s
  | .tbLocked phaseDone => Sys2Proof.Machine.execTbLocked phaseDone s
  | .tbNoRef => Sys2Proof.Machine.execTbNoRef s
  | .stepMeterWindow die count => Sys2Proof.Machine.execStepMeterWindow die count s
  | .timeSet rq arg => Sys2Proof.Machine.execTimeSet rq arg s
  | .dwellTrip unit cls die start limit plats detail work => Sys2Proof.Machine.execDwellTrip unit cls die start limit plats detail work s
  | .t1sJammed falseSince => Sys2Proof.Machine.execT1sJammed falseSince s
  | .t1sRestored trueSince => Sys2Proof.Machine.execT1sRestored trueSince s
  | .t1sOutputLimit short => Sys2Proof.Machine.execT1sOutputLimit short s
  | .plcaBeacon => Sys2Proof.Machine.execPlcaBeacon s
  | .sessionIdleClose num => Sys2Proof.Machine.execSessionIdleClose num s
  | .accountingInterval readings jobActs => Sys2Proof.Machine.execAccountingInterval readings jobActs s
  | .railDeviation dom => Sys2Proof.Machine.execRailDeviation dom s
  | .windowBoundary => Sys2Proof.Machine.execWindowBoundary s
  | .jobAdmit job => Sys2Proof.Machine.execJobAdmit job s
  | .powerRequest rq arg => Sys2Proof.Machine.execPowerRequest rq arg s
  | .powerStepDone => Sys2Proof.Machine.execPowerStepDone s
  | .railGovernorStep dom want proj => Sys2Proof.Machine.execRailGovernorStep dom want proj s
  | .thermalLimitStep dom tj => Sys2Proof.Machine.execThermalLimitStep dom tj s
  | .thermalRecoverStep dom tj => Sys2Proof.Machine.execThermalRecoverStep dom tj s
  | .thermalTrip dom tj => Sys2Proof.Machine.execThermalTrip dom tj s
  | .energyEmergency dom => Sys2Proof.Machine.execEnergyEmergency dom s
  | .pmbusFailed => Sys2Proof.Machine.execPmbusFailed s
  | .pmbusRetry ok => Sys2Proof.Machine.execPmbusRetry ok s
  | .drain rq => Sys2Proof.Machine.execDrain rq s
  | .drainJobTimeout => Sys2Proof.Machine.execDrainJobTimeout s
  | .drainReady volts => Sys2Proof.Machine.execDrainReady volts s
  | .drainFailed dom => Sys2Proof.Machine.execDrainFailed dom s
  | .dischargedRailRise dom mv => Sys2Proof.Machine.execDischargedRailRise dom mv s
  | .e4Refused => Sys2Proof.Machine.execE4Refused s
  | .resetNAssert ns => Sys2Proof.Machine.execResetNAssert ns s
  | .resetNRelease => Sys2Proof.Machine.execResetNRelease s
  | .vaonCollapse => Sys2Proof.Machine.execVaonCollapse s
  | .bootRomLoad sigsA sigsB => Sys2Proof.Machine.execBootRomLoad sigsA sigsB s
  | .phase1End bad => Sys2Proof.Machine.execPhase1End bad s
  | .dieLit die bad ok seqOk => Sys2Proof.Machine.execDieLit die bad ok seqOk s
  | .deviceReady near cache manager => Sys2Proof.Machine.execDeviceReady near cache manager s
  | .readyLate => Sys2Proof.Machine.execReadyLate s
  | .farZeroingBlockDone port => Sys2Proof.Machine.execFarZeroingBlockDone port s
  | .warmReset rq => Sys2Proof.Machine.execWarmReset rq s
  | .unitReset rq arg => Sys2Proof.Machine.execUnitReset rq arg s
  | .perstAssert port => Sys2Proof.Machine.execPerstAssert port s
  | .perstDeassert port => Sys2Proof.Machine.execPerstDeassert port s
  | .configRequest link what => Sys2Proof.Machine.execConfigRequest link what s
  | .keyRevoke rq arg => Sys2Proof.Machine.execKeyRevoke rq arg s
  | .floorRaise rq arg => Sys2Proof.Machine.execFloorRaise rq arg s
  | .measExtend rq arg => Sys2Proof.Machine.execMeasExtend rq arg s
  | .ownerClaim rq arg => Sys2Proof.Machine.execOwnerClaim rq arg s
  | .ownerRelease rq => Sys2Proof.Machine.execOwnerRelease rq s
  | .keyLoad rq arg => Sys2Proof.Machine.execKeyLoad rq arg s
  | .keyZeroise rq arg => Sys2Proof.Machine.execKeyZeroise rq arg s
  | .keyZeroised slot => Sys2Proof.Machine.execKeyZeroised slot s
  | .leaseRelease block => Sys2Proof.Machine.execLeaseRelease block s
  | .leaseOverrun block => Sys2Proof.Machine.execLeaseOverrun block s
  | .fwFetch rq arg => Sys2Proof.Machine.execFwFetch rq arg s
  | .fwChunk rq arg => Sys2Proof.Machine.execFwChunk rq arg s
  | .fwWritten flashOk => Sys2Proof.Machine.execFwWritten flashOk s
  | .fwVerify rq => Sys2Proof.Machine.execFwVerify rq s
  | .fwVerified sigs => Sys2Proof.Machine.execFwVerified sigs s
  | .fwActivate rq => Sys2Proof.Machine.execFwActivate rq s
  | .fwActivated => Sys2Proof.Machine.execFwActivated s
  | .fwHealthReport => Sys2Proof.Machine.execFwHealthReport s
  | .fwRollback => Sys2Proof.Machine.execFwRollback s
  | .fwCommit rq arg => Sys2Proof.Machine.execFwCommit rq arg s
  | .dbgOpen rq => Sys2Proof.Machine.execDbgOpen rq s
  | .dbgClose rq => Sys2Proof.Machine.execDbgClose rq s
  | .dbgTokenChunk rq arg => Sys2Proof.Machine.execDbgTokenChunk rq arg s
  | .dbgFullEnter rq => Sys2Proof.Machine.execDbgFullEnter rq s
  | .getVersion => Sys2Proof.Machine.execGetVersion s
  | .getCapabilities version => Sys2Proof.Machine.execGetCapabilities version s
  | .negotiateAlgorithms => Sys2Proof.Machine.execNegotiateAlgorithms s
  | .getDigests => Sys2Proof.Machine.execGetDigests s
  | .getCertificate slot offset length => Sys2Proof.Machine.execGetCertificate slot offset length s
  | .challenge slot nonce => Sys2Proof.Machine.execChallenge slot nonce s
  | .getMeasurements index signed nonce => Sys2Proof.Machine.execGetMeasurements index signed nonce s
  | .respondIfReady => Sys2Proof.Machine.execRespondIfReady s
  | .spdmUnsupported code => Sys2Proof.Machine.execSpdmUnsupported code s
  | .bypass => Sys2Proof.Machine.execBypass s
  | .idcode => Sys2Proof.Machine.execIdcode s
  | .samplePreload => Sys2Proof.Machine.execSamplePreload s
  | .extest => Sys2Proof.Machine.execExtest s
  | .clamp => Sys2Proof.Machine.execClamp s
  | .highz => Sys2Proof.Machine.execHighz s
  | .extestPulse => Sys2Proof.Machine.execExtestPulse s
  | .extestTrain => Sys2Proof.Machine.execExtestTrain s
  | .tapDebugAccess op => Sys2Proof.Machine.execTapDebugAccess op s
  | .progFetch rq arg => Sys2Proof.Machine.execProgFetch rq arg s
  | .progChunk rq arg => Sys2Proof.Machine.execProgChunk rq arg s
  | .progStart rq arg => Sys2Proof.Machine.execProgStart rq arg s
  | .progStarted sigOk => Sys2Proof.Machine.execProgStarted sigOk s
  | .progStop rq arg => Sys2Proof.Machine.execProgStop rq arg s
  | .progDiscard rq => Sys2Proof.Machine.execProgDiscard rq s
  | .progBufferTimeout => Sys2Proof.Machine.execProgBufferTimeout s
  | .windowWrite rq core window val => Sys2Proof.Machine.execWindowWrite rq core window val s
  | .ld t rd n sz ea => Sys2Proof.Machine.execLd t rd n sz ea s
  | .lds t rd n sz ea => Sys2Proof.Machine.execLds t rd n sz ea s
  | .st t rm n sz ea => Sys2Proof.Machine.execSt t rm n sz ea s
  | .ldQ t rd n ea => Sys2Proof.Machine.execLdQ t rd n ea s
  | .stQ t rm n ea => Sys2Proof.Machine.execStQ t rm n ea s
  | .inPort t rd port => Sys2Proof.Machine.execInPort t rd port s
  | .out t rm port => Sys2Proof.Machine.execOut t rm port s
  | .adra t rd n ea => Sys2Proof.Machine.execAdra t rd n ea s
  | .adda t rd ra op => Sys2Proof.Machine.execAdda t rd ra op s
  | .suba t rd ra rb => Sys2Proof.Machine.execSuba t rd ra rb s
  | .cmpa t ra rb => Sys2Proof.Machine.execCmpa t ra rb s
  | .mov t rd ra => Sys2Proof.Machine.execMov t rd ra s
  | .setah t rd imm => Sys2Proof.Machine.execSetah t rd imm s
  | .addR t rd ra rb => Sys2Proof.Machine.execAddR t rd ra rb s
  | .addc t rd ra rb => Sys2Proof.Machine.execAddc t rd ra rb s
  | .sub t rd ra rb => Sys2Proof.Machine.execSub t rd ra rb s
  | .subc t rd ra rb => Sys2Proof.Machine.execSubc t rd ra rb s
  | .andR t rd ra rb => Sys2Proof.Machine.execAndR t rd ra rb s
  | .orR t rd ra rb => Sys2Proof.Machine.execOrR t rd ra rb s
  | .xorR t rd ra rb => Sys2Proof.Machine.execXorR t rd ra rb s
  | .andn t rd ra rb => Sys2Proof.Machine.execAndn t rd ra rb s
  | .shl t rd ra rb => Sys2Proof.Machine.execShl t rd ra rb s
  | .shr t rd ra rb => Sys2Proof.Machine.execShr t rd ra rb s
  | .sar t rd ra rb => Sys2Proof.Machine.execSar t rd ra rb s
  | .rol t rd ra rb => Sys2Proof.Machine.execRol t rd ra rb s
  | .cmp t ra rb => Sys2Proof.Machine.execCmp t ra rb s
  | .tst t ra rb => Sys2Proof.Machine.execTst t ra rb s
  | .clz t rd ra => Sys2Proof.Machine.execClz t rd ra s
  | .mul t rd ra rb => Sys2Proof.Machine.execMul t rd ra rb s
  | .mulhs t rd ra rb => Sys2Proof.Machine.execMulhs t rd ra rb s
  | .mulhu t rd ra rb => Sys2Proof.Machine.execMulhu t rd ra rb s
  | .divs t rd ra rb => Sys2Proof.Machine.execDivs t rd ra rb s
  | .divu t rd ra rb => Sys2Proof.Machine.execDivu t rd ra rb s
  | .rems t rd ra rb => Sys2Proof.Machine.execRems t rd ra rb s
  | .remu t rd ra rb => Sys2Proof.Machine.execRemu t rd ra rb s
  | .movi t rd imm => Sys2Proof.Machine.execMovi t rd imm s
  | .lui t rd imm => Sys2Proof.Machine.execLui t rd imm s
  | .addi t rd ra imm => Sys2Proof.Machine.execAddi t rd ra imm s
  | .andi t rd ra imm => Sys2Proof.Machine.execAndi t rd ra imm s
  | .ori t rd ra imm => Sys2Proof.Machine.execOri t rd ra imm s
  | .xori t rd ra imm => Sys2Proof.Machine.execXori t rd ra imm s
  | .cmpi t ra imm => Sys2Proof.Machine.execCmpi t ra imm s
  | .shli t rd ra n => Sys2Proof.Machine.execShli t rd ra n s
  | .shri t rd ra n => Sys2Proof.Machine.execShri t rd ra n s
  | .sari t rd ra n => Sys2Proof.Machine.execSari t rd ra n s
  | .roli t rd ra n => Sys2Proof.Machine.execRoli t rd ra n s
  | .macs t rd ra rb => Sys2Proof.Machine.execMacs t rd ra rb s
  | .macu t rd ra rb => Sys2Proof.Machine.execMacu t rd ra rb s
  | .msus t rd ra rb => Sys2Proof.Machine.execMsus t rd ra rb s
  | .mpys t rd ra rb => Sys2Proof.Machine.execMpys t rd ra rb s
  | .mpyu t rd ra rb => Sys2Proof.Machine.execMpyu t rd ra rb s
  | .clracc t rd => Sys2Proof.Machine.execClracc t rd s
  | .addacc t rd ra => Sys2Proof.Machine.execAddacc t rd ra s
  | .ext t rd ra sh rnd => Sys2Proof.Machine.execExt t rd ra sh rnd s
  | .mvad t rd ra => Sys2Proof.Machine.execMvad t rd ra s
  | .mvahd t rd ra => Sys2Proof.Machine.execMvahd t rd ra s
  | .mvda t rd ra => Sys2Proof.Machine.execMvda t rd ra s
  | .mvdas t rd ra => Sys2Proof.Machine.execMvdas t rd ra s
  | .mvdah t rd ra => Sys2Proof.Machine.execMvdah t rd ra s
  | .mfacc t rd ra part => Sys2Proof.Machine.execMfacc t rd ra part s
  | .mtacc t rd ra part => Sys2Proof.Machine.execMtacc t rd ra part s
  | .bCc t cond disp => Sys2Proof.Machine.execBCc t cond disp s
  | .call t disp => Sys2Proof.Machine.execCall t disp s
  | .cntne t dn dm disp => Sys2Proof.Machine.execCntne t dn dm disp s
  | .jumpr t ra => Sys2Proof.Machine.execJumpr t ra s
  | .callr t ra => Sys2Proof.Machine.execCallr t ra s
  | .ret t => Sys2Proof.Machine.execRet t s
  | .sigrd t rd sig => Sys2Proof.Machine.execSigrd t rd sig s
  | .sigadd t rm sig => Sys2Proof.Machine.execSigadd t rm sig s
  | .sigwtGe t rd sig => Sys2Proof.Machine.execSigwtGe t rd sig s
  | .sigwtEq t rd sig => Sys2Proof.Machine.execSigwtEq t rd sig s
  | .sigwtRelease t => Sys2Proof.Machine.execSigwtRelease t s
  | .nop t => Sys2Proof.Machine.execNop t s
  | .trap t imm => Sys2Proof.Machine.execTrap t imm s
  | .rete t => Sys2Proof.Machine.execRete t s
  | .wait t => Sys2Proof.Machine.execWait t s
  | .waitResume t => Sys2Proof.Machine.execWaitResume t s
  | .sync t => Sys2Proof.Machine.execSync t s
  | .mfsr t rd sr => Sys2Proof.Machine.execMfsr t rd sr s
  | .mtsr t rm sr => Sys2Proof.Machine.execMtsr t rm sr s
  | .signalInt t => Sys2Proof.Machine.execSignalInt t s
  | .bindArm t n w => Sys2Proof.Machine.execBindArm t n w s
  | .intPendClear t w => Sys2Proof.Machine.execIntPendClear t w s
  | .rtimeLoRead t rd => Sys2Proof.Machine.execRtimeLoRead t rd s
  | .queuePush t q off => Sys2Proof.Machine.execQueuePush t q off s
  | .queuePop t rd q => Sys2Proof.Machine.execQueuePop t rd q s
  | .signalAdd owner sig vs => Sys2Proof.Machine.execSignalAdd owner sig vs s
  | .platEnable rq arg => Sys2Proof.Machine.execPlatEnable rq arg s
  | .platReset rq arg flr => Sys2Proof.Machine.execPlatReset rq arg flr s
  | .platResetDone plat => Sys2Proof.Machine.execPlatResetDone plat s
  | .platDisable rq arg => Sys2Proof.Machine.execPlatDisable rq arg s
  | .xlateInvalidate rq arg => Sys2Proof.Machine.execXlateInvalidate rq arg s
  | .invalDone => Sys2Proof.Machine.execInvalDone s
  | .granuleGrant rq arg => Sys2Proof.Machine.execGranuleGrant rq arg s
  | .granuleReclaim rq arg => Sys2Proof.Machine.execGranuleReclaim rq arg s
  | .granuleReclaimed => Sys2Proof.Machine.execGranuleReclaimed s
  | .hostLinkUp link width rate flit => Sys2Proof.Machine.execHostLinkUp link width rate flit s
  | .hostLinkDown link => Sys2Proof.Machine.execHostLinkDown link s
  | .vfEnableChange link enable num => Sys2Proof.Machine.execVfEnableChange link enable num s
  | .pf0Flr => Sys2Proof.Machine.execPf0Flr s
  | .carrierFlr link => Sys2Proof.Machine.execCarrierFlr link s
  | .d3hotEntry link => Sys2Proof.Machine.execD3hotEntry link s
  | .barAccessDiscard fn bar off size write => Sys2Proof.Machine.execBarAccessDiscard fn bar off size write s
  | .dbRsq fn size val => Sys2Proof.Machine.execDbRsq fn size val s
  | .dbRrq fn size val => Sys2Proof.Machine.execDbRrq fn size val s
  | .dbCq fn size val => Sys2Proof.Machine.execDbCq fn size val s
  | .dbSq fn size val => Sys2Proof.Machine.execDbSq fn size val s
  | .dbDispatch fn size val => Sys2Proof.Machine.execDbDispatch fn size val s
  | .dbSig fn slot size val => Sys2Proof.Machine.execDbSig fn slot size val s
  | .dbTokenToken fn size val => Sys2Proof.Machine.execDbTokenToken fn size val s
  | .dbTokenSubmit fn size val => Sys2Proof.Machine.execDbTokenSubmit fn size val s
  | .dbTokenClose fn size val => Sys2Proof.Machine.execDbTokenClose fn size val s
  | .msixUnmask fn vec unmask => Sys2Proof.Machine.execMsixUnmask fn vec unmask s
  | .ssdPresenceDetect port lowSince => Sys2Proof.Machine.execSsdPresenceDetect port lowSince s
  | .ssdPresent port width rate cls => Sys2Proof.Machine.execSsdPresent port width rate cls s
  | .ssdRemoved port => Sys2Proof.Machine.execSsdRemoved port s
  | .ssdStrayDma port => Sys2Proof.Machine.execSsdStrayDma port s
  | .ssdErrorReport port sev cmds => Sys2Proof.Machine.execSsdErrorReport port sev cmds s
  | .farLinkDown port => Sys2Proof.Machine.execFarLinkDown port s
  | .farLinkRetry port => Sys2Proof.Machine.execFarLinkRetry port s
  | .patrolScrub addr res newer passEnd => Sys2Proof.Machine.execPatrolScrub addr res newer passEnd s
  | .granuleMigrate g lasting chunks => Sys2Proof.Machine.execGranuleMigrate g lasting chunks s
  | .nearRemapped g oldOk => Sys2Proof.Machine.execNearRemapped g oldOk s
  | .preventiveMigration g => Sys2Proof.Machine.execPreventiveMigration g s
  | .ethFrameRx sub frame mark => Sys2Proof.Machine.execEthFrameRx sub frame mark s
  | .ethLinkUp sub => Sys2Proof.Machine.execEthLinkUp sub s
  | .ethLinkDown sub sending => Sys2Proof.Machine.execEthLinkDown sub sending s
  | .ethFecDegraded sub => Sys2Proof.Machine.execEthFecDegraded sub s
  | .ethRetrain port => Sys2Proof.Machine.execEthRetrain port s
  | .pfcFrameRx sub => Sys2Proof.Machine.execPfcFrameRx sub s
  | .pfcPauseExpire sub tcl => Sys2Proof.Machine.execPfcPauseExpire sub tcl s
  | .pfcXoffSend sub tcl => Sys2Proof.Machine.execPfcXoffSend sub tcl s
  | .pfcXoffRepeat sub tcl => Sys2Proof.Machine.execPfcXoffRepeat sub tcl s
  | .pfcXonSend sub tcl => Sys2Proof.Machine.execPfcXonSend sub tcl s
  | .ptpMessageRx sub state delay fix reply => Sys2Proof.Machine.execPtpMessageRx sub state delay fix reply s
  | .bucketRefill k => Sys2Proof.Machine.execBucketRefill k s
  | .egressSelect sub => Sys2Proof.Machine.execEgressSelect sub s
  | .wheelSlot => Sys2Proof.Machine.execWheelSlot s
  | .samplerVisit kind num => Sys2Proof.Machine.execSamplerVisit kind num s
  | .samplerReset rq arg => Sys2Proof.Machine.execSamplerReset rq arg s
  | .qpModify rq arg => Sys2Proof.Machine.execQpModify rq arg s
  | .qpQuery rq arg => Sys2Proof.Machine.execQpQuery rq arg s
  | .cqCreate rq arg => Sys2Proof.Machine.execCqCreate rq arg s
  | .cqDestroy rq arg => Sys2Proof.Machine.execCqDestroy rq arg s
  | .mrRegister rq arg => Sys2Proof.Machine.execMrRegister rq arg s
  | .mrDeregister rq arg => Sys2Proof.Machine.execMrDeregister rq arg s
  | .send qpn => Sys2Proof.Machine.execSend qpn s
  | .wrWrite qpn => Sys2Proof.Machine.execWrWrite qpn s
  | .writeImm qpn => Sys2Proof.Machine.execWriteImm qpn s
  | .wrRead qpn => Sys2Proof.Machine.execWrRead qpn s
  | .fetchAdd qpn => Sys2Proof.Machine.execFetchAdd qpn s
  | .cmpSwap qpn => Sys2Proof.Machine.execCmpSwap qpn s
  | .relaxedWrite qpn => Sys2Proof.Machine.execRelaxedWrite qpn s
  | .relaxedFinal qpn => Sys2Proof.Machine.execRelaxedFinal qpn s
  | .rawSend qpn => Sys2Proof.Machine.execRawSend qpn s
  | .rxRequestPacket => Sys2Proof.Machine.execRxRequestPacket s
  | .rxRelaxedPacket => Sys2Proof.Machine.execRxRelaxedPacket s
  | .finalPlaced qpn => Sys2Proof.Machine.execFinalPlaced qpn s
  | .rxAck => Sys2Proof.Machine.execRxAck s
  | .retransmitTimeout qpn => Sys2Proof.Machine.execRetransmitTimeout qpn s
  | .rnrTimer qpn => Sys2Proof.Machine.execRnrTimer qpn s
  | .pacingInterval shaper n coincident => Sys2Proof.Machine.execPacingInterval shaper n coincident s
  | .cnpRx => Sys2Proof.Machine.execCnpRx s
  | .saAdd rq arg => Sys2Proof.Machine.execSaAdd rq arg s
  | .saDelete rq arg => Sys2Proof.Machine.execSaDelete rq arg s
  | .espInbound fault => Sys2Proof.Machine.execEspInbound fault s
  | .espOutbound queue fault => Sys2Proof.Machine.execEspOutbound queue fault s
  | .sqCreate rq arg => Sys2Proof.Machine.execSqCreate rq arg s
  | .sqDelete rq arg => Sys2Proof.Machine.execSqDelete rq arg s
  | .waybillRead q seq => Sys2Proof.Machine.execWaybillRead q seq s
  | .waybillWrite q seq mismatch => Sys2Proof.Machine.execWaybillWrite q seq mismatch s
  | .flush q seq => Sys2Proof.Machine.execFlush q seq s
  | .deallocate q seq mismatch => Sys2Proof.Machine.execDeallocate q seq mismatch s
  | .writeZeroes q seq mismatch => Sys2Proof.Machine.execWriteZeroes q seq mismatch s
  | .loadToTier q seq => Sys2Proof.Machine.execLoadToTier q seq s
  | .waybillComplete q seq nv data bad energy => Sys2Proof.Machine.execWaybillComplete q seq nv data bad energy s
  | .nsReady k => Sys2Proof.Machine.execNsReady k s
  | .ssdInitDone port ns awuOk zeroes => Sys2Proof.Machine.execSsdInitDone port ns awuOk zeroes s
  | .ssdTimeout q seq => Sys2Proof.Machine.execSsdTimeout q seq s
  | .ssdAbortTimeout q seq => Sys2Proof.Machine.execSsdAbortTimeout q seq s
  | .remoteAttach rq arg => Sys2Proof.Machine.execRemoteAttach rq arg s
  | .remoteUp num ns => Sys2Proof.Machine.execRemoteUp num ns s
  | .remoteDetach rq arg => Sys2Proof.Machine.execRemoteDetach rq arg s
  | .keepAliveTimer num => Sys2Proof.Machine.execKeepAliveTimer num s
  | .remoteDown num kato => Sys2Proof.Machine.execRemoteDown num kato s
  | .nvmeCreateIoSq p sqe => Sys2Proof.Machine.execNvmeCreateIoSq p sqe s
  | .nvmeCreateIoCq p sqe => Sys2Proof.Machine.execNvmeCreateIoCq p sqe s
  | .nvmeDeleteIoSq p sqe => Sys2Proof.Machine.execNvmeDeleteIoSq p sqe s
  | .nvmeDeleteIoCq p sqe => Sys2Proof.Machine.execNvmeDeleteIoCq p sqe s
  | .nvmeIdentify p sqe => Sys2Proof.Machine.execNvmeIdentify p sqe s
  | .nvmeGetLogPage p sqe page => Sys2Proof.Machine.execNvmeGetLogPage p sqe page s
  | .nvmeGetFeatures p sqe => Sys2Proof.Machine.execNvmeGetFeatures p sqe s
  | .nvmeSetFeatures p sqe => Sys2Proof.Machine.execNvmeSetFeatures p sqe s
  | .nvmeAbort p sqe => Sys2Proof.Machine.execNvmeAbort p sqe s
  | .nvmeAsyncEventRequest p sqe => Sys2Proof.Machine.execNvmeAsyncEventRequest p sqe s
  | .nvmeRead p sq sqe => Sys2Proof.Machine.execNvmeRead p sq sqe s
  | .nvmeWrite p sq sqe => Sys2Proof.Machine.execNvmeWrite p sq sqe s
  | .nvmeFlush p sq sqe => Sys2Proof.Machine.execNvmeFlush p sq sqe s
  | .nvmeDatasetManagement p sq sqe => Sys2Proof.Machine.execNvmeDatasetManagement p sq sqe s
  | .nvmeWriteZeroes p sq sqe => Sys2Proof.Machine.execNvmeWriteZeroes p sq sqe s
  | .nvmeUnsupported p sq sqe => Sys2Proof.Machine.execNvmeUnsupported p sq sqe s
  | .nvmeCcEnClear p => Sys2Proof.Machine.execNvmeCcEnClear p s
  | .gcmEnc id fault => Sys2Proof.Machine.execGcmEnc id fault s
  | .gcmDec id fault second => Sys2Proof.Machine.execGcmDec id fault second s
  | .gmacGen id fault => Sys2Proof.Machine.execGmacGen id fault s
  | .gmacVer id fault => Sys2Proof.Machine.execGmacVer id fault s
  | .xtsEnc id fault => Sys2Proof.Machine.execXtsEnc id fault s
  | .xtsDec id fault => Sys2Proof.Machine.execXtsDec id fault s
  | .ctr id fault => Sys2Proof.Machine.execCtr id fault s
  | .cipherIssue k => Sys2Proof.Machine.execCipherIssue k s
  | .cipherComplete id => Sys2Proof.Machine.execCipherComplete id s
  | .clusterHalt rq arg => Sys2Proof.Machine.execClusterHalt rq arg s
  | .clusterResume rq arg => Sys2Proof.Machine.execClusterResume rq arg s
  | .matmul d id => Sys2Proof.Machine.execMatmul d id s
  | .vecAdd d id => Sys2Proof.Machine.execVecAdd d id s
  | .vecMul d id => Sys2Proof.Machine.execVecMul d id s
  | .vecMax d id => Sys2Proof.Machine.execVecMax d id s
  | .vecMin d id => Sys2Proof.Machine.execVecMin d id s
  | .scaleBias d id => Sys2Proof.Machine.execScaleBias d id s
  | .convert d id => Sys2Proof.Machine.execConvert d id s
  | .requant d id => Sys2Proof.Machine.execRequant d id s
  | .vecCopy d id => Sys2Proof.Machine.execVecCopy d id s
  | .relu d id => Sys2Proof.Machine.execRelu d id s
  | .gelu d id => Sys2Proof.Machine.execGelu d id s
  | .silu d id => Sys2Proof.Machine.execSilu d id s
  | .sigmoid d id => Sys2Proof.Machine.execSigmoid d id s
  | .tanh d id => Sys2Proof.Machine.execTanh d id s
  | .exp d id => Sys2Proof.Machine.execExp d id s
  | .recip d id => Sys2Proof.Machine.execRecip d id s
  | .rsqrt d id => Sys2Proof.Machine.execRsqrt d id s
  | .rowSum d id => Sys2Proof.Machine.execRowSum d id s
  | .rowMax d id => Sys2Proof.Machine.execRowMax d id s
  | .rowArgmax d id => Sys2Proof.Machine.execRowArgmax d id s
  | .softmax d id => Sys2Proof.Machine.execSoftmax d id s
  | .logsumexp d id => Sys2Proof.Machine.execLogsumexp d id s
  | .layernorm d id => Sys2Proof.Machine.execLayernorm d id s
  | .rmsnorm d id => Sys2Proof.Machine.execRmsnorm d id s
  | .topk d id => Sys2Proof.Machine.execTopk d id s
  | .jobComplete d id mismatch steps energy => Sys2Proof.Machine.execJobComplete d id mismatch steps energy s
  | .dqWait d => Sys2Proof.Machine.execDqWait d s
  | .dqBarrier d => Sys2Proof.Machine.execDqBarrier d s
  | .dqAdd d => Sys2Proof.Machine.execDqAdd d s
  | .dqWaitRelease d => Sys2Proof.Machine.execDqWaitRelease d s
  | .dqIssue d => Sys2Proof.Machine.execDqIssue d s
  | .dqFlush rq arg => Sys2Proof.Machine.execDqFlush rq arg s
  | .triggerFiring t => Sys2Proof.Machine.execTriggerFiring t s
  | .pendingFlush r => Sys2Proof.Machine.execPendingFlush r s
  | .decode d id => Sys2Proof.Machine.execDecode d id s
  | .frameRecord d id n w h key grain ten reason sigMatrix sigRange => Sys2Proof.Machine.execFrameRecord d id n w h key grain ten reason sigMatrix sigRange s
  | .decodeComplete d id recon extra noPoint steps energy => Sys2Proof.Machine.execDecodeComplete d id recon extra noPoint steps energy s
  | .openReq plat => Sys2Proof.Machine.execOpenReq plat s
  | .servingStepStart m => Sys2Proof.Machine.execServingStepStart m s
  | .layerBoundary h => Sys2Proof.Machine.execLayerBoundary h s
  | .layerOverrun h => Sys2Proof.Machine.execLayerOverrun h s
  | .servingStepComplete h energy => Sys2Proof.Machine.execServingStepComplete h energy s
  | .slotDemote plat => Sys2Proof.Machine.execSlotDemote plat s
  | .slotPromote h => Sys2Proof.Machine.execSlotPromote h s
  | .weightLoad rq arg => Sys2Proof.Machine.execWeightLoad rq arg s
  | .weightPieceComplete id status data accepted => Sys2Proof.Machine.execWeightPieceComplete id status data accepted s
  | .weightLoadDone accepted relayed => Sys2Proof.Machine.execWeightLoadDone accepted relayed s
  | .weightAbort rq => Sys2Proof.Machine.execWeightAbort rq s
  | .relayedPieceRx ord loadId dst data => Sys2Proof.Machine.execRelayedPieceRx ord loadId dst data s
  | .peerWaitTimeout ord accepted => Sys2Proof.Machine.execPeerWaitTimeout ord accepted s
  | .flitRx l f => Sys2Proof.Machine.execFlitRx l f s
  | .replayRequest l ack => Sys2Proof.Machine.execReplayRequest l ack s
  | .replayTimeout l => Sys2Proof.Machine.execReplayTimeout l s
  | .clDown l lostLock => Sys2Proof.Machine.execClDown l lostLock s
  | .laneSuspect l lane lock => Sys2Proof.Machine.execLaneSuspect l lane lock s
  | .laneControlRx l lane spare fseq => Sys2Proof.Machine.execLaneControlRx l lane spare fseq s
  | .clTraining l rec peerOk other => Sys2Proof.Machine.execClTraining l rec peerOk other s
  | .clSlot => Sys2Proof.Machine.execClSlot s
  | .memberTimeout ord => Sys2Proof.Machine.execMemberTimeout ord s
  | .msgSignalAdd => Sys2Proof.Machine.execMsgSignalAdd s
  | .msgSignalAck => Sys2Proof.Machine.execMsgSignalAck s
  | .msgWrite => Sys2Proof.Machine.execMsgWrite s
  | .msgWriteAck => Sys2Proof.Machine.execMsgWriteAck s
  | .msgCollective => Sys2Proof.Machine.execMsgCollective s
  | .msgServe => Sys2Proof.Machine.execMsgServe s
  | .msgLeave => Sys2Proof.Machine.execMsgLeave s
  | .copy k => Sys2Proof.Machine.execCopy k s
  | .broadcast k => Sys2Proof.Machine.execBroadcast k s
  | .allGather k => Sys2Proof.Machine.execAllGather k s
  | .reduceScatter k => Sys2Proof.Machine.execReduceScatter k s
  | .allReduce k => Sys2Proof.Machine.execAllReduce k s
  | .relayComplete tag => Sys2Proof.Machine.execRelayComplete tag s
  | .consistLeave rq => Sys2Proof.Machine.execConsistLeave rq s
  | .errorDetected unit cls detect addr plats detail also struct => Sys2Proof.Machine.execErrorDetected unit cls detect addr plats detail also struct s
  | .selfTestStart unit => Sys2Proof.Machine.execSelfTestStart unit s
  | .selfTestEnd unit pass place spare => Sys2Proof.Machine.execSelfTestEnd unit pass place spare s
  | .testOverrun unit place spare => Sys2Proof.Machine.execTestOverrun unit place spare s
  | .fatalHalt => Sys2Proof.Machine.execFatalHalt s
  | .unitQuery rq arg => Sys2Proof.Machine.execUnitQuery rq arg s
  | .vaonRising => Sys2Proof.Machine.execVaonRising s
  | .phase2Begin => Sys2Proof.Machine.execPhase2Begin s
  | .farLinkUp port width rate flit256 ok cap => Sys2Proof.Machine.execFarLinkUp port width rate flit256 ok cap s
  | .ethAnRetry sub => Sys2Proof.Machine.execEthAnRetry sub s
  | .reservedEncoding t w => Sys2Proof.Machine.execReservedEncoding t w s
  | .replayRequestRepeat l => Sys2Proof.Machine.execReplayRequestRepeat l s
  | .responderAckTimer qpn => Sys2Proof.Machine.execResponderAckTimer qpn s
  | .groupOperationTimeout tag => Sys2Proof.Machine.execGroupOperationTimeout tag s

end Sys2Proof.Machine
end

