-- ==== Sys2Proof/Machine/Idle.lean ====
section
/-! DEFINITION. What happens while no command waits (log 1): the island counts one nanosecond (02 R54, R58), and the event
rings of the mailboxes are filled (10 R285, log 35). -/
namespace Sys2Proof.Machine

/-- One nanosecond of running time; with the island's supply gone or RESET_N low, none. -/
def idle (s : Chip) : Chip := if s.boot.vaon && !s.boot.resetLow then pumpAll (advanceNs s) else s

end Sys2Proof.Machine
end

