-- ==== Sys2Proof/Machine/Step.lean ====
section
/-! DEFINITION. One step of the block: the command at the front of the queue, or, with no command waiting, one nanosecond of
running time (log 1). -/
namespace Sys2Proof.Machine

/-- The front command is carried out on the block with the rest of the queue; on an empty queue time passes. -/
def step (s : State) : Host.Outcome State Fault Refusal :=
  match s.pending with
  | [] => .next { s with chip := drivePins (idle s.chip) }
  | c :: rest => exec c { s with pending := rest }

/-- The word's command at the front of the queue. -/
def State.withFetchWord (s : State) (nbits w : Nat) : State :=
  match decodeTableWord nbits w with
  | some c => { s with pending := c :: s.pending }
  | none => s

end Sys2Proof.Machine
end

