-- ==== Sys2Proof/WellFormed.lean ====
section
/-! DEFINITION. Well-formed commands: operands within the widths that the spec gives requests, entries, arguments, cores,
mailboxes, platforms and ports. `exec` answers for every command; this is what a sender that keeps to the spec sends. -/
namespace Sys2Proof

/-- Addresses of a path: 48-bit station addresses; sub-ports 0 to 15 and peers 0 to 15; PL0 to PL63; T00 to T23. -/
def pathWf : Path → Bool
  | .field a => decide (a < 2 ^ 48)
  | .inband i p => decide (i < 16) && decide (p < 16)
  | .pf0 => true
  | .plat n => decide (n < 64)
  | .core t => decide (t < 24)

/-- A request: SEQ and SESSION are 16 bits (Table 4-2). -/
def rqWf (rq : Rq) : Bool := pathWf rq.path && decide (rq.seq < 65536) && decide (rq.session < 65536)

/-- An entry (Table 4-4). -/
def entryWf (e : Entry) : Bool :=
  decide (e.obj < 2 ^ 20) && decide (e.sub < 256) && decide (e.type < 256) && decide (e.op < 2)
    && decide (e.val.length < 65536)

/-- Up to 64 entries (R92). -/
def entriesWf (es : List Entry) : Bool := decide (es.length ≤ 64) && es.all entryWf

/-- An argument of an ACTION, 0 to 255 bytes (Table 3-1). -/
def argWf (b : Bytes) : Bool := decide (b.length ≤ 255)

/-- A frame of at most 1,500 bytes of payload. -/
def frameWf (f : FieldFrame) : Bool :=
  decide (f.dst < 2 ^ 48) && decide (f.src < 2 ^ 48) && decide (f.etherType < 65536) && decide (f.pdu.length ≤ 1500)

/-- A datagram for a sub-port, 0 to 15. -/
def datagramWf (d : Datagram) : Bool := decide (d.ep < 16)

/-- A submission entry of 64 bytes. -/
def sqeWf (b : Bytes) : Bool := b.length == 64

/-- T00 to T23. -/
def coreWf (t : Nat) : Bool := decide (t < 24)

/-- The mailboxes of PL0 to PL63, and PF0's (64). -/
def mailboxWf (m : Nat) : Bool := decide (m ≤ 64)

/-- PL0 to PL63. -/
def platWf (p : Nat) : Bool := decide (p < 64)

/-- The sub-ports of EP0 and EP1. -/
def subPortWf (i : Nat) : Bool := decide (i < 16)

/-- A handle, 1 to 8, or 0 (Table 4-2). -/
def handleWf (h : Nat) : Bool := decide (h ≤ 8)

/-- A well-formed command. -/
def Instr.wf : Instr → Bool
  | .read rq es => rqWf rq && entriesWf es
  | .write rq es => rqWf rq && entriesWf es
  | .describe rq es => rqWf rq && entriesWf es
  | .discover rq => rqWf rq
  | .echo rq es => rqWf rq && entriesWf es
  | .sessionOpen rq _ => rqWf rq
  | .sessionAuth rq _ => rqWf rq
  | .sessionClose rq => rqWf rq
  | .stagedSegment rq handle _ es => rqWf rq && handleWf handle && entriesWf es
  | .fieldFrameRx f => frameWf f
  | .inbandDatagramRx d => datagramWf d
  | .applyTick => true
  | .dupRecordExpire => true
  | .eventRead rq => rqWf rq
  | .odWriteGeneric rq e _ => rqWf rq && entryWf e
  | .odSave rq => rqWf rq
  | .odSaved _ => true
  | .stageOpen rq => rqWf rq
  | .stageCommit rq arg => rqWf rq && argWf arg
  | .stageAbort rq arg => rqWf rq && argWf arg
  | .stageExpired handle => handleWf handle
  | .mailboxDoorbell m _ => mailboxWf m
  | .mbxOdRequest m => mailboxWf m
  | .mbxToManager m => mailboxWf m
  | .mbxToPlatform => true
  | .mbxCtrlWrite m _ _ => mailboxWf m
  | .mbxEvtHeadWrite m _ => mailboxWf m
  | .odFastPortRequest t _ => coreWf t
  | .odStateRead t _ => coreWf t
  | .timebaseRefEdge _ _ => true
  | .tbHoldover => true
  | .tbHoldoverExpired => true
  | .tbRelock => true
  | .tbLocked _ => true
  | .tbNoRef => true
  | .stepMeterWindow _ _ => true
  | .timeSet rq arg => rqWf rq && argWf arg
  | .dwellTrip _ _ _ _ _ _ _ _ => true
  | .t1sJammed _ => true
  | .t1sRestored _ => true
  | .t1sOutputLimit _ => true
  | .plcaBeacon => true
  | .sessionIdleClose _ => true
  | .accountingInterval _ _ => true
  | .railDeviation _ => true
  | .windowBoundary => true
  | .jobAdmit _ => true
  | .powerRequest rq arg => rqWf rq && argWf arg
  | .powerStepDone => true
  | .railGovernorStep _ _ _ => true
  | .thermalLimitStep _ _ => true
  | .thermalRecoverStep _ _ => true
  | .thermalTrip _ _ => true
  | .energyEmergency _ => true
  | .pmbusFailed => true
  | .pmbusRetry _ => true
  | .drain rq => rqWf rq
  | .drainJobTimeout => true
  | .drainReady _ => true
  | .drainFailed _ => true
  | .dischargedRailRise _ _ => true
  | .e4Refused => true
  | .resetNAssert _ => true
  | .resetNRelease => true
  | .vaonCollapse => true
  | .bootRomLoad _ _ => true
  | .phase1End _ => true
  | .dieLit _ _ _ _ => true
  | .deviceReady _ _ _ => true
  | .readyLate => true
  | .farZeroingBlockDone _ => true
  | .warmReset rq => rqWf rq
  | .unitReset rq arg => rqWf rq && argWf arg
  | .perstAssert _ => true
  | .perstDeassert _ => true
  | .configRequest _ _ => true
  | .keyRevoke rq arg => rqWf rq && argWf arg
  | .floorRaise rq arg => rqWf rq && argWf arg
  | .measExtend rq arg => rqWf rq && argWf arg
  | .ownerClaim rq arg => rqWf rq && argWf arg
  | .ownerRelease rq => rqWf rq
  | .keyLoad rq arg => rqWf rq && argWf arg
  | .keyZeroise rq arg => rqWf rq && argWf arg
  | .keyZeroised _ => true
  | .leaseRelease _ => true
  | .leaseOverrun _ => true
  | .fwFetch rq arg => rqWf rq && argWf arg
  | .fwChunk rq arg => rqWf rq && argWf arg
  | .fwWritten _ => true
  | .fwVerify rq => rqWf rq
  | .fwVerified _ => true
  | .fwActivate rq => rqWf rq
  | .fwActivated => true
  | .fwHealthReport => true
  | .fwRollback => true
  | .fwCommit rq arg => rqWf rq && argWf arg
  | .dbgOpen rq => rqWf rq
  | .dbgClose rq => rqWf rq
  | .dbgTokenChunk rq arg => rqWf rq && argWf arg
  | .dbgFullEnter rq => rqWf rq
  | .getVersion => true
  | .getCapabilities _ => true
  | .negotiateAlgorithms => true
  | .getDigests => true
  | .getCertificate _ _ _ => true
  | .challenge _ _ => true
  | .getMeasurements _ _ _ => true
  | .respondIfReady => true
  | .spdmUnsupported _ => true
  | .bypass => true
  | .idcode => true
  | .samplePreload => true
  | .extest => true
  | .clamp => true
  | .highz => true
  | .extestPulse => true
  | .extestTrain => true
  | .tapDebugAccess _ => true
  | .progFetch rq arg => rqWf rq && argWf arg
  | .progChunk rq arg => rqWf rq && argWf arg
  | .progStart rq arg => rqWf rq && argWf arg
  | .progStarted _ => true
  | .progStop rq arg => rqWf rq && argWf arg
  | .progDiscard rq => rqWf rq
  | .progBufferTimeout => true
  | .windowWrite rq core _ _ => rqWf rq && coreWf core
  | .ld t _ _ _ _ => coreWf t
  | .lds t _ _ _ _ => coreWf t
  | .st t _ _ _ _ => coreWf t
  | .ldQ t _ _ _ => coreWf t
  | .stQ t _ _ _ => coreWf t
  | .inPort t _ _ => coreWf t
  | .out t _ _ => coreWf t
  | .adra t _ _ _ => coreWf t
  | .adda t _ _ _ => coreWf t
  | .suba t _ _ _ => coreWf t
  | .cmpa t _ _ => coreWf t
  | .mov t _ _ => coreWf t
  | .setah t _ _ => coreWf t
  | .addR t _ _ _ => coreWf t
  | .addc t _ _ _ => coreWf t
  | .sub t _ _ _ => coreWf t
  | .subc t _ _ _ => coreWf t
  | .andR t _ _ _ => coreWf t
  | .orR t _ _ _ => coreWf t
  | .xorR t _ _ _ => coreWf t
  | .andn t _ _ _ => coreWf t
  | .shl t _ _ _ => coreWf t
  | .shr t _ _ _ => coreWf t
  | .sar t _ _ _ => coreWf t
  | .rol t _ _ _ => coreWf t
  | .cmp t _ _ => coreWf t
  | .tst t _ _ => coreWf t
  | .clz t _ _ => coreWf t
  | .mul t _ _ _ => coreWf t
  | .mulhs t _ _ _ => coreWf t
  | .mulhu t _ _ _ => coreWf t
  | .divs t _ _ _ => coreWf t
  | .divu t _ _ _ => coreWf t
  | .rems t _ _ _ => coreWf t
  | .remu t _ _ _ => coreWf t
  | .movi t _ _ => coreWf t
  | .lui t _ _ => coreWf t
  | .addi t _ _ _ => coreWf t
  | .andi t _ _ _ => coreWf t
  | .ori t _ _ _ => coreWf t
  | .xori t _ _ _ => coreWf t
  | .cmpi t _ _ => coreWf t
  | .shli t _ _ _ => coreWf t
  | .shri t _ _ _ => coreWf t
  | .sari t _ _ _ => coreWf t
  | .roli t _ _ _ => coreWf t
  | .macs t _ _ _ => coreWf t
  | .macu t _ _ _ => coreWf t
  | .msus t _ _ _ => coreWf t
  | .mpys t _ _ _ => coreWf t
  | .mpyu t _ _ _ => coreWf t
  | .clracc t _ => coreWf t
  | .addacc t _ _ => coreWf t
  | .ext t _ _ _ _ => coreWf t
  | .mvad t _ _ => coreWf t
  | .mvahd t _ _ => coreWf t
  | .mvda t _ _ => coreWf t
  | .mvdas t _ _ => coreWf t
  | .mvdah t _ _ => coreWf t
  | .mfacc t _ _ _ => coreWf t
  | .mtacc t _ _ _ => coreWf t
  | .bCc t _ _ => coreWf t
  | .call t _ => coreWf t
  | .cntne t _ _ _ => coreWf t
  | .jumpr t _ => coreWf t
  | .callr t _ => coreWf t
  | .ret t => coreWf t
  | .sigrd t _ _ => coreWf t
  | .sigadd t _ _ => coreWf t
  | .sigwtGe t _ _ => coreWf t
  | .sigwtEq t _ _ => coreWf t
  | .sigwtRelease t => coreWf t
  | .nop t => coreWf t
  | .trap t _ => coreWf t
  | .rete t => coreWf t
  | .wait t => coreWf t
  | .waitResume t => coreWf t
  | .sync t => coreWf t
  | .mfsr t _ _ => coreWf t
  | .mtsr t _ _ => coreWf t
  | .signalInt t => coreWf t
  | .bindArm t _ _ => coreWf t
  | .intPendClear t _ => coreWf t
  | .rtimeLoRead t _ => coreWf t
  | .queuePush t _ _ => coreWf t
  | .queuePop t _ _ => coreWf t
  | .signalAdd _ _ _ => true
  | .platEnable rq arg => rqWf rq && argWf arg
  | .platReset rq arg _ => rqWf rq && argWf arg
  | .platResetDone plat => platWf plat
  | .platDisable rq arg => rqWf rq && argWf arg
  | .xlateInvalidate rq arg => rqWf rq && argWf arg
  | .invalDone => true
  | .granuleGrant rq arg => rqWf rq && argWf arg
  | .granuleReclaim rq arg => rqWf rq && argWf arg
  | .granuleReclaimed => true
  | .hostLinkUp _ _ _ _ => true
  | .hostLinkDown _ => true
  | .vfEnableChange _ _ _ => true
  | .pf0Flr => true
  | .carrierFlr _ => true
  | .d3hotEntry _ => true
  | .barAccessDiscard _ _ _ _ _ => true
  | .dbRsq _ _ _ => true
  | .dbRrq _ _ _ => true
  | .dbCq _ _ _ => true
  | .dbSq _ _ _ => true
  | .dbDispatch _ _ _ => true
  | .dbSig _ _ _ _ => true
  | .dbTokenToken _ _ _ => true
  | .dbTokenSubmit _ _ _ => true
  | .dbTokenClose _ _ _ => true
  | .msixUnmask _ _ _ => true
  | .ssdPresenceDetect _ _ => true
  | .ssdPresent _ _ _ _ => true
  | .ssdRemoved _ => true
  | .ssdStrayDma _ => true
  | .ssdErrorReport _ _ _ => true
  | .farLinkDown _ => true
  | .farLinkRetry _ => true
  | .patrolScrub _ _ _ _ => true
  | .granuleMigrate _ _ _ => true
  | .nearRemapped _ _ => true
  | .preventiveMigration _ => true
  | .ethFrameRx i _ _ => subPortWf i
  | .ethLinkUp i => subPortWf i
  | .ethLinkDown i _ => subPortWf i
  | .ethFecDegraded i => subPortWf i
  | .ethRetrain _ => true
  | .pfcFrameRx i => subPortWf i
  | .pfcPauseExpire i _ => subPortWf i
  | .pfcXoffSend i _ => subPortWf i
  | .pfcXoffRepeat i _ => subPortWf i
  | .pfcXonSend i _ => subPortWf i
  | .ptpMessageRx i _ _ _ _ => subPortWf i
  | .bucketRefill _ => true
  | .egressSelect i => subPortWf i
  | .wheelSlot => true
  | .samplerVisit _ _ => true
  | .samplerReset rq arg => rqWf rq && argWf arg
  | .qpModify rq arg => rqWf rq && argWf arg
  | .qpQuery rq arg => rqWf rq && argWf arg
  | .cqCreate rq arg => rqWf rq && argWf arg
  | .cqDestroy rq arg => rqWf rq && argWf arg
  | .mrRegister rq arg => rqWf rq && argWf arg
  | .mrDeregister rq arg => rqWf rq && argWf arg
  | .send _ => true
  | .wrWrite _ => true
  | .writeImm _ => true
  | .wrRead _ => true
  | .fetchAdd _ => true
  | .cmpSwap _ => true
  | .relaxedWrite _ => true
  | .relaxedFinal _ => true
  | .rawSend _ => true
  | .rxRequestPacket => true
  | .rxRelaxedPacket => true
  | .finalPlaced _ => true
  | .rxAck => true
  | .retransmitTimeout _ => true
  | .rnrTimer _ => true
  | .pacingInterval _ _ _ => true
  | .cnpRx => true
  | .saAdd rq arg => rqWf rq && argWf arg
  | .saDelete rq arg => rqWf rq && argWf arg
  | .espInbound _ => true
  | .espOutbound _ _ => true
  | .sqCreate rq arg => rqWf rq && argWf arg
  | .sqDelete rq arg => rqWf rq && argWf arg
  | .waybillRead _ _ => true
  | .waybillWrite _ _ _ => true
  | .flush _ _ => true
  | .deallocate _ _ _ => true
  | .writeZeroes _ _ _ => true
  | .loadToTier _ _ => true
  | .waybillComplete _ _ _ _ _ _ => true
  | .nsReady _ => true
  | .ssdInitDone _ _ _ _ => true
  | .ssdTimeout _ _ => true
  | .ssdAbortTimeout _ _ => true
  | .remoteAttach rq arg => rqWf rq && argWf arg
  | .remoteUp _ _ => true
  | .remoteDetach rq arg => rqWf rq && argWf arg
  | .keepAliveTimer _ => true
  | .remoteDown _ _ => true
  | .nvmeCreateIoSq p sqe => platWf p && sqeWf sqe
  | .nvmeCreateIoCq p sqe => platWf p && sqeWf sqe
  | .nvmeDeleteIoSq p sqe => platWf p && sqeWf sqe
  | .nvmeDeleteIoCq p sqe => platWf p && sqeWf sqe
  | .nvmeIdentify p sqe => platWf p && sqeWf sqe
  | .nvmeGetLogPage p sqe _ => platWf p && sqeWf sqe
  | .nvmeGetFeatures p sqe => platWf p && sqeWf sqe
  | .nvmeSetFeatures p sqe => platWf p && sqeWf sqe
  | .nvmeAbort p sqe => platWf p && sqeWf sqe
  | .nvmeAsyncEventRequest p sqe => platWf p && sqeWf sqe
  | .nvmeRead p _ sqe => platWf p && sqeWf sqe
  | .nvmeWrite p _ sqe => platWf p && sqeWf sqe
  | .nvmeFlush p _ sqe => platWf p && sqeWf sqe
  | .nvmeDatasetManagement p _ sqe => platWf p && sqeWf sqe
  | .nvmeWriteZeroes p _ sqe => platWf p && sqeWf sqe
  | .nvmeUnsupported p _ sqe => platWf p && sqeWf sqe
  | .nvmeCcEnClear p => platWf p
  | .gcmEnc _ _ => true
  | .gcmDec _ _ _ => true
  | .gmacGen _ _ => true
  | .gmacVer _ _ => true
  | .xtsEnc _ _ => true
  | .xtsDec _ _ => true
  | .ctr _ _ => true
  | .cipherIssue _ => true
  | .cipherComplete _ => true
  | .clusterHalt rq arg => rqWf rq && argWf arg
  | .clusterResume rq arg => rqWf rq && argWf arg
  | .matmul _ _ => true
  | .vecAdd _ _ => true
  | .vecMul _ _ => true
  | .vecMax _ _ => true
  | .vecMin _ _ => true
  | .scaleBias _ _ => true
  | .convert _ _ => true
  | .requant _ _ => true
  | .vecCopy _ _ => true
  | .relu _ _ => true
  | .gelu _ _ => true
  | .silu _ _ => true
  | .sigmoid _ _ => true
  | .tanh _ _ => true
  | .exp _ _ => true
  | .recip _ _ => true
  | .rsqrt _ _ => true
  | .rowSum _ _ => true
  | .rowMax _ _ => true
  | .rowArgmax _ _ => true
  | .softmax _ _ => true
  | .logsumexp _ _ => true
  | .layernorm _ _ => true
  | .rmsnorm _ _ => true
  | .topk _ _ => true
  | .jobComplete _ _ _ _ _ => true
  | .dqWait _ => true
  | .dqBarrier _ => true
  | .dqAdd _ => true
  | .dqWaitRelease _ => true
  | .dqIssue _ => true
  | .dqFlush rq arg => rqWf rq && argWf arg
  | .triggerFiring _ => true
  | .pendingFlush _ => true
  | .decode _ _ => true
  | .frameRecord _ _ _ _ _ _ _ _ _ _ _ => true
  | .decodeComplete _ _ _ _ _ _ _ => true
  | .openReq plat => platWf plat
  | .servingStepStart _ => true
  | .layerBoundary _ => true
  | .layerOverrun _ => true
  | .servingStepComplete _ _ => true
  | .slotDemote plat => platWf plat
  | .slotPromote _ => true
  | .weightLoad rq arg => rqWf rq && argWf arg
  | .weightPieceComplete _ _ _ _ => true
  | .weightLoadDone _ _ => true
  | .weightAbort rq => rqWf rq
  | .relayedPieceRx _ _ _ _ => true
  | .peerWaitTimeout _ _ => true
  | .flitRx _ _ => true
  | .replayRequest _ _ => true
  | .replayTimeout _ => true
  | .clDown _ _ => true
  | .laneSuspect _ _ _ => true
  | .laneControlRx _ _ _ _ => true
  | .clTraining _ _ _ _ => true
  | .clSlot => true
  | .memberTimeout _ => true
  | .msgSignalAdd => true
  | .msgSignalAck => true
  | .msgWrite => true
  | .msgWriteAck => true
  | .msgCollective => true
  | .msgServe => true
  | .msgLeave => true
  | .copy _ => true
  | .broadcast _ => true
  | .allGather _ => true
  | .reduceScatter _ => true
  | .allReduce _ => true
  | .relayComplete _ => true
  | .consistLeave rq => rqWf rq
  | .errorDetected _ _ _ _ _ _ _ _ => true
  | .selfTestStart _ => true
  | .selfTestEnd _ _ _ _ => true
  | .testOverrun _ _ _ => true
  | .fatalHalt => true
  | .unitQuery rq arg => rqWf rq && argWf arg
  | .vaonRising => true
  | .phase2Begin => true
  | .farLinkUp _ _ _ _ _ _ => true
  | .ethAnRetry i => subPortWf i
  | .reservedEncoding t _ => coreWf t
  | .replayRequestRepeat _ => true
  | .responderAckTimer _ => true
  | .groupOperationTimeout _ => true

end Sys2Proof
end

