-- ==== Sys2Proof/Safety.lean ====
section
/-! DEFINITION. The terms in which the statements of the block speak: what a command's outcome leaves, when a Tuital core
issues, and the invariant of a step. -/
namespace Sys2Proof.Machine

/-- The outcome in which the block has become `c`, with ALERT_N driven from it; the queue of waiting commands is as it
was. -/
def becomes (s : State) (c : Chip) : Host.Outcome State Fault Refusal := .next { s with chip := drivePins c }

/-- Core `t` issues its next instruction: it runs (OD 08.001), waits for nothing, has no interrupt to take (08 R236), and no
uncorrectable error stands in the instruction word or the register file. -/
abbrev Ready (s : State) (t : Nat) : Prop :=
  t < 24 ∧ coreState s.chip t = 2 ∧ (coreOf s.chip t).wait = .none ∧ (coreOf s.chip t).takeable = false
    ∧ (coreOf s.chip t).machineCheck = none

/-- The outcome in which core `t` alone has changed, to `c`. -/
def coreBecomes (s : State) (t : Nat) (c : Core) : Host.Outcome State Fault Refusal := becomes s (setCore s.chip t c)

/-- What a data instruction leaves of a core (09 R251): D register `rd` holds `r`, N and Z are those of `r`, V and C are `v`
and `cy`, every other D register and bit of SW is as before, the next instruction follows, and nothing else changes. -/
def DataResult (c c' : Core) (rd : Fin 16) (r : W32) (v cy : Bool) : Prop :=
  c'.dr rd = r ∧ (∀ x : Fin 16, x ≠ rd → c'.dr x = c.dr x)
    ∧ swBit c'.sw swN = r.msb ∧ swBit c'.sw swZ = (r == 0) ∧ swBit c'.sw swV = v ∧ swBit c'.sw swC = cy
    ∧ (∀ i, 4 ≤ i → swBit c'.sw i = swBit c.sw i)
    ∧ c' = { c with d := c'.d, sw := c'.sw, pc := c.pc + 4 }

/-- What a comparison leaves of a core: the four flags, and the next instruction. -/
def FlagResult (c c' : Core) (n z v cy : Bool) : Prop :=
  swBit c'.sw swN = n ∧ swBit c'.sw swZ = z ∧ swBit c'.sw swV = v ∧ swBit c'.sw swC = cy
    ∧ (∀ i, 4 ≤ i → swBit c'.sw i = swBit c.sw i) ∧ c' = { c with sw := c'.sw, pc := c.pc + 4 }

/-- What a move into a D register leaves of a core: no flag changes. -/
def MoveResult (c c' : Core) (rd : Fin 16) (r : W32) : Prop :=
  c'.dr rd = r ∧ (∀ x : Fin 16, x ≠ rd → c'.dr x = c.dr x) ∧ c' = { c with d := c'.d, pc := c.pc + 4 }

/-- What a write of an A register leaves of a core. -/
def AddrResult (c c' : Core) (rd : Fin 16) (r : W48) : Prop :=
  c'.ar rd = r ∧ (∀ x : Fin 16, x ≠ rd → c'.ar x = c.ar x) ∧ c' = { c with a := c'.a, pc := c.pc + 4 }

/-- What a write of an accumulator leaves of a core. -/
def AccResult (c c' : Core) (rd : Fin 16) (r : W80) : Prop :=
  c'.ac rd = r ∧ (∀ x : Fin 16, x ≠ rd → c'.ac x = c.ac x) ∧ c' = { c with acc := c'.acc, pc := c.pc + 4 }

/-- A signed value lies outside 32 bits. -/
def outside32 (x : Int) : Bool := decide (x < -2147483648) || decide (2147483647 < x)

/-- What taking an exception or interrupt leaves (08 R233): EPC, ECAUSE, PIE, IE, EXL and pc of core `t`, FADDR `addr`; it is
counted in OD 08.002 and shown in OD 08.003; the core runs; other registers, cores and objects, and the rest of the block,
are as before. -/
def Enters (s : State) (t cause sub : Nat) (epc : W18) (addr : W48) (b : Chip) : Prop :=
  let c := coreOf s.chip t
  let c' := coreOf b t
  c'.epc = epc ∧ c'.ecause = BitVec.ofNat 32 (sub * 256 + cause) ∧ c'.pc = c.vbase + BitVec.ofNat 18 (16 * cause)
    ∧ swBit c'.sw swPie = swBit c.sw swIe ∧ swBit c'.sw swIe = false ∧ swBit c'.sw swExl = true
    ∧ (∀ j, j ≠ swPie → j ≠ swIe → j ≠ swExl → swBit c'.sw j = swBit c.sw j)
    ∧ c' = { c with epc := c'.epc, ecause := c'.ecause, pc := c'.pc, sw := c'.sw, faddr := addr, wait := .none }
    ∧ (∀ u, u ≠ t → coreOf b u = coreOf s.chip u)
    ∧ odN b 0x08002 (t + 1) = (odN s.chip 0x08002 (t + 1) + 1) % 2 ^ 32 ∧ odN b 0x08003 (t + 1) = sub * 256 + cause
    ∧ coreState b t = 2
    ∧ (∀ o k, k < 256 → k ≠ t + 1 ∨ (o ≠ 0x08001 ∧ o ≠ 0x08002 ∧ o ≠ 0x08003) → odGet b o k = odGet s.chip o k)
    ∧ b = { s.chip with od := b.od, cores := b.cores }

/-- Every object value outside `l` (object, subindex) is as before. -/
def Keeps (c b : Chip) (l : List (Nat × Nat)) : Prop := ∀ o k, k < 256 → (o, k) ∉ l → odGet b o k = odGet c o k

/-- A request that the block carries out now: it answers, and the request is the next of its path (04 R117, R118). -/
abbrev Handles (s : State) (rq : Rq) : Prop := answering s.chip = true ∧ inTurn s.chip rq = true

/-- A request that is carried out now, with an entry that names instance `o` of a served object of row `r` (03 R72, R73,
R107). -/
abbrev Located (s : State) (rq : Rq) (obj sub : Nat) (r : OdDef) (o : Nat) : Prop :=
  Handles s rq ∧ locate s.chip (domainOf s.chip rq) obj sub = (0, some (r, o))

/-- The outcome in which the block has become `b` and answered the request ok with the entries `es`. -/
def answers (s : State) (rq : Rq) (es : List Entry) (b : Chip) : Host.Outcome State Fault Refusal :=
  becomes s (answer b rq ⟨0, 0xFF, es⟩)

/-- An execute request that the block carries out now: the block answers, the request is the next of its path (04 R118), and
the object serves an action with an argument of this length to the request's domain (03 R75 to R77). -/
abbrev Accepted (s : State) (rq : Rq) (obj : Nat) (arg : Bytes) : Prop :=
  answering s.chip = true ∧ inTurn s.chip rq = true ∧ (execCheck s.chip rq obj arg).1 = 0

/-- The outcome in which the block has become `b` and answered the request ok, without bytes. -/
def acks (s : State) (rq : Rq) (b : Chip) : Host.Outcome State Fault Refusal := becomes s (answer b rq ⟨0, 0xFF, []⟩)

/-- The same, with the bytes of an answer entry (a BLOB of object `obj`). -/
def acksWith (s : State) (rq : Rq) (obj : Nat) (bytes : Bytes) (b : Chip) : Host.Outcome State Fault Refusal :=
  becomes s (answer b rq ⟨0, 0xFF, [⟨obj, 0, 0x0D, 1, bytes⟩]⟩)

/-- The outcome in which the block has become `b` and answered the request with status `e`. -/
def refuses (s : State) (rq : Rq) (e : Nat) (b : Chip) : Host.Outcome State Fault Refusal :=
  becomes s (answer b rq ⟨e, 0, []⟩)

/-- An 8-byte doorbell write through function `fn` reaches its engine for `owner`: PF0's for the open domain (0xFD), a VF's for
its ENABLED platform (11 R301, R303, R304). -/
abbrev Rings (s : State) (fn owner : Nat) : Prop :=
  fnPresent s.chip fn = true ∧ s.chip.boot.fatal = false ∧ decodes s.chip fn = true
    ∧ ((fn = 0 ∧ owner = 0xFD) ∨ (4 ≤ fn ∧ platOfFn s.chip fn = some owner ∧ platOn s.chip owner = true))

/-- A RoCEv2 packet `f` for queue pair `w` is the next one taken from the ingress buffer, and its ICRC, its queue pair's
state and the ESP policy let it through; `y` is the block with the packet taken and counted (15 R386, R404, R409). -/
abbrev Arrives (s : State) (f : RxFrame) (w : Nat) (y : Chip) : Prop :=
  let c := s.chip
  let q := qpOf c w
  c.net.buffer.find? (fun f => f.cls == 3) = some f ∧ w = bthQpn f.data ∧ w < 2 ^ 18 ∧ f.icrcOk = true ∧ f.sa = none
    ∧ qEsp q = false ∧ f.ecn ≠ 3 ∧ (q.state = 2 ∨ q.state = 3)
    ∧ y = rdmaCount { c with net := { c.net with buffer := c.net.buffer.erase f } } q.plat 2

/-- ALERT_N follows 03 R102, and every waiting command is well-formed. -/
def Inv (s : State) : Prop := s.chip.alert = alertLow s.chip ∧ ∀ c ∈ s.pending, c.wf = true

end Sys2Proof.Machine
end

