-- ==== Sys2Proof/Certificates/Slice0/Obligations.lean ====
section
/-! DEFINITION. The statements for the provers. Each says in its docstring which rules of spec/ it formalises. -/
open Sys2Proof Sys2Proof.Machine

/-! ## The queue, time, and what every command keeps -/

/-- The command at the front of the queue is carried out on the block with the rest of the queue behind it.
Readings and choices of the model in it: log entry 1. -/
def Obligations.StepRunsFront : Prop :=
  ∀ (c : Instr) (rest : List Instr) (s : State), step { s with pending := c :: rest } = exec c { s with pending := rest }

/-- The queue belongs to the step: no command changes it, and every command completes.
Readings and choices of the model in it: log entries 1, 14. -/
def Obligations.CommandsKeepQueue : Prop :=
  ∀ (c : Instr) (s : State), ∃ b : Chip, exec c s = .next { s with chip := drivePins b }

/-- State.reset meets the invariant. -/
def Obligations.ResetInv : Prop := Inv State.reset

/-- Every step keeps the invariant: ALERT_N is driven low exactly while a record of class OD 01.124 or above that the field
network may receive lies at or behind its cursor (03 R102), and waiting commands stay well-formed. -/
def Obligations.StepInv : Prop :=
  ∀ s t : State, Inv s → step s = .next t → Inv t

/-! ## Tuital instructions -/

/-- Three-register data instructions (09 Table 9-7, R251): result, flags and frame, for every operand, the destination being
also a source included. -/
def Sys2Proof.Claim.DataRegister : Prop :=
  ∀ (s : State) (t : Nat) (rd ra rb : Fin 16), Ready s t →
    let c := coreOf s.chip t
    let a := c.dr ra
    let b := c.dr rb
    let k := b2n (swBit c.sw swC)
    let n := b.toNat % 32
    let gives (i : Instr) (r : W32) (v cy : Bool) : Prop := ∃ c', exec i s = coreBecomes s t c' ∧ DataResult c c' rd r v cy
    gives (.addR t rd ra rb) (a + b) (outside32 (a.toInt + b.toInt)) (decide (2 ^ 32 ≤ a.toNat + b.toNat))
      ∧ gives (.addc t rd ra rb) (a + b + BitVec.ofNat 32 k) (outside32 (a.toInt + b.toInt + k))
          (decide (2 ^ 32 ≤ a.toNat + b.toNat + k))
      ∧ gives (.sub t rd ra rb) (a - b) (outside32 (a.toInt - b.toInt)) (decide (a.toNat < b.toNat))
      ∧ gives (.subc t rd ra rb) (a - b - BitVec.ofNat 32 k) (outside32 (a.toInt - b.toInt - k))
          (decide (a.toNat < b.toNat + k))
      ∧ gives (.andR t rd ra rb) (a &&& b) false false
      ∧ gives (.orR t rd ra rb) (a ||| b) false false
      ∧ gives (.xorR t rd ra rb) (a ^^^ b) false false
      ∧ gives (.andn t rd ra rb) (a &&& ~~~b) false false
      ∧ gives (.shl t rd ra rb) (BitVec.ofNat 32 (a.toNat * 2 ^ n)) false (decide (n ≠ 0) && a.getLsbD (32 - n))
      ∧ gives (.shr t rd ra rb) (BitVec.ofNat 32 (a.toNat / 2 ^ n)) false (decide (n ≠ 0) && a.getLsbD (n - 1))
      ∧ gives (.sar t rd ra rb) (BitVec.ofInt 32 (a.toInt / 2 ^ n)) false (decide (n ≠ 0) && a.getLsbD (n - 1))
      ∧ gives (.rol t rd ra rb) (BitVec.ofNat 32 (a.toNat * 2 ^ n + a.toNat / 2 ^ (32 - n))) false
          (decide (n ≠ 0) && a.getLsbD (32 - n))
      ∧ gives (.mul t rd ra rb) (a * b) (outside32 (a.toInt * b.toInt)) (decide (2 ^ 32 ≤ a.toNat * b.toNat))
      ∧ gives (.mulhs t rd ra rb) (BitVec.ofInt 32 (a.toInt * b.toInt / 2 ^ 32)) false false
      ∧ gives (.mulhu t rd ra rb) (BitVec.ofNat 32 (a.toNat * b.toNat / 2 ^ 32)) false false

/-- Data instructions with an immediate (09 Table 9-8), CLZ, and the moves that change no flag. -/
def Sys2Proof.Claim.DataImmediate : Prop :=
  ∀ (s : State) (t : Nat) (rd ra : Fin 16) (imm : BitVec 16) (m : Fin 32), Ready s t →
    let c := coreOf s.chip t
    let a := c.dr ra
    let x : W32 := imm.signExtend 32
    let z : W32 := imm.zeroExtend 32
    let n := m.val
    let gives (i : Instr) (r : W32) (v cy : Bool) : Prop := ∃ c', exec i s = coreBecomes s t c' ∧ DataResult c c' rd r v cy
    let moves (i : Instr) (r : W32) : Prop := ∃ c', exec i s = coreBecomes s t c' ∧ MoveResult c c' rd r
    gives (.addi t rd ra imm) (a + x) (outside32 (a.toInt + imm.toInt)) (decide (2 ^ 32 ≤ a.toNat + x.toNat))
      ∧ gives (.andi t rd ra imm) (a &&& z) false false
      ∧ gives (.ori t rd ra imm) (a ||| z) false false
      ∧ gives (.xori t rd ra imm) (a ^^^ z) false false
      ∧ gives (.shli t rd ra m) (BitVec.ofNat 32 (a.toNat * 2 ^ n)) false (decide (n ≠ 0) && a.getLsbD (32 - n))
      ∧ gives (.shri t rd ra m) (BitVec.ofNat 32 (a.toNat / 2 ^ n)) false (decide (n ≠ 0) && a.getLsbD (n - 1))
      ∧ gives (.sari t rd ra m) (BitVec.ofInt 32 (a.toInt / 2 ^ n)) false (decide (n ≠ 0) && a.getLsbD (n - 1))
      ∧ gives (.roli t rd ra m) (BitVec.ofNat 32 (a.toNat * 2 ^ n + a.toNat / 2 ^ (32 - n))) false
          (decide (n ≠ 0) && a.getLsbD (32 - n))
      ∧ (∀ k : Nat, k ≤ 32 → a.toNat < 2 ^ (32 - k) → (k = 32 ∨ 2 ^ (31 - k) ≤ a.toNat) →
          gives (.clz t rd ra) (BitVec.ofNat 32 k) false false)
      ∧ moves (.movi t rd imm) x
      ∧ moves (.lui t rd imm) (BitVec.ofNat 32 (imm.toNat * 65536))

/-- Comparisons change the four flags and nothing else (09 R250, R251). -/
def Sys2Proof.Claim.Compare : Prop :=
  ∀ (s : State) (t : Nat) (ra rb : Fin 16) (imm : BitVec 16), Ready s t →
    let c := coreOf s.chip t
    let a := c.dr ra
    let b := c.dr rb
    let x : W32 := imm.signExtend 32
    let p := c.ar ra
    let q := c.ar rb
    let gives (i : Instr) (n z v cy : Bool) : Prop := ∃ c', exec i s = coreBecomes s t c' ∧ FlagResult c c' n z v cy
    gives (.cmp t ra rb) (a - b).msb (a == b) (outside32 (a.toInt - b.toInt)) (decide (a.toNat < b.toNat))
      ∧ gives (.cmpi t ra imm) (a - x).msb (a == x) (outside32 (a.toInt - imm.toInt)) (decide (a.toNat < x.toNat))
      ∧ gives (.tst t ra rb) (a &&& b).msb (a &&& b == 0) false false
      ∧ gives (.cmpa t ra rb) (p - q).msb (p == q) false (decide (p.toNat < q.toNat))

/-- Division (09 R252): the quotient is cut off toward zero, so the remainder has the sign of the dividend, and
Da = quotient * Db + remainder; a divisor of 0 raises DIV_ZERO, and nothing else changes; DIVS of -2^31 by -1 gives -2^31
and sets V, REMS of them gives 0 with V clear. -/
def Obligations.Division : Prop :=
  ∀ (s : State) (t : Nat) (rd ra rb : Fin 16), Ready s t →
    let c := coreOf s.chip t
    let a := c.dr ra
    let b := c.dr rb
    let gives (i : Instr) (r : W32) (v : Bool) : Prop := ∃ c', exec i s = coreBecomes s t c' ∧ DataResult c c' rd r v false
    (b ≠ 0 →
        (∃ q r : Int, q * b.toInt + r = a.toInt ∧ r.natAbs < b.toInt.natAbs ∧ (0 ≤ a.toInt → 0 ≤ r) ∧ (a.toInt ≤ 0 → r ≤ 0)
          ∧ gives (.divs t rd ra rb) (BitVec.ofInt 32 q) (decide (a.toInt = -2147483648) && decide (b.toInt = -1))
          ∧ gives (.rems t rd ra rb) (BitVec.ofInt 32 r) false)
        ∧ (∃ q r : Nat, q * b.toNat + r = a.toNat ∧ r < b.toNat ∧ gives (.divu t rd ra rb) (BitVec.ofNat 32 q) false
          ∧ gives (.remu t rd ra rb) (BitVec.ofNat 32 r) false))
      ∧ (a = 0x80000000#32 → b = 0xFFFFFFFF#32 → gives (.divs t rd ra rb) 0x80000000#32 true
          ∧ gives (.rems t rd ra rb) 0#32 false)
      ∧ (b = 0 → swBit c.sw swExl = false → ∀ i, i = .divs t rd ra rb ∨ i = .divu t rd ra rb ∨ i = .rems t rd ra rb
          ∨ i = .remu t rd ra rb → ∃ x, exec i s = becomes s x ∧ Enters s t 6 0 c.pc c.faddr x)

/-- Accumulator operations (09 R253, R255) with accumulator numbers 0 to 3: the exact result where it fits; a result that
does not fit is held at the limit and sets SAT, here with ST clear. EXT rounds, shifts and saturates to 32 bits. -/
def Sys2Proof.Claim.Accumulators : Prop :=
  ∀ (s : State) (t : Nat) (rd ra rb : Fin 16) (sh : Fin 64) (rnd : Bool) (x : Int), Ready s t → rd.val ≤ 3 → ra.val ≤ 3 →
    let c := coreOf s.chip t
    let acc := c.ac rd
    let a := c.dr ra
    let b := c.dr rb
    let sets (i : Instr) (v : Int) : Prop := ∃ c', exec i s = coreBecomes s t c' ∧ AccResult c c' rd (BitVec.ofInt 80 v)
    let writes (i : Instr) (v : Int) : Prop := (-(2 ^ 79) ≤ v ∧ v < 2 ^ 79 → sets i v)
        ∧ (¬ (-(2 ^ 79) ≤ v ∧ v < 2 ^ 79) → swBit c.sw swSt = false →
            ∃ c', exec i s = coreBecomes s t c'
              ∧ c'.ac rd = BitVec.ofInt 80 (if v < 0 then -(2 ^ 79) else 2 ^ 79 - 1)
              ∧ (∀ y : Fin 16, y ≠ rd → c'.ac y = c.ac y)
              ∧ swBit c'.sw swSat = true ∧ (∀ j, j ≠ swSat → swBit c'.sw j = swBit c.sw j)
              ∧ c' = { c with acc := c'.acc, sw := c'.sw, pc := c.pc + 4 })
    writes (.macs t rd ra rb) (acc.toInt + a.toInt * b.toInt)
      ∧ writes (.macu t rd ra rb) (acc.toInt + a.toNat * b.toNat)
      ∧ writes (.msus t rd ra rb) (acc.toInt - a.toInt * b.toInt)
      ∧ sets (.mpys t rd ra rb) (a.toInt * b.toInt)
      ∧ sets (.mpyu t rd ra rb) (a.toNat * b.toNat)
      ∧ sets (.clracc t rd) 0
      ∧ writes (.addacc t rd ra) (acc.toInt + (c.ac ra).toInt)
      ∧ (x = ((c.ac ra).toInt + (if rnd = true ∧ 0 < sh.val then 2 ^ (sh.val - 1) else 0)) / 2 ^ sh.val →
          (outside32 x = false →
            ∃ c', exec (.ext t rb ra sh rnd) s = coreBecomes s t c' ∧ DataResult c c' rb (BitVec.ofInt 32 x) false false)
          ∧ (outside32 x = true → swBit c.sw swSt = false →
            ∃ c', exec (.ext t rb ra sh rnd) s = coreBecomes s t c'
              ∧ c'.dr rb = BitVec.ofInt 32 (if x < 0 then -2147483648 else 2147483647)
              ∧ (∀ y : Fin 16, y ≠ rb → c'.dr y = c.dr y)
              ∧ swBit c'.sw swV = true ∧ swBit c'.sw swSat = true ∧ swBit c'.sw swC = false
              ∧ c' = { c with d := c'.d, sw := c'.sw, pc := c.pc + 4 }))

/-- Moves between accumulators and D registers by part: bits 31 to 0, 63 to 32, and 79 to 64, the last read sign-extended
(09 Table 9-10). -/
def Sys2Proof.Claim.AccumulatorParts : Prop :=
  ∀ (s : State) (t : Nat) (rd ra : Fin 16), Ready s t →
    let c := coreOf s.chip t
    (ra.val ≤ 3 →
      (∃ c', exec (.mfacc t rd ra 0) s = coreBecomes s t c' ∧ MoveResult c c' rd ((c.ac ra).extractLsb' 0 32))
      ∧ (∃ c', exec (.mfacc t rd ra 1) s = coreBecomes s t c' ∧ MoveResult c c' rd ((c.ac ra).extractLsb' 32 32))
      ∧ (∃ c', exec (.mfacc t rd ra 2) s = coreBecomes s t c'
          ∧ MoveResult c c' rd (((c.ac ra).extractLsb' 64 16).signExtend 32)))
    ∧ (rd.val ≤ 3 →
      (∃ c' v, exec (.mtacc t rd ra 0) s = coreBecomes s t c' ∧ AccResult c c' rd v
          ∧ v.extractLsb' 0 32 = c.dr ra ∧ v.extractLsb' 32 48 = (c.ac rd).extractLsb' 32 48)
      ∧ (∃ c' v, exec (.mtacc t rd ra 1) s = coreBecomes s t c' ∧ AccResult c c' rd v
          ∧ v.extractLsb' 0 32 = (c.ac rd).extractLsb' 0 32 ∧ v.extractLsb' 32 32 = c.dr ra
          ∧ v.extractLsb' 64 16 = (c.ac rd).extractLsb' 64 16)
      ∧ (∃ c' v, exec (.mtacc t rd ra 2) s = coreBecomes s t c' ∧ AccResult c c' rd v
          ∧ v.extractLsb' 0 64 = (c.ac rd).extractLsb' 0 64 ∧ v.extractLsb' 64 16 = (c.dr ra).extractLsb' 0 16))

/-- Address arithmetic and moves (09 R250): modulo 2^48, no flag changed, nothing accessed.
Readings and choices of the model in it: log entry 51. -/
def Obligations.AddressMoves : Prop :=
  ∀ (s : State) (t : Nat) (rd ra rb : Fin 16) (imm disp : BitVec 16) (sc : Fin 4), Ready s t →
    let c := coreOf s.chip t
    let toA (i : Instr) (r : W48) : Prop := ∃ c', exec i s = coreBecomes s t c' ∧ AddrResult c c' rd r
    let toD (i : Instr) (r : W32) : Prop := ∃ c', exec i s = coreBecomes s t c' ∧ MoveResult c c' rd r
    toA (.adda t rd ra (.reg rb)) (c.ar ra + (c.dr rb).signExtend 48)
      ∧ toA (.adda t rd ra (.imm imm)) (c.ar ra + imm.signExtend 48)
      ∧ toD (.suba t rd ra rb) ((c.ar ra - c.ar rb).extractLsb' 0 32)
      ∧ toA (.mov t rd ra) (c.ar ra)
      ∧ toA (.setah t rd imm) (imm ++ (c.ar rd).extractLsb' 0 32)
      ∧ toD (.mvad t rd ra) ((c.ar ra).extractLsb' 0 32)
      ∧ toD (.mvahd t rd ra) (((c.ar ra).extractLsb' 32 16).zeroExtend 32)
      ∧ toA (.mvda t rd ra) ((c.dr ra).zeroExtend 48)
      ∧ toA (.mvdas t rd ra) ((c.dr ra).signExtend 48)
      ∧ toA (.mvdah t rd ra) ((c.dr ra).extractLsb' 0 16 ++ (c.ar rd).extractLsb' 0 32)
      ∧ toA (.adra t rd ra (.m0 disp)) (c.ar ra + disp.signExtend 48)
      ∧ toA (.adra t rd ra (.m1 2 sc rb)) (c.ar ra + (c.dr rb).signExtend 48 * BitVec.ofNat 48 (2 ^ sc.val))

/-- Loads from local SRAM (09 R247, 08 R231): the effective address by the form's function `eaOf`; B and H are extended as the
form says; the base register takes its update; no memory changes. LD.Q drops bits 63 to 48. -/
def Sys2Proof.Claim.LocalLoads : Prop :=
  ∀ (s : State) (t : Nat) (rd n : Fin 16) (sz : Fin 4) (ea : Ea) (a : W48) (u : Option W48), Ready s t →
    let c := coreOf s.chip t
    let size := 2 ^ sz.val
    eaOf c n size ea = some (a, u) → a.toNat % size = 0 → a.toNat < 131072 → sramBad c a.toNat size = false →
    let v := leNat (memRead c.sram a.toNat size)
    let base (c' : Core) : Prop := c'.ar n = u.getD (c.ar n) ∧ ∀ x : Fin 16, x ≠ n → c'.ar x = c.ar x
    (sz.val ≠ 3 → ∃ c', exec (.ld t rd n sz ea) s = coreBecomes s t c' ∧ base c'
        ∧ c'.dr rd = BitVec.ofNat 32 v ∧ (∀ x : Fin 16, x ≠ rd → c'.dr x = c.dr x)
        ∧ c' = { c with d := c'.d, a := c'.a, pc := c.pc + 4 })
      ∧ (sz.val ≤ 1 → ∃ c', exec (.lds t rd n sz ea) s = coreBecomes s t c' ∧ base c'
        ∧ c'.dr rd = BitVec.ofInt 32 (if v < 2 ^ (8 * size - 1) then v else (v : Int) - 2 ^ (8 * size))
        ∧ (∀ x : Fin 16, x ≠ rd → c'.dr x = c.dr x) ∧ c' = { c with d := c'.d, a := c'.a, pc := c.pc + 4 })
      ∧ (sz.val = 3 → (eaUpdates ea = false ∨ rd ≠ n) → ∃ c', exec (.ldQ t rd n ea) s = coreBecomes s t c'
        ∧ c'.ar rd = BitVec.ofNat 48 v ∧ (rd ≠ n → c'.ar n = u.getD (c.ar n))
        ∧ (∀ x : Fin 16, x ≠ rd → x ≠ n → c'.ar x = c.ar x) ∧ c' = { c with a := c'.a, pc := c.pc + 4 })

/-- Stores to local SRAM (09 R247): the bytes of the register at the effective address, every other byte as before. -/
def Sys2Proof.Claim.LocalStores : Prop :=
  ∀ (s : State) (t : Nat) (rm n : Fin 16) (sz : Fin 4) (ea : Ea) (a : W48) (u : Option W48), Ready s t →
    let c := coreOf s.chip t
    let size := 2 ^ sz.val
    eaOf c n size ea = some (a, u) → a.toNat % size = 0 → a.toNat < 131072 →
    let stored (i : Instr) (v : Nat) : Prop := ∃ c', exec i s = coreBecomes s t c'
      ∧ memRead c'.sram a.toNat size = leBytes size v
      ∧ (∀ x, (x < a.toNat ∨ a.toNat + size ≤ x) → memGet c'.sram x = memGet c.sram x)
      ∧ c'.ar n = u.getD (c.ar n) ∧ (∀ x : Fin 16, x ≠ n → c'.ar x = c.ar x)
      ∧ (∀ w, w ∈ c'.bad → w ∈ c.bad) ∧ c' = { c with sram := c'.sram, bad := c'.bad, a := c'.a, pc := c.pc + 4 }
    (sz.val ≠ 3 → stored (.st t rm n sz ea) (c.dr rm).toNat)
      ∧ (sz.val = 3 → (eaUpdates ea = false ∨ rm ≠ n) → stored (.stQ t rm n ea) (c.ar rm).toNat)

/-- Branches (09 R256, R257): targets modulo 2^18; conditions by the flags of SW (09 Table 9-11); CNTNE counts first. -/
def Sys2Proof.Claim.Branches : Prop :=
  ∀ (s : State) (t : Nat) (ra dn dm : Fin 16) (cond : Fin 16) (disp : BitVec 22) (near : BitVec 18), Ready s t →
    let c := coreOf s.chip t
    let n := swBit c.sw swN
    let z := swBit c.sw swZ
    let v := swBit c.sw swV
    let cy := swBit c.sw swC
    let taken : List Bool := [true, z, !z, n, !n, v, !v, cy, !cy, cy || z, !(cy || z), n != v, n == v, z || n != v, !(z || n != v)]
    let far : W18 := BitVec.ofInt 18 (4 * disp.toInt)
    (∀ b, taken[cond.val]? = some b →
        exec (.bCc t cond disp) s = coreBecomes s t { c with pc := if b then c.pc + far else c.pc + 4 })
      ∧ (∃ c', exec (.cntne t dn dm near) s = coreBecomes s t c'
          ∧ c'.dr dn = c.dr dn + 1 ∧ (∀ x : Fin 16, x ≠ dn → c'.dr x = c.dr x)
          ∧ c' = { c with d := c'.d,
                          pc := if c'.dr dn = c'.dr dm then c.pc + 4 else c.pc + BitVec.ofInt 18 (4 * near.toInt) })
      ∧ ((c.ar ra).toNat % 4 = 0 →
          exec (.jumpr t ra) s = coreBecomes s t { c with pc := (c.ar ra).extractLsb' 0 18 })

/-- Calls and returns on a stack in local SRAM (09 R256, 08 R231): an 8-byte entry at A15 - 8, which becomes A15; RET pops
it. -/
def Sys2Proof.Claim.Calls : Prop :=
  ∀ (s : State) (t : Nat) (ra : Fin 16) (disp : BitVec 22), Ready s t →
    let c := coreOf s.chip t
    let sp := c.ar 15
    let pushed (i : Instr) (target : W18) : Prop := ∃ c', exec i s = coreBecomes s t c'
      ∧ memRead c'.sram (sp - 8).toNat 8 = leBytes 8 (c.pc + 4).toNat
      ∧ (∀ x, (x < (sp - 8).toNat ∨ (sp - 8).toNat + 8 ≤ x) → memGet c'.sram x = memGet c.sram x)
      ∧ c'.ar 15 = sp - 8 ∧ (∀ x : Fin 16, x ≠ 15 → c'.ar x = c.ar x)
      ∧ (∀ w, w ∈ c'.bad → w ∈ c.bad) ∧ c' = { c with sram := c'.sram, bad := c'.bad, a := c'.a, pc := target }
    ((sp - 8).toNat % 8 = 0 → (sp - 8).toNat < 131072 →
        pushed (.call t disp) (c.pc + BitVec.ofInt 18 (4 * disp.toInt))
        ∧ ((c.ar ra).toNat % 4 = 0 → pushed (.callr t ra) ((c.ar ra).extractLsb' 0 18)))
      ∧ (sp.toNat % 8 = 0 → sp.toNat < 131072 → sramBad c sp.toNat 8 = false →
          leNat (memRead c.sram sp.toNat 8) % 4 = 0 →
          ∃ c', exec (.ret t) s = coreBecomes s t c' ∧ c'.ar 15 = sp + 8 ∧ (∀ x : Fin 16, x ≠ 15 → c'.ar x = c.ar x)
            ∧ c' = { c with a := c'.a, pc := BitVec.ofNat 18 (leNat (memRead c.sram sp.toNat 8)) })

/-- Exceptions (08 R232, R233, Table 8-8; 09 R246, R252) with EXL clear: TRAP names the next instruction; a division by 0, a
reserved form or word, a misaligned access and an access to no D-space name the instruction itself, which has no effect. -/
def Sys2Proof.Claim.Exceptions : Prop :=
  ∀ (s : State) (t : Nat) (rd ra rb : Fin 16) (imm : BitVec 8) (w : BitVec 32) (disp : BitVec 16),
    Ready s t → swBit (coreOf s.chip t).sw swExl = false →
    let c := coreOf s.chip t
    let a := c.ar ra + disp.signExtend 48
    let raises (i : Instr) (cause sub : Nat) (epc : W18) (addr : W48) : Prop :=
      ∃ b, exec i s = becomes s b ∧ Enters s t cause sub epc addr b
    raises (.trap t imm) 8 imm.toNat (c.pc + 4) c.faddr
      ∧ (reserved w = true → raises (.reservedEncoding t w) 2 0 c.pc c.faddr)
      ∧ (3 < rd.val → ∀ i, i = .macs t rd ra rb ∨ i = .macu t rd ra rb ∨ i = .msus t rd ra rb ∨ i = .mpys t rd ra rb
          ∨ i = .mpyu t rd ra rb ∨ i = .clracc t rd ∨ i = .addacc t rd ra ∨ i = .mtacc t rd ra 0 → raises i 2 0 c.pc c.faddr)
      ∧ raises (.bCc t 15 0) 2 0 c.pc c.faddr
      ∧ raises (.ldQ t ra ra (.m1 0 0 0)) 2 0 c.pc c.faddr
      ∧ ((c.ar ra).toNat % 4 ≠ 0 → raises (.jumpr t ra) 3 0 c.pc c.faddr ∧ raises (.callr t ra) 3 0 c.pc c.faddr)
      ∧ (a.toNat % 4 ≠ 0 → raises (.ld t rd ra 2 (.m0 disp)) 3 0 c.pc c.faddr ∧ raises (.st t rd ra 2 (.m0 disp)) 3 0 c.pc c.faddr)
      ∧ (a.toNat % 4 = 0 → 131072 ≤ a.toNat → a.toNat < 2 ^ 40 →
          raises (.ld t rd ra 2 (.m0 disp)) 4 1 c.pc a ∧ raises (.st t rd ra 2 (.m0 disp)) 4 1 c.pc a)

/-- A cause 0x01 to 0x08 while EXL is 1 is a double fault (08 R234): T05 to T15 stay STOPPED, with CORE_DOUBLE_FAULT raised;
the others start again from ENTRY. -/
def Sys2Proof.Claim.DoubleFault : Prop :=
  ∀ (s : State) (t : Nat) (imm : BitVec 8), Ready s t → swBit (coreOf s.chip t).sw swExl = true →
    let e := raiseFull (setCore s.chip t { coreOf s.chip t with pc := (coreOf s.chip t).pc + 4 }) 0x0800 4 false 0 0 0xFF
      (0x1000 + t) (t + (imm.toNat * 256 + 8) * 65536)
    exec (.trap t imm) s
      = if 5 ≤ t ∧ t ≤ 15 then becomes s (odSet e 0x08001 (t + 1) 1) else becomes s (startCore e t (coreOf s.chip t).entry)

/-- Instructions on the special registers (09 Table 9-13, R263; 08 R233, R237). -/
def Sys2Proof.Claim.SpecialRegisters : Prop :=
  ∀ (s : State) (t : Nat) (rd : Fin 16), Ready s t →
    let c := coreOf s.chip t
    let moves (i : Instr) (r : W32) : Prop := ∃ c', exec i s = coreBecomes s t c' ∧ MoveResult c c' rd r
    moves (.mfsr t rd 0) c.sw ∧ moves (.mfsr t rd 1) (c.epc.zeroExtend 32) ∧ moves (.mfsr t rd 2) c.ecause
      ∧ moves (.mfsr t rd 3) (c.pc.zeroExtend 32)
      ∧ (∃ c', exec (.mtsr t rd 0) s = coreBecomes s t c'
          ∧ (∀ j, j ∈ [swC, swV, swZ, swN, swSt, swIe, swPie] → swBit c'.sw j = swBit (c.dr rd) j)
          ∧ (∀ j, j ∈ [swSat, swExl] → swBit c'.sw j = (swBit c.sw j && swBit (c.dr rd) j))
          ∧ (∀ j, j ∉ [swC, swV, swZ, swN, swSt, swIe, swPie, swSat, swExl] → swBit c'.sw j = swBit c.sw j)
          ∧ c' = { c with sw := c'.sw, pc := c.pc + 4 })
      ∧ exec (.mtsr t rd 1) s
          = coreBecomes s t { c with epc := (c.dr rd).extractLsb' 2 16 ++ (0 : BitVec 2), pc := c.pc + 4 }
      ∧ (∃ c', exec (.rete t) s = coreBecomes s t c' ∧ swBit c'.sw swIe = swBit c.sw swPie ∧ swBit c'.sw swExl = false
          ∧ (∀ j, j ≠ swIe → j ≠ swExl → swBit c'.sw j = swBit c.sw j) ∧ c' = { c with pc := c.epc, sw := c'.sw })
      ∧ exec (.nop t) s = coreBecomes s t { c with pc := c.pc + 4 }
      ∧ exec (.sync t) s = coreBecomes s t { c with pc := c.pc + 4 }
      ∧ exec (.wait t) s
          = if c.pendEnabled ≠ 0 then coreBecomes s t { c with pc := c.pc + 4 }
            else becomes s (odSet (setCore s.chip t { c with wait := .wait }) 0x08001 (t + 1) 3)

/-- Interrupts and the end of waits (08 R236, R237; 09 R260): the lowest enabled pending binding n enters with cause
0x10 + n, leaving INT_PEND as it is; behind WAIT the interrupt returns to the next instruction; a satisfied SIGWT goes on. -/
def Sys2Proof.Claim.Interrupts : Prop :=
  ∀ (s : State) (t : Nat) (n : Nat), t < 24 →
    let c := coreOf s.chip t
    let lowest : Prop := bit c.pendEnabled n = true ∧ ∀ m, m < n → bit c.pendEnabled m = false
    let open_ : Prop := swBit c.sw swIe = true ∧ swBit c.sw swExl = false
    let goesOn : Chip := odSet (setCore s.chip t { c with wait := .none, pc := c.pc + 4 }) 0x08001 (t + 1) 2
    (coreState s.chip t = 2 ∨ coreState s.chip t = 3 → lowest → open_ →
        ∃ b, exec (.signalInt t) s = becomes s b ∧ Enters s t (0x10 + n) 0 c.intEpc c.faddr b)
      ∧ (coreState s.chip t = 3 → c.wait = .wait → lowest → open_ →
          ∃ b, exec (.waitResume t) s = becomes s b ∧ Enters s t (0x10 + n) 0 (c.pc + 4) c.faddr b)
      ∧ (coreState s.chip t = 3 → c.wait = .wait → c.pendEnabled ≠ 0 → ¬ open_ →
          exec (.waitResume t) s = becomes s goesOn)
      ∧ (∀ sig eq thr, coreState s.chip t = 3 → c.wait = .sigwt sig eq thr true →
          exec (.sigwtRelease t) s = becomes s goesOn)

/-- Signal adds at a home that takes them (19 R481, R483, 09 R259): the sum, held at 2^64 - 1, and every waiting SIGWT that it
satisfies; the add goes on to the coupling records of the signal. A home that is dark or fenced holds the add (01 R38); a
disallowed one is discarded and counted in OD 51.020:1 (01 R41). -/
def Sys2Proof.Claim.SignalAdds : Prop :=
  ∀ (s : State) (owner sig : Nat) (vs : List Nat),
    let g := ownerAgent owner
    let v := (vs.map (· % 2 ^ 32)).sum
    let dark : Bool := (sigHome sig).any (fun d => !dieLit s.chip d) || fenced s.chip (sigUnit sig)
    (sigAllowed s.chip g sig = true → dark = false →
        ∃ b, exec (.signalAdd owner sig vs) s = becomes s (coupleOut b sig v)
          ∧ sigVal b sig = (if v = 0 then sigVal s.chip sig else min (sigVal s.chip sig + v) (2 ^ 64 - 1))
          ∧ (v = 0 → b = s.chip)
          ∧ (v ≠ 0 → ∀ u eq thr, (coreOf s.chip u).wait = .sigwt sig eq thr false →
              (if eq then sigVal b sig = thr else thr ≤ sigVal b sig) → (coreOf b u).wait = .sigwt sig eq thr true)
          ∧ (∀ u eq thr x, x ≠ sig → (coreOf s.chip u).wait = .sigwt x eq thr false → (coreOf b u).wait = .sigwt x eq thr false))
      ∧ (sigAllowed s.chip g sig = true → dark = true →
          exec (.signalAdd owner sig vs) s
            = becomes s { s.chip with disp := { s.chip.disp with held := s.chip.disp.held ++ [(sig, v)] } })
      ∧ (sigAllowed s.chip g sig = false →
          exec (.signalAdd owner sig vs) s = becomes s (odAdd64 s.chip 0x51020 1 vs.length))
      ∧ (∀ (t : Nat) (rm : Fin 16) (r : SigRef), Ready s t → sigNum (coreOf s.chip t) r = sig →
          let b := sigAdd s.chip (coreAgent t) sig ((coreOf s.chip t).dr rm).toNat
          exec (.sigadd t rm r) s = becomes s (setCore b t { coreOf b t with pc := (coreOf s.chip t).pc + 4 }))

/-- Signal reads, waits and bindings of a core (09 R258, R260; 08 R235, R236). -/
def Sys2Proof.Claim.SignalWaits : Prop :=
  ∀ (s : State) (t : Nat) (rd : Fin 16) (r : SigRef) (n : Fin 8) (w : BitVec 32), Ready s t → rd.val % 2 = 0 →
    let c := coreOf s.chip t
    let sig := sigNum c r
    let thr := (c.dr rd).toNat + 2 ^ 32 * (c.dr (rd + 1)).toNat
    let waits (eq : Bool) : Chip := odSet (setCore s.chip t { c with wait := .sigwt sig eq thr false }) 0x08001 (t + 1) 3
    let b0 := bindOf c n.val
    (sigAllowed s.chip (coreAgent t) sig = true → fenced s.chip (sigUnit sig) = false →
        (∃ c', exec (.sigrd t rd r) s = coreBecomes s t c'
          ∧ c'.dr rd = BitVec.ofNat 32 (sigVal s.chip sig) ∧ c'.dr (rd + 1) = BitVec.ofNat 32 (sigVal s.chip sig / 2 ^ 32)
          ∧ (∀ x : Fin 16, x ≠ rd → x ≠ rd + 1 → c'.dr x = c.dr x) ∧ c' = { c with d := c'.d, pc := c.pc + 4 })
        ∧ exec (.sigwtGe t rd r) s
            = (if thr ≤ sigVal s.chip sig then coreBecomes s t { c with pc := c.pc + 4 } else becomes s (waits false))
        ∧ exec (.sigwtEq t rd r) s
            = (if sigVal s.chip sig = thr then coreBecomes s t { c with pc := c.pc + 4 } else becomes s (waits true)))
      ∧ (w.getLsbD 15 = true → sigAllowed s.chip (coreAgent t) (w.toNat % 4096) = true →
          let holds : Bool := sigMeets (sigVal s.chip (w.toNat % 4096)) b0.thr (bits w.toNat 13 12 == 1)
          ∃ c', exec (.bindArm t n w) s = coreBecomes s t c'
            ∧ bindOf c' n.val = { b0 with sig := w, armed := !holds, fired := holds, refused := false }
            ∧ (holds = true → bit c'.intPend.toNat n.val = true)
            ∧ c' = { c with binds := c'.binds, intPend := c'.intPend, pc := c.pc + 4 })
      ∧ (w.getLsbD 15 = true → sigAllowed s.chip (coreAgent t) (w.toNat % 4096) = false →
          ∃ c', exec (.bindArm t n w) s = coreBecomes s t c'
            ∧ bindOf c' n.val = { b0 with sig := w, armed := false, fired := false, refused := true }
            ∧ c' = { c with binds := c'.binds, pc := c.pc + 4 })
      ∧ exec (.intPendClear t w) s = coreBecomes s t { c with intPend := c.intPend &&& ~~~w, pc := c.pc + 4 }

/-- Core-local ports (08 Table 8-4, R228, R229): what IN reads and OUT writes; running time is read in two halves that belong
together. -/
def Sys2Proof.Claim.LocalPorts : Prop :=
  ∀ (s : State) (t : Nat) (rd rm : Fin 16) (p : BitVec 16), Ready s t →
    let c := coreOf s.chip t
    let now := s.chip.tb.ns
    let reads (v : W32) : Prop := ∃ c', exec (.inPort t rd (.imm p)) s = coreBecomes s t c' ∧ MoveResult c c' rd v
    let writes (c' : Core) : Prop := exec (.out t rm (.imm p)) s = coreBecomes s t { c' with pc := c.pc + 4 }
    (p = 0xF000 → reads (BitVec.ofNat 32 t)) ∧ (p = 0xF001 → reads (c.vbase.zeroExtend 32))
      ∧ (p = 0xF002 → reads (c.faddr.extractLsb' 0 32)) ∧ (p = 0xF003 → reads ((c.faddr.extractLsb' 32 16).zeroExtend 32))
      ∧ (p = 0xF005 → reads c.rtimeHi) ∧ (p = 0xF010 → reads (c.intPend &&& 0xFF)) ∧ (p = 0xF011 → reads (c.intMask &&& 0xFF))
      ∧ (p = 0xF001 → writes { c with vbase := (c.dr rm).extractLsb' 10 8 ++ (0 : BitVec 10) })
      ∧ (p = 0xF011 → writes { c with intMask := c.dr rm &&& 0xFF })
      ∧ (p = 0x8001 → writes { c with odAns := c.dr rm })
      ∧ (∃ c', exec (.rtimeLoRead t rd) s = coreBecomes s t c' ∧ c'.dr rd = BitVec.ofNat 32 now
          ∧ c'.rtimeHi = BitVec.ofNat 32 (now / 2 ^ 32) ∧ (∀ x : Fin 16, x ≠ rd → c'.dr x = c.dr x)
          ∧ c' = { c with d := c'.d, rtimeHi := c'.rtimeHi, pc := c.pc + 4 })
      ∧ (∃ c', exec (.odStateRead t rd) s = coreBecomes s t c' ∧ c'.dr rd = c.odState
          ∧ c'.odState = (if c.odState = 2 then 0 else c.odState) ∧ (∀ x : Fin 16, x ≠ rd → c'.dr x = c.dr x)
          ∧ c' = { c with d := c'.d, odState := c'.odState, pc := c.pc + 4 })

/-- Queue ports and the OD fast port of a core (17 R435, R436; 08 R229): a push reads 64 bytes of local SRAM; a pop answers the
oldest completion's offset, or 0xFFFF_FFFF; a request PDU is taken from local SRAM into the core's path. -/
def Sys2Proof.Claim.QueuePorts : Prop :=
  ∀ (s : State) (t : Nat) (rd : Fin 16) (k off : Nat), Ready s t → k < 16 →
    let c := coreOf s.chip t
    let q := portQ s.chip k
    let goesOn (b : Chip) : Host.Outcome State Fault Refusal := becomes s (setCore b t { coreOf b t with pc := c.pc + 4 })
    let popped (q' : PortQ) (v : W32) : Prop := ∃ b c', exec (.queuePop t rd (0x300 + k)) s = becomes s (setCore b t c')
      ∧ b = setPortQ s.chip k q' ∧ MoveResult c c' rd v
    (odN s.chip 0x31020 (k + 1) = t → q.waiting.length + q.running + q.ready.length < 64 → off + 64 ≤ 131072 →
        let id := s.chip.disp.nextJob
        let b := setPortQ { s.chip with disp := { s.chip.disp with nextJob := id + 1 } } k
          { q with waiting := q.waiting ++ [⟨id, 0, memRead c.sram off 64⟩] }
        exec (.queuePush t (0x300 + k) off) s = goesOn b)
      ∧ (odN s.chip 0x31020 (k + 1) = t → q.ready = [] → popped { q with popped := none } 0xFFFFFFFF)
      ∧ (∀ i r, odN s.chip 0x31020 (k + 1) = t → q.ready = i :: r →
          popped { q with ready := r, popped := some i } (BitVec.ofNat 32 (odN s.chip 0x31021 (k + 1) + 32 * i)))
      ∧ (c.odState ≠ 1 → off + 1504 ≤ 131072 →
          let b := setCore s.chip t { c with odState := 1 }
          let len := min (16 + fld (memRead c.sram off 16) 12 2) 1504
          exec (.odFastPortRequest t off) s = goesOn (intakeLocal b (.core t) (memRead c.sram off len)))

/-! ## Running time -/

/-- An expected reference edge (02 R51): accepted within 1 ns of its prediction; in LOCKED and RELOCK a rejected edge is
counted in OD 03.007; the run of accepted edges restarts at a rejection. -/
def Sys2Proof.Claim.ReferenceEdges : Prop :=
  ∀ (s : State) (err : Option Int) (inSpec : Bool),
    let c := s.chip
    let ok := inSpec && err.any (fun e => decide (-1000 ≤ e ∧ e ≤ 1000))
    let run := if ok then c.tb.okRun + 1 else 0
    ((odN c 0x03001 0 = 1 ∨ odN c 0x03001 0 = 4) → ∃ b, exec (.timebaseRefEdge err inSpec) s = becomes s b
        ∧ odN b 0x03007 0 = (if ok then odN c 0x03007 0 else (odN c 0x03007 0 + 1) % 2 ^ 32)
        ∧ Keeps c b [(0x03007, 0)]
        ∧ b = { c with od := b.od, tb := { c.tb with okRun := run, recent := (ok :: c.tb.recent).take 32 } })
    ∧ (odN c 0x03001 0 ≠ 1 → odN c 0x03001 0 ≠ 4 →
        exec (.timebaseRefEdge err inSpec) s = becomes s { c with tb := { c.tb with okRun := run } })

/-- The state machine of the timebase island (02 R52, R53): each change with its condition, OD 03.001, its event, and
READY_MASK[1], which follows LOCKED. -/
def Sys2Proof.Claim.TimebaseStates : Prop :=
  ∀ (s : State) (phaseDone : Bool),
    let c := s.chip
    let st := odN c 0x03001 0
    let enters (b : Chip) (v : Nat) : Prop := odN b 0x03001 0 = v ∧ bit (odN b 0x01004 0) 1 = (v == 1)
      ∧ (∀ j, j ≠ 1 → bit (odN b 0x01004 0) j = bit (odN c 0x01004 0) j)
    ((st = 1 ∨ st = 4) → 8 ≤ (c.tb.recent.filter (· == false)).length → ∃ b,
        exec .tbHoldover s = becomes s (raise b ⟨0x0301, 1⟩ (odN c 0x03007 0)) ∧ enters b 2
        ∧ odN b 0x03008 0 = (odN c 0x03008 0 + 1) % 2 ^ 32 ∧ Keeps c b [(0x03001, 0), (0x01004, 0), (0x03008, 0)]
        ∧ b = { c with od := b.od, tb := { c.tb with holdSince := c.tb.ns, okRun := 0, recent := [] } })
    ∧ (st = 2 → c.tb.holdSince + 10000000000 ≤ c.tb.ns → ∃ b,
        exec .tbHoldoverExpired s = becomes s (raise b ⟨0x0302, 1⟩ 0) ∧ enters b 3
        ∧ Keeps c b [(0x03001, 0), (0x01004, 0)] ∧ b = { c with od := b.od })
    ∧ ((st = 2 ∨ st = 3) → 1024 ≤ c.tb.okRun → ∃ b,
        exec .tbRelock s = becomes s (raise b ⟨0x0303, 0⟩ (c.tb.ns - c.tb.holdSince)) ∧ enters b 4
        ∧ Keeps c b [(0x03001, 0), (0x01004, 0)]
        ∧ b = { c with od := b.od, tb := { c.tb with holdLast := c.tb.ns - c.tb.holdSince, recent := [] } })
    ∧ ((st = 4 ∧ phaseDone = true) ∨ (st = 0 ∧ 1024 ≤ c.tb.okRun) → ∃ b,
        exec (.tbLocked phaseDone) s = becomes s b ∧ enters b 1 ∧ Keeps c b [(0x03001, 0), (0x01004, 0)]
        ∧ b = { c with od := b.od, tb := { c.tb with recent := [] } })
    ∧ (st = 0 → c.tb.noRefRaised = false → 30000000 ≤ c.tb.ns →
        exec .tbNoRef s = becomes s (raise { c with tb := { c.tb with noRefRaised := true } } ⟨0x0300, 1⟩ 0))

/-- A gate window of a step meter closes (02 R45, R46): the step in fs is the quotient of 10^11 by the ring's count, 0 for a
stopped ring; the value is open where the quotient exceeds 32 bits (the model's reading: a free value). -/
def Sys2Proof.Claim.StepMeters : Prop :=
  ∀ (s : State) (die count gate : Nat), tget? s.chip.tb.gateEnd die = some gate → gate ≤ s.chip.tb.ns →
    let c := s.chip
    let gated : Chip := { c with tb := { c.tb with gateEnd := tput c.tb.gateEnd die (gate + 100000) } }
    let obj := if die = 0 then 0x03010 else 0x01049
    (count = 0 → exec (.stepMeterWindow die count) s = becomes s (odSet gated obj die 0))
    ∧ (∀ q, q < 2 ^ 32 → q * count ≤ 100000000000 → 100000000000 < (q + 1) * count →
        exec (.stepMeterWindow die count) s = becomes s (odSet gated obj die q))
    ∧ (0 < count → 2 ^ 32 * count ≤ 100000000000 → ∃ q, q < 2 ^ 32 ∧
        exec (.stepMeterWindow die count) s = becomes s (odSet { gated with free := c.free + 1 } obj die q))

/-- TIME_SET makes epoch time the argument, by way of the epoch offset alone (02 R57).
Readings and choices of the model in it: log entry 92. -/
def Obligations.TimeSetMovesOffset : Prop :=
  ∀ (s : State) (rq : Rq) (arg : Bytes), Accepted s rq 0x03040 arg → ∃ b,
    exec (.timeSet rq arg) s = acks s rq b ∧ epochNs b = leNat arg % 2 ^ 64 ∧ Keeps s.chip b [(0x03005, 0)]
      ∧ b = { s.chip with od := b.od }

/-! ## Slaino: services -/

/-- READ of one numeric subindex answers its value, in its type and at its size, and changes no object; subindex 0 of an
object with subindices answers how many there are; an entry that names no object is answered no-such-object, naming the
entry (03 R72, 04 R113, R116). -/
def Sys2Proof.Claim.ReadService : Prop :=
  ∀ (s : State) (rq : Rq) (obj k : Nat) (r : OdDef) (o n : Nat) (es : List Entry),
    let d := domainOf s.chip rq
    (Located s rq obj k r o → (r.acc d = 1 ∨ r.acc d = 3) → o ≠ 0x01121 → r.subs ≠ 0 → k = 0 → r.type ≠ .action →
        exec (.read rq [⟨obj, k, 0, 0, []⟩]) s = answers s rq [⟨obj, k, 2, 0, leBytes 1 r.subs⟩] s.chip)
    ∧ (Located s rq obj k r o → (r.acc d = 1 ∨ r.acc d = 3) → o ≠ 0x01121 → (r.subs = 0 ∨ k ≠ 0) → r.type ≠ .action →
        readVal s.chip rq.path d r o k = .num n →
        exec (.read rq [⟨obj, k, 0, 0, []⟩]) s = answers s rq [⟨obj, k, r.type.code, 0, leBytes r.type.size n⟩] s.chip)
    ∧ (Handles s rq → resolve d obj = none → es.length ≤ 63 → es.any (badWindow d) = false →
        exec (.read rq (⟨obj, k, 0, 0, []⟩ :: es)) s = refuses s rq 1 s.chip)

/-- A read of OD 01.121 returns up to 16 records at and behind the path's cursor that the domain may receive, oldest first,
and advances the cursor by them (03 R101); here every record may be received and none is lost. -/
def Sys2Proof.Claim.EventRead : Prop :=
  ∀ (s : State) (rq : Rq) (r : OdDef) (m : Nat), Located s rq 0x01121 0 r 0x01121 → r.type = .blob →
    let c := s.chip
    let d := domainOf c rq
    (r.acc d = 1 ∨ r.acc d = 3) → behind c rq.path = m → m ≤ c.events.length → m ≤ 16 →
      (c.events.take m).all (mayReceive d) = true →
      exec (.eventRead rq) s = answers s rq [⟨0x01121, 0, 0x0D, 0, ((c.events.take m).reverse.map eventBytes).flatten⟩]
        (setCursor c rq.path ((cursorOf c rq.path + m) % 2 ^ 32))

/-- WRITE (03 R92, R94, R95, 04 R116): one accepted value of group 01 or 06 is stored and counted in OD 01.104; a request
with an entry that fails applies none of its entries and answers the first failure; a domain without write access is denied
and counted in OD 01.105. -/
def Sys2Proof.Claim.WriteService : Prop :=
  ∀ (s : State) (rq : Rq) (e : Entry) (r : OdDef) (o : Nat) (es : List Entry),
    let c := s.chip
    let d := domainOf c rq
    let gen := odN c 0x01104 0 + 1
    (Located s rq e.obj e.sub r o → o = e.obj → e.op = 0 → (o / 4096 = 1 ∨ o / 4096 = 6) → o ≠ 0x01122 → o ≠ 0x01104 → e.sub < 256 →
        (r.acc d = 2 ∨ r.acc d = 3) → r.kind ≠ .ro → (r.subs = 0 ∨ e.sub ≠ 0) → e.type = r.type.code →
        valueCheck r e.val = 0 → reservedSet r e.val = false → ∃ b,
          exec (.write rq [e]) s = acks s rq b ∧ odGet b o e.sub = decodeVal r.type e.val
          ∧ odN b 0x01104 0 = (if gen = 2 ^ 64 then 1 else gen) ∧ Keeps c b [(o, e.sub), (0x01104, 0)]
          ∧ b = { c with od := b.od })
    ∧ (∀ i x, Handles s rq → es.length ≤ 64 → es.all (fun e => e.op ≤ 1) = true → executeLast es = true →
        firstRejected d false c 0 es = some (i, x) → x.2.status ≤ 0x0B →
        exec (.write rq es) s = becomes s (answer (countRej c x.1 x.2) rq ⟨x.2.status, i, []⟩))
    ∧ (Located s rq e.obj e.sub r o → e.op = 0 → (r.acc d = 0 ∨ r.acc d = 1) → ∃ b, exec (.write rq [e]) s = refuses s rq 2 b
          ∧ odN b 0x01105 0 = (odN c 0x01105 0 + 1) % 2 ^ 32 ∧ Keeps c b [(0x01105, 0)])

/-- Values for several blocks wait, after validation, for the next whole microsecond of running time (03 R93); at that tick
they are applied, counted once and answered. -/
def Sys2Proof.Claim.ApplyTick : Prop :=
  ∀ (s : State) (rq : Rq) (es : List Entry) (j : ApplyJob) (late : List ApplyJob),
    let c := s.chip
    (Handles s rq → es.length ≤ 64 → es.all (fun e => e.op == 0) = true → firstRejected (domainOf c rq) false c 0 es = none →
        manyBlocks es = true → ∃ due, due % 1000 = 0 ∧ c.tb.ns < due ∧ due ≤ c.tb.ns + 1000
          ∧ exec (.write rq es) s = becomes s { c with sl := { c.sl with applyQ := c.sl.applyQ ++ [⟨rq, es, 0, due⟩] } })
    ∧ (c.sl.applyQ = j :: late → j.due ≤ c.tb.ns → late.all (fun x => decide (c.tb.ns < x.due)) = true → j.handle = 0 →
        j.es ≠ [] → j.es.all (fun e => e.op == 0) = true →
        exec .applyTick s = becomes s
          (let b : Chip := { c with sl := { c.sl with applyQ := late } }
           answer (countGeneration (applyWrites b j.rq.path (domainOf b j.rq) j.es)) j.rq ⟨0, 0xFF, []⟩))

/-- DESCRIBE answers 36 bytes: type, persistence, subindices, the write-rejection counter, and the range (04 R114, 03 R89);
DISCOVER answers one BLOB built from node ID, address and identity; ECHO answers its own entries, as many as fit 1,500 bytes
(04 R112, R113, R126). -/
def Sys2Proof.Claim.DescribeEcho : Prop :=
  ∀ (s : State) (rq : Rq) (obj k : Nat) (r : OdDef) (o : Nat) (es : List Entry),
    (Located s rq obj k r o → r.extra = none → ∃ v : Bytes,
        exec (.describe rq [⟨obj, k, 0, 0, []⟩]) s = answers s rq [⟨obj, k, 0x0D, 0, v⟩] s.chip ∧ v.length = 36
          ∧ fld v 0 1 = r.type.code % 256 ∧ fld v 1 1 = r.persist % 256 ∧ fld v 4 1 = r.subs % 256
          ∧ fld v 8 4 = tget 0 s.chip.rej o % 2 ^ 32 ∧ fld v 12 8 = uInt 64 r.lo ∧ fld v 20 8 = uInt 64 r.hi)
    ∧ (Handles s rq → ∃ at_ v, exec (.discover rq) s = answers s rq [⟨at_, 0, 0x0D, 0, v⟩] s.chip
          ∧ (at_, v) = Config.discover (odN s.chip 0x06010 0) (odN s.chip 0x06015 0) (odB s.chip 0x00002 0)
              (odB s.chip 0x00003 0) (odB s.chip 0x00005 0))
    ∧ (Handles s rq → es.length ≤ 64 →
        (es.map (fun e => 8 + (padded e.val).length)).sum ≤ 1484 - (if rq.tagged then 16 else 0) →
        exec (.echo rq es) s = answers s rq es s.chip)

/-- A write that coincides with a hardware update of a HWU field wins, and the collision is an event (03 R86, R87): for
OD 03.006 TB_RATE_COLLISION with the discarded value; without a coincidence it is a write. -/
def Sys2Proof.Claim.WriteCollision : Prop :=
  ∀ (s : State) (rq : Rq) (e : Entry) (hw : Nat) (b : Chip),
    exec (.write rq [{ e with op := 0 }]) s = becomes s b →
    (∃ x, exec (.odWriteGeneric rq e none) s = becomes s x ∧ drivePins x = drivePins b)
    ∧ (Handles s rq → e.op = 0 → e.obj = 0x03006 → firstRejected (domainOf s.chip rq) false s.chip 0 [e] = none →
        ∃ x, exec (.odWriteGeneric rq e (some hw)) s = becomes s (raise x ⟨0x0304, 1⟩ (uInt 64 (sInt 32 hw)))
          ∧ drivePins x = drivePins b)

/-- WINDOW_WRITE stores the window record of a core (08 R225): OD 08.100 + core at subindex window + 1. -/
def Sys2Proof.Claim.WindowWrite : Prop :=
  ∀ (s : State) (rq : Rq) (core window : Nat) (val : Bytes) (r : OdDef), core < 24 → window < 255 →
    Located s rq (0x08100 + core) (window + 1) r (0x08100 + core) →
    (r.acc (domainOf s.chip rq) = 2 ∨ r.acc (domainOf s.chip rq) = 3) → r.kind = .rw → r.type = .blob →
    valueCheck r val = 0 → checkWindow s.chip core val = 0 → ∃ b,
      exec (.windowWrite rq core window val) s = acks s rq b ∧ odB b (0x08100 + core) (window + 1) = val
        ∧ Keeps s.chip b [(0x08100 + core, window + 1), (0x01104, 0)] ∧ b = { s.chip with od := b.od }

/-! ## Slaino: sessions, the wire -/

/-- Sessions (07 R197): opening makes an unauthenticated session of a number that is not 0 and not in use, and answers 228
bytes that begin with it; a good signature authenticates it; a bad one is denied, counted in OD 04.036 and reported; closing
removes it; OD 04.035 ms without a frame close it with SESSION_CLOSED.
Readings and choices of the model in it: log entries 11, 13, 24, 26, 27. -/
def Obligations.SessionsOpenAndClose : Prop :=
  ∀ (s : State) (rq : Rq) (val : Bytes) (x : Session) (num : Nat),
    let c := s.chip
    (Handles s rq → onNetwork rq.path = true → openCheck c val = 0 → ∃ b v y,
        exec (.sessionOpen rq val) s = answers s rq [⟨0x040F0, 0, 0x0D, 0, v⟩] b
          ∧ b.sl = { c.sl with sessions := c.sl.sessions ++ [y] } ∧ y.path = wayOf rq.path ∧ y.key = fld val 0 1
          ∧ y.authed = false ∧ 0 < y.num ∧ y.num < 65536 ∧ c.sl.sessions.all (fun z => z.num != y.num) = true
          ∧ v.length = 228 ∧ fld v 0 2 = y.num ∧ odN b 0x04034 0 = c.sl.sessions.length + 1
          ∧ Keeps c b [(0x04034, 0)])
    ∧ (Handles s rq → onNetwork rq.path = true → rq.tagged = false → sessionOn c rq.path rq.session = some x →
        val.length = 96 → rq.verdict = true →
        exec (.sessionAuth rq val) s = acks s rq (setSession c { x with authed := true, last := c.tb.ns }))
    ∧ (Handles s rq → onNetwork rq.path = true → rq.tagged = false → sessionOn c rq.path rq.session = some x →
        val.length = 96 → rq.verdict = false →
        exec (.sessionAuth rq val) s = refuses s rq 2 (odInc (raise c ⟨0x0402, 1⟩ x.key) 0x04036 0))
    ∧ (Handles s rq → onNetwork rq.path = true → sessionOn c rq.path rq.session = some x → ∃ b,
        exec (.sessionClose rq) s = becomes s b
          ∧ b.sl.sessions = c.sl.sessions.filter (fun y => y.num != rq.session) ∧ odN b 0x04034 0 = b.sl.sessions.length)
    ∧ (x ∈ c.sl.sessions → x.num = num → x.last + 1000000 * odN c 0x04035 0 ≤ c.tb.ns → ∃ b,
        exec (.sessionIdleClose num) s = becomes s (raise b ⟨0x0603, 0⟩ num)
          ∧ b.sl = { c.sl with sessions := c.sl.sessions.filter (fun y => y.num != num) }
          ∧ odN b 0x04034 0 = b.sl.sessions.length ∧ Keeps c b [(0x04034, 0)] ∧ b = { c with od := b.od, sl := b.sl })

/-- Frames and datagrams (04 R112, R115, R118, R119, R123, R127): a frame that fails its FCS is counted and dropped; a
well-formed request without a TAG waits on its path for its service; a duplicate is answered again from the record; answers
are kept for 1 s.
Readings and choices of the model in it: log entries 24, 25, 26. -/
def Obligations.RequestIntakeInOrder : Prop :=
  ∀ (s : State) (f : FieldFrame) (d : Datagram) (a : Answer),
    let c := s.chip
    let plain (pdu : Bytes) (pad : Bool) : Prop := 16 ≤ pdu.length ∧ fld pdu 0 1 = 1 ∧ bit (fld pdu 1 1) 7 = false
      ∧ bit (fld pdu 1 1) 6 = false ∧ fld pdu 9 1 ≤ 64 ∧ knownService (fld pdu 2 1) = true ∧ (parsePdu pdu pad).isSome = true
    let mine (path : Path) (pdu : Bytes) : Rq := ⟨path, fld pdu 4 2, fld pdu 6 2, false, false⟩
    (answering c = true → f.fcsOk = false → exec (.fieldFrameRx f) s = becomes s (odInc c 0x06041 0))
    ∧ (answering c = true → f.fcsOk = true → f.etherType = 0x88B5 → f.dst = odN c 0x06015 0 % 2 ^ 48 → plain f.pdu true →
        keptAnswer c (mine (.field f.src) f.pdu) = none → pathFull c (mine (.field f.src) f.pdu) = false →
        exec (.fieldFrameRx f) s = becomes s (let b := odInc c 0x06040 0
          { b with sl := { b.sl with waiting := b.sl.waiting ++ [(mine (.field f.src) f.pdu, fld f.pdu 2 1)] } }))
    ∧ (answering c = true → f.fcsOk = true → f.etherType = 0x88B5 → f.dst = odN c 0x06015 0 % 2 ^ 48 → plain f.pdu true →
        keptAnswer c (mine (.field f.src) f.pdu) = some a →
        exec (.fieldFrameRx f) s = becomes s (sendAnswer (odInc (odInc c 0x06040 0) 0x06042 0) (mine (.field f.src) f.pdu)
          (some (fld f.pdu 2 1)) a))
    ∧ (answering c = true → inbandOn c d.ep = true → d.peer < 16 → isZero (odB c 0x06024 (d.peer + 1)) = false →
        d.checksumOk = true → d.fragment = false → d.pdu.length ≤ 1500 → plain d.pdu false →
        (c.sl.seen.filter (fun x => x.1 == d.peer && decide (c.tb.ns < x.2 + 1000000000))).length < odN c 0x06026 0 →
        keptAnswer c (mine (.inband d.ep d.peer) d.pdu) = none → pathFull c (mine (.inband d.ep d.peer) d.pdu) = false →
        exec (.inbandDatagramRx d) s = becomes s { c with sl := { c.sl with
          seen := c.sl.seen.filter (fun x => decide (c.tb.ns < x.2 + 1000000000)) ++ [(d.peer, c.tb.ns)]
          waiting := c.sl.waiting ++ [(mine (.inband d.ep d.peer) d.pdu, fld d.pdu 2 1)] } })
    ∧ exec .dupRecordExpire s = becomes s { c with sl := { c.sl with
        dups := c.sl.dups.filter (fun x => decide (c.tb.ns < x.time + 1000000000)) } }

/-- The 10BASE-T1S segment (04 R110, R111, R124, R125, R131).
Readings and choices of the model in it: log entries 13, 37. -/
def Obligations.FieldPortStates : Prop :=
  ∀ (s : State) (since : Nat), portPowered s.chip = true →
    let c := s.chip
    (odN c 0x06001 0 ≠ 2 → since + 10000000 ≤ c.tb.ns → ∃ b,
        odN b 0x06001 0 = 2 ∧ odN b 0x06043 0 = (odN c 0x06043 0 + 1) % 2 ^ 32 ∧ Keeps c b [(0x06001, 0), (0x06043, 0)]
          ∧ b = { c with od := b.od }
          ∧ (odN c 0x06030 0 ≠ 1 → exec (.t1sJammed since) s = becomes s
              { raise b ⟨0x0600, 1⟩ 0 with sl := { c.sl with jamSince := c.tb.ns } })
          ∧ (odN c 0x06030 0 = 1 → exec (.t1sJammed since) s = becomes s (raise
              { raise b ⟨0x0600, 1⟩ 0 with sl := { c.sl with jamSince := c.tb.ns, fallback := linkedPorts c } }
              ⟨0x0602, 1⟩ (linkedPorts c))))
    ∧ (odN c 0x06001 0 = 2 → since + 100000000 ≤ c.tb.ns → c.sl.sessions.all (fun x => !(withdrawn c x.path)) = true →
        exec (.t1sRestored since) s = becomes s
          (let b := raise (odSet c 0x06001 0 1) ⟨0x0601, 0⟩ ((c.tb.ns - c.sl.jamSince) / 1000000)
           { b with sl := { b.sl with fallback := 0 } }))
    ∧ (odN c 0x06001 0 = 2 → since + 100000000 ≤ c.tb.ns → (c.sl.sessions.map (·.num)).Nodup → ∃ b,
        exec (.t1sRestored since) s = becomes s b ∧ odN b 0x06001 0 = 1 ∧ b.sl.fallback = 0
          ∧ b.sl.sessions = c.sl.sessions.filter (fun x => !(withdrawn c x.path)))
    ∧ (c.sl.outLimited = false → exec (.t1sOutputLimit true) s =
        becomes s (raise { c with sl := { c.sl with outLimited := true } } ⟨0x0604, 3⟩ 0))
    ∧ exec (.t1sOutputLimit false) s = becomes s { c with sl := { c.sl with outLimited := false } }
    ∧ ∃ b, exec .plcaBeacon s = becomes s b
        ∧ odN b 0x06001 0 = (if odN c 0x06001 0 = 0 then 1 else odN c 0x06001 0) ∧ Keeps c b [(0x06001, 0)]
        ∧ b = { c with od := b.od, sl := { c.sl with
            plca := (odN c 0x06010 0, odN c 0x06011 0, odN c 0x06012 0, odN c 0x06013 0) } }

/-! ## Saves and staged blocks -/

/-- The two-copy save (03 R82, R85): the target is the older copy, the SEQ one above the newer, the body's CRC stands in the
header; once written OD 01.102 names the SEQ; a flash failure leaves the target empty and is reported; a second save is busy.
Readings and choices of the model in it: log entries 13, 18. -/
def Obligations.SaveWritesTheOlderCopy : Prop :=
  ∀ (s : State) (rq : Rq) (k seq : Nat) (j : SaveJob), Accepted s rq 0x01100 [] →
    let c := s.chip
    (c.save = none → (∃ body, saveUsed c = some (k, body)) → fld (saveRegion c k) 4 4 + 1 = seq → seq < 2 ^ 32 → ∃ b x,
        exec (.odSave rq) s = acks s rq b ∧ b.save = some x ∧ x.target = 1 - k ∧ x.seq = seq ∧ x.header.length = 32
          ∧ fld x.header 0 4 = 0x5653444F ∧ fld x.header 4 4 = seq ∧ fld x.header 16 4 = crc32 x.body % 2 ^ 32
          ∧ odN b 0x01101 0 = 1 ∧ Keeps c b [(0x01101, 0)] ∧ b = { c with od := b.od, save := some x })
    ∧ (c.save = some j → exec (.odSave rq) s = refuses s rq 6 c)
    ∧ (c.save = some j → ∃ b, exec (.odSaved true) s = becomes s (raise b ⟨0x0180, 0⟩ j.seq)
          ∧ (saveRegion b j.target).take (j.header.length + j.body.length) = j.header ++ j.body
          ∧ odN b 0x01101 0 = 0 ∧ odN b 0x01102 0 = j.seq ∧ Keeps c b [(0x01101, 0), (0x01102, 0)]
          ∧ b = { c with od := b.od, save := none, flash := b.flash })
    ∧ (c.save = some j → ∃ b, exec (.odSaved false) s = becomes s (raise b ⟨0x0181, 3⟩ j.target)
          ∧ saveRegion b j.target = [] ∧ odN b 0x01101 0 = 2 ∧ Keeps c b [(0x01101, 0)]
          ∧ b = { c with od := b.od, save := none, flash := b.flash })

/-- Staged blocks (03 R96 to R98, 04 R122): STAGE_OPEN answers the lowest free handle of 1 to 8 and is busy without one; a
segment whose entries pass is kept under its number; a commit with every segment below COUNT present and all entries valid
waits for the next whole microsecond, its handle closed; one with a segment missing is answered sequence-gap; abort and
expiry close the handle.
Readings and choices of the model in it: log entries 17, 26, 30. -/
def Obligations.StagedBlocksCommit : Prop :=
  ∀ (s : State) (rq : Rq) (arg : Bytes) (h i : Nat) (x : Stage) (es : List Entry) (sg : Nat),
    let c := s.chip
    let d := domainOf c rq
    let touched (y : Stage) : List Stage := c.sl.stages.map (fun z => if z.handle == y.handle then y else z)
    let without (h : Nat) : List Stage := c.sl.stages.filter (fun z => z.handle != h)
    (Accepted s rq 0x01110 [] → i < 8 → c.sl.stages.all (fun y => y.handle != i + 1) = true →
        (∀ m, m < i → c.sl.stages.any (fun y => y.handle == m + 1) = true) → ∃ b,
          exec (.stageOpen rq) s = answers s rq [⟨0x01110, 0, 2, 1, leBytes 1 (i + 1)⟩] b
            ∧ b.sl = { c.sl with stages := c.sl.stages ++ [⟨i + 1, wayOf rq.path, d == .sealed, [], c.tb.ns⟩] }
            ∧ odN b 0x01114 0 = c.sl.stages.length + 1 ∧ Keeps c b [(0x01114, 0)])
    ∧ (Accepted s rq 0x01110 [] → (∀ m, m < 8 → c.sl.stages.any (fun y => y.handle == m + 1) = true) →
        exec (.stageOpen rq) s = refuses s rq 6 c)
    ∧ (Handles s rq → es.length ≤ 64 → es.all (fun e => e.op == 0) = true → stageOf c rq h = some x →
        firstRejected d true c 0 es = none → (tdel x.segs sg).length < 1024 →
        (stageSize (tdel x.segs sg)).1 + es.length ≤ 4096 →
        (stageSize (tdel x.segs sg)).2 + (es.map (fun e => e.val.length)).sum ≤ 262144 → ∃ b,
          exec (.stagedSegment rq h sg es) s = acks s rq b
            ∧ b.sl = { c.sl with stages := touched { x with last := c.tb.ns, segs := tput (tdel x.segs sg) sg es } }
            ∧ Keeps c b [(0x01114, 0)])
    ∧ (Accepted s rq 0x01111 arg → fld arg 0 1 = h → fld arg 1 1 = 0 → stageOf c rq h = some x →
        (∀ m, m < fld arg 2 2 → (tget? x.segs m).isSome = true) → (fld arg 4 8 = 0 ∨ fld arg 4 8 = odN c 0x01104 0) →
        es = ((List.range (fld arg 2 2)).map (fun m => tget [] x.segs m)).flatten →
        firstRejected d false c 0 es = none → ∃ b due,
          exec (.stageCommit rq arg) s = becomes s b ∧ due % 1000 = 0 ∧ c.tb.ns < due ∧ due ≤ c.tb.ns + 1000
            ∧ b.sl = { c.sl with stages := without h, applyQ := c.sl.applyQ ++ [⟨rq, es, h, due⟩] }
            ∧ Keeps c b [(0x01114, 0)])
    ∧ (Accepted s rq 0x01111 arg → fld arg 0 1 = h → fld arg 1 1 = 0 → stageOf c rq h = some x →
        (∃ m, m < fld arg 2 2 ∧ tget? x.segs m = none) → ∃ b,
          exec (.stageCommit rq arg) s = refuses s rq 8 b ∧ b.sl = { c.sl with stages := touched { x with last := c.tb.ns } })
    ∧ (Accepted s rq 0x01112 arg → leNat arg = h → 1 ≤ h → h ≤ 8 → stageOf c rq h = some x → ∃ b,
        exec (.stageAbort rq arg) s = acks s rq b ∧ b.sl = { c.sl with stages := without h } ∧ Keeps c b [(0x01114, 0)])
    ∧ (x ∈ c.sl.stages → x.handle = h → x.last + 1000000 * odN c 0x01113 0 ≤ c.tb.ns → ∃ b,
        exec (.stageExpired h) s = becomes s (raise b ⟨0x0186, 1⟩ h) ∧ b.sl = { c.sl with stages := without h }
          ∧ Keeps c b [(0x01114, 0)])

/-! ## Energy and power -/

/-- The close of an accounting interval (05 R134 to R136, R140): a domain's energy is shared out in proportion to activity,
the rest is overhead, which the device balance pays; a job that has ended is trued up by estimate less actual energy; the
next interval ends 1 ms later. -/
def Sys2Proof.Claim.AccountingInterval : Prop :=
  ∀ (s : State) (r : DomReading) (p act : Nat) (j : AdmJob) (rs : List DomReading) (ja : List (Nat × Nat × Nat)),
    s.chip.en.intervalEnd ≤ s.chip.tb.ns → s.chip.boot.signalBox = true → p < 64 →
    let c := s.chip
    let tele := r.pmbus && odN c 0x02050 0 == 0
    let total := act + r.leak
    let meas := if tele then r.meas else total / 1024
    let share := if total = 0 then 0 else meas * act / total
    (∃ b, exec (.accountingInterval rs ja) s = becomes s b ∧ b.en.intervalEnd = c.en.intervalEnd + 1000000
        ∧ b.en.jobs.all (fun x => !x.done) = true)
    ∧ (r.acts = [(p, act)] → c.en.jobs.all (fun x => !x.done) = true → ∃ b,
        exec (.accountingInterval [r] []) s = becomes s b
          ∧ odN b 0x02011 1 = (odN c 0x02011 1 + meas) % 2 ^ 64 ∧ odN b 0x02012 0 = (odN c 0x02012 0 + meas) % 2 ^ 64
          ∧ odN b 0x02013 0 = (odN c 0x02013 0 + (meas - share)) % 2 ^ 64
          ∧ odN b (0x02280 + p) 1 = (odN c (0x02280 + p) 1 + share) % 2 ^ 64
          ∧ odN b 0x02010 1 = b2n (!tele) ∧ odN b 0x02034 1 = r.vout % 65536
          ∧ odN b 0x02023 0 = uInt 64 (odI c 0x02023 0 - ((meas - share : Nat) : Int))
          ∧ Keeps c b [(0x02011, 1), (0x02012, 0), (0x02013, 0), (0x02280 + p, 1), (0x02010, 1), (0x02034, 1), (0x02023, 0),
              (0x02014, 0)]
          ∧ b = { c with od := b.od, en := b.en })
    ∧ (c.en.jobs = [j] → j.done = true → j.plat = p → j.die = 0 → odN c (0x02800 + j.ket) 4 = 0 → ∃ b,
        exec (.accountingInterval [] []) s = becomes s b ∧ b.en.jobs = []
          ∧ odN b (0x02240 + p) 0 = uInt 64 (odI c (0x02240 + p) 0 + j.est - j.actual)
          ∧ odN b 0x02023 0 = uInt 64 (odI c 0x02023 0 + j.est - j.actual)
          ∧ Keeps c b [(0x02240 + p, 0), (0x02023, 0), (0x02014, 0)])

/-- A window boundary (05 R137, R138, R143): unspent allowances return, debt is carried down to one budget, the rest is
counted as forgiven, the new budget takes effect; the device balance is refilled from the effective cap. Here nothing is
queued, so nothing is granted. -/
def Sys2Proof.Claim.WindowBoundary : Prop :=
  ∀ (s : State) (p : Nat), s.chip.en.windowEnd ≤ s.chip.tb.ns → s.chip.disp.dqs = [] → p < 64 →
    let c := s.chip
    let budget := odN c (0x02200 + p) 0
    let unspent := odI c (0x02240 + p) 0 + ([1, 2, 3, 4].map (fun d => tget 0 c.en.allow (64 * d + p))).sum
    let carried := max (min unspent 0) (-(budget : Int))
    let cap := min (odN c 0x02021 0) (1400000 * odN c 0x02020 0)
    ∃ b, exec .windowBoundary s = becomes s b
      ∧ odN b (0x02240 + p) 0 = uInt 64 (budget + carried) ∧ tget 0 b.en.budget p = budget
      ∧ odN b (0x02280 + p) 2 = (odN c (0x02280 + p) 2 + (carried - min unspent 0).toNat) % 2 ^ 64
      ∧ (∀ d, 1 ≤ d → d ≤ 4 → tget 0 b.en.allow (64 * d + p) = 0)
      ∧ odN b 0x02022 0 = cap
      ∧ odN b 0x02023 0 = uInt 64 ((cap : Int) + max (min (odI c 0x02023 0) 0) (-(cap : Int)))
      ∧ b.en.windowEnd = c.en.windowEnd + 1000000 * odN c 0x02020 0

/-- Admission (05 R139 to R142): a job that its balances cover is booked with its estimate, base energy plus units times the
per-unit energy in nJ rounded up to µJ, which both balances pay at once; one that the device balance does not cover waits.
Readings and choices of the model in it: log entry 41. -/
def Obligations.AdmissionBooksEstimate : Prop :=
  ∀ (s : State) (d i n k : Nat) (e : DqEntry) (q : NativeQ) (w : Wb) (x : PqEntry) (rest : List PqEntry) (m : Nat),
    let c := s.chip
    let est (ket units : Nat) : Nat := odN c (0x02800 + ket) 1 + (units * odN c (0x02800 + ket) 2 + 999) / 1000
    let covers (v : Nat) : Prop := (v : Int) ≤ odI c 0x02023 0
    let booked (plat ket units die : Nat) (b : Chip) : Prop :=
      b.en = { c.en with nextJob := c.en.nextJob + 1, jobs :=
          c.en.jobs ++ [⟨c.en.nextJob, plat, ket, units, est ket units, 0, die, false⟩] }
        ∧ odN b 0x02023 0 = uInt 64 (odI c 0x02023 0 - est ket units)
    (∀ plat ket units, askingEntry c d = some (i, e) → e.adm = 0 → entryBad c d e.b = false → plat = (dqView c d e.b).2.1 →
        ket = fld e.b 6 2 → units = entryUnits c d e.b →
        let enters (b : Chip) : Prop := (dqOf b d).entries = (dqOf c d).entries.take i ++ { e with adm := c.en.nextJob }
          :: (dqOf c d).entries.drop (i + 1)
        (64 ≤ plat → admissionOpen c (dqDie d) = true → covers (est ket units) → ∃ b,
          exec (.jobAdmit (.dispatch d)) s = becomes s b ∧ booked plat ket units (dqDie d) b ∧ enters b
            ∧ Keeps c b [(0x02023, 0)])
        ∧ (plat < 64 → platOn c plat = true → dqDie d = 0 → admissionOpen c 0 = true → covers (est ket units) →
          est ket units ≤ tget 0 c.en.budget plat → (est ket units : Int) ≤ odI c (0x02240 + plat) 0 → ∃ b,
          exec (.jobAdmit (.dispatch d)) s = becomes s b ∧ booked plat ket units 0 b ∧ enters b
            ∧ odN b (0x02240 + plat) 0 = uInt 64 (odI c (0x02240 + plat) 0 - est ket units)
            ∧ Keeps c b [(0x02023, 0), (0x02240 + plat, 0)])
        ∧ (plat < 64 → platOn c plat = true → est ket units ≤ tget 0 c.en.budget plat → ¬ covers (est ket units) →
          exec (.jobAdmit (.dispatch d)) s = becomes s c))
    ∧ (nqOf c n = some q → q.wbs.find? (fun w => w.stage == 0 && w.status == 0) = some w → q.error = false → 64 ≤ q.owner →
        admissionOpen c 0 = true → covers (est (wbKet w.b) (cdiv (wbBytes w) 1024)) → ∃ b,
          exec (.jobAdmit (.native n)) s = becomes s b ∧ booked q.owner (wbKet w.b) (cdiv (wbBytes w) 1024) 0 b
            ∧ (nqOf b n).map (·.wbs) = some (q.wbs.map (fun y =>
                if y.seq == w.seq then { w with stage := 1, adm := c.en.nextJob } else y)))
    ∧ (k < 16 → (portQ c k).waiting = x :: rest → x.adm = 0 → cipherBad c k x.b = 0 → 64 ≤ cPlat x.b →
        admissionOpen c 0 = true → covers (est (cKet x.b) (cipherUnits x.b)) → ∃ b,
          exec (.jobAdmit (.cipher k)) s = becomes s b ∧ booked (cPlat x.b) (cKet x.b) (cipherUnits x.b) 0 b
            ∧ portQ b k = { portQ c k with waiting := { x with adm := c.en.nextJob } :: rest })
    ∧ (k < 16 → c.cons.leaving = none → (portQ c (32 + k)).waiting = x :: rest → x.adm = 0 →
        relayInvalid c (portCore c (32 + k)) x.b = false → 64 ≤ rPlat x.b → tagTaken c = false → admissionOpen c 0 = true →
        covers (est (rKet x.b) (relayUnits c x.b)) → ∃ b,
          exec (.jobAdmit (.relay k)) s = becomes s b ∧ booked (rPlat x.b) (rKet x.b) (relayUnits c x.b) 0 b
            ∧ portQ b (32 + k) = { portQ c (32 + k) with waiting := { x with adm := c.en.nextJob } :: rest })
    ∧ exec (.jobAdmit (.serving m)) s = exec (.servingStepStart m) s

/-- The rail governor (05 R150 to R152): in FIXED the rail moves toward RAIL_FIXED, in DYNAMIC toward the target moved by 10 mV
as dispatch sojourn asks and clamped to its bounds, by at most 10 mV a step and not within 20 µs of the last; a rise that the
device balance does not cover is not made; a rail that reads 25 mV low for 10 intervals is reported once (R161). -/
def Sys2Proof.Claim.RailGovernor : Prop :=
  ∀ (s : State) (dom : Nat) (want : Int) (proj : Nat), 1 ≤ dom → dom ≤ 5 →
    let c := s.chip
    let v := tget 750 c.en.vcmd dom
    let toward (t : Nat) : Nat := if v < t then min t (v + 10) else max t (v - 10)
    let commands (b : Chip) (mv : Nat) : Chip := { b with
      en := { b.en with vcmd := tput b.en.vcmd dom mv, lastStep := tput b.en.lastStep dom c.tb.ns }
      out := b.out ++ [.rail dom mv] }
    let free := c.boot.signalBox = true ∧ odN c 0x02050 0 ≠ 2 ∧ tget false c.en.yielded dom = false
      ∧ odN c 0x02037 dom < odN c 0x02036 0 ∧ (∀ l, tget? c.en.lastStep dom = some l → l + 20000 ≤ c.tb.ns)
    let floor := odN c 0x02031 dom
    let ceiling := if odN c 0x02001 0 = 1 then odN c 0x02005 0 else odN c 0x02032 dom
    (free → odN c 0x02030 dom = 1 → v ≠ odN c 0x02035 dom →
        exec (.railGovernorStep dom want proj) s = becomes s (commands c (toward (odN c 0x02035 dom))))
    ∧ (∀ t : Nat, free → odN c 0x02030 dom ≠ 1 → -1 ≤ want → want ≤ 1 →
        (t : Int) = min (ceiling : Int) (max (floor : Int) (odN c 0x02033 dom + 10 * want)) →
        (v < t → (proj : Int) ≤ odI c 0x02023 0 →
          exec (.railGovernorStep dom want proj) s = becomes s (commands (odSet c 0x02033 dom t) (toward t)))
        ∧ (t < v → exec (.railGovernorStep dom want proj) s = becomes s (commands (odSet c 0x02033 dom t) (toward t)))
        ∧ (t = v → exec (.railGovernorStep dom want proj) s = becomes s (odSet c 0x02033 dom t))
        ∧ (v < t → odI c 0x02023 0 < proj → exec (.railGovernorStep dom want proj) s = becomes s c))
    ∧ (10 ≤ tget 0 c.en.lowRun dom → tget 0 c.en.lowRun dom < 1000 → exec (.railDeviation dom) s =
        becomes s (raise { c with en := { c.en with lowRun := tput c.en.lowRun dom 1000 } } ⟨0x0207, 1⟩ dom))

/-- Heat (05 R153): at the limit a rail falls by 10 mV a millisecond down to 550 mV, below its floor with an event; at 550 mV
admission on its die stops; below the limit less 3 °C admission resumes and the rail rises again. -/
def Sys2Proof.Claim.Heat : Prop :=
  ∀ (s : State) (dom tj : Nat), 1 ≤ dom → dom ≤ 5 → odN s.chip 0x02050 0 ≠ 2 →
    (∀ t, tget? s.chip.en.thermStep dom = some t → t + 1000000 ≤ s.chip.tb.ns) →
    let c := s.chip
    let v := tget 750 c.en.vcmd dom
    let low := max 550 (v - 10)
    let stepped (en : Energy) (mv : Nat) : Energy := { en with
      thermStep := tput c.en.thermStep dom c.tb.ns, vcmd := tput c.en.vcmd dom mv, lastStep := tput c.en.lastStep dom c.tb.ns }
    let seen := odSet c 0x02037 dom (min tj 125)
    (odN c 0x02036 0 ≤ tj → 550 < v → odN c 0x02031 dom ≤ low ∨ tget false c.en.yielded dom = true →
        exec (.thermalLimitStep dom tj) s = becomes s { seen with en := stepped c.en low, out := c.out ++ [.rail dom low] })
    ∧ (odN c 0x02036 0 ≤ tj → 550 < v → low < odN c 0x02031 dom → tget false c.en.yielded dom = false →
        exec (.thermalLimitStep dom tj) s = becomes s (raise { seen with
          en := { stepped c.en low with yielded := tput c.en.yielded dom true }, out := c.out ++ [.rail dom low] }
          ⟨0x0202, 1⟩ dom))
    ∧ (odN c 0x02036 0 ≤ tj → v ≤ 550 → exec (.thermalLimitStep dom tj) s = becomes s { seen with en := { c.en with
          thermStep := tput c.en.thermStep dom c.tb.ns, hot := tput c.en.hot dom true } })
    ∧ (∀ t, tj + 3 < odN c 0x02036 0 → tget false c.en.yielded dom = false → v < t →
        (odN c 0x02030 dom = 1 ∧ t = odN c 0x02035 dom ∨ odN c 0x02030 dom ≠ 1 ∧ t = railClamp c dom (odN c 0x02033 dom)) →
        exec (.thermalRecoverStep dom tj) s = becomes s { seen with
          en := { stepped c.en (min t (v + 10)) with hot := tput c.en.hot dom false }
          out := c.out ++ [.rail dom (min t (v + 10))] })
    ∧ (∀ t, tj + 3 < odN c 0x02036 0 → tget false c.en.yielded dom = true → v < t → odN c 0x02031 dom ≤ min t (v + 10) →
        (odN c 0x02030 dom = 1 ∧ t = odN c 0x02035 dom ∨ odN c 0x02030 dom ≠ 1 ∧ t = railClamp c dom (odN c 0x02033 dom)) →
        exec (.thermalRecoverStep dom tj) s = becomes s (raise { seen with
          en := { stepped c.en (min t (v + 10)) with hot := tput c.en.hot dom false, yielded := tput c.en.yielded dom false }
          out := c.out ++ [.rail dom (min t (v + 10))] } ⟨0x0203, 0⟩ dom))

/-- PMBus (05 R163): a stuck bus puts every domain into estimated mode, and recovery is tried every second. -/
def Sys2Proof.Claim.Pmbus : Prop :=
  ∀ s : State,
    let c := s.chip
    (odN c 0x02050 0 ≠ 2 → ∃ b, exec .pmbusFailed s = becomes s (raise b ⟨0x0208, 3⟩ 0)
        ∧ odN b 0x02050 0 = 2 ∧ odN b 0x02014 0 = 1 ∧ (∀ d, 1 ≤ d → d ≤ 8 → odN b 0x02010 d = 1)
        ∧ Keeps c b ((0x02050, 0) :: (0x02014, 0) :: (List.range 8).map (fun d => (0x02010, d + 1)))
        ∧ b = { c with od := b.od, en := { c.en with pmbusRetry := c.tb.ns + 1000000000 } })
    ∧ (odN c 0x02050 0 = 2 → c.en.pmbusRetry ≤ c.tb.ns →
        exec (.pmbusRetry true) s = becomes s (raise (odSet c 0x02050 0 0) ⟨0x0209, 0⟩ 0)
        ∧ exec (.pmbusRetry false) s = becomes s { c with en := { c.en with pmbusRetry := c.tb.ns + 1000000000 } })

/-- POWER_REQUEST (05 R145, R146, Table 5-4): the state itself is reached at once; a step from E0 to E1 or back begins; a step
to E3 with a platform not DISABLED is refused with its event; one that halts a leased cluster is deferred and answered so. -/
def Sys2Proof.Claim.PowerRequest : Prop :=
  ∀ (s : State) (rq : Rq) (arg : Bytes), Accepted s rq 0x02002 arg → poweringDown s.chip = false → fwActive s.chip = false →
    let c := s.chip
    let target := leNat arg
    (target = odN c 0x02001 0 → target ≤ 4 → exec (.powerRequest rq arg) s = acks s rq (odSet c 0x02003 0 0))
    ∧ (odN c 0x02001 0 + target = 1 → exec (.powerRequest rq arg) s = acks s rq
        (odSet { c with en := { c.en with trans := some ⟨target, false, false, c.tb.ns⟩ } } 0x02003 0 1))
    ∧ (odN c 0x02001 0 = 2 → target = 3 → (∃ p, p < 64 ∧ odN c (0x10040 + p) 0 ≠ 0) →
        exec (.powerRequest rq arg) s = acks s rq
          (raise (odSet { c with en := { c.en with trans := none } } 0x02003 0 3) ⟨0x0201, 1⟩ 0x0203))
    ∧ (∀ k, odN c 0x02001 0 = 2 → target = 3 → (∀ p, p < 64 → odN c (0x10040 + p) 0 = 0) → k < 8 →
        clusterLeased c k = true → (∀ i, i < k → clusterLeased c i = false) → ∃ b,
        exec (.powerRequest rq arg) s = refuses s rq 7 b ∧ b.en.trans = some ⟨3, true, false, c.tb.ns⟩
          ∧ odN b 0x02003 0 = 2 ∧ b.sec.deferred = c.sec.deferred ++ [⟨0, 3, 0xE000 + k, c.tb.ns⟩]
          ∧ odN b 0x04042 0 = (odN c 0x04042 0 + 1) % 2 ^ 32)

/-- The end of a power step (05 R144, R145, R147, R149): the state changes with its event; E2 leaves the array dies dark, E3 the
near tier empty; E4 is refused when VAON stays on for 10 ms. -/
def Sys2Proof.Claim.PowerSteps : Prop :=
  ∀ (s : State) (t : Trans), s.chip.en.trans = some t → t.deferred = false →
    let c := s.chip
    (t.drain = false → (odN c 0x02001 0 = 0 ∧ t.target = 1 ∨ odN c 0x02001 0 = 1 ∧ t.target = 0) → ∃ x b,
        exec .powerStepDone s = becomes s b ∧ x = raise (odSet c 0x02001 0 t.target) ⟨0x0200, 0⟩ t.target
          ∧ b = odSet { x with en := { x.en with trans := none } } 0x02003 0 0)
    ∧ (odN c 0x02001 0 = 1 → t.target = 2 → diesQuiet c = true → ∃ b, exec .powerStepDone s = becomes s b
          ∧ odN b 0x02001 0 = 2 ∧ b.en.trans = none ∧ (∀ d, d < 4 → dieLit b d = false))
    ∧ (odN c 0x02001 0 = 2 → t.target = 3 → ∃ b, exec .powerStepDone s = becomes s b ∧ odN b 0x02001 0 = 3
          ∧ b.en.trans = none)
    ∧ (odN c 0x02001 0 = 3 → t.target = 4 → ∃ b, exec .powerStepDone s = becomes s b ∧ odN b 0x02001 0 = 4
          ∧ b.flash = c.flash ∧ b.events = [] ∧ b.cores = [] ∧ b.boot.vaon = false)
    ∧ (odN c 0x02001 0 = 3 → t.target = 4 → t.since + 10000000 ≤ c.tb.ns → exec .e4Refused s = becomes s
          (raise (odSet { c with en := { c.en with trans := none } } 0x02003 0 0) ⟨0x020C, 3⟩ 0))

/-- Emergencies and leases (05 R154, 07 R204 to R206): at 110 °C the device is in E3 without deferral; a regulator fault forces
every lease and ends all work with the power-emergency status; a released lease lets deferred requests go on; one held too
long after a deferral is ended by force and reported. -/
def Sys2Proof.Claim.Emergencies : Prop :=
  ∀ (s : State) (dom tj block : Nat) (d : Deferred), s.chip.boot.signalBox = true → 1 ≤ dom →
    let c := s.chip
    (dom ≤ 5 → 110 ≤ tj → odN c 0x02001 0 < 3 → ∃ b, exec (.thermalTrip dom tj) s = becomes s b ∧ 3 ≤ odN b 0x02001 0
        ∧ odN b 0x02003 0 = 0 ∧ b.en.trans = none ∧ b.boot.warmSince = none)
    ∧ (dom ≤ 8 → odN c 0x02001 0 < 3 →
        exec (.energyEmergency dom) s = becomes s (fwRestore (endAllWork (forceDevice c) 1)))
    ∧ (blockLeased c block = false → c.sec.deferred = [] → exec (.leaseRelease block) s = becomes s
        (odSet (odSet c 0x04040 1 (maskOf 8 (clusterLeased c))) 0x04040 3 (maskOf 4 (fun x => dieLeased c (x + 1)))))
    ∧ (block < 8 → blockLeased c block = true → d ∈ c.sec.deferred → block ∈ waitsFor d →
        d.since + 1000000 * odN c 0x04041 0 ≤ c.tb.ns → ∃ b, exec (.leaseOverrun block) s = becomes s (runDeferred b)
          ∧ b = raiseFull (forceCluster c block) 0x0408 3 false 0 0 0xFF (0xE000 + block) (0xE000 + block))

/-- The drain for removal (05 R159, R160): all admission stops; after 100 ms the transitions to E3 begin; with the rails off the
stored energy is computed from their voltages, and REMOVE_OK rises at the removal figure or below; a discharged rail above 50
mV takes it low again. -/
def Sys2Proof.Claim.Drain : Prop :=
  ∀ (s : State) (rq : Rq) (volts : List Nat) (dom mv t : Nat),
    let c := s.chip
    let stored := ((([1100000, 600000, 600000, 600000, 600000, 400000, 20000, 150000, 50000] : List Nat).zip volts).map
      (fun x => x.1 * x.2 * x.2)).sum / 2000000
    (Accepted s rq 0x02045 [] → poweringDown c = false → fwActive c = false → c.weights.load = none →
        exec (.drain rq) s = acks s rq (odSet { c with en := { c.en with
          admissionStopped := true, drainAt := some c.tb.ns, drainHeld := 0 } } 0x02046 0 1))
    ∧ (c.en.drainAt = some t → odN c 0x02046 0 = 1 → c.en.trans = none → (t + 100000000 ≤ c.tb.ns ∨ workRuns c = false) →
        odN (endAllWork c 0) 0x02001 0 < 3 →
        exec .drainJobTimeout s = becomes s (powerStepStart (endAllWork c 0) 3 true).2)
    ∧ (odN c 0x02046 0 = 2 → stored ≤ odN c 0x02044 0 → exec (.drainReady volts) s = becomes s (raise
        (odSet { odSet c 0x02043 0 stored with en := { c.en with removeOk := true, drainAt := none } } 0x02046 0 3)
        ⟨0x020A, 0⟩ stored))
    ∧ (odN c 0x02046 0 = 2 → odN c 0x02044 0 < stored → exec (.drainReady volts) s = becomes s (odSet c 0x02043 0 stored))
    ∧ (c.en.drainAt = some t → c.en.trans = none → t + 1000000000 + 1000000 * c.en.drainHeld ≤ c.tb.ns →
        exec (.drainFailed dom) s = becomes s (raise
          (odSet { c with en := { c.en with drainAt := none, admissionStopped := false } } 0x02046 0 4) ⟨0x020B, 4⟩ dom))
    ∧ (1 ≤ dom → dom ≤ 7 → c.en.railsOff = true → 50 < mv →
        exec (.dischargedRailRise dom mv) s = becomes s { c with en := { c.en with removeOk := false } })

/-! ## Reset and bring-up -/

/-- Cold starts (06 R166, 03 R79, R106, 02 R54, R69): RESET_N low for 1 µs or more, its release, a rise or a collapse of VAON
leave no event, core, memory content or running time, and keep the flash of a device that is not saving; a shorter pulse is
ignored.
Readings and choices of the model in it: log entries 8, 15. -/
def Obligations.ColdStartsClear : Prop :=
  ∀ (s : State) (ns : Nat),
    let c := s.chip
    let cold (b : Chip) : Prop := b.events = [] ∧ b.cores = [] ∧ b.mem.dev = [] ∧ b.tb = Timebase.cold ∧ b.sl = Slaino.cold
      ∧ (c.save = none → b.flash = c.flash)
    (ns < 1000 → exec (.resetNAssert ns) s = becomes s c)
    ∧ (1000 ≤ ns → c.boot.vaon = true → ∃ b, exec (.resetNAssert ns) s = becomes s b ∧ cold b ∧ b.boot.resetLow = true
        ∧ odN b 0x01006 0 = 1)
    ∧ (c.boot.resetLow = true → c.boot.vaon = true → ∃ b, exec .resetNRelease s = becomes s b ∧ cold b
        ∧ b.boot.resetLow = false ∧ odN b 0x01006 0 = 1)
    ∧ (∃ b, exec .vaonCollapse s = becomes s b ∧ cold b ∧ b.boot.vaon = false)
    ∧ (c.boot.vaon = false → ∃ b, exec .vaonRising s = becomes s b ∧ cold b ∧ b.boot.vaon = true ∧ odN b 0x01006 0 = 0)

/-- The boot ROM (06 R180 to R182): the preferred slot of the descriptor in use runs if it is usable, else the other one, else
the device is in RECOVERY; the first measurement is of the ROM version and the descriptor. -/
def Sys2Proof.Claim.BootRom : Prop :=
  ∀ (s : State) (sigsA sigsB : List Bool), s.chip.boot.resetLow = false → s.chip.boot.vaon = true → odN s.chip 0x01001 0 = 1 →
    s.chip.boot.signalBox = false → coreState s.chip 0 = 0 → 2000000 ≤ s.chip.tb.ns →
    let c := s.chip
    let timed := odSet c 0x01003 1 2000000
    let sigs (k : Nat) : List Bool := if k = 0 then sigsA else sigsB
    let recovery (b : Chip) : Prop := exec (.bootRomLoad sigsA sigsB) s = becomes s b ∧ odN b 0x01001 0 = 5 ∧ odN b 0x04001 0 = 2
    (descUsed timed = none → ∃ b, recovery b)
    ∧ (∀ d first, descUsed timed = some d → first = (if fld ((descCopy timed d).take 32) 8 1 = 0 then 0 else 1) →
        let measured := extendMr timed 0 (leBytes 4 Config.bootRomVersion ++ (descCopy timed d).take 32)
        (slotUsable measured first (sigs first) = true →
          exec (.bootRomLoad sigsA sigsB) s = becomes s (bootSlot measured first false))
        ∧ (slotUsable measured first (sigs first) = false → slotUsable measured (1 - first) (sigs (1 - first)) = true →
          exec (.bootRomLoad sigsA sigsB) s = becomes s (bootSlot measured (1 - first) true))
        ∧ (slotUsable measured first (sigs first) = false → slotUsable measured (1 - first) (sigs (1 - first)) = false →
          ∃ b, recovery b))

/-- The phases of bring-up (06 R170 to R176, Tables 6-2 to 6-4): phase 1 ends at 30 ms or later with the signal box answering;
phase 2 begins at 20 ms; array dies are lit in order; phase 5 is reported with its time, a warm reset with its cause; a late
device is FATAL. -/
def Sys2Proof.Claim.BringUp : Prop :=
  ∀ (s : State) (bad : List Nat) (die : Nat) (seqOk : Bool),
    let c := s.chip
    let begun (b : Chip) (n : Nat) : Prop := bit (odN b 0x01002 0) n = true
    (c.boot.signalBox = false → odN c 0x01001 0 = 1 → coreState c 0 ≠ 0 → 30000000 ≤ c.tb.ns → c.faults.store = [] →
        c.mem.softRows = [] → ∃ b, exec (.phase1End []) s = becomes s b ∧ b.boot.signalBox = true ∧ begun b 3 ∧ begun b 4
          ∧ b.en.intervalEnd = c.tb.ns + 1000000 ∧ b.en.windowEnd = c.tb.ns + 1000000 * odN c 0x02020 0)
    ∧ (c.boot.resetLow = false → c.boot.vaon = true → odN c 0x01001 0 = 1 → coreState c 0 ≠ 0 →
        bit (odN c 0x01002 0) 2 = false → 20000000 ≤ c.tb.ns → ∃ b, exec .phase2Begin s = becomes s b ∧ begun b 2
          ∧ odN b 0x01003 2 = c.tb.ns)
    ∧ (lighting c = true → die < 4 → (∀ e, e < die → dieLit c e || tget false c.boot.dieFailed (e + 1)) →
        dieLit c die = false → tget false c.boot.dieFailed (die + 1) = false →
        (∃ b, exec (.dieLit die [] true seqOk) s = becomes s b ∧ dieLit b die = true
            ∧ bit (odN b 0x01004 0) (9 + die) = true)
        ∧ (∃ b, exec (.dieLit die bad false seqOk) s = becomes s b ∧ tget false b.boot.dieFailed (die + 1) = true
            ∧ bit (odN b 0x01004 0) (9 + die) = true))
    ∧ (odN c 0x01001 0 = 1 ∨ odN c 0x01001 0 = 4 → c.boot.signalBox = true → begun c 4 → diesUp c = true → clSettled c = true →
        coreState c 4 ≠ 0 → coreState c 4 ≠ 6 → ∃ b,
          odN b 0x01001 0 = 2 ∧ begun b 5 ∧ odN b 0x01003 5 = c.tb.ns
          ∧ (∀ k, k ∈ [7, 8, 13, 16] → bit (odN b 0x01004 0) k = true)
          ∧ Keeps c b [(0x01001, 0), (0x01002, 0), (0x01003, 5), (0x01004, 0)]
          ∧ b = { c with od := b.od, boot := { c.boot with
              nearZeroed := true, cacheInit := true, managerUp := true, linksSettled := true, warmSince := none } }
          ∧ (c.boot.warmSince = none → exec (.deviceReady true true true) s = becomes s (raise b ⟨0x0100, 0⟩ (c.tb.ns / 1000)))
          ∧ (c.boot.warmSince.isSome = true → exec (.deviceReady true true true) s = becomes s
              (raise (raise b ⟨0x0100, 0⟩ (c.tb.ns / 1000)) ⟨0x0103, 0⟩ (odN c 0x01006 0))))
    ∧ (odN c 0x01001 0 = 1 → c.boot.warmSince = none → c.en.trans = none → 480000000 ≤ c.tb.ns → c.boot.readyLate = false →
        c.boot.resetLow = false → c.boot.vaon = true → exec .readyLate s = becomes s (raise
          (odSet { c with boot := { c.boot with readyLate := true } } 0x01001 0 6) ⟨0x0101, 5⟩ (readyMask c)))

/-- The far tier comes up and is zeroed by blocks of 1 GiB (06 R176, 11 R313 to R318). -/
def Sys2Proof.Claim.FarTier : Prop :=
  ∀ (s : State) (p cap : Nat), p < 4 → s.chip.ports.farOut = [] →
    let c := s.chip
    (odN c 0x11031 (p + 1) % 4 = 1 → bit (odN c 0x11030 0) p = true → 0 < cap → cap % 1073741824 = 0 → cap ≤ 549755813888 →
        ∃ b, exec (.farLinkUp p 16 6 true true cap) s = becomes s b ∧ odN b 0x11031 (p + 1) % 4 = 2 ∧ odN b 0x11032 (p + 1) = cap
          ∧ Keeps c b [(0x11031, p + 1), (0x11032, p + 1)]
          ∧ b = { c with od := b.od, boot := { c.boot with
              farLeft := tput c.boot.farLeft p (cap / 1073741824), farZeroed := tput c.boot.farZeroed p 0 } })
    ∧ (odN c 0x11031 (p + 1) % 4 = 1 → bit (odN c 0x11030 0) p = true →
        ∃ b, exec (.farLinkUp p 16 6 true false cap) s = becomes s b ∧ odN b 0x11031 (p + 1) % 4 = 3
          ∧ Keeps c b [(0x11031, p + 1)] ∧ b = { c with od := b.od })
    ∧ (∀ left, odN c 0x11031 (p + 1) % 4 = 2 → tget 0 c.boot.farLeft p = left + 2 → ∃ b,
        exec (.farZeroingBlockDone p) s = becomes s b ∧ tget 0 b.boot.farLeft p = left + 1
          ∧ tget 0 b.boot.farZeroed p = tget 0 c.boot.farZeroed p + 512
          ∧ odN b 0x01047 0 = odN c 0x01047 0 + 1073741824 ∧ odN b 0x01048 0 = (odN c 0x01048 0 + 1) % 2 ^ 32
          ∧ Keeps c b [(0x01047, 0), (0x01048, 0)])

/-- WARM_RESET (06 R167, R168) and the FATAL procedure (24 R600): the cause and state are shown and the phases begin again; a
lease defers the reset; a FATAL record stops the device once.
Readings and choices of the model in it: log entries 29, 43, 79. -/
def Obligations.WarmResetAndFatal : Prop :=
  ∀ (s : State) (rq : Rq) (k : Nat) (r : ErrRec),
    let c := s.chip
    (Accepted s rq 0x01010 [] → poweringDown c = false → fwActive c = false → firstLeased c (List.range 12) = none → ∃ b,
        exec (.warmReset rq) s = acks s rq b ∧ odN b 0x01001 0 = 4 ∧ odN b 0x01006 0 = 2 ∧ b.boot.warmSince.isSome = true
          ∧ (∀ n, n ∈ [2, 3, 4] → bit (odN b 0x01002 0) n = true) ∧ bit (odN b 0x01002 0) 5 = false)
    ∧ (Accepted s rq 0x01010 [] → poweringDown c = false → fwActive c = false → firstLeased c (List.range 12) = some k → ∃ b,
        exec (.warmReset rq) s = refuses s rq 7 b ∧ b.boot.warmDeferred = true
          ∧ b.sec.deferred = c.sec.deferred ++ [⟨2, 0, blockUnit k, c.tb.ns⟩]
          ∧ odN b 0x04042 0 = (odN c 0x04042 0 + 1) % 2 ^ 32)
    ∧ (c.faults.log.find? (fun r => r.cls == 5 && !c.boot.fatalSeen.contains r.seq) = some r → c.boot.fatal = false →
        c.boot.signalBox = true → odN c 0x01012 0 ≠ 1 → ∃ b, exec .fatalHalt s = becomes s b ∧ b.boot.fatal = true)

/-- Host ports (06 R169, R177, 11 R301): PERST# takes a port's links down and, released after phase 2 has begun, lets them
train; configuration requests are answered Retry and counted before phase 5, and completed from then on. -/
def Sys2Proof.Claim.HostPorts : Prop :=
  ∀ (s : State) (h f link : Nat) (on : Bool) (op : CfgOp),
    let c := s.chip
    let done (b : Chip) : Host.Outcome State Fault Refusal := becomes s { b with out := b.out ++ [.config link false 0] }
    let writes (b : Fn) : Chip := { c with ports := { c.ports with fns := tput c.ports.fns f b } }
    (h < 2 → perstOn c h = false → ∃ b, exec (.perstAssert h) s = becomes s b ∧ perstOn b h = true
        ∧ (∀ i, i = 2 * h ∨ i = 2 * h + 1 → hostLinkUp b i = false))
    ∧ (h < 2 → perstOn c h = true → bit (odN c 0x01002 0) 2 = true → odN c 0x02001 0 < 3 → ∃ b,
        exec (.perstDeassert h) s = becomes s b ∧ perstOn b h = false ∧ odN b 0x11003 (2 * h + 1) = 1
          ∧ Keeps c b [(0x11003, 2 * h + 1), (0x11003, 2 * h + 2)])
    ∧ (link < 4 → hostLinkUp c link = true → phase5 c = false → c.boot.fatal = false → odN c 0x02001 0 ≠ 3 → ∃ b,
        exec (.configRequest link op) s = becomes s b ∧ odN b 0x01020 (link / 2 + 1) = (odN c 0x01020 (link / 2 + 1) + 1) % 2 ^ 32
          ∧ Keeps c b [(0x01020, link / 2 + 1)] ∧ b = { c with od := b.od, out := c.out ++ [.config link true 1] })
    ∧ (link < 4 → hostLinkUp c link = true → phase5 c = true → ∃ v, v < 2 ^ 32 ∧ exec (.configRequest link .read) s =
        becomes s { c with free := c.free + 1, out := c.out ++ [.config link false v] })
    ∧ (link < 4 → hostLinkUp c link = true → phase5 c = true → fnPresent c f = true → fnLink c f = link →
        exec (.configRequest link (.busMaster f on)) s = done (writes { fnOf c f with bme := on })
        ∧ exec (.configRequest link (.memSpace f on)) s = done (writes { fnOf c f with mse := on })
        ∧ exec (.configRequest link (.functionMask f true)) s = done (writes { fnOf c f with fnMask := true })
        ∧ ((fnOf c f).pend.all (fun v => !(fnOf c f).unmasked.contains v) = true →
            exec (.configRequest link (.functionMask f false)) s = done (writes { fnOf c f with fnMask := false }))
        ∧ (f < 4 → exec (.configRequest link (.powerState f on)) s = done (writes { fnOf c f with d3hot := on })))

/-! ## Security -/

/-- Ownership, fused keys and measurements (07 R190, R193, R196, R217, R218): the first station key makes the device OWNED;
release empties every key slot, clears the keys and closes the sessions; a revocation sets one bit and never the
running key's or a class's last; the floor rises only, to at most the running version; a register from 8 to 15 is extended. -/
def Sys2Proof.Claim.Ownership : Prop :=
  ∀ (s : State) (rq : Rq) (arg : Bytes),
    let c := s.chip
    let n := leNat arg
    let same (b : Chip) (l : List (Nat × Nat)) : Prop := Keeps c b ((0x04010, 6) :: l)
    (Accepted s rq 0x04031 arg → odN c 0x04001 0 = 1 → ∃ b, exec (.ownerClaim rq arg) s = acks s rq (raise b ⟨0x0400, 0⟩ 0)
        ∧ odN b 0x04001 0 = 0 ∧ odB b 0x04030 1 = sha384 arg ∧ same b [(0x04001, 0), (0x04030, 1)]
        ∧ b = { c with od := b.od })
    ∧ (Accepted s rq 0x04031 arg → odN c 0x04001 0 ≠ 1 → exec (.ownerClaim rq arg) s = refuses s rq 2 c)
    ∧ (Accepted s rq 0x04033 [] → ∃ b, exec (.ownerRelease rq) s = acks s rq (raise b ⟨0x0401, 1⟩ 0)
        ∧ odN b 0x04001 0 = 1 ∧ b.sl.sessions = [] ∧ odN b 0x04034 0 = 0
        ∧ (∀ k, 1 ≤ k → k ≤ 4 → odB b 0x04030 k = zeros 48 ∧ odB b 0x04032 k = zeros 96)
        ∧ (∀ i, (tget KeySlot.empty b.sec.slots i).state = 0) ∧ (odN c 0x05001 0 = 1 → odN b 0x05001 0 = 0))
    ∧ (Accepted s rq 0x04004 arg → n < 8 → (n < 4 → n ≠ odN c 0x04002 0) →
        bits (odN c 0x04003 0 ||| 2 ^ n) (4 * (n / 4) + 3) (4 * (n / 4)) ≠ 15 →
        exec (.keyRevoke rq arg) s = acks s rq (odSet c 0x04003 0 (odN c 0x04003 0 ||| 2 ^ n)))
    ∧ (Accepted s rq 0x04004 arg → n < 4 → n = odN c 0x04002 0 → exec (.keyRevoke rq arg) s = refuses s rq 5 c)
    ∧ (Accepted s rq 0x04006 arg → n ≤ c.sec.fw.runSecurity → ∃ b, exec (.floorRaise rq arg) s = acks s rq b
        ∧ odN b 0x04005 0 = max (odN c 0x04005 0) n ∧ same b [(0x04005, 0)] ∧ b = { c with od := b.od })
    ∧ (Accepted s rq 0x04011 arg → 8 ≤ fld arg 0 1 → fld arg 0 1 ≤ 15 → ∃ b, exec (.measExtend rq arg) s = acks s rq b
        ∧ odB b 0x04010 (fld arg 0 1 + 1) = sha384 (odB c 0x04010 (fld arg 0 1 + 1) ++ arg.drop 1)
        ∧ Keeps c b [(0x04010, fld arg 0 1 + 1)] ∧ b = { c with od := b.od })

/-- The key store (07 R199 to R202): a plain load fills an EMPTY slot of the domain's own segment, its generation one higher;
zeroising makes a READY slot CLOSING at once, and a CLOSING one EMPTY once its last request has completed.
Readings and choices of the model in it: log entries 11, 13, 46. -/
def Obligations.KeyStoreGenerations : Prop :=
  ∀ (s : State) (rq : Rq) (arg : Bytes) (slot : Nat), slot < 8192 →
    let c := s.chip
    let own := (domainOf c rq).segOwner
    let k := tget KeySlot.empty c.sec.slots slot
    let ready (b : Chip) : Nat := (b.sec.slots.filter (fun x => x.1 / 256 == slot / 256 && x.2.state == 1)).length
    let now (b : Chip) (x : KeySlot) : Prop := b.sec = { c.sec with slots := tput c.sec.slots slot x }
      ∧ odN b 0x04053 (slot / 256 + 1) = ready b ∧ Keeps c b [(0x04053, slot / 256 + 1)] ∧ b = { c with od := b.od, sec := b.sec }
    (∀ len, Accepted s rq 0x04051 arg → fld arg 0 2 = slot → slotOwner c slot = own → fld arg 4 1 = 0 → fld arg 5 1 = len →
        (fld arg 6 2 = 2 ∧ (len = 32 ∨ len = 64) ∨ fld arg 6 2 ∈ [1, 4, 5, 8] ∧ (len = 16 ∨ len = 32)) →
        arg.length = 8 + len → k.state = 0 → ∃ b,
          exec (.keyLoad rq arg) s = acks s rq (raiseP b ⟨0x0403, 0⟩ (domainOf c rq).platByte
            (slot + 65536 * ((k.gen + 1) % 65536)))
          ∧ now b ⟨1, arg.drop 8, fld arg 6 2, (k.gen + 1) % 65536, 0⟩)
    ∧ (Accepted s rq 0x04052 arg → leNat arg = slot → slotOwner c slot = own → k.state = 1 → ∃ b,
        exec (.keyZeroise rq arg) s = acks s rq b ∧ now b { k with state := 2 })
    ∧ (Accepted s rq 0x04052 arg → leNat arg = slot → slotOwner c slot ≠ own → exec (.keyZeroise rq arg) s = refuses s rq 5 c)
    ∧ (k.state = 2 → k.issued = 0 → ∃ b,
        exec (.keyZeroised slot) s = becomes s (raiseP b ⟨0x0405, 0⟩ (slotOwner c slot) (slot + 65536 * ((k.gen + 1) % 65536)))
          ∧ now b { k with state := 0, key := [], use := 0, gen := (k.gen + 1) % 65536 })

/-- Debug states (07 R207, R208, R210, Table 7-8): DBG-OPEN only of an OWNED device, with its event; closing it; the token is
collected in its buffer; an attempt with a token that fails is reported with its cause, one that passes leaves DBG-FULL
without identity key or sessions, and every attempt renews the nonce. -/
def Sys2Proof.Claim.DebugStates : Prop :=
  ∀ (s : State) (rq : Rq) (arg : Bytes),
    let c := s.chip
    (Accepted s rq 0x05002 [] → odN c 0x04001 0 = 0 → odN c 0x05001 0 = 0 → ∃ b, exec (.dbgOpen rq) s = acks s rq b
        ∧ odN b 0x05001 0 = 1 ∧ (b.events.head?.map (fun e => (e.code, e.arg))) = some (0x0500, 1))
    ∧ (Accepted s rq 0x05002 [] → odN c 0x04001 0 ≠ 0 → exec (.dbgOpen rq) s = refuses s rq 2 c)
    ∧ (Accepted s rq 0x05003 [] → odN c 0x05001 0 = 1 → ∃ b, exec (.dbgClose rq) s = acks s rq b
        ∧ odN b 0x05001 0 = 0 ∧ b.sec.dbgHalted = [] ∧ (b.events.head?.map (fun e => (e.code, e.arg))) = some (0x0500, 0))
    ∧ (Accepted s rq 0x05005 arg → fld arg 0 2 + (arg.length - 2) ≤ 8192 → exec (.dbgTokenChunk rq arg) s = acks s rq
        { c with sec := { c.sec with token := splice c.sec.token (fld arg 0 2) (arg.drop 2) } })
    ∧ (Accepted s rq 0x05006 [] → odN c 0x05001 0 ≠ 2 → tokenCheck c rq.verdict ≠ 0 → ∃ b nonce,
        exec (.dbgFullEnter rq) s = acks s rq b ∧ nonce.length = 32 ∧ odB b 0x05004 0 = nonce
          ∧ b = odSetB { raise c ⟨0x0501, 1⟩ (tokenCheck c rq.verdict) with free := c.free + 1 } 0x05004 0 nonce)
    ∧ (Accepted s rq 0x05006 [] → odN c 0x05001 0 ≠ 2 → tokenCheck c rq.verdict = 0 → ∃ b,
        exec (.dbgFullEnter rq) s = acks s rq b ∧ odN b 0x05001 0 = 2 ∧ b.sl.sessions = [] ∧ b.sec.identity = false
          ∧ b.sec.tokenKey = slice b.sec.token 56 96)

/-- Firmware update, up to verification (07 R191, R212): bundles go to the slot that does not run; the first write makes it
invalid; verification names the first image kind that fails, or the slot. -/
def Sys2Proof.Claim.FirmwareBundles : Prop :=
  ∀ (s : State) (rq : Rq) (arg : Bytes) (sigs : List Bool) (i : Nat),
    let c := s.chip
    let other := 1 - odN c 0x01005 0
    let st := odN c 0x04063 0
    let calm := poweringDown c = false
    let touched (b : Chip) (fetching : Bool) : Chip :=
      odSet { b with sec := { b.sec with fw := { c.sec.fw with slot := other, verified := false, fetching := fetching } } } 0x04063 0 1
    (Accepted s rq 0x04060 arg → calm → fld arg 8 4 ≤ 15728640 → st ≠ 1 → st ≠ 3 → st ≠ 5 → hostLinkUp c 0 = true →
        (fnOf c 0).bme = true →
        exec (.fwFetch rq arg) s = acks s rq (touched (setSlotBytes c other (hostRead c 0 (fld arg 0 8) (fld arg 8 4))) true))
    ∧ (Accepted s rq 0x04061 arg → calm → fld arg 0 4 + (arg.length - 4) ≤ 15728640 → c.sec.fw.fetching = false → st ≠ 3 →
        st ≠ 5 → exec (.fwChunk rq arg) s = acks s rq
          (touched (setSlotBytes c other (splice (slotBytes c other) (fld arg 0 4) (arg.drop 4))) false))
    ∧ (st = 1 → exec (.fwWritten true) s = becomes s
        (odSet { c with sec := { c.sec with fw := { c.sec.fw with fetching := false } } } 0x04063 0 2))
    ∧ (st = 1 → ∃ b cause, cause < 256 ∧ exec (.fwWritten false) s = becomes s (raise b ⟨0x040A, 3⟩ cause)
        ∧ odN b 0x04063 0 = 7 ∧ b.sec.fw.fetching = false ∧ Keeps c b [(0x04063, 0)])
    ∧ (Accepted s rq 0x04062 [] → calm → st ≠ 1 → st ≠ 3 → st ≠ 5 → exec (.fwVerify rq) s = acks s rq
        (odSet { c with sec := { c.sec with fw := { c.sec.fw with slot := other, verified := false } } } 0x04063 0 3))
    ∧ (st = 3 → (∀ k, k < 4 → slotImageOk c c.sec.fw.slot (k + 1) (sigs.getD k false) = true) → ∃ b,
        exec (.fwVerified sigs) s = becomes s (raise b ⟨0x0409, 0⟩ c.sec.fw.slot) ∧ odN b 0x04063 0 = 4
          ∧ b.sec.fw.verified = true ∧ Keeps c b [(0x04063, 0)])
    ∧ (st = 3 → i < 4 → slotImageOk c c.sec.fw.slot (i + 1) (sigs.getD i false) = false →
        (∀ k, k < i → slotImageOk c c.sec.fw.slot (k + 1) (sigs.getD k false) = true) → ∃ cause b, cause < 256 ∧
        exec (.fwVerified sigs) s = becomes s (raise b ⟨0x040A, 3⟩ (256 * (i + 1) + cause))
          ∧ b = odSet { c with free := c.free + 1 } 0x04063 0 7)

/-- Firmware update, activation (07 R213 to R215): kind 1 is handed over first; the rest makes the slot the running one; health
within 500 ms settles it; without it the previous images are restored; a commit writes the older descriptor copy with the next
SEQ and the given MIN_SECURITY. -/
def Sys2Proof.Claim.FirmwareActivation : Prop :=
  ∀ (s : State) (rq : Rq) (arg : Bytes),
    let c := s.chip
    let fw := c.sec.fw
    (Accepted s rq 0x04064 [] → poweringDown c = false → odN c 0x04063 0 = 4 → ∃ b, exec (.fwActivate rq) s = acks s rq b
        ∧ odN b 0x04063 0 = 5 ∧ b.sec.fw = { fw with
            stage := 1, kind1At := c.tb.ns, healthy := false, oldVersion := odN c 0x00006 0, oldSecurity := fw.runSecurity })
    ∧ (fw.stage = 1 → fw.healthy = false → ∃ b, exec .fwActivated s = becomes s (raise b ⟨0x040B, 0⟩ fw.version)
        ∧ odN b 0x01005 0 = fw.slot ∧ odN b 0x00006 0 = fw.version
        ∧ b.sec.fw = { fw with stage := 4, runSecurity := fw.secVersion })
    ∧ (fw.stage = 1 → fw.healthy = true → ∃ b, exec .fwActivated s = becomes s b ∧ odN b 0x04063 0 = 6
        ∧ odN b 0x01005 0 = fw.slot ∧ b.sec.fw = { fw with stage := 0, runSecurity := fw.secVersion })
    ∧ (fw.stage = 1 → c.tb.ns ≤ fw.kind1At + 500000000 → exec .fwHealthReport s = becomes s
        { c with sec := { c.sec with fw := { fw with healthy := true } } })
    ∧ (fw.stage = 4 → c.tb.ns ≤ fw.kind1At + 500000000 → exec .fwHealthReport s = becomes s
        (odSet { c with sec := { c.sec with fw := { fw with healthy := true, stage := 0 } } } 0x04063 0 6))
    ∧ (fw.healthy = false → fw.stage ≠ 0 → fw.kind1At + 500000000 ≤ c.tb.ns → ∃ b,
        exec .fwRollback s = becomes s (raise b ⟨0x040C, 3⟩ fw.version) ∧ odN b 0x04063 0 = 7
          ∧ odN b 0x01005 0 = 1 - fw.slot ∧ odN b 0x00006 0 = fw.oldVersion
          ∧ b.sec.fw = { fw with stage := 0, verified := false, runSecurity := fw.oldSecurity })
    ∧ (∀ k, Accepted s rq 0x04065 arg → poweringDown c = false → odN c 0x04063 0 ≠ 5 → odN c 0x01001 0 ≠ 5 →
        minSec c ≤ leNat arg → leNat arg ≤ fw.runSecurity → leNat arg < 2 ^ 32 → descUsed c = some k → k ≤ 1 →
        let seq := (fld (descCopy c k) 4 4 + 1) % 2 ^ 32
        ∃ b d, exec (.fwCommit rq arg) s = acks s rq (raise b ⟨0x040D, 0⟩ seq) ∧ descCopy b (1 - k) = d
          ∧ descCopy b k = descCopy c k ∧ descValid d = true ∧ fld d 4 4 = seq ∧ fld d 8 1 = odN c 0x01005 0 % 256
          ∧ fld d 20 4 = leNat arg)

/-- The SPDM responder (07 R194, R195): it answers through PF0 while enabled; without the identity key it signs nothing.
Readings and choices of the model in it: log entries 11, 67. -/
def Obligations.SpdmAnswersThroughPf0 : Prop :=
  ∀ (s : State) (index slot offset len code : Nat) (nonce : Bytes),
    odN s.chip 0x04020 0 = 1 → phase5 s.chip = true → hostLinkUp s.chip 0 = true → odN s.chip 0x02001 0 ≠ 4 →
    let c := s.chip
    let reply (code param : Nat) (body : Bytes) (b : Chip) : Host.Outcome State Fault Refusal :=
      becomes s { b with out := b.out ++ [.spdm code param body] }
    let chain := certificates
    let mrs := ((List.range 16).map (fun i => odB c 0x04010 (i + 1))).flatten
    exec .getVersion s = reply 0x04 0 (leBytes 1 2 ++ leBytes 2 0x1200 ++ leBytes 2 0x1300)
        { c with sec := { c.sec with spdmVersion := 0, spdmAlgs := false } }
    ∧ (code = 0x12 ∨ code = 0x13 → exec (.getCapabilities code) s = reply 0x61 code (leBytes 4 0x16)
        { c with sec := { c.sec with spdmVersion := code } })
    ∧ (code ≠ 0x12 → code ≠ 0x13 → exec (.getCapabilities code) s = reply 0x7F 0x41 [] c)
    ∧ exec .negotiateAlgorithms s = reply 0x63 0 (leBytes 4 0x80 ++ leBytes 4 2 ++ leBytes 4 4)
        { c with sec := { c.sec with spdmAlgs := true } }
    ∧ exec .getDigests s = reply 0x01 1 (sha384 chain) c
    ∧ (offset < chain.length → ∃ part, part = (chain.drop offset).take len ∧ exec (.getCertificate 0 offset len) s =
        reply 0x02 0 (leBytes 2 part.length ++ leBytes 2 (chain.length - offset - part.length) ++ part) c)
    ∧ (slot ≠ 0 → exec (.getCertificate slot offset len) s = reply 0x7F 1 [] c)
    ∧ (c.sec.identity = true → ∃ own body, own.length = 32 ∧ body = sha384 chain ++ own ++ sha384 mrs
        ∧ exec (.challenge 0 nonce) s = reply 0x03 0 (body ++ signBytes (leBytes 1 c.sec.spdmVersion ++ (nonce ++ body)))
            { c with free := c.free + 1 })
    ∧ (c.sec.identity = false → exec (.challenge slot nonce) s = reply 0x7F 5 [] c
        ∧ exec (.getMeasurements index true nonce) s = reply 0x7F 5 [] c)
    ∧ exec (.getMeasurements 0 false nonce) s = reply 0x60 16 [] c
    ∧ (1 ≤ index → index ≤ 16 → exec (.getMeasurements index false nonce) s = reply 0x60 0 (odB c 0x04010 index) c)
    ∧ (c.sec.identity = true → 1 ≤ index → index ≤ 16 → ∃ own body, own.length = 32 ∧ body = odB c 0x04010 index ++ own
        ∧ exec (.getMeasurements index true nonce) s = reply 0x60 0
            (body ++ signBytes (leBytes 1 c.sec.spdmVersion ++ (nonce ++ body))) { c with free := c.free + 1 })
    ∧ exec (.getMeasurements 0xFF false nonce) s = reply 0x60 0 mrs c
    ∧ (∀ l p, c.out = l ++ [.spdm code p nonce] → exec .respondIfReady s = reply code p nonce c)
    ∧ exec (.spdmUnsupported code) s = reply 0x7F 7 (leBytes 1 code) c

/-- The test access port (07 R209, R210, 08 R245): boundary instructions act only while RESET_N is low, else as BYPASS, and are
counted; a debug access reaches T04 to T23 in DBG-OPEN and every core in DBG-FULL.
Readings and choices of the model in it: log entries 48, 96. -/
def Obligations.TestPortInstructions : Prop :=
  ∀ (s : State) (t v : Nat) (r : Fin 16), s.chip.boot.vaon = true → odN s.chip 0x02001 0 < 3 →
    let c := s.chip
    let load (b : Chip) (n : Nat) : Chip := { b with sec := { b.sec with tapIr := n } }
    let opened (b : Chip) : Chip := { b with sec := { b.sec with tapIr := 8, tapStatus := false } }
    let refused := becomes s (odInc (load c 0) 0x05007 0)
    let reach := t < 24 ∧ (odN c 0x05001 0 = 2 ∨ odN c 0x05001 0 = 1 ∧ 4 ≤ t) ∧ (t < 16 ∨ dieLit c ((t - 16) / 2) = true)
    let core := coreOf c t
    let gives (x : Nat) : Host.Outcome State Fault Refusal := becomes s { opened c with out := c.out ++ [.tap x] }
    exec .bypass s = becomes s (load c 0) ∧ exec .samplePreload s = becomes s (load c 2)
    ∧ exec .idcode s = becomes s { load c 1 with out := c.out ++ [.tap Config.idcode] }
    ∧ (c.boot.resetLow = true → exec .extest s = becomes s (load c 3) ∧ exec .clamp s = becomes s (load c 4)
        ∧ exec .highz s = becomes s (load c 5) ∧ exec .extestPulse s = becomes s (load c 6)
        ∧ exec .extestTrain s = becomes s (load c 7))
    ∧ (c.boot.resetLow = false → exec .extest s = refused ∧ exec .clamp s = refused ∧ exec .highz s = refused
        ∧ exec .extestPulse s = refused ∧ exec .extestTrain s = refused)
    ∧ (odN c 0x05001 0 = 0 → exec (.tapDebugAccess (.halt t)) s = refused)
    ∧ (reach → exec (.tapDebugAccess (.readPc t)) s = gives core.pc.toNat
        ∧ exec (.tapDebugAccess (.readA t r)) s = gives (core.ar r).toNat
        ∧ exec (.tapDebugAccess (.readD t r)) s = gives (core.dr r).toNat
        ∧ exec (.tapDebugAccess (.writePc t v)) s = becomes s (setCore (opened c) t { core with pc := BitVec.ofNat 18 v })
        ∧ (∃ x, exec (.tapDebugAccess (.writeA t r v)) s = becomes s (setCore (opened c) t x) ∧ x.ar r = BitVec.ofNat 48 v
            ∧ (∀ y, y ≠ r → x.ar y = core.ar y) ∧ x = { core with a := x.a })
        ∧ (∃ x, exec (.tapDebugAccess (.writeD t r v)) s = becomes s (setCore (opened c) t x) ∧ x.dr r = BitVec.ofNat 32 v
            ∧ (∀ y, y ≠ r → x.dr y = core.dr y) ∧ x = { core with d := x.d }))
    ∧ (reach → coreState c t = 2 → ∃ b, exec (.tapDebugAccess (.halt t)) s = becomes s b ∧ coreState b t = 5
        ∧ coreOf b t = { core with wait := .none } ∧ b.sec.dbgHalted = c.sec.dbgHalted ++ [t])
    ∧ (reach → coreState c t = 5 → t ∈ c.sec.dbgHalted → ∃ b, exec (.tapDebugAccess (.resume t)) s = becomes s b
        ∧ coreState b t = 2 ∧ b.sec.dbgHalted = c.sec.dbgHalted.filter (fun x => x != t))
    ∧ (odN c 0x05001 0 = 2 → ∃ x, exec (.tapDebugAccess (.group7F v)) s =
        becomes s { opened c with free := c.free + 1, out := c.out ++ [.tap x] })
    ∧ (odN c 0x05001 0 = 2 → unitOk v = true → unitDie v = none → ∃ x, exec (.tapDebugAccess (.engine v)) s =
        becomes s { opened c with free := c.free + 1, out := c.out ++ [.tap x] })

/-- Customer programs (08 R221, R222, R238 to R240): the buffer belongs to the path that fills it; a start needs a code key and
a STOPPED core of T05 to T15; a good image is loaded, measured and run from its entry, a bad one reported with its cause; a
stop leaves the core STOPPED; an idle buffer is emptied after 10 s.
Readings and choices of the model in it: log entries 13, 53. -/
def Obligations.CustomerProgramsRun : Prop :=
  ∀ (s : State) (rq : Rq) (arg : Bytes) (t since : Nat) (sigOk : Bool),
    let c := s.chip
    let free := c.prog.verify = none ∧ (c.prog.owner = none ∨ c.prog.owner = some rq.path)
    let filled (b : Bytes) : Chip := odSet { c with prog := ⟨some rq.path, b, c.tb.ns, none⟩ } 0x08015 0 1
    (Accepted s rq 0x08010 arg → free → fld arg 8 4 ≤ 278528 → hostLinkUp c 0 = true → (fnOf c 0).bme = true →
        exec (.progFetch rq arg) s = acks s rq (filled (splice [] 0 (hostRead c 0 (fld arg 0 8) (fld arg 8 4)))))
    ∧ (Accepted s rq 0x08011 arg → free → fld arg 0 4 + (arg.length - 4) ≤ 278528 →
        exec (.progChunk rq arg) s = acks s rq (filled (splice c.prog.bytes (fld arg 0 4) (arg.drop 4))))
    ∧ (Accepted s rq 0x08012 arg → free → fld arg 0 1 = t → 5 ≤ t → t ≤ 15 → coreState c t = 1 →
        (∃ k, k < 4 ∧ isZero (odB c 0x04032 (k + 1)) = false) → exec (.progStart rq arg) s = acks s rq
          (odSet { c with prog := { c.prog with owner := some rq.path, verify := some (t, c.tb.ns) } } 0x08015 0 2))
    ∧ (c.prog.verify = some (t, since) → imageCheck c c.prog.bytes 5 1 (odN c 0x08021 0) sigOk = 0 → t < 24 → ∃ b,
        exec (.progStarted sigOk) s = becomes s (raiseFull b 0x0803 0 false 0 0 0xFF (0x1000 + t)
            (t + 256 * fld c.prog.bytes 8 4))
          ∧ odN b 0x08015 0 = 3 ∧ coreState b t = 2 ∧ (coreOf b t).pc = BitVec.ofNat 18 (fld c.prog.bytes 24 4)
          ∧ (coreOf b t).ispace = loadISpace c.prog.bytes ∧ b.prog = ProgBuf.empty
          ∧ (∀ u, u ≠ t → coreOf b u = coreOf c u))
    ∧ (∀ cause, c.prog.verify = some (t, since) → imageCheck c c.prog.bytes 5 1 (odN c 0x08021 0) sigOk = cause → cause ≠ 0 →
        exec (.progStarted sigOk) s = becomes s (raiseFull (odSet { c with prog := ProgBuf.empty } 0x08015 0 4)
          0x0804 1 false 0 0 0xFF (0x1000 + t) (t + 256 * cause)))
    ∧ (Accepted s rq 0x08013 arg → fld arg 0 1 = t → 5 ≤ t → t ≤ 15 →
        (coreState c t = 2 ∨ coreState c t = 3 ∨ coreState c t = 5) → exec (.progStop rq arg) s = acks s rq
          (odSet (setCore c t { coreOf c t with wait := .none }) 0x08001 (t + 1) 1))
    ∧ (Accepted s rq 0x08014 [] → free → exec (.progDiscard rq) s = acks s rq (odSet { c with prog := ProgBuf.empty } 0x08015 0 0))
    ∧ (c.prog.owner.isSome = true → c.prog.verify = none → c.prog.last + 10000000000 ≤ c.tb.ns →
        exec .progBufferTimeout s = becomes s (odSet { c with prog := ProgBuf.empty } 0x08015 0 0))

/-! ## Platforms, translation, mailboxes, host links -/

/-- Platforms (10 R270, R271, R287, R288): enabling raises the epoch and takes the device to SERVING; reset and disable close
the gate and raise the epoch again; the end of a reset empties the mailbox and enables the platform, or, for a disable,
gives up its granules. -/
def Sys2Proof.Claim.Platforms : Prop :=
  ∀ (s : State) (rq : Rq) (arg : Bytes) (p : Nat), p < 64 →
    let c := s.chip
    let st (b : Chip) : Nat := odN b (0x10040 + p) 0
    let epoch (b : Chip) : Nat := odN b (0x10100 + p) 0
    let shown (b : Chip) : Bool := bit (odN b 0x10001 0) p
    let gone (b : Chip) (disable : Bool) : Prop := st b = 2 ∧ shown b = false ∧ epoch b = (epoch c + 1) % 2 ^ 32
      ∧ Keeps c b [(0x10040 + p, 0), (0x10001, 0), (0x10100 + p, 0)]
      ∧ b = { c with od := b.od, plats := { c.plats with resetting := tput c.plats.resetting p disable } }
    (Accepted s rq 0x10020 arg → fld arg 0 1 = p → st c = 0 → phase5 c = true → perstOn c (hostPort c p) = false →
        vfEnabled c (hostPort c p) (vfNumber c p) = true → placeTaken c p = false → rootOk c p = true → ∃ b,
          exec (.platEnable rq arg) s = acks s rq (raiseP b ⟨0x1000, 0⟩ p (epoch b)) ∧ st b = 1 ∧ shown b = true
            ∧ epoch b = (epoch c + 1) % 2 ^ 32 ∧ odN b 0x01001 0 = 3
            ∧ Keeps c b [(0x10040 + p, 0), (0x10001, 0), (0x10100 + p, 0), (0x01001, 0), (0x01002, 0), (0x01003, 6)]
            ∧ b = { c with od := b.od })
    ∧ (Accepted s rq 0x10022 arg → fld arg 0 1 = p → (st c = 1 ∨ st c = 3) → ∃ b,
        exec (.platReset rq arg none) s = acks s rq b ∧ gone b false)
    ∧ (hasFn c p = true → (st c = 1 ∨ st c = 3) → ∃ b, exec (.platReset rq arg (some p)) s = becomes s b ∧ gone b false)
    ∧ (Accepted s rq 0x10021 arg → fld arg 0 1 = p → (st c = 1 ∨ st c = 3) → ∃ b,
        exec (.platDisable rq arg) s = acks s rq b ∧ gone b true)
    ∧ (Accepted s rq 0x10021 arg → fld arg 0 1 = p → st c = 2 → exec (.platDisable rq arg) s = refuses s rq 6 c)
    ∧ (st c = 2 → tget false c.plats.resetting p = false → ∃ b,
        exec (.platResetDone p) s = becomes s (raiseP b ⟨0x1002, 0⟩ p (epoch b)) ∧ st b = 1 ∧ shown b = true
          ∧ mbxOf b p = Mbx.off ∧ b.rdma.cqs.all (fun q => q.2.owner != p) = true)
    ∧ (st c = 2 → tget false c.plats.resetting p = true → ∃ b,
        exec (.platResetDone p) s = becomes s (raiseP b ⟨0x1001, 0⟩ p (epoch b)) ∧ st b = 0 ∧ shown b = false
          ∧ mbxOf b p = Mbx.off ∧ b.plats.owner.all (fun o => o.2 != p) = true)

/-- Invalidations and granules (10 R272, R276): an invalidation is pending, at most four, until the accesses of its entries
have ended, and then counted; a grant gives every granule of its run, and no other, to the platform; a reclaim takes the
owners away at once and zeroes the run before it is free. -/
def Sys2Proof.Claim.Granules : Prop :=
  ∀ (s : State) (rq : Rq) (arg : Bytes) (i : Inval) (rest : List Inval) (r : Reclaim) (more : List Reclaim),
    let c := s.chip
    let base := fld arg 0 8
    let n := fld arg 8 4
    let g := base / 2097152
    (Accepted s rq 0x10010 arg → i = ⟨fld arg 0 1, fld arg 4 4, fld arg 8 8⟩ → i.plat < 64 → fld arg 1 3 = 0 →
        i.base % 4096 = 0 → i.base < 2 ^ 48 → c.plats.invals.length < 4 → odN c (0x10040 + i.plat) 0 ≠ 0 → ∃ b,
          exec (.xlateInvalidate rq arg) s = acks s rq b ∧ b.plats = { c.plats with invals := c.plats.invals ++ [i] }
            ∧ odN b 0x10012 0 = c.plats.invals.length + 1 ∧ Keeps c b [(0x10012, 0)])
    ∧ (Accepted s rq 0x10010 arg → fld arg 0 1 < 64 → fld arg 1 3 = 0 → fld arg 8 8 % 4096 = 0 → fld arg 8 8 < 2 ^ 48 →
        4 ≤ c.plats.invals.length → exec (.xlateInvalidate rq arg) s = refuses s rq 6 c)
    ∧ (c.plats.invals = i :: rest → ∃ b, exec .invalDone s = becomes s (raiseP b ⟨0x1006, 0⟩ i.plat (odN b 0x10011 0))
        ∧ odN b 0x10011 0 = (odN c 0x10011 0 + 1) % 2 ^ 32 ∧ odN b 0x10012 0 = rest.length ∧ b.plats.invals = rest
        ∧ (∀ a e, (2 ^ 36 * i.plat + a, e) ∈ b.plats.tlb → a < 2 ^ 36 →
            ¬ (i.pages = 0 ∨ i.base / 4096 ≤ a ∧ a < i.base / 4096 + i.pages))
        ∧ Keeps c b [(0x10011, 0), (0x10012, 0)])
    ∧ (∀ p, Accepted s rq 0x10030 arg → base % 2097152 = 0 → 0 < n → fld arg 12 1 = p → p < 64 → fld arg 13 3 = 0 →
        base + n * 2097152 ≤ 2 ^ 48 → (∀ k, k < n → granuleFree c (g + k) = true ∧ granKind (g + k) = granKind g
          ∧ bankAt c ((g + k) * 2097152) = none) → ∃ b,
          exec (.granuleGrant rq arg) s = acks s rq b ∧ (∀ k, k < n → tget? b.plats.owner (g + k) = some p)
            ∧ (∀ x, x < g ∨ g + n ≤ x → tget? b.plats.owner x = tget? c.plats.owner x)
            ∧ b = { c with plats := { c.plats with owner := b.plats.owner } })
    ∧ (Accepted s rq 0x10031 arg → base % 2097152 = 0 → 0 < n → base + n * 2097152 ≤ 2 ^ 48 → granKind g ≠ 6 →
        (∀ k, k < n → reclaiming c (g + k) = false) → ∃ b p,
          exec (.granuleReclaim rq arg) s = acks s rq b ∧ (∀ k, k < n → tget? b.plats.owner (g + k) = none)
            ∧ (∀ x, x < g ∨ g + n ≤ x → tget? b.plats.owner x = tget? c.plats.owner x)
            ∧ b.plats.reclaiming = c.plats.reclaiming ++ [⟨base, n, p⟩]
            ∧ b = { c with plats := { c.plats with
                owner := b.plats.owner, tlb := b.plats.tlb, reclaiming := b.plats.reclaiming } })
    ∧ (c.plats.reclaiming = r :: more → (64 ≤ r.plat ∨ odN c (0x10040 + r.plat) 0 ≠ 2) → ∃ b,
        exec .granuleReclaimed s = becomes s (raiseP b ⟨0x1007, 0⟩ (if r.plat < 64 then r.plat else 0xFF) r.count)
          ∧ b.plats.reclaiming = more
          ∧ (∀ a k, r.base ≤ a → a + k ≤ r.base + r.count * 2097152 → memRead b.mem.dev a k = zeros k))

/-- Mailboxes (10 R281 to R285): a doorbell within the ring fetches descriptors in index order, one outside it stops the
mailbox with its event; the enable bit starts a mailbox with every index at 0 and stops it; an event head moved back frees
slots, which events fill. -/
def Sys2Proof.Claim.MailboxRegisters : Prop :=
  ∀ (s : State) (m idx : Nat) (y : Chip) (bytes : Bytes), m ≤ 64 → s.chip.boot.fatal = false → gateClosed s.chip m = false →
    let c := s.chip
    let x := mbxOf c m
    let set (b : Chip) (z : Mbx) : Chip := { b with plats := { b.plats with mbx := tput b.plats.mbx m z } }
    (x.state = 1 → idx < 65536 → idx = (x.head + 1) % 65536 → x.fetched = [] →
        (c.sl.waiting.filter (fun q => q.1.path == mbxPath m)).length < 8 → ansFree { x with db := idx } ≠ 0 →
        mbxRead (set c { x with db := idx }) m (x.reqBase + 64 * (x.head % mbxEntries x)) 64 = ⟨0, bytes, 64, y⟩ →
        mbxOf y m = { x with db := idx } → exec (.mailboxDoorbell m idx) s = becomes s
          (evtPump (set y { x with db := idx, head := idx, fetched := [bytes] }) m))
    ∧ (x.state = 1 → mbxEntries x < (idx + 65536 - x.head) % 65536 → ∃ b,
        exec (.mailboxDoorbell m idx) s = becomes s (raiseP b ⟨0x1005, 1⟩ (if m < 64 then m else 0xFF) 1)
          ∧ mbxOf b m = { x with state := 2 }
          ∧ (m < 64 → odN b (0x10180 + m) 4 = (odN c (0x10180 + m) 4 + 1) % 2 ^ 32 ∧ Keeps c b [(0x10180 + m, 4)]))
    ∧ (x.enable = false → exec (.mbxCtrlWrite m 0x1C 1) s = becomes s (evtPump (set c { x with
          enable := true, state := 1, db := 0, head := 0, ansHead := 0, ansProd := 0, evtHead := 0, evtProd := 0,
          fwdHead := 0, fwdProd := 0, fetched := [] }) m))
    ∧ (exec (.mbxCtrlWrite m 0x1C 0) s = becomes s (set c { x with enable := false, state := 0, fetched := [] }))
    ∧ (∀ v, x.enable = false → x.state ≠ 1 → v % 4096 = 0 →
        exec (.mbxCtrlWrite m 0x00 v) s = becomes s (set c { x with reqBase := v })
        ∧ exec (.mbxCtrlWrite m 0x08 v) s = becomes s (set c { x with ansBase := v })
        ∧ exec (.mbxCtrlWrite m 0x10 v) s = becomes s (set c { x with evtBase := v }))
    ∧ exec (.mbxEvtHeadWrite m idx) s = becomes s (evtPump (set c { x with evtHead := idx % 65536 }) m)

/-- Messages through mailboxes (10 R282, R284): the oldest fetched descriptor is answered by its DEST: 0 a request, taken from
platform memory to the path's queue, not-ready while the platform is DISABLED; 1 a message to the manager, result 1 without
one; 2 a message of PF0 to a platform, result 3 to one that is not ENABLED. -/
def Sys2Proof.Claim.MailboxMessages : Prop :=
  ∀ (s : State) (m : Nat) (d : Bytes) (r w : Xfer), m ≤ 64 →
    (mbxOf s.chip m).state = 1 → gateClosed s.chip m = false → (unprocessed (mbxOf s.chip m)).head? = some d → badDesc m d = false →
    let c := s.chip
    let next (b : Chip) : Host.Outcome State Fault Refusal := becomes s (mbxFetch b m 8)
    let mgr := mbxOf c 64
    (fld d 2 1 = 0 → mbxRead c m (fld d 16 8) (fld d 4 2) = r → r.st = 0 →
        let marked := mbxMark r.s m d (fld r.bytes 4 2)
        ((64 ≤ m ∨ odN marked (0x10040 + m) 0 ≠ 0) →
          exec (.mbxOdRequest m) s = next (intakeLocal marked (mbxPath m) r.bytes))
        ∧ (m < 64 → odN marked (0x10040 + m) 0 = 0 → exec (.mbxOdRequest m) s = next
            (sendAnswer marked ⟨mbxPath m, fld r.bytes 4 2, 0, false, false⟩ (some (fld r.bytes 2 1)) ⟨0x0B, 0, []⟩)))
    ∧ (fld d 2 1 = 1 → (64 ≤ m ∨ odN c (0x10040 + m) 0 ≠ 0) → managerAbsent c = true →
        exec (.mbxToManager m) s = next (mbxReply c m d 1 0))
    ∧ (fld d 2 1 = 1 → (64 ≤ m ∨ odN c (0x10040 + m) 0 ≠ 0) → managerAbsent c = false →
        (mgr.fwdProd + 65536 - mgr.fwdHead) % 65536 < 2 ^ (mgr.fwdSize % 16) →
        mbxWrite c 64 (mgr.fwdBase + 64 * (mgr.fwdProd % 2 ^ (mgr.fwdSize % 16)))
          (ringEntry c m mgr.fwdProd (2 ^ (mgr.fwdSize % 16)) 2 0 (fld d 4 2) (slice d 8 8) (slice d 16 (fld d 4 2))
            (if m < 64 then m else 0xFF)) = w → w.st = 0 →
        exec (.mbxToManager m) s = next (mbxReply (mbxMsix
          (setMbx w.s 64 { mbxOf w.s 64 with fwdProd := (mgr.fwdProd + 1) % 65536 }) 64 (mgr.vec % 65536)) m d 0 0))
    ∧ (m = 64 → fld d 2 1 = 2 → odN c (0x10040 + fld d 3 1) 0 ≠ 1 → exec .mbxToPlatform s = next (mbxReply c 64 d 3 0))
    ∧ (m = 64 → fld d 2 1 = 2 → odN c (0x10040 + fld d 3 1) 0 = 1 → (mbxOf c (fld d 3 1)).state = 1 →
        ansFree (mbxOf c (fld d 3 1)) ≠ 0 → ∃ b,
          b = ansWrite c (fld d 3 1) 2 0 (fld d 4 2) (slice d 8 8) (slice d 16 (fld d 4 2))
          ∧ exec .mbxToPlatform s = next (mbxReply b 64 d (if (mbxOf b (fld d 3 1)).state = 1 then 0 else 5) 0))

/-- Functions of a host port (11 R294, R299 to R308): VF Enable and NumVFs are shown in OD 11.010; a Function Level Reset of PF0
clears its mailbox and MSI-X state, one of a carrier disables its VFs; D3hot stops decoding; a doorbell adds to the signal
of its slot; discarded accesses are counted; an unmasked pending vector sends its message. -/
def Sys2Proof.Claim.HostFunctions : Prop :=
  ∀ (s : State) (link f slot size val vec p : Nat) (on : Bool) (bar off : Nat),
    let c := s.chip
    let x := fnOf c f
    let set (b : Chip) (k : Nat) (y : Fn) : Chip := { b with ports := { b.ports with fns := tput b.ports.fns k y } }
    (∀ num, link < 4 → hostLinkUp c link = true → phase5 c = true → num ≤ totalVfs c link → ∃ b,
        exec (.vfEnableChange link on num) s = becomes s b ∧ odN b 0x11010 (link + 1) = (if on then num else 0)
          ∧ fnOf b link = { fnOf c link with vfEnable := on, numVfs := num })
    ∧ (0 < link → link < 4 → fnPresent c link = true → ∃ b, exec (.carrierFlr link) s = becomes s b
          ∧ odN b 0x11010 (link + 1) = 0 ∧ fnOf b link = { fnOf c link with vfEnable := false, numVfs := 0 })
    ∧ (fnPresent c 0 = true → phase5 c = true → ∃ b, exec .pf0Flr s = becomes s b ∧ mbxOf b 64 = Mbx.off
          ∧ fnOf b 0 = { fnOf c 0 with fnMask := false, unmasked := [], pend := [] } ∧ Keeps c b [])
    ∧ (link < 4 → fnPresent c link = true → exec (.d3hotEntry link) s = becomes s (set c link { fnOf c link with d3hot := true }))
    ∧ (fnPresent c f = true → (c.boot.fatal = true ∨ barBad c f bar off size = true) → ∃ b,
        exec (.barAccessDiscard f bar off size true) s = becomes s b
          ∧ odN b 0x11051 (fnLink c f + 1) = (odN c 0x11051 (fnLink c f + 1) + 1) % 2 ^ 32)
    ∧ (fnPresent c f = true → c.boot.fatal = false → barBad c f bar off size = true →
        exec (.barAccessDiscard f bar off size false) s = becomes s { c with out := c.out ++ [.unsupported (fnLink c f)] })
    ∧ (fnPresent c f = true → 100 < f → c.boot.fatal = false → decodes c f = true → (size = 4 ∨ size = 8) → slot < 512 →
        platOfFn c f = some p → odN c (0x10040 + p) 0 = 1 →
        (bit (dbBinding c p slot) 15 = true → p < 64 → exec (.dbSig f slot size val) s =
          becomes s (sigAdd c (.plat p) (dbBinding c p slot % 4096) (val % 2 ^ 32)))
        ∧ (bit (dbBinding c p slot) 15 = false → exec (.dbSig f slot size val) s =
          becomes s (odInc c 0x11050 (fnLink c f + 1))))
    ∧ (fnPresent c 0 = true → c.boot.fatal = false → decodes c 0 = true → (size = 4 ∨ size = 8) → slot < 512 →
        bit (dbBinding c 0xFD slot) 15 = true → exec (.dbSig 0 slot size val) s =
          becomes s (sigAdd c .opn (dbBinding c 0xFD slot % 4096) (val % 2 ^ 32)))
    ∧ (fnPresent c f = true → vec < vectors f → vec ∈ x.pend → x.fnMask = false → x.bme = true →
        exec (.msixUnmask f vec true) s = becomes s { set c f { x with
            unmasked := vec :: x.unmasked.filter (fun v => v != vec), pend := x.pend.filter (fun v => v != vec) } with
          out := c.out ++ [.msix f vec] })
    ∧ (fnPresent c f = true → vec < vectors f → exec (.msixUnmask f vec false) s =
        becomes s (set c f { x with unmasked := x.unmasked.filter (fun v => v != vec) }))

/-- Links of host, SSD and far-tier ports (11 R293, R309 to R311, R317, R321): a host link comes up with its word, degraded
with a second event, and trains again when it goes down, counted; an SSD is powered once it has been present for 100 ms and
configured by its class code; a far port that goes down leaves service and is tried again after 1 s. -/
def Sys2Proof.Claim.PortLinks : Prop :=
  ∀ (s : State) (i p width rate since cls : Nat) (flit : Bool),
    let c := s.chip
    let word (st : Nat) : Nat := width * 65536 + rate * 256 + 16 * b2n flit + st
    let up := raise (odSet c 0x11003 (i + 1) (word 2)) ⟨0x1100, 0⟩ i
    let timer (b : Chip) (l : Link) : Chip := { b with ports := { b.ports with links := tput b.ports.links (12 + p) l } }
    (linkExists c i = true → odN c 0x11003 (i + 1) % 4 = 1 → perstOn c (i / 2) = false → 1 ≤ rate →
        rate ≤ odN c 0x11004 (i / 2 + 1) → width ≤ linkWidth c i →
        (width = linkWidth c i → rate = odN c 0x11004 (i / 2 + 1) → exec (.hostLinkUp i width rate flit) s = becomes s up)
        ∧ (width < linkWidth c i → exec (.hostLinkUp i width rate flit) s =
            becomes s (raise up ⟨0x1102, 1⟩ (i + width * 256 + rate * 65536))))
    ∧ (i < 4 → hostLinkUp c i = true → ∃ b, exec (.hostLinkDown i) s = becomes s (raise b ⟨0x1101, 1⟩ i)
        ∧ odN b 0x11003 (i + 1) = 1 ∧ odN b 0x11060 (i + 1) = (odN c 0x11060 (i + 1) + 1) % 2 ^ 32
        ∧ odN b 0x11010 (i + 1) = 0)
    ∧ (p < 8 → c.boot.signalBox = true → bit (odN c 0x11020 0) p = true → odN c 0x11021 (p + 1) % 4 = 0 →
        since + 100000000 ≤ c.tb.ns → ∃ b, exec (.ssdPresenceDetect p since) s = becomes s b ∧ odN b 0x11021 (p + 1) = 1
          ∧ Keeps c b [(0x11021, p + 1)] ∧ b.out = c.out ++ [.perst (4 + p) true]
          ∧ (linkOf b (4 + p)).presentSince = some since ∧ (linkOf b (4 + p)).perstN = true)
    ∧ (p < 8 → odN c 0x11021 (p + 1) % 4 = 1 → 1 ≤ rate → rate ≤ 5 → width ≤ 4 →
        (cls = 0x010802 → exec (.ssdPresent p width rate cls) s = becomes s (raise
          (odSet (odSet c 0x30022 (p + 1) 1) 0x11021 (p + 1) (width * 65536 + rate * 256 + 2)) ⟨0x1103, 0⟩ (4 + p)))
        ∧ (cls ≠ 0x010802 → exec (.ssdPresent p width rate cls) s =
            becomes s (odSet c 0x11021 (p + 1) (width * 65536 + rate * 256 + 3))))
    ∧ (p < 4 → odN c 0x11031 (p + 1) % 4 = 2 → ∃ b, exec (.farLinkDown p) s = becomes s (raise b ⟨0x1106, 4⟩ (12 + p))
        ∧ odN b 0x11031 (p + 1) = 0 ∧ p ∈ b.ports.farOut ∧ (linkOf b (12 + p)).retryAt = c.tb.ns + 1000000000
        ∧ odN b 0x11060 (12 + p + 1) = (odN c 0x11060 (12 + p + 1) + 1) % 2 ^ 32)
    ∧ (p < 4 → odN c 0x11031 (p + 1) % 4 < 2 → bit (odN c 0x11030 0) p = true → 0 < (linkOf c (12 + p)).retryAt →
        (linkOf c (12 + p)).retryAt ≤ c.tb.ns → exec (.farLinkRetry p) s = becomes s
          (timer (odSet c 0x11031 (p + 1) 1) { linkOf c (12 + p) with retryAt := c.tb.ns + 1000000000 }))


/-! ## Memory tiers, Ethernet, traffic -/

/-- Memory tiers (12 R324 to R332): scrubbing counts and poisons; a lasting fault moves a granule into a free raw granule, or
retires it; the last of 1,024 chunks switches the remap entry and changes no byte; a granule over the rate of OD 40.021
moves, a pinned one is reported.
Readings and choices of the model in it: log entries 13, 69. -/
def Obligations.MemoryTierRepairs : Prop :=
  ∀ (s : State) (a k g raw n t : Nat) (y : Chip) (m : Migration) (newer oldOk : Bool),
    let c := s.chip
    let day : Nat := 86400000000000
    (eccSub a true = some k → ∃ b, exec (.patrolScrub a 1 newer false) s = becomes s b
        ∧ odN b 0x40012 k = (odN c 0x40012 k + 1) % 2 ^ 32 ∧ Keeps c b [(0x40012, k)]
        ∧ (tget? c.mem.ce (a / 2097152) = some (n, t) → nowNs c < t + day → tget? b.mem.ce (a / 2097152) = some (n + 1, t)))
    ∧ (eccSub a false = some k → ∃ b, exec (.patrolScrub a 2 false false) s = becomes s b
        ∧ odN b 0x40012 k = (odN c 0x40012 k + 1) % 2 ^ 32 ∧ Keeps c b [(0x40012, k)] ∧ poisoned b a 1 = true
        ∧ b.mem.dev = c.mem.dev)
    ∧ exec (.patrolScrub a 0 newer true) s = becomes s (odInc c 0x40011 0)
    ∧ (nearGranule g = true → c.mem.retired.contains g = false → c.mem.migs.any (fun x => x.gran == g) = false →
        takeRaw c = some (raw, y) → exec (.granuleMigrate g true 0) s
          = becomes s { y with mem := { y.mem with migs := c.mem.migs ++ [⟨g, raw, 0⟩] } })
    ∧ (c.mem.migs = [m] → exec (.granuleMigrate m.gran false n) s
          = becomes s { c with mem := { c.mem with migs := [{ m with done := min 1024 (m.done + n) }] } })
    ∧ (regionOf (g * 2097152) = .near → c.mem.retired.contains g = false → c.mem.migs = [] → takeRaw c = none → ∃ b,
        exec (.granuleMigrate g true 0) s = becomes s b ∧ b.mem = { c.mem with retired := c.mem.retired ++ [g] }
          ∧ odN b 0x01046 0 = odN c 0x01046 0 - 2097152 ∧ odN b 0x40004 0 = c.mem.retired.length + 1)
    ∧ (c.mem.migs.find? (fun x => x.gran == g) = some m → m.done = 1024 → ∃ b,
        exec (.nearRemapped g oldOk) s = becomes s (raiseP b ⟨0x4001, 1⟩ (ownerByte c g) g)
          ∧ odN b 0x40003 0 = (odN c 0x40003 0 + 1) % 2 ^ 32 ∧ tget? b.mem.remap g = some m.raw
          ∧ b.mem.migs.any (fun x => x.gran == g) = false ∧ b.mem.dev = c.mem.dev
          ∧ Keeps c b [(0x40002, 0), (0x40003, 0)])
    ∧ (odN c 0x40020 0 ≠ 0 → tget? c.mem.ce g = some (n, t) → odN c 0x40021 0 < n → nowNs c < t + day →
        regionOf (g * 2097152) = .near →
        (inPinned c g = false → exec (.preventiveMigration g) s
            = becomes s (startMove { c with mem := { c.mem with ce := tdel c.mem.ce g } } g false))
        ∧ (inPinned c g = true → tget? c.mem.pinned g = none → exec (.preventiveMigration g) s
            = becomes s (raise { c with mem := { c.mem with pinned := tput c.mem.pinned g (nowNs c) } } ⟨0x4003, 1⟩ g)))

/-- Ethernet links (13 R344, R346, R347): a trained sub-port is up and says so; a lost link trains again, a frame it was
sending is counted; too many uncorrectable codewords in 1 s are reported once; a retraining port is down, its queued frames
discarded. -/
def Sys2Proof.Claim.EthernetLinks : Prop :=
  ∀ (s : State) (i p n start : Nat), i < 16 →
    let c := s.chip
    (subExists c i = true → portsOn c = true → subState c i ≠ 2 → bit (odN c 0x20003 0) i = true → ∃ b,
        exec (.ethLinkUp i) s = becomes s (raise b ⟨0x2000, 0⟩ (i + (4 - breakout c (i / 8)) * 256)) ∧ subState b i = 2
          ∧ Keeps c b [(0x20005, i + 1)])
    ∧ (subExists c i = true → subState c i = 2 → ∃ b,
        exec (.ethLinkDown i false) s = becomes s (raise b ⟨0x2001, 1⟩ i) ∧ subState b i = 1 ∧ Keeps c b [(0x20005, i + 1)]
          ∧ exec (.ethLinkDown i true) s = becomes s (odAdd64 (raise b ⟨0x2001, 1⟩ i) (0x20100 + i) 19 1))
    ∧ (tget? c.net.fec i = some (start, n, false) → odN c 0x20012 0 < n → nowNs c < start + 1000000000 →
        exec (.ethFecDegraded i) s
          = becomes s (raise { c with net := { c.net with fec := tput c.net.fec i (start, n, true) } } ⟨0x2002, 1⟩ (i + n * 256)))
    ∧ (p < 2 → c.net.retrain.contains p = true → ∃ b, exec (.ethRetrain p) s = becomes s b
        ∧ b.net.retrain.contains p = false ∧ (∀ k, k < 8 → subState b (8 * p + k) ≠ 2)
        ∧ (i / 8 ≠ p → subState b i = subState c i) ∧ (∀ q, gSub c (qGroup c q) / 8 = p → qFrames b q = []))
    ∧ (subExists c i = true → portsOn c = true → subState c i = 1 → odN c 0x20002 (i / 8 + 1) ≠ 0 →
        tget 0 c.net.anRetry i ≤ nowNs c → exec (.ethAnRetry i) s
          = becomes s { c with net := { c.net with anRetry := tput c.net.anRetry i (nowNs c + 500000000) } })

/-- Priority flow control and PTP (13 R355 to R358): a received PFC frame pauses the enabled classes it names for its quanta
and resumes those with none; XOFF goes out at its threshold, again every 32,768 quanta, and XON below its own; a PTP
message reaches the clock, whose state, delay and answer take effect. -/
def Sys2Proof.Claim.FlowControlAndPtp : Prop :=
  ∀ (s : State) (i t e v : Nat) (f : RxFrame) (m : Bytes) (d : Int), i < 16 → t < 8 →
    let c := s.chip
    let now := nowNs c
    let sent (b : Chip) (quanta : Nat) (x : Table Nat) : Prop :=
      b.out = c.out ++ [.pfc i t quanta] ∧ b.net = { c.net with xoff := x }
        ∧ odN b (0x20100 + i) 15 = (odN c (0x20100 + i) 15 + 1) % 2 ^ 64 ∧ Keeps c b [(0x20100 + i, 15)]
    (c.net.buffer.find? (fun f => f.sub == i && f.cls == 5) = some f → ∃ b, exec (.pfcFrameRx i) s = becomes s b
        ∧ b.net.buffer = c.net.buffer.erase f ∧ odN b (0x20100 + i) 14 = (odN c (0x20100 + i) 14 + 1) % 2 ^ 64
        ∧ Keeps c b [(0x20100 + i, 14)]
        ∧ tget? b.net.paused (8 * i + t) = (if bit (be f.data 2 2) t && bit (pfcEnable c i) t then
            (if be f.data (4 + 2 * t) 2 = 0 then none else some (now + quantaNs c i (be f.data (4 + 2 * t) 2)))
            else tget? c.net.paused (8 * i + t)))
    ∧ (tget? c.net.paused (8 * i + t) = some e → e ≤ now → exec (.pfcPauseExpire i t) s
          = becomes s { c with net := { c.net with paused := tdel c.net.paused (8 * i + t) } })
    ∧ (subExists c i = true → subState c i = 2 → bit (pfcEnable c i) (8 + t) = true → tget? c.net.xoff (8 * i + t) = none →
        odN c 0x20031 0 ≤ occupancy c i t → ∃ b, exec (.pfcXoffSend i t) s = becomes s b
          ∧ sent b 65535 (tput c.net.xoff (8 * i + t) now))
    ∧ (subExists c i = true → bit (pfcEnable c i) (8 + t) = true → tget? c.net.xoff (8 * i + t) = some e →
        odN c 0x20032 0 ≤ occupancy c i t → e + quantaNs c i 32768 ≤ now → ∃ b, exec (.pfcXoffRepeat i t) s = becomes s b
          ∧ sent b 65535 (tput c.net.xoff (8 * i + t) now))
    ∧ (tget? c.net.xoff (8 * i + t) = some e → occupancy c i t < odN c 0x20032 0 → ∃ b,
        exec (.pfcXonSend i t) s = becomes s b ∧ sent b 0 (tdel c.net.xoff (8 * i + t)))
    ∧ (c.net.buffer.find? (fun f => f.sub == i && f.cls == 1) = some f →
        let y := { c with net := { c.net with buffer := c.net.buffer.erase f } }
        exec (.ptpMessageRx i none none none none) s = becomes s y
        ∧ (ptpAllowed c i v = true → odN c 0x20041 (i + 1) ≠ v → exec (.ptpMessageRx i (some v) none none none) s
              = becomes s (raise (odSet y 0x20041 (i + 1) v) ⟨0x2003, 0⟩ (i + v * 256)))
        ∧ exec (.ptpMessageRx i none (some d) none none) s = becomes s (odSetI y 0x20046 (i + 1) d)
        ∧ exec (.ptpMessageRx i none none none (some m)) s
              = becomes s { y with net := { y.net with ptp := tput c.net.ptp i (tget [] c.net.ptp i ++ [m]) } })

/-- A received Ethernet frame (13 R346, R348 to R352): dropped and counted under the first check it fails (codewords, FCS,
size, address, VLAN), else counted and given to its class; a PTP message and a PFC frame wait in the ingress buffer. -/
def Sys2Proof.Claim.EthernetFrames : Prop :=
  ∀ (s : State) (i : Nat) (b : Bytes) (mark : RxMark), subExists s.chip i = true → subState s.chip i = 2 →
    let y := fecCount s.chip i mark.corrected mark.uncorrectable
    let len := b.length + 4
    let got (z : Chip) : Prop := exec (.ethFrameRx i b mark) s = becomes s z
    let counted (k n : Nat) : Chip := odAdd64 y (0x20100 + i) k n
    let p := parseFrame b
    let good := odAdd64 (counted 1 1) (0x20100 + i) 2 len
    (cutThrough y i b mark p = none → mark.fecOk = false → got (counted 8 1))
    ∧ (cutThrough y i b mark p = none → mark.fecOk = true → mark.fcsOk = false → got (counted 5 1))
    ∧ (mark.fecOk = true → mark.fcsOk = true → mark.icrcOk = true →
        (len < 64 → got (counted 9 1))
        ∧ (64 ≤ len → odN y 0x20010 (i + 1) < len → got (counted 10 1))
        ∧ (64 ≤ len → len ≤ odN y 0x20010 (i + 1) →
            (frameAddressed y i b = false → got (counted 11 1))
            ∧ (frameAddressed y i b = true →
                (tagAllowed y i b = false → got (counted 12 1))
                ∧ (tagAllowed y i b = true → got (classified good i b mark p)
                    ∧ (be b 12 2 = 0x88F7 → be b 0 6 = 0x0180C200000E →
                        got { good with net := { good.net with
                          buffer := good.net.buffer ++ [⟨i, 0, 0, 1, b, [], [], 0, true, none⟩] } })
                    ∧ (be b 12 2 = 0x8808 → be b 14 2 = 0x0101 →
                        got { good with net := { good.net with
                          buffer := good.net.buffer ++ [⟨i, 0, 0, 5, b.drop 14, [], [], 0, true, none⟩] } })
                    ∧ (be b 12 2 = 0x8808 → be b 14 2 ≠ 0x0101 → got (odAdd64 good (0x20100 + i) 16 1))))))

/-- The traffic manager (14 R362, R367, R371, R375, R376, R378, R379): a bucket gains its credit at its refill instants, up to
its burst; a PTP message goes before the hierarchy, which sends the oldest frame of the queue it chooses; a wheel slot makes
its due entries eligible; the sampler visits four queues, a native queue or a serving class.
Readings and choices of the model in it: log entries 66, 81, 82. -/
def Obligations.TrafficManagerServes : Prop :=
  ∀ (s : State) (k i t g q start v : Nat) (m : Bytes) (ms : List Bytes) (d d' : Table Nat) (f : Frame) (fs : List Frame)
      (rq : Rq) (arg : Bytes) (n : NativeQ) (p : Pace),
    let c := s.chip
    let now := nowNs c
    let visited (b : Chip) (q : Nat) : Prop := odB b (0x21800 + q / 16) (q % 16 + 1) =
      sampleRec c (odB c (0x21800 + q / 16) (q % 16 + 1)) (qBytes c q) (qFrames c q).length
        (match qFrames c q with | [] => 0 | f :: _ => now - f.at_)
    let gain (rate dt : Nat) : Int := ((rate * dt * 256 / 8000000 : Nat) : Int)
    (k < 16384 → refillDue c (meterBucket c k) = some t → fld (meterRec c k) 0 1 = 2 →
        (meterBucket c k).pending = none → ∃ b x, exec (.bucketRefill k) s = becomes s b ∧ tget? b.net.buckets k = some x
          ∧ (let y := meterBucket c k
             x = { y with
               last := t
               l0 := min (y.l0 + gain y.cur.2.1 (t - y.last)) (256 * (y.cur.2.2.2.1 : Int))
               l1 := min (y.l1 + gain y.cur.2.2.1 (t - y.last)) (256 * (y.cur.2.2.2.2 : Int)) }))
    ∧ (k < 32768 → refillDue c (shaperBucket c k) = some t → bit (fld (shaperRec c k) 0 1) 0 = true → ∃ b,
        exec (.bucketRefill (16384 + k)) s = becomes s b ∧ (shaperBucket b k).last = t
          ∧ fld (shaperRec b k) 20 4 = uInt 32 ((shaperBucket b k).l0 / 256))
    ∧ (i < 16 → subExists c i = true → subState c i = 2 →
        (tget [] c.net.ptp i = m :: ms → ∃ b, exec (.egressSelect i) s = becomes s b ∧ tget [] b.net.ptp i = ms
            ∧ b.out = c.out ++ [.frame i 0xFFFF m] ∧ odN b (0x20100 + i) 3 = (odN c (0x20100 + i) 3 + 1) % 2 ^ 64
            ∧ odN b (0x20100 + i) 4 = (odN c (0x20100 + i) 4 + (m.length + 4)) % 2 ^ 64
            ∧ Keeps c b [(0x20100 + i, 3), (0x20100 + i, 4)])
        ∧ (tget [] c.net.ptp i = [] → maxOk c (odN c 0x21020 (i + 1)) = true → pickClass c i = some (t, d) →
            pickGroup c d i t = some (g, q, d') → qFrames c q = f :: fs → ∃ b, exec (.egressSelect i) s = becomes s b
              ∧ b = sendHead (served c d' i t g q) i q ∧ qFrames b q = fs
              ∧ odN b (0x20100 + i) 3 = (odN c (0x20100 + i) 3 + 1) % 2 ^ 64
              ∧ odN b (0x20100 + i) 4 = (odN c (0x20100 + i) 4 + f.len) % 2 ^ 64))
    ∧ (16 * (c.net.wheel + 1) ≤ now → ∃ b, exec .wheelSlot s = becomes s b ∧ b.net.wheel = c.net.wheel + 1
        ∧ (∀ x ∈ b.net.slots, x.1 ≠ c.net.wheel)
        ∧ ((c.net.wheel, k) ∈ c.net.slots → tget? c.net.paces k = some p → p.e < (c.net.wheel + 1) * 2 ^ 20 →
            tget? b.net.paces k = some { p with slot := none })
        ∧ odN b 0x23011 0 = (if 16 * (c.net.wheel + 1) + 1000 < now then (odN c 0x23011 0 + 1) % 2 ^ 32 else odN c 0x23011 0)
        ∧ Keeps c b [(0x23011, 0)])
    ∧ (c.net.sampler = (q, start) → start ≤ now → q < 16380 → ∃ b, exec (.samplerVisit 0 i) s = becomes s b
        ∧ b.net.sampler = (q + 4, start) ∧ visited b q ∧ visited b (q + 1) ∧ visited b (q + 2) ∧ visited b (q + 3))
    ∧ (q < 4096 → nqOf c q = some n → ∃ r, exec (.samplerVisit 1 q) s
          = becomes s (odSetB c (0x30800 + q / 16) (q % 16 + 1) r)
        ∧ fld r 4 4 = (((n.wbs.filter (fun w => decide (w.stage < 2))).length + (n.tail + 65536 - n.head) % 65536)) % 2 ^ 32)
    ∧ (v < 8 → ∃ b, exec (.samplerVisit 2 v) s = becomes s b ∧ fld (odB b (0x53030 + v) 0) 0 4
          = (((ledReqs c).map (·.2)).filter (fun r => qClass r == v && r.phase == 1)).length % 2 ^ 32)
    ∧ (Accepted s rq 0x21032 arg → fld arg 0 2 + fld arg 2 2 ≤ 16384 → fld arg 0 2 ≤ q → q < fld arg 0 2 + fld arg 2 2 → ∃ b,
        exec (.samplerReset rq arg) s = acks s rq b
          ∧ (let r := odB b (0x21800 + q / 16) (q % 16 + 1)
             fld r 8 4 = 0xFFFFFFFF ∧ fld r 12 4 = 0 ∧ fld r 24 4 = 0xFFFFFFFF ∧ fld r 28 4 = 0))
    ∧ (Accepted s rq 0x21032 arg → 16384 < fld arg 0 2 + fld arg 2 2 → exec (.samplerReset rq arg) s = refuses s rq 5 c)

/-! ## Faults -/

/-- Errors and tests (24 R589 to R598): an error writes a record and fences its unit; a test starts where a slot is free; one
passed below the threshold of OD 70.010 is a transient and lifts the fence; one failed or overrun is a lasting fault,
repaired; UNIT_QUERY shows a unit, UNIT_RESET records and fences it. -/
def Sys2Proof.Claim.Faults : Prop :=
  ∀ (s : State) (u cls det addr plats detail place : Nat) (f : Fence) (spare : Bool) (rq : Rq) (arg : Bytes),
    let c := s.chip
    let onLit := unitOk u = true ∧ (unitDie u).any (fun d => !dieLit c d) = false
    let recorded (b : Chip) (k x : Nat) : Prop := ∃ r, b.faults.log = (r :: c.faults.log).take 1024 ∧ r.seq = c.faults.nextSeq
      ∧ r.cls = k ∧ r.detect = x ∧ r.unit = u ∧ r.run = nowNs c ∧ odN b 0x70001 0 = r.seq
      ∧ odN b 0x70003 (k - 1) = (odN c 0x70003 (k - 1) + 1) % 2 ^ 32
    let held := { f with result := 1 }
    (onLit → u / 4096 = 2 → 2 ≤ cls → cls ≤ 4 → 3 ≤ det → det ≤ 9 → plats < 2 ^ 64 → fenced c u = false → ∃ b,
        exec (.errorDetected u cls det addr plats detail none none) s = becomes s b ∧ recorded b cls det ∧ fenced b u = true
          ∧ odN b 0x70021 0 = c.faults.fences.length + 1)
    ∧ (fenceOf c u = some f → f.testing = false → f.result = 0 → testSlotFree c u = true → unitBusy c u = false →
        (unitDie u).any (fun d => !dieLit c d) = false → (u < 0x1000 ∨ 0x1004 ≤ u) → exec (.selfTestStart u) s
          = becomes s (odInc (setFence c { f with testing := true, since := nowNs c }) 0x70020 1))
    ∧ (fenceOf c u = some f → f.testing = true → pairMate c f = none →
        (transientCount (noteTransient c u) u ≤ threshold c u → u / 4096 ≠ 8 → ∃ b,
            exec (.selfTestEnd u true place spare) s = becomes s b ∧ (u / 4096 ≠ 0xA → fenced b u = false)
              ∧ b = liftFence (testResult (odInc (noteTransient c u) 0x70020 2) f 1 0 0 false) f)
        ∧ exec (.selfTestEnd u false place spare) s = becomes s (lastingFault (odInc c 0x70020 3) f 2 place spare)
        ∧ (u / 4096 ≠ 0xA → fenced (lastingFault (odInc c 0x70020 3) f 2 place spare) u = false)
        ∧ (f.since + 1000 * testMax u < nowNs c → exec (.testOverrun u place spare) s
            = becomes s (lastingFault (odInc (raiseU c ⟨0x7003, 3⟩ u u) 0x70020 4) f 4 place spare)))
    ∧ (fenceOf c u = some held → f.unit = u → f.testing = false → ∃ b, exec (.selfTestStart u) s = becomes s b ∧ b = c)
    ∧ (Accepted s rq 0x70030 arg → leNat arg = u → unitOk u = true → ∃ r, exec (.unitQuery rq arg) s
          = acks s rq (odSetB c 0x70031 0 r) ∧ fld r 0 2 = u ∧ fld r 2 1 = unitState c u)
    ∧ (Accepted s rq 0x01011 arg → leNat arg = u → unitOk u = true →
        (fenced c u = true → exec (.unitReset rq arg) s = refuses s rq 6 c)
        ∧ (onLit → u / 4096 = 2 → fenced c u = false → retired c u = false → ∃ b,
            exec (.unitReset rq arg) s = acks s rq b ∧ recorded b 2 9 ∧ fenced b u = true))

/-- A dwell trip (02 R62 to R65): where a channel has stalled for its limit, a record of class UCC (the model's reading, log 40) naming it is written, the trip
is counted, the unit fenced. -/
def Sys2Proof.Claim.DwellTrip : Prop :=
  ∀ (s : State) (u cls die start limit plats detail : Nat), unitOk u = true → cls ≤ 4 → die ≤ 4 →
    (dwellRange cls).1 ≤ limit → limit ≤ (dwellRange cls).2 → start + 1000 * limit ≤ s.chip.tb.ns → fenced s.chip u = false →
    retired s.chip u = false → (0 < die → dieLit s.chip (die - 1) = true) →
    (unitDie u).any (fun d => !dieLit s.chip d) = false → s.chip.boot.signalBox = true → u / 4096 = 2 →
    let y := heldEnds s.chip u []
    ∃ b, exec (.dwellTrip u cls die start limit plats detail []) s = becomes s b
      ∧ b = odInc (recordError y 3 5 u 0 (plats % 2 ^ 64) detail) 0x03030 (die + 1)
      ∧ fenced b u = true ∧ odN b 0x03030 (die + 1) = (odN y 0x03030 (die + 1) + 1) % 2 ^ 32


/-! ## Remote memory -/

/-- Queue pairs (15 Table 15-2, R386 to R388): RESET discards the context and its queued packets; ERROR ends one; INIT, RTR and
RTS follow each other with the fields of the argument; any other transition is out-of-range; QP_QUERY shows the context. -/
def Sys2Proof.Claim.QueuePairs : Prop :=
  ∀ (s : State) (rq : Rq) (arg : Bytes) (w : Nat), w < 2 ^ 18 →
    let c := s.chip
    let q := qpOf c w
    let owner := ownerIn c qpnOf w
    let asks := reqOwner (domainOf c rq)
    (asks = 0xFD ∨ owner = asks) →
    (Accepted s rq 0x24010 arg → fld arg 0 4 = w → arg.length = 96 →
      (fld arg 4 1 = 0 → ∃ b, exec (.qpModify rq arg) s = acks s rq b ∧ qpOf b w = Qp.off
          ∧ (∀ x, x ≠ w → qpOf b x = qpOf c x) ∧ (∀ k f, f ∈ qFrames b k → f.pkt.any (fun p => p.1 == w) = false)
          ∧ Keeps c b [(0x24002, 1), (0x24002, 2)])
      ∧ (fld arg 4 1 = 4 → q.state = 4 → exec (.qpModify rq arg) s = acks s rq c)
      ∧ (fld arg 4 1 = 4 → 0 < q.state → q.state < 4 → ∃ b, exec (.qpModify rq arg) s = acks s rq b
          ∧ (qpOf b w).state = 4 ∧ (qpOf b w).lastErr = 8 ∧ (qpOf b w).sent = [] ∧ (qpOf b w).sqCons = q.sqProd)
      ∧ (fld arg 4 1 = 1 → q.state = 0 → initOk c owner arg = true → ∃ b, exec (.qpModify rq arg) s = acks s rq b
          ∧ (qpOf b w).state = 1 ∧ (qpOf b w).plat = owner ∧ qSqBase (qpOf b w) = fld arg 8 8
          ∧ qRqBase (qpOf b w) = fld arg 16 8 ∧ qSqCq (qpOf b w) = fld arg 28 2 ∧ qRqCq (qpOf b w) = fld arg 30 2
          ∧ Keeps c b [(0x24002, 1), (0x24002, 2)])
      ∧ (fld arg 4 1 = 2 → q.state = 1 → rtrOk c owner q arg = true → ∃ b, exec (.qpModify rq arg) s = acks s rq b
          ∧ (qpOf b w).state = 2 ∧ (qpOf b w).expPsn = fld arg 40 4 ∧ qRemote (qpOf b w) = fld arg 32 4 ∧ Keeps c b [])
      ∧ (fld arg 4 1 = 3 → q.state = 2 → rtsOk c owner arg = true → profileOf c q.plat = none → ∃ b,
          exec (.qpModify rq arg) s = acks s rq b ∧ (qpOf b w).state = 3 ∧ (qpOf b w).nextPsn = fld arg 36 4
          ∧ (qpOf b w).una = fld arg 36 4 ∧ (qpOf b w).retries = fld arg 46 1 % 8)
      ∧ (fld arg 4 1 ≠ 0 → fld arg 4 1 ≠ 4 → q.state + 1 ≠ fld arg 4 1 → exec (.qpModify rq arg) s = refuses s rq 5 c))
    ∧ (Accepted s rq 0x24011 arg → leNat arg = w → owner < 64 → ∃ r,
        exec (.qpQuery rq arg) s = acks s rq (odSetB c (0x240C0 + owner) 0 r)
          ∧ fld r 0 4 = w ∧ fld r 4 1 = q.state % 256 ∧ fld r 8 4 = q.nextPsn % 2 ^ 32 ∧ fld r 12 4 = q.expPsn % 2 ^ 32)

/-- Completion rings and memory regions (15 R389, R390, R393): created and registered within the owner's range, where not yet
there; a ring that is fed is busy; a region goes only with its key. -/
def Sys2Proof.Claim.RingsAndRegions : Prop :=
  ∀ (s : State) (rq : Rq) (arg : Bytes) (q : Cq) (m : Mr),
    let c := s.chip
    let own := reqOwner (domainOf c rq)
    let n := fld arg 0 2
    let i := fld arg 0 4 / 256
    let withCqs (t : Table Cq) : Chip := { c with rdma := { c.rdma with cqs := t } }
    let withMrs (t : Table Mr) : Chip := { c with rdma := { c.rdma with mrs := t } }
    (Accepted s rq 0x24012 arg → ownsNum c cqnOf own n = true → 6 ≤ fld arg 2 1 → fld arg 2 1 ≤ 15 → fld arg 3 1 = 0 →
        fld arg 6 2 = 0 → fld arg 4 2 < (if own < 64 then 128 else 1024) →
        (cqOf c n = none → exec (.cqCreate rq arg) s
          = acks s rq (withCqs (tput c.rdma.cqs n ⟨own, fld arg 2 1, fld arg 4 2, fld arg 8 8, 0, 0, false⟩)))
        ∧ (cqOf c n = some q → exec (.cqCreate rq arg) s = refuses s rq 6 c))
    ∧ (Accepted s rq 0x24013 arg → ownsNum c cqnOf own (leNat arg) = true → cqOf c (leNat arg) = some q →
        (feeders c (leNat arg) = [] → nqFeeders c (leNat arg) = [] → cqOfDispatch c (leNat arg) = false →
          exec (.cqDestroy rq arg) s = acks s rq (withCqs (tdel c.rdma.cqs (leNat arg))))
        ∧ (feeders c (leNat arg) ≠ [] → exec (.cqDestroy rq arg) s = refuses s rq 6 c))
    ∧ (Accepted s rq 0x24014 arg → i < 2 ^ 20 → ownsNum c mrnOf own i = true → fld arg 4 4 = 0 → 0 < fld arg 16 4 →
        fld arg 16 4 ≤ 268435456 → fld arg 20 1 ≤ 7 → fld arg 21 1 ≤ 3 → fld arg 22 2 = 0 → tget? c.rdma.mrs i = none →
        exec (.mrRegister rq arg) s = acks s rq (withMrs (tput c.rdma.mrs i
          ⟨own, fld arg 0 4, fld arg 8 8, fld arg 16 4, fld arg 20 1, fld arg 21 1⟩)))
    ∧ (Accepted s rq 0x24015 arg → tget? c.rdma.mrs (leNat arg / 256) = some m →
        (m.plat = own → m.rkey = leNat arg →
          exec (.mrDeregister rq arg) s = acks s rq (withMrs (tdel c.rdma.mrs (leNat arg / 256))))
        ∧ (m.rkey ≠ leNat arg → exec (.mrDeregister rq arg) s = refuses s rq 5 c))

/-- Doorbells of remote memory (11 Table 11-4, 15 R391, R393): the producer and consumer indices take the values written; an
index beyond the ring takes the queue pair to ERROR; one of another owner's is discarded and counted. -/
def Sys2Proof.Claim.RdmaDoorbells : Prop :=
  ∀ (s : State) (fn o w i : Nat) (r : Cq) (arm : Bool), Rings s fn o → w < 2 ^ 18 → i < 65536 →
    let c := s.chip
    let q := qpOf c w
    let val := w * 2 ^ 32 + i
    (q.state ≠ 0 → q.state ≠ 4 → q.plat = o → loadHolds c w = false →
        (idxSub i q.sqCons ≤ 2 ^ qSqLog q → exec (.dbRsq fn 8 val) s = becomes s (setQp c w { q with sqProd := i }))
        ∧ (2 ^ qSqLog q < idxSub i q.sqCons → ∃ b, exec (.dbRsq fn 8 val) s = becomes s b ∧ (qpOf b w).state = 4
            ∧ (qpOf b w).lastErr = 8))
    ∧ (q.state ≠ 0 → q.state ≠ 4 → q.plat = o →
        (idxSub i q.rqCons ≤ 2 ^ qRqLog q → exec (.dbRrq fn 8 val) s = becomes s (setQp c w { q with rqProd := i }))
        ∧ (2 ^ qRqLog q < idxSub i q.rqCons → ∃ b, exec (.dbRrq fn 8 val) s = becomes s b ∧ (qpOf b w).state = 4
            ∧ (qpOf b w).lastErr = 8))
    ∧ ((q.state = 0 ∨ q.plat ≠ o) → exec (.dbRsq fn 8 val) s = becomes s (odInc c 0x11050 (fnLink c fn + 1))
        ∧ exec (.dbRrq fn 8 val) s = becomes s (odInc c 0x11050 (fnLink c fn + 1)))
    ∧ (w < 65536 → cqOf c w = some r → r.owner = o → exec (.dbCq fn 8 (w * 2 ^ 32 + 2 ^ 31 * b2n arm + i)) s
        = becomes s { c with rdma := { c.rdma with cqs := tput c.rdma.cqs w { r with cons := i, armed := arm } } })

/-- Send requests (15 R391, R392, R396): the row of the OPCODE at the head of the send ring, and no other, takes the request: it
gets the next PSNs, and its packets leave as the egress queue has room, an empty WRITE as one packet; one that must wait
stays; a malformed one takes the queue pair to ERROR with BAD_DESCRIPTOR; a raw frame is queued whole. -/
def Sys2Proof.Claim.SendRequests : Prop :=
  ∀ (s : State) (w : Nat) (x : Xfer), (qpOf s.chip w).state = 3 → (qpOf s.chip w).sqCons ≠ (qpOf s.chip w).sqProd →
    (qpOf s.chip w).rnrUntil = none →
    let c := s.chip
    let q := qpOf c w
    x = qpFetch c q (qSqBase q) (qSqLog q) q.sqCons → x.s.rdma = c.rdma →
    let b := x.bytes
    let e := qEgress x.s q
    let frameLen (n : Nat) : Nat := wireLen x.s (qSub q) (isV4 (slice q.cfg 48 16)) (qOutSa q).isSome n
    let sub := gSub x.s (qGroup x.s e)
    let begun : Qp := { q with
      sent := [⟨q.sqCons, b, q.nextPsn, psnCount q b, 0, none, 0, 0, q.group, q.gfirst.getD q.nextPsn⟩]
      nextPsn := psnAdd q.nextPsn (psnCount q b)
      sqCons := idxNext q.sqCons }
    let rows : List (Nat × Instr) := [(0, .send w), (1, .wrWrite w), (2, .writeImm w), (3, .wrRead w), (4, .fetchAdd w),
      (5, .cmpSwap w), (8, .relaxedWrite w), (9, .relaxedFinal w), (0x10, .rawSend w)]
    (x.st = 0 → wrBad x.s q q.sqCons b = false → ∀ r ∈ rows,
      (r.1 ≠ wOp b → exec r.2 s = becomes s c)
      ∧ (r.1 = wOp b → mustWait q b = true → exec r.2 s = becomes s c)
      ∧ (r.1 = wOp b → mustWait q b = false → r.1 ≠ 0x10 → exec r.2 s = becomes s (startWr x.s w q b)
          ∧ (r.1 < 8 → q.sent = [] → (∀ n, n ≤ 12 + 32 + qMtu q + 3 → 15 ≤ n → packetRoom x.s q n = false) →
              qpOf (startWr x.s w q b) w = begun)
          ∧ (r.1 = 1 → q.sent = [] → wLen b = 0 → qRoom x.s e (frameLen 31) = true → subExists x.s sub = true →
              qFrames (startWr x.s w q b) e = qFrames x.s e ++ [⟨frameLen 28, nowNs x.s, some (w, 0x0A, q.nextPsn % 2 ^ 24),
                bth 0x0A (qRemote q) (q.nextPsn % 2 ^ 24) true 0 ++ reth (fld b 24 8) (fld b 32 4) 0, qOutSa q⟩]))
      ∧ (r.1 = wOp b → mustWait q b = false → r.1 = 0x10 → exec r.2 s = becomes s (rawSend x.s w q b)
          ∧ (let y := xferRead x.s (agentOf q.plat) (fld b 16 8) (wLen b) (bits (fld b 3 1) 3 2) 0 uRdma
               ⟨0, fld b 16 8 + wLen b, .any⟩
             y.st = 0 → q.sent = [] → bit (fld b 3 1) 0 = false → qRoom x.s e (wLen b + 4) = true → max 64 (wLen b + 4) ≤ qLimit y.s e →
             subExists y.s (gSub y.s (qGroup y.s e)) = true →
             qFrames (rawSend x.s w q b) e = qFrames y.s e ++ [⟨max 64 (wLen b + 4), nowNs y.s, none, y.bytes, none⟩])))
    ∧ (x.st = 0 → wrBad x.s q q.sqCons b = true → q.sent = [] → ∀ r ∈ rows, ∃ z, exec r.2 s = becomes s z
        ∧ (qpOf z w).state = 4 ∧ (qpOf z w).lastErr = 10)

/-- Recovery and pacing (15 R398 to R405): an expired timeout sends everything unacknowledged again, at half the rate, or fails the
queue pair without a retry left; the end of an RNR wait sends again; an interval's smallest sample sets the rate between its
bounds, a coincident software write wins; a responder acknowledges after 2 µs. -/
def Sys2Proof.Claim.RdmaTimers : Prop :=
  ∀ (s : State) (w k t r : Nat),
    let c := s.chip
    let q := qpOf c w
    let now := nowNs c
    let within (v : Nat) : Nat := min (max v (if q.yielded then 1000 else prof c k 4 4)) (prof c k 8 4)
    (q.state = 3 → inFlight q = true → q.rnrUntil = none → q.progress + qTimeout q ≤ now →
        (profileOf c q.plat = none → 0 < q.retries → exec (.retransmitTimeout w) s
            = becomes s (resend (setQp c w { q with retries := q.retries - 1 }) w q.una))
        ∧ (profileOf c q.plat = none → q.retries = 0 → ∃ b, exec (.retransmitTimeout w) s = becomes s b
            ∧ (qpOf b w).state = 4 ∧ (qpOf b w).lastErr = 6)
        ∧ (profileOf c q.plat = some k → exec (.retransmitTimeout w) s
            = becomes s (retryFrom (setRate c w (max (q.rate / 2) (prof c k 4 4))) w q.una)))
    ∧ (q.state = 3 → q.rnrUntil = some t → t ≤ now → exec (.rnrTimer w) s
        = becomes s (resend (setQp c w { q with rnrUntil := none }) w q.una))
    ∧ (q.state = 3 → profileOf c q.plat = some k → q.nextInterval ≤ now → q.pace = some t → ∃ b,
        exec (.pacingInterval false w false) s = becomes s b ∧ (qpOf b w).samples = []
          ∧ (qpOf b w).nextInterval = q.nextInterval + 1000 * max 1 (prof c k 18 2)
          ∧ (q.samples = [] → (qpOf b w).rate = within q.rate)
          ∧ (q.samples = [r] → q.yielded = false → r ≤ prof c k 20 4 → r < prof c k 28 4 →
              (qpOf b w).rate = within (q.rate + prof c k 12 4)))
    ∧ (∀ p, (List.range 16).find? (fun p => bit (prof c p 34 1) 0 && prof c p 32 2 == k) = some p → k < 32768 →
        bit (fld (shaperRec c k) 0 1) 2 = true →
        let l := tget ⟨0, false, false, 0⟩ c.rdma.loops k
        l.nextInterval ≤ now →
        (loopQps c k = [] → exec (.pacingInterval true k false) s = becomes s { c with rdma := { c.rdma with
            loops := tput c.rdma.loops k { l with nextInterval := now + 1000 * max 1 (prof c p 18 2) } } })
        ∧ (loopQps c k = [w] → q.samples = [r] → ∃ b, exec (.pacingInterval true k true) s = becomes s b
            ∧ shaperRec b k = shaperRec c k ∧ b.events.head?.map (fun e => e.code) = some 0x2300))
    ∧ (0 < q.unacked → q.ackAt + 2000 ≤ now → (q.state = 2 ∨ q.state = 3) → exec (.responderAckTimer w) s
          = becomes s (sendAck c w) ∧ (qpOf (sendAck c w) w).unacked = 0)

/-- The responder (15 R389, R394, R396, R397, R404): the expected packet is performed, a WRITE's payload placed and its PSN
passed; an earlier one is a duplicate, the first one ahead draws one sequence error; relaxed packets are placed in any
order within the window, a FINAL is held until its group has been placed, and then placed and signalled. -/
def Sys2Proof.Claim.Responder : Prop :=
  ∀ (s : State) (f : RxFrame) (w : Nat) (y : Chip) (m : Mr) (z : Chip) (x : Xfer), Arrives s f w y →
    let q := qpOf s.chip w
    let op := bthOp f.data
    let psn := bthPsn f.data
    let body := bthBody f.data
    (isAnswerOp op = false → op ≠ 0x81 → op ≠ 0xC0 → op ≠ 0xC1 →
        (psn = q.expPsn → exec .rxRequestPacket s = becomes s (rxPerform y w false f.data))
        ∧ (psn ≠ q.expPsn → (psnLe psn q.expPsn = true ∨ q.placed.contains psn = true) →
            exec .rxRequestPacket s = becomes s (rxPerform y w true f.data))
        ∧ (psn ≠ q.expPsn → psnLe psn q.expPsn = false → q.placed.contains psn = false →
            (q.nakSent = true → exec .rxRequestPacket s = becomes s y)
            ∧ (q.nakSent = false → exec .rxRequestPacket s
                = becomes s (sendNak (setQp y w { q with nakSent := true }) w q.expPsn 0x60)))
        ∧ (op = 0x0A → psn = q.expPsn → q.rx = none → q.placed = [] → body.length = 16 + be body 12 4 →
            0 < be body 12 4 → be body 12 4 ≤ qMtu q → regionFor y q (be body 8 4) (be body 0 8) (be body 12 4) 1 = (some m, z) →
            x = xferWrite z (agentOf q.plat) (be body 0 8) (body.drop 16) m.hint 0 uRdma (mrBound m) → x.st = 0 →
            x.s.rdma = y.rdma → ∃ b, exec .rxRequestPacket s = becomes s b ∧ b.mem = x.s.mem
              ∧ (qpOf b w).expPsn = psnAdd psn 1 ∧ (qpOf b w).msn = (q.msn + 1) % 2 ^ 24 ∧ (qpOf b w).rx = none))
    ∧ ((op = 0xC0 ∨ op = 0xC1) →
        (q.relaxed = false → exec .rxRelaxedPacket s = becomes s (sendNak y w psn 0x61))
        ∧ (q.relaxed = true → q.placed.contains psn = true → exec .rxRelaxedPacket s = becomes s (sendAck y w))
        ∧ (q.relaxed = true → q.placed.contains psn = false → (psn = q.expPsn ∨ psnLe psn q.expPsn = false) →
            (256 ≤ psnSub psn q.expPsn → exec .rxRelaxedPacket s = becomes s (rdmaCount y q.plat 7))
            ∧ (psnSub psn q.expPsn < 256 → q.finals = [] → exec .rxRelaxedPacket s
                = becomes s (rxRelaxedNew y w q f body)
              ∧ (op = 0xC1 → 24 < body.length → be body 12 4 = body.length - 24 → be body 12 4 ≤ qMtu q →
                  regionFor y q (be body 8 4) (be body 0 8) (be body 12 4) 1 = (some m, z) →
                  rxRelaxedNew y w q f body = sendAck (setQp z w { q with finals := [⟨psn, fld body 16 3, fld body 20 3,
                    be body 0 8, be body 8 4, body.drop 24, f.sub, f.tcl, f.len⟩] }) w))))

/-- A held FINAL whose group has been placed (15 R397) is placed, then its signal or completion, then the acknowledgement;
acknowledgements, notifications (R398, R403): up to the PSN acknowledged nothing is outstanding; a notification lowers the
rate once per interval. -/
def Sys2Proof.Claim.FinalsAndAnswers : Prop :=
  ∀ (s : State) (f : RxFrame) (w k : Nat) (y z : Chip) (m : Mr) (x : Xfer) (h : Held),
    let c := s.chip
    let q := qpOf c w
    let q' := { q with finals := q.finals.erase h }
    let psn := bthPsn f.data
    let syn := be (bthBody f.data) 0 1
    (q.finals.find? (groupPlaced q) = some h → h.data ≠ [] →
        regionFor c q' h.rkey h.addr h.data.length 1 = (some m, z) →
        x = xferWrite z (agentOf q.plat) h.addr h.data m.hint 0 uRdma (mrBound m) → x.st = 0 →
        let v := setQp x.s w (placedPsn { q' with msn := (q.msn + 1) % 2 ^ 24 } h.psn 1)
        (qFinal q = 0xFFFF → exec (.finalPlaced w) s
            = becomes s (sendAck (qpComplete v w true 0 0x22 0 h.data.length h.group 0) w))
        ∧ (qFinal q ≠ 0xFFFF → exec (.finalPlaced w) s = becomes s (sendAck (addSignal v (qpSigAgent q) (qFinal q)) w)))
    ∧ (Arrives s f w y → bthOp f.data = 0x11 → q.state = 3 →
        (syn / 32 % 4 = 0 → exec .rxAck s = becomes s (advance (ackTo y w psn) w))
        ∧ (syn / 32 % 4 = 0 → ackNew q psn = true → (qpOf (ackTo y w psn) w).una = psnAdd psn 1
            ∧ (qpOf (ackTo y w psn) w).retries = fld q.cfg 46 1 % 8)
        ∧ (syn = 0x62 → ackNew q (psnAdd psn (2 ^ 24 - 1)) = false → q.sent = [] → exec .rxAck s = becomes s (advance y w)))
    ∧ (Arrives s f w y → bthOp f.data = 0x11 → q.state = 2 → exec .rxAck s = becomes s y)
    ∧ (Arrives s f w y → bthOp f.data = 0x81 →
        (q.ecn = true → q.state = 3 → q.cnpInInterval = false → profileOf c q.plat = some k → profShaper c q.plat = none → ∃ b,
            exec .cnpRx s = becomes s b ∧ (qpOf b w).cnpInInterval = true
              ∧ (qpOf b w).rate = min (max (q.rate - q.rate * prof c k 16 2 / 512) (if q.yielded then 1000 else prof c k 4 4))
                  (prof c k 8 4)
              ∧ odN b 0x24030 6 = (odN c 0x24030 6 + 1) % 2 ^ 64)
        ∧ (q.ecn = false → exec .cnpRx s = becomes s (rdmaCount y q.plat 6)))

/-- IPsec ESP (15 R407 to R410): associations are added and deleted within the owner's range; an inbound packet is dropped and
counted without an association, outside the window, with an unusable key or a wrong tag, else its number is taken and its
inner packet goes on; an outbound packet takes the next number, until none is left.
Readings and choices of the model in it: log entries 11, 84, 86. -/
def Obligations.EspChecksAndNumbers : Prop :=
  ∀ (s : State) (rq : Rq) (arg : Bytes) (f : RxFrame) (g : Frame) (i k : Nat) (a : Sa) (fault : Bool),
    let c := s.chip
    let own := reqOwner (domainOf c rq)
    let n := fld arg 0 4
    let withSas (y : Chip) (t : Table Sa) : Chip := { y with rdma := { y.rdma with sas := t } }
    (Accepted s rq 0x25010 arg → n < 65536 → ownsNum c sanOf own n = true → espKeyOk c own (fld arg 10 2) = true →
        fld arg 8 1 = 1 → fld arg 9 1 = 0 → fld arg 20 4 = 0 → isZero (slice arg 48 16) = true →
        (own < 64 ∨ fld arg 14 2 < 16384 ∨ fld arg 14 2 = 0xFFFF) →
        (tget? c.rdma.sas n = none → exec (.saAdd rq arg) s
            = acks s rq (withSas c (tput c.rdma.sas n ⟨own, arg, fld arg 24 8, 0, 0, false⟩)))
        ∧ (tget? c.rdma.sas n = some a → exec (.saAdd rq arg) s = refuses s rq 5 c))
    ∧ (Accepted s rq 0x25011 arg → ownsNum c sanOf own (leNat arg) = true →
        (tget? c.rdma.sas (leNat arg) = some a → exec (.saDelete rq arg) s
            = acks s rq (withSas c (tdel c.rdma.sas (leNat arg))))
        ∧ (tget? c.rdma.sas (leNat arg) = none → exec (.saDelete rq arg) s = refuses s rq 5 c))
    ∧ (c.net.buffer.find? (fun f => f.cls == 4) = some f →
        let y := { c with net := { c.net with buffer := c.net.buffer.erase f } }
        let d := f.data
        let seq := be d 8 8
        let key := (keySlot c (saSlot a)).key
        let ct := (d.drop 16).take (d.length - 32)
        let held := c.rdma.sas.find? (fun a => !saOut a.2 && !a.2.stopped && saSpi a.2 == be d 0 4)
        (held = none → exec (.espInbound fault) s = becomes s (odAdd64 y 0x25001 3 1))
        ∧ (held = some (i, a) → replayOk a seq = false → exec (.espInbound fault) s = becomes s (espCount y a.owner 4))
        ∧ (held = some (i, a) → 32 ≤ d.length → replayOk a seq = true →
            (keyCheck c a.owner (saSlot a) (saGen a) 0 ≠ 0 → exec (.espInbound fault) s = becomes s (espCount y a.owner 6))
            ∧ (keyCheck c a.owner (saSlot a) (saGen a) 0 = 0 →
                let good := gcmTag key (espIv a seq) (espAad a seq) ct = d.drop (d.length - 16)
                ∃ b, exec (.espInbound false) s = becomes s (if good then b else espCount y a.owner 5)
                  ∧ tget? b.rdma.sas i = some (replayTake a seq)
                  ∧ b.net.buffer = y.net.buffer ++ ((espInner (gcmText key (espIv a seq) ct)).map (fun p =>
                      { f with cls := 3, data := p, sa := some i })).toList
                  ∧ odN b 0x25001 1 = (odN c 0x25001 1 + 1) % 2 ^ 64)))
    ∧ ((qFrames c k).find? (fun f => f.sa.isSome) = some g → g.sa = some i → tget? c.rdma.sas i = some a →
        a.stopped = false → saOut a = true →
        (a.next < 2 ^ 64 → keyCheck c a.owner (saSlot a) (saGen a) 0 = 0 → ∃ b,
            exec (.espOutbound k false) s = becomes s b ∧ tget? b.rdma.sas i = some { a with next := a.next + 1 }
              ∧ (qFrames b k).length = (qFrames c k).length ∧ g ∉ qFrames b k
              ∧ odN b 0x25001 2 = (odN c 0x25001 2 + 1) % 2 ^ 64)
        ∧ (2 ^ 64 ≤ a.next → ∃ b, exec (.espOutbound k fault) s = becomes s b
              ∧ tget? b.rdma.sas i = some { a with stopped := true }))


/-! ## Storage -/

/-- Native queues (16 R414 to R417, R419): a namespace whose clearing completes is READY; a queue is created for its owner and
deleted, at once where it holds nothing, else with its last waybill; a doorbell beyond the ring is an error, and else the
waybills up to the tail are fetched, each with its check. -/
def Sys2Proof.Claim.NativeQueues : Prop :=
  ∀ (s : State) (rq : Rq) (arg : Bytes) (n k fn o tail : Nat) (q : NativeQ) (w : Wb) (x : Xfer),
    let c := s.chip
    let own := reqOwner (domainOf c rq)
    let i := fld arg 0 2
    (k < 1024 → nsState c k = 1 → backReady c (nsBack (nsRec c k)) = true → exec (.nsReady k) s
        = becomes s (raiseP (setNsState c k 2) ⟨0x3002, 0⟩ (nsOwner (nsRec c k)) k))
    ∧ (Accepted s rq 0x30010 arg → 6 ≤ fld arg 2 1 → fld arg 2 1 ≤ 12 → fld arg 3 1 = 0 → fld arg 6 2 = 0 → fld arg 16 8 = 0 →
        fld arg 8 8 % 4096 = 0 →
        (queueOwned c own i = true → (own < 64 → emulQueue c own i = false) →
          (cqOf c (fld arg 4 2)).any (fun r => r.owner == own) = true → feeders c (fld arg 4 2) = [] →
          cqOfDispatch c (fld arg 4 2) = false →
          (nqOf c i = none → exec (.sqCreate rq arg) s = acks s rq (setNq c i
              ⟨own, fld arg 2 1, fld arg 4 2, fld arg 8 8, 0, 0, false, [], 0, false, [], false⟩))
          ∧ (nqOf c i = some q → exec (.sqCreate rq arg) s = refuses s rq 5 c))
        ∧ (queueOwned c own i = false → exec (.sqCreate rq arg) s = refuses s rq 5 c))
    ∧ (Accepted s rq 0x30011 arg → leNat arg = n → nqOf c n = some q →
        (q.owner = own → q.head = q.tail → q.wbs = [] → ∃ b, exec (.sqDelete rq arg) s = acks s rq b ∧ nqOf b n = none)
        ∧ (q.owner = own → q.head = q.tail → q.wbs = [w] → w.stage = 2 → ∃ b, exec (.sqDelete rq arg) s = acks s rq b
            ∧ nqOf b n = some { q with error := true, freed := true })
        ∧ (q.owner ≠ own → domainOf c rq ≠ .sealed → exec (.sqDelete rq arg) s = refuses s rq 5 c))
    ∧ (Rings s fn o → n < 65536 → tail < 65536 → nqOf c n = some q → q.owner = o → q.error = false →
        let val := n * 2 ^ 32 + tail
        let y := setNq c n { q with tail := tail }
        (2 ^ q.log < idxSub tail q.head → exec (.dbSq fn 8 val) s = becomes s (sqErrorEnter c n 1))
        ∧ (idxSub tail q.head ≤ 2 ^ q.log → exec (.dbSq fn 8 val) s = becomes s (sqFetch y n 256))
        ∧ (tail = idxNext q.head → q.wbs = [] → 0 < q.log → tail ≠ q.head →
            x = xferRead y (agentOf o) (q.base + 64 * (q.head % 2 ^ q.log)) 64 0 0 uStorage Bound.free → x.st = 0 →
            fld x.bytes 0 2 = q.head → ∃ v, nqOf (sqFetch y n 256) n
                = some { q with tail := tail, head := tail, nextSeq := q.nextSeq + 1, wbs := [v] }
              ∧ v.seq = q.nextSeq ∧ v.b = x.bytes ∧ v.stage = 0
              ∧ v.status = wbCheck x.s o x.bytes (nsRec x.s (wbNs x.bytes % 1024))))
    ∧ (Rings s fn o → n < 65536 → tail < 65536 → nqOf c n = none → exec (.dbSq fn 8 (n * 2 ^ 32 + tail)) s
        = becomes s (odInc c 0x11050 (fnLink c fn + 1)))

/-- Waybills (16 R418, R419, R423, R426): an admitted one whose turn it is goes to its back end as an NVMe command at its place,
a write with its data, on an XTS namespace encrypted; DEALLOCATE and WRITE_ZEROES there write encrypted zeros; a failed
check or a back end not READY stops it. -/
def Sys2Proof.Claim.WaybillStarts : Prop :=
  ∀ (s : State) (n seq : Nat) (w : Wb) (x : Xfer) (mismatch : Bool), wbOf s.chip n seq = some w → w.stage = 1 →
    (wbOrdered w.b = true → wbFirst s.chip n seq = true) →
    let c := s.chip
    let rows : List (Nat × Instr) := [(1, .waybillRead n seq), (2, .waybillWrite n seq mismatch), (3, .flush n seq),
      (4, .deallocate n seq mismatch), (5, .writeZeroes n seq mismatch), (8, .loadToTier n seq)]
    let issued (y : Chip) (cmd : Nat) (data : Bytes) (b : Chip) : Prop :=
      b.out = y.out ++ [.nvme (nsBack w.ns) cmd
        (slice w.ns 4 4 ++ leBytes 8 (fld w.ns 8 8 + wbLba w.b) ++ leBytes 4 (wbBlocks w.b) ++ data)]
      ∧ (wbOf y n seq = some w → wbOf b n seq = some { w with stage := 2, since := nowNs y })
    let sent (i : Instr) (cmd : Nat) (data : Bytes) : Prop := ∃ b, exec i s = becomes s b ∧ issued c cmd data b
    let zero := zeros (wbBytes w)
    (∀ r ∈ rows, r.1 ≠ wbOp w.b → exec r.2 s = becomes s c)
    ∧ (∀ r ∈ rows, r.1 = wbOp w.b → backReady c (nsBack w.ns) = false → exec r.2 s = becomes s (wbStop c n w 15))
    ∧ (∀ r ∈ rows, r.1 = wbOp w.b → backReady c (nsBack w.ns) = true → nsXts w.ns = true → r.1 ≠ 3 → wbKey c w.ns ≠ 0 →
        exec r.2 s = becomes s (wbStop c n w (wbKey c w.ns)))
    ∧ (backReady c (nsBack w.ns) = true → (nsXts w.ns = true → wbKey c w.ns = 0) →
        (wbOp w.b = 1 → sent (.waybillRead n seq) 0x02 [])
        ∧ (wbOp w.b = 8 → sent (.loadToTier n seq) 0x02 [])
        ∧ (wbOp w.b = 3 → sent (.flush n seq) 0x00 [])
        ∧ (wbOp w.b = 4 → nsXts w.ns = false → sent (.deallocate n seq mismatch) 0x09 [])
        ∧ (wbOp w.b = 5 → nsXts w.ns = false → sent (.writeZeroes n seq mismatch) 0x08 [])
        ∧ (wbOp w.b = 4 → nsXts w.ns = true → sent (.deallocate n seq false) 0x01 (wbXts c w.ns true (wbLba w.b) zero)
            ∧ exec (.deallocate n seq true) s = becomes s (wbStop c n w 12))
        ∧ (wbOp w.b = 5 → nsXts w.ns = true → sent (.writeZeroes n seq false) 0x01 (wbXts c w.ns true (wbLba w.b) zero)
            ∧ exec (.writeZeroes n seq true) s = becomes s (wbStop c n w 12))
        ∧ (wbOp w.b = 2 → x = segRead c (wbAgent c n) (wbHint w.b) (wbSegs w) →
            (x.st = 0 → nsXts w.ns = false → ∃ b, exec (.waybillWrite n seq mismatch) s = becomes s b
                ∧ issued x.s 0x01 x.bytes b)
            ∧ (x.st = 0 → nsXts w.ns = true → exec (.waybillWrite n seq true) s = becomes s (wbStop x.s n w 12))
            ∧ (x.st = 1 → exec (.waybillWrite n seq mismatch) s = becomes s (wbStop x.s n w 4))))

/-- The end of a waybill (16 R416, R421, R424): a stopped one completes with its status; one whose back end fails, with status
6 and NVMe's; a write that succeeds is counted, leaves its queue, and its completion takes the next place of the ring. -/
def Sys2Proof.Claim.WaybillEnds : Prop :=
  ∀ (s : State) (n seq nv energy : Nat) (w : Wb) (q : NativeQ) (r : Cq) (data : Bytes) (bad : Option Nat),
    wbOf s.chip n seq = some w → (wbOrdered w.b = true → wbFirst s.chip n seq = true) →
    let c := s.chip
    let row : Instr := .waybillComplete n seq nv data bad energy
    (w.stage = 3 → exec row s = becomes s (wbEnd c n w energy false))
    ∧ (w.stage = 2 → backReady c (nsBack w.ns) = true →
        (nv ≠ 0 → exec row s = becomes s (wbEnd c n { w with status := 6, detail := nv % 65536 } energy true))
        ∧ (nv = 0 → wbOp w.b = 3 → exec row s = becomes s (wbEnd c n { w with status := 0, bytes := 0 } energy true))
        ∧ (nv = 0 → wbOp w.b = 1 → exec row s = becomes s (
            let d := wbDeliver c n w data bad
            wbEnd (wbMoved d.2.2 (nqOwner c n) 2 d.2.1) n { w with status := d.1, bytes := d.2.1 } energy true))
        ∧ (nv = 0 → wbOp w.b = 2 → nsXts w.ns = false → nqOf c n = some q → q.wbs = [w] → q.head = q.tail → q.freed = false →
            w.src = 0 → w.adm = 0 → fld w.b 28 2 = 0xFFFF → q.owner = 0xFD → cqOf c q.cq = some r → cqFull r = false →
            r.owner = 0xFD → ∃ b, exec row s = becomes s b
              ∧ (nqOf b n).map (fun q => q.wbs) = some []
              ∧ cqOf b q.cq = some { r with prod := idxNext r.prod, armed := false }
              ∧ odN b 0x30050 1 = (odN c 0x30050 1 + 1) % 2 ^ 64
              ∧ odN b 0x30050 3 = (odN c 0x30050 3 + wbBytes w) % 2 ^ 64
              ∧ odN b 0x30050 4 = odN c 0x30050 4))

/-- Back ends (16 R427 to R429, 11 R311 to R313): a controller that has initialised is READY, its namespaces are again, or
FAILED; a command past OD 30.020 is aborted, and 1,000 ms later the controller is reset; removal, stray accesses and error
reports; remote targets are attached, come up, keep alive, are detached and go down, their commands ending in PATH_ERROR.
Readings and choices of the model in it: log entries 13, 58, 59, 87. -/
def Obligations.BackEndStates : Prop :=
  ∀ (s : State) (rq : Rq) (arg : Bytes) (p i n seq t : Nat) (w : Wb) (ns : List (Nat × Nat × Nat)) (zeroes kato : Bool),
    p < 8 → i < 16 →
    let c := s.chip
    let now := nowNs c
    let back (y : Chip) (be : Nat) (b : BackEnd) : Chip := { y with storage := { y.storage with backs := tput y.storage.backs be b } }
    let restored (y b : Chip) (be : Nat) : Prop := ∀ k, k < 1024 → bit (nsFlags (nsRec y k)) 0 = true → nsBack (nsRec y k) = be →
      (nsState y k = 2 ∨ nsState y k = 0) → nsState b k = (if backHas y (nsRec y k) then 2 else 3)
    let rec_ := odB c 0x30030 (i + 1)
    (odN c 0x30022 (p + 1) = 1 → ssdState c p = 2 →
        (exec (.ssdInitDone p ns false zeroes) s = becomes s (odSet c 0x30022 (p + 1) 3))
        ∧ ∃ b, exec (.ssdInitDone p ns true zeroes) s = becomes s b ∧ odN b 0x30022 (p + 1) = 2
            ∧ backOf b p = ⟨ns, zeroes, 0⟩
            ∧ restored (back (odSet c 0x30022 (p + 1) 2) p ⟨ns, zeroes, 0⟩) b p)
    ∧ (wbOf c n seq = some w → w.stage = 2 → nsBack w.ns = p → w.abortAt = none → w.since + 1000000 * odN c 0x30020 0 ≤ now →
        ∃ b, exec (.ssdTimeout n seq) s = becomes s (raise b ⟨0x3001, 1⟩ (4 + p + seq % 65536 * 256))
          ∧ wbOf b n seq = some { w with abortAt := some now }
          ∧ b.out = c.out ++ [.nvme p 0x108 (leBytes 2 (seq % 65536))]
          ∧ odN b 0x30050 5 = (odN c 0x30050 5 + 1) % 2 ^ 64)
    ∧ (wbOf c n seq = some w → w.stage = 2 → w.abortAt = some t → t + 1000000000 ≤ now → nsBack w.ns = p →
        exec (.ssdAbortTimeout n seq) s
          = becomes s (odSet (failBack (wbEnd c n { w with status := 8 } 0 true) p 7) 0x30022 (p + 1) 1))
    ∧ ((ssdState c p = 2 ∨ ssdState c p = 3) → exec (.ssdRemoved p) s = becomes s (raise (failBack (odSet (odSet
          (odInc (drivePerst c (4 + p) false) 0x11060 (4 + p + 1)) 0x11021 (p + 1) 0) 0x30022 (p + 1) 0) p 7) ⟨0x1104, 1⟩ (4 + p)))
    ∧ (ssdState c p = 2 → exec (.ssdStrayDma p) s
          = becomes s (raise (odInc { c with out := c.out ++ [.unsupported (4 + p)] } 0x11052 (p + 1)) ⟨0x1105, 1⟩ (4 + p))
        ∧ exec (.ssdErrorReport p 0 []) s = becomes s (odInc c 0x11040 (4 + p + 1))
        ∧ exec (.ssdErrorReport p 2 []) s = becomes s (odSet (failBack c p 7) 0x30022 (p + 1) 1)
        ∧ (wbOf c n seq = some w → w.stage = 2 → nsBack w.ns = p → exec (.ssdErrorReport p 1 [(n, seq)]) s
            = becomes s (wbEnd c n { w with status := 6 } 0 true)))
    ∧ (Accepted s rq 0x30031 arg → leNat arg = i →
        (remoteState c i ≠ 0 → exec (.remoteAttach rq arg) s = refuses s rq 6 c)
        ∧ (remoteState c i = 0 → 0 < fld rec_ 8 1 → fld rec_ 8 1 ≤ 16 →
            (remoteQps c i).all (fun q => (qpOf c q).state == 3 && (qpOf c q).plat == 0xFD) = true → ∃ b,
              exec (.remoteAttach rq arg) s = acks s rq b ∧ remoteState b i = 1 ∧ Keeps c b [(0x30033, i + 1)]
                ∧ b.out = c.out ++ [.nvme (0x10 + i) 0x7F rec_]))
    ∧ (remoteState c i = 1 → ∃ b, exec (.remoteUp i ns) s = becomes s b ∧ remoteState b i = 2
        ∧ backOf b (0x10 + i) = ⟨ns, false, now + keepHalf c i⟩)
    ∧ (Accepted s rq 0x30032 arg → leNat arg = i →
        (remoteState c i = 0 → exec (.remoteDetach rq arg) s = acks s rq c)
        ∧ (remoteState c i ≠ 0 → exec (.remoteDetach rq arg) s = acks s rq
            (failBack (odSet { c with out := c.out ++ [.nvme (0x10 + i) 0x7E []] } 0x30033 (i + 1) 0) (0x10 + i) 7)))
    ∧ (remoteState c i = 2 → (backOf c (0x10 + i)).keepAt ≤ now → ∃ b, exec (.keepAliveTimer i) s = becomes s b
        ∧ (backOf b (0x10 + i)).keepAt = now + keepHalf c i ∧ b.out = c.out ++ [.nvme (0x10 + i) 0x18 []] ∧ Keeps c b [])
    ∧ (remoteState c i ≠ 0 → (kato = true ∨ (remoteQps c i).any (fun q => (qpOf c q).state != 3) = true) →
        exec (.remoteDown i kato) s
          = becomes s (raise (failBack (odSet c 0x30033 (i + 1) 0) (0x10 + i) 7) ⟨0x3006, 3⟩ i))

/-- The emulated NVMe controller, admin commands (16 R430, Table 16-6): queues are created and deleted, with NVMe's status for
what it refuses; Identify, log pages, features, Abort, event requests; CC.EN cleared empties every I/O queue. -/
def Sys2Proof.Claim.NvmeAdmin : Prop :=
  ∀ (s : State) (p : Nat) (e page d : Bytes) (y : Chip) (q : NvQueue) (nq : NativeQ), nvOn s.chip p = true →
    let c := s.chip
    let t := nvCtl c p
    let id := nvDw e 10 % 65536
    let size := nvDw e 10 / 65536
    let done (b : Chip) (status : Nat) : Host.Outcome State Fault Refusal := becomes s (nvAdmin b p e 0 status)
    let set (u : NvCtl) : Chip := { c with storage := { c.storage with ctls := tput c.storage.ctls p u } }
    (0 < id → id ≤ nvQueues c p → 0 < size → size ≤ 1023 → bit (nvDw e 11) 0 = true → fld e 24 8 % 4096 = 0 →
        (tget? t.cqs id = none → bit (nvDw e 11) 1 = true → nvDw e 11 / 65536 < 128 → exec (.nvmeCreateIoCq p e) s
            = done (set { t with cqs := tput t.cqs id ⟨size + 1, fld e 24 8, nvDw e 11 / 65536, 0, 0⟩ }) 0)
        ∧ (tget? t.sqs id = none → tget? t.cqs (nvDw e 11 / 65536) = some q → exec (.nvmeCreateIoSq p e) s
            = done (set { t with sqs := tput t.sqs id ⟨size + 1, fld e 24 8, nvDw e 11 / 65536, 0, 0⟩ }) 0)
        ∧ (tget? t.sqs id = none → tget? t.cqs (nvDw e 11 / 65536) = none → exec (.nvmeCreateIoSq p e) s = done c 0x100))
    ∧ (id = 0 ∨ nvQueues c p < id → exec (.nvmeCreateIoCq p e) s = done c 0x101 ∧ exec (.nvmeCreateIoSq p e) s = done c 0x101)
    ∧ (tget? t.sqs id = some q → ∃ b, exec (.nvmeDeleteIoSq p e) s = done b 0 ∧ tget? (nvCtl b p).sqs id = none)
    ∧ (tget? t.sqs id = none → exec (.nvmeDeleteIoSq p e) s = done c 0x101)
    ∧ (tget? t.cqs id = some q →
        (t.sqs.any (fun q => q.2.link == id) = false → exec (.nvmeDeleteIoCq p e) s = done (set { t with cqs := tdel t.cqs id }) 0)
        ∧ (t.sqs.any (fun q => q.2.link == id) = true → exec (.nvmeDeleteIoCq p e) s = done c 0x10C))
    ∧ (nvIdentify c p e = (some d, y) → exec (.nvmeIdentify p e) s
        = becomes s (let x := nvData y p e d; nvAdmin x.2 p e 0 x.1))
    ∧ (3 < nvDw e 10 % 256 → exec (.nvmeIdentify p e) s = done c 0x02)
    ∧ (∀ k, nvDw e 10 % 256 = 0 → nvSpace c p (nvNsid e) = some k → nvIdentify c p e = (some d, y) →
        fld d 0 8 = nsBlocks (nsRec c k) ∧ fld d 128 4 = fld (nsRec c k) 2 1 * 65536)
    ∧ (nvDw e 10 % 256 = 1 → nvDw e 10 / 65536 = 127 → nvDw e 11 % 65536 = 0 → exec (.nvmeGetLogPage p e page) s
        = becomes s (let x := nvData c p e (slice page 0 512); nvAdmin x.2 p e 0 x.1))
    ∧ ((nvDw e 10 % 256 = 0 ∨ 3 < nvDw e 10 % 256) → exec (.nvmeGetLogPage p e page) s = done c 0x02)
    ∧ (nvDw e 10 % 256 = 7 → exec (.nvmeGetFeatures p e) s = becomes s (nvAdmin c p e ((nvQueues c p - 1) * 65537) 0))
    ∧ (nvDw e 10 % 256 = 0x0B → exec (.nvmeSetFeatures p e) s = done (set { t with
        features := tput t.features 0x0B (nvDw e 11) }) 0)
    ∧ (nvDw e 10 % 256 = 6 → exec (.nvmeSetFeatures p e) s = done c 0x02)
    ∧ (nqOf c (nvNative c p id) = none → exec (.nvmeAbort p e) s = becomes s (nvAdmin c p e 1 0))
    ∧ exec (.nvmeAsyncEventRequest p e) s = becomes s (set { t with asyncs := t.asyncs ++ [nvCid e] })
    ∧ exec (.nvmeUnsupported p 0 e) s = done c (if nvAdminOps.contains (nvOp e) then 0x02 else 0x01)
    ∧ (∃ b, exec (.nvmeCcEnClear p) s = becomes s b ∧ tget? b.storage.ctls p = none
        ∧ (∀ k, k < nvQueues c p → nqOf c (nvNative c p (k + 1)) = some nq →
            nqOf b (nvNative c p (k + 1)) = some { nq with wbs := [] }))

/-- The emulated NVMe controller, I/O commands (16 R430): each is fetched, and becomes a waybill of its native queue, one for
every range of a deallocation; one for a namespace that is not there, or that is not supported, completes with its status. -/
def Sys2Proof.Claim.NvmeIo : Prop :=
  ∀ (s : State) (p k j : Nat) (e : Bytes) (q : NvQueue) (nq : NativeQ), nvOn s.chip p = true →
    let c := s.chip
    let n := nvNative c p k
    let y := setNvCtl c p { nvCtl c p with sqs := tput (nvCtl c p).sqs k { q with head := (q.head + 1) % q.size } }
    tget? (nvCtl c p).sqs k = some q → nqOf c n = some nq → nq.wbs.length < 256 → fld e 1 1 = 0 →
    let ends (i : Instr) (status : Nat) : Prop := exec i s = becomes s (nvComplete y p k (nvCid e) 0 status)
    let pushed (i : Instr) (op lba blocks : Nat) : Prop := ∃ b w, exec i s = becomes s b
      ∧ nqOf b n = some { nq with nextSeq := nq.nextSeq + 1, wbs := nq.wbs ++ [w] }
      ∧ w.seq = nq.nextSeq ∧ w.src = 2 ∧ w.ref = k * 65536 + nvCid e ∧ w.stage = 0
      ∧ wbOp w.b = op ∧ wbNs w.b = j ∧ wbLba w.b = lba ∧ wbBlocks w.b = blocks ∧ wbOrdered w.b = false
    let lba := fld e 40 8
    let blocks := nvDw e 12 % 65536 + 1
    (nvSpace y p (nvNsid e) = none → ends (.nvmeRead p k e) 0x0B ∧ ends (.nvmeWrite p k e) 0x0B ∧ ends (.nvmeFlush p k e) 0x0B
        ∧ ends (.nvmeWriteZeroes p k e) 0x0B ∧ ends (.nvmeDatasetManagement p k e) 0x0B)
    ∧ (nvSpace y p (nvNsid e) = some j →
        exec (.nvmeRead p k e) s = becomes s (nvRw y p k n 1 e) ∧ exec (.nvmeWrite p k e) s = becomes s (nvRw y p k n 2 e)
        ∧ (blocks * nsBlock (nsRec c j) ≤ 4096 → pushed (.nvmeRead p k e) 1 lba blocks ∧ pushed (.nvmeWrite p k e) 2 lba blocks)
        ∧ pushed (.nvmeFlush p k e) 3 0 0 ∧ pushed (.nvmeWriteZeroes p k e) 5 lba blocks
        ∧ (bit (nvDw e 11) 2 = false → ends (.nvmeDatasetManagement p k e) 0)
        ∧ (∀ x, bit (nvDw e 11) 2 = true → nvDw e 10 % 256 = 0 → x = segRead y (.plat p) 0 (prpRuns y p e 16).1 →
            (prpRuns y p e 16).2 = y → x.st = 0 → x.s.storage = y.storage →
            pushed (.nvmeDatasetManagement p k e) 4 (fld x.bytes 8 8) (fld x.bytes 4 4)))
    ∧ (0 < k → [0, 1, 2, 8, 9].contains (nvOp e) = false → ends (.nvmeUnsupported p k e) 0x01)


/-! ## Cipher engine, arrays, dispatch, frame decode -/

/-- Issue of a cipher request (17 R438, R441, R445, R448): one that fails its own checks or its key's ends there with the
status of the check; one not yet admitted waits; any other goes to the chosen cluster with its key as it stands. -/
def Sys2Proof.Claim.CipherIssue : Prop :=
  ∀ (s : State) (k x : Nat) (e : PqEntry) (rest : List PqEntry), k < 16 → (portQ s.chip k).waiting = e :: rest →
    let c := s.chip
    let ends (st : Nat) : Host.Outcome State Fault Refusal := becomes s (startRun c k e 0xFF [] (some (st, 0)))
    (cipherBad c k e.b ≠ 0 → exec (.cipherIssue k) s = ends (cipherBad c k e.b))
    ∧ (cipherBad c k e.b = 0 → e.adm = 0 → exec (.cipherIssue k) s = becomes s c)
    ∧ (cipherBad c k e.b = 0 → e.adm ≠ 0 →
        (clustersGone c = true → exec (.cipherIssue k) s = ends 15)
        ∧ (clustersGone c = false → pickCluster c = none → exec (.cipherIssue k) s = becomes s c)
        ∧ (clustersGone c = false → pickCluster c = some x →
            (cipherKeyStatus c k e.b ≠ 0 → exec (.cipherIssue k) s = ends (cipherKeyStatus c k e.b))
            ∧ (cipherKeyStatus c k e.b = 0 → authUsed c x + authBytes e.b ≤ 1048576 → ∃ b,
                exec (.cipherIssue k) s = becomes s b
                ∧ b.engines.ciphers = c.engines.ciphers
                    ++ [⟨e.id, k, e.b, e.adm, x, cSlot e.b, (keySlot c (cSlot e.b)).key, none⟩]
                ∧ (portQ b k).running = (portQ c k).running + 1
                ∧ (∀ y ∈ (portQ b k).waiting, y.id ≠ e.id))))

/-- The seven modes (17 R444 to R447, R451): a request reads its source, and writes what its mode gives: text and tag, tag, text;
a tag that does not match releases nothing and is AUTH_FAILED, a check mismatch releases whole segments only, a source
altered between the passes of a long decryption is SOURCE_CHANGED; a source that cannot be read ends it. -/
def Sys2Proof.Claim.CipherModes : Prop :=
  ∀ (s : State) (id : Nat) (r : CipherRun) (x : Xfer), cipherRun s.chip id = some r → r.done = none → r.cluster < 8 →
    clusterState s.chip r.cluster = 0 → x = cipherRead s.chip r →
    let c := s.chip
    let m := cMode r.b
    let aad := srcAad r x.bytes
    let text := srcText r x.bytes
    let put (v : Bytes) : Xfer := xferWrite x.s (cipherAgent x.s r) (cDst r.b) v (cHint r.b) 0 uCipher Bound.free
    let gives (i : Instr) (v : Bytes) (st : Nat) : Prop := (put v).st = 0 →
      exec i s = becomes s (endRun (put v).s r st (put v).count)
    let rows : List (Nat × Instr) := [(1, .gcmEnc id none), (2, .gcmDec id none none), (3, .gmacGen id none),
      (4, .gmacVer id none), (5, .xtsEnc id none), (6, .xtsDec id none), (7, .ctr id none)]
    let ct := gcmText r.key (cIv r.b) text
    let good := gcmTag r.key (cIv r.b) aad text = srcTag r x.bytes
    (∀ p ∈ rows, p.1 ≠ m → exec p.2 s = becomes s c)
    ∧ (x.st = 1 → ∀ p ∈ rows, p.1 = m → exec p.2 s = becomes s (endRun x.s r 3 0))
    ∧ (x.st = 0 →
        (m = 1 → gives (.gcmEnc id none) (ct ++ gcmTag r.key (cIv r.b) aad ct) 0)
        ∧ (∀ n pair, m = 1 → (put (ct.take (4096 * n))).st = 0 → exec (.gcmEnc id (some (n, pair))) s
            = becomes s (cipherMismatch (endRun (put (ct.take (4096 * n))).s r 10 (put (ct.take (4096 * n))).count) r pair))
        ∧ (∀ o, m = 2 → let w := if cLen r.b ≤ 1048576 then x.bytes else (o.map (slice · 0 (srcBytes r.b))).getD x.bytes
            let same := gcmHash r.key (srcAad r w) (srcText r w) = gcmHash r.key aad text
            let y := put (gcmText r.key (cIv r.b) (srcText r w) ++ [])
            y.st = 0 → exec (.gcmDec id none o) s
              = becomes s (if good then endRun y.s r (if same then 0 else 11) y.count else endRun x.s r 9 0))
        ∧ (m = 3 → gives (.gmacGen id none) ([] ++ gcmTag r.key (cIv r.b) aad []) 0)
        ∧ (m = 4 → exec (.gmacVer id none) s
            = becomes s (endRun x.s r (if gcmTag r.key (cIv r.b) aad [] = srcTag r x.bytes then 0 else 9) 0))
        ∧ (m = 5 → gives (.xtsEnc id none) (aesXts true r.key (cAux r.b) (leNat (cIv r.b)) x.bytes ++ []) 0)
        ∧ (m = 6 → gives (.xtsDec id none) (aesXts false r.key (cAux r.b) (leNat (cIv r.b)) x.bytes ++ []) 0)
        ∧ (m = 7 → gives (.ctr id none) (aesCtr r.key (cIv r.b) x.bytes ++ []) 0))

/-- The end of a cipher request and the gate of a cluster (17 R436, R439, R442): the completion takes the lowest free slot, and
counts; a halt takes a cluster out of service, deferred while it is leased; a resume returns it. -/
def Sys2Proof.Claim.CipherEnds : Prop :=
  ∀ (s : State) (id st n v : Nat) (r : CipherRun) (rq : Rq) (arg : Bytes),
    let c := s.chip
    let q := portQ c r.queue
    (cipherRun c id = some r → r.done = some (st, n) → st = 0 → cSignal r.b = 0xFFFF → ∃ b,
        exec (.cipherComplete id) s = becomes s b ∧ cipherRun b id = none
          ∧ (portQ b r.queue).running = q.running - 1 ∧ (portQ b r.queue).ready = q.ready ++ [freeSlot q.ready q.popped]
          ∧ odN b 0x31050 1 = (odN c 0x31050 1 + 1) % 2 ^ 64 ∧ odN b 0x31050 2 = (odN c 0x31050 2 + n) % 2 ^ 64)
    ∧ (Accepted s rq 0x31042 arg → leNat arg = 128 + v → v < 8 →
        (clusterState c v = 0 → clusterLeased c v = false → ∃ b, exec (.clusterHalt rq arg) s = acks s rq b
            ∧ clusterState b v = 2 ∧ (b.engines.ciphers.filter (fun r => r.cluster == v && r.done.isNone)) = [])
        ∧ (clusterState c v = 0 → clusterLeased c v = true → ∃ b, exec (.clusterHalt rq arg) s = refuses s rq 7 b
            ∧ clusterState b v = 1 ∧ b.sec.deferred = c.sec.deferred ++ [⟨1, v, 0xE000 + v, nowNs c⟩]
            ∧ odN b 0x04042 0 = (odN c 0x04042 0 + 1) % 2 ^ 32)
        ∧ (clusterState c v = 3 → exec (.clusterHalt rq arg) s = refuses s rq 0x0B c))
    ∧ (Accepted s rq 0x31042 arg → leNat arg = v → v < 8 →
        (clusterState c v = 1 ∨ clusterState c v = 2 → ∃ b, exec (.clusterResume rq arg) s = acks s rq b
            ∧ clusterState b v = 0 ∧ Keeps c b [(0x31040, v + 1)])
        ∧ (clusterState c v = 0 → exec (.clusterResume rq arg) s = acks s rq c)
        ∧ (clusterState c v = 3 → exec (.clusterResume rq arg) s = refuses s rq 0x0B c))

/-- Array and vector jobs (18 R471, R476, R477, Tables 18-4, 18-5): the row of an issued job's OP, and no other, runs it: on a
free unit of its die, shown busy, with the result of the operation; without a free unit it waits; with every unit retired
it ends UNIT_RETIRED; an element's integer accumulator saturates at 32 bits.
Readings and choices of the model in it: log entries 10, 56, 57. -/
def Obligations.ArrayJobsRun : Prop :=
  ∀ (s : State) (d id u : Nat) (j : DqJob), dqJob s.chip d id = some j → j.done = none → dqDie d ≠ 0 →
    let c := s.chip
    let die := dqDie d
    let rows : List (Nat × Instr) := [(0x01, .matmul d id), (0x10, .vecAdd d id), (0x11, .vecMul d id), (0x12, .vecMax d id),
      (0x13, .vecMin d id), (0x14, .scaleBias d id), (0x18, .convert d id), (0x19, .requant d id), (0x1A, .vecCopy d id),
      (0x20, .relu d id), (0x21, .gelu d id), (0x22, .silu d id), (0x23, .sigmoid d id), (0x24, .tanh d id), (0x25, .exp d id),
      (0x26, .recip d id), (0x27, .rsqrt d id), (0x30, .rowSum d id), (0x31, .rowMax d id), (0x32, .rowArgmax d id),
      (0x33, .softmax d id), (0x34, .logsumexp d id), (0x35, .layernorm d id), (0x36, .rmsnorm d id), (0x37, .topk d id)]
    let x := if jOp j.b = 1 then matRun c d die u j.b else vecRun c d die j.b
    (∀ p ∈ rows, p.1 ≠ jOp j.b → exec p.2 s = becomes s c)
    ∧ (unitsRetired c die j.b = true → ∀ p ∈ rows, p.1 = jOp j.b →
        exec p.2 s = becomes s (setDqJob c d { j with done := some ⟨5, 0, 0, 0⟩ }))
    ∧ (unitsRetired c die j.b = false → pickUnit c die j.b = none → ∀ p ∈ rows, p.1 = jOp j.b → exec p.2 s = becomes s c)
    ∧ (unitsRetired c die j.b = false → pickUnit c die j.b = some u → x.2.disp = c.disp → die ≤ 4 → u ≤ 4 →
        ∀ p ∈ rows, p.1 = jOp j.b → ∃ b, exec p.2 s = becomes s b
          ∧ dqJob b d id = some { j with unit := u, done := some x.1 } ∧ arrayState b die u = 2 ∧ b.mem = x.2.mem
          ∧ Keeps x.2 b [(0x50005, die), (0x50001, 4 * (die - 1) + u + 1)])
    ∧ (∀ n l (z : Int) sat, -2147483648 ≤ z → z ≤ 2147483647 →
        -2147483648 ≤ (accInt n (z, sat) l).1 ∧ (accInt n (z, sat) l).1 ≤ 2147483647)

/-- Control entries (19 R491, Table 19-2): a WAIT is released when its condition holds, and leaves the queue then; BARRIER and ADD
wait for every running job, ADD then adds; a malformed one is BAD_CONTROL, and the queue is in ERROR. -/
def Sys2Proof.Claim.ControlEntries : Prop :=
  ∀ (s : State) (d : Nat) (e : DqEntry), dqHead s.chip d = some e →
    let c := s.chip
    let q := dqOf c d
    let op := fld e.b 0 1
    let fine := controlBad c d e.b = false
    let rows : List (Nat × Instr) := [(0xF0, .dqWait d), (0xF0, .dqWaitRelease d), (0xF1, .dqBarrier d), (0xF2, .dqAdd d)]
    (∀ p ∈ rows, p.1 ≠ op → exec p.2 s = becomes s c)
    ∧ (controlBad c d e.b = true → ∀ p ∈ rows, p.1 = op → exec p.2 s = becomes s (badControl c d e.b))
    ∧ (fine → op = 0xF0 → e.released = false →
        (waitMet c e.b = true → exec (.dqWait d) s
            = becomes s (setDq c d { q with entries := { e with released := true } :: q.entries.drop 1 }))
        ∧ (waitMet c e.b = false → exec (.dqWait d) s = becomes s (odSet c (0x51060 + d / 16) (d % 16 + 1) 2))
        ∧ exec (.dqWaitRelease d) s = becomes s c)
    ∧ (fine → op = 0xF0 → e.released = true → e.trig = none → exec (.dqWaitRelease d) s
        = becomes s (dqIssue (dqRunning (setDq c d { q with entries := q.entries.drop 1 }) d) d))
    ∧ (fine → op = 0xF1 →
        (q.running = [] → exec (.dqBarrier d) s = becomes s (setDq c d { q with entries := q.entries.drop 1 }))
        ∧ (q.running ≠ [] → exec (.dqBarrier d) s = becomes s c))
    ∧ (fine → op = 0xF2 →
        (q.running = [] → exec (.dqAdd d) s = becomes s
            (sigAdd (setDq c d { q with entries := q.entries.drop 1 }) (dqSigAgent c d e.b) (fld e.b 4 2) (fld e.b 8 8)))
        ∧ (q.running ≠ [] → exec (.dqAdd d) s = becomes s c))

/-- Issue, completion, flush, doorbells, triggers and coupled signals (19 R488 to R499): a head that may issue becomes a running
job, a bad one ended INVALID; an ended job leaves with its completion and its unit's counters; a flush completes every
entry; a firing pushes the chain of its trigger and counts; what a coupling held back is sent. -/
def Sys2Proof.Claim.Dispatch : Prop :=
  ∀ (s : State) (d id t steps energy idx fn o r : Nat) (e : DqEntry) (j : DqJob) (z : DqDone) (rq : Rq) (arg : Bytes) (x : Xfer),
    let c := s.chip
    let q := dqOf c d
    let die := dqDie d
    let issued (b : Chip) (done : Option DqDone) : Prop := dqOf b d = { q with
      entries := q.entries.drop 1, running := q.running ++ [⟨c.disp.nextJob, e.b, e.adm, 0xFF, done⟩] }
    let rec_ := trigRec c t
    let qd := trigDq t rec_
    (mayIssue c d = false → exec (.dqIssue d) s = becomes s c)
    ∧ (dqHead c d = some e → mayIssue c d = true → dqTarget c d = 0 →
        (entryBad c d e.b = true → ∃ b, exec (.dqIssue d) s = becomes s b ∧ issued b (some ⟨1, 0, 0, 0⟩))
        ∧ (entryBad c d e.b = false → dieLit c (die - 1) = true → servingAhead c d = false → ∃ b,
            exec (.dqIssue d) s = becomes s b ∧ issued b none))
    ∧ (dqJob c d id = some j → j.done = some z → die ≠ 0 →
        exec (.jobComplete d id false steps energy) s
          = becomes s (dqFinish (arrayStats (freeUnit c die j.unit) die j z) d j z j.unit steps energy)
        ∧ (dqMode c d = 1 → jSignal j.b = 0xFFFF → dqTarget c d = 0 → ∃ b,
            exec (.jobComplete d id false steps energy) s = becomes s b ∧ dqJob b d id = none
              ∧ (dqOf b d).ready = q.ready ++ [freeSlot q.ready q.popped])
        ∧ (j.unit ≤ 4 → ∃ y, y = recordError (raiseU c ⟨0x5000, 3⟩ (jobUnit die j.unit)
              (if j.unit = 4 then 15 + die else 4 * (die - 1) + j.unit)) 3 3 (jobUnit die j.unit) 0 (platBit (jPlat j.b)) 0
            ∧ exec (.jobComplete d id true steps energy) s = becomes s (dqFinish
                (arrayStats (freeUnit y die j.unit) die j { z with status := 4 }) d j { z with status := 4 } j.unit steps energy)))
    ∧ (Accepted s rq 0x51050 arg → leNat arg = d →
        (d < 192 → dqMode c d ≠ 0 → ∃ b, exec (.dqFlush rq arg) s = acks s rq b ∧ dqState b d = 1
            ∧ b = odSet (dqFlushAll c d) (0x51060 + d / 16) (d % 16 + 1) 1)
        ∧ (d < 192 → dqMode c d = 0 → exec (.dqFlush rq arg) s = acks s rq c)
        ∧ (192 ≤ d → exec (.dqFlush rq arg) s = refuses s rq 5 c))
    ∧ (Rings s fn o → d < 192 → idx < 65536 → dqMode c d = 2 → dqOwner c d = o →
        (idx = q.cons → exec (.dbDispatch fn 8 (d * 2 ^ 32 + idx)) s = becomes s (setDq c d { q with prod := idx }))
        ∧ (2 ^ dqLog c d < idxSub idx q.cons → exec (.dbDispatch fn 8 (d * 2 ^ 32 + idx)) s = becomes s (dqError c d)))
    ∧ (t < 256 → bit (fld rec_ 0 1) 0 = true → sequencerUp c (t / 64) = true → fld rec_ 1 1 = 0 → trigMet c t rec_ = true →
        dqOutstanding c qd + fld rec_ 40 2 ≤ 64 →
        x = xferRead c (if fld rec_ 2 1 < 64 then .plat (fld rec_ 2 1) else .opn) (fld rec_ 32 8) (64 * fld rec_ 40 2) 0
          (t / 64 + 1) uDispatch Bound.free →
        (x.st = 0 → x.s.disp = c.disp → dqState x.s qd ≠ 3 → ∃ b, exec (.triggerFiring t) s = becomes s b
            ∧ (dqOf b qd).entries = (dqOf c qd).entries
                ++ (chain rec_ (fld rec_ 48 8 + tget 0 c.disp.queued t) x.bytes).map (fun v => ⟨v, 0, false, none⟩)
            ∧ fld (trigRec b t) 48 8 = (fld (trigRec x.s t) 48 8 + 1) % 256 ^ 8)
        ∧ (x.st ≠ 0 → exec (.triggerFiring t) s = becomes s
            (raiseP (trigDisable x.s t) ⟨0x5101, 1⟩ (fld rec_ 2 1) (256 * (t / 64) + t % 64))))
    ∧ (r < 256 → bit (couple c r 2 1) 0 = true → bit (couple c r 2 1) 1 = false → 0 < couple c r 8 8 →
        couple c r 8 8 < 2 ^ 32 → routeUp c (couple c r 3 1) = true → exec (.pendingFlush r) s
          = becomes s (odSetFld (sendAdd c (couple c r 3 1) 0xFF (couple c r 4 2) (couple c r 8 8))
              (0x51300 + r / 16) (r % 16 + 1) 8 8 0))

/-- Frame decode (20 R506, R507, R510 to R514, Table 20-7): an issued job's engine reads its stream; a selected frame in order
gives its tensor and its record, an empty crop a record of reason 4; the end writes the header, frees the engine, and the
status says what was written.
Readings and choices of the model in it: log entries 12, 13, 68. -/
def Obligations.FrameDecodeTensors : Prop :=
  ∀ (s : State) (d id n w h m r0 recon steps energy : Nat) (key grain ten : Bool) (j : DqJob) (r : DecRun) (x y : Xfer),
    let c := s.chip
    dqJob c d id = some j → decRun c d id = some r → j.done = none →
    let crop := cropOf r.profile w h
    let slot := dDst j.b + r.recs * dStride j.b
    let place := dMeta j.b + 16 + 16 * r.recs
    let row (reason : Nat) : Instr := .frameRecord d id n w h key grain ten reason m r0
    let flags := b2n key + 2 * b2n grain + 4 * b2n ten
    (r.read = false → x = xferRead c (decodeAgent c d j.b) (dSrc j.b).1 (dSrc j.b).2 0 0 (decodeUnit r.engine) ⟨0, 2 ^ 64, .tiers⟩ →
        exec (.decode d id) s
          = becomes s (setDecRun x.s { r with stream := x.bytes, read := true, fail := xferStatus x.st }))
    ∧ (r.read = true → exec (.decode d id) s = becomes s c)
    ∧ ((r.read = false ∨ selects j.b n key = false ∨ dMax j.b ≤ r.recs) → exec (row 0) s = becomes s c)
    ∧ (r.read = true → selects j.b n key = true → r.recs < dMax j.b → r.lastFrame = none →
        (0 < crop.2.2.1 → 0 < crop.2.2.2 →
          x = decodeWrite c d j.b r.engine slot (tensor j.b r.profile r.stream n (colourOf c r.profile m r0) crop) →
          (x.st = 0 → y = decodeWrite x.s d j.b r.engine place (frameRecord n 0 flags w h) → y.st = 0 →
            exec (row 0) s = becomes s (addSignal (setDecRun y.s { r with
              recs := r.recs + 1, written := r.written + 1, lastFrame := some n, skips := addSkip r.skips 0 1 })
              (dqSigAgent y.s d j.b) (fld j.b 10 2)))
          ∧ (x.st = 1 → exec (row 0) s = becomes s (setDecRun x.s { r with read := false, fail := 2 })))
        ∧ (crop.2.2.1 = 0 → y = decodeWrite c d j.b r.engine place (frameRecord n 4 flags w h) → y.st = 0 →
            exec (row 0) s = becomes s (addSignal (setDecRun y.s { r with
              recs := r.recs + 1, written := r.written, lastFrame := some n, skips := addSkip r.skips 4 1 })
              (dqSigAgent y.s d j.b) (fld j.b 10 2))))
    ∧ (r.read = true → ∃ b z, decodeEnd c d j r recon [] false = (z, b)
        ∧ exec (.decodeComplete d id recon [] false steps energy) s = becomes s (dqFinish b d j z r.engine steps energy)
        ∧ decRun b d id = none ∧ z.bytes = r.written * tensorBytes j.b r.profile
        ∧ (r.fail = 0 → y = decodeWrite c d j.b r.engine (dMeta j.b) (decodeHeader r recon ((List.range 5).map (fun i =>
            nth r.skips (i + 1)))) → y.st = 0 →
            z.status = if r.written = 0 then 0x12 else if r.written < r.recs then 0x11 else 0))
    ∧ (r.read = false → r.fail = 0 → exec (.decodeComplete d id recon [] false steps energy) s = becomes s c)

/-! ## Serving -/

/-- Serving (21 R518 to R532, 23 R581): tokens make the next step ready; submissions and CLOSE; an OPEN gets a zeroed near
slot; the most urgent step takes a place and is admitted; layers follow one another to the end of the step, or to the pause
point; overrun, output, demotion, promotion, and a member's part.
Readings and choices of the model in it: log entries 71, 75, 76, 80. -/
def Obligations.ServingStepsAndSiding : Prop :=
  ∀ (s : State) (fn p h m i n st tok energy o : Nat) (r v : ServReq) (x w : Xfer) (y z : Chip) (l : Nat) (msg : Bytes),
    let c := s.chip
    let now := nowNs c
    let discarded (i : Instr) : Prop := exec i s = becomes s (odInc c 0x11050 (fnLink c fn + 1))
    let subs (y : Chip) (a b : Nat) : Chip := { y with serv := { y.serv with subs := tput y.serv.subs p (a, b) } }
    let ring := tget (0, 0) c.serv.subs p
    -- DB_TOKEN
    (Rings s fn p → p < 64 → h < 65536 → st < 2 ^ 14 → tok < 2 ^ 18 → ownHandle c p h = true →
        let val := st * 2 ^ 48 + h * 2 ^ 32 + tok
        (reqOf c h = some r → r.phase = 0 → st = r.step % 2 ^ 14 → tok < mVocab (mdl c (qModel r)) →
          exec (.dbTokenToken fn 8 val) s = becomes s (pauseRule (setReq c h { r with
            step := r.step + 1, tokens := [tok], phase := 1, readyAt := now, deadline := deadlineOf c r (r.step + 1)
            pass := 0, layer := 0, adm := 0, blocked := false, marked := false, asked := false, reason := 0, pauses := 0
            waited := 0, pausedAt := now })))
        ∧ (reqOf c h = some r → r.phase ≠ 0 ∨ st ≠ r.step % 2 ^ 14 ∨ mVocab (mdl c (qModel r)) ≤ tok →
          exec (.dbTokenToken fn 8 val) s = becomes s (odAdd64 c (0x53080 + p) 5 1))
        ∧ (reqOf c h = none → exec (.dbTokenToken fn 8 val) s = becomes s (odAdd64 c (0x53080 + p) 5 1)))
    ∧ (Rings s fn p → p < 64 → h < 65536 → ownHandle c p h = false → discarded (.dbTokenToken fn 8 (h * 2 ^ 32))
        ∧ discarded (.dbTokenClose fn 8 (2 ^ 63 + h * 2 ^ 32)))
    ∧ (Rings s fn p → p < 64 → n < 65536 →
        (idxSub n ring.2 ≤ 2 ^ fld (servRec c p) 4 1 → exec (.dbTokenSubmit fn 8 (2 ^ 62 + n)) s = becomes s (subs c n ring.2))
        ∧ (2 ^ fld (servRec c p) 4 1 < idxSub n ring.2 → discarded (.dbTokenSubmit fn 8 (2 ^ 62 + n))))
    ∧ (Rings s fn p → p < 64 → h < 65536 → ownHandle c p h = true →
        (reqOf c h = some r → r.phase = 2 ∨ r.phase = 3 → exec (.dbTokenClose fn 8 (2 ^ 63 + h * 2 ^ 32)) s
          = becomes s (setReq c h { r with closing := true }))
        ∧ (reqOf c h = some r → r.phase = 0 → r.reserved = true → r.pauses = 0 → splitMode c (qModel r) = 0 →
          exec (.dbTokenClose fn 8 (2 ^ 63 + h * 2 ^ 32)) s = becomes s (servComplete (dropReq c h) r 4 4 (admActual c r.adm)))
        ∧ (reqOf c h = none → exec (.dbTokenClose fn 8 (2 ^ 63 + h * 2 ^ 32)) s = becomes s c))
    -- OPEN
    ∧ (p < 64 → ring.1 ≠ ring.2 → platOn c p = true → cqRoom c p ≠ 0 → c.en.admissionStopped = false →
        x = xferRead c (.plat p) (fld (servRec c p) 8 8 + 64 * (ring.2 % 2 ^ fld (servRec c p) 4 1)) 64 0 0 uDispatch Bound.free →
        let b := slice x.bytes 0 64
        let q := reqBlank p b
        let taken (y : Chip) : Chip := subs y (tget (0, 0) y.serv.subs p).1 (idxNext (tget (0, 0) y.serv.subs p).2)
        (x.st = 0 → openBad c p ring.2 b = true → exec (.openReq p) s = becomes s (servComplete (taken x.s) q 0 1 0))
        ∧ (x.st = 0 → openBad c p ring.2 b = false →
          (reqOf c (fld b 4 2) = some r → exec (.openReq p) s = becomes s (servComplete (taken x.s) q 0 2 0))
          ∧ (reqOf c (fld b 4 2) = none → freeSlotOf c p false = none → canDemote c p = false → exec (.openReq p) s
              = becomes s (servComplete (raiseP (taken x.s) ⟨0x5301, 1⟩ p (fld b 4 2)) q 0 3 0))
          ∧ (reqOf c (fld b 4 2) = none → freeSlotOf c p false = some i →
              y = zeroRange (taken x.s) (slotAddr c p false i) (slotSize c p) →
              v = { q with slot := i, reserved := true, readyAt := nowNs y, deadline := deadlineOf y q 0, pausedAt := nowNs y } →
              exec (.openReq p) s = becomes s (pauseRule (serveAll (setReq y (fld b 4 2) v) 3 v i [])))))
    -- a step takes a place
    ∧ (m < 64 → placeFree c m = true → power c ≤ 1 → c.en.admissionStopped = false → c.cons.leaving = none →
        (urgent c m = none → exec (.servingStepStart m) s = becomes s c)
        ∧ (urgent c m = some (h, r) → r.far = false → platOn c r.plat = true → r.reserved = true → r.step ≠ 0 →
          (r.adm ≠ 0 → exec (.servingStepStart m) s = becomes s (stepRun c h r r.adm))
          ∧ (r.adm = 0 → ∀ id,
            (stepAdmit c r = .admitted id y → exec (.servingStepStart m) s = becomes s (stepRun y h r id))
            ∧ (stepAdmit c r = .tooLarge → exec (.servingStepStart m) s = becomes s (setReq c h { r with phase := 4, status := 9 }))
            ∧ (stepAdmit c r = .waits y → r.reason = 0 → exec (.servingStepStart m) s = becomes s (odAdd64 (odAdd64
                (setReq y h { r with blocked := true, reason := 2, pauses := r.pauses + 1, pausedAt := nowNs y }) 0x53021 8 1)
                (0x53080 + r.plat) 4 1))))
        ∧ (urgent c m = some (h, r) → r.far = false → platOn c r.plat = true → r.reserved = true → r.step = 0 → r.tokens = [] →
          x = xferRead c (.plat r.plat) (fld r.b 16 8) (4 * qPrompt r) 0 0 uDispatch Bound.free → x.st = 0 → i < qPrompt r →
          mVocab (mdl c (qModel r)) ≤ fld x.bytes (4 * i) 4 →
          exec (.servingStepStart m) s = becomes s (setReq x.s h { r with tokens := [], phase := 4, status := 1 })))
    -- layers
    ∧ (reqOf c h = some r → r.phase = 2 →
        z = pushLayer (match layerDq c r with | some d => collectJobs c h d | none => c) h → reqOf z h = some v →
        let final := passesOf z v ≤ v.pass + 1 ∧ mLayers (mdl z (qModel v)) ≤ v.layer + 1
        let next := if mLayers (mdl z (qModel v)) ≤ v.layer + 1 then { v with layer := 0, pass := v.pass + 1 }
          else { v with layer := v.layer + 1 }
        let goes (b : Chip) : Prop := exec (.layerBoundary h) s = becomes s (leaveCheck (pauseRule b))
        (v.jobs ≠ [] ∨ v.todo ≠ [] → exec (.layerBoundary h) s = becomes s z)
        ∧ (v.jobs = [] → v.todo = [] → v.lead = none →
          (v.status ≠ 0 → goes (setReq z h { v with phase := 4 }))
          ∧ (v.status = 0 → v.closing = true → goes (closeNow z h v))
          ∧ (v.status = 0 → v.closing = false → final → goes (setReq z h { v with phase := 3, marked := false }))
          ∧ (v.status = 0 → v.closing = false → ¬ final → v.marked = true → v.away = [] → goes (odAdd64 (odAdd64
              (setReq z h { next with phase := 1, marked := false, reason := 1, pauses := v.pauses + 1, readyAt := nowNs z
                                      pausedAt := nowNs z }) 0x53021 2 1) (0x53080 + v.plat) 2 1))
          ∧ (v.status = 0 → v.closing = false → v.marked = false → v.layer + 1 < mLayers (mdl z (qModel v)) →
              goes (layerStart (setReq z h next) h))
          ∧ (v.status = 0 → v.closing = false → v.marked = false → v.layer + 1 = mLayers (mdl z (qModel v)) →
              v.pass + 1 < passesOf z v → goes (passStart (setReq z h next) h))))
    ∧ (reqOf c h = some r → r.phase = 2 →
        (r.overrun = false → r.since + layerNs c r r.layer < now → exec (.layerOverrun h) s = becomes s (raiseP
          (odAdd64 (setReq c h { r with overrun := true }) 0x53021 7 1) ⟨0x5300, 1⟩ r.plat (qModel r + 256 * r.layer)))
        ∧ (now ≤ r.since + layerNs c r r.layer → exec (.layerOverrun h) s = becomes s c))
    -- the pause rule (R528)
    ∧ (placeFree c m = false → urgent c m = some (h, r) → r.deadline ≠ 0 → r.asked = false →
        (r.deadline : Int) - now - estNs c r < us (odFld c 0x53010 (qClass r + 1) 8 4) → victim c m (qClass r) = some (n, v) →
        splitMode c (qModel v) = 0 →
        pauseModel c m = setReq (setReq c n { v with marked := true }) h { r with asked := true })
    -- the end of a step
    ∧ (reqOf c h = some r → r.phase = 4 → r.lead = none →
        exec (.servingStepComplete h energy) s = becomes s (pauseRule (stepEnd c h r r.status energy)))
    ∧ (reqOf c h = some r → r.phase = 3 →
        let a := slotAddr c r.plat false r.slot + mKv (mdl c (qModel r)) + mAct (mdl c (qModel r))
        let vocab := mVocab (mdl c (qModel r))
        x = xferRead c .opn a (4 * vocab) 0 0 uDispatch Bound.free → x.st = 0 →
        w = xferWrite x.s (.plat r.plat) (fld r.b 24 8) (logitsOut r vocab x.bytes) 0 0 uDispatch Bound.free →
        (w.st = 0 → r.deadline = 0 → r.closing = false → r.step + 1 < qMax r → r.pauses = 0 →
          exec (.servingStepComplete h energy) s = becomes s (leaveCheck (pauseRule (servComplete (dropAdm
            (setReq (odAdd64 (odAdd64 w.s 0x53021 1 1) (0x53080 + r.plat) 1 1) h
              { r with phase := 0, adm := 0, reserved := false }) r.adm) r 0 0 energy))))
        ∧ (w.st = 1 → exec (.servingStepComplete h energy) s = becomes s (leaveCheck (pauseRule (stepEnd w.s h r 6 energy)))))
    -- the siding (R532)
    ∧ (p < 64 → nearNeeded c p = true → freeSlotOf c p true = some i →
        leastBy (fun x => (8 - qClass x.2) * 2 ^ 70 + x.2.pausedAt)
          ((platReqs c p).filter (fun r => r.2.reason != 0 && r.2.phase == 1 && !r.2.far && r.2.lead.isNone)) = some (h, r) →
        exec (.slotDemote p) s = becomes s (serveAll (setReq (odAdd64 (copySlot c (slotAddr c r.plat r.far r.slot)
          (slotAddr c r.plat true i) (slotSize c r.plat)) 0x53021 4 1) h { r with far := true, slot := i }) 4 r i []))
    ∧ (p < 64 → nearNeeded c p = false → exec (.slotDemote p) s = becomes s c)
    ∧ (reqOf c h = some r → r.far = true → r.phase = 1 → r.lead = none → freeSlotOf c r.plat false = some i →
        exec (.slotPromote h) s = becomes s (serveAll (setReq (odAdd64 (copySlot c (slotAddr c r.plat true r.slot)
          (slotAddr c r.plat false i) (slotSize c r.plat)) 0x53021 5 1) h { r with far := false, slot := i }) 5 r i []))
    -- members of a split model
    ∧ (c.cons.inbox = [(l, msg)] → fld msg 0 1 = 6 →
        y = giveCredit { c with cons := { c.cons with inbox := [] } } l msg →
        let d := msg.drop 16
        let k := shareKey (msgSrc msg) (fld d 4 2)
        (fld d 0 1 = 7 → exec .msgServe s = becomes s (dropReq y k))
        ∧ (fld d 0 1 = 2 → reqOf y k = some r → r.phase = 2 →
            exec .msgServe s = becomes s (setReq y k { r with marked := true }))
        ∧ (fld d 0 1 = 4 → reqOf y k = some r → exec .msgServe s = becomes s (moveSlot y k r true (fld d 6 2)))
        ∧ (fld d 0 1 = 6 → reqOf y (fld d 4 2) = some r → exec .msgServe s = becomes s (layerBoundary
            (setReq y (fld d 4 2) { r with away := r.away.filter (· != msgSrc msg) }) (fld d 4 2))))
    ∧ (c.cons.inbox.all (fun m => fld m.2 0 1 != 6) = true → exec .msgServe s = becomes s c)

/-! ## Weights, coupling links, the relay engine -/

/-- Weight loads (22 R540 to R546): a manifest is checked, then its bank and the state of the package, and the pieces go out; a
piece that has been read is placed, one that fails ends the load; done, aborted, relayed pieces, receivers that do not
answer.
Readings and choices of the model in it: log entries 13, 71, 77. -/
def Obligations.WeightLoadPieces : Prop :=
  ∀ (s : State) (rq : Rq) (arg : Bytes) (id st o a loadId i : Nat) (acc : List Nat) (relayed : Bool) (data : Bytes) (l : Load)
    (p : Piece) (x w : Xfer) (y z : Chip) (e : Bytes),
    let c := s.chip
    let h := peek c (leNat arg) 64
    let n := min (fld h 8 4) 65537
    let es := (List.range n).map (fun i => peek c (leNat arg + 64 + 64 * i) 64)
    let loads (y : Chip) (l : Option Load) : Chip := { y with weights := { y.weights with load := l } }
    (Accepted s rq 0x54010 arg → inOpenRanges c (leNat arg) 64 = true → inOpenRanges c (leNat arg) (64 + 64 * n) = true →
        (poisoned c (leNat arg) 64 = true → exec (.weightLoad rq arg) s = refuses s rq 5 (loadResult c 1 0 0xFFFF 0))
        ∧ (poisoned c (leNat arg) 64 = false →
          (headerBad h es = true → exec (.weightLoad rq arg) s = refuses s rq 5 (loadResult c 1 0 0xFFFF (lId h)))
          ∧ (headerBad h es = false → firstBad c h es 0 es = some i →
              exec (.weightLoad rq arg) s = refuses s rq 5 (loadResult c 1 0 i (lId h)))
          ∧ (headerBad h es = false → firstBad c h es 0 es = none →
              (loadBusy c h es = true → exec (.weightLoad rq arg) s = refuses s rq 6 c)
              ∧ (loadBusy c h es = false →
                let todo := (es.zip (List.range n)).flatMap (fun x => if readsEntry c h x.1 then entryPieces x.2 x.1 else [])
                y = { c with weights := { c.weights with
                  load := some ⟨c.weights.next, h, es, todo, [], [], relayedBytes c h es, nowNs c⟩
                  next := c.weights.next + 1 } } →
                exec (.weightLoad rq arg) s = acks s rq (pumpLoad
                  (loadResult (odSet (odSet (setBankState y (lBank h) 1) 0x54001 0 1) 0x54002 0 0) 0 0 0 (lId h)))))))
    ∧ (Accepted s rq 0x54011 [] →
        (c.weights.load = none → exec (.weightAbort rq) s = refuses s rq 0x0B c)
        ∧ (c.weights.load = some l → exec (.weightAbort rq) s = acks s rq (loadFail c l 4 7 0 0))
        ∧ (c.weights.load = some l → fld l.hdr 26 2 = 0xFFFF → ∃ b, exec (.weightAbort rq) s = acks s rq b ∧ b.weights.load = none
            ∧ b.weights.flying = c.weights.flying ∧ odN b 0x54001 0 = 4 ∧ odN b 0x54003 0 = 7 + 2 ^ 32 * lId l.hdr
            ∧ odN b 0x54020 2 = (odN c 0x54020 2 + 1) % 2 ^ 64 ∧ (lBank l.hdr < 16 → bankState b (lBank l.hdr) = 3)))
    ∧ (c.weights.flying.find? (fun p => p.id == id) = some p →
        y = jobEnd { c with weights := { c.weights with flying := c.weights.flying.filter (fun x => x.id != id) } } p.adm →
        let at_ := eDst p.entry + p.off
        let placed (x : Xfer) (d : Bytes) : Prop := w = placePiece x.s p.entry at_ d → w.st = 0 →
          exec (.weightPieceComplete id st data acc) s
            = becomes s (pumpLoad (noteAccepted (loads (countPlaced w.s p.len) (some { l with toRelay := l.toRelay ++ [] })) acc))
        (c.weights.load = some l → p.load = l.id → bit (eOrds p.entry) (ownOrd c) = true →
          (st = 0 → lBroadcast l.hdr = false → eSource p.entry = 2 ∨ eSource p.entry = 4 →
            x = xferRead y .opn (eSrc p.entry + p.off) p.len 0 0 uRelay Bound.free →
            (x.st = 0 → placed x x.bytes)
            ∧ (x.st = 1 → exec (.weightPieceComplete id st data acc) s = becomes s (loadFail x.s l 3 3 2 p.idx))
            ∧ (x.st = 2 → exec (.weightPieceComplete id st data acc) s = becomes s (loadFail x.s l 3 4 3 p.idx)))
          ∧ (st = 0 → lBroadcast l.hdr = false → eSource p.entry = 3 → placed ⟨0, [], 0, y⟩ (slice data 0 p.len))
          ∧ (st ≠ 0 → eSource p.entry ≠ 1 → exec (.weightPieceComplete id st data acc) s
              = becomes s (loadFail y l 3 (pieceStatus (eSource p.entry) st) st p.idx)))
        ∧ (c.weights.load = none → st = 0 → eSource p.entry = 3 → exec (.weightPieceComplete id st data acc) s
              = becomes s (takeFree y 1).2
            ∨ exec (.weightPieceComplete id st data acc) s
              = becomes s (placePiece (takeFree y 1).2 p.entry at_ (slice data 0 p.len)).s))
    ∧ (c.weights.flying.find? (fun p => p.id == id) = none → exec (.weightPieceComplete id st data acc) s = becomes s c)
    ∧ (y = noteAccepted c acc → y.weights.load = some l →
        (l.todo = [] → (∀ p ∈ y.weights.flying, p.load ≠ l.id) → l.toRelay = [] → l.expect = 0 →
            receivers y l = [] ∨ relayed = true → exec (.weightLoadDone acc relayed) s = becomes s (addSignal
              (raise (setBankState (odSet (odAdd64 (loads y none) 0x54020 1 1) 0x54001 0 2) (lBank l.hdr) 2) ⟨0x5400, 0⟩
                (lId l.hdr + lBank l.hdr * 2 ^ 32)) .opn (fld l.hdr 26 2)))
        ∧ (l.todo ≠ [] ∨ l.expect ≠ 0 → exec (.weightLoadDone acc relayed) s = becomes s (pumpLoad y)))
    ∧ (o < 16 → c.weights.load = none → exec (.relayedPieceRx o loadId a data) s = becomes s (odAdd64 c 0x54020 6 1))
    ∧ (o < 16 → c.weights.load = some l →
        let mine := l.entries.find? (fun e => bit (eOrds e) (ownOrd c) && decide (eDst e ≤ a)
          && decide (a + data.length ≤ eDst e + eLen e))
        (mine = none ∨ lId l.hdr ≠ loadId → exec (.relayedPieceRx o loadId a data) s = becomes s (odAdd64 c 0x54020 6 1))
        ∧ (mine = some e → lId l.hdr = loadId → w = placePiece c e a data → w.st = 0 →
            exec (.relayedPieceRx o loadId a data) s = becomes s (countPlaced (odAdd64
              (loads w.s (some { l with expect := l.expect - data.length })) 0x54020 5 1) data.length)))
    ∧ (z = noteAccepted c acc → z.weights.load = some l → o < 16 →
        let wait := ms (odN z 0x54013 0)
        (lBroadcast l.hdr = true → lReader l.hdr = ownOrd z → o ≠ ownOrd z → (∃ e ∈ l.entries, bit (eOrds e) o = true) →
          (o ∉ l.accepted → l.since + wait ≤ nowNs z → exec (.peerWaitTimeout o acc) s = becomes s (loadFail z l 3 5 0 0))
          ∧ (o ∈ l.accepted → exec (.peerWaitTimeout o acc) s = becomes s z))
        ∧ (lBroadcast l.hdr = true → lReader l.hdr = o → o ≠ ownOrd z → routeUp z o = false →
          max l.since (tget 0 z.cons.lostAt o) + wait < nowNs z →
          exec (.peerWaitTimeout o acc) s = becomes s (loadFail z l 3 6 0 0)))

/-- Flits and replay (23 R558 to R562, R568): flits are counted; one that does not decode, fails its CRC or is out of order is
discarded, and the first asks for a replay; one in order advances the expected number, and its messages are taken; held
flits are sent again on request, and 2 µs after the last acknowledgement; a request repeats after 256 ns. -/
def Sys2Proof.Claim.Flits : Prop :=
  ∀ (s : State) (l ack t : Nat) (f : RxFlit) (m : Bytes) (y z : Chip), l < 8 → clUp s.chip l = true →
    let c := s.chip
    let now := nowNs c
    let o := 0x60020 + l
    let link := clLink c l
    let counted := odAdd64 (odAdd64 c o 2 1) o 3 f.lanes.sum
    let clean := setCl counted l { link with undec := 0 }
    let kind := fld f.b 4 1
    let good := f.decoded = true ∧ crc64 (slice f.b 0 752) = fld f.b 752 8
    let resent (y b : Chip) : Prop := (clLink b l).resends = (clLink y l).resends + 1 ∧ (clLink b l).ackAt = now
      ∧ b.out = y.out ++ (clLink y l).buf.map (fun f => .flit l 1 f.1 (ackOf (clLink y l)) 0 0 f.2)
    let asked (y : Chip) : Chip := emit (odAdd64 (setCl y l { clLink y l with reqAt := some now }) o 1 1)
      (.flit l 2 (clLink y l).nextF (ackOf (clLink y l)) 0 0 [])
    (f.decoded = false → link.reqAt = none → exec (.flitRx l f) s
        = becomes s (asked (setCl (odAdd64 counted o 4 1) l { link with undec := link.undec + 1 })))
    ∧ (f.decoded = false → link.reqAt = some t → exec (.flitRx l f) s
        = becomes s (setCl (odAdd64 counted o 4 1) l { link with undec := link.undec + 1 }))
    ∧ (f.decoded = true → crc64 (slice f.b 0 752) ≠ fld f.b 752 8 → link.reqAt = none →
        exec (.flitRx l f) s = becomes s (asked (odAdd64 clean o 5 1)))
    ∧ (good → 1 < kind → exec (.flitRx l f) s = becomes s clean)
    ∧ (good → kind = 1 → fld f.b 0 2 ≠ link.expectF → y = ackFlits clean l (fld f.b 2 2) → (clLink y l).reqAt = none →
        exec (.flitRx l f) s = becomes s (asked y))
    ∧ (good → kind = 0 → exec (.flitRx l f) s = becomes s (drainWaiting (ackFlits (setCl clean l
        (withCredit (clLink clean l) (fld f.b 5 1 % 2) (creditOf (clLink clean l) (fld f.b 5 1 % 2) + fld f.b 6 2))) l
        (fld f.b 2 2)) l 4096))
    ∧ (good → kind = 1 → fld f.b 0 2 = link.expectF → ∃ b, exec (.flitRx l f) s = becomes s b
        ∧ (clLink b l).expectF = (link.expectF + 1) % 65536 ∧ (clLink b l).reqAt = none ∧ (clLink b l).undec = 0
        ∧ ((splitMsgs 94 (link.part ++ slice f.b 8 744)).1 = [m] → msgBad m = false → msgDst m = ownOrd c →
            b.cons.inbox = c.cons.inbox ++ [(l, m)]))
    ∧ (y = ackFlits c l ack →
        ((clLink y l).buf ≠ [] → ∃ b, exec (.replayRequest l ack) s = becomes s b ∧ resent y b)
        ∧ ((clLink y l).buf = [] → exec (.replayRequest l ack) s = becomes s y))
    ∧ (link.buf ≠ [] →
        (link.ackAt + 2000 ≤ now → ∃ b, exec (.replayTimeout l) s = becomes s b ∧ resent c b)
        ∧ (now < link.ackAt + 2000 → exec (.replayTimeout l) s = becomes s c))
    ∧ (link.reqAt = some t →
        (t + 256 ≤ now → exec (.replayRequestRepeat l) s = becomes s (asked c))
        ∧ (now < t + 256 → exec (.replayRequestRepeat l) s = becomes s c))
    ∧ (link.reqAt = none → exec (.replayRequestRepeat l) s = becomes s c)

/-- Links and members (23 R561 to R569): a link goes down after 16 resends, 8 flits that do not decode, or a lost lane without a
spare; a suspect lane gives way to the spare at both ends; training matches or is miswired; the training slot; a member
without a route for the time allowed has LEFT. -/
def Sys2Proof.Claim.LinksAndMembers : Prop :=
  ∀ (s : State) (l lane spare fseq o : Nat) (rec : Bytes) (lock peerOk other : Bool), l < 8 →
    let c := s.chip
    let link := clLink c l
    let map := odN c 0x60012 (l + 1)
    let detect := if lock then 6 else 2
    (clUp c l = true →
        (lock = false → 16 ≤ link.resends ∨ 8 ≤ link.undec → exec (.clDown l lock) s = becomes s (clDown c l)
          ∧ odN (clDown c l) 0x60011 (l + 1) = 1 ∧ (clLink (clDown c l) l).buf = []
          ∧ odN (clDown c l) (0x60020 + l) 7 = (odN c (0x60020 + l) 7 + 1) % 2 ^ 64)
        ∧ (lock = true → spareLane c l = 7 → exec (.clDown l lock) s = becomes s (clRetire c l)
          ∧ odN (clRetire c l) 0x60011 (l + 1) = 4)
        ∧ (lock = false → link.resends < 16 → link.undec < 8 → exec (.clDown l lock) s = becomes s c))
    ∧ (clUp c l = true → lane < 5 → link.badLanes.contains lane = false → fenced c (uLane l lane) = false →
        (logicalOf map lane).isSome = true →
        (spareLane c l = 7 → exec (.laneSuspect l lane lock) s
            = becomes s (recordError (clRetire c l) 4 detect (uLane l lane) 0 0 lane))
        ∧ (spareLane c l = spare → spare ≠ 7 → exec (.laneSuspect l lane lock) s = becomes s (recordError (laneSwitch
            (sendBare c l 4 0 0 (leBytes 1 lane ++ leBytes 1 spare ++ leBytes 2 ((link.nextF + 64) % 65536))) l lane spare)
            2 detect (uLane l lane) 0 0 lane)))
    ∧ (clUp c l = true → fseq < 65536 →
        (spareLane c l = spare → spare ≠ 7 → (logicalOf map lane).isSome = true → exec (.laneControlRx l lane spare fseq) s
            = becomes s (recordError (laneSwitch c l lane spare) 2 6 (uLane l lane) 0 0 lane))
        ∧ (spareLane c l ≠ spare → exec (.laneControlRx l lane spare fseq) s = becomes s c))
    ∧ (laneSwitch c l lane spare = raise (odAdd64 (odSet (setCl c l { link with switch := some (map, nowNs c) }) 0x60012 (l + 1)
        (substMap map lane spare)) (0x60020 + l) 8 1) ⟨0x6003, 2⟩ (l + 256 * lane))
    ∧ (mayTrain c l = true → clUp c l = false →
        let y := sendBare c l 3 0 0 (trainRecord c l)
        let held := other && memberState c (fld rec 6 1) == 0
        (recordOk c l rec = true → peerOk = true → held = false → exec (.clTraining l rec peerOk other) s
            = becomes s (clUpNow y l rec) ∧ odN (clUpNow y l rec) 0x60011 (l + 1) = 2)
        ∧ (recordOk c l rec = false ∨ peerOk = false ∨ held = true → exec (.clTraining l rec peerOk other) s
            = becomes s (raise (odSet y 0x60011 (l + 1) 3) ⟨0x6002, 1⟩ (l + 256 * fld rec 6 1 + 65536 * fld rec 7 1))))
    ∧ (mayTrain c l = false → exec (.clTraining l rec peerOk other) s = becomes s c)
    ∧ (inSlot c = true → ∃ b, exec .clSlot s = becomes s b ∧ b = { c with od := b.od }
        ∧ Keeps c b ((List.range 8).map (fun k => (0x60011, k + 1)))
        ∧ ∀ k, k < 8 → odN b 0x60011 (k + 1) = (if mayTrain c k = true ∧ (odN c 0x60011 (k + 1) = 0 ∨ odN c 0x60011 (k + 1) = 3)
            then 1 else odN c 0x60011 (k + 1)))
    ∧ (inSlot c = false → exec .clSlot s = becomes s c)
    ∧ (o < 16 → memberState c o = 1 →
        (tget 0 c.cons.lostAt o + ms (odN c 0x60032 0) ≤ nowNs c → exec (.memberTimeout o) s
            = becomes s (memberGone (raise (odSet c 0x60041 (o + 1) 2) ⟨0x6008, 1⟩ o) o))
        ∧ (nowNs c < tget 0 c.cons.lostAt o + ms (odN c 0x60032 0) → exec (.memberTimeout o) s = becomes s c))

/-- Relay operations (23 R573 to R578, R582): the oldest descriptor of a queue starts once admitted, or is INVALID at once; a
group operation that waits too long, and one that has ended, complete; leaving. -/
def Sys2Proof.Claim.RelayOperations : Prop :=
  ∀ (s : State) (rq : Rq) (k tag st o : Nat) (e : PqEntry) (rest : List PqEntry) (r : RelayOp) (y : Chip),
    let c := s.chip
    let now := nowNs c
    let cons (y : Chip) (x : Consist) : Chip := { y with cons := x }
    let rows : List (Nat × Instr) := [(0x60, .copy k), (0x61, .broadcast k), (0x62, .allGather k), (0x63, .reduceScatter k),
      (0x64, .allReduce k)]
    (k < 16 → (portQ c (32 + k)).waiting = e :: rest → tagTaken c = false → ∀ p ∈ rows,
        (rOp e.b ≠ p.1 → exec p.2 s = becomes s c)
        ∧ (rOp e.b = p.1 → relayInvalid c (portCore c (32 + k)) e.b = true → exec p.2 s = becomes s (
            cons (takeWaiting c (32 + k) e.id) { c.cons with
              ops := c.cons.ops ++ [⟨k, e.id, e.b, e.adm, c.cons.nextTag, [], 0, 0, [], 0, [], 0, 0, 0xFF, now, 0, some 1⟩]
              nextTag := (c.cons.nextTag + 1) % 2 ^ 16 }))
        ∧ (rOp e.b = p.1 → relayInvalid c (portCore c (32 + k)) e.b = false →
            (e.adm = 0 ∨ c.cons.leaving.isSome = true → exec p.2 s = becomes s c)
            ∧ (e.adm ≠ 0 → c.cons.leaving = none → exec p.2 s
                = becomes s (relayStart (takeWaiting c (32 + k) e.id) k e.id e.b e.adm))))
    ∧ (k < 16 → (portQ c (32 + k)).waiting = [] → ∀ p ∈ rows, exec p.2 s = becomes s c)
    ∧ (k < 16 → (portQ c (32 + k)).waiting = e :: rest → tagTaken c = false → rOp e.b = 0x60 →
        relayInvalid c (portCore c (32 + k)) e.b = false → e.adm ≠ 0 → c.cons.leaving = none → memberState c (rTarget e.b) = 2 →
        r = ⟨k, e.id, e.b, e.adm, c.cons.nextTag, [], (groupPos c (rTarget e.b)).getD 0, 0, [], 0, [], 0, 0, rTarget e.b, now, 0,
          some 5⟩ →
        exec (.copy k) s = becomes s (cons (takeWaiting c (32 + k) e.id) { c.cons with
          ops := c.cons.ops ++ [r], nextTag := (c.cons.nextTag + 1) % 2 ^ 16 }))
    ∧ (opOf c tag = some r → isGroupOp (rOp r.b) = true →
        (r.since + ms (odN c 0x60032 0) < now → exec (.groupOperationTimeout tag) s
            = becomes s (setOp c (opEnd r 5 (silentMember c r))))
        ∧ (now ≤ r.since + ms (odN c 0x60032 0) → exec (.groupOperationTimeout tag) s = becomes s c))
    ∧ (opOf c tag = some r →
        (r.status = some st → exec (.relayComplete tag) s = becomes s (leaveCheck (relayFinish c r st)))
        ∧ (r.status = none → c.cons.leaving = some o → o + ms 100 ≤ now → exec (.relayComplete tag) s
            = becomes s (leaveCheck (relayFinish c r 7)))
        ∧ (r.status = none → c.cons.leaving = none → exec (.relayComplete tag) s = becomes s c)
        ∧ (r.status = some st → c.cons.leaving = none → r.queue = k → k < 16 → r.adm = 0 → rSignal r.b = 0xFFFF →
            rRemote r.b = 0xFFFF →
            y = cons c { c.cons with ops := c.cons.ops.filter (fun x => x.tag != r.tag) } →
            exec (.relayComplete tag) s = becomes s (relayCount (portComplete (setPortQ y (32 + k)
              { portQ y (32 + k) with running := (portQ y (32 + k)).running - 1 }) (32 + k) st r.fail r.b r.bytes) r st)))
    ∧ (Accepted s rq 0x60040 [] → odN c 0x60042 0 = 0 → c.cons.leaving = none →
        y = cons c { c.cons with leaving := some now } →
        (c.cons.ops ≠ [] → exec (.consistLeave rq) s = acks s rq y)
        ∧ (c.cons.ops = [] → exec (.consistLeave rq) s = acks s rq (leaveNow y)))
    ∧ (Accepted s rq 0x60040 [] → odN c 0x60042 0 = 1 → exec (.consistLeave rq) s = acks s rq c)

/-- Messages (23 R570 to R577): signal adds are acknowledged, applied in the order of their sequence and once; writes are placed
within this package's bounds and answered; answers advance a COPY; first messages are compared, data is placed once; LEAVE. -/
def Sys2Proof.Claim.RelayMessages : Prop :=
  ∀ (s : State) (l : Nat) (m : Bytes) (r : RelayOp) (x : Xfer) (y z : Chip), s.chip.cons.inbox = [(l, m)] →
    y = giveCredit { s.chip with cons := { s.chip.cons with inbox := [] } } l m →
    let c := s.chip
    let o := msgSrc m
    let a := fld m 8 8
    let q := addSeq m
    let want := tget 0 c.cons.nextApply o
    let seq (b : Chip) : Chip := { b with cons := { b.cons with nextApply := tput b.cons.nextApply o ((q + 1) % 2 ^ 32) } }
    (fld m 0 1 = 1 → z = sendMsg y (message 2 (ownOrd y) o (fld m 2 1) 0 (q % 65536) (q / 65536 * 2 ^ 48) []) →
        (q = want → exec .msgSignalAdd s = becomes s (applyEarly (applyMsgAdd (seq z) m) o (z.cons.early.length + 1)))
        ∧ (q ≠ want → (q + 2 ^ 32 - want) % 2 ^ 32 < 2 ^ 31 → (∀ e ∈ z.cons.early, e.1 ≠ o ∨ e.2.1 ≠ q) → exec .msgSignalAdd s
            = becomes s { z with cons := { z.cons with early := z.cons.early ++ [(o, q, m)] } })
        ∧ (2 ^ 31 ≤ (q + 2 ^ 32 - want) % 2 ^ 32 → exec .msgSignalAdd s = becomes s z))
    ∧ (fld m 0 1 ≠ 1 → exec .msgSignalAdd s = becomes s c)
    ∧ (fld m 0 1 = 2 → exec .msgSignalAck s = becomes s { y with cons := { y.cons with
        kept := y.cons.kept.filter (fun k => !(k.1 == o && k.2.1 == q)) } })
    ∧ (fld m 0 1 ≠ 2 → exec .msgSignalAck s = becomes s c)
    ∧ (fld m 0 1 = 3 →
        (fld m 2 1 = 0xFF → inInbound y a (m.drop 16).length = false → exec .msgWrite s
            = becomes s (sendMsg y (message 4 (ownOrd y) o 0xFF 0 (fld m 6 2) a (leBytes 1 2))))
        ∧ (fld m 2 1 = 0xFF → inInbound y a (m.drop 16).length = true → x = xferWrite y .phys a (m.drop 16) 0 0 uRelay Bound.free →
            x.st = 0 → z = odAdd64 x.s 0x60090 3 (m.drop 16).length → exec .msgWrite s
              = becomes s (sendMsg z (message 4 (ownOrd z) o 0xFF 0 (fld m 6 2) a (leBytes 1 0))))
        ∧ (fld m 2 1 ≠ 0xFF → x = xferWrite y (.plat (fld m 2 1)) a (m.drop 16) 0 0 uRelay Bound.free →
            x.st = 0 → z = odAdd64 x.s 0x60090 3 (m.drop 16).length → exec .msgWrite s
              = becomes s (sendMsg z (message 4 (ownOrd z) o (fld m 2 1) 0 (fld m 6 2) a (leBytes 1 0)))))
    ∧ (fld m 0 1 = 4 →
        let its := y.cons.ops.find? (fun r => r.tag == fld m 6 2 && rOp r.b == 0x60 && rTarget r.b == o && r.status.isNone)
        (its = none → exec .msgWriteAck s = becomes s y)
        ∧ (its = some r →
          let got := r.msgs.map (fun x => if x.1 = a ∧ x.2.2 = 0 then (x.1, x.2.1, if fld m 16 1 = 0 then 1 else 2) else x)
          let moved : RelayOp := { r with msgs := got, bytes := ackedPrefix got }
          ((∃ g ∈ got, g.2.2 = 0) → exec .msgWriteAck s = becomes s (setOp y moved))
          ∧ ((∀ g ∈ got, g.2.2 = 1) → exec .msgWriteAck s = becomes s (setOp y { moved with status := some r.hold, fail := 0xFF }))
          ∧ ((∀ g ∈ got, g.2.2 ≠ 0) → (∃ g ∈ got, g.2.2 = 2) → exec .msgWriteAck s
              = becomes s (setOp y { moved with status := some 2, fail := rTarget r.b }))))
    ∧ (fld m 0 1 = 5 →
        let same := fld m 16 1 = rOp r.b ∧ fld m 17 1 = fld r.b 3 1 ∧ fld m 20 4 = r.count % 2 ^ 32 ∧ fld m 24 8 = rLen r.b
        let first := 2 ^ 64 - 1
        (msgOp c m = none → msgFuture c m = true → exec .msgCollective s = becomes s c)
        ∧ (msgOp c m = none → msgFuture c m = false → exec .msgCollective s = becomes s y)
        ∧ (msgOp c m = some r → a = first → same → r.heard.contains o = false → exec .msgCollective s
            = becomes s (opSettle (setOp y { r with heard := r.heard ++ [o], since := nowNs y }) r.tag))
        ∧ (msgOp c m = some r → a = first → ¬ same → exec .msgCollective s
            = becomes s (setOp (odAdd64 y 0x60090 7 1) { r with status := some 4, fail := o }))
        ∧ (msgOp c m = some r → rOp r.b = 0x61 ∨ rOp r.b = 0x62 → rDst r.b ≤ a → a + (m.drop 16).length ≤ rDst r.b + rLen r.b →
            a + 2 < 2 ^ 64 →
            let key := a + 2 ^ 64 * mPhase m
            (key ∈ r.seen → exec .msgCollective s = becomes s y)
            ∧ (key ∉ r.seen → exec .msgCollective s = becomes s (opDone (opPlace (odAdd64 (setOp y { r with seen := r.seen ++ [key] })
                0x60090 3 (m.drop 16).length) r.tag a (m.drop 16)) r.tag (m.drop 16).length))))
    ∧ (fld m 0 1 = 7 →
        (memberState y o = 2 → exec .msgLeave s = becomes s y)
        ∧ (memberState y o ≠ 2 → exec .msgLeave s = becomes s (memberGone (raise (odSet y 0x60041 (o + 1) 2) ⟨0x6008, 1⟩ o) o)))

/-! ## Statements over several of these claims -/

/-- Tuital data instructions: result, flags and frame, for every operand. Readings and choices of the model in it: log entry 51. -/
def Obligations.TuitalData : Prop :=
  Claim.DataRegister ∧ Claim.DataImmediate ∧ Claim.Compare

/-- Accumulator operations: exact results, the limits with SAT, EXT, and moves by part. Readings and choices of the model in it: log entry 51. -/
def Obligations.TuitalAccumulators : Prop :=
  Claim.Accumulators ∧ Claim.AccumulatorParts

/-- Loads and stores to local SRAM: effective address, bytes moved, base update, frame. Readings and choices of the model in it: log entry 51. -/
def Obligations.LocalMemory : Prop :=
  Claim.LocalLoads ∧ Claim.LocalStores

/-- Branches by condition, counted branches, calls and returns through the stack. Readings and choices of the model in it: log entry 51. -/
def Obligations.TuitalControlFlow : Prop :=
  Claim.Branches ∧ Claim.Calls

/-- Which instruction raises which exception, what entry saves, and the double fault. Readings and choices of the model in it: log entries 51, 52. -/
def Obligations.TuitalExceptions : Prop :=
  Claim.Exceptions ∧ Claim.DoubleFault

/-- Special registers, RETE, WAIT, and the taking of interrupts. Readings and choices of the model in it: log entries 51, 52. -/
def Obligations.TuitalSystem : Prop :=
  Claim.SpecialRegisters ∧ Claim.Interrupts

/-- Signal adds with the waits they satisfy; signal reads, waits and bindings of a core. Readings and choices of the model in it: log entries 52, 90. -/
def Obligations.TuitalSignals : Prop :=
  Claim.SignalAdds ∧ Claim.SignalWaits

/-- Core-local ports, queue ports and the OD fast port. Readings and choices of the model in it: log entries 24, 52, 89. -/
def Obligations.TuitalPorts : Prop :=
  Claim.LocalPorts ∧ Claim.QueuePorts

/-- Reference edges, the states of the timebase island, step meters. Readings and choices of the model in it: log entries 13, 39. -/
def Obligations.TimebaseStatesAndEdges : Prop :=
  Claim.ReferenceEdges ∧ Claim.TimebaseStates ∧ Claim.StepMeters

/-- READ, event reads, DESCRIBE, DISCOVER and ECHO: what they answer and what they change. Readings and choices of the model in it: log entries 23, 26, 28, 31, 92. -/
def Obligations.SlainoReads : Prop :=
  Claim.ReadService ∧ Claim.EventRead ∧ Claim.DescribeEcho

/-- WRITE is all or nothing, counted, applied at a tick for several blocks; collisions; windows. Readings and choices of the model in it: log entries 16, 17, 19, 26, 29, 53, 92. -/
def Obligations.SlainoWrites : Prop :=
  Claim.WriteService ∧ Claim.WriteCollision ∧ Claim.WindowWrite ∧ Claim.ApplyTick

/-- The accounting interval shares energy out and trues jobs up; a window boundary renews budgets. Readings and choices of the model in it: log entries 13, 41. -/
def Obligations.EnergyAccounting : Prop :=
  Claim.AccountingInterval ∧ Claim.WindowBoundary

/-- The rail governor, heat, and the PMBus. Readings and choices of the model in it: log entries 13, 21. -/
def Obligations.RailsAndHeat : Prop :=
  Claim.RailGovernor ∧ Claim.Heat ∧ Claim.Pmbus

/-- Power requests and the end of each power step. Readings and choices of the model in it: log entries 29, 42. -/
def Obligations.PowerStates : Prop :=
  Claim.PowerRequest ∧ Claim.PowerSteps

/-- Thermal trip, regulator fault, leases, and the drain for removal. Readings and choices of the model in it: log entries 13, 29, 42. -/
def Obligations.EmergenciesAndDrain : Prop :=
  Claim.Emergencies ∧ Claim.Drain

/-- The boot ROM chooses a slot; the phases of bring-up follow each other. Readings and choices of the model in it: log entries 4, 5, 11, 13, 18, 44, 93. -/
def Obligations.BootAndBringUp : Prop :=
  Claim.BootRom ∧ Claim.BringUp

/-- The far tier is zeroed block by block; PERST# and configuration requests of host ports. Readings and choices of the model in it: log entries 13, 45, 94. -/
def Obligations.FarTierAndHostPorts : Prop :=
  Claim.FarTier ∧ Claim.HostPorts

/-- Ownership, fused keys, measurements, and the debug states. Readings and choices of the model in it: log entries 5, 8, 13, 33, 48, 49. -/
def Obligations.OwnershipAndDebug : Prop :=
  Claim.Ownership ∧ Claim.DebugStates

/-- A firmware update from its first bundle to its commit. Readings and choices of the model in it: log entries 13, 50. -/
def Obligations.FirmwareUpdate : Prop :=
  Claim.FirmwareBundles ∧ Claim.FirmwareActivation

/-- Platforms are enabled, reset and disabled; granules are granted and reclaimed. Readings and choices of the model in it: log entries 36, 54, 55. -/
def Obligations.PlatformsAndGranules : Prop :=
  Claim.Platforms ∧ Claim.Granules

/-- Mailbox registers and the messages that go through mailboxes. Readings and choices of the model in it: log entries 34, 35. -/
def Obligations.MailboxRegistersAndMessages : Prop :=
  Claim.MailboxRegisters ∧ Claim.MailboxMessages

/-- Host functions, their resets and doorbells; links of host, SSD and far-tier ports. Readings and choices of the model in it: log entries 13, 22, 94. -/
def Obligations.HostFunctionsAndLinks : Prop :=
  Claim.HostFunctions ∧ Claim.PortLinks

/-- Ethernet links, flow control, PTP, and the checks of a received frame. Readings and choices of the model in it: log entries 13, 83, 84. -/
def Obligations.EthernetLinksAndFrames : Prop :=
  Claim.EthernetLinks ∧ Claim.FlowControlAndPtp ∧ Claim.EthernetFrames

/-- Error records, self-tests, repair, unit reset, and dwell trips. Readings and choices of the model in it: log entries 13, 40, 78. -/
def Obligations.FaultsAndTrips : Prop :=
  Claim.Faults ∧ Claim.DwellTrip

/-- Queue pair transitions, completion rings, memory regions and their doorbells. Readings and choices of the model in it: log entries 65, 85. -/
def Obligations.QueuePairsAndRings : Prop :=
  Claim.QueuePairs ∧ Claim.RingsAndRegions ∧ Claim.RdmaDoorbells

/-- Send requests leave in order; recovery and pacing act on their timers. Readings and choices of the model in it: log entries 84, 85, 86. -/
def Obligations.SendsAndTimers : Prop :=
  Claim.SendRequests ∧ Claim.RdmaTimers

/-- The responder places packets, holds finals, and acknowledges; answers release requests. Readings and choices of the model in it: log entries 68, 84, 85, 86. -/
def Obligations.ResponderAndAnswers : Prop :=
  Claim.Responder ∧ Claim.FinalsAndAnswers

/-- Native queues and waybills from doorbell to completion. Readings and choices of the model in it: log entries 11, 59, 60, 61, 87. -/
def Obligations.NativeStorage : Prop :=
  Claim.NativeQueues ∧ Claim.WaybillStarts ∧ Claim.WaybillEnds

/-- The emulated NVMe controller: admin and I/O commands. Readings and choices of the model in it: log entries 58, 88. -/
def Obligations.NvmeController : Prop :=
  Claim.NvmeAdmin ∧ Claim.NvmeIo

/-- Cipher requests: issue checks, the seven modes, completion and the cluster gate. Readings and choices of the model in it: log entries 11, 13, 68, 91. -/
def Obligations.CipherRequests : Prop :=
  Claim.CipherIssue ∧ Claim.CipherModes ∧ Claim.CipherEnds

/-- Control entries, issue, completion, flush, triggers and coupled signals. Readings and choices of the model in it: log entries 62, 63, 64, 89, 90. -/
def Obligations.DispatchQueues : Prop :=
  Claim.ControlEntries ∧ Claim.Dispatch

/-- Coupling links: flits and replay, lanes, training, members. Readings and choices of the model in it: log entries 13, 70, 73. -/
def Obligations.CouplingLinks : Prop :=
  Claim.Flits ∧ Claim.LinksAndMembers

/-- Relay operations and the messages between packages. Readings and choices of the model in it: log entries 68, 70, 71, 72, 74. -/
def Obligations.RelayOperationsEndToEnd : Prop :=
  Claim.RelayOperations ∧ Claim.RelayMessages
end

