-- ==== Sys2Proof/Laws/Bytes.lean ====
section
/-! SUPPORT. Little-endian fields, CRC-32 and parts of byte strings. -/
namespace Sys2Proof.Machine

/-- A field has its number of bytes. -/
theorem leBytes_length (n v : Nat) : (leBytes n v).length = n := by
  induction n generalizing v with
  | zero => rfl
  | succ n ih => simp [leBytes, ih]

/-- A field reads as the number written, less what does not fit. -/
theorem leNat_leBytes (n v : Nat) : leNat (leBytes n v) = v % 256 ^ n := by
  induction n generalizing v with
  | zero => simp [leBytes, leNat, Nat.mod_one]
  | succ n ih =>
    simp only [leBytes, leNat, ih, BitVec.toNat_ofNat]
    rw [show 256 ^ (n + 1) = 256 * 256 ^ n from Nat.pow_succ', Nat.mod_mul]

/-- A bit of CRC-32 stays within 32 bits. -/
theorem crcBit_lt (c : Nat) (h : c < 2 ^ 32) : crcBit c < 2 ^ 32 := by
  unfold crcBit
  split
  · exact Nat.xor_lt_two_pow (by omega) (by decide)
  · omega

/-- A CRC-32 has 32 bits. -/
theorem crc32_lt (b : Bytes) : crc32 b < 2 ^ 32 := by
  have aux : ∀ (l : Bytes) (c : Nat), c < 2 ^ 32 → l.foldl crcByte c < 2 ^ 32 := by
    intro l
    induction l with
    | nil => intro c h; exact h
    | cons x r ih =>
      intro c h
      apply ih
      unfold crcByte
      iterate 8 apply crcBit_lt
      exact Nat.xor_lt_two_pow h (by have := x.isLt; omega)
  exact Nat.xor_lt_two_pow (aux b _ (by decide)) (by decide)

/-- A field of the first part. -/
theorem fld_left (a b : Bytes) (o n : Nat) (h : o + n ≤ a.length) : fld (a ++ b) o n = fld a o n := by
  unfold fld
  rw [List.drop_append_of_le_length (by omega), List.take_append_of_le_length (by simp; omega)]

/-- A field of the second part. -/
theorem fld_right (a b : Bytes) (k o n : Nat) (h : k = a.length) : fld (a ++ b) (k + o) n = fld b o n := by
  unfold fld
  subst h
  rw [List.drop_append, List.drop_eq_nil_of_le (by omega)]
  simp

/-- The middle part. -/
theorem take_mid (a b c : Bytes) (o n : Nat) (h : o = a.length) (h' : n = b.length) :
    ((a ++ (b ++ c)).drop o).take n = b := by
  subst h h'
  simp

end Sys2Proof.Machine
end

