-- ==== Sys2Proof/Laws/Table.lean ====
section
/-! SUPPORT. Laws of sparse tables and of memory: a read after a write, and the canonical form every write keeps. -/
namespace Sys2Proof.Machine

variable {α : Type}

@[simp] theorem tget?_nil (k : Nat) : tget? ([] : Table α) k = none := rfl
@[simp] theorem tget_nil (d : α) (k : Nat) : tget d [] k = d := rfl

/-- A read of the number just written. -/
@[simp] theorem tget?_tput_same (t : Table α) (k : Nat) (v : α) : tget? (tput t k v) k = some v := by
  induction t with
  | nil => simp [tput, tget?]
  | cons p r ih =>
    obtain ⟨k', v'⟩ := p
    simp only [tput]
    split
    · simp [tget?]
    · split
      · simp [tget?]
      · next h => simp [tget?, h, ih]

/-- A read of any other number. -/
theorem tget?_tput_other (t : Table α) (k x : Nat) (v : α) (h : x ≠ k) : tget? (tput t k v) x = tget? t x := by
  have h' : k ≠ x := fun e => h e.symm
  induction t with
  | nil => simp [tput, tget?, h']
  | cons p r ih =>
    obtain ⟨k', v'⟩ := p
    simp only [tput]
    split
    · simp [tget?, h']
    · split
      · next e => subst e; simp [tget?, h']
      · simp only [tget?, ih]

@[simp] theorem tget_tput_same (d : α) (t : Table α) (k : Nat) (v : α) : tget d (tput t k v) k = v := by simp [tget]

theorem tget_tput_other (d : α) (t : Table α) (k x : Nat) (v : α) (h : x ≠ k) : tget d (tput t k v) x = tget d t x := by
  simp [tget, tget?_tput_other t k x v h]

/-- A number taken out of a table reads as unlisted. -/
@[simp] theorem tget?_tdel_same (t : Table α) (k : Nat) : tget? (tdel t k) k = none := by
  induction t with
  | nil => rfl
  | cons p r ih =>
    obtain ⟨k', v'⟩ := p
    simp only [tdel, List.filter_cons] at *
    by_cases e : k' = k
    · simp [e]; simpa using ih
    · simp [e, tget?]; simpa using ih

theorem tget?_tdel_other (t : Table α) (k x : Nat) (h : x ≠ k) : tget? (tdel t k) x = tget? t x := by
  induction t with
  | nil => rfl
  | cons p r ih =>
    obtain ⟨k', v'⟩ := p
    simp only [tdel, List.filter_cons] at *
    by_cases e : k' = k
    · have : k' ≠ x := fun f => h (f.symm.trans e)
      simp [e, tget?]; rw [if_neg (by omega)]; simpa using ih
    · simp only [bne_iff_ne, ne_eq, e, not_false_eq_true, if_true, tget?]
      split
      · rfl
      · simpa using ih

@[simp] theorem tget_tset_same [DecidableEq α] (d : α) (t : Table α) (k : Nat) (v : α) : tget d (tset d t k v) k = v := by
  unfold tset
  split
  · next e => simp [tget, e]
  · simp

theorem tget_tset_other [DecidableEq α] (d e : α) (t : Table α) (k x : Nat) (v : α) (h : x ≠ k) :
    tget e (tset d t k v) x = tget e t x := by
  unfold tset
  split
  · simp [tget, tget?_tdel_other t k x h]
  · exact tget_tput_other e t k x v h

/-! ## Rising numbers -/

theorem tsorted_cons (p : Nat × α) (t : Table α) :
    tsorted (p :: t) = true ↔ (∀ q ∈ t, p.1 < q.1) ∧ tsorted t = true := by
  induction t generalizing p with
  | nil => simp [tsorted]
  | cons q r ih =>
    obtain ⟨k, v⟩ := p
    obtain ⟨k', v'⟩ := q
    simp only [tsorted, Bool.and_eq_true, decide_eq_true_eq, List.forall_mem_cons]
    constructor
    · rintro ⟨h, hs⟩
      exact ⟨⟨h, fun q hq => Nat.lt_trans h (((ih (k', v')).mp hs).1 q hq)⟩, hs⟩
    · rintro ⟨⟨h, _⟩, hs⟩
      exact ⟨h, hs⟩

theorem mem_tput (t : Table α) (k : Nat) (v : α) (q : Nat × α) (h : q ∈ tput t k v) : q = (k, v) ∨ q ∈ t := by
  induction t with
  | nil => simpa [tput] using h
  | cons p r ih =>
    obtain ⟨k', v'⟩ := p
    simp only [tput] at h
    split at h
    · simpa using h
    · split at h
      · rcases List.mem_cons.mp h with h | h <;> simp [h]
      · rcases List.mem_cons.mp h with h | h
        · simp [h]
        · rcases ih h with h | h <;> simp [h]

/-- Writing keeps the numbers rising. -/
theorem tsorted_tput (t : Table α) (k : Nat) (v : α) (h : tsorted t = true) : tsorted (tput t k v) = true := by
  induction t with
  | nil => rfl
  | cons p r ih =>
    obtain ⟨k', v'⟩ := p
    have hp := (tsorted_cons (k', v') r).mp h
    simp only [tput]
    split
    · next hlt =>
      rw [tsorted_cons]
      refine ⟨fun q hq => ?_, h⟩
      rcases List.mem_cons.mp hq with e | e
      · simpa [e] using hlt
      · exact Nat.lt_trans hlt (hp.1 q e)
    · split
      · next _ e =>
        rw [tsorted_cons]
        exact ⟨fun q hq => by simpa [e] using hp.1 q hq, hp.2⟩
      · next hlt hne =>
        rw [tsorted_cons]
        refine ⟨fun q hq => ?_, ih hp.2⟩
        rcases mem_tput r k v q hq with e | e
        · subst e; simp; omega
        · exact hp.1 q e

/-- Taking out keeps the numbers rising. -/
theorem tsorted_filter (t : Table α) (f : Nat × α → Bool) (h : tsorted t = true) : tsorted (t.filter f) = true := by
  induction t with
  | nil => rfl
  | cons p r ih =>
    have hp := (tsorted_cons p r).mp h
    simp only [List.filter_cons]
    split
    · rw [tsorted_cons]
      exact ⟨fun q hq => hp.1 q (List.mem_of_mem_filter hq), ih hp.2⟩
    · exact ih hp.2

theorem tsorted_tset [DecidableEq α] (d : α) (t : Table α) (k : Nat) (v : α) (h : tsorted t = true) :
    tsorted (tset d t k v) = true := by
  unfold tset
  split
  · exact tsorted_filter t _ h
  · exact tsorted_tput t k v h

/-! ## Memory -/

theorem memory_wf_iff (m : Memory) : Memory.wf m = true ↔ tsorted m = true ∧ ∀ c ∈ m, c.2 ≠ 0 := by
  simp [Memory.wf]

/-- A byte written keeps the canonical form. -/
theorem memPut_wf (m : Memory) (a : Nat) (b : Byte) (h : Memory.wf m = true) : Memory.wf (memPut m a b) = true := by
  rw [memory_wf_iff] at *
  refine ⟨tsorted_tset 0 m a b h.1, fun c hc => ?_⟩
  unfold memPut tset at hc
  split at hc
  · exact h.2 c (List.mem_of_mem_filter hc)
  · next hb =>
    rcases mem_tput m a b c hc with e | e
    · simpa [e] using hb
    · exact h.2 c e

/-- Bytes written keep the canonical form. -/
theorem memWrite_wf (m : Memory) (a : Nat) (b : Bytes) (h : Memory.wf m = true) : Memory.wf (memWrite m a b) = true := by
  induction b generalizing m a with
  | nil => exact h
  | cons x r ih => exact ih (memPut m a x) (a + 1) (memPut_wf m a x h)

/-- Zeroing keeps the canonical form. -/
theorem memZero_wf (m : Memory) (a n : Nat) (h : Memory.wf m = true) : Memory.wf (memZero m a n) = true := by
  rw [memory_wf_iff] at *
  exact ⟨tsorted_filter m _ h.1, fun c hc => h.2 c (List.mem_of_mem_filter hc)⟩

/-- A read of the byte just written. -/
@[simp] theorem memGet_memPut_same (m : Memory) (a : Nat) (b : Byte) : memGet (memPut m a b) a = b := by
  simp [memGet, memPut]

/-- A read of any other byte. -/
theorem memGet_memPut_other (m : Memory) (a x : Nat) (b : Byte) (h : x ≠ a) : memGet (memPut m a b) x = memGet m x :=
  tget_tset_other 0 0 m a x b h

/-- Bytes outside a write are as before. -/
theorem memGet_memWrite_outside (m : Memory) (a x : Nat) (b : Bytes) (h : x < a ∨ a + b.length ≤ x) :
    memGet (memWrite m a b) x = memGet m x := by
  induction b generalizing m a with
  | nil => rfl
  | cons y r ih =>
    simp only [List.length_cons] at h
    simp only [memWrite]
    rw [ih (memPut m a y) (a + 1) (by omega), memGet_memPut_other m a x y (by omega)]

/-- Bytes inside a write are the written ones. -/
theorem memGet_memWrite_inside (m : Memory) (a i : Nat) (b : Bytes) (h : i < b.length) :
    memGet (memWrite m a b) (a + i) = b[i] := by
  induction b generalizing m a i with
  | nil => simp at h
  | cons y r ih =>
    simp only [memWrite]
    cases i with
    | zero => rw [memGet_memWrite_outside _ _ _ _ (by omega)]; simp
    | succ j =>
      have : a + (j + 1) = a + 1 + j := by omega
      rw [this, ih (memPut m a y) (a + 1) j (by simpa using h)]
      simp

/-- What was written reads back. -/
theorem memRead_memWrite (m : Memory) (a : Nat) (b : Bytes) : memRead (memWrite m a b) a b.length = b := by
  apply List.ext_getElem
  · simp [memRead]
  · intro i h1 h2
    simp [memRead, memGet_memWrite_inside m a i b h2]

end Sys2Proof.Machine
end

