-- ==== Sys2Proof/Laws/State.lean ====
section
/-! SUPPORT. What each named operation on the block leaves as it was, one lemma per field, and reads of the object store
after a write. -/
namespace Sys2Proof.Machine

@[simp] theorem odPut_rej (s : Chip) (o k : Nat) (v : OdVal) : (odPut s o k v).rej = s.rej := rfl
@[simp] theorem odPut_events (s : Chip) (o k : Nat) (v : OdVal) : (odPut s o k v).events = s.events := rfl
@[simp] theorem odPut_save (s : Chip) (o k : Nat) (v : OdVal) : (odPut s o k v).save = s.save := rfl
@[simp] theorem odPut_tb (s : Chip) (o k : Nat) (v : OdVal) : (odPut s o k v).tb = s.tb := rfl
@[simp] theorem odPut_sl (s : Chip) (o k : Nat) (v : OdVal) : (odPut s o k v).sl = s.sl := rfl
@[simp] theorem odPut_en (s : Chip) (o k : Nat) (v : OdVal) : (odPut s o k v).en = s.en := rfl
@[simp] theorem odPut_boot (s : Chip) (o k : Nat) (v : OdVal) : (odPut s o k v).boot = s.boot := rfl
@[simp] theorem odPut_flash (s : Chip) (o k : Nat) (v : OdVal) : (odPut s o k v).flash = s.flash := rfl
@[simp] theorem odPut_sec (s : Chip) (o k : Nat) (v : OdVal) : (odPut s o k v).sec = s.sec := rfl
@[simp] theorem odPut_cores (s : Chip) (o k : Nat) (v : OdVal) : (odPut s o k v).cores = s.cores := rfl
@[simp] theorem odPut_prog (s : Chip) (o k : Nat) (v : OdVal) : (odPut s o k v).prog = s.prog := rfl
@[simp] theorem odPut_plats (s : Chip) (o k : Nat) (v : OdVal) : (odPut s o k v).plats = s.plats := rfl
@[simp] theorem odPut_ports (s : Chip) (o k : Nat) (v : OdVal) : (odPut s o k v).ports = s.ports := rfl
@[simp] theorem odPut_mem (s : Chip) (o k : Nat) (v : OdVal) : (odPut s o k v).mem = s.mem := rfl
@[simp] theorem odPut_disp (s : Chip) (o k : Nat) (v : OdVal) : (odPut s o k v).disp = s.disp := rfl
@[simp] theorem odPut_net (s : Chip) (o k : Nat) (v : OdVal) : (odPut s o k v).net = s.net := rfl
@[simp] theorem odPut_rdma (s : Chip) (o k : Nat) (v : OdVal) : (odPut s o k v).rdma = s.rdma := rfl
@[simp] theorem odPut_storage (s : Chip) (o k : Nat) (v : OdVal) : (odPut s o k v).storage = s.storage := rfl
@[simp] theorem odPut_engines (s : Chip) (o k : Nat) (v : OdVal) : (odPut s o k v).engines = s.engines := rfl
@[simp] theorem odPut_faults (s : Chip) (o k : Nat) (v : OdVal) : (odPut s o k v).faults = s.faults := rfl
@[simp] theorem odPut_cons (s : Chip) (o k : Nat) (v : OdVal) : (odPut s o k v).cons = s.cons := rfl
@[simp] theorem odPut_serv (s : Chip) (o k : Nat) (v : OdVal) : (odPut s o k v).serv = s.serv := rfl
@[simp] theorem odPut_weights (s : Chip) (o k : Nat) (v : OdVal) : (odPut s o k v).weights = s.weights := rfl
@[simp] theorem odPut_free (s : Chip) (o k : Nat) (v : OdVal) : (odPut s o k v).free = s.free := rfl
@[simp] theorem odPut_out (s : Chip) (o k : Nat) (v : OdVal) : (odPut s o k v).out = s.out := rfl
@[simp] theorem odPut_alert (s : Chip) (o k : Nat) (v : OdVal) : (odPut s o k v).alert = s.alert := rfl

@[simp] theorem odSet_rej (s : Chip) (o k n : Nat) : (odSet s o k n).rej = s.rej := rfl
@[simp] theorem odSet_events (s : Chip) (o k n : Nat) : (odSet s o k n).events = s.events := rfl
@[simp] theorem odSet_save (s : Chip) (o k n : Nat) : (odSet s o k n).save = s.save := rfl
@[simp] theorem odSet_tb (s : Chip) (o k n : Nat) : (odSet s o k n).tb = s.tb := rfl
@[simp] theorem odSet_sl (s : Chip) (o k n : Nat) : (odSet s o k n).sl = s.sl := rfl
@[simp] theorem odSet_en (s : Chip) (o k n : Nat) : (odSet s o k n).en = s.en := rfl
@[simp] theorem odSet_boot (s : Chip) (o k n : Nat) : (odSet s o k n).boot = s.boot := rfl
@[simp] theorem odSet_flash (s : Chip) (o k n : Nat) : (odSet s o k n).flash = s.flash := rfl
@[simp] theorem odSet_sec (s : Chip) (o k n : Nat) : (odSet s o k n).sec = s.sec := rfl
@[simp] theorem odSet_cores (s : Chip) (o k n : Nat) : (odSet s o k n).cores = s.cores := rfl
@[simp] theorem odSet_prog (s : Chip) (o k n : Nat) : (odSet s o k n).prog = s.prog := rfl
@[simp] theorem odSet_plats (s : Chip) (o k n : Nat) : (odSet s o k n).plats = s.plats := rfl
@[simp] theorem odSet_ports (s : Chip) (o k n : Nat) : (odSet s o k n).ports = s.ports := rfl
@[simp] theorem odSet_mem (s : Chip) (o k n : Nat) : (odSet s o k n).mem = s.mem := rfl
@[simp] theorem odSet_disp (s : Chip) (o k n : Nat) : (odSet s o k n).disp = s.disp := rfl
@[simp] theorem odSet_net (s : Chip) (o k n : Nat) : (odSet s o k n).net = s.net := rfl
@[simp] theorem odSet_rdma (s : Chip) (o k n : Nat) : (odSet s o k n).rdma = s.rdma := rfl
@[simp] theorem odSet_storage (s : Chip) (o k n : Nat) : (odSet s o k n).storage = s.storage := rfl
@[simp] theorem odSet_engines (s : Chip) (o k n : Nat) : (odSet s o k n).engines = s.engines := rfl
@[simp] theorem odSet_faults (s : Chip) (o k n : Nat) : (odSet s o k n).faults = s.faults := rfl
@[simp] theorem odSet_cons (s : Chip) (o k n : Nat) : (odSet s o k n).cons = s.cons := rfl
@[simp] theorem odSet_serv (s : Chip) (o k n : Nat) : (odSet s o k n).serv = s.serv := rfl
@[simp] theorem odSet_weights (s : Chip) (o k n : Nat) : (odSet s o k n).weights = s.weights := rfl
@[simp] theorem odSet_free (s : Chip) (o k n : Nat) : (odSet s o k n).free = s.free := rfl
@[simp] theorem odSet_out (s : Chip) (o k n : Nat) : (odSet s o k n).out = s.out := rfl
@[simp] theorem odSet_alert (s : Chip) (o k n : Nat) : (odSet s o k n).alert = s.alert := rfl

@[simp] theorem odSetB_rej (s : Chip) (o k : Nat) (b : Bytes) : (odSetB s o k b).rej = s.rej := rfl
@[simp] theorem odSetB_events (s : Chip) (o k : Nat) (b : Bytes) : (odSetB s o k b).events = s.events := rfl
@[simp] theorem odSetB_save (s : Chip) (o k : Nat) (b : Bytes) : (odSetB s o k b).save = s.save := rfl
@[simp] theorem odSetB_tb (s : Chip) (o k : Nat) (b : Bytes) : (odSetB s o k b).tb = s.tb := rfl
@[simp] theorem odSetB_sl (s : Chip) (o k : Nat) (b : Bytes) : (odSetB s o k b).sl = s.sl := rfl
@[simp] theorem odSetB_en (s : Chip) (o k : Nat) (b : Bytes) : (odSetB s o k b).en = s.en := rfl
@[simp] theorem odSetB_boot (s : Chip) (o k : Nat) (b : Bytes) : (odSetB s o k b).boot = s.boot := rfl
@[simp] theorem odSetB_flash (s : Chip) (o k : Nat) (b : Bytes) : (odSetB s o k b).flash = s.flash := rfl
@[simp] theorem odSetB_sec (s : Chip) (o k : Nat) (b : Bytes) : (odSetB s o k b).sec = s.sec := rfl
@[simp] theorem odSetB_cores (s : Chip) (o k : Nat) (b : Bytes) : (odSetB s o k b).cores = s.cores := rfl
@[simp] theorem odSetB_prog (s : Chip) (o k : Nat) (b : Bytes) : (odSetB s o k b).prog = s.prog := rfl
@[simp] theorem odSetB_plats (s : Chip) (o k : Nat) (b : Bytes) : (odSetB s o k b).plats = s.plats := rfl
@[simp] theorem odSetB_ports (s : Chip) (o k : Nat) (b : Bytes) : (odSetB s o k b).ports = s.ports := rfl
@[simp] theorem odSetB_mem (s : Chip) (o k : Nat) (b : Bytes) : (odSetB s o k b).mem = s.mem := rfl
@[simp] theorem odSetB_disp (s : Chip) (o k : Nat) (b : Bytes) : (odSetB s o k b).disp = s.disp := rfl
@[simp] theorem odSetB_net (s : Chip) (o k : Nat) (b : Bytes) : (odSetB s o k b).net = s.net := rfl
@[simp] theorem odSetB_rdma (s : Chip) (o k : Nat) (b : Bytes) : (odSetB s o k b).rdma = s.rdma := rfl
@[simp] theorem odSetB_storage (s : Chip) (o k : Nat) (b : Bytes) : (odSetB s o k b).storage = s.storage := rfl
@[simp] theorem odSetB_engines (s : Chip) (o k : Nat) (b : Bytes) : (odSetB s o k b).engines = s.engines := rfl
@[simp] theorem odSetB_faults (s : Chip) (o k : Nat) (b : Bytes) : (odSetB s o k b).faults = s.faults := rfl
@[simp] theorem odSetB_cons (s : Chip) (o k : Nat) (b : Bytes) : (odSetB s o k b).cons = s.cons := rfl
@[simp] theorem odSetB_serv (s : Chip) (o k : Nat) (b : Bytes) : (odSetB s o k b).serv = s.serv := rfl
@[simp] theorem odSetB_weights (s : Chip) (o k : Nat) (b : Bytes) : (odSetB s o k b).weights = s.weights := rfl
@[simp] theorem odSetB_free (s : Chip) (o k : Nat) (b : Bytes) : (odSetB s o k b).free = s.free := rfl
@[simp] theorem odSetB_out (s : Chip) (o k : Nat) (b : Bytes) : (odSetB s o k b).out = s.out := rfl
@[simp] theorem odSetB_alert (s : Chip) (o k : Nat) (b : Bytes) : (odSetB s o k b).alert = s.alert := rfl

@[simp] theorem odInc_rej (s : Chip) (o k : Nat) : (odInc s o k).rej = s.rej := rfl
@[simp] theorem odInc_events (s : Chip) (o k : Nat) : (odInc s o k).events = s.events := rfl
@[simp] theorem odInc_save (s : Chip) (o k : Nat) : (odInc s o k).save = s.save := rfl
@[simp] theorem odInc_tb (s : Chip) (o k : Nat) : (odInc s o k).tb = s.tb := rfl
@[simp] theorem odInc_sl (s : Chip) (o k : Nat) : (odInc s o k).sl = s.sl := rfl
@[simp] theorem odInc_en (s : Chip) (o k : Nat) : (odInc s o k).en = s.en := rfl
@[simp] theorem odInc_boot (s : Chip) (o k : Nat) : (odInc s o k).boot = s.boot := rfl
@[simp] theorem odInc_flash (s : Chip) (o k : Nat) : (odInc s o k).flash = s.flash := rfl
@[simp] theorem odInc_sec (s : Chip) (o k : Nat) : (odInc s o k).sec = s.sec := rfl
@[simp] theorem odInc_cores (s : Chip) (o k : Nat) : (odInc s o k).cores = s.cores := rfl
@[simp] theorem odInc_prog (s : Chip) (o k : Nat) : (odInc s o k).prog = s.prog := rfl
@[simp] theorem odInc_plats (s : Chip) (o k : Nat) : (odInc s o k).plats = s.plats := rfl
@[simp] theorem odInc_ports (s : Chip) (o k : Nat) : (odInc s o k).ports = s.ports := rfl
@[simp] theorem odInc_mem (s : Chip) (o k : Nat) : (odInc s o k).mem = s.mem := rfl
@[simp] theorem odInc_disp (s : Chip) (o k : Nat) : (odInc s o k).disp = s.disp := rfl
@[simp] theorem odInc_net (s : Chip) (o k : Nat) : (odInc s o k).net = s.net := rfl
@[simp] theorem odInc_rdma (s : Chip) (o k : Nat) : (odInc s o k).rdma = s.rdma := rfl
@[simp] theorem odInc_storage (s : Chip) (o k : Nat) : (odInc s o k).storage = s.storage := rfl
@[simp] theorem odInc_engines (s : Chip) (o k : Nat) : (odInc s o k).engines = s.engines := rfl
@[simp] theorem odInc_faults (s : Chip) (o k : Nat) : (odInc s o k).faults = s.faults := rfl
@[simp] theorem odInc_cons (s : Chip) (o k : Nat) : (odInc s o k).cons = s.cons := rfl
@[simp] theorem odInc_serv (s : Chip) (o k : Nat) : (odInc s o k).serv = s.serv := rfl
@[simp] theorem odInc_weights (s : Chip) (o k : Nat) : (odInc s o k).weights = s.weights := rfl
@[simp] theorem odInc_free (s : Chip) (o k : Nat) : (odInc s o k).free = s.free := rfl
@[simp] theorem odInc_out (s : Chip) (o k : Nat) : (odInc s o k).out = s.out := rfl
@[simp] theorem odInc_alert (s : Chip) (o k : Nat) : (odInc s o k).alert = s.alert := rfl

@[simp] theorem raiseFull_rej (s : Chip) (code cls : Nat) (b : Bool) (o k p u a : Nat) : (raiseFull s code cls b o k p u a).rej = s.rej := rfl
@[simp] theorem raiseFull_save (s : Chip) (code cls : Nat) (b : Bool) (o k p u a : Nat) : (raiseFull s code cls b o k p u a).save = s.save := rfl
@[simp] theorem raiseFull_tb (s : Chip) (code cls : Nat) (b : Bool) (o k p u a : Nat) : (raiseFull s code cls b o k p u a).tb = s.tb := rfl
@[simp] theorem raiseFull_sl (s : Chip) (code cls : Nat) (b : Bool) (o k p u a : Nat) : (raiseFull s code cls b o k p u a).sl = s.sl := rfl
@[simp] theorem raiseFull_en (s : Chip) (code cls : Nat) (b : Bool) (o k p u a : Nat) : (raiseFull s code cls b o k p u a).en = s.en := rfl
@[simp] theorem raiseFull_boot (s : Chip) (code cls : Nat) (b : Bool) (o k p u a : Nat) : (raiseFull s code cls b o k p u a).boot = s.boot := rfl
@[simp] theorem raiseFull_flash (s : Chip) (code cls : Nat) (b : Bool) (o k p u a : Nat) : (raiseFull s code cls b o k p u a).flash = s.flash := rfl
@[simp] theorem raiseFull_sec (s : Chip) (code cls : Nat) (b : Bool) (o k p u a : Nat) : (raiseFull s code cls b o k p u a).sec = s.sec := rfl
@[simp] theorem raiseFull_cores (s : Chip) (code cls : Nat) (b : Bool) (o k p u a : Nat) : (raiseFull s code cls b o k p u a).cores = s.cores := rfl
@[simp] theorem raiseFull_prog (s : Chip) (code cls : Nat) (b : Bool) (o k p u a : Nat) : (raiseFull s code cls b o k p u a).prog = s.prog := rfl
@[simp] theorem raiseFull_plats (s : Chip) (code cls : Nat) (b : Bool) (o k p u a : Nat) : (raiseFull s code cls b o k p u a).plats = s.plats := rfl
@[simp] theorem raiseFull_ports (s : Chip) (code cls : Nat) (b : Bool) (o k p u a : Nat) : (raiseFull s code cls b o k p u a).ports = s.ports := rfl
@[simp] theorem raiseFull_mem (s : Chip) (code cls : Nat) (b : Bool) (o k p u a : Nat) : (raiseFull s code cls b o k p u a).mem = s.mem := rfl
@[simp] theorem raiseFull_disp (s : Chip) (code cls : Nat) (b : Bool) (o k p u a : Nat) : (raiseFull s code cls b o k p u a).disp = s.disp := rfl
@[simp] theorem raiseFull_net (s : Chip) (code cls : Nat) (b : Bool) (o k p u a : Nat) : (raiseFull s code cls b o k p u a).net = s.net := rfl
@[simp] theorem raiseFull_rdma (s : Chip) (code cls : Nat) (b : Bool) (o k p u a : Nat) : (raiseFull s code cls b o k p u a).rdma = s.rdma := rfl
@[simp] theorem raiseFull_storage (s : Chip) (code cls : Nat) (b : Bool) (o k p u a : Nat) : (raiseFull s code cls b o k p u a).storage = s.storage := rfl
@[simp] theorem raiseFull_engines (s : Chip) (code cls : Nat) (b : Bool) (o k p u a : Nat) : (raiseFull s code cls b o k p u a).engines = s.engines := rfl
@[simp] theorem raiseFull_faults (s : Chip) (code cls : Nat) (b : Bool) (o k p u a : Nat) : (raiseFull s code cls b o k p u a).faults = s.faults := rfl
@[simp] theorem raiseFull_cons (s : Chip) (code cls : Nat) (b : Bool) (o k p u a : Nat) : (raiseFull s code cls b o k p u a).cons = s.cons := rfl
@[simp] theorem raiseFull_serv (s : Chip) (code cls : Nat) (b : Bool) (o k p u a : Nat) : (raiseFull s code cls b o k p u a).serv = s.serv := rfl
@[simp] theorem raiseFull_weights (s : Chip) (code cls : Nat) (b : Bool) (o k p u a : Nat) : (raiseFull s code cls b o k p u a).weights = s.weights := rfl
@[simp] theorem raiseFull_free (s : Chip) (code cls : Nat) (b : Bool) (o k p u a : Nat) : (raiseFull s code cls b o k p u a).free = s.free := rfl
@[simp] theorem raiseFull_out (s : Chip) (code cls : Nat) (b : Bool) (o k p u a : Nat) : (raiseFull s code cls b o k p u a).out = s.out := rfl
@[simp] theorem raiseFull_alert (s : Chip) (code cls : Nat) (b : Bool) (o k p u a : Nat) : (raiseFull s code cls b o k p u a).alert = s.alert := rfl

@[simp] theorem setCore_od (s : Chip) (t : Nat) (c : Core) : (setCore s t c).od = s.od := rfl
@[simp] theorem setCore_rej (s : Chip) (t : Nat) (c : Core) : (setCore s t c).rej = s.rej := rfl
@[simp] theorem setCore_events (s : Chip) (t : Nat) (c : Core) : (setCore s t c).events = s.events := rfl
@[simp] theorem setCore_save (s : Chip) (t : Nat) (c : Core) : (setCore s t c).save = s.save := rfl
@[simp] theorem setCore_tb (s : Chip) (t : Nat) (c : Core) : (setCore s t c).tb = s.tb := rfl
@[simp] theorem setCore_sl (s : Chip) (t : Nat) (c : Core) : (setCore s t c).sl = s.sl := rfl
@[simp] theorem setCore_en (s : Chip) (t : Nat) (c : Core) : (setCore s t c).en = s.en := rfl
@[simp] theorem setCore_boot (s : Chip) (t : Nat) (c : Core) : (setCore s t c).boot = s.boot := rfl
@[simp] theorem setCore_flash (s : Chip) (t : Nat) (c : Core) : (setCore s t c).flash = s.flash := rfl
@[simp] theorem setCore_sec (s : Chip) (t : Nat) (c : Core) : (setCore s t c).sec = s.sec := rfl
@[simp] theorem setCore_prog (s : Chip) (t : Nat) (c : Core) : (setCore s t c).prog = s.prog := rfl
@[simp] theorem setCore_plats (s : Chip) (t : Nat) (c : Core) : (setCore s t c).plats = s.plats := rfl
@[simp] theorem setCore_ports (s : Chip) (t : Nat) (c : Core) : (setCore s t c).ports = s.ports := rfl
@[simp] theorem setCore_mem (s : Chip) (t : Nat) (c : Core) : (setCore s t c).mem = s.mem := rfl
@[simp] theorem setCore_disp (s : Chip) (t : Nat) (c : Core) : (setCore s t c).disp = s.disp := rfl
@[simp] theorem setCore_net (s : Chip) (t : Nat) (c : Core) : (setCore s t c).net = s.net := rfl
@[simp] theorem setCore_rdma (s : Chip) (t : Nat) (c : Core) : (setCore s t c).rdma = s.rdma := rfl
@[simp] theorem setCore_storage (s : Chip) (t : Nat) (c : Core) : (setCore s t c).storage = s.storage := rfl
@[simp] theorem setCore_engines (s : Chip) (t : Nat) (c : Core) : (setCore s t c).engines = s.engines := rfl
@[simp] theorem setCore_faults (s : Chip) (t : Nat) (c : Core) : (setCore s t c).faults = s.faults := rfl
@[simp] theorem setCore_cons (s : Chip) (t : Nat) (c : Core) : (setCore s t c).cons = s.cons := rfl
@[simp] theorem setCore_serv (s : Chip) (t : Nat) (c : Core) : (setCore s t c).serv = s.serv := rfl
@[simp] theorem setCore_weights (s : Chip) (t : Nat) (c : Core) : (setCore s t c).weights = s.weights := rfl
@[simp] theorem setCore_free (s : Chip) (t : Nat) (c : Core) : (setCore s t c).free = s.free := rfl
@[simp] theorem setCore_out (s : Chip) (t : Nat) (c : Core) : (setCore s t c).out = s.out := rfl
@[simp] theorem setCore_alert (s : Chip) (t : Nat) (c : Core) : (setCore s t c).alert = s.alert := rfl

@[simp] theorem emit_od (s : Chip) (o : Output) : (emit s o).od = s.od := rfl
@[simp] theorem emit_rej (s : Chip) (o : Output) : (emit s o).rej = s.rej := rfl
@[simp] theorem emit_events (s : Chip) (o : Output) : (emit s o).events = s.events := rfl
@[simp] theorem emit_save (s : Chip) (o : Output) : (emit s o).save = s.save := rfl
@[simp] theorem emit_tb (s : Chip) (o : Output) : (emit s o).tb = s.tb := rfl
@[simp] theorem emit_sl (s : Chip) (o : Output) : (emit s o).sl = s.sl := rfl
@[simp] theorem emit_en (s : Chip) (o : Output) : (emit s o).en = s.en := rfl
@[simp] theorem emit_boot (s : Chip) (o : Output) : (emit s o).boot = s.boot := rfl
@[simp] theorem emit_flash (s : Chip) (o : Output) : (emit s o).flash = s.flash := rfl
@[simp] theorem emit_sec (s : Chip) (o : Output) : (emit s o).sec = s.sec := rfl
@[simp] theorem emit_cores (s : Chip) (o : Output) : (emit s o).cores = s.cores := rfl
@[simp] theorem emit_prog (s : Chip) (o : Output) : (emit s o).prog = s.prog := rfl
@[simp] theorem emit_plats (s : Chip) (o : Output) : (emit s o).plats = s.plats := rfl
@[simp] theorem emit_ports (s : Chip) (o : Output) : (emit s o).ports = s.ports := rfl
@[simp] theorem emit_mem (s : Chip) (o : Output) : (emit s o).mem = s.mem := rfl
@[simp] theorem emit_disp (s : Chip) (o : Output) : (emit s o).disp = s.disp := rfl
@[simp] theorem emit_net (s : Chip) (o : Output) : (emit s o).net = s.net := rfl
@[simp] theorem emit_rdma (s : Chip) (o : Output) : (emit s o).rdma = s.rdma := rfl
@[simp] theorem emit_storage (s : Chip) (o : Output) : (emit s o).storage = s.storage := rfl
@[simp] theorem emit_engines (s : Chip) (o : Output) : (emit s o).engines = s.engines := rfl
@[simp] theorem emit_faults (s : Chip) (o : Output) : (emit s o).faults = s.faults := rfl
@[simp] theorem emit_cons (s : Chip) (o : Output) : (emit s o).cons = s.cons := rfl
@[simp] theorem emit_serv (s : Chip) (o : Output) : (emit s o).serv = s.serv := rfl
@[simp] theorem emit_weights (s : Chip) (o : Output) : (emit s o).weights = s.weights := rfl
@[simp] theorem emit_free (s : Chip) (o : Output) : (emit s o).free = s.free := rfl
@[simp] theorem emit_alert (s : Chip) (o : Output) : (emit s o).alert = s.alert := rfl

@[simp] theorem drivePins_od (s : Chip) : (drivePins s).od = s.od := rfl
@[simp] theorem drivePins_rej (s : Chip) : (drivePins s).rej = s.rej := rfl
@[simp] theorem drivePins_events (s : Chip) : (drivePins s).events = s.events := rfl
@[simp] theorem drivePins_save (s : Chip) : (drivePins s).save = s.save := rfl
@[simp] theorem drivePins_tb (s : Chip) : (drivePins s).tb = s.tb := rfl
@[simp] theorem drivePins_sl (s : Chip) : (drivePins s).sl = s.sl := rfl
@[simp] theorem drivePins_en (s : Chip) : (drivePins s).en = s.en := rfl
@[simp] theorem drivePins_boot (s : Chip) : (drivePins s).boot = s.boot := rfl
@[simp] theorem drivePins_flash (s : Chip) : (drivePins s).flash = s.flash := rfl
@[simp] theorem drivePins_sec (s : Chip) : (drivePins s).sec = s.sec := rfl
@[simp] theorem drivePins_cores (s : Chip) : (drivePins s).cores = s.cores := rfl
@[simp] theorem drivePins_prog (s : Chip) : (drivePins s).prog = s.prog := rfl
@[simp] theorem drivePins_plats (s : Chip) : (drivePins s).plats = s.plats := rfl
@[simp] theorem drivePins_ports (s : Chip) : (drivePins s).ports = s.ports := rfl
@[simp] theorem drivePins_mem (s : Chip) : (drivePins s).mem = s.mem := rfl
@[simp] theorem drivePins_disp (s : Chip) : (drivePins s).disp = s.disp := rfl
@[simp] theorem drivePins_net (s : Chip) : (drivePins s).net = s.net := rfl
@[simp] theorem drivePins_rdma (s : Chip) : (drivePins s).rdma = s.rdma := rfl
@[simp] theorem drivePins_storage (s : Chip) : (drivePins s).storage = s.storage := rfl
@[simp] theorem drivePins_engines (s : Chip) : (drivePins s).engines = s.engines := rfl
@[simp] theorem drivePins_faults (s : Chip) : (drivePins s).faults = s.faults := rfl
@[simp] theorem drivePins_cons (s : Chip) : (drivePins s).cons = s.cons := rfl
@[simp] theorem drivePins_serv (s : Chip) : (drivePins s).serv = s.serv := rfl
@[simp] theorem drivePins_weights (s : Chip) : (drivePins s).weights = s.weights := rfl
@[simp] theorem drivePins_free (s : Chip) : (drivePins s).free = s.free := rfl
@[simp] theorem drivePins_out (s : Chip) : (drivePins s).out = s.out := rfl

/-! ## The object store -/

/-- Numbers of two subindices differ. -/
theorem odKey_ne (o k o' k' : Nat) (h : k < 256) (h' : k' < 256) (ne : o ≠ o' ∨ k ≠ k') : odKey o k ≠ odKey o' k' := by
  unfold odKey; omega

/-- A read of the subindex just written. -/
@[simp] theorem odGet_odPut_same (s : Chip) (o k : Nat) (v : OdVal) : odGet (odPut s o k v) o k = v := by
  simp [odGet, odPut]

/-- A read of any other subindex. -/
theorem odGet_odPut_other (s : Chip) (o k o' k' : Nat) (v : OdVal) (h : odKey o' k' ≠ odKey o k) :
    odGet (odPut s o k v) o' k' = odGet s o' k' := by
  simp only [odGet, odPut]
  exact tget_tset_other _ _ _ _ _ _ h

@[simp] theorem odN_odSet_same (s : Chip) (o k n : Nat) : odN (odSet s o k n) o k = n := by
  simp [odN, odSet, OdVal.nat]

theorem odN_odSet_other (s : Chip) (o k o' k' n : Nat) (h : odKey o' k' ≠ odKey o k) :
    odN (odSet s o k n) o' k' = odN s o' k' := by
  simp [odN, odSet, odGet_odPut_other s o k o' k' _ h]

theorem odB_odSet_other (s : Chip) (o k o' k' n : Nat) (h : odKey o' k' ≠ odKey o k) :
    odB (odSet s o k n) o' k' = odB s o' k' := by
  simp [odB, odSet, odGet_odPut_other s o k o' k' _ h]

@[simp] theorem odB_odSetB_same (s : Chip) (o k : Nat) (b : Bytes) : odB (odSetB s o k b) o k = b := by
  simp [odB, odSetB, OdVal.blob]

/-- Objects are read from the object store alone. -/
theorem odGet_congr (s s' : Chip) (h : s.od = s'.od) (o k : Nat) : odGet s o k = odGet s' o k := by simp [odGet, h]

theorem odN_congr (s s' : Chip) (h : s.od = s'.od) (o k : Nat) : odN s o k = odN s' o k := by
  simp [odN, odGet_congr s s' h]

@[simp] theorem odN_setCore (s : Chip) (t : Nat) (c : Core) (o k : Nat) : odN (setCore s t c) o k = odN s o k := rfl

/-- The core just set. -/
@[simp] theorem coreOf_setCore_same (s : Chip) (t : Nat) (c : Core) : coreOf (setCore s t c) t = c := by
  simp [coreOf, setCore]

/-- Another core. -/
theorem coreOf_setCore_other (s : Chip) (t u : Nat) (c : Core) (h : u ≠ t) : coreOf (setCore s t c) u = coreOf s u := by
  simp [coreOf, setCore, tget_tput_other _ _ _ _ _ h]

/-- A core set twice is the core set last. -/
@[simp] theorem setCore_setCore (s : Chip) (t : Nat) (c c' : Core) : setCore (setCore s t c) t c' = setCore s t c' := by
  have tput_tput : ∀ (l : Table Core), tput (tput l t c) t c' = tput l t c' := by
    intro l
    induction l with
    | nil => simp [tput]
    | cons p r ih =>
      obtain ⟨k, v⟩ := p
      simp only [tput]
      split
      · simp [tput]
      · split
        · simp [tput]
        · next h1 h2 => simp [tput, h1, h2, ih]
  simp [setCore, tput_tput]

end Sys2Proof.Machine
end

