-- ==== Sys2Proof/Laws/Flags.lean ====
section
/-! SUPPORT. The status word and the issue of an instruction on a Tuital core: bits of SW after a flag write, and what a
command of a core that issues comes to. -/
namespace Sys2Proof.Machine

/-- One bit of a word set. -/
theorem swBit_setBit (w : W32) (i j : Nat) (v : Bool) (h : i < 32) : swBit (setBit w i v) j = if j = i then v else swBit w j := by
  unfold swBit setBit
  cases v
  · simp only [Bool.false_eq_true, if_false, BitVec.getLsbD_and, BitVec.getLsbD_not, BitVec.getLsbD_ofNat, Nat.testBit_two_pow]
    by_cases hj : j = i
    · subst hj; simp [h]
    · rw [if_neg hj]
      have : ¬ (i = j) := fun e => hj e.symm
      simp only [this, decide_false, Bool.and_false, Bool.not_false, Bool.and_true]
      by_cases h32 : j < 32
      · simp [h32]
      · simp [h32, BitVec.getLsbD_of_ge w j (by omega)]
  · simp only [if_true, BitVec.getLsbD_or, BitVec.getLsbD_ofNat, Nat.testBit_two_pow]
    by_cases hj : j = i
    · subst hj; simp [h]
    · have : ¬ (i = j) := fun e => hj e.symm
      simp [hj, this]

/-! The named bits of SW. -/
@[simp] theorem swBit_set_swC (w : W32) (j : Nat) (v : Bool) : swBit (setBit w swC v) j = if j = swC then v else swBit w j :=
  swBit_setBit w swC j v (by decide)
@[simp] theorem swBit_set_swV (w : W32) (j : Nat) (v : Bool) : swBit (setBit w swV v) j = if j = swV then v else swBit w j :=
  swBit_setBit w swV j v (by decide)
@[simp] theorem swBit_set_swZ (w : W32) (j : Nat) (v : Bool) : swBit (setBit w swZ v) j = if j = swZ then v else swBit w j :=
  swBit_setBit w swZ j v (by decide)
@[simp] theorem swBit_set_swN (w : W32) (j : Nat) (v : Bool) : swBit (setBit w swN v) j = if j = swN then v else swBit w j :=
  swBit_setBit w swN j v (by decide)
@[simp] theorem swBit_set_swSat (w : W32) (j : Nat) (v : Bool) : swBit (setBit w swSat v) j = if j = swSat then v else swBit w j :=
  swBit_setBit w swSat j v (by decide)
@[simp] theorem swBit_set_swSt (w : W32) (j : Nat) (v : Bool) : swBit (setBit w swSt v) j = if j = swSt then v else swBit w j :=
  swBit_setBit w swSt j v (by decide)
@[simp] theorem swBit_set_swIe (w : W32) (j : Nat) (v : Bool) : swBit (setBit w swIe v) j = if j = swIe then v else swBit w j :=
  swBit_setBit w swIe j v (by decide)
@[simp] theorem swBit_set_swPie (w : W32) (j : Nat) (v : Bool) : swBit (setBit w swPie v) j = if j = swPie then v else swBit w j :=
  swBit_setBit w swPie j v (by decide)
@[simp] theorem swBit_set_swExl (w : W32) (j : Nat) (v : Bool) : swBit (setBit w swExl v) j = if j = swExl then v else swBit w j :=
  swBit_setBit w swExl j v (by decide)

/-- The bits of SW after a write of the flags. -/
theorem swBit_setNzvc (w : W32) (f : Nzvc) (j : Nat) :
    swBit (setNzvc w f) j = if j = 0 then f.c else if j = 1 then f.v else if j = 2 then f.z else if j = 3 then f.n
      else swBit w j := by
  unfold setNzvc
  rw [swBit_setBit _ _ _ _ (by decide), swBit_setBit _ _ _ _ (by decide), swBit_setBit _ _ _ _ (by decide),
    swBit_setBit _ _ _ _ (by decide)]

@[simp] theorem dr_setD_same (c : Core) (r : Fin 16) (v : W32) : (c.setD r v).dr r = v := by simp [Core.dr, Core.setD]

theorem dr_setD_other (c : Core) (r x : Fin 16) (v : W32) (h : x ≠ r) : (c.setD r v).dr x = c.dr x := by
  simp only [Core.dr, Core.setD]
  exact tget_tput_other _ _ _ _ _ (fun e => h (Fin.ext e))

@[simp] theorem ar_setA_same (c : Core) (r : Fin 16) (v : W48) : (c.setA r v).ar r = v := by simp [Core.ar, Core.setA]

theorem ar_setA_other (c : Core) (r x : Fin 16) (v : W48) (h : x ≠ r) : (c.setA r v).ar x = c.ar x := by
  simp only [Core.ar, Core.setA]
  exact tget_tput_other _ _ _ _ _ (fun e => h (Fin.ext e))

@[simp] theorem ac_setAcc_same (c : Core) (r : Fin 16) (v : W80) : (c.setAcc r v).ac r = v := by simp [Core.ac, Core.setAcc]

theorem ac_setAcc_other (c : Core) (r x : Fin 16) (v : W80) (h : x ≠ r) : (c.setAcc r v).ac x = c.ac x := by
  simp only [Core.ac, Core.setAcc]
  exact tget_tput_other _ _ _ _ _ (fun e => h (Fin.ext e))

/-- A core that issues carries out the instruction. -/
theorem issue_ready (s : State) (t : Nat) (f : Chip → InsRes) (h : Ready s t) :
    issue s.chip t f = retire s.chip t (f s.chip) := by
  obtain ⟨h1, h2, h3, h4, h5⟩ := h
  simp [issue, issues, h1, h2, h3, h4, h5]

/-- An instruction that changes only its core. -/
theorem run_onCore (s : State) (t : Nat) (f : Core → Core) (h : Ready s t) :
    run s (fun x => issue x t (onCore t f))
      = coreBecomes s t { f (coreOf s.chip t) with pc := (coreOf s.chip t).pc + 4 } := by
  simp [run, issue_ready s t _ h, onCore, retire, coreBecomes, becomes, Core.next]

end Sys2Proof.Machine
end

