-- ==== Sys2Proof/Laws/Ops.lean ====
section
/-! SUPPORT. What the shared operations do: requests on action objects, object writes, events, exception entry. -/
namespace Sys2Proof.Machine

/-- A request that passes the checks is counted nowhere. -/
theorem execCheck_ok (c : Chip) (rq : Rq) (obj : Nat) (arg : Bytes) (h : (execCheck c rq obj arg).1 = 0) :
    execCheck c rq obj arg = (0, c) := by
  have aux : ∀ x : Option (OdDef × Nat), resolve (domainOf c rq) obj = x → execCheck c rq obj arg = (0, c) := by
    intro x hx
    cases x with
    | none => simp [execCheck, hx] at h
    | some p =>
      simp only [execCheck, hx] at h ⊢
      by_cases h1 : servedNow c obj = false
      · simp [h1] at h
      · by_cases h2 : p.1.acc (domainOf c rq) = 4
        · by_cases h3 : (arg.length : Int) < p.1.lo ∨ p.1.hi < (arg.length : Int)
          · simp [h1, h2, h3] at h
          · simp [h1, h2, h3]
        · simp [h1, h2] at h
  exact aux _ rfl

/-- An accepted request whose action answers ok without bytes is acknowledged. -/
theorem actionRow_acks (act : Act) (s : State) (rq : Rq) (obj : Nat) (arg : Bytes) (b : Chip)
    (h : Accepted s rq obj arg) (hb : act s.chip rq arg = (0, [], b)) : run s (actionRow act obj rq arg) = acks s rq b := by
  obtain ⟨h1, h2, h3⟩ := h
  simp [run, actionRow, h1, h2, execCheck_ok _ _ _ _ h3, hb, acks, becomes, actEntry]

/-- The same with answer bytes (a BLOB entry). -/
theorem actionRow_acksWith (act : Act) (s : State) (rq : Rq) (obj : Nat) (arg bytes : Bytes) (b : Chip)
    (h : Accepted s rq obj arg) (ho : obj ≠ 0x01110) (hn : bytes ≠ []) (hb : act s.chip rq arg = (0, bytes, b)) :
    run s (actionRow act obj rq arg) = acksWith s rq obj bytes b := by
  obtain ⟨h1, h2, h3⟩ := h
  simp [run, actionRow, h1, h2, execCheck_ok _ _ _ _ h3, hb, acksWith, becomes, actEntry, ho, hn]

/-- An accepted request whose action refuses is answered with the status. -/
theorem actionRow_refuses (act : Act) (s : State) (rq : Rq) (obj : Nat) (arg bytes : Bytes) (b : Chip) (e : Nat)
    (h : Accepted s rq obj arg) (he : e ≠ 0) (he' : e ≤ 0x0B) (hb : act s.chip rq arg = (e, bytes, b)) :
    run s (actionRow act obj rq arg) = refuses s rq e b := by
  obtain ⟨h1, h2, h3⟩ := h
  simp [run, actionRow, h1, h2, execCheck_ok _ _ _ _ h3, hb, refuses, becomes, errAnswer, he, he']

/-- A write of one subindex keeps the others. -/
theorem keeps_odPut (c : Chip) (o k : Nat) (v : OdVal) (hk : k < 256) : Keeps c (odPut c o k v) [(o, k)] := by
  intro o' k' hk' hn
  apply odGet_odPut_other
  apply odKey_ne
  all_goals simp at hn
  all_goals omega

/-- Nothing written, nothing changed. -/
theorem keeps_of_od (c b : Chip) (h : b.od = c.od) : Keeps c b [] := by
  intro o k _ _
  simp [odGet, h]

/-- Frames compose. -/
theorem keeps_trans (a b c : Chip) (l m : List (Nat × Nat)) (h : Keeps a b l) (g : Keeps b c m) : Keeps a c (l ++ m) := by
  intro o k hk hn
  simp at hn
  rw [g o k hk (by simpa using hn.2), h o k hk (by simpa using hn.1)]

/-- A frame may name more. -/
theorem keeps_mono (a b : Chip) (l m : List (Nat × Nat)) (h : Keeps a b l) (g : ∀ x ∈ l, x ∈ m) : Keeps a b m :=
  fun o k hk hn => h o k hk (fun hx => hn (g _ hx))

end Sys2Proof.Machine
end

