-- ==== Sys2Proof/Laws/Cores.lean ====
section
/-! SUPPORT. What data instructions and exception entry leave of a Tuital core. -/
namespace Sys2Proof.Machine

/-- A move into a D register. -/
theorem move_result (c : Core) (rd : Fin 16) (r : W32) : MoveResult c { c.setD rd r with pc := c.pc + 4 } rd r :=
  ⟨dr_setD_same _ _ _, fun _ hy => dr_setD_other _ _ _ _ hy, rfl⟩

/-- A write of an A register. -/
theorem addr_result (c : Core) (rd : Fin 16) (r : W48) : AddrResult c { c.setA rd r with pc := c.pc + 4 } rd r :=
  ⟨ar_setA_same _ _ _, fun _ hy => ar_setA_other _ _ _ _ hy, rfl⟩

/-- The core that entry leaves. -/
abbrev entered (x : Core) (cause sub : Nat) (epc : W18) (addr : Option W48) : Core :=
  { x with
    pc := x.vbase + BitVec.ofNat 18 (16 * cause)
    epc := epc
    wait := .none
    faddr := addr.getD x.faddr
    ecause := BitVec.ofNat 32 (ecauseOf cause sub)
    sw := setBit (setBit (setBit x.sw swPie (swBit x.sw swIe)) swIe false) swExl true }

/-- Entry that is not a double fault does what `Enters` says, whatever the instruction made of the pc and the wait. -/
theorem enters_of (s : State) (t cause sub : Nat) (epc : W18) (addr : Option W48) (x : Core) (ht : t < 24)
   (hx : { coreOf s.chip t with pc := x.pc, wait := x.wait} = x) 
    (he : cause ≤ 8 → swBit (coreOf s.chip t).sw swExl = false) (hs : sub < 256) (hc : cause < 256) :
    Enters s t cause sub epc (addr.getD (coreOf s.chip t).faddr) (enterException (setCore s.chip t x) t cause sub epc addr) := by
  have e1 : x.sw = (coreOf s.chip t).sw := by rw [← hx]
  have e2 : x.faddr = (coreOf s.chip t).faddr := by rw [← hx]
  have e3 : x.vbase = (coreOf s.chip t).vbase := by rw [← hx]
  have : ¬ (cause ≤ 8 ∧ swBit x.sw swExl = true) := by
    rintro ⟨a, b⟩; rw [e1, he a] at b; simp at b
  simp only [enterException, coreOf_setCore_same, this, if_false, ite_false]
  have hcore : coreOf (setCoreState (odSet (odInc (setCore (setCore s.chip t x) t (entered x cause sub epc addr))
      0x08002 (t + 1)) 0x08003 (t + 1) (ecauseOf cause sub)) t 2) t = entered x cause sub epc addr := by
    simp [coreOf, setCoreState, setCore]
  refine ⟨?_, ?_, ?_, ?_, ?_, ?_, ?_, ?_, ?_, ?_, ?_, ?_, ?_, ?_⟩
  all_goals try simp only [hcore]
  · simp [ecauseOf, Nat.mod_eq_of_lt hs, Nat.mod_eq_of_lt hc]
  · rw [e3]
  · simp [e1]
  · simp
  · simp
  · intro j a b c; simp [a,b,c,e1]
  · rw [← hx]
  · intro u hu
    simp [coreOf, setCoreState, setCore, tget_tput_other _ _ _ _ _ hu]
  · simp only [setCoreState, odInc]
    rw [odN_odSet_other, odN_odSet_other, odN_odSet_same]; simp
    all_goals apply odKey_ne <;> omega
  · simp only [setCoreState]
    rw [odN_odSet_other, odN_odSet_same]; simp [ecauseOf, Nat.mod_eq_of_lt hs, Nat.mod_eq_of_lt hc]
    all_goals apply odKey_ne <;> omega
  · simp [setCoreState, coreState]
  · intro o k hk hn
    simp only [setCoreState, odSet, odInc]
    rw [odGet_odPut_other, odGet_odPut_other, odGet_odPut_other]
    · rfl
    all_goals apply odKey_ne <;> omega
  · simp [setCoreState, odSet, odInc, odPut, setCore]

end Sys2Proof.Machine
end

