-- ==== Sys2Proof/Tests/Slice0.lean ====
section
/-! SUPPORT. Tests: ill-formed commands that each check of WellFormed refuses, worked examples of the spec, and one named
witness for each claim, in which concrete states and operands meet the hypotheses of its clauses together. -/
set_option maxRecDepth 20000
set_option Elab.async false
namespace Sys2Proof.Machine.Tests

def mk (n : Nat) (l : List (Nat × Nat × Nat)) : Bytes := l.foldl (fun b x => setFld b x.1 x.2.1 x.2.2) (zeros n)
def sgb (cls : Nat) : Bytes := leBytes 4 0x4749534E ++ leBytes 1 cls ++ zeros 7415
def pairOf (cls : Nat) : Bytes := sha384 (((sgb cls).drop 8).take 2592) ++ sha384 (((sgb cls).drop 2600).take 96)

/-! ## Ill-formed commands, one for each check of WellFormed -/

/-- A well-formed request, and requests with an address, a SEQ or a number out of its range. -/
theorem test_wf_requests :
    Instr.wf (.read ⟨.field 7, 1, 0, false, true⟩ []) = true ∧ Instr.wf (.read ⟨.field (2 ^ 48), 1, 0, false, true⟩ []) = false
    ∧ Instr.wf (.read ⟨.inband 16 0, 1, 0, false, true⟩ []) = false ∧ Instr.wf (.read ⟨.inband 0 16, 1, 0, false, true⟩ []) = false
    ∧ Instr.wf (.read ⟨.plat 64, 1, 0, false, true⟩ []) = false ∧ Instr.wf (.read ⟨.core 24, 1, 0, false, true⟩ []) = false
    ∧ Instr.wf (.read ⟨.pf0, 65536, 0, false, true⟩ []) = false ∧ Instr.wf (.read ⟨.pf0, 0, 65536, false, true⟩ []) = false := by
  decide

/-- Entries: 64 at most, and each field in its range. -/
theorem test_wf_entries :
    entriesWf (List.replicate 64 ⟨0xFFFFF, 255, 255, 1, []⟩) = true ∧ entriesWf (List.replicate 65 ⟨0, 0, 0, 0, []⟩) = false
    ∧ entryWf ⟨2 ^ 20, 0, 0, 0, []⟩ = false ∧ entryWf ⟨0, 256, 0, 0, []⟩ = false ∧ entryWf ⟨0, 0, 256, 0, []⟩ = false
    ∧ entryWf ⟨0, 0, 0, 2, []⟩ = false ∧ entryWf ⟨0, 0, 0, 0, zeros 65536⟩ = false := by
  decide +kernel

/-- Arguments, frames, datagrams, submission entries. -/
theorem test_wf_sizes :
    argWf (zeros 255) = true ∧ argWf (zeros 256) = false ∧ sqeWf (zeros 64) = true ∧ sqeWf (zeros 63) = false
    ∧ frameWf ⟨2 ^ 48, 0, 0, true, []⟩ = false ∧ frameWf ⟨0, 2 ^ 48, 0, true, []⟩ = false
    ∧ frameWf ⟨0, 0, 65536, true, []⟩ = false ∧ frameWf ⟨0, 0, 0, true, zeros 1501⟩ = false := by
  decide +kernel

/-- Cores, mailboxes, platforms, sub-ports, handles. -/
theorem test_wf_numbers :
    coreWf 23 = true ∧ coreWf 24 = false ∧ mailboxWf 64 = true ∧ mailboxWf 65 = false ∧ platWf 63 = true ∧ platWf 64 = false
    ∧ subPortWf 15 = true ∧ subPortWf 16 = false ∧ handleWf 8 = true ∧ handleWf 9 = false := by
  decide

/-! ## Worked examples of the spec -/

/-- 18, "one screening layer": 8,408 steps, 9 units; with 2 µJ and 22,300 nJ a unit, 203 µJ. -/
theorem test_screening_layer :
    (let b := mk 64 [(0, 1, 1), (3, 1, 0x33), (4, 1, 2), (10, 2, 256), (12, 2, 512), (16, 4, 4096)]
     jobSteps b = 8408 ∧ jobUnits b = 9 ∧ matStream b = (8192, 64))
    ∧ estimate (odSet (odSet Chip.cold 0x02800 1 2) 0x02800 2 22300) 0 9 = 203 := by
  decide +kernel

/-- 18: the MXFP4 code 0b0110 is 4, and 0.5 under the scale byte 0x7C. -/
theorem test_mx_value :
    (convFloat 0 false (decodeFv 7 6)).raw = 0x40800000 ∧ (convFloat 0 false (mxValue 7 6 0x7C)).raw = 0x3F000000 := by
  decide +kernel

/-- 12: the cache set of the byte 0x0000_0007_4D2A_1C40. -/
theorem test_cache_set : cacheSet 0x000000074D2A1C40 = 0x5375 := by decide +kernel

/-- 15: a rate of 100,000,000 kb/s falls to 95,000,000 at a round trip of 25,000 ns. -/
theorem test_transit_rate :
    newRate (odSetB Chip.cold 0x24020 1 (mk 64 [(16, 2, 64), (20, 4, 10000), (24, 4, 20000)])) 0 100000000 25000 0 400000000 false
      = 95000000 := by
  decide +kernel

/-- 14: 4,178 bytes at 25 Gb/s give a gap of 1,343.36 ns, about 84 slots. -/
theorem test_pacing_gap :
    let s := paceSent Chip.cold 9 25000000 4178
    (tget ⟨0, none, 0⟩ s.net.paces 9).e / 65536 = 1343 ∧ (tget ⟨0, none, 0⟩ s.net.paces 9).slot = some 83 := by
  decide +kernel

/-- 10, Table 10-9: the transactions of a write of 16,384 bytes at 0x0040_1800. -/
theorem test_transactions :
    transactions 0x401800 0x4000
      = [(0x401800, 0x800), (0x402000, 0x1000), (0x403000, 0x1000), (0x404000, 0x1000), (0x405000, 0x800)] := by
  decide +kernel

/-- 01 and 19: signal 0x740 is homed on AD1. -/
theorem test_signal_home : sigHome 0x740 = some 1 := by decide +kernel

/-- 02: 128,205 handshakes in a window read as 780,000 fs in OD 01.049:2. -/
theorem test_step_meter :
    ∃ t, exec (.stepMeterWindow 2 128205) ⟨{ Chip.cold with tb := { Chip.cold.tb with gateEnd := [(2, 0)] } }, []⟩ = .next t
      ∧ odN t.chip 0x01049 2 = 780000 :=
  ⟨_, rfl, by decide +kernel⟩


/-! ## Images and slots with valid digests -/

/-- An image: 32 header bytes, the digest of its body, 44 more, the CRC, the body, its signature block. -/
def image (pre mid body sig : Bytes) : Bytes :=
  let h := pre ++ (sha384 body ++ mid)
  h ++ (leBytes 4 (crc32 h) ++ (body ++ sig))

theorem image_length (pre mid body sig : Bytes) (h : pre.length = 32) (h' : mid.length = 44) :
    (image pre mid body sig).length = 128 + body.length + sig.length := by
  simp [image, sha384, leBytes_length, h, h']
  omega

theorem image_fld (pre mid body sig : Bytes) (h : pre.length = 32) (o n : Nat) (ho : o + n ≤ 32) :
    fld (image pre mid body sig) o n = fld pre o n := by
  simp only [image, List.append_assoc]
  exact fld_left _ _ _ _ (by omega)

theorem image_mid (pre mid body sig : Bytes) (h : pre.length = 32) (h' : mid.length = 44) (o n : Nat) (ho : o + n ≤ 44) :
    fld (image pre mid body sig) (80 + o) n = fld mid o n := by
  have e : image pre mid body sig
      = (pre ++ sha384 body) ++ (mid ++ (leBytes 4 (crc32 (pre ++ (sha384 body ++ mid))) ++ (body ++ sig))) := by
    simp [image]
  rw [e, fld_right _ _ 80 _ _ (by simp [sha384, leBytes_length, h]), fld_left _ _ _ _ (by omega)]

theorem image_ok (s : Chip) (kind cls m : Nat) (pre mid body sig : Bytes) (h : pre.length = 32) (h' : mid.length = 44)
    (h1 : fld pre 0 4 = 0x474D494E) (h2 : fld pre 4 2 = 1) (h3 : fld pre 6 2 = kind) (h4 : fld pre 28 4 = 0)
    (h5 : isZero ((mid.drop 8).take 36) = true) (h6 : fld pre 20 4 = body.length) (h7 : fld mid 0 4 = 128 + body.length)
    (h8 : fld mid 4 4 = sig.length) (hs : sigBlockOk s cls sig true = true) (hv : m ≤ fld pre 12 4)
    (hl : fld pre 16 4 + body.length ≤ 262144 ∧ fld pre 16 4 ≤ fld pre 24 4 ∧ fld pre 24 4 < fld pre 16 4 + body.length
      ∧ fld pre 24 4 % 4 = 0) (v : Bool) :
    imageCheck s (image pre mid body sig) kind cls m v = if v then 0 else 2 := by
  have l := image_length pre mid body sig h h'
  have e1 : image pre mid body sig = pre ++ (sha384 body ++ (mid ++ (leBytes 4 (crc32 (pre ++ (sha384 body ++ mid)))
      ++ (body ++ sig)))) := by simp [image]
  have e2 : image pre mid body sig = (pre ++ (sha384 body ++ mid) ++ leBytes 4 (crc32 (pre ++ (sha384 body ++ mid))))
      ++ (body ++ sig) := by simp [image]
  have dl : (sha384 body).length = 48 := leBytes_length _ _
  have hbody : imgBody (image pre mid body sig) = body := by
    unfold imgBody imgLength
    rw [image_fld _ _ _ _ h 20 4 (by omega), h6, e2]
    exact take_mid _ _ _ _ _ (by simp [leBytes_length, dl, h, h']) rfl
  have hdig : ((image pre mid body sig).drop 32).take 48 = sha384 body := by
    rw [e1]; exact take_mid _ _ _ _ _ h.symm dl.symm
  have hcrc : fld (image pre mid body sig) 124 4 = crc32 ((image pre mid body sig).take 124) := by
    have t : (image pre mid body sig).take 124 = pre ++ (sha384 body ++ mid) := by
      unfold image
      rw [List.take_append_of_le_length (by simp [dl, h, h'])]
      exact List.take_of_length_le (by simp [dl, h, h'])
    rw [t]
    show fld (_ ++ _) (124 + 0) 4 = _
    rw [fld_right _ _ 124 _ _ (by simp [dl, h, h']), fld_left _ _ _ _ (by simp [leBytes_length])]
    unfold fld
    rw [List.drop_zero, List.take_of_length_le (by simp [leBytes_length]), leNat_leBytes]
    exact Nat.mod_eq_of_lt (crc32_lt _)
  have hz : isZero (((image pre mid body sig).drop 88).take 36) = true := by
    have : ((image pre mid body sig).drop 88).take 36 = (mid.drop 8).take 36 := by
      have e3 : image pre mid body sig
          = (pre ++ sha384 body) ++ (mid ++ (leBytes 4 (crc32 (pre ++ (sha384 body ++ mid))) ++ (body ++ sig))) := by
        simp [image]
      have hp : (pre ++ sha384 body).length = 80 := by simp [dl, h]
      rw [e3, List.drop_append, hp, List.drop_eq_nil_of_le (by omega), List.nil_append,
        List.drop_append_of_le_length (by omega), List.take_append_of_le_length (by simp; omega)]
    rw [this, h5]
  have hok : headerOk (image pre mid body sig) kind = true := by
    simp [headerOk, imgKind, imgLength, image_fld _ _ _ _ h, h1, h2, h3, h4, hz, hcrc, hdig, hbody, l, h6]
    omega
  have hsig : imgSig (image pre mid body sig) = sig := by
    unfold imgSig
    have a := image_mid pre mid body sig h h' 0 4 (by omega)
    have b := image_mid pre mid body sig h h' 4 4 (by omega)
    simp only [Nat.add_zero] at a
    rw [a, b, h7, h8]
    have e4 : image pre mid body sig = (pre ++ (sha384 body ++ mid) ++ leBytes 4 (crc32 (pre ++ (sha384 body ++ mid))) ++ body)
      ++ (sig ++ []) := by simp [image]
    rw [e4]
    exact take_mid _ _ _ _ _ (by simp [leBytes_length, dl, h, h']; omega) rfl
  have hlay : layoutOk (image pre mid body sig) = true := by
    simp [layoutOk, imgLoad, imgLength, imgEntry, image_fld _ _ _ _ h, h6]
    omega
  have hsec : ¬ imgSecurity (image pre mid body sig) < m := by
    simp only [imgSecurity, image_fld _ _ _ _ h 12 4 (by omega)]
    omega
  cases v with
  | true => simp [imageCheck, hok, hsig, hs, hsec, hlay]
  | false =>
    have : sigBlockOk s cls sig false = false := by simp [sigBlockOk]
    simp [imageCheck, hok, hsig, this]

/-- A signature block whose key pair is held. -/
theorem sgb_ok (s : Chip) (cls : Nat) (hc : cls < 3) (h : hashPair s cls 0 = pairOf cls) (hr : keyRevoked s cls 0 = false) :
    sigBlockOk s cls (sgb cls) true = true := by
  have f : ∀ c < 3, (sgb c).length = 7420 ∧ fld (sgb c) 0 4 = 0x4749534E ∧ fld (sgb c) 4 1 = c ∧ fld (sgb c) 5 1 = 0
      ∧ fld (sgb c) 6 2 = 0 ∧ fld (sgb c) 7323 1 = 0 := by decide +kernel
  obtain ⟨a, b, c, d, e, g⟩ := f cls hc
  have : sha384 (((sgb cls).drop 8).take 2592) ++ sha384 (((sgb cls).drop 2600).take 96) = pairOf cls := rfl
  simp [sigBlockOk, a, b, c, d, e, g, h, hr, this]

def imgPre (kind n : Nat) : Bytes := mk 32 [(0,4,0x474D494E),(4,2,1),(6,2,kind),(8,4,77),(12,4,7),(20,4,n)]
def imgMid (n : Nat) : Bytes := mk 44 [(0,4,128 + n),(4,4,7420)]
/-- An image of kind `k` with a body of 4 bytes. -/
def img (k cls : Nat) : Bytes := image (imgPre k 4) (imgMid 4) (leBytes 4 k) (sgb cls)

theorem img_ok (s : Chip) (k cls m : Nat) (hk : k < 6) (hc : cls < 3) (h : hashPair s cls 0 = pairOf cls)
    (hr : keyRevoked s cls 0 = false) (hm : m ≤ 7) (v : Bool) : imageCheck s (img k cls) k cls m v = if v then 0 else 2 := by
  have a : ∀ k < 6, (imgPre k 4).length = 32 ∧ fld (imgPre k 4) 0 4 = 0x474D494E ∧ fld (imgPre k 4) 4 2 = 1
      ∧ fld (imgPre k 4) 6 2 = k ∧ fld (imgPre k 4) 28 4 = 0 ∧ fld (imgPre k 4) 20 4 = 4 ∧ fld (imgPre k 4) 12 4 = 7
      ∧ fld (imgPre k 4) 16 4 = 0 ∧ fld (imgPre k 4) 24 4 = 0 := by decide +kernel
  obtain ⟨a1, a2, a3, a4, a5, a6, a7, a8, a9⟩ := a k hk
  have b : (imgMid 4).length = 44 ∧ isZero (((imgMid 4).drop 8).take 36) = true ∧ fld (imgMid 4) 0 4 = 132
      ∧ fld (imgMid 4) 4 4 = 7420 := by decide +kernel
  obtain ⟨b1, b2, b3, b4⟩ := b
  have c : ∀ c < 3, (sgb c).length = 7420 := by decide +kernel
  exact image_ok s k cls m _ _ _ _ a1 b1 a2 a3 a4 a5 b2 (by simp [a6, leBytes_length]) (by simp [b3, leBytes_length])
    (by rw [b4, c cls hc]) (sgb_ok s cls hc h hr) (by omega) (by simp [a8, a9, leBytes_length]) v

/-- A slot with one image of each of the kinds 1 to 4. -/
def slot : Bytes :=
  (leBytes 4 4 ++ ((List.range 4).map (fun i => leBytes 4 (36 + 7552 * i) ++ leBytes 4 7552)).flatten)
    ++ (img 1 0 ++ (img 2 0 ++ (img 3 0 ++ (img 4 0 ++ []))))

theorem img_length (k cls : Nat) (hc : cls < 3) (hk : k < 6) : (img k cls).length = 7552 := by
  have a : ∀ k < 6, (imgPre k 4).length = 32 := by decide +kernel
  have c : ∀ c < 3, (sgb c).length = 7420 := by decide +kernel
  rw [img, image_length _ _ _ _ (a k hk) (by decide +kernel), c cls hc, leBytes_length]

theorem img_kind (k cls : Nat) (hk : k < 6) : imgKind (img k cls) = k := by
  have a : ∀ k < 6, (imgPre k 4).length = 32 ∧ fld (imgPre k 4) 6 2 = k := by decide +kernel
  rw [imgKind, img, image_fld _ _ _ _ (a k hk).1 6 2 (by omega), (a k hk).2]

theorem slot_images : slotImages slot = [img 1 0, img 2 0, img 3 0, img 4 0] := by
  have l1 := img_length 1 0 (by omega) (by omega)
  have l2 := img_length 2 0 (by omega) (by omega)
  have l3 := img_length 3 0 (by omega) (by omega)
  have l4 := img_length 4 0 (by omega) (by omega)
  have d : ∀ o n, o + n ≤ 36 → fld slot o n
      = fld (leBytes 4 4 ++ ((List.range 4).map (fun i => leBytes 4 (36 + 7552 * i) ++ leBytes 4 7552)).flatten) o n :=
    fun o n h => fld_left _ _ _ _ h
  have n0 : fld slot 0 4 = 4 := by rw [d 0 4 (by omega)]; decide +kernel
  have o : ∀ i < 4, fld slot (4 + 8 * i) 4 = 36 + 7552 * i ∧ fld slot (8 + 8 * i) 4 = 7552 := by
    intro i hi
    rw [d _ 4 (by omega), d _ 4 (by omega)]
    revert i
    decide +kernel
  have t1 : (slot.drop 36).take 7552 = img 1 0 := take_mid _ _ _ _ _ rfl l1.symm
  have e2 : slot = ((leBytes 4 4 ++ ((List.range 4).map (fun i => leBytes 4 (36 + 7552 * i) ++ leBytes 4 7552)).flatten)
    ++ img 1 0) ++ (img 2 0 ++ (img 3 0 ++ (img 4 0 ++ []))) := by simp [slot]
  have e3 : slot = ((leBytes 4 4 ++ ((List.range 4).map (fun i => leBytes 4 (36 + 7552 * i) ++ leBytes 4 7552)).flatten)
    ++ img 1 0 ++ img 2 0) ++ (img 3 0 ++ (img 4 0 ++ [])) := by simp [slot]
  have e4 : slot = ((leBytes 4 4 ++ ((List.range 4).map (fun i => leBytes 4 (36 + 7552 * i) ++ leBytes 4 7552)).flatten)
    ++ img 1 0 ++ img 2 0 ++ img 3 0) ++ (img 4 0 ++ []) := by simp [slot]
  have t2 : (slot.drop 7588).take 7552 = img 2 0 := by
    rw [e2]; exact take_mid _ _ _ _ _ (by rw [List.length_append, l1]; rfl) l2.symm
  have t3 : (slot.drop 15140).take 7552 = img 3 0 := by
    rw [e3]; exact take_mid _ _ _ _ _ (by rw [List.length_append, List.length_append, l1, l2]; rfl) l3.symm
  have t4 : (slot.drop 22692).take 7552 = img 4 0 := by
    rw [e4]
    exact take_mid _ _ _ _ _ (by rw [List.length_append, List.length_append, List.length_append, l1, l2, l3]; rfl) l4.symm
  have r : List.range 4 = [0, 1, 2, 3] := rfl
  simp only [slotImages, n0, r, List.map]
  rw [(o 0 (by omega)).1, (o 1 (by omega)).1, (o 2 (by omega)).1, (o 3 (by omega)).1, (o 0 (by omega)).2, (o 1 (by omega)).2,
    (o 2 (by omega)).2, (o 3 (by omega)).2]
  simp [t1, t2, t3, t4]

/-- Each image of the slot passes with a valid signature, and none without one. -/
theorem slot_ok (s : Chip) (k : Nat) (hb : slotBytes s k = slot) (h : hashPair s 0 0 = pairOf 0)
    (hr : keyRevoked s 0 0 = false) (hm : minSec s ≤ 7) (i : Nat) (h1 : 1 ≤ i) (h4 : i ≤ 4) (v : Bool) :
    slotImageOk s k i v = v := by
  have k1 := img_kind 1 0 (by omega)
  have k2 := img_kind 2 0 (by omega)
  have k3 := img_kind 3 0 (by omega)
  have k4 := img_kind 4 0 (by omega)
  have : slotImage slot i = some (img i 0) := by
    have : i = 1 ∨ i = 2 ∨ i = 3 ∨ i = 4 := by omega
    rcases this with rfl | rfl | rfl | rfl <;> simp [slotImage, slot_images, k1, k2, k3, k4]
  simp only [slotImageOk, hb, this, img_ok s i 0 _ (by omega) (by omega) h hr hm v]
  cases v <;> rfl

/-- Extending a measurement changes neither the revoked keys nor the security version in force. -/
theorem keyRevoked_extend (s : Chip) (v : Bytes) : keyRevoked (extendMr s 0 v) 0 0 = keyRevoked s 0 0 := by
  simp only [keyRevoked, odN, extendMr, odSetB]
  rw [odGet_odPut_other _ _ _ _ _ _ (by decide)]

theorem minSec_extend (s : Chip) (v : Bytes) : minSec (extendMr s 0 v) = minSec s := by
  have : odN (extendMr s 0 v) 0x04005 0 = odN s 0x04005 0 := by
    simp only [odN, extendMr, odSetB]
    rw [odGet_odPut_other _ _ _ _ _ _ (by decide)]
  simp only [minSec, minSecurity, this]
  rfl

theorem usable_of (s : Chip) (k : Nat) (hb : slotBytes s k = slot) (h : hashPair s 0 0 = pairOf 0)
    (hr : keyRevoked s 0 0 = false) (hm : minSec s ≤ 7) : slotUsable s k [true, true, true, true] = true := by
  simp only [slotUsable, List.all_eq_true, List.mem_range]
  intro i hi
  rw [slot_ok s k hb h hr hm (i + 1) (by omega) (by omega)]
  revert i
  decide


/-! ## States that the witnesses share -/

def chipOf (o : Host.Outcome Machine.State Fault Refusal) (s : State) : Chip :=
  match o with
  | .next t => { t.chip with alert := s.chip.alert }
  | _ => s.chip
def withOd (c : Chip) (l : List (Nat × Nat × Nat)) : Chip := l.foldl (fun c x => odSet c x.1 x.2.1 x.2.2) c
def withB (c : Chip) (l : List (Nat × Nat × Bytes)) : Chip := l.foldl (fun c x => odSetB c x.1 x.2.1 x.2.2) c
def c0 : Core := { coreOf State.reset.chip 5 with
  pc := 0x100
  d := [(1, 0x80000000#32), (2, 0xFFFFFFFF#32), (3, 7#32), (4, 0x12345678#32)]
  a := [(1, 0x100#48), (2, 0x208#48), (3, 0x10000#48), (4, 0xFFFFFFFFFFF0#48), (15, 0x1000#48)]
  acc := [(0, 5#80), (1, BitVec.ofNat 80 (2^79-1)), (2, BitVec.ofInt 80 (-(2^79)))]
  sram := [(0x100, 0x80#8), (0x101, 0x81#8), (0x1000, 0x40#8)] }
def runC (b : Chip) (t : Nat) (c : Core) : State := ⟨odSet (setCore b t c) 0x08001 (t+1) 2, []⟩
def cold : Chip := Chip.cold
def upBoot : Boot := { Boot.cold with
  signalBox := true
  managerUp := true
  nearZeroed := true
  cacheInit := true
  linksSettled := true
  dieLit := [(1,true),(2,true),(3,true),(4,true)] }
def up : Chip := withOd { cold with boot := upBoot, tb := { cold.tb with ns := 1000000000 } } [(0x01001,0,3),(0x01002,0,5)]
def sUp : State := ⟨up, []⟩
def rF : Rq := ⟨.field 7, 1, 0, false, true⟩
def rP : Rq := ⟨.pf0, 1, 0, false, true⟩
def rC : Rq := ⟨.core 0, 1, 0, false, true⟩
def rN (n : Nat) : Rq := ⟨.plat n, 1, 0, false, true⟩
def st (c : Chip) : State := ⟨c, []⟩
def p3 (c : Chip) : Chip := withOd c [(0x10043,0,1),(0x10001,0,8)]
def vjob : Bytes := mk 64 [(0,1,0x20),(2,1,0xFF),(6,2,5),(10,2,1),(16,4,16),(24,8,0),(40,8,0x1000),(48,4,64),(52,4,64)]
def dqr (mode tgt core own cq nat : Nat) : Bytes := mk 32 [(0,1,mode),(1,1,tgt),(2,1,core),(3,1,own),(4,1,6),(6,2,cq),
  (8,2,nat)]
def withDq (c : Chip) (d : Nat) (r : Bytes) (q : Dq) : Chip :=
  odSet (odSetB { c with disp := { c.disp with dqs := tput c.disp.dqs d q } } (0x51040 + d/16) (d%16+1) r) (0x51060 + d/16) (d%16+1) 1
def ent (b : Bytes) : DqEntry := ⟨b, 0, false, none⟩
def nsr (own : Nat) (fl : Nat) : Bytes := mk 32 [(0,1,own),(1,1,fl),(2,1,9),(3,1,0x10),(4,4,1),(8,8,0),(16,8,1000)]
def wbr (seq op ns lba n addr : Nat) : Bytes := mk 64 [(0,2,seq),(2,1,op),(4,2,ns),(6,2,5),(8,4,0xABC),(16,8,lba),(24,4,n),
  (32,8,addr)]
def nq (own : Nat) (w : List Wb) : NativeQ := ⟨own, 6, 2, 0, 0, 0, false, w, 7, false, [], false⟩
def wb0 (b r : Bytes) : Wb := ⟨6, b, 0, 0, r, 0, 0, 0, 0, 0, 0, 0, none, [], 0⟩
def withSto (c : Chip) (own fl : Nat) (w : List Wb) : Chip :=
  odSet (odSet (odSetB { c with storage := { c.storage with queues := [(9, nq own w)], backs := [(0x10, ⟨[(1, 9, 1000)], true, 0⟩)] } } 0x30400 6 (nsr own fl)) 0x30440 6 2) 0x30033 1 2
def cip (mode src dst len aux : Nat) : Bytes := mk 64 [(0,1,mode),(2,1,0xFF),(8,2,5),(16,8,src),(24,8,dst),(32,8,len),
  (40,8,aux)]
def rel (op tgt src dst len : Nat) : Bytes := mk 64 [(0,1,op),(2,1,0xFF),(4,1,tgt),(6,2,5),(16,8,src),(24,8,dst),(32,8,len)]
def withPq (c : Chip) (k core : Nat) (q : PortQ) : Chip :=
  if k < 32 then odSet (setPortQ c k q) 0x31020 (k+1) core else odSet (setPortQ c k q) 0x60080 (k-32+1) core
def pe (b : Bytes) : PqEntry := ⟨7, 0, b⟩
def keys : Table Bytes := [(0, pairOf 0)]
def desc (a : Nat) : Bytes := let b := mk 28 [(0,4,0x5344464E),(4,4,7),(8,1,a)]; b ++ leBytes 4 (crc32 b)
def hst (c : Chip) : Chip := withOd { c with ports := { c.ports with fns := [(0, { vfEnable := true, numVfs := 8, bme := true, mse := true, d3hot := false, fnMask := false, unmasked := [0], pend := [] })] } } [(0x11003,1,2)]
def pl3 (c : Chip) (stt : Nat) : Chip := let c := hst c; withB (withOd { c with ports := { c.ports with fns := tput c.ports.fns 104 { vfEnable := false, numVfs := 0, bme := true, mse := true, d3hot := false, fnMask := false, unmasked := [2], pend := [] } } } [(0x10083,1,0),(0x10083,2,4),(0x10043,0,stt),(0x10001,0,if stt = 1 then 8 else 0),(0x100C3,0,0x10000)]) [(0x10013,0,leBytes 8 0x10000 ++ leBytes 8 0x10000)]
def mbx0 : Mbx := ⟨0x4000, 0x5000, 0x6000, 0x33, true, 1, 0, 0, 0, 0, 0, 0, 0, 0x7000, 3, 0, 0, []⟩
def devW (c : Chip) (a : Nat) (b : Bytes) : Chip := { c with mem := { c.mem with dev := memWrite c.mem.dev a b } }
def map3 (c : Chip) : Chip :=
  let ptr (a : Nat) := leBytes 8 (2^63 + a)
  let lf (a : Nat) := leBytes 8 (2^63 + 2^62 + 2^61 + 2^59 + 2^58 + a)
  let c := devW (devW (devW c 0x10000 (ptr 0x11000)) 0x11000 (ptr 0x12000)) 0x12000 (ptr 0x13000 ++ leBytes 8 (2^63 + 2^62 + 2^59 + 2^58 + 0x200000))
  let c := [4,5,6,7,8,9].foldl (fun c p => devW c (0x13000 + 8*p) (lf (4096*p))) c
  { c with plats := { c.plats with owner := [(1, 3)] } }

/-! ### Tuital cores -/

namespace Part09

def c0 : Core := { coreOf State.reset.chip 5 with
  pc := 0x100
  d := [(1, 0x80000000#32), (2, 0xFFFFFFFF#32), (3, 7#32), (4, 0x12345678#32)]
  a := [(1, 0x100#48), (2, 0x208#48), (3, 0x10000#48), (4, 0xFFFFFFFFFFF0#48), (15, 0x1000#48)]
  acc := [(0, 5#80), (1, BitVec.ofNat 80 (2^79-1)), (2, BitVec.ofInt 80 (-(2^79)))]
  sram := [(0x100, 0x80#8), (0x101, 0x81#8), (0x1000, 0x40#8)] }
def sRun (t : Nat) (c : Core) : State := { State.reset with chip := odSet (setCore State.reset.chip t c) 0x08001 (t+1) 2 }
def sWait (t : Nat) (c : Core) : State := { State.reset with chip := odSet (setCore State.reset.chip t c) 0x08001 (t+1) 3 }
def s5 := sRun 5 c0
def c3 : Core := { c0 with a := [(2, 0x20002#48)]}
def cI : Core := {c0 with intPend := 6, intMask := 0xFE, sw := 0x2000#32 }
def c4 : Core := {c0 with
  acc := [(0, BitVec.ofInt 80 (-(2^79))), (1, BitVec.ofNat 80 (2^79-1))]
  a := [(1, 0x1001#48), (3, 0x108#48)] }
def s4 := sRun 5 c4
def exceptions_s21 : State := sRun 5 c3
def doubleFault_s22 : State := sRun 5 {c0 with sw := 0x8000#32}
def specialRegisters_s24 : State := sRun 5 {c0 with sw := 0x4308#32}
def interrupts_s27 : State := sWait 5 {cI with wait := .wait}
def interrupts_s28 : State := sWait 5 {cI with wait := .wait, sw := 0}
def interrupts_s29 : State := sWait 5 {c0 with wait := .sigwt 7 true 9 true}

/-- Hypotheses of DataRegister (O5, TuitalData) are met. -/
theorem witness_DataRegister :
    (Ready s5 5 ∧ 0 ≠ 1 ∧ 4 ≤ 4) := by
  decide +kernel +zetaReduce

/-- Hypotheses of DataImmediate (O5, TuitalData) are met. -/
theorem witness_DataImmediate :
    (let c : Core := coreOf s5.chip 5
     let a : W32 := c.dr 4
     Ready s5 5 ∧ 0 ≠ 1 ∧ 4 ≤ 4 ∧ 3 ≤ 32 ∧ BitVec.toNat a < 2 ^ (32 - 3) ∧ (3 = 32 ∨ 2 ^ (31 - 3) ≤ BitVec.toNat a)) := by
  decide +kernel +zetaReduce

/-- Hypotheses of Division (O6) are met. -/
theorem witness_Division :
    (let c : Core := coreOf s5.chip 5
     let a : W32 := c.dr 1
     let b : W32 := c.dr 2
     Ready s5 5 ∧ b ≠ 0 ∧ BitVec.toInt a ≤ 0 ∧ 0 ≠ 3 ∧ 4 ≤ 4 ∧ a = 0x80000000#32 ∧ b = 0xffffffff#32)
    ∧ (let c : Core := coreOf s5.chip 5
       let b : W32 := c.dr 9
       Ready s5 5 ∧ b = 0 ∧ swBit c.sw swExl = false
         ∧ (Instr.remu 5 3 1 9 = Instr.divs 5 3 1 9 ∨ Instr.remu 5 3 1 9 = Instr.divu 5 3 1 9 ∨ Instr.remu 5 3 1 9 = Instr.rems 5 3 1 9 ∨ Instr.remu 5 3 1 9 = Instr.remu 5 3 1 9)
         ∧ 0 ≠ swPie ∧ 0 ≠ swIe ∧ 0 ≠ swExl ∧ 0 ≠ 5 ∧ 0 < 256 ∧ (0 ≠ 5 + 1 ∨ 0 ≠ 0x8001 ∧ 0 ≠ 0x8002 ∧ 0 ≠ 0x8003)) := by
  refine ⟨?_, ?_⟩ <;> decide +kernel +zetaReduce

/-- Hypotheses of Accumulators (O7, TuitalAccumulators) are met. -/
theorem witness_Accumulators :
    (let c : Core := coreOf s5.chip 5
     let acc : W80 := c.ac 1
     let a : W32 := c.dr 1
     let b : W32 := c.dr 2
     Ready s5 5 ∧ ↑1 ≤ 3 ∧ (¬(-2 ^ 79 ≤ BitVec.toInt acc + BitVec.toInt a * BitVec.toInt b
       ∧ BitVec.toInt acc + BitVec.toInt a * BitVec.toInt b < 2 ^ 79)) ∧ swBit c.sw swSt = false ∧ 0 ≠ 1 ∧ 0 ≠ swSat
       ∧ (¬(-2 ^ 79 ≤ BitVec.toInt acc + ↑(BitVec.toNat a) * ↑(BitVec.toNat b)
       ∧ BitVec.toInt acc + ↑(BitVec.toNat a) * ↑(BitVec.toNat b) < 2 ^ 79))
       ∧ (-2 ^ 79 ≤ BitVec.toInt acc - BitVec.toInt a * BitVec.toInt b
       ∧ BitVec.toInt acc - BitVec.toInt a * BitVec.toInt b < 2 ^ 79) ∧ (¬(-2 ^ 79 ≤ BitVec.toInt acc + BitVec.toInt (c.ac 1)
       ∧ BitVec.toInt acc + BitVec.toInt (c.ac 1) < 2 ^ 79))
       ∧ ((2 ^ 79 - 1 + 4) / 8 = (BitVec.toInt (c.ac 1) + if true = true ∧ 0 < ↑3 then 2 ^ (↑3 - 1) else 0) / 2 ^ ↑3)
       ∧ outside32 ((2 ^ 79 - 1 + 4) / 8) = true ∧ 0 ≠ 2)
    ∧ (let c : Core := coreOf s4.chip 5
       let acc : W80 := c.ac 1
       let a : W32 := c.dr 2
       let b : W32 := c.dr 3
       Ready s4 5 ∧ ↑1 ≤ 3 ∧ ↑2 ≤ 3 ∧ (-2 ^ 79 ≤ BitVec.toInt acc + BitVec.toInt a * BitVec.toInt b
         ∧ BitVec.toInt acc + BitVec.toInt a * BitVec.toInt b < 2 ^ 79) ∧ 0 ≠ 1
         ∧ (¬(-2 ^ 79 ≤ BitVec.toInt acc - BitVec.toInt a * BitVec.toInt b
         ∧ BitVec.toInt acc - BitVec.toInt a * BitVec.toInt b < 2 ^ 79)) ∧ swBit c.sw swSt = false ∧ 0 ≠ swSat
         ∧ (-2 ^ 79 ≤ BitVec.toInt acc + BitVec.toInt (c.ac 2) ∧ BitVec.toInt acc + BitVec.toInt (c.ac 2) < 2 ^ 79)
         ∧ (0 = (BitVec.toInt (c.ac 2) + if true = true ∧ 0 < ↑0 then 2 ^ (↑0 - 1) else 0) / 2 ^ ↑0) ∧ outside32 0 = false
         ∧ 0 ≠ 3 ∧ 4 ≤ 4)
    ∧ (let c : Core := coreOf s5.chip 5
       let acc : W80 := c.ac 0
       let a : W32 := c.dr 1
       let b : W32 := c.dr 2
       Ready s5 5 ∧ ↑0 ≤ 3 ∧ ↑1 ≤ 3 ∧ (-2 ^ 79 ≤ BitVec.toInt acc + ↑(BitVec.toNat a) * ↑(BitVec.toNat b)
         ∧ BitVec.toInt acc + ↑(BitVec.toNat a) * ↑(BitVec.toNat b) < 2 ^ 79) ∧ 1 ≠ 0) := by
  refine ⟨?_, ?_, ?_⟩ <;> decide +kernel +zetaReduce

/-- Hypotheses of AccumulatorParts (O7, TuitalAccumulators) are met. -/
theorem witness_AccumulatorParts :
    (Ready s5 5 ∧ ↑2 ≤ 3 ∧ 0 ≠ 1 ∧ ↑1 ≤ 3) := by
  decide +kernel +zetaReduce

/-- Hypotheses of AddressMoves (O8) are met. -/
theorem witness_AddressMoves :
    (Ready s5 5 ∧ 0 ≠ 1) := by
  decide +kernel +zetaReduce

/-- Hypotheses of LocalLoads (O9, LocalMemory) are met. -/
theorem witness_LocalLoads :
    (let c : Core := coreOf s5.chip 5
     let size : Nat := 2 ^ ↑0
     Ready s5 5 ∧ eaOf c 1 size (Ea.m0 1#16) = some (257#48, none) ∧ (257#48).toNat % size = 0 ∧ (257#48).toNat < 0x20000
       ∧ sramBad c (257#48).toNat size = false ∧ ↑0 ≠ 3 ∧ 0 ≠ 1 ∧ ↑0 ≤ 1)
    ∧ (let c : Core := coreOf s4.chip 5
       let size : Nat := 2 ^ ↑3
       Ready s4 5 ∧ eaOf c 3 size (Ea.m0 0) = some (264#48, none) ∧ (264#48).toNat % size = 0 ∧ (264#48).toNat < 0x20000
         ∧ sramBad c (264#48).toNat size = false ∧ ↑3 = 3 ∧ (eaUpdates (Ea.m0 0) = false ∨ 1 ≠ 3) ∧ 1 ≠ 3 ∧ 0 ≠ 1 ∧ 0 ≠ 3) := by
  refine ⟨?_, ?_⟩ <;> decide +kernel +zetaReduce

/-- Hypotheses of LocalStores (O9, LocalMemory) are met. -/
theorem witness_LocalStores :
    (let size : Nat := 2 ^ ↑2
     let c : Core := coreOf s5.chip 5
     Ready s5 5 ∧ eaOf c 1 size (Ea.m1 0 0 0) = some (256#48, some 260#48) ∧ (256#48).toNat % size = 0
       ∧ (256#48).toNat < 0x20000 ∧ ↑2 ≠ 3 ∧ (0 < (256#48).toNat ∨ (256#48).toNat + size ≤ 0) ∧ 0 ≠ 1)
    ∧ (let size : Nat := 2 ^ ↑3
       let c : Core := coreOf s5.chip 5
       Ready s5 5 ∧ eaOf c 1 size (Ea.m0 0) = some (256#48, none) ∧ (256#48).toNat % size = 0 ∧ (256#48).toNat < 0x20000
         ∧ ↑3 = 3 ∧ (eaUpdates (Ea.m0 0) = false ∨ 4 ≠ 1) ∧ (0 < (256#48).toNat ∨ (256#48).toNat + size ≤ 0) ∧ 0 ≠ 1) := by
  refine ⟨?_, ?_⟩ <;> decide +kernel +zetaReduce

/-- Hypotheses of Branches (O10, TuitalControlFlow) are met. -/
theorem witness_Branches :
    (let c : Core := coreOf s5.chip 5
     let z : Bool := swBit c.sw swZ
     let n : Bool := swBit c.sw swN
     let v : Bool := swBit c.sw swV
     let cy : Bool := swBit c.sw swC
     let taken : List Bool := [true, z, !z, n, !n, v, !v, cy, !cy, cy || z, !(cy || z), n != v, n == v, z || n != v,
         !(z || n != v)]
     Ready s5 5 ∧ taken[↑4]? = some true ∧ 0 ≠ 1 ∧ BitVec.toNat (c.ar 3) % 4 = 0) := by
  decide +kernel +zetaReduce

/-- Hypotheses of Calls (O10, TuitalControlFlow) are met. -/
theorem witness_Calls :
    (let c : Core := coreOf s5.chip 5
     let sp : W48 := c.ar 15
     Ready s5 5 ∧ BitVec.toNat (sp - 8) % 8 = 0 ∧ BitVec.toNat (sp - 8) < 0x20000
       ∧ (0 < BitVec.toNat (sp - 8) ∨ BitVec.toNat (sp - 8) + 8 ≤ 0) ∧ 0 ≠ 15 ∧ BitVec.toNat (c.ar 3) % 4 = 0
       ∧ BitVec.toNat sp % 8 = 0 ∧ BitVec.toNat sp < 0x20000 ∧ sramBad c (BitVec.toNat sp) 8 = false
       ∧ leNat (memRead c.sram (BitVec.toNat sp) 8) % 4 = 0) := by
  decide +kernel +zetaReduce

/-- Hypotheses of Exceptions (O11, TuitalExceptions) are met. -/
theorem witness_Exceptions :
    (let c : Core := coreOf s4.chip 5
     let a : W48 := c.ar 1 + BitVec.signExtend 48 0#16
     Ready s4 5 ∧ swBit (coreOf s4.chip 5).sw swExl = false ∧ 0 ≠ swPie ∧ 0 ≠ swIe ∧ 0 ≠ swExl ∧ 0 ≠ 5 ∧ 0 < 256
       ∧ (0 ≠ 5 + 1 ∨ 0 ≠ 0x8001 ∧ 0 ≠ 0x8002 ∧ 0 ≠ 0x8003) ∧ reserved 0#32 = true ∧ 3 < ↑5
       ∧ (Instr.mtacc 5 5 1 0 = Instr.macs 5 5 1 9 ∨ Instr.mtacc 5 5 1 0 = Instr.macu 5 5 1 9 ∨ Instr.mtacc 5 5 1 0 = Instr.msus 5 5 1 9 ∨ Instr.mtacc 5 5 1 0 = Instr.mpys 5 5 1 9 ∨ Instr.mtacc 5 5 1 0 = Instr.mpyu 5 5 1 9 ∨ Instr.mtacc 5 5 1 0 = Instr.clracc 5 5 ∨ Instr.mtacc 5 5 1 0 = Instr.addacc 5 5 1 ∨ Instr.mtacc 5 5 1 0 = Instr.mtacc 5 5 1 0)
       ∧ BitVec.toNat (c.ar 1) % 4 ≠ 0 ∧ BitVec.toNat a % 4 ≠ 0)
    ∧ (let c : Core := coreOf exceptions_s21.chip 5
       let a : W48 := c.ar 2 + BitVec.signExtend 48 2#16
       Ready exceptions_s21 5 ∧ swBit (coreOf exceptions_s21.chip 5).sw swExl = false ∧ BitVec.toNat a % 4 = 0
         ∧ 0x20000 ≤ BitVec.toNat a ∧ BitVec.toNat a < 2 ^ 40 ∧ 0 ≠ swPie ∧ 0 ≠ swIe ∧ 0 ≠ swExl ∧ 0 ≠ 5 ∧ 0 < 256
         ∧ (0 ≠ 5 + 1 ∨ 0 ≠ 0x8001 ∧ 0 ≠ 0x8002 ∧ 0 ≠ 0x8003)) := by
  refine ⟨?_, ?_⟩ <;> decide +kernel +zetaReduce

/-- Hypotheses of DoubleFault (O11, TuitalExceptions) are met. -/
theorem witness_DoubleFault :
    (Ready doubleFault_s22 5 ∧ swBit (coreOf doubleFault_s22.chip 5).sw swExl = true) := by
  decide +kernel +zetaReduce

/-- Hypotheses of SpecialRegisters (O12, TuitalSystem) are met. -/
theorem witness_SpecialRegisters :
    (Ready specialRegisters_s24 5 ∧ 0 ≠ 4 ∧ 0 ∈ [swC, swV, swZ, swN, swSt, swIe, swPie] ∧ 8 ∈ [swSat, swExl] ∧ 4 ∉ [swC, swV,
       swZ, swN, swSt, swIe, swPie, swSat, swExl] ∧ 0 ≠ swIe ∧ 0 ≠ swExl) := by
  decide +kernel +zetaReduce

/-- Hypotheses of Interrupts (O12, TuitalSystem) are met. -/
theorem witness_Interrupts :
    (let c : Core := coreOf interrupts_s27.chip 5
     let open_ : Prop := swBit c.sw swIe = true ∧ swBit c.sw swExl = false
     let lowest : Prop := bit c.pendEnabled 1 = true ∧ ∀ m < 1, bit c.pendEnabled m = false
     5 < 24 ∧ (coreState interrupts_s27.chip 5 = 2 ∨ coreState interrupts_s27.chip 5 = 3) ∧ lowest ∧ open_ ∧ 0 ≠ swPie
       ∧ 0 ≠ swIe ∧ 0 ≠ swExl ∧ 0 ≠ 5 ∧ 0 < 256 ∧ (0 ≠ 5 + 1 ∨ 0 ≠ 0x8001 ∧ 0 ≠ 0x8002 ∧ 0 ≠ 0x8003)
       ∧ coreState interrupts_s27.chip 5 = 3 ∧ c.wait = CoreWait.wait)
    ∧ (let c : Core := coreOf interrupts_s28.chip 5
       let open_ : Prop := swBit c.sw swIe = true ∧ swBit c.sw swExl = false
       5 < 24 ∧ coreState interrupts_s28.chip 5 = 3 ∧ c.wait = CoreWait.wait ∧ c.pendEnabled ≠ 0 ∧ (¬open_))
    ∧ (let c : Core := coreOf interrupts_s29.chip 5
       5 < 24 ∧ coreState interrupts_s29.chip 5 = 3 ∧ c.wait = CoreWait.sigwt 7 true 9 true) := by
  refine ⟨?_, ?_, ?_⟩ <;> decide +kernel +zetaReduce

/-- Hypotheses of Compare (O5, TuitalData) are met. -/
theorem witness_Compare :
    (Ready s5 5 ∧ 4 ≤ 4) := by
  decide +kernel +zetaReduce

end Part09

/-! ### Signals and ports of a core -/

namespace Part09b

def gS : State := ⟨setCore (setCore (withOd up [(0x51100,8,0xFD)]) 6 {c0 with wait := .sigwt 7 false 5 false}) 7 {c0 with wait := .sigwt 9 false 31 false},
  []⟩
def g2 : State := runC gS.chip 5 c0
def g3 : State := runC (withOd up [(0x31020,5,5),(0x31021,5,0x800)]) 5 c0
def g4 : State := ⟨setPortQ g3.chip 4 { portQ g3.chip 4 with ready := [3, 7] }, []⟩
def signalAdds_s3 : State := ⟨withOd cold [(0x51140,1,0xFD)],[]⟩

/-- Hypotheses of SignalAdds (O13, TuitalSignals) are met. -/
theorem witness_SignalAdds :
    (let dark : Bool := Option.any (fun d => !dieLit g2.chip d) (sigHome 7) || fenced g2.chip (sigUnit 7)
     let g : SigAgent := ownerAgent 253
     let v : Nat := (List.map (fun x => x % 2 ^ 32) [3, 4]).sum
     sigAllowed g2.chip g 7 = true ∧ dark = false ∧ v ≠ 0 ∧ (coreOf g2.chip 6).wait = CoreWait.sigwt 7 false 5 false
       ∧ (if false = true then sigVal (chipOf (exec (Instr.signalAdd 253 7 [3,
       4]) g2) g2) 7 = 5 else 5 ≤ sigVal (chipOf (exec (Instr.signalAdd 253 7 [3, 4]) g2) g2) 7) ∧ 9 ≠ 7
       ∧ (coreOf g2.chip 7).wait = CoreWait.sigwt 9 false 31 false ∧ Ready g2 5 ∧ sigNum (coreOf g2.chip 5) (SigRef.imm 7) = 7)
    ∧ (let g : SigAgent := ownerAgent 0
       sigAllowed gS.chip g 7 = false)
    ∧ (let dark : Bool := Option.any (fun d => !dieLit signalAdds_s3.chip d) (sigHome 1024) || fenced signalAdds_s3.chip (sigUnit 1024)
       let g : SigAgent := ownerAgent 253
       sigAllowed signalAdds_s3.chip g 1024 = true ∧ dark = true)
    ∧ (let v : Nat := (List.map (fun x => x % 2 ^ 32) []).sum
       let dark : Bool := Option.any (fun d => !dieLit gS.chip d) (sigHome 7) || fenced gS.chip (sigUnit 7)
       let g : SigAgent := ownerAgent 253
       sigAllowed gS.chip g 7 = true ∧ dark = false ∧ v = 0) := by
  refine ⟨?_, ?_, ?_, ?_⟩ <;> decide +kernel +zetaReduce

/-- Hypotheses of SignalWaits (O13, TuitalSignals) are met. -/
theorem witness_SignalWaits :
    (let c : Core := coreOf g2.chip 5
     let sig : Nat := sigNum c (SigRef.imm 7)
     let b0 : Binding := bindOf c ↑3
     let holds : Bool := sigMeets (sigVal g2.chip ((0x8007#32).toNat % 0x1000)) b0.thr (bits (0x8007#32).toNat 13 12 == 1)
     Ready g2 5 ∧ ↑2 % 2 = 0 ∧ sigAllowed g2.chip (coreAgent 5) sig = true ∧ fenced g2.chip (sigUnit sig) = false ∧ 0 ≠ 2
       ∧ 0 ≠ 2 + 1 ∧ (0x8007#32).getLsbD 15 = true ∧ sigAllowed g2.chip (coreAgent 5) ((0x8007#32).toNat % 0x1000) = true
       ∧ holds = true)
    ∧ (Ready g2 5 ∧ ↑8 % 2 = 0 ∧ (0x8008#32).getLsbD 15 = true
         ∧ sigAllowed g2.chip (coreAgent 5) ((0x8008#32).toNat % 0x1000) = false) := by
  refine ⟨?_, ?_⟩ <;> decide +kernel +zetaReduce

/-- Hypotheses of LocalPorts (O14, TuitalPorts) are met. -/
theorem witness_LocalPorts :
    (Ready g2 5 ∧ 0xf001#16 = 0xf001 ∧ 0 ≠ 2)
    ∧ (Ready g2 5 ∧ 0xf011#16 = 0xf011 ∧ 0 ≠ 2)
    ∧ (Ready g2 5 ∧ 0xf000#16 = 0xf000 ∧ 0 ≠ 2)
    ∧ (Ready g2 5 ∧ 0xf002#16 = 0xf002 ∧ 0 ≠ 2)
    ∧ (Ready g2 5 ∧ 0xf003#16 = 0xf003 ∧ 0 ≠ 2)
    ∧ (Ready g2 5 ∧ 0xf005#16 = 0xf005 ∧ 0 ≠ 2)
    ∧ (Ready g2 5 ∧ 0xf010#16 = 0xf010 ∧ 0 ≠ 2)
    ∧ (Ready g2 5 ∧ 0x8001#16 = 0x8001) := by
  refine ⟨?_, ?_, ?_, ?_, ?_, ?_, ?_, ?_⟩ <;> decide +kernel +zetaReduce

/-- Hypotheses of QueuePorts (O14, TuitalPorts) are met. -/
theorem witness_QueuePorts :
    (let q : PortQ := portQ g3.chip 4
     let c : Core := coreOf g3.chip 5
     Ready g3 5 ∧ 4 < 16 ∧ odN g3.chip 0x31020 (4 + 1) = 5 ∧ q.waiting.length + q.running + q.ready.length < 64
       ∧ 256 + 64 ≤ 0x20000 ∧ q.ready = [] ∧ 0 ≠ 2 ∧ c.odState ≠ 1 ∧ 256 + 1504 ≤ 0x20000)
    ∧ (let q : PortQ := portQ g4.chip 4
       Ready g4 5 ∧ 4 < 16 ∧ odN g4.chip 0x31020 (4 + 1) = 5 ∧ q.ready = [3, 7] ∧ 0 ≠ 2) := by
  refine ⟨?_, ?_⟩ <;> decide +kernel +zetaReduce

end Part09b

/-! ### The timebase -/

namespace Part10

def tbs (k : Nat) (ok : Nat) (rec : List Bool) (hold ns : Nat) : State := st (withOd { up with tb := { up.tb with ns := ns, okRun := ok, recent := rec, holdSince := hold } } [(0x03001,0,k),
  (0x03007,0,0xFFFFFFFF),(0x03008,0,7),(0x03006,0,5)])
def referenceEdges_s0 : State := tbs 1 5 [] 0 5
def referenceEdges_s3 : State := tbs 0 5 [] 0 5
def timebaseStates_s6 : State := tbs 4 5 (List.replicate 9 false) 0 5
def timebaseStates_s7 : State := tbs 2 1024 [] 5 10000000005
def timebaseStates_s9 : State := tbs 0 1024 [] 5 30000000
def stepMeters_s12 : State := st { up with tb := { up.tb with gateEnd := [(0, 5), (3, 7)] } }
def stepMeters_s10 : State := st { up with tb := { up.tb with gateEnd := [(0, 5), (3, 7)] } }
def stepMeters_s11 : State := st { up with tb := { up.tb with gateEnd := [(0, 5), (3, 7)] } }
def timeSet_s13 : State := st { up with od := up.od }

/-- Hypotheses of ReferenceEdges (O15, Timebase) are met. -/
theorem witness_ReferenceEdges :
    (let c : Chip := referenceEdges_s0.chip
     (odN c 0x3001 0 = 1 ∨ odN c 0x3001 0 = 4))
    ∧ (let c : Chip := referenceEdges_s3.chip
       odN c 0x3001 0 ≠ 1 ∧ odN c 0x3001 0 ≠ 4) := by
  refine ⟨?_, ?_⟩ <;> decide +kernel +zetaReduce

/-- Hypotheses of TimebaseStates (O15, Timebase) are met. -/
theorem witness_TimebaseStates :
    (let c : Chip := timebaseStates_s6.chip
     let st : Nat := odN c 0x3001 0
     (st = 1 ∨ st = 4) ∧ (8 ≤ (List.filter (fun x => x == false) c.tb.recent).length) ∧ 0 ≠ 1 ∧ (st = 4
       ∧ true = true ∨ st = 0 ∧ 1024 ≤ c.tb.okRun))
    ∧ (let c : Chip := timebaseStates_s7.chip
       let st : Nat := odN c 0x3001 0
       st = 2 ∧ c.tb.holdSince + 10000000000 ≤ c.tb.ns ∧ 0 ≠ 1 ∧ (st = 2 ∨ st = 3) ∧ 1024 ≤ c.tb.okRun)
    ∧ (let c : Chip := timebaseStates_s9.chip
       let st : Nat := odN c 0x3001 0
       st = 0 ∧ c.tb.noRefRaised = false ∧ 30000000 ≤ c.tb.ns) := by
  refine ⟨?_, ?_, ?_⟩ <;> decide +kernel +zetaReduce

/-- Hypotheses of StepMeters (O15, Timebase) are met. -/
theorem witness_StepMeters :
    (tget? stepMeters_s12.chip.tb.gateEnd 3 = some 7 ∧ 7 ≤ stepMeters_s12.chip.tb.ns ∧ 0 < 23 ∧ 2 ^ 32 * 23 ≤ 100000000000)
    ∧ (tget? stepMeters_s10.chip.tb.gateEnd 0 = some 5 ∧ 5 ≤ stepMeters_s10.chip.tb.ns)
    ∧ (tget? stepMeters_s11.chip.tb.gateEnd 3 = some 7 ∧ 7 ≤ stepMeters_s11.chip.tb.ns ∧ 1000 < 2 ^ 32
         ∧ 1000 * 100000000 ≤ 100000000000 ∧ 100000000000 < (1000 + 1) * 100000000) := by
  refine ⟨?_, ?_, ?_⟩ <;> decide +kernel +zetaReduce

/-- Hypotheses of TimeSet (O16) are met. -/
theorem witness_TimeSetMovesOffset :
    (Accepted timeSet_s13 rF 0x3040 (leBytes 8 77)) := by
  decide +kernel +zetaReduce

end Part10

/-! ### Requests, sessions, staged blocks -/

namespace Part11

def ses : Session := ⟨9, .field 0, 2, [], true, 0, false, 0, 5⟩
def ses2 : Session := ⟨10, .inband 0 0, 3, [], false, 0, false, 0, 5⟩
def upS : Chip := { up with sl := { up.sl with sessions := [ses, ses2] } }
def row (o : Nat) : OdDef := (odRow o).getD ⟨0,0,false,.u8,0,0,0,0,.ro,0,0,0,none,0⟩
def e1 (o k t : Nat) (v : Bytes) : Entry := ⟨o, k, t, 0, v⟩
def upE : Chip := raise (raise (raise up ⟨0x0300, 1⟩ 0) ⟨0x0301,1⟩ 0) ⟨0x604, 3⟩ 0
def upQ : Chip := { up with sl := { up.sl with applyQ := [⟨rF, [e1 0x06010 0 2 [3]], 0, 1000000000⟩, ⟨rP, [], 0, 1000000001⟩] } }
def eW : Entry := e1 0x03006 0 6 (leBytes 4 (2^32-100))
def v132 : Bytes := leBytes 1 2 ++ zeros 131
def upKS : Chip := withB upS [(0x04030, 2, leBytes 96 0xABC)]
def upU : State := st (withOd up [(0x03002,0,1)])
def rFu : Rq := ⟨.field 7, 1, 9, false, true⟩
def rFv : Rq := ⟨.field 7, 1, 9, false, false⟩
def pdu0 (svc : Nat) : Bytes := leBytes 1 1 ++ leBytes 1 0 ++ leBytes 1 svc ++ leBytes 1 0 ++ leBytes 2 5 ++ leBytes 2 0 ++ zeros 8
def ff (svc : Nat) : FieldFrame := ⟨0x123456, 7, 0x88B5, true, pdu0 svc⟩
def upM : Chip := withOd (withB up [(0x06024, 4, [10,0,0,1])]) [(0x06015,0,0x123456), (0x06020, 0, 0xF), (0x06030,0,2),
  (0x06022,0,7),(0x20005,1,2)]
def an : Answer := ⟨0, 0xFF, []⟩
def upD : Chip := { upM with sl := { upM.sl with dups := [⟨⟨.field 7, 5, 0, false, false⟩, 999999999, an⟩] } }
def dg : Datagram := ⟨0, 3, false, true, pdu0 0x11⟩
def upF : Chip := { upM with sl := { upKS.sl with sessions := [ses, ses2] } }
def reg (n : Nat) : Bytes := let b := mk 28 [(0,4,0x5653444F),(4,4,n),(10,2,1)]; b ++ leBytes 4 (crc32 b)
def sv1 : Chip := { up with flash := { up.flash with saveA := reg 41 } }
def jb0 : SaveJob := ⟨0, 43, zeros 32, [1], 5⟩
def s1 : Stage := ⟨1, .pf0, false, [(0, [e1 0x06010 0 2 [3]]), (1, [e1 0x01124 0 2 [2]])], 5⟩
def s2 : Stage := ⟨2, .pf0, false, [(1, [e1 0x06010 0 2 [3]])], 5⟩
def upG : Chip := { up with sl := { up.sl with stages := [s1, s2] } }
def ca (h n : Nat) : Bytes := leBytes 1 h ++ [0] ++ leBytes 2 n ++ leBytes 8 0
def readService_es3 : List Entry := List.replicate 63 (e1 0 0 0 [])
def eventRead_s4 : State := st upE
def writeService_s8 : State := st (withOd up [(0x01104,0,2^64-1)])
def writeService_es8 : List Entry := [e1 0x06010 0 2 [31], e1 0x06010 0 2 [32]]
def writeService_p8_19 : Nat × Rejection := ((0x06010, ⟨5, false, false⟩) : Nat × Rejection)
def applyTick_es11 : List Entry := [e1 0x03020 0 4 [3,0,0,0], e1 0x06010 0 2 [31]]
def applyTick_s12 : State := st upQ
def applyTick_j12 : ApplyJob := ⟨rF, [e1 0x06010 0 2 [3]], 0, 1000000000⟩
def applyTick_late12 : List ApplyJob := [⟨rP, [], 0, 1000000001⟩]
def describeEcho_es13 : List Entry := [e1 0 0 0 [], e1 1 2 3 (zeros 1464)]
def writeCollision_b17 : Chip := chipOf (exec (.write rC [eW]) upU) upU
def windowWrite_val15 : Bytes := zeros 12 ++ leBytes 4 0xFF
def sessions_s18 : State := st upKS
def sessions_s21 : State := st {upKS with tb := { up.tb with ns := 60000000005 }}
def sessions_s19 : State := st upKS
def requestIntake_s22 : State := st upM
def requestIntake_s23 : State := st upM
def requestIntake_f23 : FieldFrame := {ff 0x10 with fcsOk := false}
def requestIntake_s24 : State := st upD
def fieldPort_s25 : State := st (withOd upF [(0x06001,0,1)])
def fieldPort_s27 : State := st (withOd { upM with sl := { upM.sl with outLimited := true} } [(0x06001,0,2),(0x06030,0,1)])
def fieldPort_s26 : State := st (withOd upF [(0x06001,0,0),(0x06030,0,1)])
def save_s31 : State := st { sv1 with save := some jb0 }
def save_s29 : State := st sv1
def stagedBlocks_s33 : State := st upG
def stagedBlocks_es33 : List Entry := [e1 0x06010 0 2 [3], e1 0x01124 0 2 [2]]
def stagedBlocks_s36 : State := st {upG with tb := {up.tb with ns := 30000000005} }
def stagedBlocks_s34 : State := st upG
def stagedBlocks_s37 : State := st { up with sl := { up.sl with stages := (List.range 8).map (fun i => {s1 with handle := i+1}) } }

/-- Hypotheses of ReadService (O17, SlainoReads) are met. -/
theorem witness_ReadService :
    (let d : Dom := domainOf sUp.chip rF
     Located sUp rF 0x1049 0 (row 0x1049) 0x1049 ∧ ((row 0x1049).acc d = 1 ∨ (row 0x1049).acc d = 3) ∧ 0x1049 ≠ 0x1121
       ∧ (row 0x1049).subs ≠ 0 ∧ (row 0x1049).type ≠ OdType.action)
    ∧ (let d : Dom := domainOf sUp.chip rF
       Located sUp rF 0x1049 3 (row 0x1049) 0x1049 ∧ ((row 0x1049).acc d = 1 ∨ (row 0x1049).acc d = 3) ∧ 0x1049 ≠ 0x1121
         ∧ ((row 0x1049).subs = 0 ∨ 3 ≠ 0) ∧ (row 0x1049).type ≠ OdType.action
         ∧ readVal sUp.chip rF.path d (row 0x1049) 0x1049 3 = OdVal.num 0)
    ∧ (let d : Dom := domainOf sUp.chip rC
       Handles sUp rC ∧ resolve d 0x7f010 = none ∧ readService_es3.length ≤ 63 ∧ readService_es3.any (badWindow d) = false) := by
  refine ⟨?_, ?_, ?_⟩ <;> decide +kernel +zetaReduce

/-- Hypotheses of EventRead (O17, SlainoReads) are met. -/
theorem witness_EventRead :
    (let c : Chip := eventRead_s4.chip
     let d : Dom := domainOf c rF
     Located eventRead_s4 rF 0x1121 0 (row 0x1121) 0x1121 ∧ (row 0x1121).type = OdType.blob
       ∧ ((row 0x1121).acc d = 1 ∨ (row 0x1121).acc d = 3) ∧ behind c rF.path = 3 ∧ 3 ≤ c.events.length ∧ 3 ≤ 16
       ∧ (List.take 3 c.events).all (mayReceive d) = true) := by
  decide +kernel +zetaReduce

/-- Hypotheses of WriteService (O18, SlainoWrites) are met. -/
theorem witness_WriteService :
    (let c : Chip := writeService_s8.chip
     let d : Dom := domainOf c rF
     Located writeService_s8 rF (e1 0x1124 0 2 [3]).obj (e1 0x1124 0 2 [3]).sub (row 0x1124) 0x1124
       ∧ 0x1124 = (e1 0x1124 0 2 [3]).obj ∧ (e1 0x1124 0 2 [3]).op = 0 ∧ (0x1124 / 0x1000 = 1 ∨ 0x1124 / 0x1000 = 6)
       ∧ 0x1124 ≠ 0x1122 ∧ 0x1124 ≠ 0x1104 ∧ (e1 0x1124 0 2 [3]).sub < 256
       ∧ ((row 0x1124).acc d = 2 ∨ (row 0x1124).acc d = 3) ∧ (row 0x1124).kind ≠ OdKind.ro
       ∧ ((row 0x1124).subs = 0 ∨ (e1 0x1124 0 2 [3]).sub ≠ 0) ∧ (e1 0x1124 0 2 [3]).type = (row 0x1124).type.code
       ∧ valueCheck (row 0x1124) (e1 0x1124 0 2 [3]).val = 0 ∧ reservedSet (row 0x1124) (e1 0x1124 0 2 [3]).val = false
       ∧ Handles writeService_s8 rF ∧ writeService_es8.length ≤ 64
       ∧ ((writeService_es8.all fun e => decide (e.op ≤ 1)) = true) ∧ executeLast writeService_es8 = true
       ∧ firstRejected d false c 0 writeService_es8 = some (1, writeService_p8_19) ∧ writeService_p8_19.2.status ≤ 11)
    ∧ (let c : Chip := sUp.chip
       let d : Dom := domainOf c rP
       Located sUp rP (e1 0x1104 0 2 [3]).obj (e1 0x1104 0 2 [3]).sub (row 0x1104) 0x1104 ∧ (e1 0x1104 0 2 [3]).op = 0
         ∧ ((row 0x1104).acc d = 0 ∨ (row 0x1104).acc d = 1)) := by
  refine ⟨?_, ?_⟩ <;> decide +kernel +zetaReduce

/-- Hypotheses of ApplyTick (O18, SlainoWrites) are met. -/
theorem witness_ApplyTick :
    (let c : Chip := sUp.chip
     Handles sUp rC ∧ applyTick_es11.length ≤ 64 ∧ ((applyTick_es11.all fun e => e.op == 0) = true)
       ∧ firstRejected (domainOf c rC) false c 0 applyTick_es11 = none ∧ manyBlocks applyTick_es11 = true)
    ∧ (let c : Chip := applyTick_s12.chip
       c.sl.applyQ = applyTick_j12 :: applyTick_late12 ∧ applyTick_j12.due ≤ c.tb.ns
         ∧ ((applyTick_late12.all fun x => decide (c.tb.ns < x.due)) = true) ∧ applyTick_j12.handle = 0
         ∧ applyTick_j12.es ≠ [] ∧ ((applyTick_j12.es.all fun e => e.op == 0) = true)) := by
  refine ⟨?_, ?_⟩ <;> decide +kernel +zetaReduce

/-- Hypotheses of DescribeEcho (O17, SlainoReads) are met. -/
theorem witness_DescribeEcho :
    (Located sUp rF 0x3006 0 (row 0x3006) 0x3006 ∧ (row 0x3006).extra = none ∧ Handles sUp rF ∧ describeEcho_es13.length ≤ 64
       ∧ ((List.map (fun e => 8 + List.length (padded e.val)) describeEcho_es13).sum ≤ 1484 - if rF.tagged = true then 16 else 0)) := by
  decide +kernel +zetaReduce

/-- Hypotheses of WriteCollision (O18, SlainoWrites) are met. -/
theorem witness_WriteCollision :
    (Handles upU rC ∧ eW.op = 0 ∧ eW.obj = 0x3006 ∧ firstRejected (domainOf upU.chip rC) false upU.chip 0 [eW] = none) := by
  decide +kernel +zetaReduce

/-- Hypotheses of WindowWrite (O18, SlainoWrites) are met. -/
theorem witness_WindowWrite :
    (5 < 24 ∧ 7 < 255 ∧ Located sUp rP (0x8100 + 5) (7 + 1) (row 0x8105) (0x8100 + 5)
       ∧ ((row 0x8105).acc (domainOf sUp.chip rP) = 2 ∨ (row 0x8105).acc (domainOf sUp.chip rP) = 3)
       ∧ (row 0x8105).kind = OdKind.rw ∧ (row 0x8105).type = OdType.blob ∧ valueCheck (row 0x8105) windowWrite_val15 = 0
       ∧ checkWindow sUp.chip 5 windowWrite_val15 = 0) := by
  decide +kernel +zetaReduce

/-- Hypotheses of Sessions (O19) are met. -/
theorem witness_SessionsOpenAndClose :
    (let c : Chip := sessions_s18.chip
     Handles sessions_s18 rFu ∧ onNetwork rFu.path = true ∧ openCheck c v132 = 0 ∧ sessionOn c rFu.path rFu.session = some ses)
    ∧ (let c : Chip := sessions_s21.chip
       Handles sessions_s21 rFv ∧ onNetwork rFv.path = true ∧ rFv.tagged = false
         ∧ sessionOn c rFv.path rFv.session = some ses ∧ List.length (zeros 96) = 96 ∧ rFv.verdict = false
         ∧ ses ∈ c.sl.sessions ∧ ses.num = 9 ∧ ses.last + 1000000 * odN c 0x4035 0 ≤ c.tb.ns)
    ∧ (let c : Chip := sessions_s19.chip
       Handles sessions_s19 rFu ∧ onNetwork rFu.path = true ∧ rFu.tagged = false
         ∧ sessionOn c rFu.path rFu.session = some ses ∧ List.length (zeros 96) = 96 ∧ rFu.verdict = true) := by
  refine ⟨?_, ?_, ?_⟩ <;> decide +kernel +zetaReduce

/-- Hypotheses of RequestIntake (O20) are met. -/
theorem witness_RequestIntakeInOrder :
    (let c : Chip := requestIntake_s22.chip
     let mine : Path → Bytes → Rq := fun path pdu => { path := path, seq := fld pdu 4 2, session := fld pdu 6 2, tagged := false, verdict := false }
     let plain : Bytes → Bool → Prop := fun pdu pad => 16 ≤ List.length pdu ∧ fld pdu 0 1 = 1 ∧ bit (fld pdu 1 1) 7 = false
         ∧ bit (fld pdu 1 1) 6 = false ∧ fld pdu 9 1 ≤ 64 ∧ knownService (fld pdu 2 1) = true ∧ (parsePdu pdu pad).isSome = true
     answering c = true ∧ (ff 16).fcsOk = true ∧ (ff 16).etherType = 0x88b5 ∧ (ff 16).dst = odN c 0x6015 0 % 2 ^ 48
       ∧ plain (ff 16).pdu true ∧ keptAnswer c (mine (Path.field (ff 16).src) (ff 16).pdu) = none
       ∧ pathFull c (mine (Path.field (ff 16).src) (ff 16).pdu) = false ∧ inbandOn c dg.ep = true ∧ dg.peer < 16
       ∧ isZero (odB c 0x6024 (dg.peer + 1)) = false ∧ dg.checksumOk = true ∧ dg.fragment = false ∧ List.length dg.pdu ≤ 1500
       ∧ plain dg.pdu false
       ∧ ((List.filter (fun x => x.1 == dg.peer && decide (c.tb.ns < x.2 + 1000000000)) c.sl.seen).length < odN c 0x6026 0)
       ∧ keptAnswer c (mine (Path.inband dg.ep dg.peer) dg.pdu) = none
       ∧ pathFull c (mine (Path.inband dg.ep dg.peer) dg.pdu) = false)
    ∧ (let c : Chip := requestIntake_s23.chip
       answering c = true ∧ requestIntake_f23.fcsOk = false)
    ∧ (let c : Chip := requestIntake_s24.chip
       let mine : Path → Bytes → Rq := fun path pdu => { path := path, seq := fld pdu 4 2, session := fld pdu 6 2, tagged := false, verdict := false }
       let plain : Bytes → Bool → Prop := fun pdu pad => 16 ≤ List.length pdu ∧ fld pdu 0 1 = 1 ∧ bit (fld pdu 1 1) 7 = false
           ∧ bit (fld pdu 1 1) 6 = false ∧ fld pdu 9 1 ≤ 64 ∧ knownService (fld pdu 2 1) = true
           ∧ (parsePdu pdu pad).isSome = true
       answering c = true ∧ (ff 16).fcsOk = true ∧ (ff 16).etherType = 0x88b5 ∧ (ff 16).dst = odN c 0x6015 0 % 2 ^ 48
         ∧ plain (ff 16).pdu true ∧ keptAnswer c (mine (Path.field (ff 16).src) (ff 16).pdu) = some an) := by
  refine ⟨?_, ?_, ?_⟩ <;> decide +kernel +zetaReduce

/-- Hypotheses of FieldPort (O21) are met. -/
theorem witness_FieldPortStates :
    (let c : Chip := fieldPort_s25.chip
     portPowered fieldPort_s25.chip = true ∧ odN c 0x6001 0 ≠ 2 ∧ 5 + 10000000 ≤ c.tb.ns ∧ odN c 0x6030 0 ≠ 1
       ∧ c.sl.outLimited = false)
    ∧ (let c : Chip := fieldPort_s27.chip
       portPowered fieldPort_s27.chip = true ∧ odN c 0x6001 0 = 2 ∧ 5 + 100000000 ≤ c.tb.ns
         ∧ ((c.sl.sessions.all fun x => !withdrawn c x.path) = true) ∧ ((List.map (fun x => x.num) c.sl.sessions).Nodup))
    ∧ (let c : Chip := fieldPort_s26.chip
       portPowered fieldPort_s26.chip = true ∧ odN c 0x6001 0 ≠ 2 ∧ 5 + 10000000 ≤ c.tb.ns ∧ odN c 0x6030 0 = 1) := by
  refine ⟨?_, ?_, ?_⟩ <;> decide +kernel +zetaReduce

/-- Hypotheses of Save (O22) are met. -/
theorem witness_SaveWritesTheOlderCopy :
    (let c : Chip := save_s31.chip
     Accepted save_s31 rC 0x1100 [] ∧ c.save = some jb0)
    ∧ (let c : Chip := save_s29.chip
       Accepted save_s29 rP 0x1100 [] ∧ c.save = none ∧ (∃ body, saveUsed c = some (0, body))
         ∧ fld (saveRegion c 0) 4 4 + 1 = 42 ∧ 42 < 2 ^ 32) := by
  refine ⟨?_, ?_⟩ <;> decide +kernel +zetaReduce

/-- Hypotheses of StagedBlocks (O23) are met. -/
theorem witness_StagedBlocksCommit :
    (let c : Chip := stagedBlocks_s33.chip
     let d : Dom := domainOf c rP
     Accepted stagedBlocks_s33 rP 0x1110 [] ∧ 2 < 8 ∧ ((c.sl.stages.all fun y => y.handle != 2 + 1) = true) ∧ (∀ m < 2,
       (c.sl.stages.any fun y => y.handle == m + 1) = true) ∧ Handles stagedBlocks_s33 rP ∧ stagedBlocks_es33.length ≤ 64
       ∧ ((stagedBlocks_es33.all fun e => e.op == 0) = true) ∧ stageOf c rP 1 = some s1
       ∧ firstRejected d true c 0 stagedBlocks_es33 = none ∧ List.length (tdel s1.segs 1) < 1024
       ∧ (stageSize (tdel s1.segs 1)).1 + stagedBlocks_es33.length ≤ 0x1000
       ∧ ((stageSize (tdel s1.segs 1)).2 + (List.map (fun e => List.length e.val) stagedBlocks_es33).sum ≤ 0x40000)
       ∧ Accepted stagedBlocks_s33 rP 0x1111 (ca 1 2) ∧ fld (ca 1 2) 0 1 = 1 ∧ fld (ca 1 2) 1 1 = 0
       ∧ (∀ m < fld (ca 1 2) 2 2, (tget? s1.segs m).isSome = true)
       ∧ (fld (ca 1 2) 4 8 = 0 ∨ fld (ca 1 2) 4 8 = odN c 0x1104 0) ∧ firstRejected d false c 0 stagedBlocks_es33 = none)
    ∧ (let c : Chip := stagedBlocks_s36.chip
       Accepted stagedBlocks_s36 rP 0x1112 [2] ∧ leNat [2] = 2 ∧ 1 ≤ 2 ∧ 2 ≤ 8 ∧ stageOf c rP 2 = some s2 ∧ s2 ∈ c.sl.stages
         ∧ s2.handle = 2 ∧ s2.last + 1000000 * odN c 0x1113 0 ≤ c.tb.ns)
    ∧ (let c : Chip := stagedBlocks_s34.chip
       Accepted stagedBlocks_s34 rP 0x1111 (ca 2 2) ∧ fld (ca 2 2) 0 1 = 2 ∧ fld (ca 2 2) 1 1 = 0 ∧ stageOf c rP 2 = some s2
         ∧ (∃ m < fld (ca 2 2) 2 2, tget? s2.segs m = none))
    ∧ (let c : Chip := stagedBlocks_s37.chip
       Accepted stagedBlocks_s37 rP 0x1110 [] ∧ (∀ m < 8, (c.sl.stages.any fun y => y.handle == m + 1) = true)) := by
  refine ⟨?_, ?_, ?_, ?_⟩ <;> decide +kernel +zetaReduce

/-- Operands that StagedBlocks (O23) defines by an equation. -/
theorem witness_StagedBlocksCommit_operands :
    (stagedBlocks_es33 = (List.map (fun m => tget [] s1.segs m) (List.range (fld (ca 1 2) 2 2))).flatten) := by
  first | rfl | decide +kernel +zetaReduce

/-- The write of WriteCollision that took effect. -/
theorem witness_WriteCollision_write : exec (Instr.write rC [{ eW with op := 0 }]) upU = becomes upU writeCollision_b17 := rfl


end Part11

/-! ### Energy and power -/

namespace Part12

def u2 : Chip := { up with tb := { up.tb with ns := 100000000 } }
def j1 : AdmJob := ⟨4, 3, 7, 5, 100, 150, 0, true⟩
def uE (en : Energy) (l : List (Nat × Nat × Nat)) : Chip := withOd { u2 with en := en } l
def rd : DomReading := ⟨1000, 300, [(3, 700)], true, 800⟩
def gv (l : List (Nat × Nat × Nat)) (ls : Table Nat) (v : Nat) : State := st (uE { up.en with lastStep := ls, vcmd := tput up.en.vcmd 3 v, lowRun := [(3, 10)] } ([(0x02023,0,1000),
  (0x02031,3,700),(0x02032,3,800)] ++ l))
def hv (l : List (Nat × Nat × Nat)) (en : Energy) (v : Nat) : State := st (uE { en with vcmd := tput up.en.vcmd 3 v, lowRun := [(3, 10)] } ([(0x02023,0,1000),
  (0x02031,3,700),(0x02032,3,800),(0x02033,3,760),(0x02036,0,100)] ++ l))
def uA : Chip := withOd (p3 up) [(0x02023,0,1000000),(0x02243,0,500000),(0x02805,1,10),(0x02805,2,1000)]
def uB : Chip := {uA with en := {uA.en with budget := [(3, 500000)]} }
def a1 : Chip := withDq uB 70 (dqr 1 0 18 0xFF 0 0) { Dq.empty with entries := [ent vjob, ent vjob] }
def w3 : Bytes := wbr 6 1 5 0 8 0x1000
def a2 : Chip := withDq (withSto uB 3 1 [wb0 w3 (nsr 3 1)]) 9 (dqr 2 2 0 3 2 9) { Dq.empty with entries := [ent w3] }
def a3 : Chip := withSto uB 0xFD 1 [wb0 w3 (nsr 0xFD 1)]
def a4 : Chip := withPq (withPq uB 1 4 { PortQ.empty with waiting := [pe (cip 7 0 0x1000 64 0), pe []] }) 33 4 { PortQ.empty with waiting := [pe (rel 0x60 1 0 0x1000 64), pe []] }
def accountingInterval_s0 : State := st (uE { up.en with intervalEnd := 99000000 } [(0x02283,1,2^64-2)])
def accountingInterval_s3 : State := st (uE { up.en with intervalEnd := 99000000, jobs := [j1] } [])
def windowBoundary_s4 : State := st (uE { up.en with windowEnd := 100000000, allow := [(64+5, 10), (128+5,-400)] } [(0x02205,0,300),
  (0x02245,0,2^64-50)])
def railGovernor_s6 : State := gv [(0x02030,3,1),(0x02035,3,770)] [] 750
def railGovernor_s7 : State := gv [(0x02030,3,0),(0x02033,3,750)] [(3,99980000)] 750
def railGovernor_s8 : State := gv [(0x02030,3,0),(0x02033,3,750)] [(3,99980000)] 750
def railGovernor_s9 : State := gv [(0x02030,3,0),(0x02033,3,750)] [(3,99980000)] 770
def railGovernor_s10 : State := gv [(0x02030,3,0),(0x02033,3,800)] [(3,99980000)] 800
def heat_s11 : State := hv [] up.en 750
def heat_s12 : State := hv [] up.en 705
def heat_s13 : State := hv [] up.en 550
def heat_s14 : State := hv [] up.en 735
def heat_s15 : State := hv [(0x02030,3,1),
  (0x02035,3,770)] { up.en with yielded := [(3, true)], thermStep := [(3, 99000000)] } 695
def pmbus_s17 : State := st u2
def pmbus_s18 : State := st (uE up.en [(0x02050,0,2)])
def admission_s20 : State := st a2
def admission_s19 : State := st a1
def admission_s22 : State := st a3
def admission_q22 : NativeQ := nq 0xFD [wb0 w3 (nsr 0xFD 1)]
def admission_s23 : State := st a4
def admission_s24 : State := st a4
def admission_x24 : PqEntry := pe (rel 0x60 1 0 0x1000 64)
def admission_s21 : State := st (withOd a2 [(0x02023,0,5)])

/-- Hypotheses of AccountingInterval (O24, EnergyAccounting) are met. -/
theorem witness_AccountingInterval :
    (let c : Chip := accountingInterval_s0.chip
     accountingInterval_s0.chip.en.intervalEnd ≤ accountingInterval_s0.chip.tb.ns
       ∧ accountingInterval_s0.chip.boot.signalBox = true ∧ 3 < 64 ∧ rd.acts = [(3, 700)]
       ∧ ((c.en.jobs.all fun x => !x.done) = true))
    ∧ (let c : Chip := accountingInterval_s3.chip
       accountingInterval_s3.chip.en.intervalEnd ≤ accountingInterval_s3.chip.tb.ns
         ∧ accountingInterval_s3.chip.boot.signalBox = true ∧ 3 < 64 ∧ c.en.jobs = [j1] ∧ j1.done = true ∧ j1.plat = 3
         ∧ j1.die = 0 ∧ odN c (0x2800 + j1.ket) 4 = 0) := by
  refine ⟨?_, ?_⟩ <;> decide +kernel +zetaReduce

/-- Hypotheses of WindowBoundary (O24, EnergyAccounting) are met. -/
theorem witness_WindowBoundary :
    (windowBoundary_s4.chip.en.windowEnd ≤ windowBoundary_s4.chip.tb.ns ∧ windowBoundary_s4.chip.disp.dqs = [] ∧ 5 < 64
       ∧ 1 ≤ 1 ∧ 1 ≤ 4) := by
  decide +kernel +zetaReduce

/-- Hypotheses of RailGovernor (O26, RailsAndHeat) are met. -/
theorem witness_RailGovernor :
    (let c : Chip := railGovernor_s6.chip
     let v : Nat := tget 750 c.en.vcmd 3
     let free : Prop := c.boot.signalBox = true ∧ odN c 0x2050 0 ≠ 2 ∧ tget false c.en.yielded 3 = false
         ∧ odN c 0x2037 3 < odN c 0x2036 0 ∧ ∀ (l : Nat), tget? c.en.lastStep 3 = some l → l + 20000 ≤ c.tb.ns
     1 ≤ 3 ∧ 3 ≤ 5 ∧ free ∧ odN c 0x2030 3 = 1 ∧ v ≠ odN c 0x2035 3 ∧ 10 ≤ tget 0 c.en.lowRun 3 ∧ tget 0 c.en.lowRun 3 < 1000)
    ∧ (let c : Chip := railGovernor_s7.chip
       let v : Nat := tget 750 c.en.vcmd 3
       let ceiling : Nat := if odN c 0x2001 0 = 1 then odN c 0x2005 0 else odN c 0x2032 3
       let floor : Nat := odN c 0x2031 3
       let free : Prop := c.boot.signalBox = true ∧ odN c 0x2050 0 ≠ 2 ∧ tget false c.en.yielded 3 = false
           ∧ odN c 0x2037 3 < odN c 0x2036 0 ∧ ∀ (l : Nat), tget? c.en.lastStep 3 = some l → l + 20000 ≤ c.tb.ns
       1 ≤ 3 ∧ 3 ≤ 5 ∧ free ∧ odN c 0x2030 3 ≠ 1 ∧ -1 ≤ 1 ∧ 1 ≤ 1
         ∧ ↑760 = min (↑ceiling) (max (↑floor) (↑(odN c 0x2033 3) + 10 * 1)) ∧ v < 760 ∧ ↑500 ≤ odI c 0x2023 0)
    ∧ (let c : Chip := railGovernor_s8.chip
       let v : Nat := tget 750 c.en.vcmd 3
       let ceiling : Nat := if odN c 0x2001 0 = 1 then odN c 0x2005 0 else odN c 0x2032 3
       let floor : Nat := odN c 0x2031 3
       let free : Prop := c.boot.signalBox = true ∧ odN c 0x2050 0 ≠ 2 ∧ tget false c.en.yielded 3 = false
           ∧ odN c 0x2037 3 < odN c 0x2036 0 ∧ ∀ (l : Nat), tget? c.en.lastStep 3 = some l → l + 20000 ≤ c.tb.ns
       1 ≤ 3 ∧ 3 ≤ 5 ∧ free ∧ odN c 0x2030 3 ≠ 1 ∧ -1 ≤ 1 ∧ 1 ≤ 1
         ∧ ↑760 = min (↑ceiling) (max (↑floor) (↑(odN c 0x2033 3) + 10 * 1)) ∧ v < 760 ∧ odI c 0x2023 0 < ↑5000)
    ∧ (let c : Chip := railGovernor_s9.chip
       let v : Nat := tget 750 c.en.vcmd 3
       let ceiling : Nat := if odN c 0x2001 0 = 1 then odN c 0x2005 0 else odN c 0x2032 3
       let floor : Nat := odN c 0x2031 3
       let free : Prop := c.boot.signalBox = true ∧ odN c 0x2050 0 ≠ 2 ∧ tget false c.en.yielded 3 = false
           ∧ odN c 0x2037 3 < odN c 0x2036 0 ∧ ∀ (l : Nat), tget? c.en.lastStep 3 = some l → l + 20000 ≤ c.tb.ns
       1 ≤ 3 ∧ 3 ≤ 5 ∧ free ∧ odN c 0x2030 3 ≠ 1 ∧ -1 ≤ -1 ∧ -1 ≤ 1
         ∧ (740 : Int) = min (ceiling : Int) (max (floor : Int) ((odN c 0x2033 3 : Int) + 10 * -1)) ∧ 740 < v)
    ∧ (let c : Chip := railGovernor_s10.chip
       let v : Nat := tget 750 c.en.vcmd 3
       let ceiling : Nat := if odN c 0x2001 0 = 1 then odN c 0x2005 0 else odN c 0x2032 3
       let floor : Nat := odN c 0x2031 3
       let free : Prop := c.boot.signalBox = true ∧ odN c 0x2050 0 ≠ 2 ∧ tget false c.en.yielded 3 = false
           ∧ odN c 0x2037 3 < odN c 0x2036 0 ∧ ∀ (l : Nat), tget? c.en.lastStep 3 = some l → l + 20000 ≤ c.tb.ns
       1 ≤ 3 ∧ 3 ≤ 5 ∧ free ∧ odN c 0x2030 3 ≠ 1 ∧ -1 ≤ 1 ∧ 1 ≤ 1
         ∧ ↑800 = min (↑ceiling) (max (↑floor) (↑(odN c 0x2033 3) + 10 * 1)) ∧ 800 = v) := by
  refine ⟨?_, ?_, ?_, ?_, ?_⟩ <;> decide +kernel +zetaReduce

/-- Hypotheses of Heat (O26, RailsAndHeat) are met. -/
theorem witness_Heat :
    (let c : Chip := heat_s11.chip
     let v : Nat := tget 750 c.en.vcmd 3
     let low : Nat := max 550 (v - 10)
     1 ≤ 3 ∧ 3 ≤ 5 ∧ odN heat_s11.chip 0x2050 0 ≠ 2 ∧ (∀ (t : Nat),
       tget? heat_s11.chip.en.thermStep 3 = some t → t + 1000000 ≤ heat_s11.chip.tb.ns) ∧ odN c 0x2036 0 ≤ 100 ∧ 550 < v
       ∧ (odN c 0x2031 3 ≤ low ∨ tget false c.en.yielded 3 = true))
    ∧ (let c : Chip := heat_s12.chip
       let v : Nat := tget 750 c.en.vcmd 3
       let low : Nat := max 550 (v - 10)
       1 ≤ 3 ∧ 3 ≤ 5 ∧ odN heat_s12.chip 0x2050 0 ≠ 2 ∧ (∀ (t : Nat),
         tget? heat_s12.chip.en.thermStep 3 = some t → t + 1000000 ≤ heat_s12.chip.tb.ns) ∧ odN c 0x2036 0 ≤ 126 ∧ 550 < v
         ∧ low < odN c 0x2031 3 ∧ tget false c.en.yielded 3 = false)
    ∧ (let c : Chip := heat_s13.chip
       let v : Nat := tget 750 c.en.vcmd 3
       1 ≤ 3 ∧ 3 ≤ 5 ∧ odN heat_s13.chip 0x2050 0 ≠ 2 ∧ (∀ (t : Nat),
         tget? heat_s13.chip.en.thermStep 3 = some t → t + 1000000 ≤ heat_s13.chip.tb.ns) ∧ odN c 0x2036 0 ≤ 101 ∧ v ≤ 550)
    ∧ (let c : Chip := heat_s14.chip
       let v : Nat := tget 750 c.en.vcmd 3
       1 ≤ 3 ∧ 3 ≤ 5 ∧ odN heat_s14.chip 0x2050 0 ≠ 2 ∧ (∀ (t : Nat),
         tget? heat_s14.chip.en.thermStep 3 = some t → t + 1000000 ≤ heat_s14.chip.tb.ns) ∧ 96 + 3 < odN c 0x2036 0
         ∧ tget false c.en.yielded 3 = false ∧ v < 760 ∧ (odN c 0x2030 3 = 1 ∧ 760 = odN c 0x2035 3 ∨ odN c 0x2030 3 ≠ 1
         ∧ 760 = railClamp c 3 ↑(odN c 0x2033 3)))
    ∧ (let c : Chip := heat_s15.chip
       let v : Nat := tget 750 c.en.vcmd 3
       1 ≤ 3 ∧ 3 ≤ 5 ∧ odN heat_s15.chip 0x2050 0 ≠ 2 ∧ (∀ (t : Nat),
         tget? heat_s15.chip.en.thermStep 3 = some t → t + 1000000 ≤ heat_s15.chip.tb.ns) ∧ 96 + 3 < odN c 0x2036 0
         ∧ tget false c.en.yielded 3 = true ∧ v < 770 ∧ odN c 0x2031 3 ≤ min 770 (v + 10) ∧ (odN c 0x2030 3 = 1
         ∧ 770 = odN c 0x2035 3 ∨ odN c 0x2030 3 ≠ 1 ∧ 770 = railClamp c 3 ↑(odN c 0x2033 3))) := by
  refine ⟨?_, ?_, ?_, ?_, ?_⟩ <;> decide +kernel +zetaReduce

/-- Hypotheses of Pmbus (O26, RailsAndHeat) are met. -/
theorem witness_Pmbus :
    (let c : Chip := pmbus_s17.chip
     odN c 0x2050 0 ≠ 2 ∧ 1 ≤ 1 ∧ 1 ≤ 8)
    ∧ (let c : Chip := pmbus_s18.chip
       odN c 0x2050 0 = 2 ∧ c.en.pmbusRetry ≤ c.tb.ns) := by
  refine ⟨?_, ?_⟩ <;> decide +kernel +zetaReduce

/-- Hypotheses of Admission (O25) are met. -/
theorem witness_AdmissionBooksEstimate :
    (let c : Chip := admission_s20.chip
     let est : Nat → Nat → Nat := fun ket units => odN c (0x2800 + ket) 1 + (units * odN c (0x2800 + ket) 2 + 999) / 1000
     let covers : Nat → Prop := fun v => ↑v ≤ odI c 0x2023 0
     askingEntry c 9 = some (0, ent w3) ∧ (ent w3).adm = 0 ∧ entryBad c 9 (ent w3).b = false
       ∧ 3 = (dqView c 9 (ent w3).b).2.1 ∧ 5 = fld (ent w3).b 6 2 ∧ 4 = entryUnits c 9 (ent w3).b ∧ 3 < 64
       ∧ platOn c 3 = true ∧ dqDie 9 = 0 ∧ admissionOpen c 0 = true ∧ covers (est 5 4) ∧ est 5 4 ≤ tget 0 c.en.budget 3
       ∧ ↑(est 5 4) ≤ odI c (0x2240 + 3) 0)
    ∧ (let c : Chip := admission_s19.chip
       let covers : Nat → Prop := fun v => ↑v ≤ odI c 0x2023 0
       let est : Nat → Nat → Nat := fun ket units => odN c (0x2800 + ket) 1 + (units * odN c (0x2800 + ket) 2 + 999) / 1000
       askingEntry c 70 = some (0, ent vjob) ∧ (ent vjob).adm = 0 ∧ entryBad c 70 (ent vjob).b = false
         ∧ 255 = (dqView c 70 (ent vjob).b).2.1 ∧ 5 = fld (ent vjob).b 6 2 ∧ 1 = entryUnits c 70 (ent vjob).b ∧ 64 ≤ 255
         ∧ admissionOpen c (dqDie 70) = true ∧ covers (est 5 1))
    ∧ (let c : Chip := admission_s22.chip
       let covers : Nat → Prop := fun v => ↑v ≤ odI c 0x2023 0
       let est : Nat → Nat → Nat := fun ket units => odN c (0x2800 + ket) 1 + (units * odN c (0x2800 + ket) 2 + 999) / 1000
       nqOf c 9 = some admission_q22
         ∧ (List.find? (fun w => w.stage == 0 && w.status == 0) admission_q22.wbs = some (wb0 w3 (nsr 253 1)))
         ∧ admission_q22.error = false ∧ 64 ≤ admission_q22.owner ∧ admissionOpen c 0 = true
         ∧ covers (est (wbKet (wb0 w3 (nsr 253 1)).b) (cdiv (wbBytes (wb0 w3 (nsr 253 1))) 1024)))
    ∧ (let c : Chip := admission_s23.chip
       let covers : Nat → Prop := fun v => ↑v ≤ odI c 0x2023 0
       let est : Nat → Nat → Nat := fun ket units => odN c (0x2800 + ket) 1 + (units * odN c (0x2800 + ket) 2 + 999) / 1000
       1 < 16 ∧ (portQ c 1).waiting = [pe (cip 7 0 0x1000 64 0), pe []] ∧ (pe (cip 7 0 0x1000 64 0)).adm = 0
         ∧ cipherBad c 1 (pe (cip 7 0 0x1000 64 0)).b = 0 ∧ 64 ≤ cPlat (pe (cip 7 0 0x1000 64 0)).b
         ∧ admissionOpen c 0 = true
         ∧ covers (est (cKet (pe (cip 7 0 0x1000 64 0)).b) (cipherUnits (pe (cip 7 0 0x1000 64 0)).b)))
    ∧ (let c : Chip := admission_s24.chip
       let covers : Nat → Prop := fun v => ↑v ≤ odI c 0x2023 0
       let est : Nat → Nat → Nat := fun ket units => odN c (0x2800 + ket) 1 + (units * odN c (0x2800 + ket) 2 + 999) / 1000
       1 < 16 ∧ c.cons.leaving = none ∧ (portQ c (32 + 1)).waiting = [admission_x24, pe []] ∧ admission_x24.adm = 0
         ∧ relayInvalid c (portCore c (32 + 1)) admission_x24.b = false ∧ 64 ≤ rPlat admission_x24.b ∧ tagTaken c = false
         ∧ admissionOpen c 0 = true ∧ covers (est (rKet admission_x24.b) (relayUnits c admission_x24.b)))
    ∧ (let c : Chip := admission_s21.chip
       let covers : Nat → Prop := fun v => ↑v ≤ odI c 0x2023 0
       let est : Nat → Nat → Nat := fun ket units => odN c (0x2800 + ket) 1 + (units * odN c (0x2800 + ket) 2 + 999) / 1000
       askingEntry c 9 = some (0, ent w3) ∧ (ent w3).adm = 0 ∧ entryBad c 9 (ent w3).b = false
         ∧ 3 = (dqView c 9 (ent w3).b).2.1 ∧ 5 = fld (ent w3).b 6 2 ∧ 4 = entryUnits c 9 (ent w3).b ∧ 3 < 64
         ∧ platOn c 3 = true ∧ est 5 4 ≤ tget 0 c.en.budget 3 ∧ (¬covers (est 5 4))) := by
  refine ⟨?_, ?_, ?_, ?_, ?_, ?_⟩ <;> decide +kernel +zetaReduce

end Part12

/-! ### Resets, bring-up, power steps -/

namespace Part13

def tr (l : List (Nat × Nat × Nat)) (t : Option Trans) : Chip := withOd { up with en := { up.en with trans := t } } l
def lease (c : Chip) : Chip := { c with engines := { c.engines with ciphers := [⟨1, 0, zeros 64, 0, 3, 5, [], none⟩] } }
def dfd : Deferred := ⟨1, 3, 0xE003, 5⟩
def emg : Chip := let c := lease up; { c with sec := { c.sec with deferred := [dfd] } }
def dr (l : List (Nat × Nat × Nat)) (t : Option Nat) : Chip := withOd { up with tb := {up.tb with ns := 3000000000}, en := { up.en with drainAt := t, railsOff := true } } l
def sv : Chip := { up with save := none, boot := { up.boot with resetLow := true }, flash := { up.flash with customer := [1,2,3] } }
def bt (f : Flash) : Chip := withOd { cold with flash := f, tb := { cold.tb with ns := 2000000 } } [(0x01001,0,1)]
def bk (f : Flash) : Chip := { bt f with sec := { cold.sec with bootKeys := keys } }
def br (l : List (Nat × Nat × Nat)) (b : Boot) (ns : Nat) : Chip := withOd { cold with boot := b, tb := { cold.tb with ns := ns } } l
def er5 : ErrRec := ⟨3, 5, 1, 0x1000, 0, 0, 0, 0, 0, 0, 0, 0, 0, 0⟩
def hp (l : List (Nat × Nat × Nat)) (p : Table Bool) : Chip := withOd { up with boot := { upBoot with perst := p } } l
def powerRequest_s3 : State := st (lease (tr [(0x02001,0,2)] none))
def powerRequest_s0 : State := st up
def powerRequest_s1 : State := st up
def powerRequest_s2 : State := st (p3 (tr [(0x02001,0,2)] none))
def powerSteps_s8 : State := st (tr [(0x02001,0,3)] (some ⟨4, false, false, 5⟩))
def powerSteps_t8 : Machine.Trans := ⟨4, false, false, 5⟩
def powerSteps_s6 : State := st (tr [(0x02001,0,1)] (some ⟨2, false, false, 5⟩))
def powerSteps_t6 : Machine.Trans := ⟨2, false, false, 5⟩
def powerSteps_s5 : State := st (tr [(0x02001,0,0)] (some ⟨1, false, false, 5⟩))
def powerSteps_t5 : Machine.Trans := ⟨1, false, false, 5⟩
def powerSteps_s7 : State := st (tr [(0x02001,0,2)] (some ⟨3, false, false, 5⟩))
def powerSteps_t7 : Machine.Trans := ⟨3, false, false, 5⟩
def emergencies_s10 : State := st (withOd emg [(0x02001,0,2)])
def emergencies_s9 : State := st up
def drain_s14 : State := st (dr [(0x02046,0,1)] (some 5))
def drain_s12 : State := st (dr [] none)
def drain_s15 : State := st (dr [(0x02046,0,2)] (some 5))
def drain_s16 : State := st (dr [(0x02046,0,2)] (some 5))
def coldStarts_s18 : State := st sv
def coldStarts_s19 : State := st { sv with boot := { sv.boot with vaon := false} }
def bootRom_s20 : State := st (bt cold.flash)
def bootRom_s21 : State := st (bt { cold.flash with descA := desc 1 })
def bootRom_s22 : State := st (bk { cold.flash with descA := desc 0, slotA := slot })
def bootRom_s23 : State := st (bk { cold.flash with descB := desc 0, slotB := slot })
def bringUp_s26 : State := st (br [(0x01001,0,1),(0x08001,1,2),(0x08001,5,2),
  (0x01002,0,0x18)] { upBoot with warmSince := none } 480000000)
def bringUp_s24 : State := st (br [(0x01001,0,1),(0x08001,1,2)] Boot.cold 30000000)
def bringUp_s25 : State := st (br [(0x01001,0,1),(0x08001,1,2),
  (0x01002,0,0x18)] { Boot.cold with signalBox := true, dieLit := [(1,true)], dieFailed := [(2,true)] } 30000000)
def bringUp_s27 : State := st (br [(0x01001,0,4),(0x08001,1,2),(0x08001,5,2),(0x01002,0,0x18),
  (0x01006,0,2)] { upBoot with warmSince := some 5 } 480000000)
def farTier_s28 : State := st (withOd up [(0x11031,4,1)])
def farTier_s30 : State := st (withOd { up with boot := { upBoot with farLeft := [(0, 3)] } } [(0x11031,1,2)])
def resets_s31 : State := st { up with faults := { up.faults with log := [er5] } }
def resets_s32 : State := st (lease up)
def hostPorts_s34 : State := st (hp [(0x11003,3,2)] [])
def hostPorts_s36 : State := st (hp [(0x01002,0,7)] [(1, true)])
def hostPorts_s35 : State := st (hp [(0x11003,3,2),(0x01001,0,1)] [])

/-- Hypotheses of PowerRequest (O27, PowerStates) are met. -/
theorem witness_PowerRequest :
    (let c : Chip := powerRequest_s3.chip
     let target : Nat := leNat [3]
     Accepted powerRequest_s3 rP 0x2002 [3] ∧ poweringDown powerRequest_s3.chip = false
       ∧ fwActive powerRequest_s3.chip = false ∧ odN c 0x2001 0 = 2 ∧ target = 3 ∧ (∀ p < 64, odN c (0x10040 + p) 0 = 0)
       ∧ 3 < 8 ∧ clusterLeased c 3 = true ∧ (∀ i < 3, clusterLeased c i = false))
    ∧ (let target : Nat := leNat [0]
       let c : Chip := powerRequest_s0.chip
       Accepted powerRequest_s0 rP 0x2002 [0] ∧ poweringDown powerRequest_s0.chip = false
         ∧ fwActive powerRequest_s0.chip = false ∧ target = odN c 0x2001 0 ∧ target ≤ 4)
    ∧ (let c : Chip := powerRequest_s1.chip
       let target : Nat := leNat [1]
       Accepted powerRequest_s1 rP 0x2002 [1] ∧ poweringDown powerRequest_s1.chip = false
         ∧ fwActive powerRequest_s1.chip = false ∧ odN c 0x2001 0 + target = 1)
    ∧ (let c : Chip := powerRequest_s2.chip
       let target : Nat := leNat [3]
       Accepted powerRequest_s2 rP 0x2002 [3] ∧ poweringDown powerRequest_s2.chip = false
         ∧ fwActive powerRequest_s2.chip = false ∧ odN c 0x2001 0 = 2 ∧ target = 3 ∧ (∃ p < 64, odN c (0x10040 + p) 0 ≠ 0)) := by
  refine ⟨?_, ?_, ?_, ?_⟩ <;> decide +kernel +zetaReduce

/-- Hypotheses of PowerSteps (O27, PowerStates) are met. -/
theorem witness_PowerSteps :
    (let c : Chip := powerSteps_s8.chip
     powerSteps_s8.chip.en.trans = some powerSteps_t8 ∧ powerSteps_t8.deferred = false ∧ odN c 0x2001 0 = 3
       ∧ powerSteps_t8.target = 4 ∧ powerSteps_t8.since + 10000000 ≤ c.tb.ns)
    ∧ (let c : Chip := powerSteps_s6.chip
       powerSteps_s6.chip.en.trans = some powerSteps_t6 ∧ powerSteps_t6.deferred = false ∧ odN c 0x2001 0 = 1
         ∧ powerSteps_t6.target = 2 ∧ diesQuiet c = true ∧ 0 < 4)
    ∧ (let c : Chip := powerSteps_s5.chip
       powerSteps_s5.chip.en.trans = some powerSteps_t5 ∧ powerSteps_t5.deferred = false ∧ powerSteps_t5.drain = false
         ∧ (odN c 0x2001 0 = 0 ∧ powerSteps_t5.target = 1 ∨ odN c 0x2001 0 = 1 ∧ powerSteps_t5.target = 0))
    ∧ (let c : Chip := powerSteps_s7.chip
       powerSteps_s7.chip.en.trans = some powerSteps_t7 ∧ powerSteps_t7.deferred = false ∧ odN c 0x2001 0 = 2
         ∧ powerSteps_t7.target = 3) := by
  refine ⟨?_, ?_, ?_, ?_⟩ <;> decide +kernel +zetaReduce

/-- Hypotheses of Emergencies (O28, EmergenciesAndDrain) are met. -/
theorem witness_Emergencies :
    (let c : Chip := emergencies_s10.chip
     emergencies_s10.chip.boot.signalBox = true ∧ 1 ≤ 5 ∧ 5 ≤ 5 ∧ 110 ≤ 110 ∧ odN c 0x2001 0 < 3 ∧ 5 ≤ 8 ∧ 3 < 8
       ∧ blockLeased c 3 = true ∧ dfd ∈ c.sec.deferred ∧ 3 ∈ waitsFor dfd ∧ dfd.since + 1000000 * odN c 0x4041 0 ≤ c.tb.ns)
    ∧ (let c : Chip := emergencies_s9.chip
       emergencies_s9.chip.boot.signalBox = true ∧ 1 ≤ 1 ∧ blockLeased c 3 = false ∧ c.sec.deferred = []) := by
  refine ⟨?_, ?_⟩ <;> decide +kernel +zetaReduce

/-- Hypotheses of Drain (O28, EmergenciesAndDrain) are met. -/
theorem witness_Drain :
    (let c : Chip := drain_s14.chip
     c.en.drainAt = some 5 ∧ odN c 0x2046 0 = 1 ∧ c.en.trans = none ∧ (5 + 100000000 ≤ c.tb.ns ∨ workRuns c = false)
       ∧ odN (endAllWork c 0) 0x2001 0 < 3 ∧ 5 + 1000000000 + 1000000 * c.en.drainHeld ≤ c.tb.ns ∧ 1 ≤ 7 ∧ 7 ≤ 7
       ∧ c.en.railsOff = true ∧ 50 < 51)
    ∧ (let c : Chip := drain_s12.chip
       Accepted drain_s12 rC 0x2045 [] ∧ poweringDown c = false ∧ fwActive c = false ∧ c.weights.load = none)
    ∧ (let stored : Nat := (List.map (fun x => x.1 * x.2 * x.2) ([1100000, 600000, 600000, 600000, 600000, 400000, 20000,
           150000, 50000].zip [1, 1])).sum / 2000000
       let c : Chip := drain_s15.chip
       odN c 0x2046 0 = 2 ∧ stored ≤ odN c 0x2044 0)
    ∧ (let c : Chip := drain_s16.chip
       let stored : Nat := (List.map (fun x => x.1 * x.2 * x.2) ([1100000, 600000, 600000, 600000, 600000, 400000, 20000,
           150000, 50000].zip [1000000, 1000000])).sum / 2000000
       odN c 0x2046 0 = 2 ∧ odN c 0x2044 0 < stored) := by
  refine ⟨?_, ?_, ?_, ?_⟩ <;> decide +kernel +zetaReduce

/-- Hypotheses of ColdStarts (O29) are met. -/
theorem witness_ColdStartsClear :
    (let c : Chip := coldStarts_s18.chip
     1000 ≤ 1000 ∧ c.boot.vaon = true ∧ c.save = none ∧ c.boot.resetLow = true)
    ∧ (let c : Chip := coldStarts_s19.chip
       c.boot.vaon = false ∧ c.save = none)
    ∧ (999 < 1000) := by
  refine ⟨?_, ?_, ?_⟩ <;> decide +kernel +zetaReduce

/-- Hypotheses of BootRom (O31, BootAndBringUp) are met. -/
theorem witness_BootRom :
    (let c : Chip := bootRom_s20.chip
     let timed : Chip := odSet c 0x1003 1 2000000
     bootRom_s20.chip.boot.resetLow = false ∧ bootRom_s20.chip.boot.vaon = true ∧ odN bootRom_s20.chip 0x1001 0 = 1
       ∧ bootRom_s20.chip.boot.signalBox = false ∧ coreState bootRom_s20.chip 0 = 0 ∧ 2000000 ≤ bootRom_s20.chip.tb.ns
       ∧ descUsed timed = none)
    ∧ (let c : Chip := bootRom_s21.chip
       let timed : Chip := odSet c 0x1003 1 2000000
       let measured : Chip := extendMr timed 0 (leBytes 4 Config.bootRomVersion ++ List.take 32 (descCopy timed 0))
       let sigs : Nat → List Bool := fun k => if k = 0 then [] else []
       bootRom_s21.chip.boot.resetLow = false ∧ bootRom_s21.chip.boot.vaon = true ∧ odN bootRom_s21.chip 0x1001 0 = 1
         ∧ bootRom_s21.chip.boot.signalBox = false ∧ coreState bootRom_s21.chip 0 = 0 ∧ 2000000 ≤ bootRom_s21.chip.tb.ns
         ∧ descUsed timed = some 0 ∧ (1 = if fld (List.take 32 (descCopy timed 0)) 8 1 = 0 then 0 else 1))
    ∧ (let c : Chip := bootRom_s22.chip
       let timed : Chip := odSet c 0x1003 1 2000000
       let measured : Chip := extendMr timed 0 (leBytes 4 Config.bootRomVersion ++ List.take 32 (descCopy timed 0))
       let sigs : Nat → List Bool := fun k => if k = 0 then [true, true, true, true] else []
       bootRom_s22.chip.boot.resetLow = false ∧ bootRom_s22.chip.boot.vaon = true ∧ odN bootRom_s22.chip 0x1001 0 = 1
         ∧ bootRom_s22.chip.boot.signalBox = false ∧ coreState bootRom_s22.chip 0 = 0 ∧ 2000000 ≤ bootRom_s22.chip.tb.ns
         ∧ descUsed timed = some 0 ∧ (0 = if fld (List.take 32 (descCopy timed 0)) 8 1 = 0 then 0 else 1))
    ∧ (let c : Chip := bootRom_s23.chip
       let timed : Chip := odSet c 0x1003 1 2000000
       let measured : Chip := extendMr timed 0 (leBytes 4 Config.bootRomVersion ++ List.take 32 (descCopy timed 1))
       let sigs : Nat → List Bool := fun k => if k = 0 then [] else [true, true, true, true]
       bootRom_s23.chip.boot.resetLow = false ∧ bootRom_s23.chip.boot.vaon = true ∧ odN bootRom_s23.chip 0x1001 0 = 1
         ∧ bootRom_s23.chip.boot.signalBox = false ∧ coreState bootRom_s23.chip 0 = 0 ∧ 2000000 ≤ bootRom_s23.chip.tb.ns
         ∧ descUsed timed = some 1 ∧ (0 = if fld (List.take 32 (descCopy timed 1)) 8 1 = 0 then 0 else 1)) := by
  refine ⟨?_, ?_, ?_, ?_⟩ <;> decide +kernel +zetaReduce

/-- Hypotheses of BringUp (O31, BootAndBringUp) are met. -/
theorem witness_BringUp :
    (let c : Chip := bringUp_s26.chip
     let begun : Chip → Nat → Prop := fun b n => bit (odN b 0x1002 0) n = true
     c.boot.resetLow = false ∧ c.boot.vaon = true ∧ odN c 0x1001 0 = 1 ∧ coreState c 0 ≠ 0 ∧ bit (odN c 0x1002 0) 2 = false
       ∧ 20000000 ≤ c.tb.ns ∧ (odN c 0x1001 0 = 1 ∨ odN c 0x1001 0 = 4) ∧ c.boot.signalBox = true ∧ begun c 4
       ∧ diesUp c = true ∧ clSettled c = true ∧ coreState c 4 ≠ 0 ∧ coreState c 4 ≠ 6 ∧ 7 ∈ [7, 8, 13, 16]
       ∧ c.boot.warmSince = none ∧ c.en.trans = none ∧ 480000000 ≤ c.tb.ns ∧ c.boot.readyLate = false)
    ∧ (let c : Chip := bringUp_s24.chip
       c.boot.signalBox = false ∧ odN c 0x1001 0 = 1 ∧ coreState c 0 ≠ 0 ∧ 30000000 ≤ c.tb.ns ∧ c.faults.store = []
         ∧ c.mem.softRows = [])
    ∧ (let c : Chip := bringUp_s25.chip
       lighting c = true ∧ 2 < 4 ∧ (∀ e < 2, (dieLit c e || tget false c.boot.dieFailed (e + 1)) = true) ∧ dieLit c 2 = false
         ∧ tget false c.boot.dieFailed (2 + 1) = false)
    ∧ (let c : Chip := bringUp_s27.chip
       let begun : Chip → Nat → Prop := fun b n => bit (odN b 0x1002 0) n = true
       (odN c 0x1001 0 = 1 ∨ odN c 0x1001 0 = 4) ∧ c.boot.signalBox = true ∧ begun c 4 ∧ diesUp c = true ∧ clSettled c = true
         ∧ coreState c 4 ≠ 0 ∧ coreState c 4 ≠ 6 ∧ c.boot.warmSince.isSome = true) := by
  refine ⟨?_, ?_, ?_, ?_⟩ <;> decide +kernel +zetaReduce

/-- Hypotheses of FarTier (O32, FarTierAndHostPorts) are met. -/
theorem witness_FarTier :
    (let c : Chip := farTier_s28.chip
     3 < 4 ∧ farTier_s28.chip.ports.farOut = [] ∧ odN c 0x11031 (3 + 1) % 4 = 1 ∧ bit (odN c 0x11030 0) 3 = true
       ∧ 0 < 0x40000000 ∧ 0x40000000 % 0x40000000 = 0 ∧ 0x40000000 ≤ 0x8000000000)
    ∧ (let c : Chip := farTier_s30.chip
       0 < 4 ∧ farTier_s30.chip.ports.farOut = [] ∧ odN c 0x11031 (0 + 1) % 4 = 2 ∧ tget 0 c.boot.farLeft 0 = 1 + 2) := by
  refine ⟨?_, ?_⟩ <;> decide +kernel +zetaReduce

/-- Hypotheses of Resets (O30) are met. -/
theorem witness_WarmResetAndFatal :
    (let c : Chip := resets_s31.chip
     Accepted resets_s31 rP 0x1010 [] ∧ poweringDown c = false ∧ fwActive c = false ∧ firstLeased c (List.range 12) = none
       ∧ 2 ∈ [2, 3, 4] ∧ (List.find? (fun r => r.cls == 5 && !c.boot.fatalSeen.contains r.seq) c.faults.log = some er5)
       ∧ c.boot.fatal = false ∧ c.boot.signalBox = true ∧ odN c 0x1012 0 ≠ 1)
    ∧ (let c : Chip := resets_s32.chip
       Accepted resets_s32 rC 0x1010 [] ∧ poweringDown c = false ∧ fwActive c = false ∧ firstLeased c (List.range 12) = some 3) := by
  refine ⟨?_, ?_⟩ <;> decide +kernel +zetaReduce

/-- Hypotheses of HostPorts (O32, FarTierAndHostPorts) are met. -/
theorem witness_HostPorts :
    (let c : Chip := hostPorts_s34.chip
     1 < 2 ∧ perstOn c 1 = false ∧ (2 = 2 * 1 ∨ 2 = 2 * 1 + 1) ∧ 2 < 4 ∧ hostLinkUp c 2 = true ∧ phase5 c = true
       ∧ fnPresent c 2 = true ∧ fnLink c 2 = 2 ∧ (((fnOf c 2).pend.all fun v => !(fnOf c 2).unmasked.contains v) = true))
    ∧ (let c : Chip := hostPorts_s36.chip
       1 < 2 ∧ perstOn c 1 = true ∧ bit (odN c 0x1002 0) 2 = true ∧ odN c 0x2001 0 < 3)
    ∧ (let c : Chip := hostPorts_s35.chip
       2 < 4 ∧ hostLinkUp c 2 = true ∧ phase5 c = false ∧ c.boot.fatal = false ∧ odN c 0x2001 0 ≠ 3) := by
  refine ⟨?_, ?_, ?_⟩ <;> decide +kernel +zetaReduce

/-- BootRom: slot A, or with descriptor copy B slot B, passes; its images carry signatures by the fused key. -/
theorem witness_BootRom_slots :
    (let timed : Chip := odSet bootRom_s22.chip 0x1003 1 2000000
     slotUsable (extendMr timed 0 (leBytes 4 Config.bootRomVersion ++ List.take 32 (descCopy timed 0))) 0
       [true, true, true, true] = true)
    ∧ (let timed : Chip := odSet bootRom_s23.chip 0x1003 1 2000000
       slotUsable (extendMr timed 0 (leBytes 4 Config.bootRomVersion ++ List.take 32 (descCopy timed 1))) 1
         [true, true, true, true] = true) := by
  refine ⟨?_, ?_⟩
  all_goals
    refine usable_of _ _ ?_ ?_ ?_ ?_
    · rfl
    · rfl
    · rw [keyRevoked_extend]; decide +kernel
    · rw [minSec_extend]; decide +kernel


end Part13

/-! ### Security, updates, debug, programs -/

namespace Part14

def ow (l : List (Nat × Nat × Nat)) : Chip := withOd { upB with od := upB.od } l
where upB : Chip := { up with sl := { up.sl with sessions := [⟨9, .field 0, 2, [], true, 0, false, 0, 5⟩] }, sec := { up.sec with slots := [(5, ⟨1, [1,2], 2, 7, 0⟩), (1024, ⟨2, [1,2], 2, 7, 0⟩), (1025, ⟨1, [1,2], 2, 7, 0⟩)], fw := { up.sec.fw with runSecurity := 5 } } }
def tok : Bytes := mk 8 [(0,4,0x5442444E),(4,2,1)] ++ zeros 16 ++ zeros 32 ++ zeros 104 ++ sgb 2
def dbg (d : Nat) (t : Bytes) : Chip := let c := withB (ow [(0x04001,0,0),(0x05001,0,d)]) [(0x00005,0,zeros 16),(0x05004,0,zeros 32)]; { c with sec := { c.sec with token := t, debugKeys := [(0, pairOf 2)], dbgHalted := [3] } }
def fwc (s : Nat) (f : Fw) (fl : Flash) : Chip := let c := hst (withOd { up with flash := fl } [(0x04063,0,s),(0x00006,0,4)]); { c with sec := { c.sec with fw := f, bootKeys := keys } }
def fw0 : Fw := { up.sec.fw with runSecurity := 5, secVersion := 6, version := 9, oldVersion := 3, oldSecurity := 2, slot := 1 }
def fetchArg : Bytes := leBytes 8 0x1000 ++ leBytes 4 16
def fca (l : Nat) (f : Fw) (s : Nat) (ns : Nat) : State := let c := fwc s f { up.flash with descA := desc 1 }; st { c with tb := { c.tb with ns := ns } }
def sp (l : List (Nat × Nat × Nat)) (i : Bool) : State := st (withOd { hst up with sec := { up.sec with identity := i }, out := [.tap 5, .spdm 0x12 8 [9]] } ((0x04020,0,1) :: l))
def tp (d : Nat) (rl : Bool) (cs : Nat) (h : List Nat) : State := st (withOd (setCore { up with boot := { upBoot with resetLow := rl }, sec := { up.sec with dbgHalted := h } } 5 c0) [(0x05001,0,d),
  (0x08001,6,cs)])
def pg (l : List (Nat × Nat × Nat)) (p : ProgBuf) : State :=
  let c := withOd { hst up with prog := p } l
  st { c with od := tput (tput c.od (odKey 0x04032 1) (.bytes (pairOf 1))) (odKey 0x04032 2) (.bytes ([1] ++ zeros 95)) }
def prog : Bytes := img 5 1
def pl (s : State) : State := st {s.chip with tb := { s.chip.tb with ns := 10000000005 } }
def ownership_s5 : State := st (ow [(0x04005,0,3)])
def ownership_s0 : State := st (ow [(0x04001,0,1)])
def ownership_s7 : State := st (ow [])
def ownership_s1 : State := st (ow [(0x04001,0,0)])
def ownership_s2 : State := st (ow [(0x04001,0,0),(0x05001,0,1)])
def ownership_s3 : State := st (ow [(0x04001,0,0),(0x04003,0,0x30)])
def ownership_s4 : State := st (ow [(0x04001,0,0),(0x04002,0,3)])
def keyStore_s12 : State := st (ow [])
def keyStore_s8 : State := st (ow [])
def keyStore_arg8 : Bytes := mk 40 [(0,2,7),(5,1,32),(6,2,2)]
def keyStore_s9 : State := st (ow [])
def debugStates_s13 : State := st (dbg 0 tok)
def debugStates_s16 : State := st (dbg 1 [])
def debugStates_s14 : State := st (withOd (dbg 0 []) [(0x04001,0,1)])
def debugStates_s15 : State := st (withOd (dbg 0 []) [(0x04001,0,1)])
def firmwareBundles_s19 : State := st (fwc 1 {fw0 with fetching := true } up.flash)
def firmwareBundles_s21 : State := st (fwc 3 fw0 { up.flash with slotB := slot })
def firmwareBundles_s17 : State := st (fwc 0 fw0 up.flash)
def firmwareBundles_s22 : State := st (fwc 3 fw0 { up.flash with slotB := slot })
def firmwareActivation_s24 : State := fca 0 {fw0 with stage := 1} 5 500000000
def firmwareActivation_s27 : State := fca 0 fw0 0 500000000
def firmwareActivation_s25 : State := fca 0 {fw0 with stage := 1, healthy := true} 5 500000000
def firmwareActivation_s23 : State := fca 0 fw0 4 5
def firmwareActivation_s26 : State := fca 0 {fw0 with stage := 4} 5 500000000
def spdm_s28 : State := sp [] true
def spdm_s29 : State := sp [] false
def testPort_s33 : State := tp 2 true 5 [5]
def testPort_s30 : State := tp 0 false 2 []
def testPort_s32 : State := tp 1 true 2 []
def programs_s38 : State := pg [(0x08001,6,1)] ⟨some .pf0, prog, 5, some (5, 9)⟩
def programs_s34 : State := pg [] ProgBuf.empty
def programs_arg34 : Bytes := leBytes 8 0x1000 ++ leBytes 4 16
def programs_s40 : State := pl (pg [(0x08001,6,1)] ⟨some .pf0, prog, 5, none⟩)
def programs_s39 : State := pg [(0x08001,6,1)] ⟨some .pf0, prog, 5, some (5, 9)⟩
def programs_s37 : State := pg [(0x08001,6,2)] ⟨some .pf0, prog, 5, none⟩

/-- Hypotheses of Ownership (O33, OwnershipAndDebug) are met. -/
theorem witness_Ownership :
    (let n : Nat := leNat [5, 0, 0, 0]
     let c : Chip := ownership_s5.chip
     Accepted ownership_s5 rC 0x4033 [] ∧ 1 ≤ 1 ∧ 1 ≤ 4 ∧ Accepted ownership_s5 rC 0x4006 [5, 0, 0, 0]
       ∧ n ≤ c.sec.fw.runSecurity)
    ∧ (let c : Chip := ownership_s0.chip
       Accepted ownership_s0 rP 0x4031 (zeros 96) ∧ odN c 0x4001 0 = 1)
    ∧ (Accepted ownership_s7 rP 0x4011 ([15] ++ zeros 48) ∧ 8 ≤ fld ([15] ++ zeros 48) 0 1 ∧ fld ([15] ++ zeros 48) 0 1 ≤ 15)
    ∧ (let c : Chip := ownership_s1.chip
       Accepted ownership_s1 rP 0x4031 (zeros 96) ∧ odN c 0x4001 0 ≠ 1)
    ∧ (let c : Chip := ownership_s2.chip
       Accepted ownership_s2 rC 0x4033 [] ∧ odN c 0x5001 0 = 1)
    ∧ (let c : Chip := ownership_s3.chip
       let n : Nat := leNat [7]
       Accepted ownership_s3 rC 0x4004 [7] ∧ n < 8 ∧ (n < 4 → n ≠ odN c 0x4002 0)
         ∧ bits (odN c 0x4003 0 ||| 2 ^ n) (4 * (n / 4) + 3) (4 * (n / 4)) ≠ 15)
    ∧ (let n : Nat := leNat [3]
       let c : Chip := ownership_s4.chip
       Accepted ownership_s4 rC 0x4004 [3] ∧ n < 4 ∧ n = odN c 0x4002 0) := by
  refine ⟨?_, ?_, ?_, ?_, ?_, ?_, ?_⟩ <;> decide +kernel +zetaReduce

/-- Hypotheses of KeyStore (O34) are met. -/
theorem witness_KeyStoreGenerations :
    (let c : Chip := keyStore_s12.chip
     let own : Nat := (domainOf c (rN 3)).segOwner
     let k : KeySlot := tget KeySlot.empty c.sec.slots 1024
     1024 < 0x2000 ∧ Accepted keyStore_s12 (rN 3) 0x4052 [0, 4] ∧ leNat [0, 4] = 1024 ∧ slotOwner c 1024 ≠ own ∧ k.state = 2
       ∧ k.issued = 0)
    ∧ (let c : Chip := keyStore_s8.chip
       let k : KeySlot := tget KeySlot.empty c.sec.slots 7
       let own : Nat := (domainOf c rC).segOwner
       7 < 0x2000 ∧ Accepted keyStore_s8 rC 0x4051 keyStore_arg8 ∧ fld keyStore_arg8 0 2 = 7 ∧ slotOwner c 7 = own
         ∧ fld keyStore_arg8 4 1 = 0 ∧ fld keyStore_arg8 5 1 = 32 ∧ (fld keyStore_arg8 6 2 = 2
         ∧ (32 = 32 ∨ 32 = 64) ∨ fld keyStore_arg8 6 2 ∈ [1, 4, 5, 8] ∧ (32 = 16 ∨ 32 = 32))
         ∧ List.length keyStore_arg8 = 8 + 32 ∧ k.state = 0)
    ∧ (let c : Chip := keyStore_s9.chip
       let k : KeySlot := tget KeySlot.empty c.sec.slots 5
       let own : Nat := (domainOf c rC).segOwner
       5 < 0x2000 ∧ Accepted keyStore_s9 rC 0x4052 [5, 0] ∧ leNat [5, 0] = 5 ∧ slotOwner c 5 = own ∧ k.state = 1) := by
  refine ⟨?_, ?_, ?_⟩ <;> decide +kernel +zetaReduce

/-- Hypotheses of DebugStates (O33, OwnershipAndDebug) are met. -/
theorem witness_DebugStates :
    (let c : Chip := debugStates_s13.chip
     Accepted debugStates_s13 rC 0x5002 [] ∧ odN c 0x4001 0 = 0 ∧ odN c 0x5001 0 = 0 ∧ Accepted debugStates_s13 rC 0x5006 []
       ∧ odN c 0x5001 0 ≠ 2)
    ∧ (let c : Chip := debugStates_s16.chip
       Accepted debugStates_s16 rC 0x5003 [] ∧ odN c 0x5001 0 = 1 ∧ Accepted debugStates_s16 rC 0x5006 []
         ∧ odN c 0x5001 0 ≠ 2 ∧ tokenCheck c rC.verdict ≠ 0)
    ∧ (let c : Chip := debugStates_s14.chip
       Accepted debugStates_s14 rC 0x5002 [] ∧ odN c 0x4001 0 ≠ 0)
    ∧ (Accepted debugStates_s15 rP 0x5005 [254, 31, 7, 8] ∧ fld [254, 31, 7, 8] 0 2 + ([254, 31, 7, 8].length - 2) ≤ 0x2000) := by
  refine ⟨?_, ?_, ?_, ?_⟩ <;> decide +kernel +zetaReduce

/-- Hypotheses of FirmwareBundles (O35, FirmwareUpdate) are met. -/
theorem witness_FirmwareBundles :
    (let c : Chip := firmwareBundles_s19.chip
     let st : Nat := odN c 0x4063 0
     st = 1)
    ∧ (let c : Chip := firmwareBundles_s21.chip
       let st : Nat := odN c 0x4063 0
       st = 3)
    ∧ (let c : Chip := firmwareBundles_s17.chip
       let st : Nat := odN c 0x4063 0
       let calm : Prop := poweringDown c = false
       Accepted firmwareBundles_s17 rC 0x4060 fetchArg ∧ calm ∧ fld fetchArg 8 4 ≤ 0xf00000 ∧ st ≠ 1 ∧ st ≠ 3 ∧ st ≠ 5
         ∧ hostLinkUp c 0 = true ∧ (fnOf c 0).bme = true ∧ Accepted firmwareBundles_s17 rC 0x4061 fetchArg
         ∧ fld fetchArg 0 4 + (List.length fetchArg - 4) ≤ 0xf00000 ∧ c.sec.fw.fetching = false
         ∧ Accepted firmwareBundles_s17 rC 0x4062 [])
    ∧ (let c : Chip := firmwareBundles_s22.chip
       let st : Nat := odN c 0x4063 0
       st = 3 ∧ 2 < 4) := by
  refine ⟨?_, ?_, ?_, ?_⟩ <;> decide +kernel +zetaReduce

/-- Hypotheses of FirmwareActivation (O35, FirmwareUpdate) are met. -/
theorem witness_FirmwareActivation :
    (let c : Chip := firmwareActivation_s24.chip
     let fw : Fw := c.sec.fw
     fw.stage = 1 ∧ fw.healthy = false ∧ c.tb.ns ≤ fw.kind1At + 500000000 ∧ fw.stage ≠ 0 ∧ fw.kind1At + 500000000 ≤ c.tb.ns)
    ∧ (let c : Chip := firmwareActivation_s27.chip
       let fw : Fw := c.sec.fw
       Accepted firmwareActivation_s27 rC 0x4065 [5, 0, 0, 0] ∧ poweringDown c = false ∧ odN c 0x4063 0 ≠ 5
         ∧ odN c 0x1001 0 ≠ 5 ∧ minSec c ≤ leNat [5, 0, 0, 0] ∧ leNat [5, 0, 0, 0] ≤ fw.runSecurity ∧ leNat [5, 0, 0,
         0] < 2 ^ 32 ∧ descUsed c = some 0 ∧ 0 ≤ 1)
    ∧ (let c : Chip := firmwareActivation_s25.chip
       let fw : Fw := c.sec.fw
       fw.stage = 1 ∧ fw.healthy = true)
    ∧ (let c : Chip := firmwareActivation_s23.chip
       Accepted firmwareActivation_s23 rC 0x4064 [] ∧ poweringDown c = false ∧ odN c 0x4063 0 = 4)
    ∧ (let c : Chip := firmwareActivation_s26.chip
       let fw : Fw := c.sec.fw
       fw.stage = 4 ∧ c.tb.ns ≤ fw.kind1At + 500000000) := by
  refine ⟨?_, ?_, ?_, ?_, ?_⟩ <;> decide +kernel +zetaReduce

/-- Hypotheses of Spdm (O36) are met. -/
theorem witness_SpdmAnswersThroughPf0 :
    (let chain : Bytes := certificates
     let c : Chip := spdm_s28.chip
     odN spdm_s28.chip 0x4020 0 = 1 ∧ phase5 spdm_s28.chip = true ∧ hostLinkUp spdm_s28.chip 0 = true
       ∧ odN spdm_s28.chip 0x2001 0 ≠ 4 ∧ (18 = 18 ∨ 18 = 19) ∧ c.sec.identity = true ∧ 1 ≤ 1 ∧ 1 ≤ 16
       ∧ c.out = [Output.tap 5] ++ [Output.spdm 18 8 [9]])
    ∧ (let c : Chip := spdm_s29.chip
       odN spdm_s29.chip 0x4020 0 = 1 ∧ phase5 spdm_s29.chip = true ∧ hostLinkUp spdm_s29.chip 0 = true
         ∧ odN spdm_s29.chip 0x2001 0 ≠ 4 ∧ 17 ≠ 18 ∧ 17 ≠ 19 ∧ 1 ≠ 0 ∧ c.sec.identity = false) := by
  refine ⟨?_, ?_⟩ <;> decide +kernel +zetaReduce

/-- Hypotheses of TestPort (O37) are met. -/
theorem witness_TestPortInstructions :
    (let c : Chip := testPort_s33.chip
     let reach : Prop := 5 < 24 ∧ (odN c 0x5001 0 = 2 ∨ odN c 0x5001 0 = 1 ∧ 4 ≤ 5)
         ∧ (5 < 16 ∨ dieLit c ((5 - 16) / 2) = true)
     testPort_s33.chip.boot.vaon = true ∧ odN testPort_s33.chip 0x2001 0 < 3 ∧ c.boot.resetLow = true ∧ reach ∧ 0 ≠ 1
       ∧ coreState c 5 = 5 ∧ 5 ∈ c.sec.dbgHalted ∧ odN c 0x5001 0 = 2 ∧ unitOk 0x1000 = true ∧ unitDie 0x1000 = none)
    ∧ (let c : Chip := testPort_s30.chip
       testPort_s30.chip.boot.vaon = true ∧ odN testPort_s30.chip 0x2001 0 < 3 ∧ c.boot.resetLow = false ∧ odN c 0x5001 0 = 0)
    ∧ (let c : Chip := testPort_s32.chip
       let reach : Prop := 5 < 24 ∧ (odN c 0x5001 0 = 2 ∨ odN c 0x5001 0 = 1 ∧ 4 ≤ 5)
           ∧ (5 < 16 ∨ dieLit c ((5 - 16) / 2) = true)
       testPort_s32.chip.boot.vaon = true ∧ odN testPort_s32.chip 0x2001 0 < 3 ∧ reach ∧ coreState c 5 = 2) := by
  refine ⟨?_, ?_, ?_⟩ <;> decide +kernel +zetaReduce

/-- Hypotheses of Programs (O38) are met. -/
theorem witness_CustomerProgramsRun :
    (let c : Chip := programs_s38.chip
     c.prog.verify = some (5, 9) ∧ 5 < 24 ∧ 0 ≠ 5)
    ∧ (let c : Chip := programs_s34.chip
       let free : Prop := c.prog.verify = none ∧ (c.prog.owner = none ∨ c.prog.owner = some rP.path)
       Accepted programs_s34 rP 0x8010 programs_arg34 ∧ free ∧ fld programs_arg34 8 4 ≤ 0x44000 ∧ hostLinkUp c 0 = true
         ∧ (fnOf c 0).bme = true ∧ Accepted programs_s34 rP 0x8011 programs_arg34
         ∧ fld programs_arg34 0 4 + (List.length programs_arg34 - 4) ≤ 0x44000 ∧ Accepted programs_s34 rP 0x8014 [])
    ∧ (let c : Chip := programs_s40.chip
       let free : Prop := c.prog.verify = none ∧ (c.prog.owner = none ∨ c.prog.owner = some rP.path)
       Accepted programs_s40 rP 0x8012 [5] ∧ free ∧ fld [5] 0 1 = 5 ∧ 5 ≤ 5 ∧ 5 ≤ 15 ∧ coreState c 5 = 1
         ∧ c.prog.owner.isSome = true ∧ c.prog.verify = none ∧ c.prog.last + 10000000000 ≤ c.tb.ns)
    ∧ (let c : Chip := programs_s39.chip
       c.prog.verify = some (5, 9) ∧ 2 ≠ 0)
    ∧ (let c : Chip := programs_s37.chip
       Accepted programs_s37 rP 0x8013 [5] ∧ fld [5] 0 1 = 5 ∧ 5 ≤ 5 ∧ 5 ≤ 15
         ∧ (coreState c 5 = 2 ∨ coreState c 5 = 3 ∨ coreState c 5 = 5)) := by
  refine ⟨?_, ?_, ?_, ?_, ?_⟩ <;> decide +kernel +zetaReduce

/-- DebugStates: a token for this device and nonce, signed by debug key 0. -/
theorem witness_DebugStates_token : tokenCheck debugStates_s13.chip rC.verdict = 0 := by
  have t : slice tok 160 7420 = sgb 2 := by decide +kernel
  have g : sigBlockOk debugStates_s13.chip 2 (sgb 2) true = true := sgb_ok _ 2 (by omega) rfl (by decide +kernel)
  have h : debugStates_s13.chip.sec.token = tok := rfl
  have c : ¬ (tok.length < 7580 ∨ fld tok 0 4 ≠ 0x5442444E ∨ fld tok 4 2 ≠ 1 ∨ fld tok 6 2 ≠ 0 ∨ fld tok 152 8 ≠ 0)
      ∧ slice tok 8 16 = slice (odB debugStates_s13.chip 0x00005 0) 0 16
      ∧ slice tok 24 32 = slice (odB debugStates_s13.chip 0x05004 0) 0 32 := by decide +kernel
  have v : rC.verdict = true := rfl
  simp only [tokenCheck, h, t, v, g, if_neg c.1, c.2.1, c.2.2]
  simp

/-- FirmwareBundles: the written slot's images pass, or one fails its signature. -/
theorem witness_FirmwareBundles_slots :
    (∀ k < 4, slotImageOk firmwareBundles_s21.chip firmwareBundles_s21.chip.sec.fw.slot (k + 1)
      ([true, true, true, true].getD k false) = true)
    ∧ (let c := firmwareBundles_s22.chip
       slotImageOk c c.sec.fw.slot 3 ([true, true, false, true].getD 2 false) = false
         ∧ ∀ k < 2, slotImageOk c c.sec.fw.slot (k + 1) ([true, true, false, true].getD k false) = true) := by
  have f : ∀ i v, 1 ≤ i → i ≤ 4 → slotImageOk firmwareBundles_s21.chip 1 i v = v :=
    fun i v a b => slot_ok _ 1 rfl rfl (by decide +kernel) (by decide +kernel) i a b v
  have g : ∀ i v, 1 ≤ i → i ≤ 4 → slotImageOk firmwareBundles_s22.chip 1 i v = v :=
    fun i v a b => slot_ok _ 1 rfl rfl (by decide +kernel) (by decide +kernel) i a b v
  refine ⟨?_, ?_, ?_⟩
  · intro k hk
    rw [show firmwareBundles_s21.chip.sec.fw.slot = 1 from rfl, f _ _ (by omega) (by omega)]
    revert k
    decide
  · exact g 3 _ (by omega) (by omega)
  · intro k hk
    rw [show firmwareBundles_s22.chip.sec.fw.slot = 1 from rfl, g _ _ (by omega) (by omega)]
    revert k
    decide

/-- Spdm: a certificate chain is not empty. -/
theorem witness_SpdmAnswersThroughPf0_chain : 0 < certificates.length := by simp [certificates]

/-- Programs: an image signed by code key 0 passes, or fails with a wrong signature; a code key is set. -/
theorem witness_CustomerProgramsRun_images :
    imageCheck programs_s38.chip programs_s38.chip.prog.bytes 5 1 (odN programs_s38.chip 0x8021 0) true = 0
    ∧ imageCheck programs_s39.chip programs_s39.chip.prog.bytes 5 1 (odN programs_s39.chip 0x8021 0) false = 2
    ∧ ∃ k < 4, isZero (odB programs_s40.chip 0x4032 (k + 1)) = false := by
  refine ⟨?_, ?_, 1, by omega, by decide +kernel⟩
  · exact img_ok _ 5 1 _ (by omega) (by omega) rfl (by decide +kernel) (by decide +kernel) true
  · exact img_ok _ 5 1 _ (by omega) (by omega) rfl (by decide +kernel) (by decide +kernel) false


end Part14

/-! ### Platforms, mailboxes, host links -/

namespace Part15

def rsg (c : Chip) (d : Bool) : Chip := { c with plats := { c.plats with resetting := [(3, d)], owner := [(6, 3), (7, 4)], mbx := [(3, mbx0)] } }
def iv : Inval := ⟨3, 2, 0x5000⟩
def pls (f : Plats → Plats) (c : Chip) : Chip := { c with plats := f c.plats }
def xa : Bytes := mk 16 [(0,1,3),(4,4,2),(8,8,0x5000)]
def ga (base n p : Nat) : Bytes := mk 16 [(0,8,base),(8,4,n),(12,1,p)]
def mb (m : Nat) (x : Mbx) (c : Chip) : Chip := pls (fun p => { p with mbx := tput p.mbx m x }) c
def sm1 : State := st (mb 64 mbx0 (hst up))
def rdm (i : Nat) : Xfer := mbxRead { sm1.chip with plats := { sm1.chip.plats with mbx := tput sm1.chip.plats.mbx 64 { mbx0 with db := i } } } 64 0x4000 64
def sm2 : State := st (mb 3 { mbx0 with size := 0 } (pl3 up 1))
def ds (dest len plat : Nat) : Bytes := mk 64 [(2,1,dest),(3,1,plat),(4,2,len),(8,8,0x1122),(16,8,0x9000)]
def pdu1 : Bytes := leBytes 1 1 ++ leBytes 1 0 ++ leBytes 1 0x10 ++ leBytes 1 0 ++ leBytes 2 5 ++ leBytes 2 0 ++ zeros 8
def hm (c : Chip) : Chip := hostWrite c 0 0x9000 pdu1
def mm (d : Bytes) : State := st (mb 64 { mbx0 with fetched := [d] } (hm (hst up)))
def mm3 (d : Bytes) (stt : Nat) : State := st (mb 3 { mbx0 with fetched := [d] } (pl3 up stt))
def sm64 (d : Bytes) : State := st (mb 64 { mbx0 with fetched := [d] } (mb 3 mbx0 (pl3 up 1)))
def mm4 (d : Bytes) (stt : Nat) : State := st (mb 3 { mbx0 with fetched := [d] } (hm (map3 (pl3 up stt))))
def hf (stt : Nat) (f : Fn → Fn) : Chip := let c := pl3 up stt; { c with ports := { c.ports with fns := tput c.ports.fns 104 (f (fnOf c 104)) } }
def li (l : List (Nat × Nat × Nat)) (k : Table Link) : State := st (withOd { hst up with ports := { (hst up).ports with links := k } } l)
def platforms_s2 : State := st (pl3 up 3)
def platforms_s0 : State := st (withOd (pl3 up 0) [(0x01001,0,2)])
def platforms_s3 : State := st (rsg (pl3 up 2) false)
def platforms_s4 : State := st (rsg (pl3 up 2) true)
def granules_s5 : State := st (pls (fun p => { p with invals := [iv,iv,iv] }) (pl3 up 1))
def granules_s8 : State := st (pls (fun p => { p with owner := [(1, 3), (2, 3), (9, 3)] }) (pl3 up 1))
def granules_arg8 : Bytes := (ga 0x200000 2 0).take 12
def granules_s7 : State := st (pl3 up 1)
def granules_s9 : State := st { pls (fun p => { p with reclaiming := [⟨0x200000, 2, 3⟩, ⟨0x800000, 2, 3⟩] }) (pl3 up 1) with mem := { up.mem with dev := [(0x200005, 7#8)] } }
def granules_r9 : Reclaim := ⟨0x200000,2,3⟩
def granules_more9 : List Reclaim := [⟨0x800000, 2, 3⟩]
def granules_s6 : State := st (pls (fun p => { p with invals := [iv,iv,iv,iv], tlb := [(2^36*3+5, 1),(2^36*3+7, 1)] }) (pl3 up 1))
def mailboxRegisters_s13 : State := st (mb 3 Mbx.off (pl3 up 1))
def mailboxRegisters_y10 : Chip := (rdm 1).s
def mailboxMessages_s18 : State := sm64 (ds 2 16 3)
def mailboxMessages_s14 : State := mm (ds 0 16 0)
def mailboxMessages_r14 : Xfer := mbxRead (mm (ds 0 16 0)).chip 64 0x9000 16
def mailboxMessages_s15 : State := mm (ds 1 16 0)
def mailboxMessages_w15 : Xfer := mbxWrite (mm (ds 1 16 0)).chip 64 0x7000 (ringEntry (mm (ds 1 16 0)).chip 64 0 8 2 0 16 (slice (ds 1 16 0) 8 8) (slice (ds 1 16 0) 16 16) 0xFF)
def mailboxMessages_s16 : State := mm (ds 2 16 3)
def mailboxMessages_s17 : State := mm3 (ds 1 16 0) 1
def mailboxMessages_s19 : State := mm4 (ds 0 16 0) 0
def mailboxMessages_r19 : Xfer := mbxRead (mm4 (ds 0 16 0) 0).chip 3 0x9000 16
def hostFunctions_s24 : State := st (withOd (hf 1 fun f => { f with pend := [2] }) [(0x11003,4,2)])
def hostFunctions_s22 : State := st (withOd (hf 1 id) [(0x51203, 2, 0x80090000),(0x51240, 2, 0x80090000)])
def hostFunctions_s23 : State := st (withOd (hf 1 id) [(0x51203, 2, 0x80090000)])
def portLinks_s31 : State := li [(0x11031,4,2)] []
def portLinks_s29 : State := li [(0x11021,8,1)] []
def portLinks_s30 : State := li [(0x11021,8,1)] []
def portLinks_s25 : State := li [(0x11003,3,1)] []
def portLinks_s27 : State := li [(0x11003,3,1)] []
def portLinks_s32 : State := li [(0x11031,4,1)] [(15, { retryAt := 1000000000, presentSince := none, perstN := true })]

/-- Hypotheses of Platforms (O39, PlatformsAndGranules) are met. -/
theorem witness_Platforms :
    (let st : Chip → Nat := fun b => odN b (0x10040 + 3) 0
     let c : Chip := platforms_s2.chip
     3 < 64 ∧ Accepted platforms_s2 rP 0x10022 [3] ∧ fld [3] 0 1 = 3 ∧ (st c = 1 ∨ st c = 3) ∧ hasFn c 3 = true
       ∧ Accepted platforms_s2 rP 0x10021 [3])
    ∧ (let c : Chip := platforms_s0.chip
       let st : Chip → Nat := fun b => odN b (0x10040 + 3) 0
       3 < 64 ∧ Accepted platforms_s0 rP 0x10020 [3] ∧ fld [3] 0 1 = 3 ∧ st c = 0 ∧ phase5 c = true
         ∧ perstOn c (hostPort c 3) = false ∧ vfEnabled c (hostPort c 3) (vfNumber c 3) = true ∧ placeTaken c 3 = false
         ∧ rootOk c 3 = true)
    ∧ (let st : Chip → Nat := fun b => odN b (0x10040 + 3) 0
       let c : Chip := platforms_s3.chip
       3 < 64 ∧ Accepted platforms_s3 rP 0x10021 [3] ∧ fld [3] 0 1 = 3 ∧ st c = 2 ∧ tget false c.plats.resetting 3 = false)
    ∧ (let c : Chip := platforms_s4.chip
       let st : Chip → Nat := fun b => odN b (0x10040 + 3) 0
       3 < 64 ∧ st c = 2 ∧ tget false c.plats.resetting 3 = true) := by
  refine ⟨?_, ?_, ?_, ?_⟩ <;> decide +kernel +zetaReduce

/-- Hypotheses of Granules (O39, PlatformsAndGranules) are met. -/
theorem witness_Granules :
    (let c : Chip := granules_s5.chip
     Accepted granules_s5 rP 0x10010 xa ∧ iv = { plat := fld xa 0 1, pages := fld xa 4 4, base := fld xa 8 8 } ∧ iv.plat < 64
       ∧ fld xa 1 3 = 0 ∧ iv.base % 0x1000 = 0 ∧ iv.base < 2 ^ 48 ∧ c.plats.invals.length < 4
       ∧ odN c (0x10040 + iv.plat) 0 ≠ 0 ∧ c.plats.invals = [iv, iv, iv])
    ∧ (let n : Nat := fld granules_arg8 8 4
       let c : Chip := granules_s8.chip
       let base : Nat := fld granules_arg8 0 8
       let g : Nat := base / 0x200000
       Accepted granules_s8 rP 0x10031 granules_arg8 ∧ base % 0x200000 = 0 ∧ 0 < n ∧ base + n * 0x200000 ≤ 2 ^ 48
         ∧ granKind g ≠ 6 ∧ (∀ k < n, reclaiming c (g + k) = false) ∧ (0 < g ∨ g + n ≤ 0))
    ∧ (let n : Nat := fld (ga 0x200000 2 3) 8 4
       let c : Chip := granules_s7.chip
       let base : Nat := fld (ga 0x200000 2 3) 0 8
       let g : Nat := base / 0x200000
       Accepted granules_s7 rP 0x10030 (ga 0x200000 2 3) ∧ base % 0x200000 = 0 ∧ 0 < n ∧ fld (ga 0x200000 2 3) 12 1 = 3
         ∧ 3 < 64 ∧ fld (ga 0x200000 2 3) 13 3 = 0 ∧ base + n * 0x200000 ≤ 2 ^ 48 ∧ (∀ k < n, granuleFree c (g + k) = true
         ∧ granKind (g + k) = granKind g ∧ bankAt c ((g + k) * 0x200000) = none) ∧ (0 < g ∨ g + n ≤ 0))
    ∧ (let c : Chip := granules_s9.chip
       c.plats.reclaiming = granules_r9 :: granules_more9
         ∧ (64 ≤ granules_r9.plat ∨ odN c (0x10040 + granules_r9.plat) 0 ≠ 2) ∧ granules_r9.base ≤ 0x200005
         ∧ 0x200005 + 0 ≤ granules_r9.base + granules_r9.count * 0x200000)
    ∧ (let c : Chip := granules_s6.chip
       Accepted granules_s6 rP 0x10010 xa ∧ fld xa 0 1 < 64 ∧ fld xa 1 3 = 0 ∧ fld xa 8 8 % 0x1000 = 0 ∧ fld xa 8 8 < 2 ^ 48
         ∧ 4 ≤ c.plats.invals.length ∧ c.plats.invals = [iv, iv, iv, iv] ∧ (2 ^ 36 * iv.plat + 7,
         1) ∈ (chipOf (exec Instr.invalDone granules_s6) granules_s6).plats.tlb ∧ 7 < 2 ^ 36) := by
  refine ⟨?_, ?_, ?_, ?_, ?_⟩ <;> decide +kernel +zetaReduce

/-- Hypotheses of MailboxRegisters (O40, Mailboxes) are met. -/
theorem witness_MailboxRegisters :
    (let c : Chip := sm2.chip
     let x : Mbx := mbxOf c 3
     3 ≤ 64 ∧ sm2.chip.boot.fatal = false ∧ gateClosed sm2.chip 3 = false ∧ x.state = 1
       ∧ mbxEntries x < (3 + 0x10000 - x.head) % 0x10000 ∧ 3 < 64)
    ∧ (let c : Chip := mailboxRegisters_s13.chip
       let x : Mbx := mbxOf c 3
       3 ≤ 64 ∧ mailboxRegisters_s13.chip.boot.fatal = false ∧ gateClosed mailboxRegisters_s13.chip 3 = false
         ∧ x.enable = false ∧ x.state ≠ 1 ∧ 0 % 0x1000 = 0)
    ∧ (let c : Chip := sm1.chip
       let x : Mbx := mbxOf c 64
       let set : Chip → Mbx → Chip := fun b z => { b with plats := { b.plats with mbx := tput b.plats.mbx 64 z } }
       64 ≤ 64 ∧ sm1.chip.boot.fatal = false ∧ gateClosed sm1.chip 64 = false ∧ x.state = 1 ∧ 1 < 0x10000
         ∧ 1 = (x.head + 1) % 0x10000 ∧ x.fetched = []
         ∧ ((List.filter (fun q => q.1.path == mbxPath 64) c.sl.waiting).length < 8) ∧ ansFree { x with db := 1 } ≠ 0
         ∧ mbxRead (set c { x with db := 1 }) 64 (x.reqBase + 64 * (x.head % mbxEntries x)) 64 = { st := 0, bytes := (rdm 1).bytes, count := 64, s := mailboxRegisters_y10 }
         ∧ mbxOf mailboxRegisters_y10 64 = { x with db := 1 }) := by
  refine ⟨?_, ?_, ?_⟩ <;> decide +kernel +zetaReduce

/-- Hypotheses of MailboxMessages (O40, Mailboxes) are met. -/
theorem witness_MailboxMessages :
    (let c : Chip := mailboxMessages_s18.chip
     64 ≤ 64 ∧ (mbxOf mailboxMessages_s18.chip 64).state = 1 ∧ gateClosed mailboxMessages_s18.chip 64 = false
       ∧ (unprocessed (mbxOf mailboxMessages_s18.chip 64)).head? = some (ds 2 16 3) ∧ badDesc 64 (ds 2 16 3) = false
       ∧ fld (ds 2 16 3) 2 1 = 2 ∧ odN c (0x10040 + fld (ds 2 16 3) 3 1) 0 = 1 ∧ (mbxOf c (fld (ds 2 16 3) 3 1)).state = 1
       ∧ ansFree (mbxOf c (fld (ds 2 16 3) 3 1)) ≠ 0)
    ∧ (let marked : Chip := mbxMark mailboxMessages_r14.s 64 (ds 0 16 0) (fld mailboxMessages_r14.bytes 4 2)
       let c : Chip := mailboxMessages_s14.chip
       64 ≤ 64 ∧ (mbxOf mailboxMessages_s14.chip 64).state = 1 ∧ gateClosed mailboxMessages_s14.chip 64 = false
         ∧ (unprocessed (mbxOf mailboxMessages_s14.chip 64)).head? = some (ds 0 16 0) ∧ badDesc 64 (ds 0 16 0) = false
         ∧ fld (ds 0 16 0) 2 1 = 0 ∧ mbxRead c 64 (fld (ds 0 16 0) 16 8) (fld (ds 0 16 0) 4 2) = mailboxMessages_r14
         ∧ mailboxMessages_r14.st = 0 ∧ (64 ≤ 64 ∨ odN marked (0x10040 + 64) 0 ≠ 0))
    ∧ (let c : Chip := mailboxMessages_s15.chip
       let mgr : Mbx := mbxOf c 64
       64 ≤ 64 ∧ (mbxOf mailboxMessages_s15.chip 64).state = 1 ∧ gateClosed mailboxMessages_s15.chip 64 = false
         ∧ (unprocessed (mbxOf mailboxMessages_s15.chip 64)).head? = some (ds 1 16 0) ∧ badDesc 64 (ds 1 16 0) = false
         ∧ fld (ds 1 16 0) 2 1 = 1 ∧ (64 ≤ 64 ∨ odN c (0x10040 + 64) 0 ≠ 0) ∧ managerAbsent c = false
         ∧ (mgr.fwdProd + 0x10000 - mgr.fwdHead) % 0x10000 < 2 ^ (mgr.fwdSize % 16)
         ∧ (mbxWrite c 64 (mgr.fwdBase + 64 * (mgr.fwdProd % 2 ^ (mgr.fwdSize % 16))) (ringEntry c 64 mgr.fwdProd (2 ^ (mgr.fwdSize % 16)) 2 0 (fld (ds 1 16 0) 4 2) (slice (ds 1 16 0) 8 8) (slice (ds 1 16 0) 16 (fld (ds 1 16 0) 4 2)) (if 64 < 64 then 64 else 255)) = mailboxMessages_w15)
         ∧ mailboxMessages_w15.st = 0)
    ∧ (let c : Chip := mailboxMessages_s16.chip
       64 ≤ 64 ∧ (mbxOf mailboxMessages_s16.chip 64).state = 1 ∧ gateClosed mailboxMessages_s16.chip 64 = false
         ∧ (unprocessed (mbxOf mailboxMessages_s16.chip 64)).head? = some (ds 2 16 3) ∧ badDesc 64 (ds 2 16 3) = false
         ∧ fld (ds 2 16 3) 2 1 = 2 ∧ odN c (0x10040 + fld (ds 2 16 3) 3 1) 0 ≠ 1)
    ∧ (let c : Chip := mailboxMessages_s17.chip
       3 ≤ 64 ∧ (mbxOf mailboxMessages_s17.chip 3).state = 1 ∧ gateClosed mailboxMessages_s17.chip 3 = false
         ∧ (unprocessed (mbxOf mailboxMessages_s17.chip 3)).head? = some (ds 1 16 0) ∧ badDesc 3 (ds 1 16 0) = false
         ∧ fld (ds 1 16 0) 2 1 = 1 ∧ (64 ≤ 3 ∨ odN c (0x10040 + 3) 0 ≠ 0) ∧ managerAbsent c = true)
    ∧ (let marked : Chip := mbxMark mailboxMessages_r19.s 3 (ds 0 16 0) (fld mailboxMessages_r19.bytes 4 2)
       let c : Chip := mailboxMessages_s19.chip
       3 ≤ 64 ∧ (mbxOf mailboxMessages_s19.chip 3).state = 1 ∧ gateClosed mailboxMessages_s19.chip 3 = false
         ∧ (unprocessed (mbxOf mailboxMessages_s19.chip 3)).head? = some (ds 0 16 0) ∧ badDesc 3 (ds 0 16 0) = false
         ∧ fld (ds 0 16 0) 2 1 = 0 ∧ mbxRead c 3 (fld (ds 0 16 0) 16 8) (fld (ds 0 16 0) 4 2) = mailboxMessages_r19
         ∧ mailboxMessages_r19.st = 0 ∧ 3 < 64 ∧ odN marked (0x10040 + 3) 0 = 0) := by
  refine ⟨?_, ?_, ?_, ?_, ?_, ?_⟩ <;> decide +kernel +zetaReduce

/-- Hypotheses of HostFunctions (O41, HostFunctionsAndLinks) are met. -/
theorem witness_HostFunctions :
    (let c : Chip := hostFunctions_s24.chip
     let x : Fn := fnOf c 104
     3 < 4 ∧ hostLinkUp c 3 = true ∧ phase5 c = true ∧ 0 ≤ totalVfs c 3 ∧ 0 < 3 ∧ fnPresent c 3 = true ∧ fnPresent c 0 = true
       ∧ fnPresent c 104 = true ∧ (c.boot.fatal = true ∨ barBad c 104 1 3 4 = true) ∧ c.boot.fatal = false
       ∧ barBad c 104 1 3 4 = true ∧ 100 < 104 ∧ decodes c 104 = true ∧ (4 = 4 ∨ 4 = 8) ∧ 5 < 512 ∧ platOfFn c 104 = some 3
       ∧ odN c (0x10040 + 3) 0 = 1 ∧ bit (dbBinding c 3 5) 15 = false ∧ 2 < vectors 104 ∧ 2 ∈ x.pend ∧ x.fnMask = false
       ∧ x.bme = true)
    ∧ (let c : Chip := hostFunctions_s22.chip
       fnPresent c 0 = true ∧ c.boot.fatal = false ∧ decodes c 0 = true ∧ (8 = 4 ∨ 8 = 8) ∧ 5 < 512
         ∧ bit (dbBinding c 253 5) 15 = true)
    ∧ (let c : Chip := hostFunctions_s23.chip
       fnPresent c 104 = true ∧ 100 < 104 ∧ c.boot.fatal = false ∧ decodes c 104 = true ∧ (4 = 4 ∨ 4 = 8) ∧ 5 < 512
         ∧ platOfFn c 104 = some 3 ∧ odN c (0x10040 + 3) 0 = 1 ∧ bit (dbBinding c 3 5) 15 = true ∧ 3 < 64) := by
  refine ⟨?_, ?_, ?_⟩ <;> decide +kernel +zetaReduce

/-- Hypotheses of PortLinks (O41, HostFunctionsAndLinks) are met. -/
theorem witness_PortLinks :
    (let c : Chip := portLinks_s31.chip
     0 < 4 ∧ hostLinkUp c 0 = true ∧ 3 < 8 ∧ c.boot.signalBox = true ∧ bit (odN c 0x11020 0) 3 = true
       ∧ odN c 0x11021 (3 + 1) % 4 = 0 ∧ 5 + 100000000 ≤ c.tb.ns ∧ 3 < 4 ∧ odN c 0x11031 (3 + 1) % 4 = 2)
    ∧ (let c : Chip := portLinks_s29.chip
       7 < 8 ∧ odN c 0x11021 (7 + 1) % 4 = 1 ∧ 1 ≤ 5 ∧ 5 ≤ 5 ∧ 4 ≤ 4)
    ∧ (let c : Chip := portLinks_s30.chip
       7 < 8 ∧ odN c 0x11021 (7 + 1) % 4 = 1 ∧ 1 ≤ 5 ∧ 5 ≤ 5 ∧ 4 ≤ 4 ∧ 0x10803 ≠ 0x10802)
    ∧ (let c : Chip := portLinks_s25.chip
       linkExists c 2 = true ∧ odN c 0x11003 (2 + 1) % 4 = 1 ∧ perstOn c (2 / 2) = false ∧ 1 ≤ 6
         ∧ 6 ≤ odN c 0x11004 (2 / 2 + 1) ∧ 16 ≤ linkWidth c 2 ∧ 16 = linkWidth c 2 ∧ 6 = odN c 0x11004 (2 / 2 + 1))
    ∧ (let c : Chip := portLinks_s27.chip
       linkExists c 2 = true ∧ odN c 0x11003 (2 + 1) % 4 = 1 ∧ perstOn c (2 / 2) = false ∧ 1 ≤ 1
         ∧ 1 ≤ odN c 0x11004 (2 / 2 + 1) ∧ 8 ≤ linkWidth c 2 ∧ 8 < linkWidth c 2)
    ∧ (let c : Chip := portLinks_s32.chip
       3 < 4 ∧ odN c 0x11031 (3 + 1) % 4 < 2 ∧ bit (odN c 0x11030 0) 3 = true ∧ 0 < (linkOf c (12 + 3)).retryAt
         ∧ (linkOf c (12 + 3)).retryAt ≤ c.tb.ns) := by
  refine ⟨?_, ?_, ?_, ?_, ?_, ?_⟩ <;> decide +kernel +zetaReduce

end Part15

/-! ### Memory, Ethernet, traffic, faults -/

namespace Part16

def mems (f : Mem → Mem) (c : Chip) : Chip := { c with mem := f c.mem }
def tk (s : State) : Chip := ((takeRaw s.chip).getD (0, s.chip)).2
def m0 : Migration := ⟨7, 92600, 5⟩
def nets (f : Net → Net) (c : Chip) : Chip := { c with net := f c.net }
def et (l : List (Nat × Nat × Nat)) (f : Net → Net) : State := st (nets f (withOd up l))
def pf : RxFrame := ⟨0, 0, 68, 5, [1,1, 0,0xFF] ++ zeros 4 ++ [0,5] ++ zeros 20, [], [], 0, true, none⟩
def pt : RxFrame := ⟨8, 0, 68, 1, zeros 60, [], [], 0, true, none⟩
def big : RxFrame := ⟨0, 2, 5000000, 3, [], [], [], 0, true, none⟩
def mk1 : RxMark := ⟨true, true, true, true, true, 3, 0, 0⟩
def ef (l : List (Nat × Nat × Nat)) : State := st (nets id (withOd up ((0x20005,1,2) :: l)))
def frm (dst ty rest n : Nat) : Bytes := (leBytes 6 dst).reverse ++ zeros 6 ++ (leBytes 2 ty).reverse ++ (leBytes 2 rest).reverse ++ zeros n
def n0 : NativeQ := nq 3 [wb0 (wbr 6 1 5 0 8 0) (nsr 3 1)]
def f1 : Frame := ⟨100, 5, none, [1,2], none⟩
def f2 : Frame := ⟨64, 6, none, [3], none⟩
def meterUp : Chip := withB up [(0x22400,3,mk 32 [(0,1,2),(4,2,10),(8,4,8000),(12,4,16000),(16,4,1000),(20,4,2000)])]
def mb2 : Bucket := ⟨-5, 256*2000, 0, none, (10,8000,16000,1000,2000)⟩
def shUp : Chip := withB up [(0x23800,3,mk 32 [(0,1,1),(2,2,10),(4,4,8000),(8,4,1000)])]
def egUp (f : Net → Net) : State := st (nets f (withB (withOd up [(0x20005,1,2),
  (0x21020,1,0xFFFF)]) [(0x21080,1,mk 8 [(0,1,0),(2,2,1),(4,2,0xFFFF),(6,2,0xFFFF)]),(0x21100,1,mk 8 [(0,1,0),(2,2,1),
  (4,2,0xFFFF),(6,2,0xFFFF)]),(0x21400,6,mk 16 [(0,2,0),(2,2,1),(4,2,0xFFFF),(6,2,0xFFFF),(8,4,10000)])]))
def eg2 : State := egUp (fun n => { n with queues := [(5, [f1, f2])] })
def whl (w : Nat) : State := st (nets (fun n => { n with wheel := w, slots := [(w, 9), (w, 10)], paces := [(9, ⟨(w+1)*2^20-1, some w, 5⟩)] }) up)
def sq9 : State := st { up with storage := { up.storage with queues := [(9, n0)] } }
def flt (f : Faults → Faults) (c : Chip) : Chip := { c with faults := f c.faults }
def fe (u : Nat) (t : Bool) (r : Nat) : Fence := { unit := u, recs := [3], testing := t, since := 5, prev := 2, result := r }
def ff1 (u : Nat) (t : Bool) (r : Nat) : State := st (flt (fun f => { f with fences := [fe u t r] }) up)
def memoryTiers_s5 : State := st (mems (fun m => { m with migs := [{m0 with done := 1024}, { m0 with gran := 8 }] }) up)
def memoryTiers_m5 : Migration := {m0 with done := 1024}
def memoryTiers_s0 : State := st (mems (fun m => { m with ce := [(1, (4, 5))] }) up)
def memoryTiers_s4 : State := st (mems (fun m => { m with remapUsed := 5728 }) (withOd up [(0x01046,0,191998459904)]))
def memoryTiers_s1 : State := st up
def memoryTiers_y1 : Chip := tk (st up)
def memoryTiers_s3 : State := st (mems (fun m => { m with migs := [m0] }) up)
def memoryTiers_s6 : State := st (mems (fun m => { m with ce := [(7, (5000, 5))] }) (withOd up [(0x40020,0,1)]))
def memoryTiers_s7 : State := st (mems (fun m => { m with ce := [(7, (5000, 5))] }) (withB (withOd up [(0x40020,0,1)]) [(0x40030,1,leBytes 8 0xC00000 ++ leBytes 4 2 ++ zeros 4)]))
def ethernetLinks_s10 : State := et [(0x20005,9,2)] (fun n => { n with fec := [(8, (5, 1000000, false))], retrain := [0] })
def ethernetLinks_s11 : State := et [(0x20005,9,1),(0x20002,2,1)] id
def flowControlAndPtp_s13 : State := et [(0x20030,1,0xFFFF)] (fun n => { n with buffer := [pf], paused := [(3, 1000000000)] })
def flowControlAndPtp_s14 : State := et [(0x20030,1,0xFFFF),(0x20005,1,2)] (fun n => { n with buffer := [big] })
def flowControlAndPtp_s15 : State := et [(0x20030,1,0xFFFF),
  (0x20005,1,2)] (fun n => { n with buffer := [big], xoff := [(2, 5)] })
def flowControlAndPtp_s16 : State := et [(0x20030,1,0xFFFF),
  (0x20005,1,2)] (fun n => { n with buffer := [], xoff := [(2, 5)] })
def flowControlAndPtp_s17 : State := et [(0x20030,1,0xFFFF),(0x20005,9,2),(0x20040,9,3)] (fun n => { n with buffer := [pt] })
def ethernetFrames_s22 : State := ef []
def ethernetFrames_b22 : Bytes := frm 0x0180C200000E 0x88F7 0 44
def ethernetFrames_s18 : State := ef []
def ethernetFrames_b18 : Bytes := frm 0x0180C200000E 0x88F7 0 60
def ethernetFrames_mark18 : RxMark := { mk1 with fecOk := false }
def ethernetFrames_s19 : State := ef []
def ethernetFrames_b19 : Bytes := frm 0x0180C200000E 0x88F7 0 60
def ethernetFrames_mark19 : RxMark := { mk1 with fcsOk := false }
def ethernetFrames_s20 : State := ef []
def ethernetFrames_b20 : Bytes := frm 0x0180C200000E 0x88F7 0 42
def ethernetFrames_s25 : State := ef []
def ethernetFrames_b25 : Bytes := frm 0x0A80C2000001 0x8808 0x0102 44
def ethernetFrames_s26 : State := ef [(0x20010,1,600)]
def ethernetFrames_b26 : Bytes := frm 0x0180C2000001 0x8808 0x0102 600
def ethernetFrames_s27 : State := ef [(0x20018,1,1)]
def ethernetFrames_b27 : Bytes := frm 0x0180C2000001 0x8100 0x0102 600
def ethernetFrames_s23 : State := ef []
def ethernetFrames_b23 : Bytes := frm 0x0180C2000001 0x8808 0x0101 44
def ethernetFrames_s24 : State := ef []
def ethernetFrames_b24 : Bytes := frm 0x0180C2000001 0x8808 0x0102 44
def trafficManager_s30 : State := egUp (fun n => { n with ptp := [(0, [[1,2],[3]])] })
def trafficManager_s36 : State := st up
def trafficManager_s28 : State := st (nets (fun n => { n with buckets := [(2, mb2)] }) meterUp)
def trafficManager_s29 : State := st shUp
def trafficManager_s32 : State := whl 62499999
def trafficManager_p32 : Pace := ⟨(62499999+1)*2^20-1, some 62499999, 5⟩
def trafficManager_s37 : State := st up
def faults_s42 : State := st up
def faults_s40 : State := ff1 0x200F true 0
def faults_s43 : State := ff1 0x200F false 1
def faults_s39 : State := ff1 0x200F false 0
def dwellTrip_s44 : State := st up

/-- Hypotheses of MemoryTiers (O42) are met. -/
theorem witness_MemoryTierRepairs :
    (let c : Chip := memoryTiers_s5.chip
     eccSub 0x3000000000 false = some 2 ∧ (List.find? (fun x => x.gran == 7) c.mem.migs = some memoryTiers_m5)
       ∧ memoryTiers_m5.done = 1024)
    ∧ (let c : Chip := memoryTiers_s0.chip
       let day : Nat := 86400000000000
       eccSub 0x200040 true = some 1 ∧ tget? c.mem.ce (0x200040 / 0x200000) = some (4, 5) ∧ nowNs c < 5 + day)
    ∧ (let c : Chip := memoryTiers_s4.chip
       regionOf (7 * 0x200000) = Region.near ∧ c.mem.retired.contains 7 = false ∧ c.mem.migs = [] ∧ takeRaw c = none)
    ∧ (let c : Chip := memoryTiers_s1.chip
       nearGranule 7 = true ∧ c.mem.retired.contains 7 = false ∧ ((c.mem.migs.any fun x => x.gran == 7) = false)
         ∧ takeRaw c = some (0x169a0, memoryTiers_y1))
    ∧ (let c : Chip := memoryTiers_s3.chip
       c.mem.migs = [m0])
    ∧ (let c : Chip := memoryTiers_s6.chip
       let day : Nat := 86400000000000
       odN c 0x40020 0 ≠ 0 ∧ tget? c.mem.ce 7 = some (5000, 5) ∧ odN c 0x40021 0 < 5000 ∧ nowNs c < 5 + day
         ∧ regionOf (7 * 0x200000) = Region.near ∧ inPinned c 7 = false)
    ∧ (let c : Chip := memoryTiers_s7.chip
       let day : Nat := 86400000000000
       odN c 0x40020 0 ≠ 0 ∧ tget? c.mem.ce 7 = some (5000, 5) ∧ odN c 0x40021 0 < 5000 ∧ nowNs c < 5 + day
         ∧ regionOf (7 * 0x200000) = Region.near ∧ inPinned c 7 = true ∧ tget? c.mem.pinned 7 = none) := by
  refine ⟨?_, ?_, ?_, ?_, ?_, ?_, ?_⟩ <;> decide +kernel +zetaReduce

/-- Hypotheses of EthernetLinks (O43, Ethernet) are met. -/
theorem witness_EthernetLinks :
    (let c : Chip := ethernetLinks_s10.chip
     8 < 16 ∧ subExists c 8 = true ∧ subState c 8 = 2 ∧ tget? c.net.fec 8 = some (5, 1000000, false)
       ∧ odN c 0x20012 0 < 1000000 ∧ nowNs c < 5 + 1000000000 ∧ 0 < 2 ∧ c.net.retrain.contains 0 = true ∧ 0 < 8 ∧ 8 / 8 ≠ 0
       ∧ gSub c (qGroup c 0) / 8 = 0)
    ∧ (let c : Chip := ethernetLinks_s11.chip
       8 < 16 ∧ subExists c 8 = true ∧ portsOn c = true ∧ subState c 8 ≠ 2 ∧ bit (odN c 0x20003 0) 8 = true
         ∧ subState c 8 = 1 ∧ odN c 0x20002 (8 / 8 + 1) ≠ 0 ∧ tget 0 c.net.anRetry 8 ≤ nowNs c) := by
  refine ⟨?_, ?_⟩ <;> decide +kernel +zetaReduce

/-- Hypotheses of FlowControlAndPtp (O43, Ethernet) are met. -/
theorem witness_FlowControlAndPtp :
    (let c : Chip := flowControlAndPtp_s13.chip
     let now : Nat := nowNs c
     0 < 16 ∧ 3 < 8 ∧ (List.find? (fun f => f.sub == 0 && f.cls == 5) c.net.buffer = some pf)
       ∧ tget? c.net.paused (8 * 0 + 3) = some 1000000000 ∧ 1000000000 ≤ now)
    ∧ (let c : Chip := flowControlAndPtp_s14.chip
       0 < 16 ∧ 2 < 8 ∧ subExists c 0 = true ∧ subState c 0 = 2 ∧ bit (pfcEnable c 0) (8 + 2) = true
         ∧ tget? c.net.xoff (8 * 0 + 2) = none ∧ odN c 0x20031 0 ≤ occupancy c 0 2)
    ∧ (let c : Chip := flowControlAndPtp_s15.chip
       let now : Nat := nowNs c
       0 < 16 ∧ 2 < 8 ∧ subExists c 0 = true ∧ bit (pfcEnable c 0) (8 + 2) = true ∧ tget? c.net.xoff (8 * 0 + 2) = some 5
         ∧ odN c 0x20032 0 ≤ occupancy c 0 2 ∧ 5 + quantaNs c 0 0x8000 ≤ now)
    ∧ (let c : Chip := flowControlAndPtp_s16.chip
       0 < 16 ∧ 2 < 8 ∧ tget? c.net.xoff (8 * 0 + 2) = some 5 ∧ occupancy c 0 2 < odN c 0x20032 0)
    ∧ (let c : Chip := flowControlAndPtp_s17.chip
       8 < 16 ∧ 2 < 8 ∧ (List.find? (fun f => f.sub == 8 && f.cls == 1) c.net.buffer = some pt) ∧ ptpAllowed c 8 1 = true
         ∧ odN c 0x20041 (8 + 1) ≠ 1) := by
  refine ⟨?_, ?_, ?_, ?_, ?_⟩ <;> decide +kernel +zetaReduce

/-- Hypotheses of EthernetFrames (O43, Ethernet) are met. -/
theorem witness_EthernetFrames :
    (let y : Chip := fecCount ethernetFrames_s22.chip 0 mk1.corrected mk1.uncorrectable
     let len : Nat := List.length ethernetFrames_b22 + 4
     subExists ethernetFrames_s22.chip 0 = true ∧ subState ethernetFrames_s22.chip 0 = 2 ∧ mk1.fecOk = true
       ∧ mk1.fcsOk = true ∧ mk1.icrcOk = true ∧ 64 ≤ len ∧ len ≤ odN y 0x20010 (0 + 1)
       ∧ frameAddressed y 0 ethernetFrames_b22 = true ∧ tagAllowed y 0 ethernetFrames_b22 = true
       ∧ be ethernetFrames_b22 12 2 = 0x88f7 ∧ be ethernetFrames_b22 0 6 = 0x180c200000e)
    ∧ (let y : Chip := fecCount ethernetFrames_s18.chip 0 ethernetFrames_mark18.corrected ethernetFrames_mark18.uncorrectable
       let p : Parsed := parseFrame ethernetFrames_b18
       subExists ethernetFrames_s18.chip 0 = true ∧ subState ethernetFrames_s18.chip 0 = 2
         ∧ cutThrough y 0 ethernetFrames_b18 ethernetFrames_mark18 p = none ∧ ethernetFrames_mark18.fecOk = false)
    ∧ (let y : Chip := fecCount ethernetFrames_s19.chip 0 ethernetFrames_mark19.corrected ethernetFrames_mark19.uncorrectable
       let p : Parsed := parseFrame ethernetFrames_b19
       subExists ethernetFrames_s19.chip 0 = true ∧ subState ethernetFrames_s19.chip 0 = 2
         ∧ cutThrough y 0 ethernetFrames_b19 ethernetFrames_mark19 p = none ∧ ethernetFrames_mark19.fecOk = true
         ∧ ethernetFrames_mark19.fcsOk = false)
    ∧ (let len : Nat := List.length ethernetFrames_b20 + 4
       subExists ethernetFrames_s20.chip 0 = true ∧ subState ethernetFrames_s20.chip 0 = 2 ∧ mk1.fecOk = true
         ∧ mk1.fcsOk = true ∧ mk1.icrcOk = true ∧ len < 64)
    ∧ (let y : Chip := fecCount ethernetFrames_s25.chip 0 mk1.corrected mk1.uncorrectable
       let len : Nat := List.length ethernetFrames_b25 + 4
       subExists ethernetFrames_s25.chip 0 = true ∧ subState ethernetFrames_s25.chip 0 = 2 ∧ mk1.fecOk = true
         ∧ mk1.fcsOk = true ∧ mk1.icrcOk = true ∧ 64 ≤ len ∧ len ≤ odN y 0x20010 (0 + 1)
         ∧ frameAddressed y 0 ethernetFrames_b25 = false)
    ∧ (let y : Chip := fecCount ethernetFrames_s26.chip 0 mk1.corrected mk1.uncorrectable
       let len : Nat := List.length ethernetFrames_b26 + 4
       subExists ethernetFrames_s26.chip 0 = true ∧ subState ethernetFrames_s26.chip 0 = 2 ∧ mk1.fecOk = true
         ∧ mk1.fcsOk = true ∧ mk1.icrcOk = true ∧ 64 ≤ len ∧ odN y 0x20010 (0 + 1) < len)
    ∧ (let y : Chip := fecCount ethernetFrames_s27.chip 0 mk1.corrected mk1.uncorrectable
       let len : Nat := List.length ethernetFrames_b27 + 4
       subExists ethernetFrames_s27.chip 0 = true ∧ subState ethernetFrames_s27.chip 0 = 2 ∧ mk1.fecOk = true
         ∧ mk1.fcsOk = true ∧ mk1.icrcOk = true ∧ 64 ≤ len ∧ len ≤ odN y 0x20010 (0 + 1)
         ∧ frameAddressed y 0 ethernetFrames_b27 = true ∧ tagAllowed y 0 ethernetFrames_b27 = false)
    ∧ (let y : Chip := fecCount ethernetFrames_s23.chip 0 mk1.corrected mk1.uncorrectable
       let len : Nat := List.length ethernetFrames_b23 + 4
       subExists ethernetFrames_s23.chip 0 = true ∧ subState ethernetFrames_s23.chip 0 = 2 ∧ mk1.fecOk = true
         ∧ mk1.fcsOk = true ∧ mk1.icrcOk = true ∧ 64 ≤ len ∧ len ≤ odN y 0x20010 (0 + 1)
         ∧ frameAddressed y 0 ethernetFrames_b23 = true ∧ tagAllowed y 0 ethernetFrames_b23 = true
         ∧ be ethernetFrames_b23 12 2 = 0x8808 ∧ be ethernetFrames_b23 14 2 = 257)
    ∧ (let y : Chip := fecCount ethernetFrames_s24.chip 0 mk1.corrected mk1.uncorrectable
       let len : Nat := List.length ethernetFrames_b24 + 4
       subExists ethernetFrames_s24.chip 0 = true ∧ subState ethernetFrames_s24.chip 0 = 2 ∧ mk1.fecOk = true
         ∧ mk1.fcsOk = true ∧ mk1.icrcOk = true ∧ 64 ≤ len ∧ len ≤ odN y 0x20010 (0 + 1)
         ∧ frameAddressed y 0 ethernetFrames_b24 = true ∧ tagAllowed y 0 ethernetFrames_b24 = true
         ∧ be ethernetFrames_b24 12 2 = 0x8808 ∧ be ethernetFrames_b24 14 2 ≠ 257) := by
  refine ⟨?_, ?_, ?_, ?_, ?_, ?_, ?_, ?_, ?_⟩ <;> decide +kernel +zetaReduce

/-- Hypotheses of TrafficManager (O44) are met. -/
theorem witness_TrafficManagerServes :
    (let c : Chip := trafficManager_s30.chip
     let now : Nat := nowNs c
     0 < 16 ∧ subExists c 0 = true ∧ subState c 0 = 2 ∧ tget [] c.net.ptp 0 = [[1, 2], [3]] ∧ 16 * (c.net.wheel + 1) ≤ now
       ∧ c.net.sampler = (0, 0) ∧ 0 ≤ now ∧ 0 < 0x3ffc ∧ 0 < 8)
    ∧ (let c : Chip := eg2.chip
       0 < 16 ∧ subExists c 0 = true ∧ subState c 0 = 2 ∧ tget [] c.net.ptp 0 = [] ∧ maxOk c (odN c 0x21020 (0 + 1)) = true
         ∧ pickClass c 0 = some (0, []) ∧ pickGroup c [] 0 0 = some (0, 5, [(5, 256), (0x10000, 256)]) ∧ qFrames c 5 = [f1,
         f2])
    ∧ (Accepted trafficManager_s36 rP 0x21032 (leBytes 2 0x3fff ++ [1, 0]) ∧ fld (leBytes 2 0x3fff ++ [1,
         0]) 0 2 + fld (leBytes 2 0x3fff ++ [1, 0]) 2 2 ≤ 0x4000 ∧ fld (leBytes 2 0x3fff ++ [1, 0]) 0 2 ≤ 0x3fff
         ∧ 0x3fff < fld (leBytes 2 0x3fff ++ [1, 0]) 0 2 + fld (leBytes 2 0x3fff ++ [1, 0]) 2 2)
    ∧ (let c : Chip := trafficManager_s28.chip
       2 < 0x4000 ∧ refillDue c (meterBucket c 2) = some 1000000000 ∧ fld (meterRec c 2) 0 1 = 2
         ∧ (meterBucket c 2).pending = none)
    ∧ (let c : Chip := trafficManager_s29.chip
       2 < 0x8000 ∧ refillDue c (shaperBucket c 2) = some 1000000000 ∧ bit (fld (shaperRec c 2) 0 1) 0 = true)
    ∧ (let c : Chip := sq9.chip
       9 < 0x1000 ∧ nqOf c 9 = some n0)
    ∧ (let c : Chip := trafficManager_s32.chip
       let now : Nat := nowNs c
       16 * (c.net.wheel + 1) ≤ now ∧ (c.net.wheel, 9) ∈ c.net.slots ∧ tget? c.net.paces 9 = some trafficManager_p32
         ∧ trafficManager_p32.e < (c.net.wheel + 1) * 2 ^ 20)
    ∧ (Accepted trafficManager_s37 rC 0x21032 (leBytes 2 0x4000 ++ [1, 0]) ∧ 0x4000 < fld (leBytes 2 0x4000 ++ [1,
         0]) 0 2 + fld (leBytes 2 0x4000 ++ [1, 0]) 2 2) := by
  refine ⟨?_, ?_, ?_, ?_, ?_, ?_, ?_, ?_⟩ <;> decide +kernel +zetaReduce

/-- Hypotheses of Faults (O45, FaultsAndTrips) are met. -/
theorem witness_Faults :
    (let c : Chip := faults_s42.chip
     let onLit : Prop := unitOk 0x200f = true ∧ Option.any (fun d => !dieLit c d) (unitDie 0x200f) = false
     onLit ∧ 0x200f / 0x1000 = 2 ∧ 2 ≤ 4 ∧ 4 ≤ 4 ∧ 3 ≤ 9 ∧ 9 ≤ 9 ∧ 8 < 2 ^ 64 ∧ fenced c 0x200f = false
       ∧ Accepted faults_s42 rC 0x70030 [15, 32] ∧ leNat [15, 32] = 0x200f ∧ unitOk 0x200f = true
       ∧ Accepted faults_s42 rC 0x1011 [15, 32] ∧ retired c 0x200f = false)
    ∧ (let c : Chip := faults_s40.chip
       fenceOf c 0x200f = some (fe 0x200f true 0) ∧ (fe 0x200f true 0).testing = true ∧ pairMate c (fe 0x200f true 0) = none
         ∧ transientCount (noteTransient c 0x200f) 0x200f ≤ threshold c 0x200f ∧ 0x200f / 0x1000 ≠ 8 ∧ 0x200f / 0x1000 ≠ 10
         ∧ (fe 0x200f true 0).since + 1000 * testMax 0x200f < nowNs c)
    ∧ (let c : Chip := faults_s43.chip
       let held : Fence := { (fe 0x200f false 1) with result := 1 }
       fenceOf c 0x200f = some held ∧ (fe 0x200f false 1).unit = 0x200f ∧ (fe 0x200f false 1).testing = false
         ∧ Accepted faults_s43 rC 0x1011 [15, 32] ∧ leNat [15, 32] = 0x200f ∧ unitOk 0x200f = true ∧ fenced c 0x200f = true)
    ∧ (let c : Chip := faults_s39.chip
       fenceOf c 0x200f = some (fe 0x200f false 0) ∧ (fe 0x200f false 0).testing = false ∧ (fe 0x200f false 0).result = 0
         ∧ testSlotFree c 0x200f = true ∧ unitBusy c 0x200f = false
         ∧ (Option.any (fun d => !dieLit c d) (unitDie 0x200f) = false) ∧ (0x200f < 0x1000 ∨ 0x1004 ≤ 0x200f)) := by
  refine ⟨?_, ?_, ?_, ?_⟩ <;> decide +kernel +zetaReduce

/-- Hypotheses of DwellTrip (O45, FaultsAndTrips) are met. -/
theorem witness_DwellTrip :
    (unitOk 0x200f = true ∧ 4 ≤ 4 ∧ (dwellRange 4).1 ≤ 20 ∧ 20 ≤ (dwellRange 4).2 ∧ 0 + 1000 * 20 ≤ dwellTrip_s44.chip.tb.ns
       ∧ fenced dwellTrip_s44.chip 0x200f = false ∧ retired dwellTrip_s44.chip 0x200f = false
       ∧ (0 < 4 → dieLit dwellTrip_s44.chip (4 - 1) = true)
       ∧ (Option.any (fun d => !dieLit dwellTrip_s44.chip d) (unitDie 0x200f) = false)
       ∧ dwellTrip_s44.chip.boot.signalBox = true ∧ 0x200f / 0x1000 = 2) := by
  decide +kernel +zetaReduce

end Part16

/-! ### Remote memory -/

namespace Part17

def qcfg : Bytes := mk 96 [(0,4,5),(8,8,0x10000),(16,8,0x11000),(24,1,6),(25,1,6),(28,2,7),(30,2,8),(32,4,0x77),(44,1,4),
  (45,1,3),(46,1,0x53),(47,1,2),(66,1,64),(67,1,0x44),(72,2,0xFFFF),(76,4,0xFFFFFFFF),(80,4,0xFFFFFFFF)]
def qp0 : Qp := { Qp.off with state := 3, plat := 0xFD, cfg := qcfg, sqProd := 1, retries := 3, rnrLeft := 5 }
def sent1 : Sent := ⟨0, mk 64 [(2,1,1),(4,4,100)], 0, 1, 1, none, 0, 0, 0, 0⟩
def rd (f : Rdma → Rdma) (c : Chip) : Chip := { c with rdma := f c.rdma }
def wq (q : Qp) (c : Chip) : Chip := let c := withB c [(0x08020,1,leBytes 8 0 ++ leBytes 8 0x100000)]; rd (fun r => { r with qps := tput r.qps 5 q, cqs := [(7, ⟨0xFD,6,1,0x20000,0,0,false⟩),(8, ⟨0xFD,6,1,0x21000,0,0,false⟩)] }) c
def qm (d : Nat) (l : List (Nat × Nat × Nat)) : Bytes := l.foldl (fun b x => setFld b x.1 x.2.1 x.2.2) (setFld qcfg 4 1 d)
def plat3r (c : Chip) : Chip := withB (p3 c) [(0x24043,0,mk 32 [(4,4,100),(8,2,20),(10,2,8),(12,4,0),(16,4,50),(20,2,64),
  (22,1,0xFF),(23,1,1),(24,2,0xFFFF),(26,1,3)])]
def cqa : Bytes := mk 16 [(0,2,9),(2,1,6),(4,2,5),(8,8,0x20000)]
def mra : Bytes := mk 24 [(0,4,0x505),(8,8,0x30000),(16,4,1),(20,1,7)]
def m0 : Mr := ⟨0xFD,0x505,0x30000,1,7,0⟩
def wmr : Chip := rd (fun r => { r with mrs := [(5, m0)] }) (wq { qp0 with state := 3 } up)
def cq7 : Cq := ⟨0xFD,6,1,0x20000,0,0,false⟩
def wr (op : Nat) (l : List (Nat × Nat × Nat)) : Bytes := mk 64 ([(2,1,op),(16,8,0x40000)] ++ l)
def sr (b : Bytes) (q : Qp) : State := st (devW (wq q (withOd up [(0x20005,1,2),(0x20010,1,9000)])) 0x10000 b)
def xr (b : Bytes) (q : Qp) : Xfer := let c := (sr b q).chip; qpFetch c q (qSqBase q) (qSqLog q) q.sqCons
def rawq : Qp := { qp0 with cfg := setFld qcfg 5 1 1 }
def tq (q : Qp) (ns : Nat) (c : Chip) : Chip := let c := wq q c; { c with tb := { c.tb with ns := ns } }
def fl : Qp := { qp0 with sent := [sent1], sqCons := 1 }
def plat3s (c : Chip) : Chip := withB (plat3r c) [(0x24020,2,mk 40 [(0,4,10000),(4,4,1000),(8,4,100000),(12,4,500),(16,2,128),
  (18,2,10),(20,4,2000),(24,4,4000),(28,4,8000),(32,2,0xFFFF),(34,1,1)])]
def plat3h (c : Chip) : Chip := withB (plat3s c) [(0x24020,2,mk 40 [(0,4,10000),(4,4,1000),(8,4,100000),(12,4,500),(16,2,128),
  (18,2,10),(20,4,2000),(24,4,4000),(28,4,8000),(32,2,9),(34,1,1)]),(0x23800,10,mk 32 [(0,1,5),(2,2,10),(4,4,8000),(8,4,1000),
  (12,4,1000),(16,4,20000)])]
def pkt (op psn : Nat) (body : Bytes) : RxFrame := ⟨1, 0, 200, 3, bth op 5 psn false 0 ++ body, zeros 16, zeros 16, 0, true,
  none⟩
def rx (f : RxFrame) (q : Qp) : State := let c := wq q (rd (fun r => { r with mrs := [(5, m0)] }) up); st { c with net := { c.net with buffer := [f] } }
def ry (f : RxFrame) (q : Qp) : Chip := let c := (rx f q).chip; rdmaCount { c with net := { c.net with buffer := c.net.buffer.erase f } } q.plat 2
def rg (f : RxFrame) (q : Qp) (a n : Nat) : Option Mr × Chip := regionFor (ry f q) q 0x505 a n 1
def wbody : Bytes := reth 0x30000 0x505 8 ++ [1,2,3,4,5,6,7,8]
def x1 (f : RxFrame) (q : Qp) : Xfer := xferWrite (rg f q 0x30000 8).2 (agentOf q.plat) 0x30000 [1,2,3,4,5,6,7,
  8] m0.hint 0 uRdma (mrBound m0)
def qnk : Qp := { qp0 with nakSent := true }
def qah : Qp := { qp0 with expPsn := 9 }
def rbody : Bytes := reth 0x30000 0x505 8 ++ leBytes 3 0 ++ [1] ++ leBytes 3 0 ++ [0] ++ [1,2,3,4,5,6,7,8]
def qre : Qp := { qp0 with relaxed := true }
def qpl : Qp := { qre with placed := [9] }
def h0 : Held := ⟨1, 0, 0, 0x30000, 0x505, [1,2], 1, 0, 200⟩
def qf : Qp := { qre with finals := [h0], expPsn := 1 }
def wf (q : Qp) : State := rx (pkt 0x11 0 [0x1F,0,0,1]) q
def fz (q : Qp) : Chip := (regionFor (wf q).chip { q with finals := [] } 0x505 0x30000 2 1).2
def fx (q : Qp) : Xfer := xferWrite (fz q) (agentOf q.plat) 0x30000 [1,2] m0.hint 0 uRdma (mrBound m0)
def qf2 : Qp := { qf with cfg := setFld qcfg 72 2 17 }
def qa : Qp := { fl with nextPsn := 1, sent := [sent1] }
def f62 := pkt 0x11 0 [0x62,0,0,1]
def q2 : Qp := { qp0 with state := 2 }
def f81 := pkt 0x81 0 (zeros 16)
def qec : Qp := { qp0 with plat := 3, ecn := true, rate := 20000 }
def rx3 (f : RxFrame) (q : Qp) : State := let c := wq q (rd (fun r => { r with mrs := [(5, m0)] }) (plat3s up)); st { c with net := { c.net with buffer := [f] } }
def ry3 (f : RxFrame) (q : Qp) : Chip := let c := (rx3 f q).chip; rdmaCount { c with net := { c.net with buffer := c.net.buffer.erase f } } q.plat 2
def saa : Bytes := mk 64 [(0,4,5),(4,4,0x1234),(8,1,1),(10,2,1029),(12,2,7),(14,2,0xFFFF),(24,8,1)]
def kup : Chip := let c := withOd up [(0x04050,1,0xFD)]; { c with sec := { c.sec with slots := [(1029, ⟨1, zeros 16, 1, 7, 0⟩)] } }
def sa0 : Sa := ⟨0xFD, saa, 1, 0, 0, false⟩
def sain : Sa := ⟨0xFD, setFld saa 8 1 0, 1, 0, 0, false⟩
def ws (a : Sa) (c : Chip) : Chip := rd (fun r => { r with sas := [(5, a)] }) c
def ef (d : Bytes) : RxFrame := ⟨1, 0, 200, 4, d, zeros 16, zeros 16, 0, true, none⟩
def eg : Frame := ⟨200, 5, none, [1,2,3], some 5⟩
def espk (seq : Nat) (k : Nat) : Bytes := beN 4 0x1234 ++ zeros 4 ++ beN 8 seq ++ [7,7] ++ zeros k
def eb (d : Bytes) (c : Chip) : State := st { c with net := { c.net with buffer := [ef d] } }
def oq (a : Sa) : State := st { ws a kup with net := { kup.net with queues := [(3, [eg])] } }
def sae : Sa := { sa0 with next := 2^64 }
def fullS : State := let s := sr (wr 1 [(4,4,100)]) qp0; st { s.chip with net := { s.chip.net with queues := [(0, [⟨100000000,0,none,[],none⟩])] } }
def fullX : Xfer := let c := fullS.chip; qpFetch c qp0 (qSqBase qp0) (qSqLog qp0) 0
def queuePairs_s3 : State := st (wq Qp.off up)
def queuePairs_s1 : State := st (wq qp0 up)
def queuePairs_s4 : State := st (wq { qp0 with state := 1 } (withOd up [(0x20010,1,9000)]))
def queuePairs_s5 : State := st (wq { qp0 with state := 2 } up)
def queuePairs_s7 : State := st (wq { qp0 with plat := 3 } (plat3r up))
def queuePairs_s0 : State := st (wq qp0 up)
def queuePairs_s2 : State := st (wq { qp0 with state := 4 } up)
def queuePairs_s6 : State := st (wq { qp0 with state := 2 } up)
def ringsAndRegions_s8 : State := st (wq qp0 up)
def ringsAndRegions_s9 : State := st (wq qp0 up)
def ringsAndRegions_q9 : Cq := ⟨0xFD,6,1,0x20000,0,0,false⟩
def ringsAndRegions_s10 : State := st (wq qp0 up)
def ringsAndRegions_q10 : Cq := ⟨0xFD,6,1,0x20000,0,0,false⟩
def ringsAndRegions_s11 : State := st (wq Qp.off up)
def ringsAndRegions_q11 : Cq := ⟨0xFD,6,1,0x20000,0,0,false⟩
def ringsAndRegions_s12 : State := st up
def ringsAndRegions_s13 : State := st wmr
def ringsAndRegions_s14 : State := st wmr
def rdmaDoorbells_s16 : State := st (hst (wq qp0 up))
def rdmaDoorbells_s18 : State := st (hst (wq qp0 up))
def rdmaDoorbells_s15 : State := st (hst (wq qp0 up))
def sendRequests_s20 : State := sr (wr 1 [(4,4,0)]) qp0
def sendRequests_s22 : State := sr (wr 1 [(0,1,7)]) qp0
def sendRequests_s23 : State := sr (wr 16 [(4,4,100)]) rawq
def sendRequests_x23 : Xfer := xr (wr 16 [(4,4,100)]) rawq
def sendRequests_s21 : State := sr (wr 1 [(3,1,2),(4,4,100)]) { qp0 with sent := [{ sent1 with b := mk 64 [(2,1,3)] }] }
def sendRequests_x21 : Xfer := xr (wr 1 [(3,1,2),(4,4,100)]) { qp0 with sent := [{ sent1 with b := mk 64 [(2,1,3)] }] }
def rdmaTimers_s28 : State := st (tq { fl with plat := 3, rate := 20000, pace := some 16384, samples := [] } 1000000000 (plat3s up))
def rdmaTimers_s25 : State := st (tq { fl with retries := 0 } 1000000000 up)
def rdmaTimers_s31 : State := st (tq { fl with plat := 3, samples := [100] } 1000000000 (plat3h up))
def rdmaTimers_s32 : State := st (tq { fl with unacked := 3 } 1000000000 up)
def rdmaTimers_s27 : State := st (tq { fl with rnrUntil := some 5 } 1000000000 up)
def rdmaTimers_s30 : State := st (tq { fl with plat := 0xFD } 1000000000 (plat3h up))
def rdmaTimers_s29 : State := st (tq { fl with plat := 3, rate := 20000, pace := some 16384, samples := [100] } 1000000000 (plat3s up))
def responder_s33 : State := rx (pkt 10 0 wbody) qp0
def responder_y33 : Chip := ry (pkt 10 0 wbody) qp0
def responder_z33 : Chip := (rg (pkt 10 0 wbody) qp0 0x30000 8).2
def responder_s38 : State := rx (pkt 0xC1 0 rbody) qre
def responder_y38 : Chip := ry (pkt 0xC1 0 rbody) qre
def responder_z38 : Chip := (rg (pkt 0xC1 0 rbody) qre 0x30000 8).2
def responder_s34 : State := rx (pkt 10 3 wbody) qp0
def responder_y34 : Chip := ry (pkt 10 3 wbody) qp0
def responder_s35 : State := rx (pkt 10 3 wbody) qnk
def responder_y35 : Chip := ry (pkt 10 3 wbody) qnk
def responder_s36 : State := rx (pkt 10 3 wbody) qah
def responder_y36 : Chip := ry (pkt 10 3 wbody) qah
def responder_s37 : State := rx (pkt 0xC1 0 rbody) qp0
def responder_y37 : Chip := ry (pkt 0xC1 0 rbody) qp0
def responder_s39 : State := rx (pkt 0xC1 900 rbody) qre
def responder_y39 : Chip := ry (pkt 0xC1 900 rbody) qre
def responder_s40 : State := rx (pkt 0xC1 9 rbody) qpl
def responder_y40 : Chip := ry (pkt 0xC1 9 rbody) qpl
def finalsAndAnswers_s47 : State := rx3 f81 qec
def finalsAndAnswers_y47 : Chip := ry3 f81 qec
def finalsAndAnswers_s43 : State := wf qa
def finalsAndAnswers_y43 : Chip := ry (pkt 0x11 0 [0x1F,0,0,1]) qa
def finalsAndAnswers_s44 : State := rx f62 qp0
def finalsAndAnswers_y44 : Chip := ry f62 qp0
def finalsAndAnswers_s45 : State := rx f62 q2
def finalsAndAnswers_y45 : Chip := ry f62 q2
def finalsAndAnswers_s46 : State := rx f81 q2
def finalsAndAnswers_y46 : Chip := ry f81 q2
def finalsAndAnswers_s41 : State := wf qf
def finalsAndAnswers_z41 : Chip := fz qf
def finalsAndAnswers_s42 : State := wf qf2
def finalsAndAnswers_z42 : Chip := fz qf2
def esp_s56 : State := oq sa0
def esp_s52 : State := eb (espk 5 16) (ws sain kup)
def esp_s53 : State := eb (espk 5 16) kup
def esp_s57 : State := oq sae
def esp_s48 : State := st kup
def esp_s49 : State := st (ws sa0 kup)
def esp_s54 : State := eb (espk 3 16) (ws { sain with highest := 5000 } kup)
def esp_a54 : Sa := { sain with highest := 5000 }
def esp_s55 : State := eb (espk 5 16) (ws sain up)

/-- Hypotheses of QueuePairs (O46, QueuePairsAndRings) are met. -/
theorem witness_QueuePairs :
    (let c : Chip := queuePairs_s3.chip
     let owner : Nat := ownerIn c qpnOf 5
     let q : Qp := qpOf c 5
     let asks : Nat := reqOwner (domainOf c rP)
     5 < 2 ^ 18 ∧ (asks = 253 ∨ owner = asks) ∧ Accepted queuePairs_s3 rP 0x24010 (qm 1 []) ∧ fld (qm 1 []) 0 4 = 5
       ∧ List.length (qm 1 []) = 96 ∧ fld (qm 1 []) 4 1 = 1 ∧ q.state = 0 ∧ initOk c owner (qm 1 []) = true)
    ∧ (let c : Chip := queuePairs_s1.chip
       let q : Qp := qpOf c 5
       let asks : Nat := reqOwner (domainOf c rP)
       let owner : Nat := ownerIn c qpnOf 5
       5 < 2 ^ 18 ∧ (asks = 253 ∨ owner = asks) ∧ Accepted queuePairs_s1 rP 0x24010 (qm 4 []) ∧ fld (qm 4 []) 0 4 = 5
         ∧ List.length (qm 4 []) = 96 ∧ fld (qm 4 []) 4 1 = 4 ∧ 0 < q.state ∧ q.state < 4)
    ∧ (let c : Chip := queuePairs_s4.chip
       let owner : Nat := ownerIn c qpnOf 5
       let q : Qp := qpOf c 5
       let asks : Nat := reqOwner (domainOf c rP)
       5 < 2 ^ 18 ∧ (asks = 253 ∨ owner = asks) ∧ Accepted queuePairs_s4 rP 0x24010 (qm 2 []) ∧ fld (qm 2 []) 0 4 = 5
         ∧ List.length (qm 2 []) = 96 ∧ fld (qm 2 []) 4 1 = 2 ∧ q.state = 1 ∧ rtrOk c owner q (qm 2 []) = true)
    ∧ (let c : Chip := queuePairs_s5.chip
       let q : Qp := qpOf c 5
       let owner : Nat := ownerIn c qpnOf 5
       let asks : Nat := reqOwner (domainOf c rP)
       5 < 2 ^ 18 ∧ (asks = 253 ∨ owner = asks) ∧ Accepted queuePairs_s5 rP 0x24010 (qm 3 []) ∧ fld (qm 3 []) 0 4 = 5
         ∧ List.length (qm 3 []) = 96 ∧ fld (qm 3 []) 4 1 = 3 ∧ q.state = 2 ∧ rtsOk c owner (qm 3 []) = true
         ∧ profileOf c q.plat = none)
    ∧ (let c : Chip := queuePairs_s7.chip
       let owner : Nat := ownerIn c qpnOf 5
       let asks : Nat := reqOwner (domainOf c (rN 3))
       5 < 2 ^ 18 ∧ (asks = 253 ∨ owner = asks) ∧ Accepted queuePairs_s7 (rN 3) 0x24011 (leBytes 4 5)
         ∧ leNat (leBytes 4 5) = 5 ∧ owner < 64)
    ∧ (let c : Chip := queuePairs_s0.chip
       let asks : Nat := reqOwner (domainOf c rP)
       let owner : Nat := ownerIn c qpnOf 5
       5 < 2 ^ 18 ∧ (asks = 253 ∨ owner = asks) ∧ Accepted queuePairs_s0 rP 0x24010 (qm 0 []) ∧ fld (qm 0 []) 0 4 = 5
         ∧ List.length (qm 0 []) = 96 ∧ fld (qm 0 []) 4 1 = 0 ∧ 0 ≠ 5)
    ∧ (let c : Chip := queuePairs_s2.chip
       let q : Qp := qpOf c 5
       let asks : Nat := reqOwner (domainOf c rP)
       let owner : Nat := ownerIn c qpnOf 5
       5 < 2 ^ 18 ∧ (asks = 253 ∨ owner = asks) ∧ Accepted queuePairs_s2 rP 0x24010 (qm 4 []) ∧ fld (qm 4 []) 0 4 = 5
         ∧ List.length (qm 4 []) = 96 ∧ fld (qm 4 []) 4 1 = 4 ∧ q.state = 4)
    ∧ (let c : Chip := queuePairs_s6.chip
       let q : Qp := qpOf c 5
       let asks : Nat := reqOwner (domainOf c rP)
       let owner : Nat := ownerIn c qpnOf 5
       5 < 2 ^ 18 ∧ (asks = 253 ∨ owner = asks) ∧ Accepted queuePairs_s6 rP 0x24010 (qm 1 []) ∧ fld (qm 1 []) 0 4 = 5
         ∧ List.length (qm 1 []) = 96 ∧ fld (qm 1 []) 4 1 ≠ 0 ∧ fld (qm 1 []) 4 1 ≠ 4 ∧ q.state + 1 ≠ fld (qm 1 []) 4 1) := by
  refine ⟨?_, ?_, ?_, ?_, ?_, ?_, ?_, ?_⟩ <;> decide +kernel +zetaReduce

/-- Hypotheses of RingsAndRegions (O46, QueuePairsAndRings) are met. -/
theorem witness_RingsAndRegions :
    (let c : Chip := ringsAndRegions_s8.chip
     let n : Nat := fld cqa 0 2
     let own : Nat := reqOwner (domainOf c rP)
     Accepted ringsAndRegions_s8 rP 0x24012 cqa ∧ ownsNum c cqnOf own n = true ∧ 6 ≤ fld cqa 2 1 ∧ fld cqa 2 1 ≤ 15
       ∧ fld cqa 3 1 = 0 ∧ fld cqa 6 2 = 0 ∧ (fld cqa 4 2 < if own < 64 then 128 else 1024) ∧ cqOf c n = none)
    ∧ (let c : Chip := ringsAndRegions_s9.chip
       let n : Nat := fld (setFld cqa 0 2 7) 0 2
       let own : Nat := reqOwner (domainOf c rP)
       Accepted ringsAndRegions_s9 rP 0x24012 (setFld cqa 0 2 7) ∧ ownsNum c cqnOf own n = true
         ∧ 6 ≤ fld (setFld cqa 0 2 7) 2 1 ∧ fld (setFld cqa 0 2 7) 2 1 ≤ 15 ∧ fld (setFld cqa 0 2 7) 3 1 = 0
         ∧ fld (setFld cqa 0 2 7) 6 2 = 0 ∧ (fld (setFld cqa 0 2 7) 4 2 < if own < 64 then 128 else 1024)
         ∧ cqOf c n = some ringsAndRegions_q9)
    ∧ (let c : Chip := ringsAndRegions_s10.chip
       let own : Nat := reqOwner (domainOf c rP)
       Accepted ringsAndRegions_s10 rP 0x24013 (leBytes 2 7) ∧ ownsNum c cqnOf own (leNat (leBytes 2 7)) = true
         ∧ cqOf c (leNat (leBytes 2 7)) = some ringsAndRegions_q10 ∧ feeders c (leNat (leBytes 2 7)) ≠ [])
    ∧ (let c : Chip := ringsAndRegions_s11.chip
       let own : Nat := reqOwner (domainOf c rP)
       Accepted ringsAndRegions_s11 rP 0x24013 (leBytes 2 7) ∧ ownsNum c cqnOf own (leNat (leBytes 2 7)) = true
         ∧ cqOf c (leNat (leBytes 2 7)) = some ringsAndRegions_q11 ∧ feeders c (leNat (leBytes 2 7)) = []
         ∧ nqFeeders c (leNat (leBytes 2 7)) = [] ∧ cqOfDispatch c (leNat (leBytes 2 7)) = false)
    ∧ (let c : Chip := ringsAndRegions_s12.chip
       let i : Nat := fld mra 0 4 / 256
       let own : Nat := reqOwner (domainOf c rP)
       Accepted ringsAndRegions_s12 rP 0x24014 mra ∧ i < 2 ^ 20 ∧ ownsNum c mrnOf own i = true ∧ fld mra 4 4 = 0
         ∧ 0 < fld mra 16 4 ∧ fld mra 16 4 ≤ 0x10000000 ∧ fld mra 20 1 ≤ 7 ∧ fld mra 21 1 ≤ 3 ∧ fld mra 22 2 = 0
         ∧ tget? c.rdma.mrs i = none)
    ∧ (let c : Chip := ringsAndRegions_s13.chip
       let own : Nat := reqOwner (domainOf c rP)
       Accepted ringsAndRegions_s13 rP 0x24015 (leBytes 4 1285) ∧ tget? c.rdma.mrs (leNat (leBytes 4 1285) / 256) = some m0
         ∧ m0.plat = own ∧ m0.rkey = leNat (leBytes 4 1285))
    ∧ (let c : Chip := ringsAndRegions_s14.chip
       Accepted ringsAndRegions_s14 rP 0x24015 (leBytes 4 1286) ∧ tget? c.rdma.mrs (leNat (leBytes 4 1286) / 256) = some m0
         ∧ m0.rkey ≠ leNat (leBytes 4 1286)) := by
  refine ⟨?_, ?_, ?_, ?_, ?_, ?_, ?_⟩ <;> decide +kernel +zetaReduce

/-- Hypotheses of RdmaDoorbells (O46, QueuePairsAndRings) are met. -/
theorem witness_RdmaDoorbells :
    (let c : Chip := rdmaDoorbells_s16.chip
     let q : Qp := qpOf c 5
     Rings rdmaDoorbells_s16 0 253 ∧ 5 < 2 ^ 18 ∧ 1000 < 0x10000 ∧ q.state ≠ 0 ∧ q.state ≠ 4 ∧ q.plat = 253
       ∧ loadHolds c 5 = false ∧ 2 ^ qSqLog q < idxSub 1000 q.sqCons ∧ 2 ^ qRqLog q < idxSub 1000 q.rqCons)
    ∧ (let c : Chip := rdmaDoorbells_s18.chip
       let q : Qp := qpOf c 7
       Rings rdmaDoorbells_s18 0 253 ∧ 7 < 2 ^ 18 ∧ 3 < 0x10000 ∧ (q.state = 0 ∨ q.plat ≠ 253) ∧ 7 < 0x10000
         ∧ cqOf c 7 = some cq7 ∧ cq7.owner = 253)
    ∧ (let c : Chip := rdmaDoorbells_s15.chip
       let q : Qp := qpOf c 5
       Rings rdmaDoorbells_s15 0 253 ∧ 5 < 2 ^ 18 ∧ 3 < 0x10000 ∧ q.state ≠ 0 ∧ q.state ≠ 4 ∧ q.plat = 253
         ∧ loadHolds c 5 = false ∧ idxSub 3 q.sqCons ≤ 2 ^ qSqLog q ∧ idxSub 3 q.rqCons ≤ 2 ^ qRqLog q) := by
  refine ⟨?_, ?_, ?_⟩ <;> decide +kernel +zetaReduce

/-- Hypotheses of SendRequests (O47, SendsAndTimers) are met. -/
theorem witness_SendRequests :
    (let b : Bytes := (xr (wr 1 [(4, 4, 0)]) qp0).bytes
     let rows : List (Nat × Instr) := [(0, Instr.send 5), (1, Instr.wrWrite 5), (2, Instr.writeImm 5), (3, Instr.wrRead 5),
         (4, Instr.fetchAdd 5), (5, Instr.cmpSwap 5), (8, Instr.relaxedWrite 5), (9, Instr.relaxedFinal 5), (16,
         Instr.rawSend 5)]
     let c : Chip := sendRequests_s20.chip
     let q : Qp := qpOf c 5
     let e : Nat := qEgress (xr (wr 1 [(4, 4, 0)]) qp0).s q
     let sub : Nat := gSub (xr (wr 1 [(4, 4, 0)]) qp0).s (qGroup (xr (wr 1 [(4, 4, 0)]) qp0).s e)
     let frameLen : Nat → Nat := fun n => wireLen (xr (wr 1 [(4, 4,
         0)]) qp0).s (qSub q) (isV4 (slice q.cfg 48 16)) (qOutSa q).isSome n
     (qpOf sendRequests_s20.chip 5).state = 3 ∧ (qpOf sendRequests_s20.chip 5).sqCons ≠ (qpOf sendRequests_s20.chip 5).sqProd
       ∧ (qpOf sendRequests_s20.chip 5).rnrUntil = none ∧ (xr (wr 1 [(4, 4, 0)]) qp0).s.rdma = c.rdma ∧ (xr (wr 1 [(4, 4,
       0)]) qp0).st = 0 ∧ wrBad (xr (wr 1 [(4, 4, 0)]) qp0).s q q.sqCons b = false ∧ (0, Instr.send 5) ∈ rows ∧ (0,
       Instr.send 5).1 ≠ wOp b ∧ (1, Instr.wrWrite 5) ∈ rows ∧ (1, Instr.wrWrite 5).1 = wOp b ∧ mustWait q b = false ∧ (1,
       Instr.wrWrite 5).1 ≠ 16 ∧ (1, Instr.wrWrite 5).1 = 1 ∧ q.sent = [] ∧ wLen b = 0 ∧ qRoom (xr (wr 1 [(4, 4,
       0)]) qp0).s e (frameLen 31) = true ∧ subExists (xr (wr 1 [(4, 4, 0)]) qp0).s sub = true)
    ∧ (let rows : List (Nat × Instr) := [(0, Instr.send 5), (1, Instr.wrWrite 5), (2, Instr.writeImm 5), (3, Instr.wrRead 5),
           (4, Instr.fetchAdd 5), (5, Instr.cmpSwap 5), (8, Instr.relaxedWrite 5), (9, Instr.relaxedFinal 5), (16,
           Instr.rawSend 5)]
       let c : Chip := sendRequests_s22.chip
       let q : Qp := qpOf c 5
       let b : Bytes := (xr (wr 1 [(0, 1, 7)]) qp0).bytes
       (qpOf sendRequests_s22.chip 5).state = 3
         ∧ (qpOf sendRequests_s22.chip 5).sqCons ≠ (qpOf sendRequests_s22.chip 5).sqProd
         ∧ (qpOf sendRequests_s22.chip 5).rnrUntil = none ∧ (xr (wr 1 [(0, 1, 7)]) qp0).s.rdma = c.rdma ∧ (xr (wr 1 [(0, 1,
         7)]) qp0).st = 0 ∧ wrBad (xr (wr 1 [(0, 1, 7)]) qp0).s q q.sqCons b = true ∧ q.sent = [] ∧ (0, Instr.send 5) ∈ rows)
    ∧ (let c : Chip := sendRequests_s23.chip
       let q : Qp := qpOf c 5
       let b : Bytes := sendRequests_x23.bytes
       let rows : List (Nat × Instr) := [(0, Instr.send 5), (1, Instr.wrWrite 5), (2, Instr.writeImm 5), (3, Instr.wrRead 5),
           (4, Instr.fetchAdd 5), (5, Instr.cmpSwap 5), (8, Instr.relaxedWrite 5), (9, Instr.relaxedFinal 5), (16,
           Instr.rawSend 5)]
       let y : Xfer := xferRead sendRequests_x23.s (agentOf q.plat) (fld b 16 8) (wLen b) (bits (fld b 3 1) 3 2) 0 uRdma { lo := 0, hi := fld b 16 8 + wLen b, reach := Reach.any }
       let e : Nat := qEgress sendRequests_x23.s q
       (qpOf sendRequests_s23.chip 5).state = 3
         ∧ (qpOf sendRequests_s23.chip 5).sqCons ≠ (qpOf sendRequests_s23.chip 5).sqProd
         ∧ (qpOf sendRequests_s23.chip 5).rnrUntil = none ∧ sendRequests_x23.s.rdma = c.rdma ∧ sendRequests_x23.st = 0
         ∧ wrBad sendRequests_x23.s q q.sqCons b = false ∧ (16, Instr.rawSend 5) ∈ rows ∧ (16, Instr.rawSend 5).1 = wOp b
         ∧ mustWait q b = false ∧ (16, Instr.rawSend 5).1 = 16 ∧ y.st = 0 ∧ q.sent = [] ∧ bit (fld b 3 1) 0 = false
         ∧ qRoom sendRequests_x23.s e (wLen b + 4) = true ∧ max 64 (wLen b + 4) ≤ qLimit y.s e
         ∧ subExists y.s (gSub y.s (qGroup y.s e)) = true)
    ∧ (let c : Chip := sendRequests_s21.chip
       let q : Qp := qpOf c 5
       let b : Bytes := sendRequests_x21.bytes
       let rows : List (Nat × Instr) := [(0, Instr.send 5), (1, Instr.wrWrite 5), (2, Instr.writeImm 5), (3, Instr.wrRead 5),
           (4, Instr.fetchAdd 5), (5, Instr.cmpSwap 5), (8, Instr.relaxedWrite 5), (9, Instr.relaxedFinal 5), (16,
           Instr.rawSend 5)]
       (qpOf sendRequests_s21.chip 5).state = 3
         ∧ (qpOf sendRequests_s21.chip 5).sqCons ≠ (qpOf sendRequests_s21.chip 5).sqProd
         ∧ (qpOf sendRequests_s21.chip 5).rnrUntil = none ∧ sendRequests_x21.s.rdma = c.rdma ∧ sendRequests_x21.st = 0
         ∧ wrBad sendRequests_x21.s q q.sqCons b = false ∧ (1, Instr.wrWrite 5) ∈ rows ∧ (1, Instr.wrWrite 5).1 = wOp b
         ∧ mustWait q b = true)
    ∧ (let c : Chip := fullS.chip
       let q : Qp := qpOf c 5
       let b : Bytes := fullX.bytes
       let rows : List (Nat × Instr) := [(0, Instr.send 5), (1, Instr.wrWrite 5), (2, Instr.writeImm 5), (3, Instr.wrRead 5),
           (4, Instr.fetchAdd 5), (5, Instr.cmpSwap 5), (8, Instr.relaxedWrite 5), (9, Instr.relaxedFinal 5), (16,
           Instr.rawSend 5)]
       (qpOf fullS.chip 5).state = 3 ∧ (qpOf fullS.chip 5).sqCons ≠ (qpOf fullS.chip 5).sqProd
         ∧ (qpOf fullS.chip 5).rnrUntil = none ∧ fullX.s.rdma = c.rdma ∧ fullX.st = 0 ∧ wrBad fullX.s q q.sqCons b = false
         ∧ (1, Instr.wrWrite 5) ∈ rows ∧ (1, Instr.wrWrite 5).1 = wOp b ∧ mustWait q b = false ∧ (1, Instr.wrWrite 5).1 ≠ 16
         ∧ (1, Instr.wrWrite 5).1 < 8 ∧ q.sent = [] ∧ (∀ n ≤ 12 + 32 + qMtu q + 3, 15 ≤ n → packetRoom fullX.s q n = false)) := by
  refine ⟨?_, ?_, ?_, ?_, ?_⟩ <;> decide +kernel +zetaReduce

/-- Operands that SendRequests (O47, SendsAndTimers) defines by an equation. -/
theorem witness_SendRequests_operands :
    (let c : Chip := sendRequests_s20.chip
     let q : Qp := qpOf c 5
     xr (wr 1 [(4, 4, 0)]) qp0 = qpFetch c q (qSqBase q) (qSqLog q) q.sqCons)
    ∧ (let c : Chip := sendRequests_s22.chip
       let q : Qp := qpOf c 5
       xr (wr 1 [(0, 1, 7)]) qp0 = qpFetch c q (qSqBase q) (qSqLog q) q.sqCons)
    ∧ (let c : Chip := sendRequests_s23.chip
       let q : Qp := qpOf c 5
       sendRequests_x23 = qpFetch c q (qSqBase q) (qSqLog q) q.sqCons)
    ∧ (let c : Chip := sendRequests_s21.chip
       let q : Qp := qpOf c 5
       sendRequests_x21 = qpFetch c q (qSqBase q) (qSqLog q) q.sqCons)
    ∧ (let c : Chip := fullS.chip
       let q : Qp := qpOf c 5
       fullX = qpFetch c q (qSqBase q) (qSqLog q) q.sqCons) := by
  refine ⟨?_, ?_, ?_, ?_, ?_⟩ <;> first | rfl | decide +kernel +zetaReduce

/-- Hypotheses of RdmaTimers (O47, SendsAndTimers) are met. -/
theorem witness_RdmaTimers :
    (let c : Chip := rdmaTimers_s28.chip
     let q : Qp := qpOf c 5
     let now : Nat := nowNs c
     q.state = 3 ∧ inFlight q = true ∧ q.rnrUntil = none ∧ q.progress + qTimeout q ≤ now ∧ profileOf c q.plat = some 1
       ∧ q.nextInterval ≤ now ∧ q.pace = some 0x4000 ∧ q.samples = [])
    ∧ (let c : Chip := rdmaTimers_s25.chip
       let q : Qp := qpOf c 5
       let now : Nat := nowNs c
       q.state = 3 ∧ inFlight q = true ∧ q.rnrUntil = none ∧ q.progress + qTimeout q ≤ now ∧ profileOf c q.plat = none
         ∧ q.retries = 0)
    ∧ (let c : Chip := rdmaTimers_s31.chip
       let q : Qp := qpOf c 5
       let l : Loop := tget { nextInterval := 0, yielded := false, told := false, above := 0 } c.rdma.loops 9
       let now : Nat := nowNs c
       (List.find? (fun p => bit (prof c p 34 1) 0 && prof c p 32 2 == 9) (List.range 16) = some 1) ∧ 9 < 0x8000
         ∧ bit (fld (shaperRec c 9) 0 1) 2 = true ∧ l.nextInterval ≤ now ∧ loopQps c 9 = [5] ∧ q.samples = [100])
    ∧ (let c : Chip := rdmaTimers_s32.chip
       let q : Qp := qpOf c 5
       let now : Nat := nowNs c
       q.state = 3 ∧ inFlight q = true ∧ q.rnrUntil = none ∧ q.progress + qTimeout q ≤ now ∧ profileOf c q.plat = none
         ∧ 0 < q.retries ∧ 0 < q.unacked ∧ q.ackAt + 2000 ≤ now ∧ (q.state = 2 ∨ q.state = 3))
    ∧ (let c : Chip := rdmaTimers_s27.chip
       let now : Nat := nowNs c
       let q : Qp := qpOf c 5
       q.state = 3 ∧ q.rnrUntil = some 5 ∧ 5 ≤ now)
    ∧ (let c : Chip := rdmaTimers_s30.chip
       let l : Loop := tget { nextInterval := 0, yielded := false, told := false, above := 0 } c.rdma.loops 9
       let now : Nat := nowNs c
       (List.find? (fun p => bit (prof c p 34 1) 0 && prof c p 32 2 == 9) (List.range 16) = some 1) ∧ 9 < 0x8000
         ∧ bit (fld (shaperRec c 9) 0 1) 2 = true ∧ l.nextInterval ≤ now ∧ loopQps c 9 = [])
    ∧ (let c : Chip := rdmaTimers_s29.chip
       let q : Qp := qpOf c 5
       let now : Nat := nowNs c
       q.state = 3 ∧ profileOf c q.plat = some 1 ∧ q.nextInterval ≤ now ∧ q.pace = some 0x4000 ∧ q.samples = [100]
         ∧ q.yielded = false ∧ 100 ≤ prof c 1 20 4 ∧ 100 < prof c 1 28 4) := by
  refine ⟨?_, ?_, ?_, ?_, ?_, ?_, ?_⟩ <;> decide +kernel +zetaReduce

/-- Hypotheses of Responder (O48, ResponderAndAnswers) are met. -/
theorem witness_Responder :
    (let psn : Nat := bthPsn (pkt 10 0 wbody).data
     let q : Qp := qpOf responder_s33.chip 5
     let op : Nat := bthOp (pkt 10 0 wbody).data
     let body : Bytes := bthBody (pkt 10 0 wbody).data
     Arrives responder_s33 (pkt 10 0 wbody) 5 responder_y33 ∧ isAnswerOp op = false ∧ op ≠ 129 ∧ op ≠ 192 ∧ op ≠ 193
       ∧ psn = q.expPsn ∧ op = 10 ∧ q.rx = none ∧ q.placed = [] ∧ List.length body = 16 + be body 12 4 ∧ 0 < be body 12 4
       ∧ be body 12 4 ≤ qMtu q ∧ regionFor responder_y33 q (be body 8 4) (be body 0 8) (be body 12 4) 1 = (some m0,
       responder_z33) ∧ (x1 (pkt 10 0 wbody) qp0).st = 0 ∧ (x1 (pkt 10 0 wbody) qp0).s.rdma = responder_y33.rdma)
    ∧ (let q : Qp := qpOf responder_s38.chip 5
       let psn : Nat := bthPsn (pkt 193 0 rbody).data
       let op : Nat := bthOp (pkt 193 0 rbody).data
       let body : Bytes := bthBody (pkt 193 0 rbody).data
       Arrives responder_s38 (pkt 193 0 rbody) 5 responder_y38 ∧ (op = 192 ∨ op = 193) ∧ q.relaxed = true
         ∧ q.placed.contains psn = false ∧ (psn = q.expPsn ∨ psnLe psn q.expPsn = false) ∧ psnSub psn q.expPsn < 256
         ∧ q.finals = [] ∧ op = 193 ∧ 24 < List.length body ∧ be body 12 4 = List.length body - 24 ∧ be body 12 4 ≤ qMtu q
         ∧ regionFor responder_y38 q (be body 8 4) (be body 0 8) (be body 12 4) 1 = (some m0, responder_z38))
    ∧ (let q : Qp := qpOf responder_s34.chip 5
       let psn : Nat := bthPsn (pkt 10 3 wbody).data
       let op : Nat := bthOp (pkt 10 3 wbody).data
       Arrives responder_s34 (pkt 10 3 wbody) 5 responder_y34 ∧ isAnswerOp op = false ∧ op ≠ 129 ∧ op ≠ 192 ∧ op ≠ 193
         ∧ psn ≠ q.expPsn ∧ psnLe psn q.expPsn = false ∧ q.placed.contains psn = false ∧ q.nakSent = false)
    ∧ (let q : Qp := qpOf responder_s35.chip 5
       let psn : Nat := bthPsn (pkt 10 3 wbody).data
       let op : Nat := bthOp (pkt 10 3 wbody).data
       Arrives responder_s35 (pkt 10 3 wbody) 5 responder_y35 ∧ isAnswerOp op = false ∧ op ≠ 129 ∧ op ≠ 192 ∧ op ≠ 193
         ∧ psn ≠ q.expPsn ∧ psnLe psn q.expPsn = false ∧ q.placed.contains psn = false ∧ q.nakSent = true)
    ∧ (let psn : Nat := bthPsn (pkt 10 3 wbody).data
       let q : Qp := qpOf responder_s36.chip 5
       let op : Nat := bthOp (pkt 10 3 wbody).data
       Arrives responder_s36 (pkt 10 3 wbody) 5 responder_y36 ∧ isAnswerOp op = false ∧ op ≠ 129 ∧ op ≠ 192 ∧ op ≠ 193
         ∧ psn ≠ q.expPsn ∧ (psnLe psn q.expPsn = true ∨ q.placed.contains psn = true))
    ∧ (let q : Qp := qpOf responder_s37.chip 5
       let op : Nat := bthOp (pkt 193 0 rbody).data
       Arrives responder_s37 (pkt 193 0 rbody) 5 responder_y37 ∧ (op = 192 ∨ op = 193) ∧ q.relaxed = false)
    ∧ (let psn : Nat := bthPsn (pkt 193 900 rbody).data
       let q : Qp := qpOf responder_s39.chip 5
       let op : Nat := bthOp (pkt 193 900 rbody).data
       Arrives responder_s39 (pkt 193 900 rbody) 5 responder_y39 ∧ (op = 192 ∨ op = 193) ∧ q.relaxed = true
         ∧ q.placed.contains psn = false ∧ (psn = q.expPsn ∨ psnLe psn q.expPsn = false) ∧ 256 ≤ psnSub psn q.expPsn)
    ∧ (let q : Qp := qpOf responder_s40.chip 5
       let psn : Nat := bthPsn (pkt 193 9 rbody).data
       let op : Nat := bthOp (pkt 193 9 rbody).data
       Arrives responder_s40 (pkt 193 9 rbody) 5 responder_y40 ∧ (op = 192 ∨ op = 193) ∧ q.relaxed = true
         ∧ q.placed.contains psn = true) := by
  refine ⟨?_, ?_, ?_, ?_, ?_, ?_, ?_, ?_⟩ <;> decide +kernel +zetaReduce

/-- Operands that Responder (O48, ResponderAndAnswers) defines by an equation. -/
theorem witness_Responder_operands :
    (let q : Qp := qpOf responder_s33.chip 5
     let body : Bytes := bthBody (pkt 10 0 wbody).data
     x1 (pkt 10 0 wbody) qp0 = xferWrite responder_z33 (agentOf q.plat) (be body 0 8) (List.drop 16 body) m0.hint 0 uRdma (mrBound m0)) := by
  first | rfl | decide +kernel +zetaReduce

/-- Hypotheses of FinalsAndAnswers (O48, ResponderAndAnswers) are met. -/
theorem witness_FinalsAndAnswers :
    (let c : Chip := finalsAndAnswers_s47.chip
     let q : Qp := qpOf c 5
     Arrives finalsAndAnswers_s47 f81 5 finalsAndAnswers_y47 ∧ bthOp f81.data = 129 ∧ q.ecn = true ∧ q.state = 3
       ∧ q.cnpInInterval = false ∧ profileOf c q.plat = some 1 ∧ profShaper c q.plat = none)
    ∧ (let syn : Nat := be (bthBody (pkt 17 0 [31, 0, 0, 1]).data) 0 1
       let c : Chip := finalsAndAnswers_s43.chip
       let q : Qp := qpOf c 5
       let psn : Nat := bthPsn (pkt 17 0 [31, 0, 0, 1]).data
       Arrives finalsAndAnswers_s43 (pkt 17 0 [31, 0, 0, 1]) 5 finalsAndAnswers_y43 ∧ bthOp (pkt 17 0 [31, 0, 0,
         1]).data = 17 ∧ q.state = 3 ∧ syn / 32 % 4 = 0 ∧ ackNew q psn = true)
    ∧ (let c : Chip := finalsAndAnswers_s44.chip
       let q : Qp := qpOf c 5
       let psn : Nat := bthPsn f62.data
       let syn : Nat := be (bthBody f62.data) 0 1
       Arrives finalsAndAnswers_s44 f62 5 finalsAndAnswers_y44 ∧ bthOp f62.data = 17 ∧ q.state = 3 ∧ syn = 98
         ∧ ackNew q (psnAdd psn (2 ^ 24 - 1)) = false ∧ q.sent = [])
    ∧ (let c : Chip := finalsAndAnswers_s45.chip
       let q : Qp := qpOf c 5
       Arrives finalsAndAnswers_s45 f62 5 finalsAndAnswers_y45 ∧ bthOp f62.data = 17 ∧ q.state = 2)
    ∧ (let c : Chip := finalsAndAnswers_s46.chip
       let q : Qp := qpOf c 5
       Arrives finalsAndAnswers_s46 f81 5 finalsAndAnswers_y46 ∧ bthOp f81.data = 129 ∧ q.ecn = false)
    ∧ (let c : Chip := finalsAndAnswers_s41.chip
       let q : Qp := qpOf c 5
       let q' : Qp := { q with finals := q.finals.erase h0 }
       List.find? (groupPlaced q) q.finals = some h0 ∧ h0.data ≠ []
         ∧ regionFor c q' h0.rkey h0.addr (List.length h0.data) 1 = (some m0, finalsAndAnswers_z41) ∧ (fx qf).st = 0
         ∧ qFinal q = 0xffff)
    ∧ (let c : Chip := finalsAndAnswers_s42.chip
       let q : Qp := qpOf c 5
       let q' : Qp := { q with finals := q.finals.erase h0 }
       List.find? (groupPlaced q) q.finals = some h0 ∧ h0.data ≠ []
         ∧ regionFor c q' h0.rkey h0.addr (List.length h0.data) 1 = (some m0, finalsAndAnswers_z42) ∧ (fx qf2).st = 0
         ∧ qFinal q ≠ 0xffff) := by
  refine ⟨?_, ?_, ?_, ?_, ?_, ?_, ?_⟩ <;> decide +kernel +zetaReduce

/-- Operands that FinalsAndAnswers (O48, ResponderAndAnswers) defines by an equation. -/
theorem witness_FinalsAndAnswers_operands :
    (let c : Chip := finalsAndAnswers_s41.chip
     let q : Qp := qpOf c 5
     fx qf = xferWrite finalsAndAnswers_z41 (agentOf q.plat) h0.addr h0.data m0.hint 0 uRdma (mrBound m0))
    ∧ (let c : Chip := finalsAndAnswers_s42.chip
       let q : Qp := qpOf c 5
       fx qf2 = xferWrite finalsAndAnswers_z42 (agentOf q.plat) h0.addr h0.data m0.hint 0 uRdma (mrBound m0)) := by
  refine ⟨?_, ?_⟩ <;> first | rfl | decide +kernel +zetaReduce

/-- Hypotheses of Esp (O49) are met. -/
theorem witness_EspChecksAndNumbers :
    (let c : Chip := esp_s56.chip
     let own : Nat := reqOwner (domainOf c rP)
     Accepted esp_s56 rP 0x25011 (leBytes 4 5) ∧ ownsNum c sanOf own (leNat (leBytes 4 5)) = true
       ∧ tget? c.rdma.sas (leNat (leBytes 4 5)) = some sa0 ∧ (List.find? (fun f => f.sa.isSome) (qFrames c 3) = some eg)
       ∧ eg.sa = some 5 ∧ tget? c.rdma.sas 5 = some sa0 ∧ sa0.stopped = false ∧ saOut sa0 = true ∧ sa0.next < 2 ^ 64
       ∧ keyCheck c sa0.owner (saSlot sa0) (saGen sa0) 0 = 0)
    ∧ (let c : Chip := esp_s52.chip
       let d : Bytes := (ef (espk 5 16)).data
       let seq : Nat := be d 8 8
       let held : Option (Nat × Sa) := List.find? (fun a => !saOut a.2 && !a.2.stopped && saSpi a.2 == be d 0 4) c.rdma.sas
       (List.find? (fun f => f.cls == 4) c.net.buffer = some (ef (espk 5 16))) ∧ held = some (5, sain) ∧ 32 ≤ List.length d
         ∧ replayOk sain seq = true ∧ keyCheck c sain.owner (saSlot sain) (saGen sain) 0 = 0)
    ∧ (let c : Chip := esp_s53.chip
       let own : Nat := reqOwner (domainOf c rP)
       let d : Bytes := (ef (espk 5 16)).data
       let held : Option (Nat × Sa) := List.find? (fun a => !saOut a.2 && !a.2.stopped && saSpi a.2 == be d 0 4) c.rdma.sas
       Accepted esp_s53 rP 0x25011 (leBytes 4 5) ∧ ownsNum c sanOf own (leNat (leBytes 4 5)) = true
         ∧ tget? c.rdma.sas (leNat (leBytes 4 5)) = none
         ∧ (List.find? (fun f => f.cls == 4) c.net.buffer = some (ef (espk 5 16))) ∧ held = none)
    ∧ (let c : Chip := esp_s57.chip
       (List.find? (fun f => f.sa.isSome) (qFrames c 3) = some eg) ∧ eg.sa = some 5 ∧ tget? c.rdma.sas 5 = some sae
         ∧ sae.stopped = false ∧ saOut sae = true ∧ 2 ^ 64 ≤ sae.next)
    ∧ (let c : Chip := esp_s48.chip
       let n : Nat := fld saa 0 4
       let own : Nat := reqOwner (domainOf c rP)
       Accepted esp_s48 rP 0x25010 saa ∧ n < 0x10000 ∧ ownsNum c sanOf own n = true ∧ espKeyOk c own (fld saa 10 2) = true
         ∧ fld saa 8 1 = 1 ∧ fld saa 9 1 = 0 ∧ fld saa 20 4 = 0 ∧ isZero (slice saa 48 16) = true
         ∧ (own < 64 ∨ fld saa 14 2 < 0x4000 ∨ fld saa 14 2 = 0xffff) ∧ tget? c.rdma.sas n = none)
    ∧ (let c : Chip := esp_s49.chip
       let n : Nat := fld saa 0 4
       let own : Nat := reqOwner (domainOf c rP)
       Accepted esp_s49 rP 0x25010 saa ∧ n < 0x10000 ∧ ownsNum c sanOf own n = true ∧ espKeyOk c own (fld saa 10 2) = true
         ∧ fld saa 8 1 = 1 ∧ fld saa 9 1 = 0 ∧ fld saa 20 4 = 0 ∧ isZero (slice saa 48 16) = true
         ∧ (own < 64 ∨ fld saa 14 2 < 0x4000 ∨ fld saa 14 2 = 0xffff) ∧ tget? c.rdma.sas n = some sa0)
    ∧ (let d : Bytes := (ef (espk 3 16)).data
       let seq : Nat := be d 8 8
       let c : Chip := esp_s54.chip
       let held : Option (Nat × Sa) := List.find? (fun a => !saOut a.2 && !a.2.stopped && saSpi a.2 == be d 0 4) c.rdma.sas
       (List.find? (fun f => f.cls == 4) c.net.buffer = some (ef (espk 3 16))) ∧ held = some (5, esp_a54)
         ∧ replayOk esp_a54 seq = false)
    ∧ (let c : Chip := esp_s55.chip
       let d : Bytes := (ef (espk 5 16)).data
       let seq : Nat := be d 8 8
       let held : Option (Nat × Sa) := List.find? (fun a => !saOut a.2 && !a.2.stopped && saSpi a.2 == be d 0 4) c.rdma.sas
       (List.find? (fun f => f.cls == 4) c.net.buffer = some (ef (espk 5 16))) ∧ held = some (5, sain) ∧ 32 ≤ List.length d
         ∧ replayOk sain seq = true ∧ keyCheck c sain.owner (saSlot sain) (saGen sain) 0 ≠ 0) := by
  refine ⟨?_, ?_, ?_, ?_, ?_, ?_, ?_, ?_⟩ <;> decide +kernel +zetaReduce

end Part17

/-! ### Storage -/

namespace Part18

def sto (f : Storage → Storage) (c : Chip) : Chip := { c with storage := f c.storage }
def W (o : Nat) : Wb := { wb0 (wbr 6 o 6 0 8 0x40000) (nsr 3 1) with stage := 1, seq := 6 }
def rcq : Cq := ⟨0xFD,6,1,0x20000,0,0,false⟩
def opn (c : Chip) : Chip := withB c [(0x08020,1,leBytes 8 0 ++ leBytes 8 0x100000)]
def cqs (c : Chip) : Chip := { c with rdma := { c.rdma with cqs := [(2, rcq)] } }
def sqa : Bytes := mk 24 [(0,2,8),(2,1,6),(4,2,2)]
def W2 : Wb := { W 1 with stage := 2 }
def sdb : Chip := hst (devW (opn (withSto up 0xFD 1 [])) 0 (setFld (wbr 0 1 5 0 8 0x40000) 0 2 0))
def sy (t : Nat) : Chip := setNq sdb 9 { nq 0xFD [] with tail := t }
def sx : Xfer := xferRead (sy 1) (agentOf 0xFD) 0 64 0 0 uStorage Bound.free
def ws (o fl bk : Nat) (l : List (Nat × Nat × Nat)) : State := let w := { W o with ns := nsr 0xFD fl }; st (withOd (opn { withSto up 0xFD fl [w] with sec := { up.sec with slots := [(1029, ⟨1, zeros 32, 2, 7, 0⟩)] } }) ((0x30033,1,bk) :: (0x04050,1,0xFD) :: l))
def wv (o fl : Nat) : Wb := { W o with ns := nsr 0xFD fl }
def X0 (o fl : Nat) : Xfer := segRead (ws o fl 2 []).chip (wbAgent (ws o fl 2 []).chip 9) (wbHint (wv o fl).b) (wbSegs (wv o fl))
def kx (o : Nat) : Wb := { W o with ns := setFld (setFld (nsr 0xFD 3) 24 2 1029) 26 2 7 }
def wk (o : Nat) : State := let s := ws o 3 2 []; st (sto (fun t => { t with queues := [(9, nq 0xFD [kx o])] }) s.chip)
def XK (o : Nat) : Xfer := segRead (wk o).chip (wbAgent (wk o).chip 9) (wbHint (kx o).b) (wbSegs (kx o))
def wu : Wb := { wv 2 1 with b := wbr 6 2 6 0 8 0x900000 }
def su : State := st (sto (fun t => { t with queues := [(9, nq 0xFD [wu])] }) (ws 2 1 2 []).chip)
def XU : Xfer := segRead su.chip (wbAgent su.chip 9) (wbHint wu.b) (wbSegs wu)
def we (o g : Nat) : State := let w := { wv o 1 with stage := g, b := setFld (wbr 6 o 6 0 8 0x40000) 28 2 0xFFFF }; st (cqs (sto (fun t => { t with queues := [(9, nq 0xFD [w])] }) (ws o 1 2 []).chip))
def ww (o g : Nat) : Wb := { wv o 1 with stage := g, b := setFld (wbr 6 o 6 0 8 0x40000) 28 2 0xFFFF }
def beS (l : List (Nat × Nat × Nat)) (f : Chip → Chip) : State := st (f (withOd up l))
def ns1 : List (Nat × Nat × Nat) := [(1,9,1000)]
def wp (a : Option Nat) : Wb := { W2 with ns := setFld (nsr 0xFD 1) 3 1 2, since := 5, abortAt := a }
def bw (a : Option Nat) : State := beS [(0x30022,3,2),(0x11021,3,2),
  (0x30020,0,10)] (fun c => sto (fun t => { t with queues := [(9, nq 0xFD [wp a])] }) { c with tb := { c.tb with ns := 2000000000 } })
def rmr (s : Nat) : State := let c := withB (withOd up [(0x30033,2,s)]) [(0x30030,2,mk 32 [(0,4,1),(4,4,2),(8,1,1),(12,4,1000)])]; st { c with rdma := { c.rdma with qps := [(1, { Qp.off with state := 3, plat := 0xFD }),(2, { Qp.off with state := 3, plat := 0xFD })] } }
def nvc (f : NvCtl → NvCtl) : State := let c := withB (withOd (pl3 up 1) [(0x30440,6,2)]) [(0x30043,0,mk 16 [(0,2,20),(2,2,4),(4,1,1),(5,1,4)]),(0x30400,6,nsr 3 1)]; st (sto (fun t => { t with queues := [(20, { nq 3 [] with cq := 0xFFFF, log := 12 })], ctls := [(3, f ⟨[],[],[],[]⟩)] }) c)
def nve (l : List (Nat × Nat × Nat)) : Bytes := mk 64 l
def nq20 : NativeQ := { nq 3 [] with cq := 0xFFFF, log := 12 }
def Q0 : NvQueue := ⟨64, 0x4000, 1, 0, 0⟩
def ecr (id : Nat) (d11 : Nat) : Bytes := nve [(2,2,7),(24,8,0x4000),(40,2,id),(42,2,63),(44,4,d11)]
def nid (s : State) (e : Bytes) : Bytes × Chip := let x := nvIdentify s.chip 3 e; (x.1.getD [], x.2)
def nio : State := let s := nvc (fun t => { t with cqs := [(1, Q0)], sqs := [(1, Q0)] }); st (map3 s.chip)
def nr7 : Bytes := nve [(0,1,2),(4,4,1),(24,8,0x4000),(48,4,7)]
def dsm : Bytes := nve [(0,1,9),(4,4,1),(24,8,0x4000),(44,4,4)]
def ny : Chip := setNvCtl nio.chip 3 { nvCtl nio.chip 3 with sqs := tput (nvCtl nio.chip 3).sqs 1 { Q0 with head := (Q0.head + 1) % Q0.size } }
def ndx : Xfer := segRead ny (.plat 3) 0 (prpRuns ny 3 dsm 16).1
def nativeQueues_s7 : State := st sdb
def nativeQueues_s4 : State := st (cqs (withSto up 0xFD 1 []))
def nativeQueues_s5 : State := st (cqs (withSto up 0xFD 1 [W2]))
def nativeQueues_s0 : State := st (withOd (withSto up 0xFD 1 []) [(0x30440,6,1)])
def nativeQueues_s1 : State := st (cqs (withSto up 0xFD 1 []))
def nativeQueues_s2 : State := st (cqs (withSto up 0xFD 1 []))
def nativeQueues_s3 : State := st (cqs (withSto up 0xFD 1 []))
def nativeQueues_s6 : State := st (cqs (withSto up 3 1 [W2]))
def nativeQueues_s8 : State := st sdb
def nativeQueues_s9 : State := st sdb
def waybillStarts_s10 : State := ws 1 1 2 []
def waybillStarts_s18 : State := wk 4
def waybillStarts_s19 : State := wk 5
def waybillStarts_s13 : State := ws 8 1 2 []
def waybillStarts_s14 : State := ws 3 1 2 []
def waybillStarts_s15 : State := ws 4 1 2 []
def waybillStarts_s16 : State := ws 5 1 2 []
def waybillStarts_s17 : State := ws 2 1 2 []
def waybillStarts_s20 : State := wk 2
def waybillStarts_s11 : State := ws 1 1 1 []
def waybillStarts_s12 : State := ws 1 3 2 []
def waybillEnds_s26 : State := we 2 2
def waybillEnds_s22 : State := we 1 3
def waybillEnds_s23 : State := we 1 2
def waybillEnds_s24 : State := we 1 2
def waybillEnds_s25 : State := we 3 2
def backEnds_s27 : State := beS [(0x30022,3,1),(0x11021,3,2),
  (0x30440,6,2)] (fun c => withB c [(0x30400,6,setFld (nsr 3 1) 3 1 2)])
def backEnds_s32 : State := rmr 2
def backEnds_s31 : State := rmr 0
def backEnds_s28 : State := bw none
def backEnds_s30 : State := beS [(0x30033,2,1)] id
def backEnds_s29 : State := bw (some 5)
def nvmeAdmin_s37 : State := nvc id
def nvmeAdmin_d37 : Bytes := (nid (nvc id) (nve [(4,4,1),(40,4,0)])).1
def nvmeAdmin_y37 : Chip := (nid (nvc id) (nve [(4,4,1),(40,4,0)])).2
def nvmeAdmin_s35 : State := nvc (fun t => { t with cqs := [(1, Q0)], sqs := [(1, Q0)] })
def nvmeAdmin_s34 : State := nvc (fun t => { t with cqs := [(1, Q0)] })
def nvmeAdmin_s33 : State := nvc id
def nvmeAdmin_s39 : State := nvc id
def nvmeAdmin_s38 : State := nvc id
def nvmeAdmin_e38 : Bytes := nve [(4,4,1),(40,4,127*65536+1)]
def nvmeAdmin_s40 : State := nvc id
def nvmeAdmin_s41 : State := nvc id

/-- Hypotheses of NativeQueues (O50, NativeStorage) are met. -/
theorem witness_NativeQueues :
    (let c : Chip := nativeQueues_s7.chip
     let y : Chip := setNq c 9 { (nq 253 []) with tail := 1 }
     Rings nativeQueues_s7 0 253 ∧ 9 < 0x10000 ∧ 1 < 0x10000 ∧ nqOf c 9 = some (nq 253 []) ∧ (nq 253 []).owner = 253
       ∧ (nq 253 []).error = false ∧ idxSub 1 (nq 253 []).head ≤ 2 ^ (nq 253 []).log ∧ 1 = idxNext (nq 253 []).head
       ∧ (nq 253 []).wbs = [] ∧ 0 < (nq 253 []).log ∧ 1 ≠ (nq 253 []).head ∧ sx.st = 0 ∧ fld sx.bytes 0 2 = (nq 253 []).head)
    ∧ (let c : Chip := nativeQueues_s4.chip
       let own : Nat := reqOwner (domainOf c rP)
       Accepted nativeQueues_s4 rP 0x30011 (leBytes 2 9) ∧ leNat (leBytes 2 9) = 9 ∧ nqOf c 9 = some (nq 253 [])
         ∧ (nq 253 []).owner = own ∧ (nq 253 []).head = (nq 253 []).tail ∧ (nq 253 []).wbs = [])
    ∧ (let c : Chip := nativeQueues_s5.chip
       let own : Nat := reqOwner (domainOf c rP)
       Accepted nativeQueues_s5 rP 0x30011 (leBytes 2 9) ∧ leNat (leBytes 2 9) = 9 ∧ nqOf c 9 = some (nq 253 [W2])
         ∧ (nq 253 [W2]).owner = own ∧ (nq 253 [W2]).head = (nq 253 [W2]).tail ∧ (nq 253 [W2]).wbs = [W2] ∧ W2.stage = 2)
    ∧ (let c : Chip := nativeQueues_s0.chip
       5 < 1024 ∧ nsState c 5 = 1 ∧ backReady c (nsBack (nsRec c 5)) = true)
    ∧ (let c : Chip := nativeQueues_s1.chip
       let i : Nat := fld sqa 0 2
       let own : Nat := reqOwner (domainOf c rP)
       Accepted nativeQueues_s1 rP 0x30010 sqa ∧ 6 ≤ fld sqa 2 1 ∧ fld sqa 2 1 ≤ 12 ∧ fld sqa 3 1 = 0 ∧ fld sqa 6 2 = 0
         ∧ fld sqa 16 8 = 0 ∧ fld sqa 8 8 % 0x1000 = 0 ∧ queueOwned c own i = true ∧ (own < 64 → emulQueue c own i = false)
         ∧ (Option.any (fun r => r.owner == own) (cqOf c (fld sqa 4 2)) = true) ∧ feeders c (fld sqa 4 2) = []
         ∧ cqOfDispatch c (fld sqa 4 2) = false ∧ nqOf c i = none)
    ∧ (let c : Chip := nativeQueues_s2.chip
       let i : Nat := fld (setFld sqa 0 2 9) 0 2
       let own : Nat := reqOwner (domainOf c rP)
       Accepted nativeQueues_s2 rP 0x30010 (setFld sqa 0 2 9) ∧ 6 ≤ fld (setFld sqa 0 2 9) 2 1
         ∧ fld (setFld sqa 0 2 9) 2 1 ≤ 12 ∧ fld (setFld sqa 0 2 9) 3 1 = 0 ∧ fld (setFld sqa 0 2 9) 6 2 = 0
         ∧ fld (setFld sqa 0 2 9) 16 8 = 0 ∧ fld (setFld sqa 0 2 9) 8 8 % 0x1000 = 0 ∧ queueOwned c own i = true
         ∧ (own < 64 → emulQueue c own i = false)
         ∧ (Option.any (fun r => r.owner == own) (cqOf c (fld (setFld sqa 0 2 9) 4 2)) = true)
         ∧ feeders c (fld (setFld sqa 0 2 9) 4 2) = [] ∧ cqOfDispatch c (fld (setFld sqa 0 2 9) 4 2) = false
         ∧ nqOf c i = some (nq 253 []))
    ∧ (let c : Chip := nativeQueues_s3.chip
       let own : Nat := reqOwner (domainOf c rP)
       let i : Nat := fld (setFld sqa 0 2 5000) 0 2
       Accepted nativeQueues_s3 rP 0x30010 (setFld sqa 0 2 5000) ∧ 6 ≤ fld (setFld sqa 0 2 5000) 2 1
         ∧ fld (setFld sqa 0 2 5000) 2 1 ≤ 12 ∧ fld (setFld sqa 0 2 5000) 3 1 = 0 ∧ fld (setFld sqa 0 2 5000) 6 2 = 0
         ∧ fld (setFld sqa 0 2 5000) 16 8 = 0 ∧ fld (setFld sqa 0 2 5000) 8 8 % 0x1000 = 0 ∧ queueOwned c own i = false)
    ∧ (let c : Chip := nativeQueues_s6.chip
       let own : Nat := reqOwner (domainOf c rP)
       Accepted nativeQueues_s6 rP 0x30011 (leBytes 2 9) ∧ leNat (leBytes 2 9) = 9 ∧ nqOf c 9 = some (nq 3 [W2])
         ∧ (nq 3 [W2]).owner ≠ own ∧ domainOf c rP ≠ Dom.sealed)
    ∧ (let c : Chip := nativeQueues_s8.chip
       Rings nativeQueues_s8 0 253 ∧ 9 < 0x10000 ∧ 1000 < 0x10000 ∧ nqOf c 9 = some (nq 253 []) ∧ (nq 253 []).owner = 253
         ∧ (nq 253 []).error = false ∧ 2 ^ (nq 253 []).log < idxSub 1000 (nq 253 []).head)
    ∧ (let c : Chip := nativeQueues_s9.chip
       Rings nativeQueues_s9 0 253 ∧ 10 < 0x10000 ∧ 1000 < 0x10000 ∧ nqOf c 10 = none) := by
  refine ⟨?_, ?_, ?_, ?_, ?_, ?_, ?_, ?_, ?_, ?_⟩ <;> decide +kernel +zetaReduce

/-- Operands that NativeQueues (O50, NativeStorage) defines by an equation. -/
theorem witness_NativeQueues_operands :
    (let c : Chip := nativeQueues_s7.chip
     let y : Chip := setNq c 9 { (nq 253 []) with tail := 1 }
     sx = xferRead y (agentOf 253) ((nq 253 []).base + 64 * ((nq 253 []).head % 2 ^ (nq 253 []).log)) 64 0 0 uStorage Bound.free) := by
  first | rfl | decide +kernel +zetaReduce

/-- Hypotheses of WaybillStarts (O50, NativeStorage) are met. -/
theorem witness_WaybillStarts :
    (let rows : List (Nat × Instr) := [(1, Instr.waybillRead 9 6), (2, Instr.waybillWrite 9 6 false), (3, Instr.flush 9 6),
         (4, Instr.deallocate 9 6 false), (5, Instr.writeZeroes 9 6 false), (8, Instr.loadToTier 9 6)]
     let c : Chip := waybillStarts_s10.chip
     wbOf waybillStarts_s10.chip 9 6 = some (wv 1 1) ∧ (wv 1 1).stage = 1
       ∧ (wbOrdered (wv 1 1).b = true → wbFirst waybillStarts_s10.chip 9 6 = true) ∧ (3, Instr.flush 9 6) ∈ rows ∧ (3,
       Instr.flush 9 6).1 ≠ wbOp (wv 1 1).b ∧ backReady c (nsBack (wv 1 1).ns) = true
       ∧ (nsXts (wv 1 1).ns = true → wbKey c (wv 1 1).ns = 0) ∧ wbOp (wv 1 1).b = 1 ∧ wbOf c 9 6 = some (wv 1 1))
    ∧ (let c : Chip := waybillStarts_s18.chip
       wbOf waybillStarts_s18.chip 9 6 = some (kx 4) ∧ (kx 4).stage = 1
         ∧ (wbOrdered (kx 4).b = true → wbFirst waybillStarts_s18.chip 9 6 = true) ∧ backReady c (nsBack (kx 4).ns) = true
         ∧ (nsXts (kx 4).ns = true → wbKey c (kx 4).ns = 0) ∧ wbOp (kx 4).b = 4 ∧ nsXts (kx 4).ns = true
         ∧ wbOf c 9 6 = some (kx 4))
    ∧ (let c : Chip := waybillStarts_s19.chip
       wbOf waybillStarts_s19.chip 9 6 = some (kx 5) ∧ (kx 5).stage = 1
         ∧ (wbOrdered (kx 5).b = true → wbFirst waybillStarts_s19.chip 9 6 = true) ∧ backReady c (nsBack (kx 5).ns) = true
         ∧ (nsXts (kx 5).ns = true → wbKey c (kx 5).ns = 0) ∧ wbOp (kx 5).b = 5 ∧ nsXts (kx 5).ns = true
         ∧ wbOf c 9 6 = some (kx 5))
    ∧ (let c : Chip := waybillStarts_s13.chip
       wbOf waybillStarts_s13.chip 9 6 = some (wv 8 1) ∧ (wv 8 1).stage = 1
         ∧ (wbOrdered (wv 8 1).b = true → wbFirst waybillStarts_s13.chip 9 6 = true)
         ∧ backReady c (nsBack (wv 8 1).ns) = true ∧ (nsXts (wv 8 1).ns = true → wbKey c (wv 8 1).ns = 0)
         ∧ wbOp (wv 8 1).b = 8 ∧ wbOf c 9 6 = some (wv 8 1))
    ∧ (let c : Chip := waybillStarts_s14.chip
       wbOf waybillStarts_s14.chip 9 6 = some (wv 3 1) ∧ (wv 3 1).stage = 1
         ∧ (wbOrdered (wv 3 1).b = true → wbFirst waybillStarts_s14.chip 9 6 = true)
         ∧ backReady c (nsBack (wv 3 1).ns) = true ∧ (nsXts (wv 3 1).ns = true → wbKey c (wv 3 1).ns = 0)
         ∧ wbOp (wv 3 1).b = 3 ∧ wbOf c 9 6 = some (wv 3 1))
    ∧ (let c : Chip := waybillStarts_s15.chip
       wbOf waybillStarts_s15.chip 9 6 = some (wv 4 1) ∧ (wv 4 1).stage = 1
         ∧ (wbOrdered (wv 4 1).b = true → wbFirst waybillStarts_s15.chip 9 6 = true)
         ∧ backReady c (nsBack (wv 4 1).ns) = true ∧ (nsXts (wv 4 1).ns = true → wbKey c (wv 4 1).ns = 0)
         ∧ wbOp (wv 4 1).b = 4 ∧ nsXts (wv 4 1).ns = false ∧ wbOf c 9 6 = some (wv 4 1))
    ∧ (let c : Chip := waybillStarts_s16.chip
       wbOf waybillStarts_s16.chip 9 6 = some (wv 5 1) ∧ (wv 5 1).stage = 1
         ∧ (wbOrdered (wv 5 1).b = true → wbFirst waybillStarts_s16.chip 9 6 = true)
         ∧ backReady c (nsBack (wv 5 1).ns) = true ∧ (nsXts (wv 5 1).ns = true → wbKey c (wv 5 1).ns = 0)
         ∧ wbOp (wv 5 1).b = 5 ∧ nsXts (wv 5 1).ns = false ∧ wbOf c 9 6 = some (wv 5 1))
    ∧ (let c : Chip := waybillStarts_s17.chip
       wbOf waybillStarts_s17.chip 9 6 = some (wv 2 1) ∧ (wv 2 1).stage = 1
         ∧ (wbOrdered (wv 2 1).b = true → wbFirst waybillStarts_s17.chip 9 6 = true)
         ∧ backReady c (nsBack (wv 2 1).ns) = true ∧ (nsXts (wv 2 1).ns = true → wbKey c (wv 2 1).ns = 0)
         ∧ wbOp (wv 2 1).b = 2 ∧ (X0 2 1).st = 0 ∧ nsXts (wv 2 1).ns = false ∧ wbOf (X0 2 1).s 9 6 = some (wv 2 1))
    ∧ (let c : Chip := waybillStarts_s20.chip
       wbOf waybillStarts_s20.chip 9 6 = some (kx 2) ∧ (kx 2).stage = 1
         ∧ (wbOrdered (kx 2).b = true → wbFirst waybillStarts_s20.chip 9 6 = true) ∧ backReady c (nsBack (kx 2).ns) = true
         ∧ (nsXts (kx 2).ns = true → wbKey c (kx 2).ns = 0) ∧ wbOp (kx 2).b = 2 ∧ (XK 2).st = 0 ∧ nsXts (kx 2).ns = true)
    ∧ (let c : Chip := su.chip
       wbOf su.chip 9 6 = some wu ∧ wu.stage = 1 ∧ (wbOrdered wu.b = true → wbFirst su.chip 9 6 = true)
         ∧ backReady c (nsBack wu.ns) = true ∧ (nsXts wu.ns = true → wbKey c wu.ns = 0) ∧ wbOp wu.b = 2 ∧ XU.st = 1)
    ∧ (let c : Chip := waybillStarts_s11.chip
       let rows : List (Nat × Instr) := [(1, Instr.waybillRead 9 6), (2, Instr.waybillWrite 9 6 false), (3, Instr.flush 9 6),
           (4, Instr.deallocate 9 6 false), (5, Instr.writeZeroes 9 6 false), (8, Instr.loadToTier 9 6)]
       wbOf waybillStarts_s11.chip 9 6 = some (wv 1 1) ∧ (wv 1 1).stage = 1
         ∧ (wbOrdered (wv 1 1).b = true → wbFirst waybillStarts_s11.chip 9 6 = true) ∧ (1, Instr.waybillRead 9 6) ∈ rows
         ∧ (1, Instr.waybillRead 9 6).1 = wbOp (wv 1 1).b ∧ backReady c (nsBack (wv 1 1).ns) = false)
    ∧ (let c : Chip := waybillStarts_s12.chip
       let rows : List (Nat × Instr) := [(1, Instr.waybillRead 9 6), (2, Instr.waybillWrite 9 6 false), (3, Instr.flush 9 6),
           (4, Instr.deallocate 9 6 false), (5, Instr.writeZeroes 9 6 false), (8, Instr.loadToTier 9 6)]
       wbOf waybillStarts_s12.chip 9 6 = some (wv 1 3) ∧ (wv 1 3).stage = 1
         ∧ (wbOrdered (wv 1 3).b = true → wbFirst waybillStarts_s12.chip 9 6 = true) ∧ (1, Instr.waybillRead 9 6) ∈ rows
         ∧ (1, Instr.waybillRead 9 6).1 = wbOp (wv 1 3).b ∧ backReady c (nsBack (wv 1 3).ns) = true
         ∧ nsXts (wv 1 3).ns = true ∧ (1, Instr.waybillRead 9 6).1 ≠ 3 ∧ wbKey c (wv 1 3).ns ≠ 0) := by
  refine ⟨?_, ?_, ?_, ?_, ?_, ?_, ?_, ?_, ?_, ?_, ?_, ?_⟩ <;> decide +kernel +zetaReduce

/-- Operands that WaybillStarts (O50, NativeStorage) defines by an equation. -/
theorem witness_WaybillStarts_operands :
    (let c : Chip := waybillStarts_s17.chip
     X0 2 1 = segRead c (wbAgent c 9) (wbHint (wv 2 1).b) (wbSegs (wv 2 1)))
    ∧ (let c : Chip := waybillStarts_s20.chip
       XK 2 = segRead c (wbAgent c 9) (wbHint (kx 2).b) (wbSegs (kx 2)))
    ∧ (let c : Chip := su.chip
       XU = segRead c (wbAgent c 9) (wbHint wu.b) (wbSegs wu)) := by
  refine ⟨?_, ?_, ?_⟩ <;> first | rfl | decide +kernel +zetaReduce

/-- Hypotheses of WaybillEnds (O50, NativeStorage) are met. -/
theorem witness_WaybillEnds :
    (let c : Chip := waybillEnds_s26.chip
     wbOf waybillEnds_s26.chip 9 6 = some (ww 2 2) ∧ (wbOrdered (ww 2 2).b = true → wbFirst waybillEnds_s26.chip 9 6 = true)
       ∧ (ww 2 2).stage = 2 ∧ backReady c (nsBack (ww 2 2).ns) = true ∧ wbOp (ww 2 2).b = 2 ∧ nsXts (ww 2 2).ns = false
       ∧ nqOf c 9 = some (nq 253 [ww 2 2]) ∧ (nq 253 [ww 2 2]).wbs = [ww 2 2]
       ∧ (nq 253 [ww 2 2]).head = (nq 253 [ww 2 2]).tail ∧ (nq 253 [ww 2 2]).freed = false ∧ (ww 2 2).src = 0
       ∧ (ww 2 2).adm = 0 ∧ fld (ww 2 2).b 28 2 = 0xffff ∧ (nq 253 [ww 2 2]).owner = 253
       ∧ cqOf c (nq 253 [ww 2 2]).cq = some rcq ∧ cqFull rcq = false ∧ rcq.owner = 253)
    ∧ (wbOf waybillEnds_s22.chip 9 6 = some (ww 1 3)
         ∧ (wbOrdered (ww 1 3).b = true → wbFirst waybillEnds_s22.chip 9 6 = true) ∧ (ww 1 3).stage = 3)
    ∧ (let c : Chip := waybillEnds_s23.chip
       wbOf waybillEnds_s23.chip 9 6 = some (ww 1 2)
         ∧ (wbOrdered (ww 1 2).b = true → wbFirst waybillEnds_s23.chip 9 6 = true) ∧ (ww 1 2).stage = 2
         ∧ backReady c (nsBack (ww 1 2).ns) = true ∧ 5 ≠ 0)
    ∧ (let c : Chip := waybillEnds_s24.chip
       wbOf waybillEnds_s24.chip 9 6 = some (ww 1 2)
         ∧ (wbOrdered (ww 1 2).b = true → wbFirst waybillEnds_s24.chip 9 6 = true) ∧ (ww 1 2).stage = 2
         ∧ backReady c (nsBack (ww 1 2).ns) = true ∧ wbOp (ww 1 2).b = 1)
    ∧ (let c : Chip := waybillEnds_s25.chip
       wbOf waybillEnds_s25.chip 9 6 = some (ww 3 2)
         ∧ (wbOrdered (ww 3 2).b = true → wbFirst waybillEnds_s25.chip 9 6 = true) ∧ (ww 3 2).stage = 2
         ∧ backReady c (nsBack (ww 3 2).ns) = true ∧ wbOp (ww 3 2).b = 3) := by
  refine ⟨?_, ?_, ?_, ?_, ?_⟩ <;> decide +kernel +zetaReduce

/-- Hypotheses of BackEnds (O51) are met. -/
theorem witness_BackEndStates :
    (let c : Chip := backEnds_s27.chip
     let back : Chip → Nat → BackEnd → Chip := fun y be b => { y with storage := have __src := y.storage; { queues := __src.queues, backs := tput y.storage.backs be b, ctls := __src.ctls } }
     2 < 8 ∧ 1 < 16 ∧ odN c 0x30022 (2 + 1) = 1 ∧ ssdState c 2 = 2 ∧ 5 < 1024
       ∧ bit (nsFlags (nsRec (back (odSet c 0x30022 (2 + 1) 2) 2 { ns := ns1, zeroes := true, keepAt := 0 }) 5)) 0 = true
       ∧ nsBack (nsRec (back (odSet c 0x30022 (2 + 1) 2) 2 { ns := ns1, zeroes := true, keepAt := 0 }) 5) = 2
       ∧ (nsState (back (odSet c 0x30022 (2 + 1) 2) 2 { ns := ns1, zeroes := true, keepAt := 0 }) 5 = 2 ∨ nsState (back (odSet c 0x30022 (2 + 1) 2) 2 { ns := ns1, zeroes := true, keepAt := 0 }) 5 = 0)
       ∧ (ssdState c 2 = 2 ∨ ssdState c 2 = 3))
    ∧ (let c : Chip := backEnds_s32.chip
       let now : Nat := nowNs c
       2 < 8 ∧ 1 < 16 ∧ Accepted backEnds_s32 rP 0x30031 [1] ∧ leNat [1] = 1 ∧ remoteState c 1 ≠ 0
         ∧ Accepted backEnds_s32 rP 0x30032 [1] ∧ remoteState c 1 = 2 ∧ (backOf c (16 + 1)).keepAt ≤ now
         ∧ (true = true ∨ ((remoteQps c 1).any fun q => (qpOf c q).state != 3) = true))
    ∧ (let c : Chip := backEnds_s31.chip
       let rec_ : Bytes := odB c 0x30030 (1 + 1)
       2 < 8 ∧ 1 < 16 ∧ Accepted backEnds_s31 rP 0x30031 [1] ∧ leNat [1] = 1 ∧ remoteState c 1 = 0 ∧ 0 < fld rec_ 8 1
         ∧ fld rec_ 8 1 ≤ 16 ∧ (((remoteQps c 1).all fun q => (qpOf c q).state == 3 && (qpOf c q).plat == 253) = true)
         ∧ Accepted backEnds_s31 rP 0x30032 [1])
    ∧ (let c : Chip := backEnds_s28.chip
       let now : Nat := nowNs c
       2 < 8 ∧ 1 < 16 ∧ wbOf c 9 6 = some (wp none) ∧ (wp none).stage = 2 ∧ nsBack (wp none).ns = 2
         ∧ (wp none).abortAt = none ∧ (wp none).since + 1000000 * odN c 0x30020 0 ≤ now ∧ ssdState c 2 = 2)
    ∧ (let c : Chip := backEnds_s30.chip
       2 < 8 ∧ 1 < 16 ∧ remoteState c 1 = 1)
    ∧ (let c : Chip := backEnds_s29.chip
       let now : Nat := nowNs c
       2 < 8 ∧ 1 < 16 ∧ wbOf c 9 6 = some (wp (some 5)) ∧ (wp (some 5)).stage = 2 ∧ (wp (some 5)).abortAt = some 5
         ∧ 5 + 1000000000 ≤ now ∧ nsBack (wp (some 5)).ns = 2) := by
  refine ⟨?_, ?_, ?_, ?_, ?_, ?_⟩ <;> decide +kernel +zetaReduce

/-- Hypotheses of NvmeAdmin (O52, NvmeController) are met. -/
theorem witness_NvmeAdmin :
    (let id : Nat := nvDw (nve [(4, 4, 1), (40, 4, 0)]) 10 % 0x10000
     let c : Chip := nvmeAdmin_s37.chip
     let t : NvCtl := nvCtl c 3
     nvOn nvmeAdmin_s37.chip 3 = true ∧ (id = 0 ∨ nvQueues c 3 < id) ∧ tget? t.sqs id = none ∧ nvDw (nve [(4, 4, 1), (40, 4,
       0)]) 10 % 256 = 0 ∧ nvSpace c 3 (nvNsid (nve [(4, 4, 1), (40, 4, 0)])) = some 5 ∧ (nvDw (nve [(4, 4, 1), (40, 4,
       0)]) 10 % 256 = 0 ∨ 3 < nvDw (nve [(4, 4, 1), (40, 4, 0)]) 10 % 256) ∧ nqOf c (nvNative c 3 id) = none
       ∧ 0 < nvQueues c 3 ∧ nqOf c (nvNative c 3 (0 + 1)) = some nq20)
    ∧ (let c : Chip := nvmeAdmin_s35.chip
       let t : NvCtl := nvCtl c 3
       let id : Nat := nvDw (ecr 1 0x10003) 10 % 0x10000
       nvOn nvmeAdmin_s35.chip 3 = true ∧ tget? t.sqs id = some Q0 ∧ tget? t.cqs id = some Q0
         ∧ ((List.any t.sqs fun q => q.2.link == id) = true))
    ∧ (let c : Chip := nvmeAdmin_s34.chip
       let t : NvCtl := nvCtl c 3
       let id : Nat := nvDw (ecr 1 0x10003) 10 % 0x10000
       let size : Nat := nvDw (ecr 1 0x10003) 10 / 0x10000
       nvOn nvmeAdmin_s34.chip 3 = true ∧ 0 < id ∧ id ≤ nvQueues c 3 ∧ 0 < size ∧ size ≤ 1023
         ∧ bit (nvDw (ecr 1 0x10003) 11) 0 = true ∧ fld (ecr 1 0x10003) 24 8 % 0x1000 = 0 ∧ tget? t.sqs id = none
         ∧ tget? t.cqs (nvDw (ecr 1 0x10003) 11 / 0x10000) = some Q0 ∧ tget? t.cqs id = some Q0
         ∧ ((List.any t.sqs fun q => q.2.link == id) = false))
    ∧ (let c : Chip := nvmeAdmin_s33.chip
       let t : NvCtl := nvCtl c 3
       let id : Nat := nvDw (ecr 1 3) 10 % 0x10000
       let size : Nat := nvDw (ecr 1 3) 10 / 0x10000
       nvOn nvmeAdmin_s33.chip 3 = true ∧ 0 < id ∧ id ≤ nvQueues c 3 ∧ 0 < size ∧ size ≤ 1023
         ∧ bit (nvDw (ecr 1 3) 11) 0 = true ∧ fld (ecr 1 3) 24 8 % 0x1000 = 0 ∧ tget? t.cqs id = none
         ∧ bit (nvDw (ecr 1 3) 11) 1 = true ∧ nvDw (ecr 1 3) 11 / 0x10000 < 128 ∧ tget? t.sqs id = none
         ∧ tget? t.cqs (nvDw (ecr 1 3) 11 / 0x10000) = none)
    ∧ (nvOn nvmeAdmin_s39.chip 3 = true ∧ 3 < nvDw (nve [(4, 4, 1), (40, 4, 7)]) 10 % 256 ∧ nvDw (nve [(4, 4, 1), (40, 4,
         7)]) 10 % 256 = 7)
    ∧ (nvOn nvmeAdmin_s38.chip 3 = true ∧ nvDw nvmeAdmin_e38 10 % 256 = 1 ∧ nvDw nvmeAdmin_e38 10 / 0x10000 = 127
         ∧ nvDw nvmeAdmin_e38 11 % 0x10000 = 0)
    ∧ (nvOn nvmeAdmin_s40.chip 3 = true ∧ nvDw (nve [(4, 4, 1), (40, 4, 6)]) 10 % 256 = 6)
    ∧ (nvOn nvmeAdmin_s41.chip 3 = true ∧ nvDw (nve [(4, 4, 1), (40, 4, 11)]) 10 % 256 = 11) := by
  refine ⟨?_, ?_, ?_, ?_, ?_, ?_, ?_, ?_⟩ <;> decide +kernel +zetaReduce

/-- Operands that NvmeAdmin (O52, NvmeController) defines by an equation. -/
theorem witness_NvmeAdmin_operands :
    (let c : Chip := nvmeAdmin_s37.chip
     nvIdentify c 3 (nve [(4, 4, 1), (40, 4, 0)]) = (some nvmeAdmin_d37, nvmeAdmin_y37)) := by
  first | rfl | decide +kernel +zetaReduce

/-- Hypotheses of NvmeIo (O52, NvmeController) are met. -/
theorem witness_NvmeIo :
    (let c : Chip := nio.chip
     let y : Chip := setNvCtl c 3 ({ nvCtl c 3 with sqs := tput (nvCtl c 3).sqs 1 { Q0 with head := (Q0.head + 1) % Q0.size } })
     let n : Nat := nvNative c 3 1
     let blocks : Nat := nvDw nr7 12 % 0x10000 + 1
     nvOn nio.chip 3 = true ∧ tget? (nvCtl c 3).sqs 1 = some Q0 ∧ nqOf c n = some nq20 ∧ nq20.wbs.length < 256
       ∧ fld nr7 1 1 = 0 ∧ nvSpace y 3 (nvNsid nr7) = some 5 ∧ blocks * nsBlock (nsRec c 5) ≤ 0x1000
       ∧ bit (nvDw nr7 11) 2 = false)
    ∧ (let c : Chip := nio.chip
       let y : Chip := setNvCtl c 3 ({ nvCtl c 3 with sqs := tput (nvCtl c 3).sqs 1 { Q0 with head := (Q0.head + 1) % Q0.size } })
       let n : Nat := nvNative c 3 1
       nvOn nio.chip 3 = true ∧ tget? (nvCtl c 3).sqs 1 = some Q0 ∧ nqOf c n = some nq20 ∧ nq20.wbs.length < 256
         ∧ fld dsm 1 1 = 0 ∧ nvSpace y 3 (nvNsid dsm) = some 5 ∧ bit (nvDw dsm 11) 2 = true ∧ nvDw dsm 10 % 256 = 0
         ∧ (prpRuns y 3 dsm 16).2 = y ∧ ndx.st = 0 ∧ ndx.s.storage = y.storage)
    ∧ (let c : Chip := nio.chip
       let y : Chip := setNvCtl c 3 ({ nvCtl c 3 with sqs := tput (nvCtl c 3).sqs 1 { Q0 with head := (Q0.head + 1) % Q0.size } })
       let n : Nat := nvNative c 3 1
       nvOn nio.chip 3 = true ∧ tget? (nvCtl c 3).sqs 1 = some Q0 ∧ nqOf c n = some nq20 ∧ nq20.wbs.length < 256
         ∧ fld (nve [(0, 1, 2), (4, 4, 9)]) 1 1 = 0 ∧ nvSpace y 3 (nvNsid (nve [(0, 1, 2), (4, 4, 9)])) = none)
    ∧ (let c : Chip := nio.chip
       let n : Nat := nvNative c 3 1
       nvOn nio.chip 3 = true ∧ tget? (nvCtl c 3).sqs 1 = some Q0 ∧ nqOf c n = some nq20 ∧ nq20.wbs.length < 256
         ∧ fld (nve [(0, 1, 119), (4, 4, 1)]) 1 1 = 0 ∧ 0 < 1 ∧ [0, 1, 2, 8, 9].contains (nvOp (nve [(0, 1, 119), (4, 4,
         1)])) = false) := by
  refine ⟨?_, ?_, ?_, ?_⟩ <;> decide +kernel +zetaReduce

/-- Operands that NvmeIo (O52, NvmeController) defines by an equation. -/
theorem witness_NvmeIo_operands :
    (let c : Chip := nio.chip
     let y : Chip := setNvCtl c 3 ({ nvCtl c 3 with sqs := tput (nvCtl c 3).sqs 1 { Q0 with head := (Q0.head + 1) % Q0.size } })
     ndx = segRead y (Agent.plat 3) 0 (prpRuns y 3 dsm 16).1) := by
  first | rfl | decide +kernel +zetaReduce

end Part18

/-! ### Ciphers, arrays -/

namespace Part19

def opn (c : Chip) : Chip := withB c [(0x08020,1,leBytes 8 0 ++ leBytes 8 0x4000000)]
def kup : Chip := let c := opn (withOd up ((0x04050,1,0xFD) :: (List.range 8).map (fun i => (0x31041,i+1,8)))); { c with sec := { c.sec with slots := [(1029, ⟨1, zeros 16, 7, 7, 0⟩)] } }
def cb (mode len aux : Nat) : Bytes := mk 64 [(0,1,mode),(2,1,0xFF),(4,2,1029),(6,2,7),(8,2,5),(10,2,0xFFFF),(16,8,0x1000),
  (24,8,0x2000),(32,8,len),(40,8,aux)]
def pq (l : List PqEntry) : PortQ := ⟨l, 0, [], none⟩
def cq (e : PqEntry) (c : Chip) : Chip := withPq c 5 16 (pq [e])
def E (b : Bytes) (a : Nat) : PqEntry := ⟨7, a, b⟩
def rn (b : Bytes) : CipherRun := ⟨7, 5, b, 1, 0, 1029, zeros 16, none⟩
def cs (b : Bytes) (c : Chip) : State := let c := withPq c 5 16 (pq []); st { c with engines := { c.engines with ciphers := [rn b] } }
def cx (b : Bytes) (c : Chip) : Xfer := cipherRead (cs b c).chip (rn b)
def dn (b : Bytes) (c : Chip) : State := let c := withPq c 5 16 (pq []); st { c with engines := { c.engines with ciphers := [{ rn b with done := some (0, 32) }] } }
def lsd : State := let c := withPq kup 2 1 (pq []); st { c with engines := { c.engines with ciphers := [{ rn (cb 1 32 0) with queue := 2, slot := 5 }] } }
def aj (b : Bytes) : DqJob := ⟨7, b, 1, 0xFF, none⟩
def da (b : Bytes) (c : Chip) : State := st (withDq (opn (withOd c ((List.range 20).flatMap (fun i => [(0x50001,i+1,1)]) ++ [(0x50005,1,1),
  (0x50005,2,1)]))) 70 (dqr 1 0 18 0xFF 0 0) { Dq.empty with running := [aj b] })
def ret4 (c : Chip) : Chip := { c with faults := { c.faults with retired := [jobUnit 1 4] } }
def ce (op fl sig v : Nat) : Bytes := mk 64 [(0,1,op),(1,1,fl),(2,1,0xFF),(4,2,sig),(8,8,v)]
def dc (e : List DqEntry) (run : List DqJob) : State := st (withDq (withOd up [(0x51100,4,0xFD),
  (0x51400,4,9)]) 70 (dqr 1 0 18 0xFF 0 0) { Dq.empty with entries := e, running := run })
def Z0 : DqDone := ⟨0,0,0,0⟩
def dj (a : Nat) (b : Bytes) : State := st (opn (dc [⟨b, a, false, none⟩] []).chip)
def JD (sig : Nat) : DqJob := { aj (setFld vjob 8 2 sig) with done := some Z0, unit := 4 }
def dr : State := st (hst (withDq up 70 (setFld (dqr 2 0 0 0xFD 0 0) 4 1 6) Dq.empty))
def tr : Bytes := mk 64 [(0,1,1),(2,1,0xFF),(4,2,3),(6,1,6),(8,8,9),(16,4,1),(20,4,1),(32,8,0x1000),(40,2,1)]
def dt (o : Nat) : State := st (withB (withOd (opn (dc [] []).chip) [(0x51001,1,1)]) ((0x51500,2,tr) :: (if o = 0 then [] else [(0x08020,1,zeros 16)])))
def tx (o : Nat) : Xfer := xferRead (dt o).chip .opn 0x1000 64 0 1 uDispatch Bound.free
def djob : Bytes := mk 64 [(0,1,0x40),(2,1,0xFF),(3,1,1),(5,1,1),(6,2,5),(10,2,0xFFFF),(16,8,0x1000),(24,4,4),(28,2,1),
  (30,2,4),(32,8,0x2000),(40,4,64),(48,8,0x3000)]
def prf (cw : Nat) : Bytes := mk 48 [(4,2,cw),(6,2,1),(8,2,1),(10,2,1),(15,1,1)]
def dJ : DqJob := ⟨7, djob, 1, 0, none⟩
def dR (cw : Nat) (rd : Bool) : DecRun := ⟨10, 7, 0, prf cw, [1,2,3,4], rd, 0, 0, 0, none, [0,0,0,0,0]⟩
def dS (cw : Nat) (rd : Bool) (hi : Nat) : State := let c := withDq (withB up [(0x08020,1,leBytes 8 0 ++ leBytes 8 hi)]) 10 (dqr 1 1 18 0xFF 0 0) { Dq.empty with running := [dJ] }; st { c with engines := { c.engines with decodes := [dR cw rd] } }
def dX (cw hi : Nat) : Xfer := let c := (dS cw true hi).chip; decodeWrite c 10 djob 0 0x2000 (tensor djob (prf cw) [1,2,3,4] 5 (colourOf c (prf cw) 0 0) (cropOf (prf cw) 16 16))
def dY (cw hi : Nat) : Xfer := decodeWrite (dX cw hi).s 10 djob 0 0x3010 (frameRecord 5 0 0 16 16)
def dRd : Xfer := let c := (dS 1 false 0x4000000).chip; xferRead c (decodeAgent c 10 djob) 0x1000 4 0 0 (decodeUnit 0) ⟨0, 2 ^ 64, .tiers⟩
def cr2 : Bytes := mk 48 [(0,2,100),(4,2,2),(6,2,1),(8,2,1),(10,2,1),(15,1,1)]
def dR2 : DecRun := { dR 1 true with profile := cr2 }
def dS2 : State := let c := (dS 1 true 0x4000000).chip; st { c with engines := { c.engines with decodes := [dR2] } }
def dE : Xfer := decodeWrite (dS 1 true 0x4000000).chip 10 djob 0 0x3000 (decodeHeader (dR 1 true) 1 ((List.range 5).map (fun i => nth [0,
  0,0,0,0] (i + 1))))
def cpl : State := st (withB (withOd up [(0x60011,2,2),(0x60030,4,2)]) [(0x51300,1,mk 16 [(0,2,3),(2,1,1),(3,1,3),(4,2,9),
  (8,8,77)])])
def cipherIssue_s5 : State := st (withPq kup 5 16 (pq [E (cb 1 32 0) 1, ⟨8,1,cb 1 32 0⟩]))
def cipherIssue_rest5 : List PqEntry := [⟨8,1,cb 1 32 0⟩]
def cipherIssue_s0 : State := st (cq (E (cb 9 32 0) 1) kup)
def cipherIssue_s1 : State := st (cq (E (cb 1 32 0) 0) kup)
def cipherIssue_s2 : State := st (cq (E (cb 1 32 0) 1) (withOd kup ((List.range 8).map (fun i => (0x31040,i+1,3)))))
def cipherIssue_s3 : State := st (cq (E (cb 1 32 0) 1) (withOd kup ((List.range 8).map (fun i => (0x31040,i+1,2)))))
def cipherIssue_s4 : State := st (cq (E (cb 1 32 0) 1) (withOd kup [(0x04050,1,3)]))
def cipherModes_s6 : State := cs (cb 1 32 0) kup
def cipherModes_s8 : State := cs (cb 2 32 0) kup
def cipherModes_s9 : State := cs (cb 3 0 32) kup
def cipherModes_s10 : State := cs (cb 4 0 32) kup
def cipherModes_s11 : State := cs (cb 5 32 16) kup
def cipherModes_s12 : State := cs (cb 6 32 16) kup
def cipherModes_s13 : State := cs (cb 7 32 0) kup
def cipherModes_s7 : State := cs (cb 1 32 0) (withOd kup [(0x08020,1,0)])
def cipherModes_x7 : Xfer := cx (cb 1 32 0) (withOd kup [(0x08020,1,0)])
def cipherEnds_s14 : State := dn (cb 1 32 0) kup
def cipherEnds_r14 : CipherRun := { rn (cb 1 32 0) with done := some (0, 32) }
def cipherEnds_s15 : State := cs (setFld (cb 1 32 0) 0 1 1) kup
def cipherEnds_s18 : State := st (withOd kup [(0x31040,1,2)])
def cipherEnds_s16 : State := st (withOd kup [(0x31040,1,3)])
def cipherEnds_s17 : State := st (withOd kup [(0x31040,1,3)])
def cipherEnds_s19 : State := st kup
def arrayJobs_s21 : State := da vjob up
def arrayJobs_s22 : State := da vjob (ret4 up)
def arrayJobs_s23 : State := st (withOd (da vjob up).chip [(0x50005,1,2)])
def controlEntries_s24 : State := dc [ent (ce 0xF0 0 3 9)] []
def controlEntries_s27 : State := dc [{ ent (ce 0xF0 0 3 9) with released := true }] []
def controlEntries_e27 : DqEntry := { ent (ce 0xF0 0 3 9) with released := true }
def controlEntries_s28 : State := dc [ent (ce 0xF1 0 0 0)] []
def controlEntries_s29 : State := dc [ent (ce 0xF1 0 0 0)] [aj vjob]
def controlEntries_s30 : State := dc [ent (ce 0xF2 0 3 9)] []
def controlEntries_s31 : State := dc [ent (ce 0xF2 0 3 9)] [aj vjob]
def controlEntries_s25 : State := dc [ent (ce 0xF0 0 3 90)] []
def controlEntries_s26 : State := dc [ent (ce 0xF0 9 3 9)] []
def dispatch_s35 : State := dc [] [JD 0xFFFF]
def dispatch_s33 : State := dj 1 vjob
def dispatch_e33 : DqEntry := ⟨vjob, 1, false, none⟩
def dispatch_s40 : State := dt 0
def dispatch_s34 : State := dj 1 (setFld vjob 0 1 0x55)
def dispatch_e34 : DqEntry := ⟨setFld vjob 0 1 0x55, 1, false, none⟩
def dispatch_s36 : State := st up
def dispatch_s41 : State := dt 1
def frameDecode_s46 : State := dS 1 true 0x4000000
def frameDecode_s42 : State := dS 1 false 0x4000000
def frameDecode_s43 : State := dS 1 true 0x4000000
def frameDecode_s44 : State := dS 1 true 0x2000
def frameDecode_y45 : Xfer := decodeWrite dS2.chip 10 djob 0 0x3010 (frameRecord 5 4 0 16 16)

/-- Hypotheses of CipherIssue (O53, CipherRequests) are met. -/
theorem witness_CipherIssue :
    (let c : Chip := cipherIssue_s5.chip
     5 < 16 ∧ (portQ cipherIssue_s5.chip 5).waiting = E (cb 1 32 0) 1 :: cipherIssue_rest5
       ∧ cipherBad c 5 (E (cb 1 32 0) 1).b = 0 ∧ (E (cb 1 32 0) 1).adm ≠ 0 ∧ clustersGone c = false ∧ pickCluster c = some 0
       ∧ cipherKeyStatus c 5 (E (cb 1 32 0) 1).b = 0 ∧ authUsed c 0 + authBytes (E (cb 1 32 0) 1).b ≤ 0x100000
       ∧ { id := 8, adm := 1, b := cb 1 32 0 } ∈ (portQ (chipOf (exec (Instr.cipherIssue 5) cipherIssue_s5) cipherIssue_s5) 5).waiting)
    ∧ (let c : Chip := cipherIssue_s0.chip
       5 < 16 ∧ (portQ cipherIssue_s0.chip 5).waiting = [E (cb 9 32 0) 1] ∧ cipherBad c 5 (E (cb 9 32 0) 1).b ≠ 0)
    ∧ (let c : Chip := cipherIssue_s1.chip
       5 < 16 ∧ (portQ cipherIssue_s1.chip 5).waiting = [E (cb 1 32 0) 0] ∧ cipherBad c 5 (E (cb 1 32 0) 0).b = 0
         ∧ (E (cb 1 32 0) 0).adm = 0)
    ∧ (let c : Chip := cipherIssue_s2.chip
       5 < 16 ∧ (portQ cipherIssue_s2.chip 5).waiting = [E (cb 1 32 0) 1] ∧ cipherBad c 5 (E (cb 1 32 0) 1).b = 0
         ∧ (E (cb 1 32 0) 1).adm ≠ 0 ∧ clustersGone c = true)
    ∧ (let c : Chip := cipherIssue_s3.chip
       5 < 16 ∧ (portQ cipherIssue_s3.chip 5).waiting = [E (cb 1 32 0) 1] ∧ cipherBad c 5 (E (cb 1 32 0) 1).b = 0
         ∧ (E (cb 1 32 0) 1).adm ≠ 0 ∧ clustersGone c = false ∧ pickCluster c = none)
    ∧ (let c : Chip := cipherIssue_s4.chip
       5 < 16 ∧ (portQ cipherIssue_s4.chip 5).waiting = [E (cb 1 32 0) 1] ∧ cipherBad c 5 (E (cb 1 32 0) 1).b = 0
         ∧ (E (cb 1 32 0) 1).adm ≠ 0 ∧ clustersGone c = false ∧ pickCluster c = some 0
         ∧ cipherKeyStatus c 5 (E (cb 1 32 0) 1).b ≠ 0) := by
  refine ⟨?_, ?_, ?_, ?_, ?_, ?_⟩ <;> decide +kernel +zetaReduce

/-- Hypotheses of CipherModes (O53, CipherRequests) are met. -/
theorem witness_CipherModes :
    (let m : Nat := cMode (rn (cb 1 32 0)).b
     let rows : List (Nat × Instr) := [(1, Instr.gcmEnc 7 none), (2, Instr.gcmDec 7 none none), (3, Instr.gmacGen 7 none),
         (4, Instr.gmacVer 7 none), (5, Instr.xtsEnc 7 none), (6, Instr.xtsDec 7 none), (7, Instr.ctr 7 none)]
     let put : Bytes → Xfer := fun v => xferWrite (cx (cb 1 32 0) kup).s (cipherAgent (cx (cb 1 32 0) kup).s (rn (cb 1 32 0))) (cDst (rn (cb 1 32 0)).b) v (cHint (rn (cb 1 32 0)).b) 0 uCipher Bound.free
     let text : Bytes := srcText (rn (cb 1 32 0)) (cx (cb 1 32 0) kup).bytes
     let ct : Bytes := gcmText (rn (cb 1 32 0)).key (cIv (rn (cb 1 32 0)).b) text
     let aad : Bytes := srcAad (rn (cb 1 32 0)) (cx (cb 1 32 0) kup).bytes
     cipherRun cipherModes_s6.chip 7 = some (rn (cb 1 32 0)) ∧ (rn (cb 1 32 0)).done = none ∧ (rn (cb 1 32 0)).cluster < 8
       ∧ clusterState cipherModes_s6.chip (rn (cb 1 32 0)).cluster = 0 ∧ (7, Instr.ctr 7 none) ∈ rows ∧ (7,
       Instr.ctr 7 none).1 ≠ m ∧ (cx (cb 1 32 0) kup).st = 0 ∧ m = 1
       ∧ (put (ct ++ gcmTag (rn (cb 1 32 0)).key (cIv (rn (cb 1 32 0)).b) aad ct)).st = 0
       ∧ (put (List.take (0x1000 * 0) ct)).st = 0)
    ∧ (let put : Bytes → Xfer := fun v => xferWrite (cx (cb 2 32 0) kup).s (cipherAgent (cx (cb 2 32 0) kup).s (rn (cb 2 32 0))) (cDst (rn (cb 2 32 0)).b) v (cHint (rn (cb 2 32 0)).b) 0 uCipher Bound.free
       let w : Bytes := if cLen (rn (cb 2 32 0)).b ≤ 0x100000 then (cx (cb 2 32 0) kup).bytes else (Option.map (fun x => slice x 0 (srcBytes (rn (cb 2 32 0)).b)) none).getD (cx (cb 2 32 0) kup).bytes
       let y : Xfer := put (gcmText (rn (cb 2 32 0)).key (cIv (rn (cb 2 32 0)).b) (srcText (rn (cb 2 32 0)) w) ++ [])
       let m : Nat := cMode (rn (cb 2 32 0)).b
       cipherRun cipherModes_s8.chip 7 = some (rn (cb 2 32 0)) ∧ (rn (cb 2 32 0)).done = none ∧ (rn (cb 2 32 0)).cluster < 8
         ∧ clusterState cipherModes_s8.chip (rn (cb 2 32 0)).cluster = 0 ∧ (cx (cb 2 32 0) kup).st = 0 ∧ m = 2 ∧ y.st = 0)
    ∧ (let put : Bytes → Xfer := fun v => xferWrite (cx (cb 3 0 32) kup).s (cipherAgent (cx (cb 3 0 32) kup).s (rn (cb 3 0 32))) (cDst (rn (cb 3 0 32)).b) v (cHint (rn (cb 3 0 32)).b) 0 uCipher Bound.free
       let aad : Bytes := srcAad (rn (cb 3 0 32)) (cx (cb 3 0 32) kup).bytes
       let m : Nat := cMode (rn (cb 3 0 32)).b
       cipherRun cipherModes_s9.chip 7 = some (rn (cb 3 0 32)) ∧ (rn (cb 3 0 32)).done = none ∧ (rn (cb 3 0 32)).cluster < 8
         ∧ clusterState cipherModes_s9.chip (rn (cb 3 0 32)).cluster = 0 ∧ (cx (cb 3 0 32) kup).st = 0 ∧ m = 3
         ∧ (put ([] ++ gcmTag (rn (cb 3 0 32)).key (cIv (rn (cb 3 0 32)).b) aad [])).st = 0)
    ∧ (let m : Nat := cMode (rn (cb 4 0 32)).b
       cipherRun cipherModes_s10.chip 7 = some (rn (cb 4 0 32)) ∧ (rn (cb 4 0 32)).done = none ∧ (rn (cb 4 0 32)).cluster < 8
         ∧ clusterState cipherModes_s10.chip (rn (cb 4 0 32)).cluster = 0 ∧ (cx (cb 4 0 32) kup).st = 0 ∧ m = 4)
    ∧ (let put : Bytes → Xfer := fun v => xferWrite (cx (cb 5 32 16) kup).s (cipherAgent (cx (cb 5 32 16) kup).s (rn (cb 5 32 16))) (cDst (rn (cb 5 32 16)).b) v (cHint (rn (cb 5 32 16)).b) 0 uCipher Bound.free
       let m : Nat := cMode (rn (cb 5 32 16)).b
       cipherRun cipherModes_s11.chip 7 = some (rn (cb 5 32 16)) ∧ (rn (cb 5 32 16)).done = none
         ∧ (rn (cb 5 32 16)).cluster < 8 ∧ clusterState cipherModes_s11.chip (rn (cb 5 32 16)).cluster = 0
         ∧ (cx (cb 5 32 16) kup).st = 0 ∧ m = 5
         ∧ (put (aesXts true (rn (cb 5 32 16)).key (cAux (rn (cb 5 32 16)).b) (leNat (cIv (rn (cb 5 32 16)).b)) (cx (cb 5 32 16) kup).bytes ++ [])).st = 0)
    ∧ (let put : Bytes → Xfer := fun v => xferWrite (cx (cb 6 32 16) kup).s (cipherAgent (cx (cb 6 32 16) kup).s (rn (cb 6 32 16))) (cDst (rn (cb 6 32 16)).b) v (cHint (rn (cb 6 32 16)).b) 0 uCipher Bound.free
       let m : Nat := cMode (rn (cb 6 32 16)).b
       cipherRun cipherModes_s12.chip 7 = some (rn (cb 6 32 16)) ∧ (rn (cb 6 32 16)).done = none
         ∧ (rn (cb 6 32 16)).cluster < 8 ∧ clusterState cipherModes_s12.chip (rn (cb 6 32 16)).cluster = 0
         ∧ (cx (cb 6 32 16) kup).st = 0 ∧ m = 6
         ∧ (put (aesXts false (rn (cb 6 32 16)).key (cAux (rn (cb 6 32 16)).b) (leNat (cIv (rn (cb 6 32 16)).b)) (cx (cb 6 32 16) kup).bytes ++ [])).st = 0)
    ∧ (let put : Bytes → Xfer := fun v => xferWrite (cx (cb 7 32 0) kup).s (cipherAgent (cx (cb 7 32 0) kup).s (rn (cb 7 32 0))) (cDst (rn (cb 7 32 0)).b) v (cHint (rn (cb 7 32 0)).b) 0 uCipher Bound.free
       let m : Nat := cMode (rn (cb 7 32 0)).b
       cipherRun cipherModes_s13.chip 7 = some (rn (cb 7 32 0)) ∧ (rn (cb 7 32 0)).done = none ∧ (rn (cb 7 32 0)).cluster < 8
         ∧ clusterState cipherModes_s13.chip (rn (cb 7 32 0)).cluster = 0 ∧ (cx (cb 7 32 0) kup).st = 0 ∧ m = 7
         ∧ (put (aesCtr (rn (cb 7 32 0)).key (cIv (rn (cb 7 32 0)).b) (cx (cb 7 32 0) kup).bytes ++ [])).st = 0)
    ∧ (let m : Nat := cMode (rn (cb 1 32 0)).b
       let rows : List (Nat × Instr) := [(1, Instr.gcmEnc 7 none), (2, Instr.gcmDec 7 none none), (3, Instr.gmacGen 7 none),
           (4, Instr.gmacVer 7 none), (5, Instr.xtsEnc 7 none), (6, Instr.xtsDec 7 none), (7, Instr.ctr 7 none)]
       cipherRun cipherModes_s7.chip 7 = some (rn (cb 1 32 0)) ∧ (rn (cb 1 32 0)).done = none ∧ (rn (cb 1 32 0)).cluster < 8
         ∧ clusterState cipherModes_s7.chip (rn (cb 1 32 0)).cluster = 0 ∧ cipherModes_x7.st = 1 ∧ (1,
         Instr.gcmEnc 7 none) ∈ rows ∧ (1, Instr.gcmEnc 7 none).1 = m) := by
  refine ⟨?_, ?_, ?_, ?_, ?_, ?_, ?_, ?_⟩ <;> decide +kernel +zetaReduce

/-- Operands that CipherModes (O53, CipherRequests) defines by an equation. -/
theorem witness_CipherModes_operands :
    (cx (cb 1 32 0) kup = cipherRead cipherModes_s6.chip (rn (cb 1 32 0)))
    ∧ (cx (cb 2 32 0) kup = cipherRead cipherModes_s8.chip (rn (cb 2 32 0)))
    ∧ (cx (cb 3 0 32) kup = cipherRead cipherModes_s9.chip (rn (cb 3 0 32)))
    ∧ (cx (cb 4 0 32) kup = cipherRead cipherModes_s10.chip (rn (cb 4 0 32)))
    ∧ (cx (cb 5 32 16) kup = cipherRead cipherModes_s11.chip (rn (cb 5 32 16)))
    ∧ (cx (cb 6 32 16) kup = cipherRead cipherModes_s12.chip (rn (cb 6 32 16)))
    ∧ (cx (cb 7 32 0) kup = cipherRead cipherModes_s13.chip (rn (cb 7 32 0)))
    ∧ (cipherModes_x7 = cipherRead cipherModes_s7.chip (rn (cb 1 32 0))) := by
  refine ⟨?_, ?_, ?_, ?_, ?_, ?_, ?_, ?_⟩ <;> first | rfl | decide +kernel +zetaReduce

/-- Hypotheses of CipherEnds (O53, CipherRequests) are met. -/
theorem witness_CipherEnds :
    (let c : Chip := cipherEnds_s14.chip
     cipherRun c 7 = some cipherEnds_r14 ∧ cipherEnds_r14.done = some (0, 32) ∧ cSignal cipherEnds_r14.b = 0xffff)
    ∧ (let c : Chip := lsd.chip
       Accepted lsd rC 0x31042 [128] ∧ leNat [128] = 128 + 0 ∧ 0 < 8 ∧ clusterState c 0 = 0 ∧ clusterLeased c 0 = true)
    ∧ (let c : Chip := cipherEnds_s15.chip
       Accepted cipherEnds_s15 rC 0x31042 [128] ∧ leNat [128] = 128 + 0 ∧ 0 < 8 ∧ clusterState c 0 = 0
         ∧ clusterLeased c 0 = false)
    ∧ (let c : Chip := cipherEnds_s18.chip
       Accepted cipherEnds_s18 rC 0x31042 [0] ∧ leNat [0] = 0 ∧ 0 < 8 ∧ (clusterState c 0 = 1 ∨ clusterState c 0 = 2))
    ∧ (let c : Chip := cipherEnds_s16.chip
       Accepted cipherEnds_s16 rC 0x31042 [128] ∧ leNat [128] = 128 + 0 ∧ 0 < 8 ∧ clusterState c 0 = 3)
    ∧ (let c : Chip := cipherEnds_s17.chip
       Accepted cipherEnds_s17 rC 0x31042 [0] ∧ leNat [0] = 0 ∧ 0 < 8 ∧ clusterState c 0 = 3)
    ∧ (let c : Chip := cipherEnds_s19.chip
       Accepted cipherEnds_s19 rC 0x31042 [0] ∧ leNat [0] = 0 ∧ 0 < 8 ∧ clusterState c 0 = 0) := by
  refine ⟨?_, ?_, ?_, ?_, ?_, ?_, ?_⟩ <;> decide +kernel +zetaReduce

/-- Hypotheses of ArrayJobs (O54) are met. -/
theorem witness_ArrayJobsRun :
    (let rows : List (Nat × Instr) := [(1, Instr.matmul 70 7), (16, Instr.vecAdd 70 7), (17, Instr.vecMul 70 7), (18,
         Instr.vecMax 70 7), (19, Instr.vecMin 70 7), (20, Instr.scaleBias 70 7), (24, Instr.convert 70 7), (25,
         Instr.requant 70 7), (26, Instr.vecCopy 70 7), (32, Instr.relu 70 7), (33, Instr.gelu 70 7), (34, Instr.silu 70 7),
         (35, Instr.sigmoid 70 7), (36, Instr.tanh 70 7), (37, Instr.exp 70 7), (38, Instr.recip 70 7), (39, Instr.rsqrt 70 7),
         (48, Instr.rowSum 70 7), (49, Instr.rowMax 70 7), (50, Instr.rowArgmax 70 7), (51, Instr.softmax 70 7), (52,
         Instr.logsumexp 70 7), (53, Instr.layernorm 70 7), (54, Instr.rmsnorm 70 7), (55, Instr.topk 70 7)]
     let die : Nat := dqDie 70
     let c : Chip := arrayJobs_s21.chip
     let x : DqDone × Chip := if jOp (aj vjob).b = 1 then matRun c 70 die 4 (aj vjob).b else vecRun c 70 die (aj vjob).b
     dqJob arrayJobs_s21.chip 70 7 = some (aj vjob) ∧ (aj vjob).done = none ∧ dqDie 70 ≠ 0 ∧ (33, Instr.gelu 70 7) ∈ rows
       ∧ (33, Instr.gelu 70 7).1 ≠ jOp (aj vjob).b ∧ unitsRetired c die (aj vjob).b = false
       ∧ pickUnit c die (aj vjob).b = some 4 ∧ x.2.disp = c.disp ∧ die ≤ 4 ∧ 4 ≤ 4 ∧ (32, Instr.relu 70 7) ∈ rows ∧ (32,
       Instr.relu 70 7).1 = jOp (aj vjob).b ∧ -0x80000000 ≤ 5 ∧ 5 ≤ 0x7fffffff)
    ∧ (let rows : List (Nat × Instr) := [(1, Instr.matmul 70 7), (16, Instr.vecAdd 70 7), (17, Instr.vecMul 70 7), (18,
           Instr.vecMax 70 7), (19, Instr.vecMin 70 7), (20, Instr.scaleBias 70 7), (24, Instr.convert 70 7), (25,
           Instr.requant 70 7), (26, Instr.vecCopy 70 7), (32, Instr.relu 70 7), (33, Instr.gelu 70 7), (34, Instr.silu 70 7),
           (35, Instr.sigmoid 70 7), (36, Instr.tanh 70 7), (37, Instr.exp 70 7), (38, Instr.recip 70 7), (39,
           Instr.rsqrt 70 7), (48, Instr.rowSum 70 7), (49, Instr.rowMax 70 7), (50, Instr.rowArgmax 70 7), (51,
           Instr.softmax 70 7), (52, Instr.logsumexp 70 7), (53, Instr.layernorm 70 7), (54, Instr.rmsnorm 70 7), (55,
           Instr.topk 70 7)]
       let c : Chip := arrayJobs_s22.chip
       let die : Nat := dqDie 70
       dqJob arrayJobs_s22.chip 70 7 = some (aj vjob) ∧ (aj vjob).done = none ∧ dqDie 70 ≠ 0
         ∧ unitsRetired c die (aj vjob).b = true ∧ (32, Instr.relu 70 7) ∈ rows ∧ (32, Instr.relu 70 7).1 = jOp (aj vjob).b)
    ∧ (let rows : List (Nat × Instr) := [(1, Instr.matmul 70 7), (16, Instr.vecAdd 70 7), (17, Instr.vecMul 70 7), (18,
           Instr.vecMax 70 7), (19, Instr.vecMin 70 7), (20, Instr.scaleBias 70 7), (24, Instr.convert 70 7), (25,
           Instr.requant 70 7), (26, Instr.vecCopy 70 7), (32, Instr.relu 70 7), (33, Instr.gelu 70 7), (34, Instr.silu 70 7),
           (35, Instr.sigmoid 70 7), (36, Instr.tanh 70 7), (37, Instr.exp 70 7), (38, Instr.recip 70 7), (39,
           Instr.rsqrt 70 7), (48, Instr.rowSum 70 7), (49, Instr.rowMax 70 7), (50, Instr.rowArgmax 70 7), (51,
           Instr.softmax 70 7), (52, Instr.logsumexp 70 7), (53, Instr.layernorm 70 7), (54, Instr.rmsnorm 70 7), (55,
           Instr.topk 70 7)]
       let c : Chip := arrayJobs_s23.chip
       let die : Nat := dqDie 70
       dqJob arrayJobs_s23.chip 70 7 = some (aj vjob) ∧ (aj vjob).done = none ∧ dqDie 70 ≠ 0
         ∧ unitsRetired c die (aj vjob).b = false ∧ pickUnit c die (aj vjob).b = none ∧ (32, Instr.relu 70 7) ∈ rows ∧ (32,
         Instr.relu 70 7).1 = jOp (aj vjob).b) := by
  refine ⟨?_, ?_, ?_⟩ <;> decide +kernel +zetaReduce

/-- Hypotheses of ControlEntries (O55, DispatchQueues) are met. -/
theorem witness_ControlEntries :
    (let op : Nat := fld (ent (ce 240 0 3 9)).b 0 1
     let rows : List (Nat × Instr) := [(240, Instr.dqWait 70), (240, Instr.dqWaitRelease 70), (241, Instr.dqBarrier 70),
         (242, Instr.dqAdd 70)]
     let c : Chip := controlEntries_s24.chip
     let fine : Prop := controlBad c 70 (ent (ce 240 0 3 9)).b = false
     dqHead controlEntries_s24.chip 70 = some (ent (ce 240 0 3 9)) ∧ (241, Instr.dqBarrier 70) ∈ rows ∧ (241,
       Instr.dqBarrier 70).1 ≠ op ∧ fine ∧ op = 240 ∧ (ent (ce 240 0 3 9)).released = false
       ∧ waitMet c (ent (ce 240 0 3 9)).b = true)
    ∧ (let op : Nat := fld controlEntries_e27.b 0 1
       let c : Chip := controlEntries_s27.chip
       let fine : Prop := controlBad c 70 controlEntries_e27.b = false
       dqHead controlEntries_s27.chip 70 = some controlEntries_e27 ∧ fine ∧ op = 240 ∧ controlEntries_e27.released = true
         ∧ controlEntries_e27.trig = none)
    ∧ (let c : Chip := controlEntries_s28.chip
       let q : Dq := dqOf c 70
       let op : Nat := fld (ent (ce 241 0 0 0)).b 0 1
       let fine : Prop := controlBad c 70 (ent (ce 241 0 0 0)).b = false
       dqHead controlEntries_s28.chip 70 = some (ent (ce 241 0 0 0)) ∧ fine ∧ op = 241 ∧ q.running = [])
    ∧ (let c : Chip := controlEntries_s29.chip
       let q : Dq := dqOf c 70
       let op : Nat := fld (ent (ce 241 0 0 0)).b 0 1
       let fine : Prop := controlBad c 70 (ent (ce 241 0 0 0)).b = false
       dqHead controlEntries_s29.chip 70 = some (ent (ce 241 0 0 0)) ∧ fine ∧ op = 241 ∧ q.running ≠ [])
    ∧ (let c : Chip := controlEntries_s30.chip
       let q : Dq := dqOf c 70
       let op : Nat := fld (ent (ce 242 0 3 9)).b 0 1
       let fine : Prop := controlBad c 70 (ent (ce 242 0 3 9)).b = false
       dqHead controlEntries_s30.chip 70 = some (ent (ce 242 0 3 9)) ∧ fine ∧ op = 242 ∧ q.running = [])
    ∧ (let c : Chip := controlEntries_s31.chip
       let q : Dq := dqOf c 70
       let op : Nat := fld (ent (ce 242 0 3 9)).b 0 1
       let fine : Prop := controlBad c 70 (ent (ce 242 0 3 9)).b = false
       dqHead controlEntries_s31.chip 70 = some (ent (ce 242 0 3 9)) ∧ fine ∧ op = 242 ∧ q.running ≠ [])
    ∧ (let c : Chip := controlEntries_s25.chip
       let op : Nat := fld (ent (ce 240 0 3 90)).b 0 1
       let fine : Prop := controlBad c 70 (ent (ce 240 0 3 90)).b = false
       dqHead controlEntries_s25.chip 70 = some (ent (ce 240 0 3 90)) ∧ fine ∧ op = 240
         ∧ (ent (ce 240 0 3 90)).released = false ∧ waitMet c (ent (ce 240 0 3 90)).b = false)
    ∧ (let op : Nat := fld (ent (ce 240 9 3 9)).b 0 1
       let rows : List (Nat × Instr) := [(240, Instr.dqWait 70), (240, Instr.dqWaitRelease 70), (241, Instr.dqBarrier 70),
           (242, Instr.dqAdd 70)]
       let c : Chip := controlEntries_s26.chip
       dqHead controlEntries_s26.chip 70 = some (ent (ce 240 9 3 9)) ∧ controlBad c 70 (ent (ce 240 9 3 9)).b = true ∧ (240,
         Instr.dqWait 70) ∈ rows ∧ (240, Instr.dqWait 70).1 = op) := by
  refine ⟨?_, ?_, ?_, ?_, ?_, ?_, ?_, ?_⟩ <;> decide +kernel +zetaReduce

/-- Hypotheses of Dispatch (O55, DispatchQueues) are met. -/
theorem witness_Dispatch :
    (let c : Chip := dispatch_s35.chip
     let die : Nat := dqDie 70
     mayIssue c 70 = false ∧ dqJob c 70 7 = some (JD 0xffff) ∧ (JD 0xffff).done = some Z0 ∧ die ≠ 0 ∧ dqMode c 70 = 1
       ∧ jSignal (JD 0xffff).b = 0xffff ∧ dqTarget c 70 = 0 ∧ (JD 0xffff).unit ≤ 4)
    ∧ (let c : Chip := dispatch_s33.chip
       let die : Nat := dqDie 70
       dqHead c 70 = some dispatch_e33 ∧ mayIssue c 70 = true ∧ dqTarget c 70 = 0 ∧ entryBad c 70 dispatch_e33.b = false
         ∧ dieLit c (die - 1) = true ∧ servingAhead c 70 = false ∧ Accepted dispatch_s33 rC 0x51050 [70] ∧ leNat [70] = 70
         ∧ 70 < 192 ∧ dqMode c 70 ≠ 0)
    ∧ (let c : Chip := dispatch_s40.chip
       let rec_ : Bytes := trigRec c 1
       let qd : Nat := trigDq 1 rec_
       1 < 256 ∧ bit (fld rec_ 0 1) 0 = true ∧ sequencerUp c (1 / 64) = true ∧ fld rec_ 1 1 = 0 ∧ trigMet c 1 rec_ = true
         ∧ dqOutstanding c qd + fld rec_ 40 2 ≤ 64 ∧ (tx 0).st = 0 ∧ (tx 0).s.disp = c.disp ∧ dqState (tx 0).s qd ≠ 3)
    ∧ (let c : Chip := dispatch_s34.chip
       dqHead c 70 = some dispatch_e34 ∧ mayIssue c 70 = true ∧ dqTarget c 70 = 0 ∧ entryBad c 70 dispatch_e34.b = true)
    ∧ (let c : Chip := cpl.chip
       Accepted cpl rC 0x51050 [71] ∧ leNat [71] = 71 ∧ 71 < 192 ∧ dqMode c 71 = 0 ∧ 0 < 256 ∧ bit (couple c 0 2 1) 0 = true
         ∧ bit (couple c 0 2 1) 1 = false ∧ 0 < couple c 0 8 8 ∧ couple c 0 8 8 < 2 ^ 32 ∧ routeUp c (couple c 0 3 1) = true)
    ∧ (Accepted dispatch_s36 rC 0x51050 [255] ∧ leNat [255] = 255 ∧ 192 ≤ 255)
    ∧ (let c : Chip := dr.chip
       let q : Dq := dqOf c 70
       Rings dr 0 253 ∧ 70 < 192 ∧ 0 < 0x10000 ∧ dqMode c 70 = 2 ∧ dqOwner c 70 = 253 ∧ 0 = q.cons)
    ∧ (let c : Chip := dr.chip
       let q : Dq := dqOf c 70
       Rings dr 0 253 ∧ 70 < 192 ∧ 1000 < 0x10000 ∧ dqMode c 70 = 2 ∧ dqOwner c 70 = 253 ∧ 2 ^ dqLog c 70 < idxSub 1000 q.cons)
    ∧ (let c : Chip := dispatch_s41.chip
       let rec_ : Bytes := trigRec c 1
       let qd : Nat := trigDq 1 rec_
       1 < 256 ∧ bit (fld rec_ 0 1) 0 = true ∧ sequencerUp c (1 / 64) = true ∧ fld rec_ 1 1 = 0 ∧ trigMet c 1 rec_ = true
         ∧ dqOutstanding c qd + fld rec_ 40 2 ≤ 64 ∧ (tx 1).st ≠ 0) := by
  refine ⟨?_, ?_, ?_, ?_, ?_, ?_, ?_, ?_, ?_⟩ <;> decide +kernel +zetaReduce

/-- Operands that Dispatch (O55, DispatchQueues) defines by an equation. -/
theorem witness_Dispatch_operands :
    (let c : Chip := dispatch_s40.chip
     let rec_ : Bytes := trigRec c 1
     tx 0 = xferRead c (if fld rec_ 2 1 < 64 then Agent.plat (fld rec_ 2 1) else Agent.opn) (fld rec_ 32 8) (64 * fld rec_ 40 2) 0 (1 / 64 + 1) uDispatch Bound.free)
    ∧ (let c : Chip := dispatch_s41.chip
       let rec_ : Bytes := trigRec c 1
       tx 1 = xferRead c (if fld rec_ 2 1 < 64 then Agent.plat (fld rec_ 2 1) else Agent.opn) (fld rec_ 32 8) (64 * fld rec_ 40 2) 0 (1 / 64 + 1) uDispatch Bound.free) := by
  refine ⟨?_, ?_⟩ <;> first | rfl | decide +kernel +zetaReduce

/-- Hypotheses of FrameDecode (O56) are met. -/
theorem witness_FrameDecodeTensors :
    (let c : Chip := frameDecode_s46.chip
     dqJob c 10 7 = some dJ ∧ decRun c 10 7 = some (dR 1 true) ∧ dJ.done = none ∧ (dR 1 true).read = true
       ∧ (dR 1 true).fail = 0 ∧ dE.st = 0)
    ∧ (let c : Chip := frameDecode_s42.chip
       dqJob c 10 7 = some dJ ∧ decRun c 10 7 = some (dR 1 false) ∧ dJ.done = none ∧ (dR 1 false).read = false
         ∧ ((dR 1 false).read = false ∨ selects dJ.b 5 false = false ∨ dMax dJ.b ≤ (dR 1 false).recs) ∧ (dR 1 false).fail = 0)
    ∧ (let place : Nat := dMeta dJ.b + 16 + 16 * (dR 1 true).recs
       let flags : Nat := b2n false + 2 * b2n false + 4 * b2n false
       let c : Chip := frameDecode_s43.chip
       let slot : Nat := dDst dJ.b + (dR 1 true).recs * dStride dJ.b
       let crop : Nat × Nat × Nat × Nat := cropOf (dR 1 true).profile 16 16
       dqJob c 10 7 = some dJ ∧ decRun c 10 7 = some (dR 1 true) ∧ dJ.done = none ∧ (dR 1 true).read = true
         ∧ selects dJ.b 5 false = true ∧ (dR 1 true).recs < dMax dJ.b ∧ (dR 1 true).lastFrame = none ∧ 0 < crop.2.2.1
         ∧ 0 < crop.2.2.2 ∧ (dX 1 0x4000000).st = 0 ∧ (dY 1 0x4000000).st = 0)
    ∧ (let c : Chip := frameDecode_s44.chip
       let slot : Nat := dDst dJ.b + (dR 1 true).recs * dStride dJ.b
       let crop : Nat × Nat × Nat × Nat := cropOf (dR 1 true).profile 16 16
       dqJob c 10 7 = some dJ ∧ decRun c 10 7 = some (dR 1 true) ∧ dJ.done = none ∧ (dR 1 true).read = true
         ∧ selects dJ.b 5 false = true ∧ (dR 1 true).recs < dMax dJ.b ∧ (dR 1 true).lastFrame = none ∧ 0 < crop.2.2.1
         ∧ 0 < crop.2.2.2 ∧ (dX 1 0x2000).st = 1)
    ∧ (let c : Chip := dS2.chip
       let place : Nat := dMeta dJ.b + 16 + 16 * dR2.recs
       let flags : Nat := b2n false + 2 * b2n false + 4 * b2n false
       let crop : Nat × Nat × Nat × Nat := cropOf dR2.profile 16 16
       dqJob c 10 7 = some dJ ∧ decRun c 10 7 = some dR2 ∧ dJ.done = none ∧ dR2.read = true ∧ selects dJ.b 5 false = true
         ∧ dR2.recs < dMax dJ.b ∧ dR2.lastFrame = none ∧ crop.2.2.1 = 0 ∧ frameDecode_y45.st = 0) := by
  refine ⟨?_, ?_, ?_, ?_, ?_⟩ <;> decide +kernel +zetaReduce

/-- Operands that FrameDecode (O56) defines by an equation. -/
theorem witness_FrameDecodeTensors_operands :
    (let c : Chip := frameDecode_s46.chip
     dE = decodeWrite c 10 dJ.b (dR 1 true).engine (dMeta dJ.b) (decodeHeader (dR 1 true) 1 (List.map (fun i => nth (dR 1 true).skips (i + 1)) (List.range 5))))
    ∧ (let c : Chip := frameDecode_s42.chip
       dRd = xferRead c (decodeAgent c 10 dJ.b) (dSrc dJ.b).1 (dSrc dJ.b).2 0 0 (decodeUnit (dR 1 false).engine) { lo := 0, hi := 2 ^ 64, reach := Reach.tiers })
    ∧ (let c : Chip := frameDecode_s43.chip
       let slot : Nat := dDst dJ.b + (dR 1 true).recs * dStride dJ.b
       let crop : Nat × Nat × Nat × Nat := cropOf (dR 1 true).profile 16 16
       dX 1 0x4000000 = decodeWrite c 10 dJ.b (dR 1 true).engine slot (tensor dJ.b (dR 1 true).profile (dR 1 true).stream 5 (colourOf c (dR 1 true).profile 0 0) crop))
    ∧ (let place : Nat := dMeta dJ.b + 16 + 16 * (dR 1 true).recs
       let flags : Nat := b2n false + 2 * b2n false + 4 * b2n false
       dY 1 0x4000000 = decodeWrite (dX 1 0x4000000).s 10 dJ.b (dR 1 true).engine place (frameRecord 5 0 flags 16 16))
    ∧ (let c : Chip := frameDecode_s44.chip
       let slot : Nat := dDst dJ.b + (dR 1 true).recs * dStride dJ.b
       let crop : Nat × Nat × Nat × Nat := cropOf (dR 1 true).profile 16 16
       dX 1 0x2000 = decodeWrite c 10 dJ.b (dR 1 true).engine slot (tensor dJ.b (dR 1 true).profile (dR 1 true).stream 5 (colourOf c (dR 1 true).profile 0 0) crop))
    ∧ (let c : Chip := dS2.chip
       let place : Nat := dMeta dJ.b + 16 + 16 * dR2.recs
       let flags : Nat := b2n false + 2 * b2n false + 4 * b2n false
       frameDecode_y45 = decodeWrite c 10 dJ.b dR2.engine place (frameRecord 5 4 flags 16 16)) := by
  refine ⟨?_, ?_, ?_, ?_, ?_, ?_⟩ <;> first | rfl | decide +kernel +zetaReduce

end Part19

/-! ### Dispatch, decode, serving -/

namespace Part20

def srec : Bytes := mk 48 [(0,2,100),(2,2,8),(4,1,6),(5,1,0xFF),(6,2,2),(8,8,0x4000),(16,8,0x40000),(24,2,1),(26,2,1),
  (28,4,1),(32,8,0x200000)]
def mrec : Bytes := mk 64 [(0,1,1),(1,1,1),(2,2,2),(4,4,4),(8,8,8),(16,8,0x30000),(24,8,0x31000),(32,4,64),(36,4,64),
  (40,4,64),(44,4,64),(48,4,1),(52,2,5),(54,2,4),(56,1,1),(60,4,0xFFFFFF06)]
def lay (jobs die cnt steps : Nat) : Bytes := mk 16 [(0,8,jobs),(8,1,die),(9,1,cnt),(12,4,steps)]
def base (f : Serving → Serving) (l : List (Nat × Nat × Nat)) : Chip :=
  let c := map3 (pl3 up 1)
  let c := devW (devW c 0x30000 (lay 0x32000 0 1 100)) 0x30010 (lay 0x32000 0 1 100)
  let c := withB (withOd c ([(0x01049,1,1000000),(0x02023,0,1000000),(0x02243,0,500000),(0x02805,1,10),(0x02805,2,1000)] ++ l)) [(0x08020,1,leBytes 8 0 ++ leBytes 8 0x1000000),(0x53043,0,srec),(0x53400,1,mrec)]
  let c := withDq c 70 (dqr 1 0 16 0xFF 0 0) Dq.empty
  { c with en := { c.en with budget := [(3,500000)] }, rdma := { c.rdma with cqs := [(2, ⟨3,6,2,0x5000,0,0,false⟩)] }, serv := f c.serv }
def oe (h : Nat) : Bytes := mk 64 [(2,1,1),(4,2,h),(7,1,2),(8,2,0xFFFF),(12,4,4),(16,8,0x6000),(24,8,0x7000),(32,4,10),
  (48,2,0xFFFF)]
def rb (ph step : Nat) : ServReq := { reqBlank 3 (oe 101) with phase := ph, step := step, reserved := true }
def wr (r : ServReq) (l : List (Nat × Nat × Nat)) : Chip := base (fun v => { v with reqs := [(101, r)] }) l
def op (b : Bytes) (f : Serving → Serving) : Chip := let c := base (fun v => f { v with subs := [(3,(1,0))] }) []; { c with mem := hostW c b } where hostW (c : Chip) (b : Bytes) := (hostWrite c 0 0x4000 b).mem
def ox (c : Chip) : Xfer := xferRead c (.plat 3) 0x4000 64 0 0 uDispatch Bound.free
def tk (c : Chip) : Chip := let y := (ox c).s; { y with serv := { y.serv with subs := tput y.serv.subs 3 ((tget (0, 0) y.serv.subs 3).1, idxNext (tget (0, 0) y.serv.subs 3).2) } }
def oy (c : Chip) : Chip := zeroRange (tk c) (slotAddr c 3 false 0) (slotSize c 3)
def ov (c : Chip) : ServReq := let y := oy c; let q := reqBlank 3 (slice (ox c).bytes 0 64); { q with slot := 0, reserved := true, readyAt := nowNs y, deadline := deadlineOf y q 0, pausedAt := nowNs y }
def oc1 : Chip := op (oe 101) id
def oc2 : Chip := op (setFld (oe 101) 2 1 7) id
def oc3 : Chip := op (oe 101) (fun v => { v with reqs := [(101, rb 1 5)] })
def oc4 : Chip := op (oe 101) (fun v => { v with reqs := [(102, rb 1 5)] })
def ad (c : Chip) (r : ServReq) : Chip := match stepAdmit c r with | .admitted _ s => s | .waits s => s | _ => c
def c1 : Chip := wr { rb 1 5 with adm := 7 } []
def c2 : Chip := wr (rb 1 5) []
def c3 : Chip := wr (rb 1 5) [(0x02023,0,0)]
def c4 : Chip := let c := wr (rb 1 5) []; { c with en := { c.en with budget := [] } }
def c5 : Chip := let c := wr (rb 1 0) []; { c with mem := (hostWrite c 0 0x6000 (leBytes 4 2 ++ leBytes 4 99 ++ zeros 8)).mem }
def lz (c : Chip) (r : ServReq) : Chip := pushLayer (match layerDq c r with | some d => collectJobs c 101 d | none => c) 101
def lv (c : Chip) (r : ServReq) : ServReq := (reqOf (lz c r) 101).getD r
def lc (r : ServReq) : Chip := wr r []
def r20 : ServReq := rb 2 5
def r21 : ServReq := { r20 with jobs := [5] }
def r22 : ServReq := { r20 with status := 6 }
def r23 : ServReq := { r20 with closing := true }
def r24 : ServReq := { r20 with layer := 1 }
def r25 : ServReq := { r20 with marked := true }
def r26 : ServReq := { rb 2 0 with layer := 1, b := setFld (oe 101) 12 4 9, tokens := [1,2,3,1,2,3,1,2,3] }
def r27 : ServReq := { r20 with since := 2000000000 }
def ru : ServReq := { rb 1 5 with deadline := 1000000001, b := setFld (oe 101) 7 1 0 }
def rv : ServReq := { rb 2 5 with b := setFld (oe 102) 7 1 3 }
def pc : Chip := base (fun v => { v with reqs := [(101, ru), (102, rv)] }) []
def re : ServReq := { rb 4 5 with status := 6 }
def ro (b : Bytes) : ServReq := { rb 3 5 with b := b }
def oxx (c : Chip) (r : ServReq) : Xfer := xferRead c .opn (slotAddr c r.plat false r.slot + mKv (mdl c (qModel r)) + mAct (mdl c (qModel r))) (4 * mVocab (mdl c (qModel r))) 0 0 uDispatch Bound.free
def oww (c : Chip) (r : ServReq) : Xfer := xferWrite (oxx c r).s (.plat r.plat) (fld r.b 24 8) (logitsOut r (mVocab (mdl c (qModel r))) (oxx c r).bytes) 0 0 uDispatch Bound.free
def ro1 := ro (oe 101)
def ro2 := ro (setFld (oe 101) 24 8 0x100000)
def rd1 : ServReq := { rb 1 5 with reason := 1 }
def sd : Chip := base (fun v => { v with subs := [(3,(1,0))], reqs := [(101, rd1)] }) []
def rd2 : ServReq := { rb 1 5 with far := true }
def mem (r : ServReq) (h : Nat) (m : Bytes) : State := let c := base (fun v => { v with reqs := [(h, r)] }) []; st { c with cons := { c.cons with inbox := [(2, m)] } }
def my (s : State) (m : Bytes) : Chip := giveCredit { s.chip with cons := { s.chip.cons with inbox := [] } } 2 m
def sm (what : Nat) : Bytes := message 6 9 0 0xFF 0 0 0 (serveMsg what (rb 2 5) 1 [])
def rl : ServReq := { rb 2 5 with lead := some 9 }
def rw : ServReq := { rb 2 5 with away := [9] }
def serving_s6 : State := st oc1
def serving_y6 : Chip := oy oc1
def serving_s5 : State := st (wr (rb 2 5) [])
def serving_s30 : State := mem rl (shareKey 9 101) (sm 7)
def serving_y30 : Chip := my (mem rl (shareKey 9 101) (sm 7)) (sm 7)
def serving_s0 : State := st (wr (rb 0 5) [])
def serving_s23 : State := st (lc r27)
def serving_z23 : Chip := lz (lc r27) r27
def serving_s28 : State := st sd
def serving_s8 : State := st oc3
def serving_s9 : State := st oc4
def serving_s11 : State := st c1
def serving_r11 : ServReq := { rb 1 5 with adm := 7 }
def serving_s12 : State := st c2
def serving_y12 : Chip := ad c2 (rb 1 5)
def serving_s13 : State := st c3
def serving_y13 : Chip := ad c3 (rb 1 5)
def serving_s14 : State := st c4
def serving_s15 : State := st c5
def serving_x15 : Xfer := xferRead c5 (.plat 3) 0x6000 16 0 0 uDispatch Bound.free
def serving_s24 : State := st pc
def serving_s29 : State := st (lc rd2)
def serving_s25 : State := st (lc re)
def serving_s26 : State := st (lc ro1)
def serving_s27 : State := st (lc ro2)
def serving_s31 : State := mem rl (shareKey 9 101) (sm 2)
def serving_y31 : Chip := my (mem rl (shareKey 9 101) (sm 2)) (sm 2)
def serving_s32 : State := mem rl (shareKey 9 101) (sm 4)
def serving_y32 : Chip := my (mem rl (shareKey 9 101) (sm 4)) (sm 4)
def serving_s33 : State := mem rw 101 (sm 6)
def serving_y33 : Chip := my (mem rw 101 (sm 6)) (sm 6)
def serving_s7 : State := st oc2
def serving_s17 : State := st (lc r21)
def serving_z17 : Chip := lz (lc r21) r21
def serving_s18 : State := st (lc r22)
def serving_z18 : Chip := lz (lc r22) r22
def serving_s19 : State := st (lc r23)
def serving_z19 : Chip := lz (lc r23) r23
def serving_s20 : State := st (lc r24)
def serving_z20 : Chip := lz (lc r24) r24
def serving_s21 : State := st (lc r25)
def serving_z21 : Chip := lz (lc r25) r25
def serving_s22 : State := st (lc r26)
def serving_z22 : Chip := lz (lc r26) r26

/-- Hypotheses of Serving (O57) are met. -/
theorem witness_ServingStepsAndSiding :
    (let c : Chip := serving_s6.chip
     let ring : Nat × Nat := tget (0, 0) c.serv.subs 3
     let b : Bytes := slice (ox oc1).bytes 0 64
     let q : ServReq := reqBlank 3 b
     let subs : Chip → Nat → Nat → Chip := fun y a b => { y with serv := { y.serv with subs := tput y.serv.subs 3 (a, b) } }
     let taken : Chip → Chip := fun y => subs y (tget (0, 0) y.serv.subs 3).1 (idxNext (tget (0, 0) y.serv.subs 3).2)
     Rings serving_s6 104 3 ∧ 3 < 64 ∧ 99 < 0x10000 ∧ ownHandle c 3 99 = false ∧ 1000 < 0x10000
       ∧ 2 ^ fld (servRec c 3) 4 1 < idxSub 1000 ring.2 ∧ ring.1 ≠ ring.2 ∧ platOn c 3 = true ∧ cqRoom c 3 ≠ 0
       ∧ c.en.admissionStopped = false ∧ (ox oc1).st = 0 ∧ openBad c 3 ring.2 b = false ∧ reqOf c (fld b 4 2) = none
       ∧ freeSlotOf c 3 false = some 0
       ∧ ov oc1 = { q with slot := 0, deadline := deadlineOf serving_y6 q 0, readyAt := nowNs serving_y6, reserved := true, pausedAt := nowNs serving_y6 }
       ∧ 0 < 64 ∧ placeFree c 0 = true ∧ power c ≤ 1 ∧ c.cons.leaving = none ∧ urgent c 0 = none ∧ nearNeeded c 3 = false
       ∧ ((c.cons.inbox.all fun m => fld m.2 0 1 != 6) = true))
    ∧ (let c : Chip := serving_s5.chip
       let ring : Nat × Nat := tget (0, 0) c.serv.subs 3
       let now : Nat := nowNs c
       Rings serving_s5 104 3 ∧ 3 < 64 ∧ 101 < 0x10000 ∧ 5 < 2 ^ 14 ∧ 3 < 2 ^ 18 ∧ ownHandle c 3 101 = true
         ∧ reqOf c 101 = some (rb 2 5)
         ∧ ((rb 2 5).phase ≠ 0 ∨ 5 ≠ (rb 2 5).step % 2 ^ 14 ∨ mVocab (mdl c (qModel (rb 2 5))) ≤ 3) ∧ 0 < 0x10000
         ∧ idxSub 0 ring.2 ≤ 2 ^ fld (servRec c 3) 4 1 ∧ ((rb 2 5).phase = 2 ∨ (rb 2 5).phase = 3) ∧ (rb 2 5).phase = 2
         ∧ (rb 2 5).overrun = false ∧ (rb 2 5).since + layerNs c (rb 2 5) (rb 2 5).layer < now)
    ∧ (let c : Chip := serving_s30.chip
       let d : List Byte := List.drop 16 (sm 7)
       Rings serving_s30 104 3 ∧ 3 < 64 ∧ 101 < 0x10000 ∧ 5 < 2 ^ 14 ∧ 3 < 2 ^ 18 ∧ ownHandle c 3 101 = true
         ∧ reqOf c 101 = none ∧ c.cons.inbox = [(2, sm 7)] ∧ fld (sm 7) 0 1 = 6 ∧ fld d 0 1 = 7)
    ∧ (let c : Chip := serving_s0.chip
       Rings serving_s0 104 3 ∧ 3 < 64 ∧ 101 < 0x10000 ∧ 5 < 2 ^ 14 ∧ 3 < 2 ^ 18 ∧ ownHandle c 3 101 = true
         ∧ reqOf c 101 = some (rb 0 5) ∧ (rb 0 5).phase = 0 ∧ 5 = (rb 0 5).step % 2 ^ 14
         ∧ 3 < mVocab (mdl c (qModel (rb 0 5))) ∧ (rb 0 5).reserved = true ∧ (rb 0 5).pauses = 0
         ∧ splitMode c (qModel (rb 0 5)) = 0)
    ∧ (let c : Chip := serving_s23.chip
       let now : Nat := nowNs c
       reqOf c 101 = some r27 ∧ r27.phase = 2 ∧ reqOf serving_z23 101 = some (lv (lc r27) r27) ∧ (lv (lc r27) r27).jobs = []
         ∧ (lv (lc r27) r27).todo = [] ∧ (lv (lc r27) r27).lead = none ∧ (lv (lc r27) r27).status = 0
         ∧ (lv (lc r27) r27).closing = false ∧ (lv (lc r27) r27).marked = false
         ∧ (lv (lc r27) r27).layer + 1 < mLayers (mdl serving_z23 (qModel (lv (lc r27) r27)))
         ∧ now ≤ r27.since + layerNs c r27 r27.layer)
    ∧ (let c : Chip := serving_s28.chip
       3 < 64 ∧ nearNeeded c 3 = true ∧ freeSlotOf c 3 true = some 0
         ∧ (leastBy (fun x => (8 - qClass x.2) * 2 ^ 70 + x.2.pausedAt) (List.filter (fun r => r.2.reason != 0 && r.2.phase == 1 && !r.2.far && r.2.lead.isNone) (platReqs c 3)) = some (101,
         rd1)))
    ∧ (let c : Chip := serving_s8.chip
       let b : Bytes := slice (ox oc3).bytes 0 64
       let ring : Nat × Nat := tget (0, 0) c.serv.subs 3
       3 < 64 ∧ ring.1 ≠ ring.2 ∧ platOn c 3 = true ∧ cqRoom c 3 ≠ 0 ∧ c.en.admissionStopped = false ∧ (ox oc3).st = 0
         ∧ openBad c 3 ring.2 b = false ∧ reqOf c (fld b 4 2) = some (rb 1 5))
    ∧ (let c : Chip := serving_s9.chip
       let b : Bytes := slice (ox oc4).bytes 0 64
       let ring : Nat × Nat := tget (0, 0) c.serv.subs 3
       3 < 64 ∧ ring.1 ≠ ring.2 ∧ platOn c 3 = true ∧ cqRoom c 3 ≠ 0 ∧ c.en.admissionStopped = false ∧ (ox oc4).st = 0
         ∧ openBad c 3 ring.2 b = false ∧ reqOf c (fld b 4 2) = none ∧ freeSlotOf c 3 false = none ∧ canDemote c 3 = false)
    ∧ (let c : Chip := serving_s11.chip
       0 < 64 ∧ placeFree c 0 = true ∧ power c ≤ 1 ∧ c.en.admissionStopped = false ∧ c.cons.leaving = none
         ∧ urgent c 0 = some (101, serving_r11) ∧ serving_r11.far = false ∧ platOn c serving_r11.plat = true
         ∧ serving_r11.reserved = true ∧ serving_r11.step ≠ 0 ∧ serving_r11.adm ≠ 0)
    ∧ (let c : Chip := serving_s12.chip
       0 < 64 ∧ placeFree c 0 = true ∧ power c ≤ 1 ∧ c.en.admissionStopped = false ∧ c.cons.leaving = none
         ∧ urgent c 0 = some (101, rb 1 5) ∧ (rb 1 5).far = false ∧ platOn c (rb 1 5).plat = true ∧ (rb 1 5).reserved = true
         ∧ (rb 1 5).step ≠ 0 ∧ (rb 1 5).adm = 0 ∧ stepAdmit c (rb 1 5) = AdmRes.admitted 1 serving_y12)
    ∧ (let c : Chip := serving_s13.chip
       0 < 64 ∧ placeFree c 0 = true ∧ power c ≤ 1 ∧ c.en.admissionStopped = false ∧ c.cons.leaving = none
         ∧ urgent c 0 = some (101, rb 1 5) ∧ (rb 1 5).far = false ∧ platOn c (rb 1 5).plat = true ∧ (rb 1 5).reserved = true
         ∧ (rb 1 5).step ≠ 0 ∧ (rb 1 5).adm = 0 ∧ stepAdmit c (rb 1 5) = AdmRes.waits serving_y13 ∧ (rb 1 5).reason = 0)
    ∧ (let c : Chip := serving_s14.chip
       0 < 64 ∧ placeFree c 0 = true ∧ power c ≤ 1 ∧ c.en.admissionStopped = false ∧ c.cons.leaving = none
         ∧ urgent c 0 = some (101, rb 1 5) ∧ (rb 1 5).far = false ∧ platOn c (rb 1 5).plat = true ∧ (rb 1 5).reserved = true
         ∧ (rb 1 5).step ≠ 0 ∧ (rb 1 5).adm = 0 ∧ stepAdmit c (rb 1 5) = AdmRes.tooLarge)
    ∧ (let c : Chip := serving_s15.chip
       0 < 64 ∧ placeFree c 0 = true ∧ power c ≤ 1 ∧ c.en.admissionStopped = false ∧ c.cons.leaving = none
         ∧ urgent c 0 = some (101, rb 1 0) ∧ (rb 1 0).far = false ∧ platOn c (rb 1 0).plat = true ∧ (rb 1 0).reserved = true
         ∧ (rb 1 0).step = 0 ∧ (rb 1 0).tokens = [] ∧ serving_x15.st = 0 ∧ 1 < qPrompt (rb 1 0)
         ∧ mVocab (mdl c (qModel (rb 1 0))) ≤ fld serving_x15.bytes (4 * 1) 4)
    ∧ (let c : Chip := serving_s24.chip
       let now : Nat := nowNs c
       placeFree c 0 = false ∧ urgent c 0 = some (101, ru) ∧ ru.deadline ≠ 0 ∧ ru.asked = false
         ∧ ↑ru.deadline - ↑now - ↑(estNs c ru) < ↑(us (odFld c 0x53010 (qClass ru + 1) 8 4))
         ∧ victim c 0 (qClass ru) = some (102, rv) ∧ splitMode c (qModel rv) = 0)
    ∧ (let c : Chip := serving_s29.chip
       reqOf c 101 = some rd2 ∧ rd2.far = true ∧ rd2.phase = 1 ∧ rd2.lead = none ∧ freeSlotOf c rd2.plat false = some 0)
    ∧ (let c : Chip := serving_s25.chip
       reqOf c 101 = some re ∧ re.phase = 4 ∧ re.lead = none)
    ∧ (let c : Chip := serving_s26.chip
       let vocab : Nat := mVocab (mdl c (qModel ro1))
       let a : Nat := slotAddr c ro1.plat false ro1.slot + mKv (mdl c (qModel ro1)) + mAct (mdl c (qModel ro1))
       reqOf c 101 = some ro1 ∧ ro1.phase = 3 ∧ (oxx (lc ro1) ro1).st = 0 ∧ (oww (lc ro1) ro1).st = 0 ∧ ro1.deadline = 0
         ∧ ro1.closing = false ∧ ro1.step + 1 < qMax ro1 ∧ ro1.pauses = 0)
    ∧ (let c : Chip := serving_s27.chip
       let vocab : Nat := mVocab (mdl c (qModel ro2))
       let a : Nat := slotAddr c ro2.plat false ro2.slot + mKv (mdl c (qModel ro2)) + mAct (mdl c (qModel ro2))
       reqOf c 101 = some ro2 ∧ ro2.phase = 3 ∧ (oxx (lc ro2) ro2).st = 0 ∧ (oww (lc ro2) ro2).st = 1)
    ∧ (let d : List Byte := List.drop 16 (sm 2)
       let k : Nat := shareKey (msgSrc (sm 2)) (fld d 4 2)
       let c : Chip := serving_s31.chip
       c.cons.inbox = [(2, sm 2)] ∧ fld (sm 2) 0 1 = 6 ∧ fld d 0 1 = 2 ∧ reqOf serving_y31 k = some rl ∧ rl.phase = 2)
    ∧ (let d : List Byte := List.drop 16 (sm 4)
       let k : Nat := shareKey (msgSrc (sm 4)) (fld d 4 2)
       let c : Chip := serving_s32.chip
       c.cons.inbox = [(2, sm 4)] ∧ fld (sm 4) 0 1 = 6 ∧ fld d 0 1 = 4 ∧ reqOf serving_y32 k = some rl)
    ∧ (let d : List Byte := List.drop 16 (sm 6)
       let c : Chip := serving_s33.chip
       c.cons.inbox = [(2, sm 6)] ∧ fld (sm 6) 0 1 = 6 ∧ fld d 0 1 = 6 ∧ reqOf serving_y33 (fld d 4 2) = some rw)
    ∧ (let c : Chip := serving_s7.chip
       let ring : Nat × Nat := tget (0, 0) c.serv.subs 3
       let b : Bytes := slice (ox oc2).bytes 0 64
       3 < 64 ∧ ring.1 ≠ ring.2 ∧ platOn c 3 = true ∧ cqRoom c 3 ≠ 0 ∧ c.en.admissionStopped = false ∧ (ox oc2).st = 0
         ∧ openBad c 3 ring.2 b = true)
    ∧ (let c : Chip := serving_s17.chip
       reqOf c 101 = some r21 ∧ r21.phase = 2 ∧ reqOf serving_z17 101 = some (lv (lc r21) r21)
         ∧ ((lv (lc r21) r21).jobs ≠ [] ∨ (lv (lc r21) r21).todo ≠ []))
    ∧ (let c : Chip := serving_s18.chip
       reqOf c 101 = some r22 ∧ r22.phase = 2 ∧ reqOf serving_z18 101 = some (lv (lc r22) r22) ∧ (lv (lc r22) r22).jobs = []
         ∧ (lv (lc r22) r22).todo = [] ∧ (lv (lc r22) r22).lead = none ∧ (lv (lc r22) r22).status ≠ 0)
    ∧ (let c : Chip := serving_s19.chip
       reqOf c 101 = some r23 ∧ r23.phase = 2 ∧ reqOf serving_z19 101 = some (lv (lc r23) r23) ∧ (lv (lc r23) r23).jobs = []
         ∧ (lv (lc r23) r23).todo = [] ∧ (lv (lc r23) r23).lead = none ∧ (lv (lc r23) r23).status = 0
         ∧ (lv (lc r23) r23).closing = true)
    ∧ (let final : Prop := passesOf serving_z20 (lv (lc r24) r24) ≤ (lv (lc r24) r24).pass + 1
           ∧ mLayers (mdl serving_z20 (qModel (lv (lc r24) r24))) ≤ (lv (lc r24) r24).layer + 1
       let c : Chip := serving_s20.chip
       reqOf c 101 = some r24 ∧ r24.phase = 2 ∧ reqOf serving_z20 101 = some (lv (lc r24) r24) ∧ (lv (lc r24) r24).jobs = []
         ∧ (lv (lc r24) r24).todo = [] ∧ (lv (lc r24) r24).lead = none ∧ (lv (lc r24) r24).status = 0
         ∧ (lv (lc r24) r24).closing = false ∧ final)
    ∧ (let final : Prop := passesOf serving_z21 (lv (lc r25) r25) ≤ (lv (lc r25) r25).pass + 1
           ∧ mLayers (mdl serving_z21 (qModel (lv (lc r25) r25))) ≤ (lv (lc r25) r25).layer + 1
       let c : Chip := serving_s21.chip
       reqOf c 101 = some r25 ∧ r25.phase = 2 ∧ reqOf serving_z21 101 = some (lv (lc r25) r25) ∧ (lv (lc r25) r25).jobs = []
         ∧ (lv (lc r25) r25).todo = [] ∧ (lv (lc r25) r25).lead = none ∧ (lv (lc r25) r25).status = 0
         ∧ (lv (lc r25) r25).closing = false ∧ (¬final) ∧ (lv (lc r25) r25).marked = true ∧ (lv (lc r25) r25).away = [])
    ∧ (let c : Chip := serving_s22.chip
       reqOf c 101 = some r26 ∧ r26.phase = 2 ∧ reqOf serving_z22 101 = some (lv (lc r26) r26) ∧ (lv (lc r26) r26).jobs = []
         ∧ (lv (lc r26) r26).todo = [] ∧ (lv (lc r26) r26).lead = none ∧ (lv (lc r26) r26).status = 0
         ∧ (lv (lc r26) r26).closing = false ∧ (lv (lc r26) r26).marked = false
         ∧ (lv (lc r26) r26).layer + 1 = mLayers (mdl serving_z22 (qModel (lv (lc r26) r26)))
         ∧ (lv (lc r26) r26).pass + 1 < passesOf serving_z22 (lv (lc r26) r26)) := by
  refine ⟨?_, ?_, ?_, ?_, ?_, ?_, ?_, ?_, ?_, ?_, ?_, ?_, ?_, ?_, ?_, ?_, ?_, ?_, ?_, ?_, ?_, ?_, ?_, ?_, ?_, ?_, ?_, ?_⟩ <;> decide +kernel +zetaReduce

/-- Operands that Serving (O57) defines by an equation. -/
theorem witness_ServingStepsAndSiding_operands :
    (let c : Chip := serving_s6.chip
     let ring : Nat × Nat := tget (0, 0) c.serv.subs 3
     ox oc1 = xferRead c (Agent.plat 3) (fld (servRec c 3) 8 8 + 64 * (ring.2 % 2 ^ fld (servRec c 3) 4 1)) 64 0 0 uDispatch Bound.free)
    ∧ (let c : Chip := serving_s6.chip
       let b : Bytes := slice (ox oc1).bytes 0 64
       let subs : Chip → Nat → Nat → Chip := fun y a b => { y with serv := { y.serv with subs := tput y.serv.subs 3 (a, b) } }
       let taken : Chip → Chip := fun y => subs y (tget (0, 0) y.serv.subs 3).1 (idxNext (tget (0, 0) y.serv.subs 3).2)
       serving_y6 = zeroRange (taken (ox oc1).s) (slotAddr c 3 false 0) (slotSize c 3))
    ∧ (let c : Chip := serving_s30.chip
       serving_y30 = giveCredit { c with cons := { c.cons with inbox := [] } } 2 (sm 7))
    ∧ (let c : Chip := serving_s23.chip
       serving_z23 = pushLayer (match layerDq c r27 with | some d => collectJobs c 101 d | none => c) 101)
    ∧ (let c : Chip := serving_s8.chip
       let ring : Nat × Nat := tget (0, 0) c.serv.subs 3
       ox oc3 = xferRead c (Agent.plat 3) (fld (servRec c 3) 8 8 + 64 * (ring.2 % 2 ^ fld (servRec c 3) 4 1)) 64 0 0 uDispatch Bound.free)
    ∧ (let c : Chip := serving_s9.chip
       let ring : Nat × Nat := tget (0, 0) c.serv.subs 3
       ox oc4 = xferRead c (Agent.plat 3) (fld (servRec c 3) 8 8 + 64 * (ring.2 % 2 ^ fld (servRec c 3) 4 1)) 64 0 0 uDispatch Bound.free)
    ∧ (let c : Chip := serving_s15.chip
       serving_x15 = xferRead c (Agent.plat (rb 1 0).plat) (fld (rb 1 0).b 16 8) (4 * qPrompt (rb 1 0)) 0 0 uDispatch Bound.free)
    ∧ (let c : Chip := serving_s26.chip
       let vocab : Nat := mVocab (mdl c (qModel ro1))
       let a : Nat := slotAddr c ro1.plat false ro1.slot + mKv (mdl c (qModel ro1)) + mAct (mdl c (qModel ro1))
       oxx (lc ro1) ro1 = xferRead c Agent.opn a (4 * vocab) 0 0 uDispatch Bound.free)
    ∧ (let c : Chip := serving_s26.chip
       let vocab : Nat := mVocab (mdl c (qModel ro1))
       oww (lc ro1) ro1 = xferWrite (oxx (lc ro1) ro1).s (Agent.plat ro1.plat) (fld ro1.b 24 8) (logitsOut ro1 vocab (oxx (lc ro1) ro1).bytes) 0 0 uDispatch Bound.free)
    ∧ (let c : Chip := serving_s27.chip
       let vocab : Nat := mVocab (mdl c (qModel ro2))
       let a : Nat := slotAddr c ro2.plat false ro2.slot + mKv (mdl c (qModel ro2)) + mAct (mdl c (qModel ro2))
       oxx (lc ro2) ro2 = xferRead c Agent.opn a (4 * vocab) 0 0 uDispatch Bound.free)
    ∧ (let c : Chip := serving_s27.chip
       let vocab : Nat := mVocab (mdl c (qModel ro2))
       oww (lc ro2) ro2 = xferWrite (oxx (lc ro2) ro2).s (Agent.plat ro2.plat) (fld ro2.b 24 8) (logitsOut ro2 vocab (oxx (lc ro2) ro2).bytes) 0 0 uDispatch Bound.free)
    ∧ (let c : Chip := serving_s31.chip
       serving_y31 = giveCredit { c with cons := { c.cons with inbox := [] } } 2 (sm 2))
    ∧ (let c : Chip := serving_s32.chip
       serving_y32 = giveCredit { c with cons := { c.cons with inbox := [] } } 2 (sm 4))
    ∧ (let c : Chip := serving_s33.chip
       serving_y33 = giveCredit { c with cons := { c.cons with inbox := [] } } 2 (sm 6))
    ∧ (let c : Chip := serving_s7.chip
       let ring : Nat × Nat := tget (0, 0) c.serv.subs 3
       ox oc2 = xferRead c (Agent.plat 3) (fld (servRec c 3) 8 8 + 64 * (ring.2 % 2 ^ fld (servRec c 3) 4 1)) 64 0 0 uDispatch Bound.free)
    ∧ (let c : Chip := serving_s17.chip
       serving_z17 = pushLayer (match layerDq c r21 with | some d => collectJobs c 101 d | none => c) 101)
    ∧ (let c : Chip := serving_s18.chip
       serving_z18 = pushLayer (match layerDq c r22 with | some d => collectJobs c 101 d | none => c) 101)
    ∧ (let c : Chip := serving_s19.chip
       serving_z19 = pushLayer (match layerDq c r23 with | some d => collectJobs c 101 d | none => c) 101)
    ∧ (let c : Chip := serving_s20.chip
       serving_z20 = pushLayer (match layerDq c r24 with | some d => collectJobs c 101 d | none => c) 101)
    ∧ (let c : Chip := serving_s21.chip
       serving_z21 = pushLayer (match layerDq c r25 with | some d => collectJobs c 101 d | none => c) 101)
    ∧ (let c : Chip := serving_s22.chip
       serving_z22 = pushLayer (match layerDq c r26 with | some d => collectJobs c 101 d | none => c) 101) := by
  refine ⟨?_, ?_, ?_, ?_, ?_, ?_, ?_, ?_, ?_, ?_, ?_, ?_, ?_, ?_, ?_, ?_, ?_, ?_, ?_, ?_, ?_⟩ <;> first | rfl | decide +kernel +zetaReduce

end Part20

/-! ### Weights, coupling, relay -/

namespace Part21

def opn (c : Chip) : Chip := withB c [(0x08020,1,leBytes 8 0 ++ leBytes 8 0x4000000),
  (0x08020,2,leBytes 8 0x010000000000 ++ leBytes 8 0x1000000)]
def enr (src : Nat) (s d : Nat) (l : List (Nat × Nat × Nat)) : Bytes := mk 64 ([(0,1,src),(2,2,3),(8,8,s),(24,8,d),
  (32,8,4096)] ++ l)
def hd (n : Nat) (l : List (Nat × Nat × Nat)) : Bytes := mk 64 ([(0,4,0x4E414D4E),(4,2,1),(7,1,2),(8,4,n),(12,4,77),
  (16,8,n*4096),(24,2,5),(26,2,0xFFFF)] ++ l)
def wl (h : Bytes) (es : List Bytes) (f : Chip → Chip) : State :=
  let c := devW up 0x1000 (h ++ es.flatten)
  let c := withB (withOd c [(0x54012,0,4),(0x02023,0,1000000),(0x02805,1,10),(0x02805,2,1000)]) [(0x54040,3,mk 32 [(0,8,0x200000),(8,8,0x200000)])]
  st (f (opn c))
def e2 : Bytes := enr 2 0x010000000000 0x201000 []
def arg0 : Bytes := leBytes 8 0x1000
def L0 : Load := ⟨5, hd 1 [], [e2], [], [], [], 0, 5⟩
def P0 : Piece := ⟨9, 5, e2, 0, 0, 4096, 3⟩
def wy (s : State) (h : Bytes) (es : List Bytes) : Chip := let c := s.chip; let todo := (es.zip (List.range es.length)).flatMap (fun x => if readsEntry c h x.1 then entryPieces x.2 x.1 else []); { c with weights := { c.weights with load := some ⟨c.weights.next, h, es, todo, [], [], relayedBytes c h es, nowNs c⟩, next := c.weights.next + 1 } }
def ss : State := wl (hd 1 []) [e2] id
def sp : State := wl (hd 1 []) [e2] (fun c => { c with mem := { c.mem with poison := [(0x80, true)] } })
def sh : State := wl (hd 0 []) [e2] id
def se : State := wl (hd 1 []) [enr 9 0 0 []] id
def ld (l : Load) (fl : List Piece) (c : Chip) : Chip := { c with weights := { c.weights with load := some l, flying := fl } }
def sb : State := wl (hd 1 []) [e2] (ld L0 [])
def pcs (l : Load) (p : Piece) : State := wl (hd 1 []) [e2] (fun c => withOd (ld l [p] c) [(0x54041,3,1)])
def py (s : State) (p : Piece) : Chip := let c := s.chip; jobEnd { c with weights := { c.weights with flying := c.weights.flying.filter (fun x => x.id != 9) } } p.adm
def pcx (s : State) (p : Piece) : Xfer := xferRead (py s p) .opn (eSrc p.entry + p.off) p.len 0 0 uRelay Bound.free
def pw (x : Xfer) (p : Piece) (d : Bytes) : Xfer := placePiece x.s p.entry (eDst p.entry + p.off) d
def s1 : State := pcs L0 P0
def P0n : Piece := { P0 with entry := enr 2 0x8000 0x201000 [], len := 64 }
def s1n : State := pcs L0 P0n
def s3n : State := let s := pcs L0 P0n; st { s.chip with mem := { s.chip.mem with poison := [(0x8000/32, true)] } }
def P3 : Piece := { P0 with entry := enr 3 0x0 0x201000 [], len := 64 }
def s4 : State := pcs L0 P3
def dd : Bytes := zeros 64
def s5 : State := let s := pcs L0 P3; st { s.chip with weights := { s.chip.weights with load := none } }
def L1 : Load := { L0 with todo := [(0,0,4096)] }
def sb1 : State := wl (hd 1 []) [e2] (ld L1 [])
def hb (r : Nat) : Bytes := hd 1 [(6,1,1),(28,1,r)]
def L2 (r : Nat) (acc : List Nat) : Load := { L0 with hdr := hb r, entries := [enr 2 0 0 [(2,2,0xF)]], accepted := acc }
def sw (r : Nat) (acc : List Nat) : State := wl (hd 1 []) [e2] (fun c => { ld (L2 r acc) [] c with tb := { c.tb with ns := 100000000000 } })
def lk (x : ClLink) (l : List (Nat × Nat × Nat)) : State := let c := withOd up ([(0x60011,3,2),(0x60030,10,4)] ++ l); st { c with cons := { c.cons with links := [(2, x)] } }
def fb (seq ack kind : Nat) (p : Bytes) : RxFlit := let b := (mk 8 [(0,2,seq),(2,2,ack),(4,1,kind)] ++ slice p 0 744); ⟨true, [1,0,0,2], b ++ leBytes 8 (crc64 b)⟩
def fl0 : RxFlit := ⟨false, [1,0,0,2], []⟩
def lo : ClLink := { ClLink.off with credit0 := 50, credit1 := 50 }
def cln (x : ClLink) (f : RxFlit) : Chip := setCl (odAdd64 (odAdd64 (lk x []).chip 0x60022 2 1) 0x60022 3 f.lanes.sum) 2 { x with undec := 0 }
def msB : Bytes := message 2 9 0 3 0 5 0 []
def lb : ClLink := { lo with buf := [(4,[1]),(5,[2])], ackAt := 5 }
def tr (l : List (Nat × Nat × Nat)) (x : ClLink) (force : List Nat) : State := let s := lk x l; st { s.chip with cons := { s.chip.cons with force := force } }
def map0 : Nat := 0 + 8*1 + 64*2 + 512*3 + 4096*4
def frc : List Nat := [55, 0, 0x208, 0,0, 0x8000 + 9 + 5*256, 0,0,0,0,0]
def trc (o l : Nat) : Bytes := leBytes 4 0x4C50434E ++ leBytes 2 1 ++ leBytes 1 o ++ leBytes 1 l ++ leBytes 4 55 ++ leBytes 4 1024 ++ leBytes 4 16384 ++ zeros 724
def slS (n : Nat) : State := let s := tr [(0x60011,3,3)] lo frc; st { s.chip with tb := { s.chip.tb with ns := n } }
def mtS (n : Nat) : State := let s := lk lo [(0x60041,4,1),(0x60032,0,100)]; st { s.chip with cons := { s.chip.cons with lostAt := [(3, n)] } }
def rb (op tgt : Nat) : Bytes := mk 64 [(0,1,op),(2,1,0xFF),(4,1,tgt),(6,2,5),(8,2,0xFFFF),(10,2,0xFFFF),(16,8,0x1000),
  (24,8,0x2000),(32,8,128)]
def E (b : Bytes) (a : Nat) : PqEntry := ⟨7, a, b⟩
def rs (e : PqEntry) (f : Consist → Consist) (l : List (Nat × Nat × Nat)) : State := let c := withPq (opn (withOd up ([(0x60032,0,100)] ++ l))) (32+3) 16 ⟨[e], 0, [], none⟩; st { c with cons := f c.cons }
def rop (b : Bytes) : RelayOp := ⟨3, 7, b, 1, 0, [], 0, 0, [], 0, [], 0, 0, 0xFF, 5, 0, none⟩
def rr1 : RelayOp := ⟨3, 7, rb 0x60 9, 1, 0, [], 0, 0, [], 0, [], 0, 0, 9, 1000000000, 0, some 5⟩
def og : RelayOp := { rop (rb 0x61 9) with since := 5 }
def og2 : RelayOp := { rop (rb 0x61 9) with since := 1000000000 }
def oc : RelayOp := { rop (rb 0x60 9) with status := some 0, adm := 0 }
def s6 : State := rs (E (rb 0x60 9) 1) (fun x => { x with ops := [oc] }) []
def s7 : State := rs (E (rb 0x60 9) 1) (fun x => { x with ops := [oc] }) []
def s8 : State := rs (E (rb 0x60 9) 1) id []
def ix (m : Bytes) (f : Consist → Consist) (b : List (Nat × Nat × Bytes)) : State := let s := lk lo []; let c := withB s.chip b; st { c with cons := f { c.cons with inbox := [(2, m)] } }
def ixd (f : Consist → Consist) (m : Bytes) : State := st { up with cons := f { up.cons with inbox := [(2, m)] } }
def iy (s : State) (m : Bytes) : Chip := giveCredit { s.chip with cons := { s.chip.cons with inbox := [] } } 2 m
def ma (q sig v : Nat) : Bytes := message 1 9 0 0xFF 0 (q % 65536) (sig + v * 65536) []
def zz (s : State) (m : Bytes) : Chip := let y := iy s m; sendMsg y (message 2 (ownOrd y) (msgSrc m) (fld m 2 1) 0 (addSeq m % 65536) (addSeq m / 65536 * 2 ^ 48) [])
def na (x : Consist) : Consist := { x with nextApply := [(9, 3)] }
def mk2 : Bytes := message 2 9 0 0xFF 0 1 0 []
def m3 (p : Nat) : Bytes := message 3 9 0 p 0 1 0x4000 [1,2,3,4]
def mx (s : State) (m : Bytes) : Xfer := xferWrite (iy s m) (if fld m 2 1 = 0xFF then .phys else .plat (fld m 2 1)) 0x4000 [1,2,3,4] 0 0 uRelay Bound.free
def mz (s : State) (m : Bytes) : Chip := odAdd64 (mx s m).s 0x60090 3 4
def ib : List (Nat × Nat × Bytes) := [(0x60050,1,leBytes 8 0 ++ leBytes 8 0x10000)]
def i3 : State := let s := ix (m3 3) id []; let c := map3 (pl3 s.chip 1); st c
def m4 (st : Nat) : Bytes := message 4 9 0 0xFF 0 0 0x4000 [BitVec.ofNat 8 st]
def cp (l : List (Nat × Nat × Nat)) : RelayOp := { rop (rb 0x60 9) with msgs := l }
def so (r : RelayOp) (x : Consist) : Consist := { x with ops := [r] }
def gr (r : RelayOp) (x : Consist) : Consist := { x with ops := [r], groupOps := [(4, 1)] }
def gop : RelayOp := rop (rb 0x61 4)
def fm (op : Nat) : Bytes := message 5 9 0 0xFF 0 (groupTag 0 4 0) addrFirst (leBytes 1 op ++ leBytes 1 0 ++ zeros 2 ++ leBytes 4 0 ++ leBytes 8 128)
def ng (x : Consist) : Consist := { x with groupOps := [(4, 1)] }
def dm : Bytes := message 5 9 0 0xFF 0 (groupTag 0 4 0) 0x2000 (zeros 64)
def gop2 : RelayOp := { gop with seen := [0x2000] }
def m7 : Bytes := message 7 9 0 0xFF 0 0 0 []
def i7 : State := let s := ix m7 id []; st (withOd s.chip [(0x60041,10,2)])
def weightLoads_s20 : State := sw 0 []
def weightLoads_z20 : Chip := noteAccepted (sw 0 []).chip []
def weightLoads_y14 : Chip := py s5 P3
def weightLoads_y0 : Chip := wy ss (hd 1 []) [e2]
def weightLoads_y7 : Chip := py s1 P0
def weightLoads_w10 : Xfer := pw (pcx s1n P0n) P0n (pcx s1n P0n).bytes
def weightLoads_y10 : Chip := py s1n P0n
def weightLoads_y11 : Chip := py s3n P0n
def weightLoads_w12 : Xfer := pw ⟨0,[],0,py s4 P3⟩ P3 dd
def weightLoads_y12 : Chip := py s4 P3
def weightLoads_y13 : Chip := py s4 P3
def weightLoads_y15 : Chip := noteAccepted sb.chip []
def weightLoads_y16 : Chip := noteAccepted sb1.chip []
def weightLoads_l18 : Load := { L0 with accepted := [] }
def weightLoads_w18 : Xfer := placePiece sb.chip e2 0x201000 [1,2]
def weightLoads_s21 : State := sw 0 [3]
def weightLoads_z21 : Chip := noteAccepted (sw 0 [3]).chip []
def weightLoads_s22 : State := sw 3 []
def weightLoads_z22 : Chip := noteAccepted (sw 3 []).chip []
def flits_s30 : State := lk lb []
def flits_y30 : Chip := ackFlits (lk lb []).chip 2 4
def flits_s29 : State := lk lo []
def flits_s24 : State := lk { lo with reqAt := some 7 } []
def flits_s25 : State := lk lo []
def flits_f25 : RxFlit := ⟨true, [], zeros 752 ++ [1]⟩
def flits_s26 : State := lk lo []
def flits_s27 : State := lk lo []
def flits_y27 : Chip := ackFlits (cln lo (fb 9 65535 1 [])) 2 65535
def flits_s28 : State := lk lo []
def flits_s32 : State := lk { lb with ackAt := 1000000000 } []
def flits_s33 : State := lk { lb with reqAt := some 1000000000 } []
def flits_s31 : State := lk lb []
def flits_y31 : Chip := ackFlits (lk lb []).chip 2 5
def linksAndMembers_s34 : State := lk { lo with resends := 16 } []
def linksAndMembers_s43 : State := slS 1022000000
def linksAndMembers_s36 : State := lk lo [(0x60012,3,map0 + 3*4096)]
def linksAndMembers_s38 : State := tr [(0x60011,3,1)] lo frc
def linksAndMembers_s35 : State := lk lo []
def linksAndMembers_s44 : State := mtS 5
def linksAndMembers_s45 : State := mtS 1000000000
def relayOperations_s46 : State := rs (E (rb 0x60 9) 1) id []
def relayOperations_s51 : State := rs (E (rb 0x61 9) 1) (fun x => { x with ops := [og] }) []
def relayOperations_y53 : Chip := { s6.chip with cons := { s6.chip.cons with ops := [] } }
def relayOperations_s54 : State := rs (E (rb 0x61 9) 1) (fun x => { x with ops := [og2], leaving := some 5 }) []
def relayOperations_s49 : State := rs (E (rb 0x61 9) 1) id []
def relayOperations_y57 : Chip := { s8.chip with cons := { s8.chip.cons with leaving := some 1000000000 } }
def relayOperations_s58 : State := rs (E (rb 0x60 9) 1) id [(0x60042,0,1)]
def relayOperations_s47 : State := rs (E (rb 0x60 9) 0) id []
def relayOperations_s48 : State := rs (E (rb 0x61 9) 1) id []
def relayOperations_s50 : State := rs (E (rb 0x60 9) 1) id [(0x60041,10,2)]
def relayOperations_y56 : Chip := { s7.chip with cons := { s7.chip.cons with leaving := some 1000000000 } }
def relayMessages_s63 : State := ix (m3 0xFF) id []
def relayMessages_y63 : Chip := iy (ix (m3 0xFF) id []) (m3 0xFF)
def relayMessages_s59 : State := ixd id (ma 0 3 5)
def relayMessages_y59 : Chip := iy (ixd id (ma 0 3 5)) (ma 0 3 5)
def relayMessages_z59 : Chip := zz (ixd id (ma 0 3 5)) (ma 0 3 5)
def relayMessages_s60 : State := ixd id (ma 1 3 5)
def relayMessages_y60 : Chip := iy (ixd id (ma 1 3 5)) (ma 1 3 5)
def relayMessages_z60 : Chip := zz (ixd id (ma 1 3 5)) (ma 1 3 5)
def relayMessages_s61 : State := ixd na (ma 1 3 5)
def relayMessages_y61 : Chip := iy (ixd na (ma 1 3 5)) (ma 1 3 5)
def relayMessages_z61 : Chip := zz (ixd na (ma 1 3 5)) (ma 1 3 5)
def relayMessages_s62 : State := ix mk2 id []
def relayMessages_y62 : Chip := iy (ix mk2 id []) mk2
def relayMessages_s64 : State := ix (m3 0xFF) id ib
def relayMessages_x64 : Xfer := mx (ix (m3 0xFF) id ib) (m3 0xFF)
def relayMessages_y64 : Chip := iy (ix (m3 0xFF) id ib) (m3 0xFF)
def relayMessages_z64 : Chip := mz (ix (m3 0xFF) id ib) (m3 0xFF)
def relayMessages_y65 : Chip := iy i3 (m3 3)
def relayMessages_z65 : Chip := mz i3 (m3 3)
def relayMessages_s66 : State := ix (m4 0) id []
def relayMessages_y66 : Chip := iy (ix (m4 0) id []) (m4 0)
def relayMessages_s67 : State := ix (m4 0) (so (cp [(0x4000,64,0)])) []
def relayMessages_y67 : Chip := iy (ix (m4 0) (so (cp [(0x4000,64,0)])) []) (m4 0)
def relayMessages_s68 : State := ix (m4 0) (so (cp [(0x4000,64,0),(0x5000,64,0)])) []
def relayMessages_r68 : RelayOp := cp [(0x4000,64,0),(0x5000,64,0)]
def relayMessages_y68 : Chip := iy (ix (m4 0) (so (cp [(0x4000,64,0),(0x5000,64,0)])) []) (m4 0)
def relayMessages_s69 : State := ix (m4 2) (so (cp [(0x4000,64,0)])) []
def relayMessages_y69 : Chip := iy (ix (m4 2) (so (cp [(0x4000,64,0)])) []) (m4 2)
def relayMessages_s70 : State := ix (fm 0x61) id []
def relayMessages_y70 : Chip := iy (ix (fm 0x61) id []) (fm 0x61)
def relayMessages_s71 : State := ix (fm 0x61) ng []
def relayMessages_y71 : Chip := iy (ix (fm 0x61) ng []) (fm 0x61)
def relayMessages_s72 : State := ix (fm 0x61) (gr gop) []
def relayMessages_y72 : Chip := iy (ix (fm 0x61) (gr gop) []) (fm 0x61)
def relayMessages_s73 : State := ix (fm 0x62) (gr gop) []
def relayMessages_y73 : Chip := iy (ix (fm 0x62) (gr gop) []) (fm 0x62)
def relayMessages_s74 : State := ix dm (gr gop) []
def relayMessages_y74 : Chip := iy (ix dm (gr gop) []) dm
def relayMessages_s75 : State := ix dm (gr gop2) []
def relayMessages_y75 : Chip := iy (ix dm (gr gop2) []) dm
def relayMessages_s76 : State := ix m7 id []
def relayMessages_y76 : Chip := iy (ix m7 id []) m7
def relayMessages_y77 : Chip := iy i7 m7

/-- Hypotheses of WeightLoads (O58) are met. -/
theorem witness_WeightLoadPieces :
    (let c : Chip := weightLoads_s20.chip
     let mine : Option Bytes := List.find? (fun e => bit (eOrds e) (ownOrd c) && decide (eDst e ≤ 0x201000) && decide (0x201000 + [1,
         2].length ≤ eDst e + eLen e)) (L2 0 []).entries
     let wait : Nat := ms (odN weightLoads_z20 0x54013 0)
     Accepted weightLoads_s20 rP 0x54011 [] ∧ c.weights.load = some (L2 0 []) ∧ fld (L2 0 []).hdr 26 2 = 0xffff
       ∧ lBank (L2 0 []).hdr < 16 ∧ (List.find? (fun p => p.id == 9) c.weights.flying = none) ∧ 3 < 16
       ∧ (mine = none ∨ lId (L2 0 []).hdr ≠ 78) ∧ weightLoads_z20.weights.load = some (L2 0 [])
       ∧ lBroadcast (L2 0 []).hdr = true ∧ lReader (L2 0 []).hdr = ownOrd weightLoads_z20 ∧ 3 ≠ ownOrd weightLoads_z20
       ∧ (∃ e ∈ (L2 0 []).entries, bit (eOrds e) 3 = true) ∧ 3 ∉ (L2 0 []).accepted
       ∧ (L2 0 []).since + wait ≤ nowNs weightLoads_z20)
    ∧ (let c : Chip := s5.chip
       Accepted s5 rP 0x54011 [] ∧ c.weights.load = none ∧ (List.find? (fun p => p.id == 9) c.weights.flying = some P3)
         ∧ eSource P3.entry = 3 ∧ 3 < 16)
    ∧ (let c : Chip := ss.chip
       let h : Bytes := peek c (leNat arg0) 64
       let n : Nat := min (fld h 8 4) 0x10001
       let es : List Bytes := List.map (fun i => peek c (leNat arg0 + 64 + 64 * i) 64) (List.range n)
       let todo : List (Nat × Nat × Nat) := List.flatMap (fun x => if readsEntry c h x.1 = true then entryPieces x.2 x.1 else []) (es.zip (List.range n))
       Accepted ss rP 0x54010 arg0 ∧ inOpenRanges c (leNat arg0) 64 = true ∧ inOpenRanges c (leNat arg0) (64 + 64 * n) = true
         ∧ poisoned c (leNat arg0) 64 = false ∧ headerBad h es = false ∧ firstBad c h es 0 es = none ∧ loadBusy c h es = false)
    ∧ (let c : Chip := sp.chip
       let h : Bytes := peek c (leNat arg0) 64
       let n : Nat := min (fld h 8 4) 0x10001
       Accepted sp rP 0x54010 arg0 ∧ inOpenRanges c (leNat arg0) 64 = true ∧ inOpenRanges c (leNat arg0) (64 + 64 * n) = true
         ∧ poisoned c (leNat arg0) 64 = true)
    ∧ (let c : Chip := sh.chip
       let h : Bytes := peek c (leNat arg0) 64
       let n : Nat := min (fld h 8 4) 0x10001
       let es : List Bytes := List.map (fun i => peek c (leNat arg0 + 64 + 64 * i) 64) (List.range n)
       Accepted sh rP 0x54010 arg0 ∧ inOpenRanges c (leNat arg0) 64 = true ∧ inOpenRanges c (leNat arg0) (64 + 64 * n) = true
         ∧ poisoned c (leNat arg0) 64 = false ∧ headerBad h es = true)
    ∧ (let c : Chip := se.chip
       let h : Bytes := peek c (leNat arg0) 64
       let n : Nat := min (fld h 8 4) 0x10001
       let es : List Bytes := List.map (fun i => peek c (leNat arg0 + 64 + 64 * i) 64) (List.range n)
       Accepted se rP 0x54010 arg0 ∧ inOpenRanges c (leNat arg0) 64 = true ∧ inOpenRanges c (leNat arg0) (64 + 64 * n) = true
         ∧ poisoned c (leNat arg0) 64 = false ∧ headerBad h es = false ∧ firstBad c h es 0 es = some 0)
    ∧ (let c : Chip := s1.chip
       (List.find? (fun p => p.id == 9) c.weights.flying = some P0) ∧ c.weights.load = some L0 ∧ P0.load = L0.id
         ∧ bit (eOrds P0.entry) (ownOrd c) = true ∧ lBroadcast L0.hdr = false ∧ (eSource P0.entry = 2 ∨ eSource P0.entry = 4)
         ∧ (pcx s1 P0).st = 1)
    ∧ (let at_ : Nat := eDst P0n.entry + P0n.off
       let c : Chip := s1n.chip
       (List.find? (fun p => p.id == 9) c.weights.flying = some P0n) ∧ c.weights.load = some L0 ∧ P0n.load = L0.id
         ∧ bit (eOrds P0n.entry) (ownOrd c) = true ∧ lBroadcast L0.hdr = false
         ∧ (eSource P0n.entry = 2 ∨ eSource P0n.entry = 4) ∧ (pcx s1n P0n).st = 0 ∧ weightLoads_w10.st = 0)
    ∧ (let c : Chip := s3n.chip
       (List.find? (fun p => p.id == 9) c.weights.flying = some P0n) ∧ c.weights.load = some L0 ∧ P0n.load = L0.id
         ∧ bit (eOrds P0n.entry) (ownOrd c) = true ∧ lBroadcast L0.hdr = false
         ∧ (eSource P0n.entry = 2 ∨ eSource P0n.entry = 4) ∧ (pcx s3n P0n).st = 2)
    ∧ (let at_ : Nat := eDst P3.entry + P3.off
       let c : Chip := s4.chip
       (List.find? (fun p => p.id == 9) c.weights.flying = some P3) ∧ c.weights.load = some L0 ∧ P3.load = L0.id
         ∧ bit (eOrds P3.entry) (ownOrd c) = true ∧ lBroadcast L0.hdr = false ∧ eSource P3.entry = 3 ∧ weightLoads_w12.st = 0)
    ∧ (let c : Chip := s4.chip
       (List.find? (fun p => p.id == 9) c.weights.flying = some P3) ∧ c.weights.load = some L0 ∧ P3.load = L0.id
         ∧ bit (eOrds P3.entry) (ownOrd c) = true ∧ 7 ≠ 0 ∧ eSource P3.entry ≠ 1)
    ∧ (let c : Chip := sb.chip
       let h : Bytes := peek c (leNat arg0) 64
       let n : Nat := min (fld h 8 4) 0x10001
       let es : List Bytes := List.map (fun i => peek c (leNat arg0 + 64 + 64 * i) 64) (List.range n)
       Accepted sb rP 0x54010 arg0 ∧ inOpenRanges c (leNat arg0) 64 = true ∧ inOpenRanges c (leNat arg0) (64 + 64 * n) = true
         ∧ poisoned c (leNat arg0) 64 = false ∧ headerBad h es = false ∧ firstBad c h es 0 es = none ∧ loadBusy c h es = true)
    ∧ (let c : Chip := sb.chip
       weightLoads_y15.weights.load = some L0 ∧ L0.todo = [] ∧ (∀ p ∈ weightLoads_y15.weights.flying, p.load ≠ L0.id)
         ∧ L0.toRelay = [] ∧ L0.expect = 0 ∧ (receivers weightLoads_y15 L0 = [] ∨ true = true))
    ∧ (let c : Chip := sb1.chip
       weightLoads_y16.weights.load = some L1 ∧ (L1.todo ≠ [] ∨ L1.expect ≠ 0))
    ∧ (let c : Chip := sb.chip
       let mine : Option Bytes := List.find? (fun e => bit (eOrds e) (ownOrd c) && decide (eDst e ≤ 0x201000) && decide (0x201000 + [1,
           2].length ≤ eDst e + eLen e)) weightLoads_l18.entries
       3 < 16 ∧ c.weights.load = some weightLoads_l18 ∧ mine = some e2 ∧ lId weightLoads_l18.hdr = 77 ∧ weightLoads_w18.st = 0)
    ∧ (let c : Chip := weightLoads_s21.chip
       weightLoads_z21.weights.load = some (L2 0 [3]) ∧ 3 < 16 ∧ lBroadcast (L2 0 [3]).hdr = true
         ∧ lReader (L2 0 [3]).hdr = ownOrd weightLoads_z21 ∧ 3 ≠ ownOrd weightLoads_z21 ∧ (∃ e ∈ (L2 0 [3]).entries,
         bit (eOrds e) 3 = true) ∧ 3 ∈ (L2 0 [3]).accepted)
    ∧ (let wait : Nat := ms (odN weightLoads_z22 0x54013 0)
       let c : Chip := weightLoads_s22.chip
       weightLoads_z22.weights.load = some (L2 3 []) ∧ 3 < 16 ∧ lBroadcast (L2 3 []).hdr = true ∧ lReader (L2 3 []).hdr = 3
         ∧ 3 ≠ ownOrd weightLoads_z22 ∧ routeUp weightLoads_z22 3 = false
         ∧ max (L2 3 []).since (tget 0 weightLoads_z22.cons.lostAt 3) + wait < nowNs weightLoads_z22) := by
  refine ⟨?_, ?_, ?_, ?_, ?_, ?_, ?_, ?_, ?_, ?_, ?_, ?_, ?_, ?_, ?_, ?_, ?_⟩ <;> decide +kernel +zetaReduce

/-- Operands that WeightLoads (O58) defines by an equation. -/
theorem witness_WeightLoadPieces_operands :
    (let c : Chip := weightLoads_s20.chip
     weightLoads_z20 = noteAccepted c [])
    ∧ (let c : Chip := s5.chip
       weightLoads_y14 = jobEnd { c with weights := have __src := c.weights; { load := __src.load, flying := List.filter (fun x => x.id != 9) c.weights.flying, next := __src.next } } P3.adm)
    ∧ (let c : Chip := ss.chip
       let h : Bytes := peek c (leNat arg0) 64
       let n : Nat := min (fld h 8 4) 0x10001
       let es : List Bytes := List.map (fun i => peek c (leNat arg0 + 64 + 64 * i) 64) (List.range n)
       let todo : List (Nat × Nat × Nat) := List.flatMap (fun x => if readsEntry c h x.1 = true then entryPieces x.2 x.1 else []) (es.zip (List.range n))
       weightLoads_y0 = { c with weights := have __src := c.weights; { load := some { id := c.weights.next, hdr := h, entries := es, todo := todo, toRelay := [], accepted := [], expect := relayedBytes c h es, since := nowNs c }, flying := __src.flying, next := c.weights.next + 1 } })
    ∧ (let c : Chip := s1.chip
       weightLoads_y7 = jobEnd { c with weights := have __src := c.weights; { load := __src.load, flying := List.filter (fun x => x.id != 9) c.weights.flying, next := __src.next } } P0.adm)
    ∧ (pcx s1 P0 = xferRead weightLoads_y7 Agent.opn (eSrc P0.entry + P0.off) P0.len 0 0 uRelay Bound.free)
    ∧ (let c : Chip := s1n.chip
       weightLoads_y10 = jobEnd { c with weights := have __src := c.weights; { load := __src.load, flying := List.filter (fun x => x.id != 9) c.weights.flying, next := __src.next } } P0n.adm)
    ∧ (pcx s1n P0n = xferRead weightLoads_y10 Agent.opn (eSrc P0n.entry + P0n.off) P0n.len 0 0 uRelay Bound.free)
    ∧ (let at_ : Nat := eDst P0n.entry + P0n.off
       weightLoads_w10 = placePiece (pcx s1n P0n).s P0n.entry at_ (pcx s1n P0n).bytes)
    ∧ (let c : Chip := s3n.chip
       weightLoads_y11 = jobEnd { c with weights := have __src := c.weights; { load := __src.load, flying := List.filter (fun x => x.id != 9) c.weights.flying, next := __src.next } } P0n.adm)
    ∧ (pcx s3n P0n = xferRead weightLoads_y11 Agent.opn (eSrc P0n.entry + P0n.off) P0n.len 0 0 uRelay Bound.free)
    ∧ (let c : Chip := s4.chip
       weightLoads_y12 = jobEnd { c with weights := have __src := c.weights; { load := __src.load, flying := List.filter (fun x => x.id != 9) c.weights.flying, next := __src.next } } P3.adm)
    ∧ (let at_ : Nat := eDst P3.entry + P3.off
       weightLoads_w12 = placePiece (⟨0, [], 0, weightLoads_y12⟩ : Xfer).s P3.entry at_ (slice dd 0 P3.len))
    ∧ (let c : Chip := s4.chip
       weightLoads_y13 = jobEnd { c with weights := have __src := c.weights; { load := __src.load, flying := List.filter (fun x => x.id != 9) c.weights.flying, next := __src.next } } P3.adm)
    ∧ (let c : Chip := sb.chip
       weightLoads_y15 = noteAccepted c [])
    ∧ (let c : Chip := sb1.chip
       weightLoads_y16 = noteAccepted c [])
    ∧ (let c : Chip := sb.chip
       weightLoads_w18 = placePiece c e2 0x201000 [1, 2])
    ∧ (let c : Chip := weightLoads_s21.chip
       weightLoads_z21 = noteAccepted c [])
    ∧ (let c : Chip := weightLoads_s22.chip
       weightLoads_z22 = noteAccepted c []) := by
  refine ⟨?_, ?_, ?_, ?_, ?_, ?_, ?_, ?_, ?_, ?_, ?_, ?_, ?_, ?_, ?_, ?_, ?_, ?_⟩ <;> first | rfl | decide +kernel +zetaReduce

/-- Hypotheses of Flits (O59, CouplingLinks) are met. -/
theorem witness_Flits :
    (let c : Chip := flits_s30.chip
     let link : ClLink := clLink c 2
     let now : Nat := nowNs c
     2 < 8 ∧ clUp flits_s30.chip 2 = true ∧ fl0.decoded = false ∧ link.reqAt = none ∧ (clLink flits_y30 2).buf ≠ []
       ∧ link.buf ≠ [] ∧ link.ackAt + 2000 ≤ now)
    ∧ (let c : Chip := flits_s29.chip
       let link : ClLink := clLink c 2
       let kind : Nat := fld (fb 0 0xffff 1 msB).b 4 1
       let good : Prop := (fb 0 0xffff 1 msB).decoded = true
           ∧ crc64 (slice (fb 0 0xffff 1 msB).b 0 752) = fld (fb 0 0xffff 1 msB).b 752 8
       2 < 8 ∧ clUp flits_s29.chip 2 = true ∧ good ∧ kind = 1 ∧ fld (fb 0 0xffff 1 msB).b 0 2 = link.expectF
         ∧ (splitMsgs 94 (link.part ++ slice (fb 0 0xffff 1 msB).b 8 744)).1 = [msB] ∧ msgBad msB = false
         ∧ msgDst msB = ownOrd c)
    ∧ (let c : Chip := flits_s24.chip
       let link : ClLink := clLink c 2
       let now : Nat := nowNs c
       2 < 8 ∧ clUp flits_s24.chip 2 = true ∧ fl0.decoded = false ∧ link.reqAt = some 7 ∧ 7 + 256 ≤ now)
    ∧ (let c : Chip := flits_s25.chip
       let link : ClLink := clLink c 2
       2 < 8 ∧ clUp flits_s25.chip 2 = true ∧ flits_f25.decoded = true
         ∧ crc64 (slice flits_f25.b 0 752) ≠ fld flits_f25.b 752 8 ∧ link.reqAt = none)
    ∧ (let kind : Nat := fld (fb 9 0xffff 2 []).b 4 1
       let good : Prop := (fb 9 0xffff 2 []).decoded = true
           ∧ crc64 (slice (fb 9 0xffff 2 []).b 0 752) = fld (fb 9 0xffff 2 []).b 752 8
       2 < 8 ∧ clUp flits_s26.chip 2 = true ∧ good ∧ 1 < kind)
    ∧ (let c : Chip := flits_s27.chip
       let o : Nat := 0x60020 + 2
       let counted : Chip := odAdd64 (odAdd64 c o 2 1) o 3 (fb 9 0xffff 1 []).lanes.sum
       let link : ClLink := clLink c 2
       let clean : Chip := setCl counted 2 { link with undec := 0 }
       let kind : Nat := fld (fb 9 0xffff 1 []).b 4 1
       let good : Prop := (fb 9 0xffff 1 []).decoded = true
           ∧ crc64 (slice (fb 9 0xffff 1 []).b 0 752) = fld (fb 9 0xffff 1 []).b 752 8
       2 < 8 ∧ clUp flits_s27.chip 2 = true ∧ good ∧ kind = 1 ∧ fld (fb 9 0xffff 1 []).b 0 2 ≠ link.expectF
         ∧ (clLink flits_y27 2).reqAt = none)
    ∧ (let kind : Nat := fld (fb 9 0xffff 0 []).b 4 1
       let good : Prop := (fb 9 0xffff 0 []).decoded = true
           ∧ crc64 (slice (fb 9 0xffff 0 []).b 0 752) = fld (fb 9 0xffff 0 []).b 752 8
       2 < 8 ∧ clUp flits_s28.chip 2 = true ∧ good ∧ kind = 0)
    ∧ (let c : Chip := flits_s32.chip
       let now : Nat := nowNs c
       let link : ClLink := clLink c 2
       2 < 8 ∧ clUp flits_s32.chip 2 = true ∧ link.buf ≠ [] ∧ now < link.ackAt + 2000)
    ∧ (let c : Chip := flits_s33.chip
       let now : Nat := nowNs c
       let link : ClLink := clLink c 2
       2 < 8 ∧ clUp flits_s33.chip 2 = true ∧ link.reqAt = some 1000000000 ∧ now < 1000000000 + 256)
    ∧ (let c : Chip := flits_s31.chip
       2 < 8 ∧ clUp flits_s31.chip 2 = true ∧ (clLink flits_y31 2).buf = []) := by
  refine ⟨?_, ?_, ?_, ?_, ?_, ?_, ?_, ?_, ?_, ?_⟩ <;> decide +kernel +zetaReduce

/-- Operands that Flits (O59, CouplingLinks) defines by an equation. -/
theorem witness_Flits_operands :
    (let c : Chip := flits_s30.chip
     flits_y30 = ackFlits c 2 4)
    ∧ (let c : Chip := flits_s27.chip
       let o : Nat := 0x60020 + 2
       let counted : Chip := odAdd64 (odAdd64 c o 2 1) o 3 (fb 9 0xffff 1 []).lanes.sum
       let link : ClLink := clLink c 2
       let clean : Chip := setCl counted 2 { link with undec := 0 }
       flits_y27 = ackFlits clean 2 (fld (fb 9 0xffff 1 []).b 2 2))
    ∧ (let c : Chip := flits_s31.chip
       flits_y31 = ackFlits c 2 5) := by
  refine ⟨?_, ?_, ?_⟩ <;> first | rfl | decide +kernel +zetaReduce

/-- Hypotheses of LinksAndMembers (O59, CouplingLinks) are met. -/
theorem witness_LinksAndMembers :
    (let c : Chip := linksAndMembers_s34.chip
     let link : ClLink := clLink c 2
     let map : Nat := odN c 0x60012 (2 + 1)
     2 < 8 ∧ clUp c 2 = true ∧ (16 ≤ link.resends ∨ 8 ≤ link.undec) ∧ 1 < 5 ∧ link.badLanes.contains 1 = false
       ∧ fenced c (uLane 2 1) = false ∧ (logicalOf map 1).isSome = true ∧ spareLane c 2 = 4 ∧ 4 ≠ 7 ∧ 5 < 0x10000
       ∧ mayTrain c 2 = false ∧ inSlot c = false)
    ∧ (let c : Chip := linksAndMembers_s43.chip
       let held : Bool := false && memberState c (fld [] 6 1) == 0
       2 < 8 ∧ mayTrain c 2 = true ∧ clUp c 2 = false ∧ (recordOk c 2 [] = false ∨ true = false ∨ held = true)
         ∧ inSlot c = true ∧ 0 < 8)
    ∧ (let c : Chip := linksAndMembers_s36.chip
       let map : Nat := odN c 0x60012 (2 + 1)
       let link : ClLink := clLink c 2
       2 < 8 ∧ clUp c 2 = true ∧ spareLane c 2 = 7 ∧ 1 < 5 ∧ link.badLanes.contains 1 = false ∧ fenced c (uLane 2 1) = false
         ∧ (logicalOf map 1).isSome = true ∧ 5 < 0x10000 ∧ spareLane c 2 ≠ 4)
    ∧ (let c : Chip := linksAndMembers_s38.chip
       let held : Bool := false && memberState c (fld (trc 9 5) 6 1) == 0
       2 < 8 ∧ mayTrain c 2 = true ∧ clUp c 2 = false ∧ recordOk c 2 (trc 9 5) = true ∧ held = false)
    ∧ (let c : Chip := linksAndMembers_s35.chip
       let link : ClLink := clLink c 2
       2 < 8 ∧ clUp c 2 = true ∧ link.resends < 16 ∧ link.undec < 8)
    ∧ (let c : Chip := linksAndMembers_s44.chip
       2 < 8 ∧ 3 < 16 ∧ memberState c 3 = 1 ∧ tget 0 c.cons.lostAt 3 + ms (odN c 0x60032 0) ≤ nowNs c)
    ∧ (let c : Chip := linksAndMembers_s45.chip
       2 < 8 ∧ 3 < 16 ∧ memberState c 3 = 1 ∧ nowNs c < tget 0 c.cons.lostAt 3 + ms (odN c 0x60032 0)) := by
  refine ⟨?_, ?_, ?_, ?_, ?_, ?_, ?_⟩ <;> decide +kernel +zetaReduce

/-- Hypotheses of RelayOperations (O60, Relay) are met. -/
theorem witness_RelayOperations :
    (let c : Chip := relayOperations_s46.chip
     let rows : List (Nat × Instr) := [(96, Instr.copy 3), (97, Instr.broadcast 3), (98, Instr.allGather 3), (99,
         Instr.reduceScatter 3), (100, Instr.allReduce 3)]
     3 < 16 ∧ (portQ c (32 + 3)).waiting = [E (rb 96 9) 1] ∧ tagTaken c = false ∧ (96, Instr.copy 3) ∈ rows
       ∧ rOp (E (rb 96 9) 1).b = (96, Instr.copy 3).1 ∧ relayInvalid c (portCore c (32 + 3)) (E (rb 96 9) 1).b = false
       ∧ (E (rb 96 9) 1).adm ≠ 0 ∧ c.cons.leaving = none ∧ (97, Instr.broadcast 3) ∈ rows ∧ rOp (E (rb 96 9) 1).b ≠ (97,
       Instr.broadcast 3).1)
    ∧ (let c : Chip := relayOperations_s51.chip
       let now : Nat := nowNs c
       opOf c 0 = some og ∧ isGroupOp (rOp og.b) = true ∧ og.since + ms (odN c 0x60032 0) < now ∧ og.status = none
         ∧ c.cons.leaving = none)
    ∧ (let c : Chip := s6.chip
       let cons : Chip → Consist → Chip := fun y x => { y with cons := x }
       opOf c 0 = some oc ∧ oc.status = some 0 ∧ c.cons.leaving = none ∧ oc.queue = 3 ∧ 3 < 16 ∧ oc.adm = 0
         ∧ rSignal oc.b = 0xffff ∧ rRemote oc.b = 0xffff)
    ∧ (let c : Chip := relayOperations_s54.chip
       let now : Nat := nowNs c
       opOf c 0 = some og2 ∧ isGroupOp (rOp og2.b) = true ∧ now ≤ og2.since + ms (odN c 0x60032 0) ∧ og2.status = none
         ∧ c.cons.leaving = some 5 ∧ 5 + ms 100 ≤ now)
    ∧ (let rows : List (Nat × Instr) := [(96, Instr.copy 4), (97, Instr.broadcast 4), (98, Instr.allGather 4), (99,
           Instr.reduceScatter 4), (100, Instr.allReduce 4)]
       let c : Chip := relayOperations_s49.chip
       4 < 16 ∧ (portQ c (32 + 4)).waiting = [] ∧ (96, Instr.copy 4) ∈ rows)
    ∧ (let c : Chip := s8.chip
       let cons : Chip → Consist → Chip := fun y x => { y with cons := x }
       let now : Nat := nowNs c
       Accepted s8 rP 0x60040 [] ∧ odN c 0x60042 0 = 0 ∧ c.cons.leaving = none ∧ c.cons.ops = [])
    ∧ (let c : Chip := relayOperations_s58.chip
       Accepted relayOperations_s58 rP 0x60040 [] ∧ odN c 0x60042 0 = 1)
    ∧ (let c : Chip := relayOperations_s47.chip
       let rows : List (Nat × Instr) := [(96, Instr.copy 3), (97, Instr.broadcast 3), (98, Instr.allGather 3), (99,
           Instr.reduceScatter 3), (100, Instr.allReduce 3)]
       3 < 16 ∧ (portQ c (32 + 3)).waiting = [E (rb 96 9) 0] ∧ tagTaken c = false ∧ (96, Instr.copy 3) ∈ rows
         ∧ rOp (E (rb 96 9) 0).b = (96, Instr.copy 3).1 ∧ relayInvalid c (portCore c (32 + 3)) (E (rb 96 9) 0).b = false
         ∧ ((E (rb 96 9) 0).adm = 0 ∨ c.cons.leaving.isSome = true))
    ∧ (let c : Chip := relayOperations_s48.chip
       let rows : List (Nat × Instr) := [(96, Instr.copy 3), (97, Instr.broadcast 3), (98, Instr.allGather 3), (99,
           Instr.reduceScatter 3), (100, Instr.allReduce 3)]
       3 < 16 ∧ (portQ c (32 + 3)).waiting = [E (rb 97 9) 1] ∧ tagTaken c = false ∧ (97, Instr.broadcast 3) ∈ rows
         ∧ rOp (E (rb 97 9) 1).b = (97, Instr.broadcast 3).1 ∧ relayInvalid c (portCore c (32 + 3)) (E (rb 97 9) 1).b = true)
    ∧ (let c : Chip := relayOperations_s50.chip
       let now : Nat := nowNs c
       3 < 16 ∧ (portQ c (32 + 3)).waiting = [E (rb 96 9) 1] ∧ tagTaken c = false ∧ rOp (E (rb 96 9) 1).b = 96
         ∧ relayInvalid c (portCore c (32 + 3)) (E (rb 96 9) 1).b = false ∧ (E (rb 96 9) 1).adm ≠ 0 ∧ c.cons.leaving = none
         ∧ memberState c (rTarget (E (rb 96 9) 1).b) = 2
         ∧ rr1 = { queue := 3, id := (E (rb 96 9) 1).id, b := (E (rb 96 9) 1).b, adm := (E (rb 96 9) 1).adm, tag := c.cons.nextTag, msgs := [], pos := (groupPos c (rTarget (E (rb 96 9) 1).b)).getD 0, count := 0, heard := [], need := 0, seen := [], bytes := 0, sent := 0, fail := rTarget (E (rb 96 9) 1).b, since := now, hold := 0, status := some 5 })
    ∧ (let c : Chip := s7.chip
       let cons : Chip → Consist → Chip := fun y x => { y with cons := x }
       let now : Nat := nowNs c
       Accepted s7 rP 0x60040 [] ∧ odN c 0x60042 0 = 0 ∧ c.cons.leaving = none ∧ c.cons.ops ≠ []) := by
  refine ⟨?_, ?_, ?_, ?_, ?_, ?_, ?_, ?_, ?_, ?_, ?_⟩ <;> decide +kernel +zetaReduce

/-- Operands that RelayOperations (O60, Relay) defines by an equation. -/
theorem witness_RelayOperations_operands :
    (let c : Chip := s6.chip
     let cons : Chip → Consist → Chip := fun y x => { y with cons := x }
     relayOperations_y53 = cons c ({ c.cons with ops := List.filter (fun x => x.tag != oc.tag) c.cons.ops }))
    ∧ (let c : Chip := s8.chip
       let cons : Chip → Consist → Chip := fun y x => { y with cons := x }
       let now : Nat := nowNs c
       relayOperations_y57 = cons c ({ c.cons with leaving := some now }))
    ∧ (let c : Chip := s7.chip
       let cons : Chip → Consist → Chip := fun y x => { y with cons := x }
       let now : Nat := nowNs c
       relayOperations_y56 = cons c ({ c.cons with leaving := some now })) := by
  refine ⟨?_, ?_, ?_⟩ <;> first | rfl | decide +kernel +zetaReduce

/-- Hypotheses of RelayMessages (O60, Relay) are met. -/
theorem witness_RelayMessages :
    (let a : Nat := fld (m3 255) 8 8
     relayMessages_s63.chip.cons.inbox = [(2, m3 255)] ∧ fld (m3 255) 0 1 ≠ 1 ∧ fld (m3 255) 0 1 ≠ 2 ∧ fld (m3 255) 0 1 = 3
       ∧ fld (m3 255) 2 1 = 255 ∧ inInbound relayMessages_y63 a (List.drop 16 (m3 255)).length = false)
    ∧ (let q : Nat := addSeq (ma 0 3 5)
       let c : Chip := relayMessages_s59.chip
       let o : Nat := msgSrc (ma 0 3 5)
       let want : Nat := tget 0 c.cons.nextApply o
       relayMessages_s59.chip.cons.inbox = [(2, ma 0 3 5)] ∧ fld (ma 0 3 5) 0 1 = 1 ∧ q = want)
    ∧ (let o : Nat := msgSrc (ma 1 3 5)
       let q : Nat := addSeq (ma 1 3 5)
       let c : Chip := relayMessages_s60.chip
       let want : Nat := tget 0 c.cons.nextApply o
       relayMessages_s60.chip.cons.inbox = [(2, ma 1 3 5)] ∧ fld (ma 1 3 5) 0 1 = 1 ∧ q ≠ want
         ∧ (q + 2 ^ 32 - want) % 2 ^ 32 < 2 ^ 31 ∧ (∀ e ∈ relayMessages_z60.cons.early, e.1 ≠ o ∨ e.2.1 ≠ q))
    ∧ (let q : Nat := addSeq (ma 1 3 5)
       let c : Chip := relayMessages_s61.chip
       let o : Nat := msgSrc (ma 1 3 5)
       let want : Nat := tget 0 c.cons.nextApply o
       relayMessages_s61.chip.cons.inbox = [(2, ma 1 3 5)] ∧ fld (ma 1 3 5) 0 1 = 1 ∧ 2 ^ 31 ≤ (q + 2 ^ 32 - want) % 2 ^ 32)
    ∧ (relayMessages_s62.chip.cons.inbox = [(2, mk2)] ∧ fld mk2 0 1 = 2)
    ∧ (let a : Nat := fld (m3 255) 8 8
       relayMessages_s64.chip.cons.inbox = [(2, m3 255)] ∧ fld (m3 255) 0 1 = 3 ∧ fld (m3 255) 2 1 = 255
         ∧ inInbound relayMessages_y64 a (List.drop 16 (m3 255)).length = true ∧ relayMessages_x64.st = 0)
    ∧ (let a : Nat := fld (m3 3) 8 8
       i3.chip.cons.inbox = [(2, m3 3)] ∧ fld (m3 3) 0 1 = 3 ∧ fld (m3 3) 2 1 ≠ 255 ∧ (mx i3 (m3 3)).st = 0)
    ∧ (let o : Nat := msgSrc (m4 0)
       let its : Option RelayOp := List.find? (fun r => r.tag == fld (m4 0) 6 2 && rOp r.b == 96 && rTarget r.b == o && r.status.isNone) relayMessages_y66.cons.ops
       relayMessages_s66.chip.cons.inbox = [(2, m4 0)] ∧ fld (m4 0) 0 1 = 4 ∧ its = none)
    ∧ (let a : Nat := fld (m4 0) 8 8
       let got : List (Nat × Nat × Nat) := List.map (fun x => if x.1 = a ∧ x.2.2 = 0 then (x.1, x.2.1,
           if fld (m4 0) 16 1 = 0 then 1 else 2) else x) (cp [(0x4000, 64, 0)]).msgs
       let o : Nat := msgSrc (m4 0)
       let its : Option RelayOp := List.find? (fun r => r.tag == fld (m4 0) 6 2 && rOp r.b == 96 && rTarget r.b == o && r.status.isNone) relayMessages_y67.cons.ops
       relayMessages_s67.chip.cons.inbox = [(2, m4 0)] ∧ fld (m4 0) 0 1 = 4 ∧ its = some (cp [(0x4000, 64, 0)]) ∧ (∀ g ∈ got,
         g.2.2 = 1))
    ∧ (let a : Nat := fld (m4 0) 8 8
       let got : List (Nat × Nat × Nat) := List.map (fun x => if x.1 = a ∧ x.2.2 = 0 then (x.1, x.2.1,
           if fld (m4 0) 16 1 = 0 then 1 else 2) else x) relayMessages_r68.msgs
       let o : Nat := msgSrc (m4 0)
       let its : Option RelayOp := List.find? (fun r => r.tag == fld (m4 0) 6 2 && rOp r.b == 96 && rTarget r.b == o && r.status.isNone) relayMessages_y68.cons.ops
       relayMessages_s68.chip.cons.inbox = [(2, m4 0)] ∧ fld (m4 0) 0 1 = 4 ∧ its = some relayMessages_r68 ∧ (∃ g ∈ got,
         g.2.2 = 0))
    ∧ (let a : Nat := fld (m4 2) 8 8
       let got : List (Nat × Nat × Nat) := List.map (fun x => if x.1 = a ∧ x.2.2 = 0 then (x.1, x.2.1,
           if fld (m4 2) 16 1 = 0 then 1 else 2) else x) (cp [(0x4000, 64, 0)]).msgs
       let o : Nat := msgSrc (m4 2)
       let its : Option RelayOp := List.find? (fun r => r.tag == fld (m4 2) 6 2 && rOp r.b == 96 && rTarget r.b == o && r.status.isNone) relayMessages_y69.cons.ops
       relayMessages_s69.chip.cons.inbox = [(2, m4 2)] ∧ fld (m4 2) 0 1 = 4 ∧ its = some (cp [(0x4000, 64, 0)]) ∧ (∀ g ∈ got,
         g.2.2 ≠ 0) ∧ (∃ g ∈ got, g.2.2 = 2))
    ∧ (let c : Chip := relayMessages_s70.chip
       relayMessages_s70.chip.cons.inbox = [(2, fm 97)] ∧ fld (fm 97) 0 1 = 5 ∧ msgOp c (fm 97) = none
         ∧ msgFuture c (fm 97) = true)
    ∧ (let c : Chip := relayMessages_s71.chip
       relayMessages_s71.chip.cons.inbox = [(2, fm 97)] ∧ fld (fm 97) 0 1 = 5 ∧ msgOp c (fm 97) = none
         ∧ msgFuture c (fm 97) = false)
    ∧ (let o : Nat := msgSrc (fm 97)
       let same : Prop := fld (fm 97) 16 1 = rOp gop.b ∧ fld (fm 97) 17 1 = fld gop.b 3 1
           ∧ fld (fm 97) 20 4 = gop.count % 2 ^ 32 ∧ fld (fm 97) 24 8 = rLen gop.b
       let a : Nat := fld (fm 97) 8 8
       let first : Nat := 2 ^ 64 - 1
       let c : Chip := relayMessages_s72.chip
       relayMessages_s72.chip.cons.inbox = [(2, fm 97)] ∧ fld (fm 97) 0 1 = 5 ∧ msgOp c (fm 97) = some gop ∧ a = first ∧ same
         ∧ gop.heard.contains o = false)
    ∧ (let same : Prop := fld (fm 98) 16 1 = rOp gop.b ∧ fld (fm 98) 17 1 = fld gop.b 3 1
           ∧ fld (fm 98) 20 4 = gop.count % 2 ^ 32 ∧ fld (fm 98) 24 8 = rLen gop.b
       let a : Nat := fld (fm 98) 8 8
       let first : Nat := 2 ^ 64 - 1
       let c : Chip := relayMessages_s73.chip
       relayMessages_s73.chip.cons.inbox = [(2, fm 98)] ∧ fld (fm 98) 0 1 = 5 ∧ msgOp c (fm 98) = some gop ∧ a = first
         ∧ (¬same))
    ∧ (let a : Nat := fld dm 8 8
       let key : Nat := a + 2 ^ 64 * mPhase dm
       let c : Chip := relayMessages_s74.chip
       relayMessages_s74.chip.cons.inbox = [(2, dm)] ∧ fld dm 0 1 = 5 ∧ msgOp c dm = some gop
         ∧ (rOp gop.b = 97 ∨ rOp gop.b = 98) ∧ rDst gop.b ≤ a ∧ a + (List.drop 16 dm).length ≤ rDst gop.b + rLen gop.b
         ∧ a + 2 < 2 ^ 64 ∧ key ∉ gop.seen)
    ∧ (let a : Nat := fld dm 8 8
       let key : Nat := a + 2 ^ 64 * mPhase dm
       let c : Chip := relayMessages_s75.chip
       relayMessages_s75.chip.cons.inbox = [(2, dm)] ∧ fld dm 0 1 = 5 ∧ msgOp c dm = some gop2
         ∧ (rOp gop2.b = 97 ∨ rOp gop2.b = 98) ∧ rDst gop2.b ≤ a ∧ a + (List.drop 16 dm).length ≤ rDst gop2.b + rLen gop2.b
         ∧ a + 2 < 2 ^ 64 ∧ key ∈ gop2.seen)
    ∧ (let o : Nat := msgSrc m7
       relayMessages_s76.chip.cons.inbox = [(2, m7)] ∧ fld m7 0 1 = 7 ∧ memberState relayMessages_y76 o ≠ 2)
    ∧ (let o : Nat := msgSrc m7
       i7.chip.cons.inbox = [(2, m7)] ∧ fld m7 0 1 = 7 ∧ memberState relayMessages_y77 o = 2) := by
  refine ⟨?_, ?_, ?_, ?_, ?_, ?_, ?_, ?_, ?_, ?_, ?_, ?_, ?_, ?_, ?_, ?_, ?_, ?_, ?_⟩ <;> decide +kernel +zetaReduce

/-- Operands that RelayMessages (O60, Relay) defines by an equation. -/
theorem witness_RelayMessages_operands :
    (relayMessages_y63 = giveCredit ({ relayMessages_s63.chip with cons := { relayMessages_s63.chip.cons with inbox := [] } }) 2 (m3 255))
    ∧ (relayMessages_y59 = giveCredit ({ relayMessages_s59.chip with cons := { relayMessages_s59.chip.cons with inbox := [] } }) 2 (ma 0 3 5))
    ∧ (let q : Nat := addSeq (ma 0 3 5)
       let o : Nat := msgSrc (ma 0 3 5)
       relayMessages_z59 = sendMsg relayMessages_y59 (message 2 (ownOrd relayMessages_y59) o (fld (ma 0 3 5) 2 1) 0 (q % 0x10000) (q / 0x10000 * 2 ^ 48) []))
    ∧ (relayMessages_y60 = giveCredit ({ relayMessages_s60.chip with cons := { relayMessages_s60.chip.cons with inbox := [] } }) 2 (ma 1 3 5))
    ∧ (let o : Nat := msgSrc (ma 1 3 5)
       let q : Nat := addSeq (ma 1 3 5)
       relayMessages_z60 = sendMsg relayMessages_y60 (message 2 (ownOrd relayMessages_y60) o (fld (ma 1 3 5) 2 1) 0 (q % 0x10000) (q / 0x10000 * 2 ^ 48) []))
    ∧ (relayMessages_y61 = giveCredit ({ relayMessages_s61.chip with cons := { relayMessages_s61.chip.cons with inbox := [] } }) 2 (ma 1 3 5))
    ∧ (let q : Nat := addSeq (ma 1 3 5)
       let o : Nat := msgSrc (ma 1 3 5)
       relayMessages_z61 = sendMsg relayMessages_y61 (message 2 (ownOrd relayMessages_y61) o (fld (ma 1 3 5) 2 1) 0 (q % 0x10000) (q / 0x10000 * 2 ^ 48) []))
    ∧ (relayMessages_y62 = giveCredit ({ relayMessages_s62.chip with cons := { relayMessages_s62.chip.cons with inbox := [] } }) 2 mk2)
    ∧ (relayMessages_y64 = giveCredit ({ relayMessages_s64.chip with cons := { relayMessages_s64.chip.cons with inbox := [] } }) 2 (m3 255))
    ∧ (let a : Nat := fld (m3 255) 8 8
       relayMessages_x64 = xferWrite relayMessages_y64 Agent.phys a (List.drop 16 (m3 255)) 0 0 uRelay Bound.free)
    ∧ (relayMessages_z64 = odAdd64 relayMessages_x64.s 0x60090 3 (List.drop 16 (m3 255)).length)
    ∧ (relayMessages_y65 = giveCredit ({ i3.chip with cons := { i3.chip.cons with inbox := [] } }) 2 (m3 3))
    ∧ (let a : Nat := fld (m3 3) 8 8
       mx i3 (m3 3) = xferWrite relayMessages_y65 (Agent.plat (fld (m3 3) 2 1)) a (List.drop 16 (m3 3)) 0 0 uRelay Bound.free)
    ∧ (relayMessages_z65 = odAdd64 (mx i3 (m3 3)).s 0x60090 3 (List.drop 16 (m3 3)).length)
    ∧ (relayMessages_y66 = giveCredit ({ relayMessages_s66.chip with cons := { relayMessages_s66.chip.cons with inbox := [] } }) 2 (m4 0))
    ∧ (relayMessages_y67 = giveCredit ({ relayMessages_s67.chip with cons := { relayMessages_s67.chip.cons with inbox := [] } }) 2 (m4 0))
    ∧ (relayMessages_y68 = giveCredit ({ relayMessages_s68.chip with cons := { relayMessages_s68.chip.cons with inbox := [] } }) 2 (m4 0))
    ∧ (relayMessages_y69 = giveCredit ({ relayMessages_s69.chip with cons := { relayMessages_s69.chip.cons with inbox := [] } }) 2 (m4 2))
    ∧ (relayMessages_y70 = giveCredit ({ relayMessages_s70.chip with cons := { relayMessages_s70.chip.cons with inbox := [] } }) 2 (fm 97))
    ∧ (relayMessages_y71 = giveCredit ({ relayMessages_s71.chip with cons := { relayMessages_s71.chip.cons with inbox := [] } }) 2 (fm 97))
    ∧ (relayMessages_y72 = giveCredit ({ relayMessages_s72.chip with cons := { relayMessages_s72.chip.cons with inbox := [] } }) 2 (fm 97))
    ∧ (relayMessages_y73 = giveCredit ({ relayMessages_s73.chip with cons := { relayMessages_s73.chip.cons with inbox := [] } }) 2 (fm 98))
    ∧ (relayMessages_y74 = giveCredit ({ relayMessages_s74.chip with cons := { relayMessages_s74.chip.cons with inbox := [] } }) 2 dm)
    ∧ (relayMessages_y75 = giveCredit ({ relayMessages_s75.chip with cons := { relayMessages_s75.chip.cons with inbox := [] } }) 2 dm)
    ∧ (relayMessages_y76 = giveCredit ({ relayMessages_s76.chip with cons := { relayMessages_s76.chip.cons with inbox := [] } }) 2 m7)
    ∧ (relayMessages_y77 = giveCredit ({ i7.chip with cons := { i7.chip.cons with inbox := [] } }) 2 m7) := by
  refine ⟨?_, ?_, ?_, ?_, ?_, ?_, ?_, ?_, ?_, ?_, ?_, ?_, ?_, ?_, ?_, ?_, ?_, ?_, ?_, ?_, ?_, ?_, ?_, ?_, ?_, ?_⟩ <;> first | rfl | decide +kernel +zetaReduce

end Part21

end Sys2Proof.Machine.Tests
end

/-! ## ALERT_N follows 03 R102 (`StepInv`)

Every outcome of a step is `becomes s b` for some block `b`: whatever a command made of the block, ALERT_N is driven from the
result, so `Inv` needs nothing of what the command did. -/
section
namespace Sys2Proof.Machine

/-- ALERT_N is not among what R102 reads: driving the pin does not change whether it is to be low. -/
theorem alertLow_drivePins (c : Chip) : alertLow (drivePins c) = alertLow c := rfl

/-- NVME_UNSUPPORTED is the one row whose meaning asks which queue the command came on before it touches the block. -/
theorem execNvmeUnsupported_becomes (p sq : Nat) (sqe : Bytes) (s : State) :
    ∃ b, execNvmeUnsupported p sq sqe s = becomes s b := by
  unfold execNvmeUnsupported
  split
  case isTrue admin => exact ⟨_, rfl⟩
  case isFalse io => exact ⟨_, rfl⟩

/-- Every command completes, drives the pins from the block it leaves and keeps the queue: each row's meaning is one `run`
(NVMe rows by way of `nvRow` and `nvIo`). -/
theorem exec_becomes (i : Instr) (s : State) : ∃ b, exec i s = becomes s b := by
  cases i with
  | nvmeUnsupported p sq sqe => exact execNvmeUnsupported_becomes p sq sqe s
  | _ => exact ⟨_, rfl⟩

/-- A step, idle or not, drives the pins from the block it leaves and takes at most the front command off the queue. -/
theorem step_becomes (s : State) : ∃ b, step s = becomes { s with pending := s.pending.tail } b := by
  obtain ⟨c, pending⟩ := s
  cases pending with
  | nil => exact ⟨idle c, rfl⟩
  | cons i rest => exact exec_becomes i ⟨c, rest⟩

/-- A block whose pins have just been driven meets the invariant when the commands left waiting are well-formed. -/
theorem inv_of_becomes {s t : State} {b : Chip} (wf : ∀ c ∈ s.pending, c.wf = true) (h : becomes s b = .next t) : Inv t := by
  cases h
  exact ⟨(alertLow_drivePins b).symm, wf⟩

/-- Settles O4: a step drives ALERT_N from the block it leaves, and the commands that wait after it waited before it. -/
theorem stepInv : Obligations.StepInv := by
  intro s t inv h
  obtain ⟨-, wf⟩ := inv
  obtain ⟨b, hb⟩ := step_becomes s
  exact inv_of_becomes (fun c hc => wf c (List.mem_of_mem_tail hc)) (hb ▸ h)

end Sys2Proof.Machine
end

/-! ## Division (09 R252)

DIVS, DIVU, REMS and REMU are one operation `aluDiv` with four functions of the operands: it either writes the function's
result and flags, or, the divisor being 0, enters DIV_ZERO. -/
section
namespace Sys2Proof.Machine

/-- A result written with the flags that R251 sets from it. -/
theorem data_result (c : Core) (rd : Fin 16) (r : W32) (v cy : Bool) :
    DataResult c { (c.setD rd r).setF (flagsOf r v cy).f with pc := c.pc + 4 } rd r v cy := by
  refine ⟨dr_setD_same c rd r, fun x hx => dr_setD_other c rd x r hx, ?n, ?z, ?v, ?c, fun i hi => ?above, rfl⟩
  case above =>
    rw [Core.setF, swBit_setNzvc, if_neg (by omega), if_neg (by omega), if_neg (by omega), if_neg (by omega)]
    rfl
  all_goals exact swBit_setNzvc _ _ _

/-- Exception entry replaces the core it finds, so a core written back unchanged just before it makes no difference. -/
theorem enterException_setCore_self (c : Chip) (t cause sub : Nat) (epc : W18) (addr : Option W48)
    (h : cause ≤ 8 → swBit (coreOf c t).sw swExl = false) :
    enterException (setCore c t (coreOf c t)) t cause sub epc addr = enterException c t cause sub epc addr := by
  have single : ¬ (cause ≤ 8 ∧ swBit (coreOf c t).sw swExl = true) := fun ⟨le, exl⟩ => by simp [h le] at exl
  simp only [enterException, coreOf_setCore_same, setCore_setCore, if_neg single]

/-- A fault of the instruction issued, with EXL clear, enters its exception with pc at that instruction (08 R232, R233). -/
theorem run_fault (s : State) (t cause sub : Nat) (addr : Option W48) (f : Chip → InsRes) (h : Ready s t)
    (hf : f s.chip = .fault cause sub addr s.chip) (hexl : swBit (coreOf s.chip t).sw swExl = false)
    (hs : sub < 256) (hc : cause < 256) :
    ∃ x, run s (fun c => issue c t f) = becomes s x
      ∧ Enters s t cause sub (coreOf s.chip t).pc (addr.getD (coreOf s.chip t).faddr) x := by
  refine ⟨enterException s.chip t cause sub (coreOf s.chip t).pc addr, ?_, ?_⟩
  · simp only [run, becomes, issue_ready s t f h, hf, retire]
  · rw [← enterException_setCore_self _ _ _ _ _ _ fun _ => hexl]
    exact enters_of s t cause sub _ addr _ h.1 rfl (fun _ => hexl) hs hc

/-- A divisor other than 0: the result and the flags of the operation. -/
theorem run_aluDiv_result {s : State} {t : Nat} (rd : Fin 16) {ra rb : Fin 16} (f : W32 → W32 → AluRes) {r : W32}
    {v cy : Bool} (h : Ready s t) (hb : (coreOf s.chip t).dr rb ≠ 0)
    (hf : f ((coreOf s.chip t).dr ra) ((coreOf s.chip t).dr rb) = flagsOf r v cy) :
    ∃ c', run s (fun x => issue x t (aluDiv t rd ra rb f)) = coreBecomes s t c'
      ∧ DataResult (coreOf s.chip t) c' rd r v cy := by
  have divides : run s (fun x => issue x t (aluDiv t rd ra rb f)) = run s (fun x => issue x t (alu3 t rd ra rb f)) := by
    simp only [run, issue_ready s t _ h, aluDiv, if_neg hb]
  refine ⟨_, divides.trans (run_onCore s t _ h), ?_⟩
  simp only [hf]
  exact data_result _ rd r v cy

/-- A divisor of 0: DIV_ZERO, cause 0x06. -/
theorem run_aluDiv_divZero {s : State} {t : Nat} (rd ra : Fin 16) {rb : Fin 16} (f : W32 → W32 → AluRes) (h : Ready s t)
    (hb : (coreOf s.chip t).dr rb = 0) (hexl : swBit (coreOf s.chip t).sw swExl = false) :
    ∃ x, run s (fun c => issue c t (aluDiv t rd ra rb f)) = becomes s x
      ∧ Enters s t 6 0 (coreOf s.chip t).pc (coreOf s.chip t).faddr x :=
  run_fault s t 6 0 none _ h (if_pos hb) hexl (by decide) (by decide)

/-- DIVS, with V as `DataResult` takes it. -/
theorem aluDivs_eq (a b : W32) : aluDivs a b = flagsOf (BitVec.ofInt 32 (a.toInt.tdiv b.toInt))
    (decide (a.toInt = -2147483648) && decide (b.toInt = -1)) false := by
  rw [aluDivs, Bool.decide_and]

/-- Truncated division: the remainder is below the divisor and on the dividend's side of 0. -/
theorem tdiv_tmod_spec (a b : Int) (hb : b ≠ 0) : a.tdiv b * b + a.tmod b = a ∧ (a.tmod b).natAbs < b.natAbs
    ∧ (0 ≤ a → 0 ≤ a.tmod b) ∧ (a ≤ 0 → a.tmod b ≤ 0) := by
  refine ⟨Int.tdiv_mul_add_tmod a b, ?_, Int.tmod_nonneg b, fun ha => ?_⟩
  · rw [Int.natAbs_tmod]
    exact Nat.mod_lt _ (Int.natAbs_pos.mpr hb)
  · have flipped := Int.tmod_nonneg b (Int.neg_nonneg.mpr ha)
    rw [Int.neg_tmod] at flipped
    omega

/-- Settles O6: each division is `aluDiv` with its function of the operands, and the integer facts are those of truncated
and of natural division. -/
theorem division : Obligations.Division := by
  intro s t rd ra rb ready c a b gives
  refine ⟨fun hb => ⟨?signed, ?unsigned⟩, fun ha hb => ?overflow, fun hb hexl i hi => ?divZero⟩
  case signed =>
    have hb' : b.toInt ≠ 0 := fun e => hb (BitVec.eq_of_toInt_eq e)
    obtain ⟨recompose, small, pos, neg⟩ := tdiv_tmod_spec a.toInt b.toInt hb'
    exact ⟨a.toInt.tdiv b.toInt, a.toInt.tmod b.toInt, recompose, small, pos, neg,
      run_aluDiv_result rd aluDivs ready hb (aluDivs_eq a b), run_aluDiv_result rd aluRems ready hb rfl⟩
  case unsigned =>
    have hb' : 0 < b.toNat := Nat.pos_of_ne_zero fun e => hb (BitVec.eq_of_toNat_eq e)
    exact ⟨a.toNat / b.toNat, a.toNat % b.toNat, Nat.div_add_mod' _ _, Nat.mod_lt _ hb',
      run_aluDiv_result rd aluDivu ready hb rfl, run_aluDiv_result rd aluRemu ready hb rfl⟩
  case overflow =>
    have hb' : b ≠ 0 := by rw [hb]; decide
    have quotient : aluDivs a b = flagsOf 0x80000000#32 true false := by rw [ha, hb]; decide
    have remainder : aluRems a b = flagsOf 0#32 false false := by rw [ha, hb]; decide
    exact ⟨run_aluDiv_result rd aluDivs ready hb' quotient, run_aluDiv_result rd aluRems ready hb' remainder⟩
  case divZero =>
    obtain rfl | rfl | rfl | rfl := hi
    · exact run_aluDiv_divZero rd ra aluDivs ready hb hexl
    · exact run_aluDiv_divZero rd ra aluDivu ready hb hexl
    · exact run_aluDiv_divZero rd ra aluRems ready hb hexl
    · exact run_aluDiv_divZero rd ra aluRemu ready hb hexl

end Sys2Proof.Machine
end

/-! ## The queue and the state right after reset -/
section
namespace Sys2Proof.Machine

/-- Settles O1: the front of the queue is what `step` matches on. -/
theorem stepRunsFront : Obligations.StepRunsFront := fun _ _ _ => rfl

/-- Settles O2: every command's outcome is `becomes s b`, which changes nothing of the queue. -/
theorem commandsKeepQueue : Obligations.CommandsKeepQueue := exec_becomes

/-- Settles O3: the signal box is off after reset, so ALERT_N is released, and no command waits. -/
theorem resetInv : Obligations.ResetInv := by
  have released : alertLow State.reset.chip = false := rfl
  exact ⟨released.symm, fun c hc => absurd hc (List.not_mem_nil)⟩

end Sys2Proof.Machine
end

/-! ## Data instructions of a Tuital core (09 R250, R251)

Every data instruction is `onCore` with an arithmetic result written to a D register or to the flags; the facts about words
that the statements name are proved once per function of Flags.lean. -/
section
namespace Sys2Proof.Machine

/-- A signed value survives 32 bits exactly when it does not lie outside them. -/
theorem toInt_ofInt_ne (x : Int) : decide ((BitVec.ofInt 32 x).toInt ≠ x) = outside32 x := by
  rw [outside32, ← Bool.decide_or, decide_eq_decide, BitVec.toInt_ofInt, ne_eq, Int.bmod_def]
  split <;> omega

theorem aluAdd_eq (a b : W32) (cin : Bool) : aluAdd a b cin = flagsOf (a + b + BitVec.ofNat 32 (b2n cin))
    (outside32 (a.toInt + b.toInt + b2n cin)) (decide (2 ^ 32 ≤ a.toNat + b.toNat + b2n cin)) := by
  have sum : a + b + BitVec.ofNat 32 (b2n cin) = BitVec.ofInt 32 (a.toInt + b.toInt + b2n cin) := by
    simp only [BitVec.ofInt_add, BitVec.ofInt_toInt, BitVec.ofInt_natCast]
  rw [aluAdd, ← toInt_ofInt_ne, ← sum]

theorem aluSub_eq (a b : W32) (cin : Bool) : aluSub a b cin = flagsOf (a - b - BitVec.ofNat 32 (b2n cin))
    (outside32 (a.toInt - b.toInt - b2n cin)) (decide (a.toNat < b.toNat + b2n cin)) := by
  have difference : a - b - BitVec.ofNat 32 (b2n cin) = BitVec.ofInt 32 (a.toInt - b.toInt - b2n cin) := by
    simp only [sub_eq_add_neg, BitVec.ofInt_add, BitVec.ofInt_neg, BitVec.ofInt_toInt, BitVec.ofInt_natCast]
  rw [aluSub, ← toInt_ofInt_ne, ← difference]

theorem aluAdd_noCarry (a b : W32) : aluAdd a b false
    = flagsOf (a + b) (outside32 (a.toInt + b.toInt)) (decide (2 ^ 32 ≤ a.toNat + b.toNat)) := by
  simpa [b2n] using aluAdd_eq a b false

theorem aluSub_noBorrow (a b : W32) : aluSub a b false
    = flagsOf (a - b) (outside32 (a.toInt - b.toInt)) (decide (a.toNat < b.toNat)) := by
  simpa [b2n] using aluSub_eq a b false

/-- A shift count is shown by the statements as not 0, by the model as positive. -/
theorem decide_pos_eq (n : Nat) : decide (0 < n) = decide (n ≠ 0) := decide_eq_decide.mpr Nat.pos_iff_ne_zero

theorem aluShl_eq (a : W32) (n : Nat) : aluShl a n
    = flagsOf (BitVec.ofNat 32 (a.toNat * 2 ^ n)) false (decide (n ≠ 0) && a.getLsbD (32 - n)) := by
  have shifted : a <<< n = BitVec.ofNat 32 (a.toNat * 2 ^ n) := by
    apply BitVec.eq_of_toNat_eq
    simp [Nat.shiftLeft_eq]
  rw [aluShl, shifted, decide_pos_eq]

theorem aluShr_eq (a : W32) (n : Nat) : aluShr a n
    = flagsOf (BitVec.ofNat 32 (a.toNat / 2 ^ n)) false (decide (n ≠ 0) && a.getLsbD (n - 1)) := by
  have shifted : a >>> n = BitVec.ofNat 32 (a.toNat / 2 ^ n) := by
    apply BitVec.eq_of_toNat_eq
    rw [BitVec.toNat_ushiftRight, Nat.shiftRight_eq_div_pow, BitVec.toNat_ofNat,
      Nat.mod_eq_of_lt (Nat.lt_of_le_of_lt (Nat.div_le_self _ _) a.isLt)]
  rw [aluShr, shifted, decide_pos_eq]

theorem aluSar_eq (a : W32) (n : Nat) : aluSar a n
    = flagsOf (BitVec.ofInt 32 (a.toInt / 2 ^ n)) false (decide (n ≠ 0) && a.getLsbD (n - 1)) := by
  have shifted : a.sshiftRight n = BitVec.ofInt 32 (a.toInt / 2 ^ n) := by
    rw [BitVec.sshiftRight, Int.shiftRight_eq_div_pow]
    norm_cast
  rw [aluSar, shifted, decide_pos_eq]

/-- The word rotated left by less than its width: the part shifted out comes back at the bottom. -/
theorem rotateLeft_eq (a : W32) (n : Nat) (hn : n < 32) :
    a.rotateLeft n = BitVec.ofNat 32 (a.toNat * 2 ^ n + a.toNat / 2 ^ (32 - n)) := by
  have width : 2 ^ 32 = 2 ^ (32 - n) * 2 ^ n := by rw [← Nat.pow_add]; congr 1; omega
  have low : a.toNat / 2 ^ (32 - n) < 2 ^ n := Nat.div_lt_of_lt_mul (width ▸ a.isLt)
  have high : a.toNat % 2 ^ (32 - n) * 2 ^ n = a.toNat * 2 ^ n % 2 ^ 32 := by rw [width, Nat.mul_mod_mul_right]
  have fits : a.toNat * 2 ^ n % 2 ^ 32 + a.toNat / 2 ^ (32 - n) < 2 ^ 32 := by
    have : (a.toNat % 2 ^ (32 - n) + 1) * 2 ^ n ≤ 2 ^ 32 := by
      rw [width]
      exact Nat.mul_le_mul_right _ (Nat.mod_lt _ (by positivity))
    rw [← high]
    rw [Nat.succ_mul] at this
    omega
  apply BitVec.eq_of_toNat_eq
  rw [BitVec.toNat_rotateLeft, Nat.mod_eq_of_lt hn, BitVec.toNat_ofNat, Nat.shiftRight_eq_div_pow, Nat.shiftLeft_eq,
    ← high, ← Nat.shiftLeft_eq, ← Nat.shiftLeft_add_eq_or_of_lt low, Nat.shiftLeft_eq, high, ← Nat.mod_add_mod,
    Nat.mod_eq_of_lt fits]

theorem aluRol_eq (a : W32) (n : Nat) (hn : n < 32) : aluRol a n
    = flagsOf (BitVec.ofNat 32 (a.toNat * 2 ^ n + a.toNat / 2 ^ (32 - n))) false (decide (n ≠ 0) && a.getLsbD (32 - n)) := by
  have carry : (decide (n ≠ 0) && (a.rotateLeft n).getLsbD 0) = (decide (n ≠ 0) && a.getLsbD (32 - n)) := by
    cases n with
    | zero => rfl
    | succ k => rw [BitVec.getLsbD_rotateLeft_of_le hn]; simp
  rw [aluRol, decide_pos_eq, carry, rotateLeft_eq a n hn]

/-- The number of leading zeros is the one below which the word's highest bit stands. -/
theorem clz32_eq (a : W32) (k : Nat) (hk : k ≤ 32) (below : a.toNat < 2 ^ (32 - k)) (top : k = 32 ∨ 2 ^ (31 - k) ≤ a.toNat) :
    clz32 a = k := by
  unfold clz32
  split
  case isTrue zero =>
    have : 0 < 2 ^ (31 - k) := by positivity
    omega
  case isFalse nonzero =>
    have hk' : k ≠ 32 := by rintro rfl; simp at below; omega
    have log : a.toNat.log2 = 31 - k :=
      (Nat.log2_eq_iff nonzero).mpr ⟨top.resolve_left hk', by rwa [show 31 - k + 1 = 32 - k by omega]⟩
    omega

/-- A result written to a D register with its flags. -/
theorem run_onCore_data {s : State} {t : Nat} (rd : Fin 16) (f : Core → AluRes) {r : W32} {v cy : Bool} (h : Ready s t)
    (hf : f (coreOf s.chip t) = flagsOf r v cy) :
    ∃ c', run s (fun x => issue x t (onCore t (fun c => (c.setD rd (f c).r).setF (f c).f))) = coreBecomes s t c'
      ∧ DataResult (coreOf s.chip t) c' rd r v cy := by
  refine ⟨_, run_onCore s t _ h, ?_⟩
  rw [hf]
  exact data_result _ rd r v cy

/-- The flags of a result and nothing else. -/
theorem run_onCore_flags {s : State} {t : Nat} (f : Core → Nzvc) {n z v cy : Bool} (h : Ready s t)
    (hf : f (coreOf s.chip t) = ⟨n, z, v, cy⟩) :
    ∃ c', run s (fun x => issue x t (onCore t (fun c => c.setF (f c)))) = coreBecomes s t c'
      ∧ FlagResult (coreOf s.chip t) c' n z v cy := by
  refine ⟨_, run_onCore s t _ h, ?n, ?z, ?v, ?c, fun i hi => ?above, rfl⟩
  case above =>
    rw [Core.setF, swBit_setNzvc, if_neg (by omega), if_neg (by omega), if_neg (by omega), if_neg (by omega)]
  all_goals rw [hf]; exact swBit_setNzvc _ _ _

/-- A move into a D register. -/
theorem run_onCore_move {s : State} {t : Nat} (rd : Fin 16) (f : Core → W32) (h : Ready s t) {r : W32}
    (hf : f (coreOf s.chip t) = r) :
    ∃ c', run s (fun x => issue x t (onCore t (fun c => c.setD rd (f c)))) = coreBecomes s t c'
      ∧ MoveResult (coreOf s.chip t) c' rd r :=
  ⟨_, run_onCore s t _ h, hf ▸ move_result _ rd _⟩

/-- A write of an A register. -/
theorem run_onCore_addr {s : State} {t : Nat} (rd : Fin 16) (f : Core → W48) (h : Ready s t) {r : W48}
    (hf : f (coreOf s.chip t) = r) :
    ∃ c', run s (fun x => issue x t (onCore t (fun c => c.setA rd (f c)))) = coreBecomes s t c'
      ∧ AddrResult (coreOf s.chip t) c' rd r :=
  ⟨_, run_onCore s t _ h, hf ▸ addr_result _ rd _⟩

theorem dataRegister : Claim.DataRegister := by
  intro s t rd ra rb ready c a b k n gives
  have gives_of {i : Instr} (f : Core → AluRes) {r v cy} (hi : exec i s
      = run s (fun x => issue x t (onCore t (fun c => (c.setD rd (f c).r).setF (f c).f)))) (hf : f c = flagsOf r v cy) :
      gives i r v cy := (run_onCore_data rd f ready hf).imp fun _ ⟨e, result⟩ => ⟨hi.trans e, result⟩
  have hn : n < 32 := Nat.mod_lt _ (by decide)
  refine ⟨gives_of (fun c => aluAdd (c.dr ra) (c.dr rb) false) rfl (aluAdd_noCarry a b),
    gives_of (fun c => aluAdd (c.dr ra) (c.dr rb) (swBit c.sw swC)) rfl (aluAdd_eq a b _),
    gives_of (fun c => aluSub (c.dr ra) (c.dr rb) false) rfl (aluSub_noBorrow a b),
    gives_of (fun c => aluSub (c.dr ra) (c.dr rb) (swBit c.sw swC)) rfl (aluSub_eq a b _),
    gives_of (fun c => aluLogic (c.dr ra &&& c.dr rb)) rfl rfl,
    gives_of (fun c => aluLogic (c.dr ra ||| c.dr rb)) rfl rfl,
    gives_of (fun c => aluLogic (c.dr ra ^^^ c.dr rb)) rfl rfl,
    gives_of (fun c => aluLogic (c.dr ra &&& ~~~c.dr rb)) rfl rfl,
    gives_of (fun c => aluShl (c.dr ra) ((c.dr rb).toNat % 32)) rfl (aluShl_eq a n),
    gives_of (fun c => aluShr (c.dr ra) ((c.dr rb).toNat % 32)) rfl (aluShr_eq a n),
    gives_of (fun c => aluSar (c.dr ra) ((c.dr rb).toNat % 32)) rfl (aluSar_eq a n),
    gives_of (fun c => aluRol (c.dr ra) ((c.dr rb).toNat % 32)) rfl (aluRol_eq a n hn),
    gives_of (fun c => aluMul (c.dr ra) (c.dr rb)) rfl rfl,
    gives_of (fun c => aluMulhs (c.dr ra) (c.dr rb)) rfl rfl,
    gives_of (fun c => aluMulhu (c.dr ra) (c.dr rb)) rfl rfl⟩

theorem dataImmediate : Claim.DataImmediate := by
  intro s t rd ra imm m ready c a x z n gives moves
  have gives_of {i : Instr} (f : W32 → AluRes) {r v cy} (hi : exec i s = run s (fun x => issue x t (aluImm t rd ra f)))
      (hf : f a = flagsOf r v cy) : gives i r v cy :=
    (run_onCore_data rd (fun c => f (c.dr ra)) ready hf).imp fun _ ⟨e, result⟩ => ⟨hi.trans e, result⟩
  have add : aluAdd a x false = flagsOf (a + x) (outside32 (a.toInt + imm.toInt)) (decide (2 ^ 32 ≤ a.toNat + x.toNat)) := by
    rw [aluAdd_noCarry, show x.toInt = imm.toInt from BitVec.toInt_signExtend_of_le (by decide)]
  have upper : imm.zeroExtend 32 <<< 16 = BitVec.ofNat 32 (imm.toNat * 65536) := by
    apply BitVec.eq_of_toNat_eq
    simp [Nat.shiftLeft_eq]
  exact ⟨gives_of (fun a => aluAdd a (imm.signExtend 32) false) rfl add,
    gives_of (fun a => aluLogic (a &&& imm.zeroExtend 32)) rfl rfl,
    gives_of (fun a => aluLogic (a ||| imm.zeroExtend 32)) rfl rfl,
    gives_of (fun a => aluLogic (a ^^^ imm.zeroExtend 32)) rfl rfl,
    gives_of (fun a => aluShl a m.val) rfl (aluShl_eq a n),
    gives_of (fun a => aluShr a m.val) rfl (aluShr_eq a n),
    gives_of (fun a => aluSar a m.val) rfl (aluSar_eq a n),
    gives_of (fun a => aluRol a m.val) rfl (aluRol_eq a n m.isLt),
    fun k hk below top => gives_of (fun a => aluLogic (BitVec.ofNat 32 (clz32 a))) rfl (by rw [clz32_eq a k hk below top]; rfl),
    run_onCore_move rd (fun _ => imm.signExtend 32) ready rfl,
    run_onCore_move rd (fun _ => imm.zeroExtend 32 <<< 16) ready upper⟩

theorem compare : Claim.Compare := by
  intro s t ra rb imm ready c a b x p q gives
  have sub_flags (a b : W32) : (aluSub a b false).f
      = ⟨(a - b).msb, a == b, outside32 (a.toInt - b.toInt), decide (a.toNat < b.toNat)⟩ := by
    rw [aluSub_noBorrow, flagsOf, show (a - b == 0) = (a == b) by simp only [beq_eq_beq]; exact sub_eq_zero]
  have immediate : x.toInt = imm.toInt := BitVec.toInt_signExtend_of_le (by decide)
  have difference : (p - q == 0) = (p == q) := by simp only [beq_eq_beq]; exact sub_eq_zero
  exact ⟨run_onCore_flags (fun c => (aluSub (c.dr ra) (c.dr rb) false).f) ready (sub_flags a b),
    run_onCore_flags (fun c => (aluSub (c.dr ra) (imm.signExtend 32) false).f) ready (immediate ▸ sub_flags a x),
    run_onCore_flags (fun c => (aluLogic (c.dr ra &&& c.dr rb)).f) ready rfl,
    run_onCore_flags (fun c => flagsCmpa (c.ar ra) (c.ar rb)) ready
      (show (⟨(p - q).msb, p - q == 0, false, _⟩ : Nzvc) = _ by rw [difference])⟩

/-- Settles O5: three-register forms, immediates and comparisons. -/
theorem tuitalData : Obligations.TuitalData := ⟨dataRegister, dataImmediate, compare⟩

end Sys2Proof.Machine
end

/-! ## Accumulators and address registers (09 R250, R253, R255) -/
section
namespace Sys2Proof.Machine

/-- An instruction that completes: pc follows. -/
theorem run_done {s : State} {t : Nat} {f : Chip → InsRes} {b : Chip} (h : Ready s t) (hf : f s.chip = .done b) :
    run s (fun x => issue x t f) = becomes s (setCore b t { coreOf b t with pc := (coreOf s.chip t).pc + 4 }) := by
  simp only [run, becomes, issue_ready s t f h, hf, retire, Core.next]

/-- An instruction that completes having changed only its core. -/
theorem run_doneCore {s : State} {t : Nat} {f : Chip → InsRes} {k : Core} (h : Ready s t)
    (hf : f s.chip = .done (setCore s.chip t k)) :
    run s (fun x => issue x t f) = coreBecomes s t { k with pc := (coreOf s.chip t).pc + 4 } := by
  rw [run_done h hf, coreBecomes, coreOf_setCore_same, setCore_setCore]

/-- An instruction that completes and goes on at a target, having changed only its core. -/
theorem run_gotoCore {s : State} {t : Nat} {f : Chip → InsRes} {pc : W18} {k : Core} (h : Ready s t)
    (hf : f s.chip = .goto pc (setCore s.chip t k)) :
    run s (fun x => issue x t f) = coreBecomes s t { k with pc := pc } := by
  simp only [run, coreBecomes, becomes, issue_ready s t f h, hf, retire, coreOf_setCore_same, setCore_setCore]

/-- An instruction that waits. -/
theorem run_hold {s : State} {t : Nat} {f : Chip → InsRes} {b : Chip} (h : Ready s t) (hf : f s.chip = .hold b) :
    run s (fun x => issue x t f) = becomes s b := by
  simp only [run, becomes, issue_ready s t f h, hf, retire]

/-- A result that fits is written as it is. -/
theorem accSat_fits {v : Int} (h : -(2 ^ 79) ≤ v ∧ v < 2 ^ 79) : accSat v = (BitVec.ofInt 80 v, false) := by
  rw [accSat, if_neg (by omega), if_neg (by omega)]

/-- A result that does not fit is held at the limit. -/
theorem accSat_held {v : Int} (h : ¬ (-(2 ^ 79) ≤ v ∧ v < 2 ^ 79)) :
    accSat v = (BitVec.ofInt 80 (if v < 0 then -(2 ^ 79) else 2 ^ 79 - 1), true) := by
  unfold accSat
  split
  case isTrue above => rw [if_neg (by omega)]
  case isFalse => rw [if_pos (by omega), if_pos (by omega)]

/-- SAT set, every other bit of SW as it was. -/
theorem swBit_setSat (w : W32) : swBit (setBit w swSat true) swSat = true
    ∧ ∀ j, j ≠ swSat → swBit (setBit w swSat true) j = swBit w j :=
  ⟨by simp, fun j hj => by simp [hj]⟩

/-- An accumulator operation of accumulators 0 to 3 whose result fits. -/
theorem run_accOp_fits {s : State} {t : Nat} {rd : Fin 16} (f : Core → Int) (h : Ready s t) (hrd : rd.val ≤ 3) {v : Int}
    (hf : f (coreOf s.chip t) = v) (fits : -(2 ^ 79) ≤ v ∧ v < 2 ^ 79) :
    ∃ c', run s (fun x => issue x t (accOp t rd f)) = coreBecomes s t c'
      ∧ AccResult (coreOf s.chip t) c' rd (BitVec.ofInt 80 v) := by
  have written : accOp t rd f s.chip = .done (setCore s.chip t ((coreOf s.chip t).setAcc rd (BitVec.ofInt 80 v))) := by
    simp only [accOp, if_neg (Nat.not_lt.mpr hrd), accWrite, hf, accSat_fits fits, Bool.false_eq_true, if_false]
  exact ⟨_, run_doneCore h written, ac_setAcc_same _ _ _, fun _ hy => ac_setAcc_other _ _ _ _ hy, rfl⟩

/-- One whose result does not fit, with ST clear: the limit, and SAT. -/
theorem run_accOp_held {s : State} {t : Nat} {rd : Fin 16} (f : Core → Int) (h : Ready s t) (hrd : rd.val ≤ 3) {v : Int}
    (hf : f (coreOf s.chip t) = v) (wide : ¬ (-(2 ^ 79) ≤ v ∧ v < 2 ^ 79)) (st : swBit (coreOf s.chip t).sw swSt = false) :
    ∃ c', run s (fun x => issue x t (accOp t rd f)) = coreBecomes s t c'
      ∧ c'.ac rd = BitVec.ofInt 80 (if v < 0 then -(2 ^ 79) else 2 ^ 79 - 1)
      ∧ (∀ y : Fin 16, y ≠ rd → c'.ac y = (coreOf s.chip t).ac y)
      ∧ swBit c'.sw swSat = true ∧ (∀ j, j ≠ swSat → swBit c'.sw j = swBit (coreOf s.chip t).sw j)
      ∧ c' = { coreOf s.chip t with acc := c'.acc, sw := c'.sw, pc := (coreOf s.chip t).pc + 4 } := by
  have written : accOp t rd f s.chip = .done (setCore s.chip t
      { (coreOf s.chip t).setAcc rd (BitVec.ofInt 80 (if v < 0 then -(2 ^ 79) else 2 ^ 79 - 1)) with
        sw := setBit (coreOf s.chip t).sw swSat true }) := by
    simp only [accOp, if_neg (Nat.not_lt.mpr hrd), accWrite, hf, accSat_held wide, if_true, st, Bool.false_eq_true, if_false]
    rfl
  obtain ⟨sat, others⟩ := swBit_setSat (coreOf s.chip t).sw
  exact ⟨_, run_doneCore h written, ac_setAcc_same _ rd _, fun _ hy => ac_setAcc_other _ rd _ _ hy, sat, others, rfl⟩

/-- The value that EXT rounds and shifts. -/
theorem ext_value (a : Int) (sh : Nat) (rnd : Bool) :
    (a + (if rnd = true ∧ 0 < sh then 2 ^ (sh - 1) else 0)) / 2 ^ sh
      = if rnd = true ∧ 0 < sh then (a + 2 ^ (sh - 1)) / 2 ^ sh else a / 2 ^ sh := by
  split <;> simp

/-- EXT of a value within 32 bits. -/
theorem extOf_fits {a : W80} {sh : Nat} {rnd : Bool} {x : Int}
    (hx : x = (a.toInt + (if rnd = true ∧ 0 < sh then 2 ^ (sh - 1) else 0)) / 2 ^ sh) (fits : outside32 x = false) :
    extOf a sh rnd = flagsOf (BitVec.ofInt 32 x) false false := by
  rw [ext_value] at hx
  simp only [outside32, Bool.or_eq_false_iff, decide_eq_false_iff_not] at fits
  simp only [extOf, ← hx, if_neg fits.1, if_neg fits.2]

/-- EXT of a value outside 32 bits. -/
theorem extOf_held {a : W80} {sh : Nat} {rnd : Bool} {x : Int}
    (hx : x = (a.toInt + (if rnd = true ∧ 0 < sh then 2 ^ (sh - 1) else 0)) / 2 ^ sh) (wide : outside32 x = true) :
    extOf a sh rnd = flagsOf (BitVec.ofInt 32 (if x < 0 then -2147483648 else 2147483647)) true false := by
  rw [ext_value] at hx
  simp only [outside32, Bool.or_eq_true, decide_eq_true_eq] at wide
  simp only [extOf, ← hx]
  split
  case isTrue above => rw [if_neg (by omega)]
  case isFalse => rw [if_pos (by omega), if_pos (by omega)]

/-- EXT of an accumulator 0 to 3 whose value lies within 32 bits. -/
theorem extOp_fits {c : Chip} {t : Nat} (rd : Fin 16) {ra : Fin 16} {sh : Nat} {rnd : Bool} {r : W32} (hra : ra.val ≤ 3)
    (hf : extOf ((coreOf c t).ac ra) sh rnd = flagsOf r false false) :
    extOp t rd ra sh rnd c
      = .done (setCore c t (((coreOf c t).setD rd r).setF (flagsOf r false false).f)) := by
  simp only [extOp, if_neg (Nat.not_lt.mpr hra), hf]
  rfl

/-- EXT of one whose value lies outside, with ST clear. -/
theorem extOp_held {c : Chip} {t : Nat} (rd : Fin 16) {ra : Fin 16} {sh : Nat} {rnd : Bool} {r : W32} (hra : ra.val ≤ 3)
    (hf : extOf ((coreOf c t).ac ra) sh rnd = flagsOf r true false) (st : swBit (coreOf c t).sw swSt = false) :
    extOp t rd ra sh rnd c
      = .done (setCore c t { (coreOf c t).setD rd r with
          sw := setBit (setNzvc (coreOf c t).sw (flagsOf r true false).f) swSat true }) := by
  simp only [extOp, if_neg (Nat.not_lt.mpr hra), hf, st]
  rfl

theorem accumulators : Claim.Accumulators := by
  intro s t rd ra rb sh rnd x ready hrd hra c acc a b sets writes
  have sets_of {i : Instr} (f : Core → Int) (hi : exec i s = run s (fun x => issue x t (accOp t rd f)))
      (fits : -(2 ^ 79) ≤ f c ∧ f c < 2 ^ 79) : sets i (f c) :=
    (run_accOp_fits f ready hrd rfl fits).imp fun _ ⟨e, result⟩ => ⟨hi.trans e, result⟩
  have writes_of {i : Instr} (f : Core → Int) (hi : exec i s = run s (fun x => issue x t (accOp t rd f))) :
      writes i (f c) :=
    ⟨sets_of f hi, fun wide st =>
      (run_accOp_held f ready hrd rfl wide st).imp fun _ ⟨e, result⟩ => ⟨hi.trans e, result⟩⟩
  have signed : -(2 ^ 79) ≤ a.toInt * b.toInt ∧ a.toInt * b.toInt < 2 ^ 79 := by
    have bounded (w : W32) : w.toInt.natAbs ≤ 2 ^ 31 := by
      have := BitVec.le_toInt w
      have := BitVec.toInt_lt (x := w)
      omega
    have product := Nat.mul_le_mul (bounded a) (bounded b)
    rw [← Int.natAbs_mul] at product
    omega
  have unsigned : -(2 ^ 79) ≤ (a.toNat : Int) * b.toNat ∧ (a.toNat : Int) * b.toNat < 2 ^ 79 := by
    have below : a.toNat * b.toNat < 2 ^ 32 * 2 ^ 32 := Nat.mul_lt_mul'' a.isLt b.isLt
    rw [← Nat.cast_mul]
    omega
  have addacc : exec (.addacc t rd ra) s
      = run s (fun x => issue x t (accOp t rd (fun c => (c.ac rd).toInt + (c.ac ra).toInt))) := by
    have legal : (fun x => if 3 < ra.val then illegal x else accOp t rd (fun c => (c.ac rd).toInt + (c.ac ra).toInt) x)
        = accOp t rd (fun c => (c.ac rd).toInt + (c.ac ra).toInt) := funext fun _ => if_neg (Nat.not_lt.mpr hra)
    exact congrArg (fun f => run s (fun x => issue x t f)) legal
  refine ⟨writes_of (fun c => (c.ac rd).toInt + (c.dr ra).toInt * (c.dr rb).toInt) rfl,
    writes_of (fun c => (c.ac rd).toInt + (c.dr ra).toNat * (c.dr rb).toNat) rfl,
    writes_of (fun c => (c.ac rd).toInt - (c.dr ra).toInt * (c.dr rb).toInt) rfl,
    sets_of (fun c => (c.dr ra).toInt * (c.dr rb).toInt) rfl signed,
    sets_of (fun c => (c.dr ra).toNat * (c.dr rb).toNat) rfl unsigned,
    sets_of (fun _ => 0) rfl (by decide),
    writes_of (fun c => (c.ac rd).toInt + (c.ac ra).toInt) addacc,
    fun hx => ⟨fun fits => ?fits, fun wide st => ?held⟩⟩
  case fits =>
    exact ⟨_, run_doneCore ready (extOp_fits rb hra (extOf_fits hx fits)), data_result _ rb _ _ _⟩
  case held =>
    refine ⟨_, run_doneCore ready (extOp_held rb hra (extOf_held hx wide) st), dr_setD_same _ rb _,
      fun _ hy => dr_setD_other _ rb _ _ hy, ?_, ?_, ?_, rfl⟩
    all_goals simp [swBit_setNzvc, flagsOf]

/-- The two's complement value of a number of 16 bits, as that of a word. -/
theorem sInt_eq_toInt {w n : Nat} (hw : 0 < w) (x : BitVec w) (hn : n = x.toNat) : sInt w n = x.toInt := by
  have double : 2 * 2 ^ (w - 1) = 2 ^ w := by rw [← Nat.pow_succ']; congr 1; omega
  rw [sInt, BitVec.toInt_eq_toNat_cond, hn]
  split <;> split <;> push_cast <;> omega

/-- The parts of an accumulator that MFACC reads. -/
theorem accPart_eq (a : W80) : accPart a 0 = a.extractLsb' 0 32 ∧ accPart a 1 = a.extractLsb' 32 32
    ∧ accPart a 2 = (a.extractLsb' 64 16).signExtend 32 := by
  refine ⟨?low, ?middle, ?guard⟩
  case low =>
    apply BitVec.eq_of_toNat_eq
    simp [accPart]
  case middle =>
    apply BitVec.eq_of_toNat_eq
    simp [accPart, Nat.shiftRight_eq_div_pow]
  case guard =>
    have whole : a.toNat / 2 ^ 64 = (a.extractLsb' 64 16).toNat := by
      have := a.isLt
      simp only [BitVec.extractLsb'_toNat, Nat.shiftRight_eq_div_pow]
      omega
    exact congrArg (BitVec.ofInt 32) (sInt_eq_toInt (by decide) _ whole)

/-- The number that MTACC.L leaves in an accumulator. -/
theorem toNat_withPart_low (a : W80) (v : W32) : (withPart a 0 v).toNat = a.toNat / 2 ^ 32 * 2 ^ 32 + v.toNat := by
  rw [show withPart a 0 v = BitVec.ofNat 80 (a.toNat / 2 ^ 32 * 2 ^ 32 + v.toNat) from rfl, BitVec.toNat_ofNat]
  have := a.isLt
  have := v.isLt
  omega

/-- That of MTACC.H. -/
theorem toNat_withPart_middle (a : W80) (v : W32) :
    (withPart a 1 v).toNat = a.toNat / 2 ^ 64 * 2 ^ 64 + v.toNat * 2 ^ 32 + a.toNat % 2 ^ 32 := by
  rw [show withPart a 1 v = BitVec.ofNat 80 (a.toNat / 2 ^ 64 * 2 ^ 64 + v.toNat * 2 ^ 32 + a.toNat % 2 ^ 32) from rfl,
    BitVec.toNat_ofNat]
  have := a.isLt
  have := v.isLt
  omega

/-- That of MTACC.G. -/
theorem toNat_withPart_guard (a : W80) (v : W32) :
    (withPart a 2 v).toNat = v.toNat % 65536 * 2 ^ 64 + a.toNat % 2 ^ 64 := by
  rw [show withPart a 2 v = BitVec.ofNat 80 (v.toNat % 65536 * 2 ^ 64 + a.toNat % 2 ^ 64) from rfl, BitVec.toNat_ofNat]
  omega

/-- A range of bits of one word equals one of another where the numbers agree. -/
theorem extract_eq {w w' n : Nat} {x : BitVec w} {y : BitVec w'} {o o' : Nat}
    (h : x.toNat / 2 ^ o % 2 ^ n = y.toNat / 2 ^ o' % 2 ^ n) : x.extractLsb' o n = y.extractLsb' o' n := by
  apply BitVec.eq_of_toNat_eq
  simpa only [BitVec.extractLsb'_toNat, Nat.shiftRight_eq_div_pow] using h

/-- What MTACC leaves in an accumulator: its part from the register, the other bits as before. -/
theorem withPart_parts (a : W80) (v : W32) :
    ((withPart a 0 v).extractLsb' 0 32 = v.extractLsb' 0 32 ∧ (withPart a 0 v).extractLsb' 32 48 = a.extractLsb' 32 48)
    ∧ ((withPart a 1 v).extractLsb' 0 32 = a.extractLsb' 0 32 ∧ (withPart a 1 v).extractLsb' 32 32 = v.extractLsb' 0 32
      ∧ (withPart a 1 v).extractLsb' 64 16 = a.extractLsb' 64 16)
    ∧ (withPart a 2 v).extractLsb' 0 64 = a.extractLsb' 0 64
      ∧ (withPart a 2 v).extractLsb' 64 16 = v.extractLsb' 0 16 := by
  have := v.isLt
  refine ⟨⟨extract_eq ?_, extract_eq ?_⟩, ⟨extract_eq ?_, extract_eq ?_, extract_eq ?_⟩, extract_eq ?_, extract_eq ?_⟩
  · rw [toNat_withPart_low]; omega
  · rw [toNat_withPart_low]; omega
  · rw [toNat_withPart_middle]; omega
  · rw [toNat_withPart_middle]; omega
  · rw [toNat_withPart_middle]; omega
  · rw [toNat_withPart_guard]; omega
  · rw [toNat_withPart_guard]; omega

theorem accumulatorParts : Claim.AccumulatorParts := by
  intro s t rd ra ready c
  obtain ⟨low, middle, guard⟩ := accPart_eq (c.ac ra)
  obtain ⟨⟨low0, high0⟩, ⟨low1, part1, high1⟩, low2, part2⟩ := withPart_parts (c.ac rd) (c.dr ra)
  have whole : (c.dr ra).extractLsb' 0 32 = c.dr ra := BitVec.extractLsb'_eq_self
  rw [whole] at low0 part1
  have reads (part : Fin 16) (hra : ra.val ≤ 3) (hp : part.val ≤ 2) {r : W32} (hr : accPart (c.ac ra) part.val = r) :
      ∃ c', exec (.mfacc t rd ra part) s = coreBecomes s t c' ∧ MoveResult c c' rd r :=
    ⟨_, run_doneCore ready (if_neg (by omega)), hr ▸ move_result c rd _⟩
  have writes (part : Fin 16) (hrd : rd.val ≤ 3) (hp : part.val ≤ 2) :
      ∃ c', exec (.mtacc t rd ra part) s = coreBecomes s t c' ∧ AccResult c c' rd (withPart (c.ac rd) part.val (c.dr ra)) :=
    ⟨_, run_doneCore ready (if_neg (by omega)), ac_setAcc_same c rd _, fun _ hy => ac_setAcc_other c rd _ _ hy, rfl⟩
  refine ⟨fun hra => ⟨reads 0 hra (by decide) low, reads 1 hra (by decide) middle, reads 2 hra (by decide) guard⟩,
    fun hrd => ⟨?_, ?_, ?_⟩⟩
  · obtain ⟨c', e, result⟩ := writes 0 hrd (by decide)
    exact ⟨c', _, e, result, low0, high0⟩
  · obtain ⟨c', e, result⟩ := writes 1 hrd (by decide)
    exact ⟨c', _, e, result, low1, part1, high1⟩
  · obtain ⟨c', e, result⟩ := writes 2 hrd (by decide)
    exact ⟨c', _, e, result, low2, part2⟩

/-- Settles O7: accumulator operations, and moves by part. -/
theorem tuitalAccumulators : Obligations.TuitalAccumulators := ⟨accumulators, accumulatorParts⟩

/-- Bits 47 to 32 of an address replaced, as a concatenation. -/
theorem withHigh_eq (a : W48) (h : BitVec 16) : withHigh a h = h ++ a.extractLsb' 0 32 := by
  apply BitVec.eq_of_toNat_eq
  have := h.isLt
  rw [BitVec.toNat_append, ← Nat.shiftLeft_add_eq_or_of_lt (BitVec.isLt _)]
  simp only [withHigh, BitVec.toNat_ofNat, BitVec.extractLsb'_toNat, Nat.shiftLeft_eq]
  omega

/-- Settles O8: each is `onCore` with one A or D register written. -/
theorem addressMoves : Obligations.AddressMoves := by
  intro s t rd ra rb imm disp sc ready c toA toD
  have upper : BitVec.ofNat 32 ((c.ar ra).toNat / 2 ^ 32) = ((c.ar ra).extractLsb' 32 16).zeroExtend 32 := by
    apply BitVec.eq_of_toNat_eq
    have := (c.ar ra).isLt
    simp only [BitVec.toNat_ofNat, BitVec.truncate_eq_setWidth, BitVec.toNat_setWidth, BitVec.extractLsb'_toNat,
      Nat.shiftRight_eq_div_pow]
    omega
  have low (a : W48) : a.truncate 32 = a.extractLsb' 0 32 := by
    apply BitVec.eq_of_toNat_eq
    simp
  have half (a : W32) : a.truncate 16 = a.extractLsb' 0 16 := by
    apply BitVec.eq_of_toNat_eq
    simp
  exact ⟨run_onCore_addr rd (fun c => c.ar ra + addaVal c (.reg rb)) ready rfl,
    run_onCore_addr rd (fun c => c.ar ra + addaVal c (.imm imm)) ready rfl,
    run_onCore_move rd (fun c => (c.ar ra - c.ar rb).truncate 32) ready (low _),
    run_onCore_addr rd (fun c => c.ar ra) ready rfl,
    run_onCore_addr rd (fun c => withHigh (c.ar rd) imm) ready (withHigh_eq _ _),
    run_onCore_move rd (fun c => (c.ar ra).truncate 32) ready (low _),
    run_onCore_move rd (fun c => BitVec.ofNat 32 ((c.ar ra).toNat / 2 ^ 32)) ready upper,
    run_onCore_addr rd (fun c => (c.dr ra).zeroExtend 48) ready rfl,
    run_onCore_addr rd (fun c => (c.dr ra).signExtend 48) ready rfl,
    run_onCore_addr rd (fun c => withHigh (c.ar rd) ((c.dr ra).truncate 16)) ready (by rw [withHigh_eq, half]),
    run_onCore_addr rd (fun c => c.ar ra + disp.signExtend 48) ready rfl,
    run_onCore_addr rd (fun c => c.ar ra + (c.dr rb).signExtend 48 * BitVec.ofNat 48 (2 ^ sc.val)) ready rfl⟩

end Sys2Proof.Machine
end

/-! ## Loads, stores, calls and returns in local SRAM (09 R247, R256; 08 R223, R231) -/
section
namespace Sys2Proof.Machine

/-- An aligned read of local SRAM whose words are good. -/
theorem dataAccess_read {s : Chip} {t : Nat} {ea : W48} {size : Nat} (aligned : ea.toNat % size = 0)
    (inside : ea.toNat < 131072) (good : sramBad (coreOf s t) ea.toNat size = false) :
    dataAccess s t ea size none = .ok (memRead (coreOf s t).sram ea.toNat size) s := by
  simp [dataAccess, aligned, inside, good]

/-- An aligned write of local SRAM. -/
theorem dataAccess_write {s : Chip} {t : Nat} {ea : W48} {size : Nat} (v : Bytes) (aligned : ea.toNat % size = 0)
    (inside : ea.toNat < 131072) :
    dataAccess s t ea size (some v) = .ok [] (setCore s t (sramWrite (coreOf s t) ea.toNat v)) := by
  simp [dataAccess, aligned, inside]

/-- A misaligned access. -/
theorem dataAccess_misaligned {s : Chip} {t : Nat} {ea : W48} {size : Nat} (wr : Option Bytes)
    (misaligned : ea.toNat % size ≠ 0) : dataAccess s t ea size wr = .fault 3 0 s := if_pos misaligned

/-- An aligned access between local SRAM and the windows: no D-space. -/
theorem dataAccess_noSpace {s : Chip} {t : Nat} {ea : W48} {size : Nat} (wr : Option Bytes) (aligned : ea.toNat % size = 0)
    (beyond : 131072 ≤ ea.toNat) (below : ea.toNat < 2 ^ 40) : dataAccess s t ea size wr = .fault 4 1 s := by
  simp only [dataAccess, aligned, ne_eq, not_true_eq_false, if_false, if_neg (Nat.not_lt.mpr beyond)]
  exact if_pos (Or.inl below)

/-- The base register after its update; the others. -/
theorem ar_applyUpdate (c : Core) (n x : Fin 16) (u : Option W48) :
    (applyUpdate c n u).ar x = if x = n then u.getD (c.ar n) else c.ar x := by
  cases u with
  | none => by_cases h : x = n <;> simp [applyUpdate, h]
  | some v => by_cases h : x = n <;> simp [applyUpdate, h, ar_setA_other]

/-- The update changes A registers only. -/
theorem applyUpdate_eq (c : Core) (n : Fin 16) (u : Option W48) :
    applyUpdate c n u = { c with a := (applyUpdate c n u).a } := by
  cases u <;> rfl

theorem loadOp_local {s : Chip} {t : Nat} {r n : Fin 16} {size : Nat} {ea : Ea} (write : Core → Fin 16 → Bytes → Core)
    {a : W48} {u : Option W48} (hea : eaOf (coreOf s t) n size ea = some (a, u)) (aligned : a.toNat % size = 0)
    (inside : a.toNat < 131072) (good : sramBad (coreOf s t) a.toNat size = false) :
    loadOp t r n size ea write s
      = .done (setCore s t (write (applyUpdate (coreOf s t) n u) r (memRead (coreOf s t).sram a.toNat size))) := by
  simp only [loadOp, hea, dataAccess_read aligned inside good]

theorem storeOp_local {s : Chip} {t : Nat} {n : Fin 16} {size : Nat} {ea : Ea} (v : Core → Bytes)
    {a : W48} {u : Option W48} (hea : eaOf (coreOf s t) n size ea = some (a, u)) (aligned : a.toNat % size = 0)
    (inside : a.toNat < 131072) :
    storeOp t n size ea v s
      = .done (setCore s t (applyUpdate (sramWrite (coreOf s t) a.toNat (v (coreOf s t))) n u)) := by
  simp only [storeOp, hea, dataAccess_write _ aligned inside, coreOf_setCore_same, setCore_setCore]

/-- An access of 1, 2, 4 or 8 bytes, aligned, that begins in local SRAM ends there. -/
theorem aligned_access_fits {a size : Nat} (hs : size ∈ [1, 2, 4, 8]) (aligned : a % size = 0) (inside : a < 131072) :
    a + size ≤ 131072 := by
  simp only [List.mem_cons, List.not_mem_nil, or_false] at hs
  obtain rfl | rfl | rfl | rfl := hs <;> omega

/-- An access size is one of those. -/
theorem accessSize_mem (sz : Fin 4) : 2 ^ sz.val ∈ [1, 2, 4, 8] := by
  revert sz
  decide

/-- Bytes written to local SRAM within it: what they leave of the core. -/
theorem sramWrite_spec (c : Core) (a : Nat) (v : Bytes) (h : a + v.length ≤ 131072) :
    memRead (sramWrite c a v).sram a v.length = v
    ∧ (∀ x, (x < a ∨ a + v.length ≤ x) → memGet (sramWrite c a v).sram x = memGet c.sram x)
    ∧ (∀ w, w ∈ (sramWrite c a v).bad → w ∈ c.bad) := by
  have whole : v.take (sramSize - a) = v := List.take_of_length_le (by simp only [sramSize]; omega)
  refine ⟨?_, fun x hx => ?_, fun w hw => List.mem_of_mem_filter hw⟩
  · rw [sramWrite, whole, memRead_memWrite]
  · rw [sramWrite, whole, memGet_memWrite_outside _ _ _ _ hx]

theorem localLoads : Claim.LocalLoads := by
  intro s t rd n sz ea a u ready c size hea aligned inside good v base
  have base_of {c' : Core} (ha : c'.a = (applyUpdate c n u).a) : base c' := by
    have same (x : Fin 16) : c'.ar x = (applyUpdate c n u).ar x := by simp only [Core.ar, ha]
    refine ⟨?_, fun x hx => ?_⟩
    · rw [same, ar_applyUpdate, if_pos rfl]
    · rw [same, ar_applyUpdate, if_neg hx]
  have keeps (r : W32) : { (applyUpdate c n u).setD rd r with pc := c.pc + 4 }
      = { c with d := tput c.d rd.val r, a := (applyUpdate c n u).a, pc := c.pc + 4 } := by
    rw [applyUpdate_eq]
    rfl
  have d_same : (applyUpdate c n u).d = c.d := by rw [applyUpdate_eq]
  have others (r : W32) (x : Fin 16) (hx : x ≠ rd) : ((applyUpdate c n u).setD rd r).dr x = c.dr x := by
    rw [dr_setD_other _ _ _ _ hx, Core.dr, d_same, Core.dr]
  refine ⟨fun hsz => ?zero, fun hsz => ?sign, fun hsz free => ?quad⟩
  case zero =>
    have loads := loadOp_local (r := rd) (fun c r b => c.setD r (BitVec.ofNat 32 (leNat b))) hea aligned inside good
    exact ⟨_, run_doneCore ready ((if_neg hsz).trans loads), base_of rfl, dr_setD_same _ rd _, others _, by rw [keeps]⟩
  case sign =>
    have loads := loadOp_local (r := rd) (fun c r b => c.setD r (BitVec.ofInt 32 (sInt (8 * szBytes sz) (leNat b))))
      hea aligned inside good
    exact ⟨_, run_doneCore ready ((if_neg (Nat.not_lt.mpr hsz)).trans loads), base_of rfl, dr_setD_same _ rd _, others _,
      by rw [keeps]⟩
  case quad =>
    have eight : size = 8 := congrArg (2 ^ ·) hsz
    have allowed : (eaUpdates ea && rd == n) = false := by
      obtain h | h := free <;> simp [h]
    have loads := loadOp_local (r := rd) (fun c r b => c.setA r (BitVec.ofNat 48 (leNat b)))
      (eight ▸ hea) (eight ▸ aligned) inside (eight ▸ good)
    refine ⟨_, run_doneCore ready ((if_neg (ne_true_of_eq_false allowed)).trans loads), ?_, fun hn => ?_, fun x hd hx => ?_, ?_⟩
    · rw [show v = leNat (memRead c.sram a.toNat 8) by rw [← eight]]
      exact ar_setA_same _ rd _
    · exact (ar_setA_other _ rd n _ (Ne.symm hn)).trans ((ar_applyUpdate c n n u).trans (if_pos rfl))
    · exact (ar_setA_other _ rd x _ hd).trans ((ar_applyUpdate c n x u).trans (if_neg hx))
    · rw [applyUpdate_eq]; rfl

theorem localStores : Claim.LocalStores := by
  intro s t rm n sz ea a u ready c size hea aligned inside stored
  have fits := aligned_access_fits (accessSize_mem sz) aligned inside
  have stored_of {i : Instr} (v : Core → Nat) (hi : exec i s
      = coreBecomes s t { applyUpdate (sramWrite c a.toNat (leBytes size (v c))) n u with pc := c.pc + 4 }) : stored i (v c) := by
    have len := leBytes_length size (v c)
    obtain ⟨written, outside, bad⟩ := sramWrite_spec c a.toNat (leBytes size (v c)) (by rw [len]; exact fits)
    rw [len] at written outside
    have core : applyUpdate (sramWrite c a.toNat (leBytes size (v c))) n u
        = { sramWrite c a.toNat (leBytes size (v c)) with
            a := (applyUpdate (sramWrite c a.toNat (leBytes size (v c))) n u).a } := applyUpdate_eq _ _ _
    refine ⟨_, hi, ?_, ?_, ?_, fun x hx => ?_, ?_, ?_⟩
    · rw [core]; exact written
    · rw [core]; exact outside
    · exact (ar_applyUpdate _ n n u).trans (if_pos rfl)
    · exact (ar_applyUpdate _ n x u).trans (if_neg hx)
    · rw [core]; exact bad
    · rw [core]; rfl
  refine ⟨fun hsz => ?_, fun hsz free => ?_⟩
  · have stores := storeOp_local (fun c => leBytes (szBytes sz) (c.dr rm).toNat) hea aligned inside
    exact stored_of (fun c => (c.dr rm).toNat) (run_doneCore ready ((if_neg hsz).trans stores))
  · have eight : size = 8 := congrArg (2 ^ ·) hsz
    have allowed : (eaUpdates ea && rm == n) = false := by
      obtain h | h := free <;> simp [h]
    have stores := storeOp_local (fun c => leBytes 8 (c.ar rm).toNat) (eight ▸ hea) (eight ▸ aligned) inside
    refine stored_of (fun c => (c.ar rm).toNat) ?_
    rw [eight]
    exact run_doneCore ready ((if_neg (ne_true_of_eq_false allowed)).trans stores)

/-- Settles O9: loads and stores of local SRAM. -/
theorem localMemory : Obligations.LocalMemory := ⟨localLoads, localStores⟩

end Sys2Proof.Machine
end

/-! ## Branches, calls and returns (09 R256, R257, Table 9-11) -/
section
namespace Sys2Proof.Machine

/-- An instruction that completes and changes nothing else. -/
theorem run_doneSame {s : State} {t : Nat} {f : Chip → InsRes} (h : Ready s t) (hf : f s.chip = .done s.chip) :
    run s (fun x => issue x t f) = coreBecomes s t { coreOf s.chip t with pc := (coreOf s.chip t).pc + 4 } := run_done h hf

/-- An instruction that goes on at a target and changes nothing else. -/
theorem run_gotoSame {s : State} {t : Nat} {f : Chip → InsRes} {pc : W18} (h : Ready s t) (hf : f s.chip = .goto pc s.chip) :
    run s (fun x => issue x t f) = coreBecomes s t { coreOf s.chip t with pc := pc } := by
  simp only [run, coreBecomes, becomes, issue_ready s t f h, hf, retire]

/-- The conditions in the order of Table 9-11; number 15 is reserved. -/
theorem condHolds_eq (w : W32) (cond : Fin 16) :
    condHolds w cond.val =
      (let n := swBit w swN
       let z := swBit w swZ
       let v := swBit w swV
       let cy := swBit w swC
       [true, z, !z, n, !n, v, !v, cy, !cy, cy || z, !(cy || z), n != v, n == v, z || n != v, !(z || n != v)])[cond.val]? := by
  generalize hn : swBit w swN = n
  generalize hz : swBit w swZ = z
  generalize hv : swBit w swV = v
  generalize hc : swBit w swC = cy
  fin_cases cond <;> simp [condHolds, hn, hz, hv, hc]
  -- what is left is number 14: both sides say that n and v agree, negated on different levels
  cases n <;> cases v <;> rfl

/-- A displacement in instructions, as an offset in bytes modulo 2^18. -/
theorem offset_far (disp : BitVec 22) : (4 : W18) * disp.signExtend 18 = BitVec.ofInt 18 (4 * disp.toInt) := by
  rw [BitVec.ofInt_mul]
  rfl

theorem offset_near (disp : BitVec 18) : (4 : W18) * disp = BitVec.ofInt 18 (4 * disp.toInt) := by
  rw [BitVec.ofInt_mul, BitVec.ofInt_toInt]
  rfl

/-- An aligned register target, cut to a program counter. -/
theorem target_eq (a : W48) : BitVec.ofNat 18 a.toNat = a.extractLsb' 0 18 := by
  apply BitVec.eq_of_toNat_eq
  simp

theorem aligned4_eq {n : Nat} (h : n % 4 = 0) : aligned4 n = true := by simp [aligned4, h]

theorem branches : Claim.Branches := by
  intro s t ra dn dm cond disp near ready c n z v cy taken far
  refine ⟨fun b hb => ?branch, ?count, fun aligned => ?jump⟩
  case branch =>
    have holds : condHolds c.sw cond.val = some b := (condHolds_eq c.sw cond).trans hb
    cases b with
    | true =>
      refine (run_gotoSame ready (pc := c.pc + 4 * disp.signExtend 18) ?_).trans (by rw [offset_far]; rfl)
      simp only [branchOp, c, holds, if_true]
    | false =>
      refine run_doneSame ready ?_
      simp only [branchOp, c, holds, Bool.false_eq_true, if_false]
  case count =>
    let k := c.setD dn (c.dr dn + 1)
    by_cases equal : k.dr dn = k.dr dm
    · refine ⟨{ k with pc := c.pc + 4 }, run_doneCore ready (if_neg (not_not.mpr equal)), dr_setD_same _ _ _,
        fun _ hx => dr_setD_other _ _ _ _ hx, ?_⟩
      exact congrArg (fun pc => { k with pc := pc }) (if_pos equal).symm
    · refine ⟨{ k with pc := c.pc + BitVec.ofInt 18 (4 * near.toInt) }, ?_, dr_setD_same _ _ _,
        fun _ hx => dr_setD_other _ _ _ _ hx, ?_⟩
      · rw [← offset_near]
        exact run_gotoCore ready (if_pos equal)
      · exact congrArg (fun pc => { k with pc := pc }) (if_neg equal).symm
  case jump =>
    rw [← target_eq]
    exact run_gotoSame ready (if_pos (aligned4_eq aligned))

/-- A push at `[--A15]` in local SRAM: what it leaves of the core, at the target. -/
theorem callTo_local {s : Chip} {t : Nat} (target : W18) (aligned : ((coreOf s t).ar 15 - 8).toNat % 8 = 0)
    (inside : ((coreOf s t).ar 15 - 8).toNat < 131072) :
    callTo t target s = .goto target (setCore s t
      ((sramWrite (coreOf s t) ((coreOf s t).ar 15 - 8).toNat (leBytes 8 (coreOf s t).next.toNat)).setA 15
        ((coreOf s t).ar 15 - 8))) := by
  simp only [callTo, dataAccess_write _ aligned inside, coreOf_setCore_same, setCore_setCore]

/-- A pop of an aligned target from local SRAM. -/
theorem retOp_local {s : Chip} {t : Nat} (aligned : ((coreOf s t).ar 15).toNat % 8 = 0)
    (inside : ((coreOf s t).ar 15).toNat < 131072) (good : sramBad (coreOf s t) ((coreOf s t).ar 15).toNat 8 = false)
    (low : leNat (memRead (coreOf s t).sram ((coreOf s t).ar 15).toNat 8) % 4 = 0) :
    retOp t s = .goto (BitVec.ofNat 18 (leNat (memRead (coreOf s t).sram ((coreOf s t).ar 15).toNat 8)))
      (setCore s t ((coreOf s t).setA 15 ((coreOf s t).ar 15 + 8))) := by
  simp only [retOp, dataAccess_read aligned inside good, aligned4_eq low, if_true]

theorem calls : Claim.Calls := by
  intro s t ra disp ready c sp pushed
  refine ⟨fun aligned inside => ?call, fun aligned inside good low => ?ret⟩
  case call =>
    have fits := aligned_access_fits (by decide) aligned inside
    have pushed_of {i : Instr} {target : W18} (hi : exec i s = coreBecomes s t
        { (sramWrite c (sp - 8).toNat (leBytes 8 c.next.toNat)).setA 15 (sp - 8) with pc := target }) : pushed i target := by
      have len := leBytes_length 8 c.next.toNat
      obtain ⟨written, outside, bad⟩ := sramWrite_spec c (sp - 8).toNat (leBytes 8 c.next.toNat) (by rw [len]; exact fits)
      rw [len] at written outside
      exact ⟨_, hi, written, outside, ar_setA_same _ 15 _, fun x hx => ar_setA_other _ 15 x _ hx, bad, rfl⟩
    refine ⟨pushed_of ?_, fun hra => pushed_of ?_⟩
    · rw [← offset_far]
      exact run_gotoCore ready (callTo_local _ aligned inside)
    · rw [← target_eq]
      exact run_gotoCore ready ((if_pos (aligned4_eq hra)).trans (callTo_local _ aligned inside))
  case ret =>
    have pops := run_gotoCore ready (f := retOp t) (retOp_local aligned inside good low)
    change run s _ = coreBecomes s t { c.setA 15 (sp + 8) with pc := BitVec.ofNat 18 (leNat (memRead c.sram sp.toNat 8)) } at pops
    generalize BitVec.ofNat 18 (leNat (memRead c.sram sp.toNat 8)) = target at pops ⊢
    exact ⟨_, pops, ar_setA_same c 15 _, fun x hx => ar_setA_other c 15 x _ hx, rfl⟩

/-- Settles O10: branches, and calls and returns. -/
theorem tuitalControlFlow : Obligations.TuitalControlFlow := ⟨branches, calls⟩

end Sys2Proof.Machine
end

/-! ## Exceptions, special registers and interrupts (08 R232 to R237; 09 R246, R263) -/
section
namespace Sys2Proof.Machine

/-- TRAP with EXL clear enters its exception with EPC at the next instruction. -/
theorem run_trap {s : State} {t cause sub : Nat} {f : Chip → InsRes} (h : Ready s t) (hf : f s.chip = .trap cause sub s.chip)
    (hexl : swBit (coreOf s.chip t).sw swExl = false) (hs : sub < 256) (hc : cause < 256) :
    ∃ x, run s (fun c => issue c t f) = becomes s x
      ∧ Enters s t cause sub ((coreOf s.chip t).pc + 4) (coreOf s.chip t).faddr x := by
  refine ⟨_, by simp only [run, issue_ready s t f h, hf, retire]; rfl, ?_⟩
  exact enters_of s t cause sub _ none { coreOf s.chip t with pc := (coreOf s.chip t).next } h.1 rfl (fun _ => hexl) hs hc

/-- A load or store at a displacement whose access faults raises that fault; only a data fault (cause 4) names its address. -/
theorem loadOp_fault {s : Chip} {t : Nat} {r n : Fin 16} {size : Nat} {disp : BitVec 16} {cause sub : Nat}
    (write : Core → Fin 16 → Bytes → Core)
    (h : dataAccess s t ((coreOf s t).ar n + disp.signExtend 48) size none = .fault cause sub s) :
    loadOp t r n size (.m0 disp) write s
      = .fault cause sub (if cause = 4 then some ((coreOf s t).ar n + disp.signExtend 48) else none) s := by
  simp only [loadOp, eaOf, h]

theorem storeOp_fault {s : Chip} {t : Nat} {n : Fin 16} {size : Nat} {disp : BitVec 16} {cause sub : Nat}
    (v : Core → Bytes)
    (h : dataAccess s t ((coreOf s t).ar n + disp.signExtend 48) size (some (v (coreOf s t))) = .fault cause sub s) :
    storeOp t n size (.m0 disp) v s
      = .fault cause sub (if cause = 4 then some ((coreOf s t).ar n + disp.signExtend 48) else none) s := by
  simp only [storeOp, eaOf, h]

theorem exceptions : Claim.Exceptions := by
  intro s t rd ra rb imm w disp ready exl c a raises
  have faults {cause sub : Nat} (addr : Option W48) {f : Chip → InsRes} (hf : f s.chip = .fault cause sub addr s.chip)
      (hs : sub < 256) (hc : cause < 256) := run_fault s t cause sub addr f ready hf exl hs hc
  have illegals {f : Chip → InsRes} (hf : f s.chip = illegal s.chip) := faults none hf (by decide) (by decide)
  have misaligned4 {n : Nat} (h : n % 4 ≠ 0) : ¬ aligned4 n = true := by simp [aligned4, h]
  refine ⟨run_trap ready rfl exl imm.isLt (by decide), fun hw => illegals (if_pos hw), fun hrd i hi => ?acc,
    illegals rfl, illegals (if_pos (by simp [eaUpdates])),
    fun hra => ⟨faults none (if_neg (misaligned4 hra)) (by decide) (by decide),
      faults none (if_neg (misaligned4 hra)) (by decide) (by decide)⟩,
    fun odd => ⟨?loadOdd, ?storeOdd⟩, fun aligned beyond below => ⟨?loadNowhere, ?storeNowhere⟩⟩
  case acc =>
    obtain rfl | rfl | rfl | rfl | rfl | rfl | rfl | rfl := hi
    case inr.inr.inr.inr.inr.inr.inl =>
      refine illegals ?_
      by_cases hra : 3 < ra.val
      · exact if_pos hra
      · exact (if_neg hra).trans (if_pos hrd)
    case inr.inr.inr.inr.inr.inr.inr => exact illegals (if_pos (Or.inl hrd))
    all_goals exact illegals (if_pos hrd)
  case loadOdd =>
    exact faults none ((if_neg (by decide)).trans (loadOp_fault _ (dataAccess_misaligned none odd))) (by decide) (by decide)
  case storeOdd =>
    exact faults none ((if_neg (by decide)).trans (storeOp_fault (fun c => leBytes 4 (c.dr rd).toNat)
      (dataAccess_misaligned _ odd))) (by decide) (by decide)
  case loadNowhere =>
    exact faults (some a) ((if_neg (by decide)).trans (loadOp_fault _ (dataAccess_noSpace none aligned beyond below)))
      (by decide) (by decide)
  case storeNowhere =>
    exact faults (some a) ((if_neg (by decide)).trans (storeOp_fault (fun c => leBytes 4 (c.dr rd).toNat)
      (dataAccess_noSpace _ aligned beyond below))) (by decide) (by decide)

/-- A core written again as it stands. -/
theorem setCore_idem {s y : Chip} {t : Nat} {k : Core} (h : y.cores = (setCore s t k).cores) : setCore y t k = y := by
  have same := congrArg Chip.cores (setCore_setCore s t k k)
  simp only [setCore] at same h
  rw [setCore, h, same, ← h]

theorem doubleFault_claim : Claim.DoubleFault := by
  intro s t imm ready exl e
  have code : ecauseOf 8 imm.toNat = imm.toNat * 256 + 8 := by
    have := imm.isLt
    unfold ecauseOf
    omega
  have core : coreOf e t = { coreOf s.chip t with pc := (coreOf s.chip t).pc + 4 } := coreOf_setCore_same s.chip t _
  have waits : (coreOf s.chip t).wait = .none := by
    obtain ⟨-, -, hw, -, -⟩ := ready
    exact hw
  have entered : exec (.trap t imm) s = becomes s (if 5 ≤ t ∧ t ≤ 15 then
      setCoreState (setCore e t { coreOf e t with wait := .none }) t 1 else startCore e t (coreOf e t).entry) := by
    change run s (fun x => issue x t (fun s => .trap 8 imm.toNat s)) = _
    simp only [run, issue_ready s t _ ready, retire, enterException, coreOf_setCore_same, exl, and_true, doubleFault, code,
      Nat.le_refl, if_true]
    rfl
  rw [entered, core]
  split
  case isTrue =>
    have unchanged : setCore e t { coreOf s.chip t with pc := (coreOf s.chip t).pc + 4, wait := .none } = e := by
      rw [← waits]
      exact setCore_idem rfl
    exact congrArg (fun y => becomes s (setCoreState y t 1)) unchanged
  case isFalse => rfl

/-- Settles O11. -/
theorem tuitalExceptions : Obligations.TuitalExceptions := ⟨exceptions, doubleFault_claim⟩

/-- SW after MTSR (09 R263). -/
theorem swBit_mtsrSw (w v : W32) (j : Nat) : swBit (mtsrSw w v) j
    = if j ∈ [swC, swV, swZ, swN, swSt, swIe, swPie] then swBit v j
      else if j ∈ [swSat, swExl] then swBit w j && swBit v j else swBit w j := by
  have written : swBit ([swC, swV, swZ, swN, swSt, swIe, swPie].foldl (fun w i => setBit w i (swBit v i)) w) j
      = if j ∈ [swC, swV, swZ, swN, swSt, swIe, swPie] then swBit v j else swBit w j := by
    simp only [List.foldl_cons, List.foldl_nil, swBit_set_swC, swBit_set_swV, swBit_set_swZ, swBit_set_swN, swBit_set_swSt,
      swBit_set_swIe, swBit_set_swPie, List.mem_cons, List.not_mem_nil, or_false]
    split_ifs <;> simp_all
  have cleared (x : W32) (i : Nat) (hi : i < 32) :
      swBit (if swBit v i then x else setBit x i false) j = if j = i then swBit x j && swBit v j else swBit x j := by
    by_cases hv : swBit v i = true
    · rw [if_pos hv]
      split
      case isTrue h => simp [h, hv]
      case isFalse => rfl
    · rw [if_neg hv, swBit_setBit _ _ _ _ hi]
      split
      case isTrue h => simp [h, hv]
      case isFalse => rfl
  simp only [mtsrSw]
  rw [cleared _ swExl (by decide), cleared _ swSat (by decide), written]
  by_cases hx : j = swExl
  · subst hx; simp
  · by_cases hs : j = swSat
    · subst hs; simp
    · simp [hx, hs]

theorem specialRegisters : Claim.SpecialRegisters := by
  intro s t rd ready c moves
  have epc : BitVec.ofNat 18 (bits (c.dr rd).toNat 17 2 * 4) = (c.dr rd).extractLsb' 2 16 ++ (0 : BitVec 2) := by
    apply BitVec.eq_of_toNat_eq
    rw [BitVec.toNat_append, ← Nat.shiftLeft_add_eq_or_of_lt (BitVec.isLt _)]
    simp only [bits, BitVec.toNat_ofNat, BitVec.extractLsb'_toNat, Nat.shiftLeft_eq, Nat.shiftRight_eq_div_pow, BitVec.ofNat_eq_ofNat,
      Nat.zero_mod]
    omega
  refine ⟨run_onCore_move rd (fun c => c.sw) ready rfl, run_onCore_move rd (fun c => c.epc.zeroExtend 32) ready rfl,
    run_onCore_move rd (fun c => c.ecause) ready rfl, ⟨_, run_doneCore ready rfl, move_result c rd _⟩, ?sw,
    ?epc, ?rete, run_doneSame ready rfl, run_doneSame ready rfl, ?wait⟩
  case sw =>
    refine ⟨_, run_onCore s t (fun c => { c with sw := mtsrSw c.sw (c.dr rd) }) ready, fun j hj => ?_, fun j hj => ?_,
      fun j hj => ?_, rfl⟩
    · exact (swBit_mtsrSw _ _ j).trans (if_pos hj)
    · have other : j ∉ [swC, swV, swZ, swN, swSt, swIe, swPie] := by
        revert j
        decide
      exact (swBit_mtsrSw _ _ j).trans ((if_neg other).trans (if_pos hj))
    · simp only [List.mem_cons, List.not_mem_nil, or_false, not_or] at hj
      refine (swBit_mtsrSw _ _ j).trans ((if_neg ?_).trans (if_neg ?_)) <;> simp [hj]
  case epc =>
    rw [← epc]
    exact run_onCore s t (fun c => { c with epc := BitVec.ofNat 18 (bits (c.dr rd).toNat 17 2 * 4) }) ready
  case rete =>
    refine ⟨_, run_gotoCore ready (k := returnException c) rfl, ?_, ?_, fun j h1 h2 => ?_, rfl⟩
    · simp [returnException]
    · simp [returnException]
    · simp [returnException, h1, h2]
  case wait =>
    split
    case isTrue h => exact run_doneSame ready (if_pos h)
    case isFalse h => exact run_hold ready (if_neg h)

/-- A bit set in a number below 256 is one of eight. -/
theorem bit_lt_eight {m n : Nat} (hm : m < 256) (set : bit m n = true) : n < 8 := by
  by_contra big
  have high : 2 ^ 8 ≤ 2 ^ n := Nat.pow_le_pow_right (by decide) (Nat.not_lt.mp big)
  have clear : m.testBit n = false := Nat.testBit_lt_two_pow (Nat.lt_of_lt_of_le hm high)
  exact absurd set (by simp [bit, clear])

/-- The lowest of eight bits, where one is set. -/
theorem lowBit_eq {m n : Nat} (hm : m < 256) (set : bit m n = true) (below : ∀ k, k < n → bit m k = false) :
    lowBit m = n := by
  have found : (List.range 8).find? (fun i => bit m i) = some n := by
    rw [List.find?_range_eq_some]
    exact ⟨set, List.mem_range.mpr (bit_lt_eight hm set), fun k hk => by simp [below k hk]⟩
  rw [lowBit, found]
  rfl

theorem pendEnabled_lt (c : Core) : c.pendEnabled < 256 := Nat.mod_lt _ (by decide)

/-- An interrupt of the lowest enabled pending binding. -/
theorem takeInterrupt_eq {x : Chip} {t n : Nat} (set : bit (coreOf x t).pendEnabled n = true)
    (below : ∀ k, k < n → bit (coreOf x t).pendEnabled k = false)
    (ie : swBit (coreOf x t).sw swIe = true) (exl : swBit (coreOf x t).sw swExl = false) :
    takeInterrupt x t = enterException x t (0x10 + n) 0 (coreOf x t).intEpc none := by
  have some_set : (coreOf x t).pendEnabled ≠ 0 := by
    intro none_set
    rw [none_set] at set
    simp [bit] at set
  have takeable : (coreOf x t).takeable = true := by simp [Core.takeable, some_set, ie, exl]
  have lowest : lowBit (coreOf x t).pendEnabled = n := lowBit_eq (pendEnabled_lt _) set below
  simp only [takeInterrupt, takeable, if_true, lowest]

/-- Entry depends on OD 08.001 of the core nowhere: what it leaves from a core that was shown to run first. -/
theorem enters_of_shown {s : State} {t cause sub v : Nat} {epc : W18} {addr : W48} {b : Chip} (ht : t < 24)
    (h : Enters { s with chip := odSet s.chip 0x08001 (t + 1) v } t cause sub epc addr b) :
    Enters s t cause sub epc addr b := by
  obtain ⟨hepc, hcause, hpc, hpie, hie, hexl, hsw, hcore, hcores, hcount, hshown, hstate, hframe, hchip⟩ := h
  refine ⟨hepc, hcause, hpc, hpie, hie, hexl, hsw, hcore, hcores, ?_, hshown, hstate, fun o k hk ho => ?_, hchip⟩
  · rw [hcount, odN_odSet_other _ _ _ _ _ _ (odKey_ne _ _ _ _ (by omega) (by omega) (by omega))]
  · rw [hframe o k hk ho]
    exact odGet_odPut_other _ _ _ _ _ _ (odKey_ne _ _ _ _ hk (by omega) (by omega))

/-- A core whose wait has ended without an interrupt. -/
theorem takeInterrupt_closed {x : Chip} {t : Nat} (h : ¬ (swBit (coreOf x t).sw swIe = true ∧ swBit (coreOf x t).sw swExl = false)) :
    takeInterrupt x t = x := by
  have closed : (coreOf x t).takeable = false := by
    simp only [Core.takeable]
    revert h
    cases swBit (coreOf x t).sw swIe <;> cases swBit (coreOf x t).sw swExl <;> simp
  rw [takeInterrupt, closed]
  rfl

theorem interrupts : Claim.Interrupts := by
  intro s t n ht c lowest open_ goesOn
  refine ⟨fun state ⟨set, below⟩ ⟨ie, exl⟩ => ?taken, fun state waits ⟨set, below⟩ ⟨ie, exl⟩ => ?behindWait,
    fun state waits pending closed => ?goesOn, fun sig eq thr state waits => ?released⟩
  case taken =>
    have cause_lt : 0x10 + n < 256 := by
      have := bit_lt_eight (pendEnabled_lt c) set
      omega
    refine ⟨enterException s.chip t (0x10 + n) 0 c.intEpc none, ?_, ?_⟩
    · rw [← takeInterrupt_eq set below ie exl]
      exact congrArg (becomes s) (if_pos ⟨ht, state⟩)
    · rw [← enterException_setCore_self _ _ _ _ _ _ fun _ => exl]
      exact enters_of s t _ 0 _ none c ht rfl (fun _ => exl) (by decide) cause_lt
  case behindWait =>
    have cause_lt : 0x10 + n < 256 := by
      have := bit_lt_eight (pendEnabled_lt c) set
      omega
    have pending : c.pendEnabled ≠ 0 := by
      intro none_set
      rw [none_set] at set
      simp [bit] at set
    let k : Core := { c with wait := .none, pc := c.next }
    have core : coreOf (resume s.chip t) t = k := coreOf_setCore_same s.chip t k
    have taken : takeInterrupt (resume s.chip t) t = enterException (resume s.chip t) t (0x10 + n) 0 (c.pc + 4) none := by
      rw [takeInterrupt_eq (n := n) (by rw [core]; exact set) (by rw [core]; exact below) (by rw [core]; exact ie)
        (by rw [core]; exact exl), core]
      rfl
    refine ⟨_, ?_, enters_of_shown ht (v := 2) (enters_of _ t _ 0 _ none k ht rfl (fun _ => exl) (by decide) cause_lt)⟩
    exact (congrArg (becomes s) (if_pos ⟨ht, state, waits, pending⟩)).trans (congrArg (becomes s) taken)
  case goesOn =>
    have core : coreOf (resume s.chip t) t = { c with wait := .none, pc := c.next } := coreOf_setCore_same s.chip t _
    have unchanged : takeInterrupt (resume s.chip t) t = resume s.chip t := takeInterrupt_closed (by rw [core]; exact closed)
    exact (congrArg (becomes s) (if_pos ⟨ht, state, waits, pending⟩)).trans (congrArg (becomes s) unchanged)
  case released =>
    change becomes s (if t < 24 ∧ coreState s.chip t = 3 then _ else s.chip) = _
    rw [if_pos ⟨ht, state⟩, show (coreOf s.chip t).wait = .sigwt sig eq thr true from waits]
    rfl

/-- Settles O12: special registers and waits, interrupts and the end of waits. -/
theorem tuitalSystem : Obligations.TuitalSystem := ⟨specialRegisters, interrupts⟩

end Sys2Proof.Machine
end

/-! ## Signals of cores (08 R235, R236; 09 R258 to R260; 19 R481, R483) -/
section
namespace Sys2Proof.Machine

/-- A table with every value changed by a function. -/
theorem tget?_map {α : Type} (f : α → α) (l : Table α) (k : Nat) :
    tget? (l.map (fun x => (x.1, f x.2))) k = (tget? l k).map f := by
  induction l with
  | nil => rfl
  | cons p r ih =>
    obtain ⟨k', v⟩ := p
    simp only [List.map_cons, tget?]
    split
    · rfl
    · exact ih

/-! ### Adds -/

/-- An event changes one object: the newest SEQ. -/
theorem odGet_raiseFull (s : Chip) (code cls : Nat) (b : Bool) (o k p u a o' k' : Nat) (hk : k' < 256)
    (h : o' ≠ 0x01120 ∨ k' ≠ 0) : odGet (raiseFull s code cls b o k p u a) o' k' = odGet s o' k' :=
  odGet_odPut_other _ _ _ _ _ _ (odKey_ne _ _ _ _ hk (by decide) (by omega))

theorem odN_raiseFull (s : Chip) (code cls : Nat) (b : Bool) (o k p u a o' k' : Nat) (hk : k' < 256)
    (h : o' ≠ 0x01120 ∨ k' ≠ 0) : odN (raiseFull s code cls b o k p u a) o' k' = odN s o' k' :=
  congrArg OdVal.nat (odGet_raiseFull s code cls b o k p u a o' k' hk h)

/-- A write of another subindex leaves a number as it was. -/
theorem odN_odSet_ne (s : Chip) (o k o' k' n : Nat) (hk : k < 256) (hk' : k' < 256) (h : o' ≠ o ∨ k' ≠ k) :
    odN (odSet s o k n) o' k' = odN s o' k' := odN_odSet_other s o k o' k' n (odKey_ne _ _ _ _ hk' hk h)

/-- The counter of a signal after an add that the home takes. -/
theorem sigVal_applyAdd (c : Chip) (sig v : Nat) :
    sigVal (applyAdd c sig v) sig = if v = 0 then sigVal c sig else min (sigVal c sig + v) (2 ^ 64 - 1) := by
  have written : sigVal (setSig c sig (sigSum (sigVal c sig) v)) sig = sigSum (sigVal c sig) v := odN_odSet_same _ _ _ _
  unfold applyAdd
  split
  case isTrue => rfl
  case isFalse =>
    change sigVal (if 2 ^ 64 - 1 < sigVal c sig + v then _ else setSig c sig (sigSum (sigVal c sig) v)) sig = _
    split
    case isTrue =>
      refine Eq.trans ?_ written
      refine (odN_raiseFull _ _ _ _ _ _ _ _ _ _ _ (by omega) (by omega)).trans ?_
      exact odN_odSet_ne _ _ _ _ _ _ (by decide) (by omega) (by omega)
    case isFalse => exact written

/-- The cores after such an add: each has seen the new value. -/
theorem cores_applyAdd (c : Chip) (sig v : Nat) (hv : v ≠ 0) : (applyAdd c sig v).cores
    = c.cores.map (fun x => (x.1, wakeCore (fireBindings x.2 sig (sigSum (sigVal c sig) v)) sig (sigSum (sigVal c sig) v))) := by
  rw [applyAdd, if_neg hv]
  by_cases full : 2 ^ 64 - 1 < sigVal c sig + v
  · simp only [release, if_pos full]
    rfl
  · simp only [release, if_neg full]
    rfl

/-- A core that waits is listed, and has seen the new value. -/
theorem wait_applyAdd (c : Chip) (sig v u x thr : Nat) (eq : Bool) (hv : v ≠ 0)
    (hw : (coreOf c u).wait = .sigwt x eq thr false) : (coreOf (applyAdd c sig v) u).wait
      = .sigwt x eq thr (decide (x = sig) && sigMeets (sigSum (sigVal c sig) v) thr eq) := by
  obtain ⟨k, hk⟩ : ∃ k, tget? c.cores u = some k := by
    cases h : tget? c.cores u with
    | none => rw [coreOf, tget, h] at hw; cases hw
    | some k => exact ⟨k, rfl⟩
  have hw' : k.wait = .sigwt x eq thr false := by
    rw [coreOf, tget, hk] at hw
    exact hw
  rw [coreOf, tget, cores_applyAdd c sig v hv,
    tget?_map (fun k => wakeCore (fireBindings k sig (sigSum (sigVal c sig) v)) sig (sigSum (sigVal c sig) v)), hk]
  simp only [Option.map_some, Option.getD_some, wakeCore, fireBindings, hw']
  by_cases same : x = sig
  · cases sigMeets (sigSum (sigVal c sig) v) thr eq <;> simp [same]
  · simp [same]

theorem signalAdds_claim : Claim.SignalAdds := by
  intro s owner sig vs g v dark
  have adds (allowed : sigAllowed s.chip g sig = true) :
      exec (.signalAdd owner sig vs) s = becomes s (deliverAdd s.chip sig v) := congrArg (becomes s) (if_pos allowed)
  refine ⟨fun allowed lit => ?taken, fun allowed out => ?held, fun refused => ?discarded, fun t rm r ready hsig => ?core⟩
  case taken =>
    have delivered : deliverAdd s.chip sig v = coupleOut (applyAdd s.chip sig v) sig v := if_neg (ne_true_of_eq_false lit)
    have value := sigVal_applyAdd s.chip sig v
    refine ⟨applyAdd s.chip sig v, (adds allowed).trans (congrArg _ delivered), value, fun hv => if_pos hv,
      fun hv u eq thr hw met => ?_, fun u eq thr x hx hw => ?_⟩
    · rw [wait_applyAdd _ _ _ _ _ _ _ hv hw]
      rw [value, if_neg hv] at met
      cases eq <;> simp_all [sigMeets, sigSum]
    · by_cases hv : v = 0
      · rw [applyAdd, if_pos hv]
        exact hw
      · rw [wait_applyAdd _ _ _ _ _ _ _ hv hw]
        simp [hx]
  case held => exact (adds allowed).trans (congrArg _ (if_pos out))
  case discarded => exact congrArg (becomes s) (if_neg (ne_true_of_eq_false refused))
  case core =>
    rw [← hsig]
    exact run_done ready rfl

/-! ### Bindings and waits -/

/-- Binding n once a value of its signal has been seen. -/
theorem bindOf_fireBindings (c : Core) (sig v n : Nat) : bindOf (fireBindings c sig v) n
    = if (bindOf c n).fires sig v then { bindOf c n with armed := false, fired := true } else bindOf c n := by
  have seen := tget?_map (fun b : Binding => if b.fires sig v then { b with armed := false, fired := true } else b) c.binds n
  change ((tget? (c.binds.map _) n).getD Binding.off) = _
  rw [seen]
  unfold bindOf tget
  match tget? c.binds n with
  | none => rfl
  | some b => rfl

/-- Setting bits one after another keeps those set. -/
theorem foldl_or_keeps (p : Nat × Binding → Bool) (l : List (Nat × Binding)) (m : W32) (n : Nat) (h : m.getLsbD n = true) :
    (l.foldl (fun m x => if p x then m ||| BitVec.ofNat 32 (2 ^ x.1) else m) m).getLsbD n = true := by
  induction l generalizing m with
  | nil => exact h
  | cons x r ih =>
    refine ih _ ?_
    by_cases hp : p x = true <;> simp [hp, h]

/-- The pending bit of a binding that fires. -/
theorem intPend_fireBindings (c : Core) (sig v n : Nat) (hn : n < 32) (b : Binding) (hb : tget? c.binds n = some b)
    (fires : b.fires sig v = true) : bit (fireBindings c sig v).intPend.toNat n = true := by
  have set (l : Table Binding) (m : W32) (hl : tget? l n = some b) :
      (l.foldl (fun m x => if x.2.fires sig v then m ||| BitVec.ofNat 32 (2 ^ x.1) else m) m).getLsbD n = true := by
    induction l generalizing m with
    | nil => cases hl
    | cons p r ih =>
      obtain ⟨k, b'⟩ := p
      simp only [tget?] at hl
      split at hl
      case isTrue hk =>
        cases hl
        refine foldl_or_keeps (fun x => x.2.fires sig v) r _ n ?_
        simp only [fires, if_true, hk, BitVec.getLsbD_or, BitVec.getLsbD_ofNat, Nat.testBit_two_pow_self, Bool.and_true,
          decide_eq_true hn, Bool.or_true]
      case isFalse => exact ih _ hl
  exact set c.binds c.intPend hb

/-- The port of part 0 of binding n. -/
theorem bindPort_sig (n : Fin 8) : bindPort (0xF020 + 4 * n.val) = some (n.val, 0) := by
  revert n
  decide

/-- BIND_ARM is a write of the binding's signal word. -/
theorem portOut_bindSig (s : Chip) (t : Nat) (n : Fin 8) (w : W32) :
    portOut s t (0xF020 + 4 * n.val) w = .ok 0 (bindSig s t n.val w) := by
  have := n.isLt
  simp only [portOut, bindPort_sig]
  rw [if_neg (by omega), if_neg (by omega)]
  rfl

/-- An instruction of a port write that is accepted. -/
theorem run_out {s : State} {t : Nat} {f : Chip → InsRes} {p v : Nat} {w : W32} {b : Chip} (h : Ready s t)
    (hf : f s.chip = outOp t p w s.chip) (hp : portOut s.chip t p w = .ok v b) :
    run s (fun x => issue x t f) = becomes s (setCore b t { coreOf b t with pc := (coreOf s.chip t).pc + 4 }) := by
  have completes : f s.chip = .done (setCore b t (coreOf b t)) := by rw [hf, outOp, hp]; rfl
  rw [run_done h completes, coreOf_setCore_same, setCore_setCore]

/-- One of a port read. -/
theorem run_in {s : State} {t : Nat} {f : Chip → InsRes} {p v : Nat} {rd : Fin 16} {b : Chip} (h : Ready s t)
    (hf : f s.chip = inOp t rd p s.chip) (hp : portIn s.chip t p = .ok v b) :
    run s (fun x => issue x t f)
      = becomes s (setCore b t { (coreOf b t).setD rd (BitVec.ofNat 32 v) with pc := (coreOf s.chip t).pc + 4 }) := by
  have completes : f s.chip = .done (setCore b t ((coreOf b t).setD rd (BitVec.ofNat 32 v))) := by rw [hf, inOp, hp]; rfl
  rw [run_done h completes, coreOf_setCore_same, setCore_setCore]

/-- SIGWT on a signal that the core may read, satisfied or not. -/
theorem run_sigwt {s : State} {t : Nat} {rd : Fin 16} {r : SigRef} (eq : Bool) (h : Ready s t) (even : rd.val % 2 = 0)
    (allowed : sigAllowed s.chip (coreAgent t) (sigNum (coreOf s.chip t) r) = true)
    (open_ : fenced s.chip (sigUnit (sigNum (coreOf s.chip t) r)) = false) :
    run s (fun x => issue x t (sigwtOp t rd r eq))
      = if sigMeets (sigVal s.chip (sigNum (coreOf s.chip t) r)) ((coreOf s.chip t).pair rd) eq then
          coreBecomes s t { coreOf s.chip t with pc := (coreOf s.chip t).pc + 4 }
        else becomes s (odSet (setCore s.chip t
          { coreOf s.chip t with wait := .sigwt (sigNum (coreOf s.chip t) r) eq ((coreOf s.chip t).pair rd) false })
          0x08001 (t + 1) 3) := by
  have op : sigwtOp t rd r eq s.chip
      = if sigMeets (sigVal s.chip (sigNum (coreOf s.chip t) r)) ((coreOf s.chip t).pair rd) eq then .done s.chip
        else .hold (setCoreState (setCore s.chip t
          { coreOf s.chip t with wait := .sigwt (sigNum (coreOf s.chip t) r) eq ((coreOf s.chip t).pair rd) false }) t 3) := by
    simp [sigwtOp, even, allowed, open_]
  split
  case isTrue met => exact run_doneSame h (op.trans (if_pos met))
  case isFalse unmet => exact run_hold h (op.trans (if_neg unmet))

/-- BIND_SIG armed on a signal of the core's domain: the binding, the pending bit and the frame. -/
theorem bindSig_armed {s : Chip} {t : Nat} (n : Fin 8) {w : W32} (armed : w.getLsbD 15 = true)
    (allowed : sigAllowed s (coreAgent t) (w.toNat % 4096) = true) :
    let b0 := bindOf (coreOf s t) n.val
    let holds := sigMeets (sigVal s (w.toNat % 4096)) b0.thr (bits w.toNat 13 12 == 1)
    ∃ k, bindSig s t n.val w = setCore s t k
      ∧ bindOf k n.val = { b0 with sig := w, armed := !holds, fired := holds, refused := false }
      ∧ (holds = true → bit k.intPend.toNat n.val = true)
      ∧ k = { coreOf s t with binds := k.binds, intPend := k.intPend } := by
  intro b0 holds
  let b : Binding := { b0 with sig := w, armed := true, fired := false, refused := false }
  have fires : b.fires (w.toNat % 4096) (sigVal s (w.toNat % 4096)) = holds := by
    simp only [Binding.fires, Binding.num, b, beq_self_eq_true, Bool.true_and]
    rfl
  have held : bindOf (setBind (coreOf s t) n.val b) n.val = b := by simp [bindOf, setBind]
  refine ⟨fireBindings (setBind (coreOf s t) n.val b) (w.toNat % 4096) (sigVal s (w.toNat % 4096)), ?_, ?_, fun h => ?_, rfl⟩
  · simp only [bindSig, armed, Bool.not_true, Bool.false_eq_true, if_false, Binding.num, allowed]
    rfl
  · rw [bindOf_fireBindings, held, fires]
    cases holds <;> rfl
  · exact intPend_fireBindings _ _ _ _ (by have := n.isLt; omega) b (by simp [setBind]) (fires.trans h)

theorem signalWaits : Claim.SignalWaits := by
  intro s t rd r n w ready even c sig thr waits b0
  have pair : rd + 1 ≠ rd := by
    revert rd
    decide
  refine ⟨fun allowed open_ => ⟨?read, ?ge, ?eq⟩, fun armed allowed => ?arm, fun armed refused => ?refuse, ?clear⟩
  case read =>
    have reads : sigrdOp t rd r s.chip = .done (setCore s.chip t ((c.setD rd (BitVec.ofNat 32 (sigVal s.chip sig))).setD
        (rd + 1) (BitVec.ofNat 32 (sigVal s.chip sig / 2 ^ 32)))) := by
      simp only [sigrdOp, even, show sigNum (coreOf s.chip t) r = sig from rfl, open_, sigRead, allowed, if_true, Nat.zero_ne_one,
        Bool.false_eq_true, if_false]
      rfl
    refine ⟨_, run_doneCore ready reads, ?_, dr_setD_same _ _ _, fun x h1 h2 => ?_, rfl⟩
    · exact (dr_setD_other _ (rd + 1) rd _ pair.symm).trans (dr_setD_same _ _ _)
    · exact (dr_setD_other _ (rd + 1) x _ h2).trans (dr_setD_other _ rd x _ h1)
  case ge => exact (run_sigwt false ready even allowed open_).trans (if_congr decide_eq_true_iff rfl rfl)
  case eq => exact (run_sigwt true ready even allowed open_).trans (if_congr beq_iff_eq rfl rfl)
  case arm =>
    obtain ⟨k, hk, binding, pending, frame⟩ := bindSig_armed n armed allowed
    have arms := run_out ready rfl (portOut_bindSig s.chip t n w)
    rw [hk, coreOf_setCore_same, setCore_setCore] at arms
    exact ⟨_, arms, binding, pending, by rw [frame]⟩
  case refuse =>
    have refuses : bindSig s.chip t n.val w = setCore s.chip t
        (setBind c n.val { b0 with sig := w, armed := false, fired := false, refused := true }) := by
      simp only [bindSig, armed, Bool.not_true, Bool.false_eq_true, if_false, Binding.num, refused, Bool.not_false, if_true]
      rfl
    have out := run_out ready rfl (portOut_bindSig s.chip t n w)
    rw [refuses, coreOf_setCore_same, setCore_setCore] at out
    exact ⟨_, out, by simp [bindOf, setBind], rfl⟩
  case clear =>
    have out := run_out ready rfl (show portOut s.chip t 0xF010 w = .ok 0 (intPendClear s.chip t w) from rfl)
    rw [intPendClear, coreOf_setCore_same, setCore_setCore] at out
    exact out

/-- Settles O13: adds, and reads, waits and bindings. -/
theorem tuitalSignals : Obligations.TuitalSignals := ⟨signalAdds_claim, signalWaits⟩

end Sys2Proof.Machine
end

/-! ## Ports of a core (08 Table 8-4, R228, R229; 17 R435, R436) -/
section
namespace Sys2Proof.Machine

/-- The low byte of a word, as the model counts it and as a mask. -/
theorem ofNat_mod_256 (w : W32) : BitVec.ofNat 32 (w.toNat % 256) = w &&& 0xFF := by
  apply BitVec.eq_of_toNat_eq
  rw [BitVec.toNat_and, show (0xFF : W32).toNat = 2 ^ 8 - 1 from rfl, Nat.and_two_pow_sub_one_eq_mod, BitVec.toNat_ofNat]
  omega

/-- VBASE is written from bits 17 to 10. -/
theorem vbase_written (w : W32) : BitVec.ofNat 18 (bits w.toNat 17 10 * 1024) = w.extractLsb' 10 8 ++ (0 : BitVec 10) := by
  apply BitVec.eq_of_toNat_eq
  rw [BitVec.toNat_append, ← Nat.shiftLeft_add_eq_or_of_lt (BitVec.isLt _)]
  simp only [bits, BitVec.toNat_ofNat, BitVec.extractLsb'_toNat, Nat.shiftLeft_eq, Nat.shiftRight_eq_div_pow,
    BitVec.ofNat_eq_ofNat, Nat.zero_mod]
  omega

/-- A port read that changes nothing but the register. -/
theorem run_inSame {s : State} {t : Nat} {f : Chip → InsRes} {p v : Nat} (rd : Fin 16) {r : W32} (h : Ready s t)
    (hf : f s.chip = inOp t rd p s.chip) (hp : portIn s.chip t p = .ok v s.chip) (hv : BitVec.ofNat 32 v = r) :
    ∃ c', run s (fun x => issue x t f) = coreBecomes s t c' ∧ MoveResult (coreOf s.chip t) c' rd r :=
  ⟨_, run_in h hf hp, hv ▸ move_result _ rd _⟩

/-- A port write that changes the core alone. -/
theorem run_outCore {s : State} {t : Nat} {f : Chip → InsRes} {p v : Nat} {w : W32} {k : Core} (h : Ready s t)
    (hf : f s.chip = outOp t p w s.chip) (hp : portOut s.chip t p w = .ok v (setCore s.chip t k)) :
    run s (fun x => issue x t f) = coreBecomes s t { k with pc := (coreOf s.chip t).pc + 4 } := by
  rw [run_out h hf hp, coreOf_setCore_same, setCore_setCore, coreBecomes]

theorem localPorts : Claim.LocalPorts := by
  intro s t rd rm p ready c now reads writes
  have high : BitVec.ofNat 32 (c.faddr.toNat / 2 ^ 32) = (c.faddr.extractLsb' 32 16).zeroExtend 32 := by
    apply BitVec.eq_of_toNat_eq
    have := c.faddr.isLt
    simp only [BitVec.toNat_ofNat, BitVec.truncate_eq_setWidth, BitVec.toNat_setWidth, BitVec.extractLsb'_toNat,
      Nat.shiftRight_eq_div_pow]
    omega
  have low : BitVec.ofNat 32 (c.faddr.toNat % 2 ^ 32) = c.faddr.extractLsb' 0 32 := by
    apply BitVec.eq_of_toNat_eq
    simp
  have vbase : BitVec.ofNat 32 c.vbase.toNat = c.vbase.zeroExtend 32 := by
    apply BitVec.eq_of_toNat_eq
    simp
  have word (w : W32) : BitVec.ofNat 32 w.toNat = w := by simp
  have time : BitVec.ofNat 32 (now % 2 ^ 32) = BitVec.ofNat 32 now := by
    apply BitVec.eq_of_toNat_eq
    simp
  refine ⟨?id, ?vbase, ?faddrLo, ?faddrHi, ?rtimeHi, ?intPend, ?intMask, ?setVbase, ?setMask, ?odAns, ?rtime, ?odState⟩
  case id => rintro rfl; exact run_inSame rd ready rfl (show portIn s.chip t 0xF000 = _ from rfl) rfl
  case vbase => rintro rfl; exact run_inSame rd ready rfl (show portIn s.chip t 0xF001 = _ from rfl) vbase
  case faddrLo => rintro rfl; exact run_inSame rd ready rfl (show portIn s.chip t 0xF002 = _ from rfl) low
  case faddrHi => rintro rfl; exact run_inSame rd ready rfl (show portIn s.chip t 0xF003 = _ from rfl) high
  case rtimeHi =>
    rintro rfl
    exact run_inSame rd ready rfl (show portIn s.chip t 0xF005 = _ from rfl) (word c.rtimeHi)
  case intPend =>
    rintro rfl
    exact run_inSame rd ready rfl (show portIn s.chip t 0xF010 = _ from rfl) (ofNat_mod_256 _)
  case intMask =>
    rintro rfl
    exact run_inSame rd ready rfl (show portIn s.chip t 0xF011 = _ from rfl) (ofNat_mod_256 _)
  case setVbase =>
    rintro rfl
    change exec _ s = _
    rw [← vbase_written]
    exact run_outCore ready rfl (show portOut s.chip t 0xF001 (c.dr rm) = _ from rfl)
  case setMask => rintro rfl; exact run_outCore ready rfl (show portOut s.chip t 0xF011 (c.dr rm) = _ from rfl)
  case odAns => rintro rfl; exact run_outCore ready rfl (show portOut s.chip t 0x8001 (c.dr rm) = _ from rfl)
  case rtime =>
    have read := run_in (rd := rd) ready rfl (show portIn s.chip t 0xF004 = .ok (now % 2 ^ 32) (setCore s.chip t
      { c with rtimeHi := BitVec.ofNat 32 (now / 2 ^ 32) }) from rfl)
    rw [coreOf_setCore_same, setCore_setCore, time] at read
    exact ⟨_, read, dr_setD_same _ _ _, rfl, fun x hx => dr_setD_other _ rd x _ hx, rfl⟩
  case odState =>
    have port : portIn s.chip t 0x8002
        = .ok c.odState.toNat (if c.odState = 2 then setCore s.chip t { c with odState := 0 } else s.chip) := rfl
    by_cases two : c.odState = 2
    · rw [if_pos two] at port
      have read := run_in (rd := rd) ready rfl port
      rw [coreOf_setCore_same, setCore_setCore, word] at read
      exact ⟨_, read, dr_setD_same _ _ _, (if_pos two).symm, fun x hx => dr_setD_other _ rd x _ hx, rfl⟩
    · rw [if_neg two] at port
      have read := run_in (rd := rd) ready rfl port
      rw [word] at read
      exact ⟨_, read, dr_setD_same _ _ _, (if_neg two).symm, fun x hx => dr_setD_other _ rd x _ hx, rfl⟩

/-- Cipher queue k in the P-space. -/
theorem queueId_cipher (t k : Nat) (hk : k < 16) : queueId t (0x300 + k) = .engine k := by
  rw [queueId, if_neg (by omega), if_neg (by omega), if_pos (by omega), Nat.add_sub_cancel_left]

/-- Its core and its completion area. -/
theorem portCore_cipher (c : Chip) (k : Nat) (hk : k < 16) : portCore c k = odN c 0x31020 (k + 1) := if_pos (by omega)
theorem portArea_cipher (c : Chip) (k : Nat) (hk : k < 16) : portArea c k = odN c 0x31021 (k + 1) := if_pos (by omega)

/-- Its push and pop ports. -/
theorem portOut_push (c : Chip) (t k : Nat) (hk : k < 16) (w : W32) :
    portOut c t (0x2000 + 2 * ((0x300 + k) % 2048)) w = enginePush c t k w.toNat := by
  unfold portOut
  rw [Nat.mod_eq_of_lt (by omega : 0x300 + k < 2048), if_neg (by omega), if_pos (by omega), if_pos (by omega),
    show (0x2000 + 2 * (0x300 + k) - 0x2000) / 2 = 0x300 + k by omega, queuePush, queueId_cipher t k hk]

theorem portIn_pop (c : Chip) (t k : Nat) (hk : k < 16) :
    portIn c t (0x2001 + 2 * ((0x300 + k) % 2048)) = queuePop c t (0x300 + k) := by
  unfold portIn
  rw [Nat.mod_eq_of_lt (by omega : 0x300 + k < 2048), if_neg (by omega), if_pos (by omega), if_pos (by omega),
    show (0x2001 + 2 * (0x300 + k) - 0x2000) / 2 = 0x300 + k by omega]

/-- A fetch within local SRAM. -/
theorem sramFetch_inside {c : Chip} {t off n : Nat} (h : off + n ≤ 131072) :
    sramFetch c t off n = (memRead (coreOf c t).sram off n, c) := if_pos h

/-- An offset of local SRAM survives a register. -/
theorem toNat_ofNat_offset {off : Nat} (h : off ≤ 131072) : (BitVec.ofNat 32 off).toNat = off := by
  rw [BitVec.toNat_ofNat]
  omega

theorem queuePorts : Claim.QueuePorts := by
  intro s t rd k off ready hk c q goesOn popped
  have pops (bound : odN s.chip 0x31020 (k + 1) = t) (x : Nat × PortQ)
      (hx : queuePop s.chip t (0x300 + k) = .ok x.1 (setPortQ s.chip k x.2)) : popped x.2 (BitVec.ofNat 32 x.1) :=
    ⟨_, _, run_in ready rfl ((portIn_pop s.chip t k hk).trans hx), rfl, move_result c rd _⟩
  have owned (bound : odN s.chip 0x31020 (k + 1) = t) : ¬ portCore s.chip k ≠ t :=
    not_not.mpr ((portCore_cipher s.chip k hk).trans bound)
  refine ⟨fun bound room inside => ?push, fun bound empty => ?empty, fun i r bound listed => ?pop, fun free inside => ?request⟩
  case push =>
    have accepted : enginePush s.chip t k off = .ok 0
        (setPortQ { s.chip with disp := { s.chip.disp with nextJob := s.chip.disp.nextJob + 1 } } k
          { q with waiting := q.waiting ++ [⟨s.chip.disp.nextJob, 0, memRead c.sram off 64⟩] }) := by
      have few : ¬ 64 ≤ (portQ s.chip k).outstanding := Nat.not_le.mpr room
      rw [enginePush, if_neg (owned bound), if_neg few, sramFetch_inside inside]
    have offset : (BitVec.ofNat 32 off).toNat = off := toNat_ofNat_offset (by omega)
    exact run_out ready rfl ((portOut_push s.chip t k hk _).trans ((congrArg (enginePush s.chip t k) offset).trans accepted))
  case empty =>
    refine pops bound (_, _) ?_
    rw [queuePop, queueId_cipher t k hk]
    simp only [if_neg (owned bound), show (portQ s.chip k).ready = [] from empty]
    rw [← empty]
  case pop =>
    rw [← portArea_cipher s.chip k hk]
    refine pops bound (_, _) ?_
    rw [queuePop, queueId_cipher t k hk]
    simp only [if_neg (owned bound), show (portQ s.chip k).ready = i :: r from listed]
    rfl
  case request =>
    let b := setCore s.chip t { c with odState := 1 }
    have sram : (coreOf b t).sram = c.sram := by rw [coreOf_setCore_same]
    have len : min (16 + fld (memRead c.sram off 16) 12 2) 1504 ≤ 1504 := Nat.min_le_right _ _
    have requested : odRequest s.chip t off = .ok 0 (intakeLocal b (.core t)
        (memRead c.sram off (min (16 + fld (memRead c.sram off 16) 12 2) 1504))) := by
      rw [odRequest, if_neg free, sramFetch_inside (by omega)]
      change PortRes.ok 0 (intakeLocal (sramFetch b t off (min (16 + fld (memRead (coreOf b t).sram off 16) 12 2) 1504)).2 _ _) = _
      rw [sram, sramFetch_inside (by omega), sram]
    refine run_out ready rfl (Eq.trans ?_ requested)
    exact (congrArg (odRequest s.chip t) (toNat_ofNat_offset (by omega)))

/-- Settles O14: ports of the core's own, and those of queues and of the Object Dictionary. -/
theorem tuitalPorts : Obligations.TuitalPorts := ⟨localPorts, queuePorts⟩

end Sys2Proof.Machine
end

/-! ## The object store: reads after writes, and frames

`odN_odSet` and its companions read any subindex after a write of any other; a frame `Keeps c b l` is built from the inside out,
one lemma per operation that names the objects it writes. -/
section
namespace Sys2Proof.Machine

theorem odKey_inj {o k o' k' : Nat} (hk : k < 256) (hk' : k' < 256) : odKey o' k' = odKey o k ↔ o' = o ∧ k' = k := by
  unfold odKey
  omega

theorem odGet_odPut (s : Chip) (o k o' k' : Nat) (v : OdVal) (hk : k < 256) (hk' : k' < 256) :
    odGet (odPut s o k v) o' k' = if o' = o ∧ k' = k then v else odGet s o' k' := by
  split
  case isTrue h => rw [h.1, h.2, odGet_odPut_same]
  case isFalse h => exact odGet_odPut_other s o k o' k' v (fun e => h ((odKey_inj hk hk').mp e))

theorem odGet_odSet (s : Chip) (o k o' k' n : Nat) (hk : k < 256) (hk' : k' < 256) :
    odGet (odSet s o k n) o' k' = if o' = o ∧ k' = k then .num n else odGet s o' k' := odGet_odPut s o k o' k' _ hk hk'

theorem odN_odSet (s : Chip) (o k o' k' n : Nat) (hk : k < 256) (hk' : k' < 256) :
    odN (odSet s o k n) o' k' = if o' = o ∧ k' = k then n else odN s o' k' := by
  rw [odN, odGet_odSet s o k o' k' n hk hk']
  split <;> rfl

theorem odN_odInc (s : Chip) (o k o' k' : Nat) (hk : k < 256) (hk' : k' < 256) :
    odN (odInc s o k) o' k' = if o' = o ∧ k' = k then (odN s o k + 1) % 2 ^ 32 else odN s o' k' :=
  odN_odSet s o k o' k' _ hk hk'

theorem odN_odSetB (s : Chip) (o k o' k' : Nat) (b : Bytes) (hk : k < 256) (hk' : k' < 256) (h : o' ≠ o ∨ k' ≠ k) :
    odN (odSetB s o k b) o' k' = odN s o' k' := by
  rw [odN, odSetB, odGet_odPut s o k o' k' _ hk hk', if_neg (by omega), odN]

theorem odB_odSetB (s : Chip) (o k o' k' : Nat) (b : Bytes) (hk : k < 256) (hk' : k' < 256) :
    odB (odSetB s o k b) o' k' = if o' = o ∧ k' = k then b else odB s o' k' := by
  rw [odB, odSetB, odGet_odPut s o k o' k' _ hk hk']
  split <;> rfl

theorem odB_odSet (s : Chip) (o k o' k' n : Nat) (hk : k < 256) (hk' : k' < 256) (h : o' ≠ o ∨ k' ≠ k) :
    odB (odSet s o k n) o' k' = odB s o' k' := by
  rw [odB, odGet_odSet s o k o' k' n hk hk', if_neg (by omega), odB]

/-! ### Frames -/

theorem Keeps.refl (c : Chip) (l : List (Nat × Nat)) : Keeps c c l := fun _ _ _ _ => rfl

/-- A block with the same objects. -/
theorem Keeps.congr {c b b' : Chip} {l : List (Nat × Nat)} (h : Keeps c b l) (e : b'.od = b.od) : Keeps c b' l :=
  fun o k hk hn => (odGet_congr b' b e o k).trans (h o k hk hn)

theorem Keeps.put {c b : Chip} {l : List (Nat × Nat)} (h : Keeps c b l) (o k : Nat) (v : OdVal) (hk : k < 256)
    (hm : (o, k) ∈ l) : Keeps c (odPut b o k v) l := by
  intro o' k' hk' hn
  rw [odGet_odPut b o k o' k' v hk hk', if_neg, h o' k' hk' hn]
  rintro ⟨rfl, rfl⟩
  exact hn hm

theorem Keeps.set {c b : Chip} {l : List (Nat × Nat)} (h : Keeps c b l) (o k n : Nat) (hk : k < 256)
    (hm : (o, k) ∈ l) : Keeps c (odSet b o k n) l := h.put o k _ hk hm

theorem Keeps.setB {c b : Chip} {l : List (Nat × Nat)} (h : Keeps c b l) (o k : Nat) (v : Bytes) (hk : k < 256)
    (hm : (o, k) ∈ l) : Keeps c (odSetB b o k v) l := h.put o k _ hk hm

theorem Keeps.inc {c b : Chip} {l : List (Nat × Nat)} (h : Keeps c b l) (o k : Nat) (hk : k < 256)
    (hm : (o, k) ∈ l) : Keeps c (odInc b o k) l := h.set o k _ hk hm

theorem Keeps.setBit {c b : Chip} {l : List (Nat × Nat)} (h : Keeps c b l) (o k i : Nat) (v : Bool) (hk : k < 256)
    (hm : (o, k) ∈ l) : Keeps c (odSetBit b o k i v) l := h.set o k _ hk hm

/-- What the frame says of a number. -/
theorem Keeps.num {c b : Chip} {l : List (Nat × Nat)} (h : Keeps c b l) (o k : Nat) (hk : k < 256) (hn : (o, k) ∉ l) :
    odN b o k = odN c o k := congrArg OdVal.nat (h o k hk hn)

theorem Keeps.blob {c b : Chip} {l : List (Nat × Nat)} (h : Keeps c b l) (o k : Nat) (hk : k < 256) (hn : (o, k) ∉ l) :
    odB b o k = odB c o k := congrArg OdVal.blob (h o k hk hn)

/-! ### Bits of a number -/

/-- A bit that is set taken out: every other bit stays. -/
theorem testBit_sub_two_pow {x b : Nat} (set : x.testBit b = true) (j : Nat) :
    (x - 2 ^ b).testBit j = (decide (j ≠ b) && x.testBit j) := by
  have low : x % 2 ^ b < 2 ^ b := Nat.mod_lt _ (by positivity)
  have odd : x / 2 ^ b % 2 = 1 := by
    rw [Nat.testBit_eq_decide_div_mod_eq] at set
    exact of_decide_eq_true set
  obtain ⟨h, hh⟩ : ∃ h, x / 2 ^ b = 2 * h + 1 := ⟨x / 2 ^ b / 2, by omega⟩
  have whole : x = 2 ^ b * (2 * h + 1) + x % 2 ^ b := by rw [← hh, Nat.div_add_mod]
  have rest : x - 2 ^ b = 2 ^ b * (2 * h) + x % 2 ^ b := by
    rw [Nat.mul_succ] at whole
    omega
  generalize x % 2 ^ b = l at low whole rest
  rw [rest, whole, Nat.two_pow_add_eq_or_of_lt low, Nat.two_pow_add_eq_or_of_lt low, Nat.testBit_or, Nat.testBit_or,
    Nat.testBit_two_pow_mul, Nat.testBit_two_pow_mul]
  by_cases below : j < b
  · have : ¬ b ≤ j := Nat.not_le.mpr below
    simp [this, Nat.ne_of_lt below]
  · have clear : l.testBit j = false :=
      Nat.testBit_lt_two_pow (Nat.lt_of_lt_of_le low (Nat.pow_le_pow_right (by decide) (Nat.not_lt.mp below)))
    by_cases same : j = b
    · subst same
      simp [clear]
    · obtain ⟨d, rfl⟩ : ∃ d, j = b + (d + 1) := ⟨j - b - 1, by omega⟩
      have halves : (2 * h + 1) / 2 = h := by omega
      simp [clear, Nat.testBit_succ, halves]

/-- A bit written: it reads as written, every other as before. -/
theorem bit_odSetBit (s : Chip) (o k i : Nat) (v : Bool) (j : Nat) :
    bit (odN (odSetBit s o k i v) o k) j = if j = i then v else bit (odN s o k) j := by
  rw [odSetBit, odN_odSet_same]
  cases v with
  | true =>
    simp only [if_true, bit, Nat.testBit_or, Nat.testBit_two_pow]
    by_cases h : j = i
    · simp [h]
    · simp [h, Ne.symm h]
  | false =>
    rw [if_neg (by decide)]
    by_cases set : bit (odN s o k) i = true
    · rw [if_pos set]
      refine (testBit_sub_two_pow set j).trans ?_
      by_cases h : j = i
      · simp [h]
      · rw [decide_eq_true h, Bool.true_and, if_neg h]
        rfl
    · rw [if_neg set, Nat.sub_zero]
      by_cases h : j = i
      · subst h
        simpa using set
      · simp [h]

end Sys2Proof.Machine
end

/-! ## The timebase island (02 R45, R46, R51 to R53, R57) -/
section
namespace Sys2Proof.Machine

theorem edgeOk_eq (err : Option Int) (inSpec : Bool) :
    edgeOk err inSpec = (inSpec && err.any (fun e => decide (-1000 ≤ e ∧ e ≤ 1000))) := by
  cases err with
  | none => simp [edgeOk]
  | some e => simp [edgeOk, Bool.and_assoc]

theorem referenceEdges : Claim.ReferenceEdges := by
  intro s err inSpec c ok run
  have accepted : edgeOk err inSpec = ok := edgeOk_eq err inSpec
  refine ⟨fun counted => ?counted, fun one four => ?other⟩
  case counted =>
    let c' : Chip := { c with tb := { c.tb with okRun := run, recent := (ok :: c.tb.recent).take 32 } }
    have edge : refEdge c err inSpec = if ok then c' else odInc c' 0x03007 0 := by
      simp only [refEdge, accepted]
      exact if_pos counted
    by_cases hok : ok = true
    · rw [if_pos hok] at edge ⊢
      exact ⟨c', congrArg (becomes s) edge, rfl, (Keeps.refl c _).congr rfl, rfl⟩
    · rw [if_neg hok] at edge ⊢
      exact ⟨odInc c' 0x03007 0, congrArg (becomes s) edge, odN_odSet_same _ _ _ _,
        ((Keeps.refl c _).congr rfl).inc 0x03007 0 (by decide) (by simp), rfl⟩
  case other =>
    have edge : refEdge c err inSpec = { c with tb := { c.tb with okRun := run } } := by
      simp only [refEdge, accepted]
      exact if_neg (not_or.mpr ⟨one, four⟩)
    exact congrArg (becomes s) edge

/-- A change of the island's state: OD 03.001, READY_MASK[1], and every other object as before. -/
theorem tbSetState_spec (c : Chip) (v : Nat) :
    odN (tbSetState c v) 0x03001 0 = v ∧ bit (odN (tbSetState c v) 0x01004 0) 1 = (v == 1)
    ∧ (∀ j, j ≠ 1 → bit (odN (tbSetState c v) 0x01004 0) j = bit (odN c 0x01004 0) j)
    ∧ Keeps c (tbSetState c v) [(0x03001, 0), (0x01004, 0)] ∧ tbSetState c v = { c with od := (tbSetState c v).od } := by
  have mask (j : Nat) : bit (odN (tbSetState c v) 0x01004 0) j = if j = 1 then v == 1 else bit (odN c 0x01004 0) j := by
    rw [tbSetState, bit_odSetBit, odN_odSet _ _ _ _ _ _ (by decide) (by decide)]
    rfl
  refine ⟨?_, (mask 1).trans (if_pos rfl), fun j hj => (mask j).trans (if_neg hj), ?_, rfl⟩
  · rw [tbSetState, odSetBit, odN_odSet _ _ _ _ _ _ (by decide) (by decide), if_neg (by decide)]
    exact odN_odSet_same _ _ _ _
  · exact ((Keeps.refl c _).set 0x03001 0 _ (by decide) (by simp)).setBit 0x01004 0 1 _ (by decide) (by simp)

theorem timebaseStates : Claim.TimebaseStates := by
  intro s phaseDone c st enters
  refine ⟨fun state rejects => ?holdover, fun state late => ?expired, fun state accepted => ?relock, fun cond => ?locked,
    fun state quiet late => congrArg (becomes s) (if_pos ⟨state, quiet, late⟩)⟩
  case holdover =>
    have many : tooManyRejects c = true := by
      simpa [tooManyRejects] using rejects
    obtain ⟨shown, one, others, keeps, whole⟩ := tbSetState_spec c 2
    let b := odInc { tbSetState c 2 with tb := { c.tb with holdSince := c.tb.ns, okRun := 0, recent := [] } } 0x03008 0
    have objects (o : Nat) (h : o ≠ 0x03008) : odN b o 0 = odN (tbSetState c 2) o 0 :=
      (odN_odInc _ _ _ _ _ (by decide) (by decide)).trans (if_neg (by omega))
    have count : odN (tbSetState c 2) 0x03008 0 = odN c 0x03008 0 := keeps.num _ _ (by decide) (by simp)
    refine ⟨b, ?_, ⟨?_, ?_, fun j hj => ?_⟩, ?_, ?_, rfl⟩
    · refine (congrArg (becomes s) (if_pos ⟨state, many⟩)).trans ?_
      exact congrArg (fun n => becomes s (raise b evTbHoldover n)) (keeps.num 0x03007 0 (by decide) (by simp))
    · rw [objects _ (by decide), shown]
    · rw [objects _ (by decide), one]
    · rw [objects _ (by decide), others j hj]
    · rw [← count]
      exact odN_odSet_same _ _ _ _
    · exact ((keeps_mono _ _ _ _ keeps (by simp)).congr rfl).inc 0x03008 0 (by decide) (by simp)
  case expired =>
    obtain ⟨shown, one, others, keeps, whole⟩ := tbSetState_spec c 3
    exact ⟨tbSetState c 3, congrArg (becomes s) (if_pos ⟨state, late⟩), ⟨shown, one, others⟩, keeps, whole⟩
  case relock =>
    let c' : Chip := { c with tb := { c.tb with holdLast := c.tb.ns - c.tb.holdSince, recent := [] } }
    obtain ⟨shown, one, others, keeps, whole⟩ := tbSetState_spec c' 4
    exact ⟨tbSetState c' 4, congrArg (becomes s) (if_pos ⟨state, accepted⟩), ⟨shown, one, others⟩, keeps, whole⟩
  case locked =>
    let c' : Chip := { c with tb := { c.tb with recent := [] } }
    obtain ⟨shown, one, others, keeps, whole⟩ := tbSetState_spec c' 1
    exact ⟨tbSetState c' 1, congrArg (becomes s) (if_pos cond), ⟨shown, one, others⟩, keeps, whole⟩

theorem stepMeters : Claim.StepMeters := by
  intro s die count gate listed due c gated obj
  have window : stepWindow c die count = if count = 0 then setStep gated die 0
      else if 100000000000 / count < 2 ^ 32 then setStep gated die (100000000000 / count)
      else setStep (takeFree gated 32).2 die (takeFree gated 32).1 := by
    simp only [stepWindow, c, listed]
    exact if_neg (Nat.not_lt.mpr due)
  have step (b : Chip) (v : Nat) : setStep b die v = odSet b obj die v := by
    by_cases hub : die = 0
    · rw [setStep, if_pos hub, show obj = 0x03010 from if_pos hub, hub]
    · rw [setStep, if_neg hub, show obj = 0x01049 from if_neg hub]
  refine ⟨fun stopped => ?stopped, fun q fits below above => ?quotient, fun runs wide => ?wide⟩
  case stopped =>
    rw [if_pos stopped, step] at window
    exact congrArg (becomes s) window
  case quotient =>
    have positive : 0 < count := by
      rcases Nat.eq_zero_or_pos count with h | h
      · rw [h, Nat.mul_zero] at above
        omega
      · exact h
    have value : 100000000000 / count = q := Nat.div_eq_of_lt_le below (by rwa [Nat.mul_comm] at above ⊢)
    rw [value, if_neg (by omega), if_pos fits, step] at window
    exact congrArg (becomes s) window
  case wide =>
    have large : ¬ 100000000000 / count < 2 ^ 32 := Nat.not_lt.mpr ((Nat.le_div_iff_mul_le runs).mpr wide)
    rw [if_neg (by omega), if_neg large, step] at window
    exact ⟨(takeFree gated 32).1, Nat.mod_lt _ (by decide), congrArg (becomes s) window⟩

/-- Settles O15. -/
theorem timebaseStatesAndEdges : Obligations.TimebaseStatesAndEdges := ⟨referenceEdges, timebaseStates, stepMeters⟩

/-- Settles O16: the offset is the argument less running time, modulo 2^64. -/
theorem timeSetMovesOffset : Obligations.TimeSetMovesOffset := by
  intro s rq arg accepted
  let b := odSetI s.chip 0x03005 0 ((leNat arg : Int) - (s.chip.tb.ns : Int))
  refine ⟨b, actionRow_acks actTimeSet s rq 0x03040 arg b accepted rfl, ?_,
    (Keeps.refl s.chip _).set 0x03005 0 _ (by decide) (by simp), rfl⟩
  have offset : odN b 0x03005 0 = uInt 64 ((leNat arg : Int) - (s.chip.tb.ns : Int)) := odN_odSet_same _ _ _ _
  rw [epochNs, offset, uInt]
  change (s.chip.tb.ns + _) % 2 ^ 64 = _
  omega

end Sys2Proof.Machine
end

/-! ## The services of Slaino (03 R72, R86, R87, R92 to R95, R101; 04 R112 to R116, R126; 08 R225) -/
section
namespace Sys2Proof.Machine

/-! ### Handling, answers that fit -/

theorem handles_of {s : State} {rq : Rq} (h : Handles s rq) : handles s.chip rq = true := by
  obtain ⟨answering, turn⟩ := h
  simp [handles, answering, turn]

/-- Entries that fit together leave none over. -/
theorem overflowAt_none (i room : Nat) (es : List Entry) (h : (es.map (fun e => 8 + (padded e.val).length)).sum ≤ room) :
    overflowAt i room es = none := by
  induction es generalizing i room with
  | nil => rfl
  | cons e r ih =>
    simp only [List.map_cons, List.sum_cons] at h
    rw [overflowAt, if_neg (by omega)]
    exact ih _ _ (by omega)

/-- An answer that fits 1,500 bytes is sent. -/
theorem fitAnswer_fits {s0 b : Chip} {rq : Rq} {es : List Entry}
    (h : (es.map (fun e => 8 + (padded e.val).length)).sum ≤ 1484 - (if rq.tagged then 16 else 0)) :
    fitAnswer s0 b rq es = answer b rq ⟨0, 0xFF, es⟩ := by
  rw [fitAnswer, overflowAt_none _ _ _ h]

theorem padded_length_le (b : Bytes) : (padded b).length ≤ b.length + 3 := by
  simp only [padded, zeros, List.length_append, List.length_replicate]
  omega

/-- One entry with a short value fits. -/
theorem fitAnswer_one {s0 b : Chip} {rq : Rq} {e : Entry} (h : e.val.length ≤ 1024) :
    fitAnswer s0 b rq [e] = answer b rq ⟨0, 0xFF, [e]⟩ := by
  refine fitAnswer_fits ?_
  have := padded_length_le e.val
  simp only [List.map_cons, List.map_nil, List.sum_cons, List.sum_nil]
  split <;> omega

/-! ### READ -/

/-- READ of one entry that may be read, without a window. -/
theorem readService_one {s : State} {rq : Rq} {obj k : Nat} {r : OdDef} {o : Nat} (h : Located s rq obj k r o)
    (acc : r.acc (domainOf s.chip rq) = 1 ∨ r.acc (domainOf s.chip rq) = 3) (plain : r.type ≠ .action) :
    readService s.chip rq [⟨obj, k, 0, 0, []⟩]
      = fitAnswer s.chip (answerRead s.chip rq.path (domainOf s.chip rq) ⟨obj, k, 0, 0, []⟩).2 rq
          [(answerRead s.chip rq.path (domainOf s.chip rq) ⟨obj, k, 0, 0, []⟩).1] := by
  obtain ⟨turn, located⟩ := h
  have passes : readRejected s.chip (domainOf s.chip rq) 0 [⟨obj, k, 0, 0, []⟩] = none := by
    simp [readRejected, readCheck, located, acc, plain]
  simp [readService, handles_of turn, badWindow, passes, readEntries]

theorem leBytes_short {n v : Nat} (h : n ≤ 8) : (leBytes n v).length ≤ 1024 := by
  rw [leBytes_length]
  omega

theorem odType_size_le (t : OdType) : t.size ≤ 8 := by
  cases t <;> decide

theorem readService_claim : Claim.ReadService := by
  intro s rq obj k r o n es d
  refine ⟨fun located acc events subs zero plain => ?count, fun located acc events sub plain value => ?value,
    fun turn unknown few windows => ?unknown⟩
  case count =>
    subst zero
    have entry : answerRead s.chip rq.path d ⟨obj, 0, 0, 0, []⟩ = (⟨obj, 0, 2, 0, leBytes 1 r.subs⟩, s.chip) := by
      simp [answerRead, d, located.2, events, readVal, subs]
    have service := readService_one located acc plain
    rw [entry, fitAnswer_one (leBytes_short (by decide))] at service
    exact congrArg (becomes s) service
  case value =>
    have other : ¬ (r.subs ≠ 0 ∧ k = 0) := by
      rintro ⟨h1, h2⟩
      exact sub.elim h1 fun h => h h2
    have entry : answerRead s.chip rq.path d ⟨obj, k, 0, 0, []⟩ = (⟨obj, k, r.type.code, 0, leBytes r.type.size n⟩, s.chip) := by
      simp only [answerRead, d, located.2, events, if_false, value, if_neg other]
    have service := readService_one located acc plain
    rw [entry, fitAnswer_one (leBytes_short (odType_size_le _))] at service
    exact congrArg (becomes s) service
  case unknown =>
    have first : locate s.chip d obj k = (1, none) := by simp [locate, unknown]
    have rejected : readRejected s.chip d 0 (⟨obj, k, 0, 0, []⟩ :: es) = some (0, 1) := by
      simp [readRejected, readCheck, first]
    have fewer : ¬ 64 < es.length + 1 := by omega
    have service : readService s.chip rq (⟨obj, k, 0, 0, []⟩ :: es) = answer s.chip rq ⟨1, 0, []⟩ := by
      simp only [readService, handles_of turn, Bool.not_true, Bool.false_eq_true, if_false, List.length_cons, fewer, List.any_cons,
        windows, Bool.or_false, show domainOf s.chip rq = d from rfl, rejected]
      rfl
    exact congrArg (becomes s) service

/-- Records that may all be received are all taken, up to the number asked for. -/
theorem collect_all (d : Dom) (n : Nat) (l : List Event) (h : l.length ≤ n) (all : l.all (mayReceive d) = true) :
    collect d n l = (l, l.length) := by
  induction l generalizing n with
  | nil => cases n <;> rfl
  | cons e r ih =>
    simp only [List.all_cons, Bool.and_eq_true] at all
    obtain ⟨n, rfl⟩ : ∃ k, n = k + 1 := ⟨n - 1, by simp only [List.length_cons] at h; omega⟩
    rw [collect, if_pos all.1, ih n (by simpa using h) all.2]
    rfl

theorem eventBytes_length (e : Event) : (eventBytes e).length = 32 := by
  simp [eventBytes, leBytes_length, zeros]

theorem eventRead : Claim.EventRead := by
  intro s rq r m located blob c d acc lag held few all
  have records : (c.events.take m).reverse.length = m := by simp [held]
  have taken : collect d 16 (c.events.take m).reverse = ((c.events.take m).reverse, m) := by
    rw [collect_all d 16 _ (by omega) (by simpa using all), records]
  have reads : readEvents c rq.path d 16 = ((c.events.take m).reverse,
      setCursor c rq.path ((cursorOf c rq.path + m) % 2 ^ 32)) := by
    rw [readEvents, if_neg (by decide)]
    simp only [lag, taken]
    rw [if_neg (by omega)]
  have entry : answerRead c rq.path d ⟨0x01121, 0, 0, 0, []⟩
      = (⟨0x01121, 0, 0x0D, 0, ((c.events.take m).reverse.map eventBytes).flatten⟩,
          setCursor c rq.path ((cursorOf c rq.path + m) % 2 ^ 32)) := by
    simp only [answerRead, show locate c d 0x01121 0 = _ from located.2, if_true, List.isEmpty_nil, reads, window, blob]
    rfl
  have size : (((c.events.take m).reverse.map eventBytes).flatten).length ≤ 1024 := by
    have each (l : List Event) : ((l.map eventBytes).flatten).length = 32 * l.length := by
      induction l with
      | nil => rfl
      | cons e r ih => simp [ih, eventBytes_length]; omega
    rw [each, records]
    omega
  have service := readService_one located acc (by rw [blob]; decide)
  rw [show answerRead s.chip rq.path (domainOf s.chip rq) _ = _ from entry, fitAnswer_one size] at service
  exact congrArg (becomes s) service

/-! ### DESCRIBE, DISCOVER, ECHO -/

/-- A field with another one before it. -/
theorem fld_skip (a b : Bytes) (k n : Nat) (h : k = a.length) : fld (a ++ b) k n = fld b 0 n := fld_right a b k 0 n h

/-- The field at the front. -/
theorem fld_front (n v : Nat) (b : Bytes) : fld (leBytes n v ++ b) 0 n = v % 256 ^ n := by
  rw [fld_left _ _ _ _ (by rw [leBytes_length]; omega), fld, List.drop_zero,
    List.take_of_length_le (by rw [leBytes_length]), leNat_leBytes]

theorem uInt_lt (w : Nat) (x : Int) : uInt w x < 2 ^ w := by
  have : (0 : Int) < 2 ^ w := by positivity
  have nonneg := Int.emod_nonneg x this.ne'
  have below := Int.emod_lt_of_pos x this
  unfold uInt
  zify
  rwa [Int.toNat_of_nonneg nonneg]

/-- The 36 bytes of DESCRIBE by field (04 R114), for a row without an extra value. -/
theorem describeVal_fields (c : Chip) (r : OdDef) (o k : Nat) (extra : r.extra = none) :
    let v := describeVal c r o k
    v.length = 36 ∧ fld v 0 1 = r.type.code % 256 ∧ fld v 1 1 = r.persist % 256 ∧ fld v 4 1 = r.subs % 256
      ∧ fld v 8 4 = tget 0 c.rej o % 2 ^ 32 ∧ fld v 12 8 = uInt 64 r.lo ∧ fld v 20 8 = uInt 64 r.hi := by
  have dflt : (describeDefault r o k).length = 8 := by
    unfold describeDefault
    split
    · rfl
    · exact leBytes_length _ _
  intro v
  have parts : v = leBytes 1 r.type.code ++ (leBytes 1 r.persist ++ (leBytes 2 (r.accS * 256 + r.accO * 16 + r.accP)
      ++ (leBytes 1 r.subs ++ (zeros 3 ++ (leBytes 4 (tget 0 c.rej o) ++ (leBytes 8 (uInt 64 r.lo) ++ (leBytes 8 (uInt 64 r.hi)
        ++ describeDefault r o k))))))) := by
    simp only [v, describeVal, extra, List.append_assoc]
  have skip (n x k m : Nat) (b : Bytes) : fld (leBytes n x ++ b) (n + k) m = fld b k m :=
    fld_right _ _ _ _ _ (by rw [leBytes_length])
  have gap (k m : Nat) (b : Bytes) : fld (zeros 3 ++ b) (3 + k) m = fld b k m := fld_right _ _ _ _ _ rfl
  have front := fld_front
  have wide (x : Int) : uInt 64 x % 256 ^ 8 = uInt 64 x := Nat.mod_eq_of_lt (uInt_lt 64 x)
  have step1 (k m : Nat) := (congrArg (fld · (1 + k) m) parts).trans (skip 1 _ k m _)
  have step4 (k m : Nat) := (step1 (1 + (2 + k)) m).trans ((skip 1 _ _ m _).trans (skip 2 _ k m _))
  have step8 (k m : Nat) := (step4 (1 + (3 + k)) m).trans ((skip 1 _ _ m _).trans (gap k m _))
  have step12 (k m : Nat) := (step8 (4 + k) m).trans (skip 4 _ k m _)
  have step20 (k m : Nat) := (step12 (8 + k) m).trans (skip 8 _ k m _)
  refine ⟨?_, (congrArg (fld · 0 1) parts).trans (front 1 _ _), (step1 0 1).trans (front 1 _ _), (step4 0 1).trans (front 1 _ _),
    (step8 0 4).trans (front 4 _ _), ((step12 0 8).trans (front 8 _ _)).trans (wide _),
    ((step20 0 8).trans (front 8 _ _)).trans (wide _)⟩
  rw [parts]
  simp only [List.length_append, leBytes_length, dflt]
  rfl

theorem describeEcho : Claim.DescribeEcho := by
  intro s rq obj k r o es
  refine ⟨fun located extra => ?describe, fun turn => ?discover, fun turn few fits => ?echo⟩
  case describe =>
    obtain ⟨turn, located⟩ := located
    obtain ⟨length, fields⟩ := describeVal_fields s.chip r o k extra
    refine ⟨describeVal s.chip r o k, congrArg (becomes s) ?_, length, fields⟩
    have entries : describeEntries s.chip (domainOf s.chip rq) 0 [⟨obj, k, 0, 0, []⟩]
        = .inr [⟨obj, k, 0x0D, 0, describeVal s.chip r o k⟩] := by
      simp [describeEntries, located]
    show describeService s.chip rq _ = _
    simp only [describeService, handles_of turn, entries, Bool.not_true, Bool.false_eq_true, if_false]
    exact fitAnswer_one (by simp only [length]; decide)
  case discover =>
    refine ⟨_, _, congrArg (becomes s) ?_, rfl⟩
    show discoverService s.chip rq = _
    simp only [discoverService, handles_of turn, Bool.not_true, Bool.false_eq_true, if_false]
  case echo =>
    refine congrArg (becomes s) ?_
    show echoService s.chip rq es = _
    simp only [echoService, handles_of turn, Bool.not_true, Bool.false_eq_true, if_false, fitAnswer_fits fits, if_neg (Nat.not_lt.mpr few)]

/-- Settles O17: what the read services answer, and that they change no object (04 R113). -/
theorem slainoReads : Obligations.SlainoReads := ⟨readService_claim, eventRead, describeEcho⟩

end Sys2Proof.Machine
end

/-! ## WRITE (03 R86, R87, R92 to R95; 04 R116; 08 R225) -/
section
namespace Sys2Proof.Machine

/-- What the checks after access and type need of an entry whose row has been found. -/
theorem writeCheck_ok {c : Chip} {d : Dom} {e : Entry} {r : OdDef} {o : Nat} (located : locate c d e.obj e.sub = (0, some (r, o)))
    (acc : r.acc d = 2 ∨ r.acc d = 3) (kind : r.kind ≠ .ro) (sub : r.subs = 0 ∨ e.sub ≠ 0) (type : e.type = r.type.code)
    (value : valueCheck r e.val = 0) (res : reservedSet r e.val = false) (group : groupCheck c d o e.sub e.val = 0) :
    (writeCheck c d e false).2.status = 0 := by
  have access : ¬ (r.acc d ≠ 2 ∧ r.acc d ≠ 3) := by omega
  have writable : ¬ (r.kind = .ro ∨ (r.subs ≠ 0 ∧ e.sub = 0)) := by
    rintro (h | ⟨h1, h2⟩)
    · exact kind h
    · exact sub.elim h1 fun h => h h2
  simp only [writeCheck, located, writeTypeCheck, if_neg access, if_neg writable, type, value, res, group]
  simp only [plainRej, ne_eq, not_true_eq_false, false_or, show ¬ 0 = eType by decide, if_false]
  split <;> rfl

/-- One write entry that passes its checks is applied, counted and answered. -/
theorem writeService_one {c : Chip} {rq : Rq} {e : Entry} (turn : handles c rq = true) (op : e.op = 0)
    (passes : (writeCheck c (domainOf c rq) e false).2.status = 0)
    (single : ¬ (0x03020 ≤ e.obj ∧ e.obj ≤ 0x03024)) :
    writeService c rq [e] = answer (countGeneration (writeEntry c rq.path (domainOf c rq) e)) rq ⟨0, 0xFF, []⟩ := by
  have first : firstRejected (domainOf c rq) false c 0 [e] = none := by
    simp [firstRejected, op, passes]
  have blocks : manyBlocks [e] = false := by
    simp only [manyBlocks, List.any_cons, List.any_nil, Bool.or_false, List.headD_cons, bne_self_eq_false]
    simpa using single
  have noExec : executeOf [e] = none := by simp [executeOf, op]
  simp only [writeService, turn, first, noExec, acceptWrite, blocks]
  simp [executeLast, op, applyRequest, writesOf, applyWrites]

/-- A denied entry: nothing is written, the denial is counted. -/
theorem writeService_denied {c : Chip} {rq : Rq} {e : Entry} {r : OdDef} {o : Nat} (turn : handles c rq = true)
    (located : locate c (domainOf c rq) e.obj e.sub = (0, some (r, o))) (op : e.op = 0)
    (acc : r.acc (domainOf c rq) = 0 ∨ r.acc (domainOf c rq) = 1) :
    writeService c rq [e] = answer (countRej c o ⟨2, true, r.persist == 2 || r.first / 4096 == 0⟩) rq ⟨2, 0, []⟩ := by
  have access : r.acc (domainOf c rq) ≠ 2 ∧ r.acc (domainOf c rq) ≠ 3 := by omega
  have check : writeCheck c (domainOf c rq) e false = (o, ⟨2, true, r.persist == 2 || r.first / 4096 == 0⟩) := by
    simp only [writeCheck, located, writeTypeCheck, if_pos access]
    simp
  have first : firstRejected (domainOf c rq) false c 0 [e] = some (0, o, ⟨2, true, r.persist == 2 || r.first / 4096 == 0⟩) := by
    simp [firstRejected, op, check]
  simp only [writeService, turn, first]
  simp [executeLast, op, errAnswer]

theorem rejCount_od (c : Chip) (o : Nat) : (rejCount c o).od = c.od := rfl

/-- A value of a row that no group's effect follows is stored, and nothing else happens. -/
theorem writeEntry_plain {c : Chip} {path : Path} {d : Dom} {e : Entry} {r : OdDef} {o : Nat}
    (located : locate c d e.obj e.sub = (0, some (r, o))) (noPort : perSubPort o = false) (cursor : o ≠ 0x01122)
    (effect : ∀ b old, groupEffect c b o e.sub old = b) (bytes : roBytes o = none) :
    writeEntry c path d e = odPut c o e.sub (decodeVal r.type e.val) := by
  simp only [writeEntry, located, noSubPort, noPort, Bool.false_and, Bool.false_eq_true, if_false, if_neg cursor, effect, storeVal,
    bytes]

theorem perSubPort_group {o : Nat} (h : o / 4096 ≠ 0x20) : perSubPort o = false := by
  unfold perSubPort
  simp only [List.contains_eq_mem, decide_eq_false_iff_not, List.mem_cons, List.not_mem_nil, or_false]
  omega

theorem roBytes_group {o : Nat} (h : o / 4096 ≠ 0x51) : roBytes o = none := by
  unfold roBytes
  exact if_neg (by omega)

/-- The count of an applied request touches OD 01.104 alone. -/
theorem countGeneration_eq (b : Chip) : ∃ n, countGeneration b = odSet b 0x01104 0 n
    ∧ n = (if odN b 0x01104 0 + 1 = 2 ^ 64 then 1 else odN b 0x01104 0 + 1) := ⟨_, rfl, rfl⟩

/-- A value stored and counted. -/
theorem countGeneration_odPut (c : Chip) (o k : Nat) (v : OdVal) (hk : k < 256) (ne : o ≠ 0x01104) :
    let b := countGeneration (odPut c o k v)
    odGet b o k = v ∧ odN b 0x01104 0 = (if odN c 0x01104 0 + 1 = 2 ^ 64 then 1 else odN c 0x01104 0 + 1)
      ∧ Keeps c b [(o, k), (0x01104, 0)] ∧ b = { c with od := b.od } := by
  obtain ⟨n, counted, value⟩ := countGeneration_eq (odPut c o k v)
  have before : odN (odPut c o k v) 0x01104 0 = odN c 0x01104 0 := by
    rw [odN, odGet_odPut c o k 0x01104 0 v hk (by decide), if_neg (by omega), odN]
  intro b
  rw [show b = _ from counted]
  refine ⟨?_, ?_, ((Keeps.refl c _).put o k v hk (by simp)).set 0x01104 0 n (by decide) (by simp), rfl⟩
  · rw [odGet_odSet _ _ _ _ _ _ (by decide) hk, if_neg (fun h => ne h.1), odGet_odPut_same]
  · rw [odN_odSet_same, value, before]

/-- One accepted value of a row that no group's effect follows is stored and counted (R95). -/
theorem writeService_stores {c : Chip} {rq : Rq} {e : Entry} {r : OdDef} {o : Nat} (turn : handles c rq = true) (op : e.op = 0)
    (located : locate c (domainOf c rq) e.obj e.sub = (0, some (r, o)))
    (passes : (writeCheck c (domainOf c rq) e false).2.status = 0) (single : ¬ (0x03020 ≤ e.obj ∧ e.obj ≤ 0x03024))
    (effect : ∀ b old, groupEffect c b o e.sub old = b) (group : o / 4096 ≠ 0x20 ∧ o / 4096 ≠ 0x51) (cursor : o ≠ 0x01122)
    (count : o ≠ 0x01104) (sub : e.sub < 256) :
    ∃ b, writeService c rq [e] = answer b rq ⟨0, 0xFF, []⟩ ∧ odGet b o e.sub = decodeVal r.type e.val
      ∧ odN b 0x01104 0 = (if odN c 0x01104 0 + 1 = 2 ^ 64 then 1 else odN c 0x01104 0 + 1)
      ∧ Keeps c b [(o, e.sub), (0x01104, 0)] ∧ b = { c with od := b.od } := by
  have service := writeService_one turn op passes single
  rw [writeEntry_plain located (perSubPort_group group.1) cursor effect (roBytes_group group.2)] at service
  obtain ⟨stored, counted, frame, rest⟩ := countGeneration_odPut c o e.sub (decodeVal r.type e.val) sub count
  exact ⟨_, service, stored, counted, frame, rest⟩

theorem writeService_claim : Claim.WriteService := by
  intro s rq e r o es c d gen
  refine ⟨fun located obj op group cursor count sub acc kind whole type value res => ?stored,
    fun i x turn few ops last first status => ?failed, fun located op acc => ?denied⟩
  case stored =>
    have noCheck : groupCheck s.chip d o e.sub e.val = 0 := by
      rcases group with g | g <;> simp [groupCheck, g]
    have noEffect (b : Chip) (old : Bytes) : groupEffect s.chip b o e.sub old = b := by
      rcases group with g | g <;> simp [groupEffect, g]
    obtain ⟨b, service, effect⟩ := writeService_stores (handles_of located.1) op located.2
      (writeCheck_ok located.2 acc kind whole type value res noCheck) (by omega) noEffect (by omega) cursor count sub
    exact ⟨b, congrArg (becomes s) service, effect⟩
  case failed =>
    have format : (es.any (fun e => 1 < e.op) || !executeLast es) = false := by
      rw [last, Bool.not_true, Bool.or_false, List.any_eq_false]
      intro e he
      have := List.all_eq_true.mp ops e he
      simp only [decide_eq_true_eq] at this ⊢
      omega
    have service : writeService s.chip rq es = answer (countRej c x.1 x.2) rq ⟨x.2.status, i, []⟩ := by
      rw [writeService, handles_of turn, format, show firstRejected (domainOf s.chip rq) false s.chip 0 es = _ from first,
        if_neg (by decide), if_neg (Nat.not_lt.mpr few), if_neg (by decide)]
      simp only [errAnswer, if_pos status]
      rfl
    exact congrArg (becomes s) service
  case denied =>
    refine ⟨_, congrArg (becomes s) (writeService_denied (handles_of located.1) located.2 op acc), ?_, ?_⟩
    · rw [countRej]
      simp only [if_true]
      split
      · exact (odN_congr _ (odInc c 0x01105 0) rfl _ _).trans (odN_odSet_same _ _ _ _)
      · exact odN_odSet_same _ _ _ _
    · rw [countRej]
      simp only [if_true]
      have inc : Keeps c (odInc c 0x01105 0) [(0x01105, 0)] := (Keeps.refl c _).inc _ _ (by decide) (by simp)
      split
      · exact inc.congr (rejCount_od _ _)
      · exact inc

theorem windowWrite : Claim.WindowWrite := by
  intro s rq core window val r core_lt window_lt located acc kind type value fits
  have numbered : execWindowWrite rq core window val s
      = becomes s (writeService s.chip rq [⟨if core < 24 then 0x08100 + core else 0x08000, window + 1, 0x0D, 0, val⟩]) := rfl
  rw [if_pos core_lt] at numbered
  have window_of : core = 0x08100 + core - 0x08100 := by omega
  rw [window_of] at fits
  have bounds : 0x08100 ≤ 0x08100 + core ∧ 0x08100 + core ≤ 0x08117 := by omega
  show ∃ b, execWindowWrite rq core window val s = _ ∧ _
  generalize 0x08100 + core = o at *
  have group : o / 4096 = 0x08 := by omega
  have check : groupCheck s.chip (domainOf s.chip rq) o (window + 1) val = 0 := by
    simp only [groupCheck, group, if_pos bounds, fits]
  have noEffect (b : Chip) (old : Bytes) : groupEffect s.chip b o (window + 1) old = b := by
    simp [groupEffect, group]
  let e : Entry := ⟨o, window + 1, 0x0D, 0, val⟩
  have passes : (writeCheck s.chip (domainOf s.chip rq) e false).2.status = 0 :=
    writeCheck_ok located.2 acc (by rw [kind]; decide) (Or.inr (Nat.succ_ne_zero _)) (by rw [type]; rfl) value
      (by simp [reservedSet, type]) check
  obtain ⟨b, service, stored, -, frame, rest⟩ := writeService_stores (e := e) (handles_of located.1) rfl located.2 passes
    (show ¬ (0x03020 ≤ o ∧ o ≤ 0x03024) by omega) noEffect (by omega) (by omega) (by omega) (show window + 1 < 256 by omega)
  rw [type] at stored
  exact ⟨b, numbered.trans (congrArg (becomes s) service), congrArg OdVal.blob stored, frame, rest⟩

theorem becomes_drivePins {s : State} {x b : Chip} (h : becomes s x = becomes s b) : drivePins x = drivePins b := by
  simpa [becomes] using h

theorem writeCollision : Claim.WriteCollision := by
  intro s rq e hw b written
  refine ⟨⟨_, rfl, becomes_drivePins written⟩, fun turn op obj first => ⟨writeService s.chip rq [{ e with op := 0 }], ?_,
    becomes_drivePins written⟩⟩
  refine congrArg (becomes s) ?_
  show writeGeneric s.chip rq e (some hw) = _
  simp only [writeGeneric, handles_of turn, op, first, collision, if_pos obj]
  rfl

/-- Entries that only write end without an execute entry. -/
theorem executeOf_writes {es : List Entry} (h : es.all (fun e => e.op == 0) = true) : executeOf es = none := by
  rw [executeOf, Option.filter_eq_none_iff]
  intro e he
  have := List.all_eq_true.mp h e (List.mem_of_getLast? he)
  simp only [beq_iff_eq] at this
  simp [this]

theorem executeLast_writes {es : List Entry} (h : es.all (fun e => e.op == 0) = true) : executeLast es = true := by
  induction es with
  | nil => rfl
  | cons e r ih =>
    cases r with
    | nil => rfl
    | cons e' r =>
      rw [List.all_cons, Bool.and_eq_true] at h
      simp only [executeLast, h.1, ih h.2, Bool.true_and]

theorem applyTick_claim : Claim.ApplyTick := by
  intro s rq es j late c
  refine ⟨fun turn few writes first many => ⟨nextTick c, ?_, ?_, ?_, ?wait⟩, fun queue due notYet plain some writes => ?tick⟩
  · simp [nextTick]
  · simp only [nextTick, nowNs]
    omega
  · simp only [nextTick, nowNs]
    omega
  case wait =>
    have format : (es.any (fun e => 1 < e.op) || !executeLast es) = false := by
      rw [executeLast_writes writes, Bool.not_true, Bool.or_false, List.any_eq_false]
      intro e he
      have := List.all_eq_true.mp writes e he
      simp only [beq_iff_eq] at this
      simp [this]
    have service : writeService s.chip rq es = waitTick s.chip rq es 0 := by
      rw [writeService, handles_of turn, format, show firstRejected (domainOf s.chip rq) false s.chip 0 es = _ from first,
        if_neg (by decide), if_neg (Nat.not_lt.mpr few), if_neg (by decide), executeOf_writes writes]
      simp only [acceptWrite, executeOf_writes writes, many, if_true]
    exact congrArg (becomes s) service
  case tick =>
    have clock : nowNs c = c.tb.ns := rfl
    have now : c.sl.applyQ.filter (fun j => decide (j.due ≤ nowNs c)) = [j] := by
      rw [queue, List.filter_cons_of_pos (by simpa [clock] using due), List.filter_eq_nil_iff.mpr]
      intro x hx
      have := List.all_eq_true.mp notYet x hx
      simp only [decide_eq_true_eq, clock] at this ⊢
      omega
    have rest : c.sl.applyQ.filter (fun j => decide (nowNs c < j.due)) = late := by
      rw [queue, List.filter_cons_of_neg (by simp only [clock]; simpa using due), List.filter_eq_self.mpr]
      intro x hx
      exact List.all_eq_true.mp notYet x hx
    have present : (writesOf j.es).isEmpty = false := by
      rw [writesOf, List.filter_eq_self.mpr (fun x hx => List.all_eq_true.mp writes x hx)]
      simpa using some
    refine congrArg (becomes s) ?_
    show applyTick c = _
    unfold applyTick
    rw [now, rest]
    simp only [List.foldl_cons, List.foldl_nil, applyJob, plain, ne_eq, not_true_eq_false, if_false, executeOf_writes writes,
      applyRequest, present, Bool.false_eq_true]

/-- Settles O18: a write is all or nothing and counted once, here, at a collision, through a window and at the tick. -/
theorem slainoWrites : Obligations.SlainoWrites := ⟨writeService_claim, writeCollision, windowWrite, applyTick_claim⟩

end Sys2Proof.Machine
end

/-! ## Sessions, frames and the 10BASE-T1S segment (04 R110 to R131; 07 R197) -/
section
namespace Sys2Proof.Machine

/-! ### Sessions -/

/-- Of 5 numbers in a row, one is not among 3 or fewer sessions. -/
theorem exists_free_number (x : Nat) (l : List Session) (h : l.length ≤ 3) :
    ((List.range 5).find? (fun i => l.all (fun y => y.num != (x + i) % 65535 + 1))).isSome = true := by
  by_contra none
  rw [Option.not_isSome_iff_eq_none, List.find?_eq_none] at none
  have inUse (i : Nat) (hi : i ∈ List.range 5) : (x + i) % 65535 + 1 ∈ l.map (·.num) := by
    have := none i hi
    simp only [List.all_eq_true, bne_iff_ne, ne_eq, not_forall, not_not] at this
    obtain ⟨y, hy, e⟩ := this
    exact List.mem_map.mpr ⟨y, hy, e⟩
  have distinct : ((List.range 5).map (fun i => (x + i) % 65535 + 1)).Nodup := by
    refine List.Nodup.map_on ?_ List.nodup_range
    intro i hi j hj e
    rw [List.mem_range] at hi hj
    omega
  have contained : (List.range 5).map (fun i => (x + i) % 65535 + 1) ⊆ l.map (·.num) := by
    intro n hn
    obtain ⟨i, hi, rfl⟩ := List.mem_map.mp hn
    exact inUse i hi
  have := (distinct.subperm contained).length_le
  simp only [List.length_map, List.length_range] at this
  omega

/-- The number of a new session (07 R197). -/
theorem newSession_spec (c : Chip) (h : c.sl.sessions.length ≤ 3) :
    0 < (newSession c).1 ∧ (newSession c).1 < 65536 ∧ c.sl.sessions.all (fun z => z.num != (newSession c).1) = true := by
  obtain ⟨i, pick⟩ := Option.isSome_iff_exists.mp (exists_free_number (takeFree c 16).1 c.sl.sessions h)
  have number : (newSession c).1 = ((takeFree c 16).1 + i) % 65535 + 1 := by
    simp only [newSession]
    rw [pick]
    rfl
  rw [number]
  refine ⟨Nat.succ_pos _, by omega, ?_⟩
  have := List.find?_some pick
  exact this

theorem openCheck_room {c : Chip} {val : Bytes} (h : openCheck c val = 0) : c.sl.sessions.length ≤ 3 := by
  by_contra full
  have : 4 ≤ c.sl.sessions.length := by omega
  revert h
  unfold openCheck
  simp only [if_pos this]
  repeat' split
  all_goals decide

/-- Sessions set: the list, its count, and nothing else. -/
theorem setSessions_spec (c : Chip) (l : List Session) :
    (setSessions c l).sl = { c.sl with sessions := l } ∧ odN (setSessions c l) 0x04034 0 = l.length
      ∧ Keeps c (setSessions c l) [(0x04034, 0)] :=
  ⟨rfl, odN_odSet_same _ _ _ _,
    ((Keeps.refl c _).congr (b' := { c with sl := { c.sl with sessions := l } }) rfl).set _ _ _ (by decide) (by simp)⟩

/-- A frame that is queued, or dropped, is no business of the sessions. -/
theorem inbandSend_sl (c : Chip) (i : Nat) (v4 : Bool) (pdu : Bytes) : (inbandSend c i v4 pdu).sl = c.sl := by
  have queued (q : Nat) (f : Frame) : (enqueueFrame c q f).sl = c.sl := by
    simp only [enqueueFrame]
    split <;> rfl
  simp only [inbandSend]
  split
  · exact queued _ _
  · rfl

/-- An answer on a network path leaves the sessions as they were. -/
theorem answer_sessions (c : Chip) (rq : Rq) (a : Answer) (net : onNetwork rq.path = true) :
    (answer c rq a).sl.sessions = c.sl.sessions := by
  obtain ⟨path, seq, session, tagged, verdict⟩ := rq
  cases path with
  | field m =>
    simp only [answer, sendAnswer]
    split <;> rfl
  | inband i peer =>
    simp only [answer, sendAnswer]
    split
    · rfl
    · exact (congrArg Slaino.sessions (inbandSend_sl _ _ _ _)).trans rfl
  | core t => cases net
  | pf0 => cases net
  | plat n => cases net

/-- The session and the answer of an accepted SESSION_OPEN. -/
theorem sessionOpen_accepted {c : Chip} {rq : Rq} {val : Bytes} (turn : handles c rq = true) (net : onNetwork rq.path = true)
    (check : openCheck c val = 0) : ∃ free nonce sig key,
      sessionOpen c rq val = answer (setSessions { c with free := free } (c.sl.sessions
          ++ [⟨(newSession c).1, wayOf rq.path, fld val 0 1, key, false, 0, false, 0, nowNs c⟩])) rq
          ⟨0, 0xFF, [⟨0x040F0, 0, 0x0D, 0,
            leBytes 2 (newSession c).1 ++ zeros 2 ++ ephemeralKey c.free ++ leBytes 32 nonce ++ sig⟩]⟩
        ∧ sig.length = 96 := by
  simp only [sessionOpen, turn, net, check, Bool.not_true, Bool.false_eq_true, if_false, ne_eq, not_true_eq_false]
  refine ⟨_, _, _, _, rfl, ?_⟩
  split
  · rfl
  · exact leBytes_length _ _

theorem sessionsOpenAndClose_open {s : State} {rq : Rq} {val : Bytes} (turn : Handles s rq) (net : onNetwork rq.path = true)
    (check : openCheck s.chip val = 0) : ∃ b v y,
      exec (.sessionOpen rq val) s = answers s rq [⟨0x040F0, 0, 0x0D, 0, v⟩] b
        ∧ b.sl = { s.chip.sl with sessions := s.chip.sl.sessions ++ [y] } ∧ y.path = wayOf rq.path ∧ y.key = fld val 0 1
        ∧ y.authed = false ∧ 0 < y.num ∧ y.num < 65536 ∧ s.chip.sl.sessions.all (fun z => z.num != y.num) = true
        ∧ v.length = 228 ∧ fld v 0 2 = y.num ∧ odN b 0x04034 0 = s.chip.sl.sessions.length + 1
        ∧ Keeps s.chip b [(0x04034, 0)] := by
  obtain ⟨positive, small, fresh⟩ := newSession_spec s.chip (openCheck_room check)
  obtain ⟨free, nonce, sig, key, opened, signed⟩ := sessionOpen_accepted (handles_of turn) net check
  refine ⟨_, _, ⟨(newSession s.chip).1, wayOf rq.path, fld val 0 1, key, false, 0, false, 0, nowNs s.chip⟩,
    congrArg (becomes s) opened, rfl, rfl, rfl, rfl, positive, small, fresh, ?_, ?_, ?_, ?_⟩
  · simp only [List.length_append, leBytes_length, zeros, List.length_replicate, ephemeralKey, signed]
  · rw [List.append_assoc, List.append_assoc, List.append_assoc, fld_front]
    exact Nat.mod_eq_of_lt small
  · exact (setSessions_spec _ _).2.1.trans (by simp)
  · exact (setSessions_spec _ _).2.2

/-- Settles O19: sessions by their five commands (07 R197). -/
theorem sessionsOpenAndClose : Obligations.SessionsOpenAndClose := by
  intro s rq val x num c
  refine ⟨fun turn net check => sessionsOpenAndClose_open turn net check, fun turn net untagged known length good => ?good,
    fun turn net untagged known length bad => ?bad, fun turn net known => ⟨_, rfl, ?close, ?count⟩,
    fun mem number idle => ?idle⟩
  case good =>
    refine congrArg (becomes s) ?_
    show sessionAuth c rq val = _
    simp only [sessionAuth, show handles c rq = true from handles_of turn, net, untagged, known, length, good]
    rfl
  case bad =>
    refine congrArg (becomes s) ?_
    show sessionAuth c rq val = _
    simp only [sessionAuth, show handles c rq = true from handles_of turn, net, untagged, known, length, bad]
    rfl
  case close =>
    have closed : sessionClose c rq = dropSession (answer c rq ⟨0, 0xFF, []⟩) rq.session := by
      simp only [sessionClose, show handles c rq = true from handles_of turn, net, known]
      rfl
    show (sessionClose c rq).sl.sessions = _
    rw [closed, dropSession, (setSessions_spec _ _).1, answer_sessions _ _ _ net]
  case count =>
    have closed : sessionClose c rq = dropSession (answer c rq ⟨0, 0xFF, []⟩) rq.session := by
      simp only [sessionClose, show handles c rq = true from handles_of turn, net, known]
      rfl
    show odN (sessionClose c rq) 0x04034 0 = (sessionClose c rq).sl.sessions.length
    rw [closed, dropSession, (setSessions_spec _ _).1, (setSessions_spec _ _).2.1]
  case idle =>
    have expired : c.sl.sessions.any (fun x => x.num == num && decide (x.last + ms (odN c 0x04035 0) ≤ nowNs c)) = true := by
      refine List.any_eq_true.mpr ⟨x, mem, ?_⟩
      rw [Bool.and_eq_true]
      refine ⟨by simpa using number, decide_eq_true ?_⟩
      simp only [ms, nowNs]
      omega
    obtain ⟨sl, count, frame⟩ := setSessions_spec c (c.sl.sessions.filter (fun y => y.num != num))
    refine ⟨dropSession c num, congrArg (becomes s) (if_pos expired), sl, count, frame, rfl⟩

/-! ### Frames and datagrams -/

/-- Counting does not stop the block from answering. -/
theorem answering_congr {b c : Chip} {l : List (Nat × Nat)} (frame : Keeps c b l) (boot : b.boot = c.boot) (tb : b.tb = c.tb)
    (h1 : (0x01001, 0) ∉ l) (h2 : (0x02001, 0) ∉ l) : answering b = answering c := by
  have dev : devState b = devState c := frame.num 0x01001 0 (by decide) h1
  have pow : power b = power c := frame.num 0x02001 0 (by decide) h2
  unfold answering nowNs
  rw [dev, pow, boot, tb]

/-- A request without a TAG on a network path goes to the queue of its path, or to the duplicate record. -/
theorem intakeNet_untagged {c : Chip} {path : Path} {pdu : Bytes} {pad : Bool} (here : answering c = true)
    (long : 16 ≤ pdu.length) (request : bit (fld pdu 1 1) 7 = false) (untagged : bit (fld pdu 1 1) 6 = false) :
    intakeNet c path pdu pad = intake c ⟨path, fld pdu 4 2, fld pdu 6 2, false, false⟩ pdu
      (fun b => intakeChecked b ⟨path, fld pdu 4 2, fld pdu 6 2, false, false⟩ pdu pad true) := by
  have long' : ¬ pdu.length < 16 := by omega
  simp only [intakeNet, here, request, untagged, long', Bool.not_true, Bool.false_or, decide_false, Bool.false_eq_true, if_false,
    Bool.not_false, if_true]

/-- A well-formed one that is no duplicate and finds room waits for its service. -/
theorem intakeNet_waits {c : Chip} {path : Path} {pdu : Bytes} {pad : Bool} (here : answering c = true)
    (long : 16 ≤ pdu.length) (version : fld pdu 0 1 = 1) (request : bit (fld pdu 1 1) 7 = false)
    (untagged : bit (fld pdu 1 1) 6 = false) (few : fld pdu 9 1 ≤ 64) (known : knownService (fld pdu 2 1) = true)
    (format : (parsePdu pdu pad).isSome = true) (fresh : keptAnswer c ⟨path, fld pdu 4 2, fld pdu 6 2, false, false⟩ = none)
    (room : pathFull c ⟨path, fld pdu 4 2, fld pdu 6 2, false, false⟩ = false) :
    intakeNet c path pdu pad = enqueue c ⟨path, fld pdu 4 2, fld pdu 6 2, false, false⟩ (fld pdu 2 1) := by
  rw [intakeNet_untagged here long request untagged]
  have parsed : (parsePdu pdu pad).isNone = false := by rw [← Option.not_isSome, format]; rfl
  simp [intake, fresh, room, intakeChecked, Nat.not_lt.mpr few, version, known, parsed]

/-- Settles O20: the intake of frames and datagrams, and the expiry of kept answers (04 R112 to R127). -/
theorem requestIntakeInOrder : Obligations.RequestIntakeInOrder := by
  intro s f d a c plain mine
  have counted : Keeps c (odInc c 0x06040 0) [(0x06040, 0)] := (Keeps.refl c _).inc _ _ (by decide) (by simp)
  have here (h : answering c = true) : answering (odInc c 0x06040 0) = true :=
    (answering_congr counted rfl rfl (by decide) (by decide)).trans h
  have addressed (up : answering c = true) (good : f.fcsOk = true) (type : f.etherType = 0x88B5)
      (mac : f.dst = odN c 0x06015 0 % 2 ^ 48) :
      exec (.fieldFrameRx f) s = becomes s (intakeNet (odInc c 0x06040 0) (.field f.src) f.pdu true) := by
    refine congrArg (becomes s) ?_
    show fieldFrame c f = _
    rw [fieldFrame, up, good, if_neg (by decide), if_neg (by decide), if_neg (by simp [type]), if_pos (Or.inl mac)]
  refine ⟨fun up bad => ?fcs, fun up good type mac well fresh room => ?waits, fun up good type mac well kept => ?duplicate,
    fun up served peer known sum whole short well rate fresh room => ?datagram, rfl⟩
  case fcs =>
    refine congrArg (becomes s) ?_
    show fieldFrame c f = _
    rw [fieldFrame, up, bad]
    rfl
  case waits =>
    obtain ⟨long, version, request, untagged, few, service, format⟩ := well
    exact (addressed up good type mac).trans (congrArg (becomes s)
      (intakeNet_waits (here up) long version request untagged few service format fresh room))
  case duplicate =>
    obtain ⟨long, -, request, untagged, -⟩ := well
    refine (addressed up good type mac).trans (congrArg (becomes s) ?_)
    rw [intakeNet_untagged (here up) long request untagged, intake,
      show keptAnswer (odInc c 0x06040 0) _ = some a from kept]
  case datagram =>
    obtain ⟨long, version, request, untagged, few, service, format⟩ := well
    refine congrArg (becomes s) ?_
    show inbandRx c d = _
    have accepted : ¬ (16 ≤ d.peer ∨ isZero (odB c 0x06024 (d.peer + 1)) = true ∨ (!d.checksumOk) = true ∨ d.fragment = true
        ∨ 1500 < d.pdu.length ∨ odN c 0x06026 0 ≤ ((c.sl.seen.filter (fun x => decide (nowNs c < x.2 + 1000000000))).filter
          (fun x => x.1 == d.peer)).length) := by
      rw [List.filter_filter, known, sum, whole]
      have : ¬ odN c 0x06026 0 ≤ (c.sl.seen.filter (fun x => x.1 == d.peer && decide (nowNs c < x.2 + 1000000000))).length :=
        Nat.not_le.mpr rate
      simp only [this]
      simp only [Bool.not_true, Bool.false_eq_true, false_or, or_false, not_or]
      omega
    unfold inbandRx
    rw [up, served, if_neg (by decide), if_neg accepted]
    exact intakeNet_waits (c := { c with sl := { c.sl with seen := _ } }) up long version request untagged few service format
      fresh room

/-! ### The segment -/

/-- The link states decide which ports are linked. -/
theorem linkedPorts_congr {b c : Chip} (h : ∀ k < 256, odN b 0x20005 k = odN c 0x20005 k) : linkedPorts b = linkedPorts c := by
  have port (e : Nat) (he : e < 2) : (List.range 8).any (fun i => subState b (8 * e + i) == 2)
      = (List.range 8).any (fun i => subState c (8 * e + i) == 2) := by
    rw [Bool.eq_iff_iff, List.any_eq_true, List.any_eq_true]
    refine exists_congr fun i => and_congr_right fun hi => ?_
    rw [List.mem_range] at hi
    rw [subState, subState, h (8 * e + i + 1) (by omega)]
  simp only [linkedPorts, port 0 (by decide), port 1 (by decide)]

/-- Sessions closed one after another: exactly those are gone, and other objects but the count of sessions and the newest
event are as before. -/
theorem closeSessions_spec (l : List Session) (c : Chip) :
    let b := l.foldl (fun s x => closeSession s x.num) c
    b.sl = { c.sl with sessions := c.sl.sessions.filter (fun y => l.all (fun x => y.num != x.num)) }
      ∧ odN b 0x06001 0 = odN c 0x06001 0 := by
  induction l generalizing c with
  | nil => simp
  | cons x r ih =>
    obtain ⟨sl, port⟩ := ih (closeSession c x.num)
    refine ⟨?_, ?_⟩
    · rw [List.foldl_cons, sl]
      simp only [closeSession, raise, raiseFull_sl, dropSession, (setSessions_spec _ _).1, List.filter_filter, List.all_cons]
      congr 2
      funext y
      exact Bool.and_comm _ _
    · rw [List.foldl_cons, port, closeSession, raise, odN_raiseFull _ _ _ _ _ _ _ _ _ _ _ (by decide) (by decide)]
      exact (setSessions_spec _ _).2.2.num _ _ (by decide) (by decide)

/-- Whether a path is withdrawn depends on the fallback and OD 06.020. -/
theorem withdrawn_congr {b c : Chip} (h1 : b.sl.fallback = c.sl.fallback) (h2 : odN b 0x06020 0 = odN c 0x06020 0) (p : Path) :
    withdrawn b p = withdrawn c p := by
  cases p <;> simp [withdrawn, h1, h2]

/-- The objects after a jam is seen, before its event. -/
def jammedObjects (c : Chip) : Chip := odInc (odSet c 0x06001 0 2) 0x06043 0

theorem jammedObjects_spec (c : Chip) : odN (jammedObjects c) 0x06001 0 = 2
    ∧ odN (jammedObjects c) 0x06043 0 = (odN c 0x06043 0 + 1) % 2 ^ 32
    ∧ Keeps c (jammedObjects c) [(0x06001, 0), (0x06043, 0)] := by
  refine ⟨?_, ?_, ((Keeps.refl c _).set _ _ _ (by decide) (by simp)).inc _ _ (by decide) (by simp)⟩
  · rw [jammedObjects, odN_odInc _ _ _ _ _ (by decide) (by decide), if_neg (by decide), odN_odSet_same]
  · rw [jammedObjects, odN_odInc _ _ _ _ _ (by decide) (by decide), if_pos ⟨rfl, rfl⟩,
      odN_odSet _ _ _ _ _ _ (by decide) (by decide), if_neg (by decide)]

/-- An event changes no number but the newest SEQ. -/
theorem odN_raise (c : Chip) (e : Ev) (a o k : Nat) (hk : k < 256) (h : o ≠ 0x01120 ∨ k ≠ 0) : odN (raise c e a) o k = odN c o k :=
  odN_raiseFull _ _ _ _ _ _ _ _ _ _ _ hk h

/-- The event of a jam changes neither the mode of the in-band path nor the links. -/
theorem jammedEvent_reads (c : Chip) : odN (raise (jammedObjects c) evT1sJammed 0) 0x06030 0 = odN c 0x06030 0
    ∧ linkedPorts (raise (jammedObjects c) evT1sJammed 0) = linkedPorts c := by
  have frame := (jammedObjects_spec c).2.2
  refine ⟨(odN_raise _ _ _ _ _ (by decide) (Or.inl (by decide))).trans (frame.num _ _ (by decide) (by decide)),
    linkedPorts_congr fun k hk => ?_⟩
  exact (odN_raise _ _ _ _ _ hk (Or.inl (by decide))).trans (frame.num _ _ hk (by simp))

/-- A jam that has lasted 10 ms (04 R124). -/
theorem t1sJam_acts {c : Chip} {since : Nat} (on : portPowered c = true) (fresh : odN c 0x06001 0 ≠ 2)
    (late : since + 10000000 ≤ c.tb.ns) :
    t1sJam c since = if odN c 0x06030 0 = 1
      then raise { raise (jammedObjects c) evT1sJammed 0 with
        sl := { c.sl with jamSince := c.tb.ns, fallback := linkedPorts c } } evInbandFallback (linkedPorts c)
      else { raise (jammedObjects c) evT1sJammed 0 with sl := { c.sl with jamSince := c.tb.ns } } := by
  have early : ¬ c.tb.ns < since + ms 10 := by simp only [ms]; omega
  obtain ⟨mode, links⟩ := jammedEvent_reads c
  have links' (n : Slaino) : linkedPorts { raise (jammedObjects c) evT1sJammed 0 with sl := n } = linkedPorts c := links
  have mode' (n : Slaino) : odN { raise (jammedObjects c) evT1sJammed 0 with sl := n } 0x06030 0 = odN c 0x06030 0 := mode
  unfold t1sJam
  simp only [on, fresh, nowNs, early, Bool.not_true, decide_false, Bool.or_false, Bool.false_eq_true, if_false]
  rw [← jammedObjects]
  simp only [links', mode']
  rfl

/-- The segment back for 100 ms (04 R125): sessions on paths that are withdrawn are closed one after another. -/
theorem t1sRestore_acts {c : Chip} {since : Nat} (on : portPowered c = true) (jammed : odN c 0x06001 0 = 2)
    (late : since + 100000000 ≤ c.tb.ns) :
    t1sRestore c since = (c.sl.sessions.filter (fun x => withdrawn c x.path)).foldl (fun s x => closeSession s x.num)
      { raise (odSet c 0x06001 0 1) evT1sRestored ((c.tb.ns - c.sl.jamSince) / 1000000) with sl := { c.sl with fallback := 0 } } := by
  have early : ¬ c.tb.ns < since + ms 100 := by simp only [ms]; omega
  have mask (n : Nat) : odN (raise (odSet c 0x06001 0 1) evT1sRestored n) 0x06020 0 = odN c 0x06020 0 :=
    (odN_raise _ _ _ _ _ (by decide) (Or.inl (by decide))).trans
      (odN_odSet_ne _ _ _ _ _ _ (by decide) (by decide) (Or.inl (by decide)))
  have gone (p : Path) (n : Nat) : withdrawn (raise (odSet c 0x06001 0 1) evT1sRestored n) p = withdrawn c p :=
    withdrawn_congr (b := raise (odSet c 0x06001 0 1) evT1sRestored n) (c := c) rfl (mask n) p
  unfold t1sRestore
  simp only [on, jammed, nowNs, early, Bool.not_true, decide_false, Bool.or_false, Bool.false_eq_true, if_false, ne_eq,
    not_true_eq_false, gone]
  rfl

/-- With distinct numbers, the sessions that no closed one shares its number with are those not closed. -/
theorem filter_not_closed {l : List Session} (p : Session → Bool) (distinct : (l.map (·.num)).Nodup) :
    l.filter (fun y => (l.filter p).all (fun x => y.num != x.num)) = l.filter (fun x => !p x) := by
  refine List.filter_congr fun y hy => ?_
  have inj := List.inj_on_of_nodup_map distinct
  rw [Bool.eq_iff_iff, List.all_eq_true, Bool.not_eq_true']
  constructor
  · intro none
    by_contra gone
    have := none y (List.mem_filter.mpr ⟨hy, by simpa using gone⟩)
    simp at this
  · intro stays x hx
    obtain ⟨hx, gone⟩ := List.mem_filter.mp hx
    rw [bne_iff_ne]
    intro same
    rw [inj hy hx same, gone] at stays
    cases stays

/-- Settles O21: the segment jams, comes back, is shorted, sees a beacon (04 R110, R111, R124, R125, R131). -/
theorem fieldPortStates : Obligations.FieldPortStates := by
  intro s since on c
  change portPowered c = true at on
  refine ⟨fun fresh late => ?jam, fun jammed late stays => ?back, fun jammed late distinct => ?closes, fun clear => ?short,
    ?clears, ?beacon⟩
  case jam =>
    obtain ⟨state, count, frame⟩ := jammedObjects_spec c
    exact ⟨jammedObjects c, state, count, frame, rfl,
      fun other => congrArg (becomes s) ((t1sJam_acts on fresh late).trans (if_neg other)),
      fun inband => congrArg (becomes s) ((t1sJam_acts on fresh late).trans (if_pos inband))⟩
  case back =>
    have none : c.sl.sessions.filter (fun x => withdrawn c x.path) = [] := by
      rw [List.filter_eq_nil_iff]
      intro x hx
      simpa using List.all_eq_true.mp stays x hx
    have restored := t1sRestore_acts on jammed late
    rw [none] at restored
    exact congrArg (becomes s) restored
  case closes =>
    have restored := t1sRestore_acts on jammed late
    obtain ⟨sl, port⟩ := closeSessions_spec (c.sl.sessions.filter (fun x => withdrawn c x.path))
      { raise (odSet c 0x06001 0 1) evT1sRestored ((c.tb.ns - c.sl.jamSince) / 1000000) with sl := { c.sl with fallback := 0 } }
    rw [← restored] at sl port
    refine ⟨t1sRestore c since, rfl, ?_, ?_, ?_⟩
    · rw [port]
      exact (odN_raise _ _ _ _ _ (by decide) (Or.inl (by decide))).trans (odN_odSet_same _ _ _ _)
    · rw [sl]
    · rw [sl]
      exact filter_not_closed (fun x => withdrawn c x.path) distinct
  case short =>
    refine congrArg (becomes s) ?_
    show outputLimit c true = _
    simp only [outputLimit, on, clear]
    rfl
  case clears =>
    refine congrArg (becomes s) ?_
    show outputLimit c false = _
    simp only [outputLimit, on]
    rfl
  case beacon =>
    let b0 : Chip := { c with sl := { c.sl with
      plca := (odN c 0x06010 0, odN c 0x06011 0, odN c 0x06012 0, odN c 0x06013 0) } }
    have acts : plcaBeacon c = if odN c 0x06001 0 = 0 then odSet b0 0x06001 0 1 else b0 := by
      unfold plcaBeacon
      rw [if_neg (by simp [on])]
      rfl
    have kept : Keeps c b0 [(0x06001, 0)] := (Keeps.refl c _).congr rfl
    refine ⟨plcaBeacon c, rfl, ?_⟩
    rw [acts]
    split
    · exact ⟨odN_odSet_same _ _ _ _, kept.set _ _ _ (by decide) (by simp), rfl⟩
    · exact ⟨rfl, kept, rfl⟩

end Sys2Proof.Machine
end

/-! ## The two-copy save and staged blocks (03 R82, R85, R96 to R98; 04 R122) -/
section
namespace Sys2Proof.Machine

/-! ### The save -/

theorem saveRegion_setSaveRegion (c : Chip) (k : Nat) (b : Bytes) : saveRegion (setSaveRegion c k b) k = b := by
  unfold saveRegion setSaveRegion
  by_cases h : k = 0
  · simp [h]
  · simp [h]

theorem setSaveRegion_eq (c : Chip) (k : Nat) (b : Bytes) :
    setSaveRegion c k b = { c with flash := (setSaveRegion c k b).flash } := by
  unfold setSaveRegion
  split <;> rfl

/-- The header of Table 3-3: length, magic, SEQ, and the CRC of the body. -/
theorem saveHeader_spec (c : Chip) (seq : Nat) (body : Bytes) :
    (saveHeader c seq body).length = 32 ∧ fld (saveHeader c seq body) 0 4 = 0x5653444F
      ∧ fld (saveHeader c seq body) 4 4 = seq % 2 ^ 32 ∧ fld (saveHeader c seq body) 16 4 = crc32 body % 2 ^ 32 := by
  refine ⟨?_, ?_, ?_, ?_⟩
  · simp [saveHeader, leBytes_length]
  all_goals
    simp only [saveHeader, List.append_assoc]
  · exact fld_front _ _ _
  · exact (fld_right _ _ 4 0 4 (by rw [leBytes_length])).trans (fld_front _ _ _)
  · have skip (n x k m : Nat) (b : Bytes) : fld (leBytes n x ++ b) (n + k) m = fld b k m :=
      fld_right _ _ _ _ _ (by rw [leBytes_length])
    exact ((skip 4 _ 12 4 _).trans <| (skip 4 _ 8 4 _).trans <| (skip 2 _ 6 4 _).trans <| (skip 2 _ 4 4 _).trans <|
      (skip 4 _ 0 4 _)).trans (fld_front _ _ _)

/-- Settles O22: acceptance, the second save, the end with and without a flash failure (03 R82, R85). -/
theorem saveWritesTheOlderCopy : Obligations.SaveWritesTheOlderCopy := by
  intro s rq k seq j accepted c
  refine ⟨fun idle used next fits => ?starts, fun busy => ?busy, fun running => ?saved, fun running => ?failed⟩
  case starts =>
    obtain ⟨body, used⟩ := used
    have target : saveTarget c = (1 - k, seq, c) := by
      simp only [saveTarget, used, next, Nat.mod_eq_of_lt fits]
    have act : actOdSave c rq [] = (0, [], odSet { c with
        save := some ⟨1 - k, seq, saveHeader c seq (saveBody c), saveBody c, nowNs c⟩ } 0x01101 0 1) := by
      simp only [actOdSave, idle, target, Option.isSome_none, Bool.false_eq_true, if_false]
      rfl
    obtain ⟨length, magic, seqField, crc⟩ := saveHeader_spec c seq (saveBody c)
    exact ⟨_, _, actionRow_acks actOdSave s rq 0x01100 [] _ accepted act, rfl, rfl, rfl, length, magic,
      seqField.trans (Nat.mod_eq_of_lt fits), crc, odN_odSet_same _ _ _ _,
      ((Keeps.refl c _).congr rfl).set _ _ _ (by decide) (by simp), rfl⟩
  case busy =>
    refine actionRow_refuses actOdSave s rq 0x01100 [] [] c 6 accepted (by decide) (by decide) ?_
    simp only [actOdSave, show s.chip.save = some j from busy, Option.isSome_some, if_true]
    rfl
  case saved =>
    let region := j.header ++ j.body ++ (saveRegion { c with save := none } j.target).drop (32 + j.body.length)
    have done : odSaved c true = raise (odSet (odSet (setSaveRegion { c with save := none } j.target region) 0x01101 0 0)
        0x01102 0 j.seq) evOdSaved j.seq := by
      simp only [odSaved, running, if_true, region]
    have flash : Keeps c (setSaveRegion { c with save := none } j.target region) [(0x01101, 0), (0x01102, 0)] :=
      (Keeps.refl c _).congr (by rw [setSaveRegion_eq])
    refine ⟨_, congrArg (becomes s) done, ?_, ?_, odN_odSet_same _ _ _ _,
      (flash.set _ _ _ (by decide) (by simp)).set _ _ _ (by decide) (by simp), ?_⟩
    · show (saveRegion (setSaveRegion { c with save := none } j.target region) j.target).take _ = _
      rw [saveRegion_setSaveRegion, List.take_append_of_le_length (by simp), List.take_of_length_le (by simp)]
    · exact (odN_odSet_ne _ _ _ _ _ _ (by decide) (by decide) (Or.inl (by decide))).trans (odN_odSet_same _ _ _ _)
    · rw [setSaveRegion_eq]
      rfl
  case failed =>
    have done : odSaved c false = raise (odSet (setSaveRegion { c with save := none } j.target []) 0x01101 0 2)
        evOdSaveFailed j.target := by
      simp only [odSaved, running]
      rfl
    have flash : Keeps c (setSaveRegion { c with save := none } j.target []) [(0x01101, 0)] :=
      (Keeps.refl c _).congr (by rw [setSaveRegion_eq])
    refine ⟨_, congrArg (becomes s) done, saveRegion_setSaveRegion _ _ _, odN_odSet_same _ _ _ _,
      flash.set _ _ _ (by decide) (by simp), ?_⟩
    rw [setSaveRegion_eq]
    rfl

/-! ### Staged blocks -/

/-- Open blocks set: the list, its count, and no other object. -/
theorem setStages_spec (c : Chip) (l : List Stage) :
    (setStages c l).sl = { c.sl with stages := l } ∧ odN (setStages c l) 0x01114 0 = l.length
      ∧ Keeps c (setStages c l) [(0x01114, 0)] :=
  ⟨rfl, odN_odSet_same _ _ _ _,
    ((Keeps.refl c _).congr (b' := { c with sl := { c.sl with stages := l } }) rfl).set _ _ _ (by decide) (by simp)⟩

theorem stageOf_handle {c : Chip} {rq : Rq} {h : Nat} {x : Stage} (found : stageOf c rq h = some x) : x.handle = h := by
  have := List.find?_some found
  simp only [Bool.and_eq_true, beq_iff_eq] at this
  exact this.1.1

/-- A block changed and then closed is gone. -/
theorem filter_map_touched (l : List Stage) (x : Stage) :
    (l.map (fun z => if z.handle == x.handle then x else z)).filter (fun z => z.handle != x.handle)
      = l.filter (fun z => z.handle != x.handle) := by
  induction l with
  | nil => rfl
  | cons z r ih =>
    by_cases same : z.handle = x.handle
    · simpa [same] using ih
    · simpa [same] using ih

/-- A block changed twice has the last change. -/
theorem map_touched_touched (l : List Stage) (x y : Stage) (same : y.handle = x.handle) :
    (l.map (fun z => if z.handle == x.handle then x else z)).map (fun z => if z.handle == y.handle then y else z)
      = l.map (fun z => if z.handle == y.handle then y else z) := by
  rw [List.map_map]
  refine List.map_congr_left fun z _ => ?_
  by_cases h : z.handle = x.handle <;> simp [same, h]

/-- Entries within the limits of R98 stay there. -/
theorem stageOver_none (i n b : Nat) (es : List Entry) (entries : n + es.length ≤ 4096)
    (bytes : b + (es.map (fun e => e.val.length)).sum ≤ 262144) : stageOver i n b es = none := by
  induction es generalizing i n b with
  | nil => rfl
  | cons e r ih =>
    simp only [List.length_cons, List.map_cons, List.sum_cons] at entries bytes
    rw [stageOver, if_neg (by omega)]
    exact ih _ _ _ (by omega) (by omega)

theorem nextTick_spec (c : Chip) : nextTick c % 1000 = 0 ∧ c.tb.ns < nextTick c ∧ nextTick c ≤ c.tb.ns + 1000 := by
  simp only [nextTick, nowNs]
  omega

/-- A commit that may be carried out (R97). -/
theorem stageCommit_accepted {s : State} {rq : Rq} {arg : Bytes} (h : Accepted s rq 0x01111 arg) :
    stageCommit s.chip rq arg = commitOr s.chip rq arg [] 0 := by
  obtain ⟨up, turn, check⟩ := h
  have up' : (!answering s.chip || !inTurn s.chip rq) = false := by rw [up, turn]; rfl
  unfold stageCommit
  rw [up', execCheck_ok _ _ _ _ check]
  rfl

/-- Settles O23: the commands of staged blocks (03 R96 to R98). -/
theorem stagedBlocksCommit : Obligations.StagedBlocksCommit := by
  intro s rq arg h i x es sg c d touched without
  refine ⟨fun accepted small free lower => ?opens, fun accepted full => ?full,
    fun turn few writes found passes count entries bytes => ?segment,
    fun accepted handle zero found present generation whole passes => ?commit,
    fun accepted handle zero found missing => ?gap, fun accepted handle pos small found => ?abort,
    fun mem handle idle => ?expire⟩
  case opens =>
    have first : (List.range 8).find? (fun i => c.sl.stages.all (fun x => x.handle != i + 1)) = some i := by
      refine List.find?_range_eq_some.mpr ⟨free, by simpa using small, fun m hm => ?_⟩
      simpa using lower m hm
    have act : actStageOpen c rq [] = (0, leBytes 1 (i + 1),
        setStages c (c.sl.stages ++ [⟨i + 1, wayOf rq.path, d == .sealed, [], c.tb.ns⟩])) := by
      simp only [actStageOpen, first]
      rfl
    obtain ⟨up, turn, check⟩ := accepted
    obtain ⟨sl, number, frame⟩ := setStages_spec c (c.sl.stages ++ [⟨i + 1, wayOf rq.path, d == .sealed, [], c.tb.ns⟩])
    refine ⟨_, congrArg (becomes s) ?_, sl, number.trans (by simp), frame⟩
    show actionRow actStageOpen 0x01110 rq [] s.chip = _
    simp only [actionRow, up, turn, execCheck_ok _ _ _ _ check, show actStageOpen s.chip rq [] = _ from act]
    rfl
  case full =>
    have none : (List.range 8).find? (fun i => c.sl.stages.all (fun x => x.handle != i + 1)) = none := by
      rw [List.find?_eq_none]
      intro m hm
      simpa using full m (List.mem_range.mp hm)
    refine actionRow_refuses actStageOpen s rq 0x01110 [] [] c 6 accepted (by decide) (by decide) ?_
    show actStageOpen c rq [] = _
    simp only [actStageOpen, none]
    rfl
  case segment =>
    have noExec : es.any (fun e => e.op != 0) = false := by
      rw [List.any_eq_false]
      intro e he
      simpa using List.all_eq_true.mp writes e he
    let y : Stage := { x with last := c.tb.ns }
    let z : Stage := { y with segs := tput (tdel x.segs sg) sg es }
    have kept : stagedSegment c rq h sg es = answer (putStage (putStage c y) z) rq ⟨0, 0xFF, []⟩ := by
      have up : (!answering c || !inTurn c rq) = false := by rw [turn.1, turn.2]; rfl
      unfold stagedSegment
      rw [up, noExec, found, if_neg (by decide), if_neg (Nat.not_lt.mpr few), if_neg (by decide)]
      simp only [show firstRejected (domainOf c rq) true c 0 es = none from passes, if_neg (Nat.not_le.mpr count),
        stageOver_none 0 _ _ es entries bytes]
      rfl
    refine ⟨_, congrArg (becomes s) kept, ?_, ?_⟩
    · simp only [putStage, (setStages_spec _ _).1]
      rw [map_touched_touched c.sl.stages y z rfl]
    · exact keeps_mono _ _ _ _ (keeps_trans _ _ _ _ _ (setStages_spec c _).2.2 (setStages_spec _ _).2.2) (by simp)
  case commit =>
    let y : Stage := { x with last := c.tb.ns }
    have segs : (List.range (fld arg 2 2)).any (fun k => (tget? x.segs k).isNone) = false := by
      rw [List.any_eq_false]
      intro m hm
      rw [← Option.not_isSome, present m (List.mem_range.mp hm)]
      decide
    have entries : ((List.range (fld arg 2 2)).map (fun k => (tget? x.segs k).getD [])).flatten = es := whole.symm
    have current : ¬ (fld arg 4 8 ≠ 0 ∧ fld arg 4 8 ≠ odN (putStage c y) 0x01104 0) := by
      rw [putStage, (setStages_spec _ _).2.2.num _ _ (by decide) (by decide)]
      omega
    have checked : commitCheck c rq arg [] 0 = (0, h, es, closeStage (putStage c y) h) := by
      unfold commitCheck
      rw [if_neg (fun h => h zero)]
      simp only [handle, found, List.any_map, List.map_map, Function.comp_def, segs, entries, List.nil_append,
        show firstRejected (domainOf c rq) false c 0 es = none from passes]
      exact if_neg current
    have committed : stageCommit c rq arg = waitTick (closeStage (putStage c y) h) rq es h := by
      refine (stageCommit_accepted accepted).trans ?_
      show commitOr c rq arg [] 0 = _
      simp only [commitOr, checked]
      rfl
    obtain ⟨whole_us, later, within⟩ := nextTick_spec c
    refine ⟨_, nextTick c, congrArg (becomes s) committed, whole_us, later, within, ?_, ?_⟩
    · simp only [waitTick, closeStage, putStage, (setStages_spec _ _).1]
      rw [← stageOf_handle found, filter_map_touched c.sl.stages y]
      rfl
    · exact (keeps_mono _ _ _ [(0x01114, 0)] (keeps_trans _ _ _ _ _ (setStages_spec c _).2.2 (setStages_spec _ _).2.2)
        (by simp)).congr rfl
  case gap =>
    let y : Stage := { x with last := c.tb.ns }
    obtain ⟨m, hm, absent⟩ := missing
    have segs : (List.range (fld arg 2 2)).any (fun k => (tget? x.segs k).isNone) = true := by
      rw [List.any_eq_true]
      exact ⟨m, List.mem_range.mpr hm, by rw [absent]; rfl⟩
    have checked : commitCheck c rq arg [] 0 = (8, 0, [], putStage c y) := by
      unfold commitCheck
      simp only [zero, handle, found, List.any_map, Function.comp_def, segs]
      rfl
    have refused : stageCommit c rq arg = answer (putStage c y) rq ⟨8, 0, []⟩ := by
      refine (stageCommit_accepted accepted).trans ?_
      show commitOr c rq arg [] 0 = _
      simp only [commitOr, checked]
      rfl
    exact ⟨_, congrArg (becomes s) refused, (setStages_spec _ _).1⟩
  case abort =>
    obtain ⟨sl, -, frame⟩ := setStages_spec c (without h)
    refine ⟨_, actionRow_acks actStageAbort s rq 0x01112 arg (closeStage c h) accepted ?_, sl, frame⟩
    have range : ¬ (h = 0 ∨ 8 < h) := by omega
    simp only [actStageAbort, handle, if_neg range, show stageOf s.chip rq h = some x from found, Option.isNone_some]
    rfl
  case expire =>
    have expired : c.sl.stages.any (fun x => x.handle == h && decide (x.last + ms (odN c 0x01113 0) ≤ nowNs c)) = true := by
      refine List.any_eq_true.mpr ⟨x, mem, ?_⟩
      rw [Bool.and_eq_true]
      refine ⟨by simpa using handle, decide_eq_true ?_⟩
      simp only [ms, nowNs]
      omega
    obtain ⟨sl, -, frame⟩ := setStages_spec c (without h)
    exact ⟨closeStage c h, congrArg (becomes s) (if_pos expired), sl, frame⟩

end Sys2Proof.Machine
end

/-! ## The accounting interval, window boundaries, admission (05 R134 to R143) -/
section
namespace Sys2Proof.Machine

/-! ### Accounts: 64-bit sums and balances -/

theorem odN_odAdd64_same (s : Chip) (o k n : Nat) : odN (odAdd64 s o k n) o k = (odN s o k + n) % 2 ^ 64 := odN_odSet_same _ _ _ _

theorem odN_odAdd64_ne (s : Chip) (o k o' k' n : Nat) (hk : k < 256) (hk' : k' < 256) (h : o' ≠ o ∨ k' ≠ k) :
    odN (odAdd64 s o k n) o' k' = odN s o' k' := odN_odSet_ne _ _ _ _ _ _ hk hk' h

theorem odN_odSetI_same (s : Chip) (o k : Nat) (x : Int) : odN (odSetI s o k x) o k = uInt 64 x := odN_odSet_same _ _ _ _

theorem odN_odSetI_ne (s : Chip) (o k o' k' : Nat) (x : Int) (hk : k < 256) (hk' : k' < 256) (h : o' ≠ o ∨ k' ≠ k) :
    odN (odSetI s o k x) o' k' = odN s o' k' := odN_odSet_ne _ _ _ _ _ _ hk hk' h

theorem Keeps.add64 {c b : Chip} {l : List (Nat × Nat)} (h : Keeps c b l) (o k n : Nat) (hk : k < 256) (hm : (o, k) ∈ l) :
    Keeps c (odAdd64 b o k n) l := h.set o k _ hk hm

theorem Keeps.setI {c b : Chip} {l : List (Nat × Nat)} (h : Keeps c b l) (o k : Nat) (x : Int) (hk : k < 256)
    (hm : (o, k) ∈ l) : Keeps c (odSetI b o k x) l := h.set o k _ hk hm

/-- A balance read back counts modulo 2^64. -/
theorem sInt_uInt_emod (x : Int) : sInt 64 (uInt 64 x) % 2 ^ 64 = x % 2 ^ 64 := by
  have nonneg := Int.emod_nonneg x (show (2 ^ 64 : Int) ≠ 0 by decide)
  unfold sInt uInt
  split <;> omega

theorem uInt_congr {x y : Int} (h : x % 2 ^ 64 = y % 2 ^ 64) : uInt 64 x = uInt 64 y := by rw [uInt, uInt, h]

/-- Two changes of a balance after one another are one change. -/
theorem uInt_sInt_uInt_add (x d : Int) : uInt 64 (sInt 64 (uInt 64 x) + d) = uInt 64 (x + d) :=
  uInt_congr (by rw [Int.add_emod, sInt_uInt_emod, ← Int.add_emod])

/-! ### The interval -/

theorem shareOut_en (s : Chip) (meas total : Nat) (l : List (Nat × Nat)) : (shareOut s meas total l).1.en = s.en := by
  induction l generalizing s with
  | nil => rfl
  | cons x r ih =>
    rw [shareOut]
    refine (ih _).trans ?_
    split <;> rfl

theorem closeDomain_intervalEnd (s : Chip) (dom : Nat) (r : DomReading) (ja : List (Nat × Nat × Nat)) :
    (closeDomain s dom r ja).1.en.intervalEnd = s.en.intervalEnd := by
  show (shareOut s _ _ r.acts).1.en.intervalEnd = s.en.intervalEnd
  rw [shareOut_en]

theorem closeDomains_intervalEnd (s : Chip) (ja : List (Nat × Nat × Nat)) (dom : Nat) (rs : List DomReading) :
    (closeDomains s ja dom rs).1.en.intervalEnd = s.en.intervalEnd := by
  induction rs generalizing s dom with
  | nil => rfl
  | cons r rs ih =>
    rw [closeDomains]
    split
    · rfl
    · exact (ih _ _).trans (closeDomain_intervalEnd _ _ _ _)

theorem ketLearn_en (s : Chip) (ket units actual : Nat) : (ketLearn s ket units actual).en = s.en := by
  simp only [ketLearn]
  split <;> rfl

theorem trueUp_intervalEnd (s : Chip) (j : AdmJob) : (trueUp s j).en.intervalEnd = s.en.intervalEnd := by
  simp only [trueUp, ketLearn_en]
  split
  · rfl
  · split <;> rfl

theorem trueUps_intervalEnd (l : List AdmJob) (s : Chip) : (l.foldl trueUp s).en.intervalEnd = s.en.intervalEnd := by
  induction l generalizing s with
  | nil => rfl
  | cons j r ih => exact (ih _).trans (trueUp_intervalEnd s j)

/-- An interval that has ended is closed: the objects, the jobs that have ended, the next end (R134 to R136). -/
theorem accountInterval_due {c : Chip} (due : c.en.intervalEnd ≤ c.tb.ns) (on : c.boot.signalBox = true) (rs : List DomReading)
    (ja : List (Nat × Nat × Nat)) :
    let x := closeDomains c ja 1 rs
    let b := addDevice x.1 (-(x.2 : Int))
    let b := odSet b 0x02014 0 (b2n ((List.range 8).any (fun d => odN b 0x02010 (d + 1) == 1)))
    let done := b.en.jobs.filter (·.done)
    let b := done.foldl trueUp b
    let b := if done.isEmpty then b else wakeServing b
    accountInterval c rs ja
      = { b with en := { b.en with jobs := b.en.jobs.filter (fun j => !j.done), intervalEnd := b.en.intervalEnd + 1000000 } } := by
  refine if_neg ?_
  simp only [nowNs, on, not_or, Nat.not_lt]
  exact ⟨due, by decide⟩

theorem accountingInterval_ends {c : Chip} (due : c.en.intervalEnd ≤ c.tb.ns) (on : c.boot.signalBox = true)
    (rs : List DomReading) (ja : List (Nat × Nat × Nat)) :
    (accountInterval c rs ja).en.intervalEnd = c.en.intervalEnd + 1000000
      ∧ (accountInterval c rs ja).en.jobs.all (fun x => !x.done) = true := by
  rw [accountInterval_due due on]
  refine ⟨?_, ?_⟩
  · refine congrArg (· + 1000000) ?_
    have up (s : Chip) (l : List AdmJob) :
        (if l.isEmpty then l.foldl trueUp s else wakeServing (l.foldl trueUp s)).en.intervalEnd = s.en.intervalEnd := by
      split
      · exact trueUps_intervalEnd _ _
      · exact trueUps_intervalEnd l s
    exact (up _ _).trans (closeDomains_intervalEnd c ja 1 rs)
  · rw [List.all_eq_true]
    intro x hx
    exact (List.mem_filter.mp hx).2

/-- The objects at the close of domain 1 with one activity (R134, R135). -/
def domainObjects (c : Chip) (p share meas out vout : Nat) (tele : Bool) : Chip :=
  odSet (odSet (odAdd64 (odAdd64 (odAdd64 (odAdd64 c (0x02280 + p) 1 share) 0x02011 1 meas) 0x02012 0 meas) 0x02013 0 out)
    0x02010 1 (b2n (!tele))) 0x02034 1 vout

theorem closeDomains_one {c : Chip} {r : DomReading} {p act : Nat} (acts : r.acts = [(p, act)]) (plat : p < 64)
    (running : c.en.jobs.all (fun x => !x.done) = true) :
    let tele := r.pmbus && odN c 0x02050 0 == 0
    let total := act + r.leak
    let meas := if tele then r.meas else total / 1024
    let share := if total = 0 then 0 else meas * act / total
    let x := closeDomains c [] 1 [r]
    x.1.od = (domainObjects c p share meas (meas - share) (r.vout % 65536) tele).od ∧ x.2 = meas - share
      ∧ x.1 = { c with od := x.1.od, en := x.1.en } ∧ x.1.en.jobs.all (fun x => !x.done) = true := by
  rw [closeDomains, if_neg (by decide)]
  simp only [closeDomains, closeDomain, acts, List.map_cons, List.map_nil, List.sum_cons, List.sum_nil, shareOut, if_pos plat,
    Nat.zero_add, Nat.add_zero]
  refine ⟨rfl, trivial, rfl, ?_⟩
  rw [List.all_map]
  exact running

/-- What the objects of an interval with one activity read. -/
theorem domainObjects_reads {c : Chip} {p share meas out vout n : Nat} {tele : Bool} {d : Int} (plat : p < 64) :
    let b := odSet (addDevice (domainObjects c p share meas out vout tele) d) 0x02014 0 n
    odN b 0x02011 1 = (odN c 0x02011 1 + meas) % 2 ^ 64 ∧ odN b 0x02012 0 = (odN c 0x02012 0 + meas) % 2 ^ 64
      ∧ odN b 0x02013 0 = (odN c 0x02013 0 + out) % 2 ^ 64
      ∧ odN b (0x02280 + p) 1 = (odN c (0x02280 + p) 1 + share) % 2 ^ 64
      ∧ odN b 0x02010 1 = b2n (!tele) ∧ odN b 0x02034 1 = vout ∧ odN b 0x02023 0 = uInt 64 (odI c 0x02023 0 + d)
      ∧ Keeps c b [(0x02011, 1), (0x02012, 0), (0x02013, 0), (0x02280 + p, 1), (0x02010, 1), (0x02034, 1), (0x02023, 0),
          (0x02014, 0)] := by
  simp (disch := omega) only [domainObjects, addDevice, odI, odN_odSet_same, odN_odSet_ne, odN_odAdd64_same, odN_odAdd64_ne,
    odN_odSetI_same, odN_odSetI_ne, true_and]
  refine Keeps.set (Keeps.setI (Keeps.set (Keeps.set (Keeps.add64 (Keeps.add64 (Keeps.add64 (Keeps.add64 (Keeps.refl c _)
    _ _ _ ?_ ?_) _ _ _ ?_ ?_) _ _ _ ?_ ?_) _ _ _ ?_ ?_) _ _ _ ?_ ?_) _ _ _ ?_ ?_) _ _ _ ?_ ?_) _ _ _ ?_ ?_
  all_goals simp

/-- A block, an object of it written, with other objects of the same values. -/
theorem odSet_od_congr {a b : Chip} (h : a.od = b.od) (o k n : Nat) : (odSet a o k n).od = (odSet b o k n).od := by
  simp only [odSet, odPut, h]

theorem addDevice_od_congr {a b : Chip} (h : a.od = b.od) (d : Int) : (addDevice a d).od = (addDevice b d).od := by
  simp only [addDevice, odSetI, odI, odN_congr a b h]
  exact odSet_od_congr h _ _ _

/-- An interval in which no job has ended (R136). -/
theorem accountInterval_noneDone {c x : Chip} {out : Nat} {rs : List DomReading} {ja : List (Nat × Nat × Nat)}
    (due : c.en.intervalEnd ≤ c.tb.ns) (on : c.boot.signalBox = true) (closed : closeDomains c ja 1 rs = (x, out))
    (running : x.en.jobs.all (fun x => !x.done) = true) :
    ∃ n, accountInterval c rs ja = let b := odSet (addDevice x (-(out : Int))) 0x02014 0 n
      { b with en := { b.en with jobs := b.en.jobs.filter (fun j => !j.done), intervalEnd := b.en.intervalEnd + 1000000 } } := by
  have none : x.en.jobs.filter (·.done) = [] := by
    rw [List.filter_eq_nil_iff]
    intro j hj
    simpa using List.all_eq_true.mp running j hj
  refine ⟨b2n ((List.range 8).any (fun d => odN (addDevice x (-(out : Int))) 0x02010 (d + 1) == 1)), ?_⟩
  rw [accountInterval_due due on, closed]
  simp only [addDevice, odSetI, odPut_en, odSet, none, List.foldl_nil, List.isEmpty_nil, if_true]

/-- True-up of a hub job of a platform whose kernel entry does not learn (R140): both balances pay the difference. -/
theorem trueUp_hub {c : Chip} {j : AdmJob} (plat : j.plat < 64) (hub : j.die = 0) (fixed : odN c (0x02800 + j.ket) 4 = 0) :
    trueUp c j = addDevice (addBalance c j.plat ((j.est : Int) - j.actual)) ((j.est : Int) - j.actual) := by
  have learns : odN (addDevice (addBalance c j.plat ((j.est : Int) - j.actual)) ((j.est : Int) - j.actual)) (0x02800 + j.ket) 4 = 0 := by
    simp (disch := omega) only [addDevice, addBalance, odN_odSetI_ne, fixed]
  have other : ¬ 64 ≤ j.plat := by omega
  simp only [trueUp, hub, if_neg other, if_true, ketLearn, learns]
  rfl

/-- An interval without readings in which the only job has ended. -/
theorem accountInterval_oneDone {c : Chip} {j : AdmJob} (due : c.en.intervalEnd ≤ c.tb.ns) (on : c.boot.signalBox = true)
    (jobs : c.en.jobs = [j]) (done : j.done = true) :
    ∃ n, (accountInterval c [] []).od = (trueUp (odSet (addDevice c 0) 0x02014 0 n) j).od
      ∧ (accountInterval c [] []).en.jobs = (trueUp (odSet (addDevice c 0) 0x02014 0 n) j).en.jobs.filter (fun j => !j.done) := by
  refine ⟨b2n ((List.range 8).any (fun d => odN (addDevice c 0) 0x02010 (d + 1) == 1)), ?_⟩
  have one : (odSet (addDevice c 0) 0x02014 0
      (b2n ((List.range 8).any (fun d => odN (addDevice c 0) 0x02010 (d + 1) == 1)))).en.jobs.filter (·.done) = [j] := by
    show c.en.jobs.filter (·.done) = [j]
    rw [jobs, List.filter_cons_of_pos done, List.filter_nil]
  rw [accountInterval_due due on]
  simp only [closeDomains, Nat.cast_zero, neg_zero, one, List.foldl_cons, List.foldl_nil, List.isEmpty_cons]
  exact ⟨rfl, rfl⟩

theorem accountingInterval : Claim.AccountingInterval := by
  intro s r p act j rs ja due on plat c tele total meas share
  refine ⟨⟨_, rfl, accountingInterval_ends due on rs ja⟩, fun acts running => ?share, fun jobs done whose hub fixed => ?trueUp⟩
  case share =>
    obtain ⟨od, out, rest, still⟩ := closeDomains_one acts plat running
    obtain ⟨n, ended⟩ := accountInterval_noneDone due on rfl still
    rw [out] at ended
    have same : (accountInterval c [r] []).od = (odSet (addDevice (domainObjects c p share meas (meas - share) (r.vout % 65536)
        tele) (-((meas - share : Nat) : Int))) 0x02014 0 n).od := by
      rw [ended]
      exact odSet_od_congr (addDevice_od_congr od _) _ _ _
    have read (o k : Nat) := odN_congr _ _ same o k
    obtain ⟨r1, r2, r3, r4, r5, r6, r7, frame⟩ := domainObjects_reads (c := c) (share := share) (meas := meas)
      (out := meas - share) (vout := r.vout % 65536) (n := n) (tele := tele) (d := -((meas - share : Nat) : Int)) plat
    refine ⟨accountInterval c [r] [], rfl, (read _ _).trans r1, (read _ _).trans r2, (read _ _).trans r3, (read _ _).trans r4,
      (read _ _).trans r5, (read _ _).trans r6, ?_, frame.congr same, ?_⟩
    · exact (read _ _).trans r7
    · rw [ended, rest]
      rfl
  case trueUp =>
    have plat' : j.plat < 64 := whose ▸ plat
    obtain ⟨n, od, left⟩ := accountInterval_oneDone due on jobs done
    have fixed' : odN (odSet (addDevice c 0) 0x02014 0 n) (0x02800 + j.ket) 4 = 0 := by
      simp (disch := omega) only [addDevice, odN_odSet_ne, odN_odSetI_ne]
      exact fixed
    rw [trueUp_hub plat' hub fixed', whose] at od left
    have read (o k : Nat) := odN_congr _ _ od o k
    have net (x : Int) : x + j.est - j.actual = x + ((j.est : Int) - j.actual) := Int.add_sub_assoc ..
    refine ⟨accountInterval c [] [], rfl, left.trans ?_, (read _ _).trans ?_, (read _ _).trans ?_, Keeps.congr ?_ od⟩
    · show c.en.jobs.filter _ = []
      rw [jobs, List.filter_cons_of_neg (by simp [done]), List.filter_nil]
    · rw [net]
      simp (disch := omega) only [addDevice, addBalance, balance, odI, odN_odSet_ne, odN_odSetI_ne, odN_odSetI_same]
    · rw [net]
      simp (disch := omega) only [addDevice, addBalance, odI, odN_odSet_ne, odN_odSetI_ne, odN_odSetI_same, uInt_sInt_uInt_add,
        Int.add_zero]
    · refine Keeps.setI (Keeps.setI (Keeps.set (Keeps.setI (Keeps.refl c _) _ _ _ ?_ ?_) _ _ _ ?_ ?_) _ _ _ ?_ ?_) _ _ _ ?_ ?_
      all_goals simp

/-! ### Window boundaries -/

/-- The account of platform `p` has not been touched. -/
def SameAccount (p : Nat) (a b : Chip) : Prop :=
  odN b (0x02200 + p) 0 = odN a (0x02200 + p) 0 ∧ odN b (0x02240 + p) 0 = odN a (0x02240 + p) 0
    ∧ odN b (0x02280 + p) 2 = odN a (0x02280 + p) 2 ∧ tget 0 b.en.budget p = tget 0 a.en.budget p
    ∧ ∀ d, 1 ≤ d → d ≤ 4 → tget 0 b.en.allow (64 * d + p) = tget 0 a.en.allow (64 * d + p)

theorem SameAccount.trans {p : Nat} {a b c : Chip} (h : SameAccount p a b) (g : SameAccount p b c) : SameAccount p a c := by
  obtain ⟨h1, h2, h3, h4, h5⟩ := h
  obtain ⟨g1, g2, g3, g4, g5⟩ := g
  exact ⟨g1.trans h1, g2.trans h2, g3.trans h3, g4.trans h4, fun d l u => (g5 d l u).trans (h5 d l u)⟩

theorem tget_tdel_other {α : Type} (e : α) (t : Table α) (k x : Nat) (h : x ≠ k) : tget e (tdel t k) x = tget e t x := by
  rw [tget, tget?_tdel_other t k x h, tget]

theorem tget_tdel_same {α : Type} (e : α) (t : Table α) (k : Nat) : tget e (tdel t k) k = e := by
  rw [tget, tget?_tdel_same]
  rfl

/-- The boundary of another platform. -/
theorem platBoundary_other (c : Chip) (p q : Nat) (hp : p < 64) (hq : q < 64) (ne : p ≠ q) :
    SameAccount p c (platBoundary c q) := by
  refine ⟨?_, ?_, ?_, tget_tset_other _ _ _ _ _ _ ne, fun d l u => ?_⟩
  · exact (odN_odAdd64_ne _ _ _ _ _ _ (by decide) (by decide) (by omega)).trans
      (odN_odSetI_ne _ _ _ _ _ _ (by decide) (by decide) (by omega))
  · exact (odN_odAdd64_ne _ _ _ _ _ _ (by decide) (by decide) (by omega)).trans
      (odN_odSetI_ne _ _ _ _ _ _ (by decide) (by decide) (by omega))
  · exact (odN_odAdd64_ne _ _ _ _ _ _ (by decide) (by decide) (by omega)).trans
      (odN_odSetI_ne _ _ _ _ _ _ (by decide) (by decide) (by omega))
  · show tget 0 (tdel (tdel (tdel (tdel c.en.allow (64 + q)) (128 + q)) (192 + q)) (256 + q)) (64 * d + p) = _
    simp (disch := omega) only [tget_tdel_other]

theorem platBoundaries_other (l : List Nat) (c : Chip) (p : Nat) (hp : p < 64) (hl : ∀ q ∈ l, q < 64) (new : p ∉ l) :
    SameAccount p c (l.foldl platBoundary c) := by
  induction l generalizing c with
  | nil => exact ⟨rfl, rfl, rfl, rfl, fun _ _ _ => rfl⟩
  | cons q r ih =>
    simp only [List.mem_cons, not_or] at new hl
    exact (platBoundary_other c p q hp (hl q (Or.inl rfl)) new.1).trans (ih _ (fun x hx => hl x (Or.inr hx)) new.2)

/-- The boundary of the platform itself (R137, R138, R142). -/
theorem platBoundary_own (c : Chip) (p : Nat) :
    let r := refill (balance c p + returned c p) (odN c (0x02200 + p) 0)
    let b := platBoundary c p
    odN b (0x02240 + p) 0 = uInt 64 r.1 ∧ odN b (0x02280 + p) 2 = (odN c (0x02280 + p) 2 + r.2) % 2 ^ 64
      ∧ tget 0 b.en.budget p = odN c (0x02200 + p) 0 ∧ ∀ d, 1 ≤ d → d ≤ 4 → tget 0 b.en.allow (64 * d + p) = 0 := by
  refine ⟨?_, ?_, tget_tset_same _ _ _ _, fun d l u => ?_⟩
  · exact (odN_odAdd64_ne _ _ _ _ _ _ (by decide) (by decide) (by omega)).trans (odN_odSetI_same _ _ _ _)
  · exact (odN_odAdd64_same _ _ _ _).trans (by rw [odN_odSetI_ne _ _ _ _ _ _ (by decide) (by decide) (by omega)])
  · show tget 0 (tdel (tdel (tdel (tdel c.en.allow (64 + p)) (128 + p)) (192 + p)) (256 + p)) (64 * d + p) = _
    obtain rfl | rfl | rfl | rfl : d = 1 ∨ d = 2 ∨ d = 3 ∨ d = 4 := by omega
    all_goals simp (disch := omega) only [tget_tdel_other, tget_tdel_same]

/-- What boundaries of platforms leave alone. -/
theorem platBoundaries_rest (l : List Nat) (c : Chip) :
    let b := l.foldl platBoundary c
    b.en.windowEnd = c.en.windowEnd ∧ b.disp = c.disp
      ∧ ∀ o, o < 0x02200 → odN b o 0 = odN c o 0 := by
  induction l generalizing c with
  | nil => exact ⟨rfl, rfl, fun _ _ => rfl⟩
  | cons q r ih =>
    obtain ⟨h1, h2, h3⟩ := ih (platBoundary c q)
    refine ⟨h1, h2, fun o ho => (h3 o ho).trans ?_⟩
    exact (odN_odAdd64_ne _ _ _ _ _ _ (by decide) (by decide) (by omega)).trans
      (odN_odSetI_ne _ _ _ _ _ _ (by decide) (by decide) (by omega))

/-- The account of every platform after the boundaries of all 64. -/
theorem platBoundaries_all (c : Chip) (p : Nat) (hp : p < 64) :
    let r := refill (balance c p + returned c p) (odN c (0x02200 + p) 0)
    let b := (List.range 64).foldl platBoundary c
    odN b (0x02240 + p) 0 = uInt 64 r.1 ∧ odN b (0x02280 + p) 2 = (odN c (0x02280 + p) 2 + r.2) % 2 ^ 64
      ∧ tget 0 b.en.budget p = odN c (0x02200 + p) 0 ∧ ∀ d, 1 ≤ d → d ≤ 4 → tget 0 b.en.allow (64 * d + p) = 0 := by
  obtain ⟨before, after, split⟩ := List.append_of_mem (List.mem_range.mpr hp)
  have distinct : (before ++ p :: after).Nodup := split ▸ List.nodup_range
  have small (q : Nat) (hq : q ∈ before ++ p :: after) : q < 64 := List.mem_range.mp (split ▸ hq)
  rw [List.nodup_append] at distinct
  obtain ⟨-, tail, apart⟩ := distinct
  obtain ⟨b1, b2, b3, b4, b5⟩ := platBoundaries_other before c p hp (fun q hq => small q (List.mem_append_left _ hq))
    (fun h => apart p h p List.mem_cons_self rfl)
  obtain ⟨a1, a2, a3, a4, a5⟩ := platBoundaries_other after (platBoundary (before.foldl platBoundary c) p) p hp
    (fun q hq => small q (List.mem_append_right _ (List.mem_cons_of_mem _ hq))) (List.nodup_cons.mp tail).1
  obtain ⟨o1, o2, o3, o4⟩ := platBoundary_own (before.foldl platBoundary c) p
  have allowances : returned (before.foldl platBoundary c) p = returned c p := by
    have a1 := b5 1 (by decide) (by decide)
    have a2 := b5 2 (by decide) (by decide)
    have a3 := b5 3 (by decide) (by decide)
    have a4 := b5 4 (by decide) (by decide)
    simp only [returned, allowance, a1, a2, a3, a4]
  have held : balance (before.foldl platBoundary c) p = balance c p := by rw [balance, odI, b2, balance, odI]
  rw [split, List.foldl_append, List.foldl_cons]
  rw [allowances, held, b1] at o1 o2
  exact ⟨a2.trans o1, a3.trans (by rw [o2, b3]), a4.trans (o3.trans b1), fun d l u => (a5 d l u).trans (o4 d l u)⟩

/-- A boundary with nothing queued (R137, R143). -/
theorem windowBoundary_noQueue {c : Chip} (due : c.en.windowEnd ≤ c.tb.ns) (empty : c.disp.dqs = []) :
    let b := (List.range 64).foldl platBoundary c
    let b := odSet b 0x02022 0 (capEffective b)
    let b := odSetI b 0x02023 0 (refill (odI b 0x02023 0) (capEffective ((List.range 64).foldl platBoundary c))).1
    windowBoundary c jobsQueued = wakeServing { b with en := { b.en with windowEnd := b.en.windowEnd + ms (odN b 0x02020 0) } } := by
  have idle (s : Chip) (h : s.disp.dqs = []) (l : List Nat) : l.foldl (fun s d => if dieLit s d
      then (List.range 64).foldl (fun s p => if jobsQueued s (d + 1) p then grant s (d + 1) p else s) s else s) s = s := by
    have inner (d : Nat) (m : List Nat) : m.foldl (fun s p => if jobsQueued s (d + 1) p then grant s (d + 1) p else s) s = s := by
      induction m with
      | nil => rfl
      | cons p r ih =>
        have none : jobsQueued s (d + 1) p = false := by rw [jobsQueued, h, List.any_nil]
        rw [List.foldl_cons, none]
        exact ih
    induction l with
    | nil => rfl
    | cons d r ih =>
      rw [List.foldl_cons, inner d]
      simpa using ih
  unfold windowBoundary
  rw [if_neg (by simp only [nowNs]; omega)]
  refine idle _ ?_ _
  show ((List.range 64).foldl platBoundary c).disp.dqs = []
  rw [(platBoundaries_rest (List.range 64) c).2.1, empty]

theorem windowBoundary_claim : Claim.WindowBoundary := by
  intro s p due empty plat c budget unspent carried cap
  obtain ⟨bal, forgiven, inForce, allow⟩ := platBoundaries_all c p plat
  obtain ⟨ends, -, rest⟩ := platBoundaries_rest (List.range 64) c
  have effective : capEffective ((List.range 64).foldl platBoundary c) = cap := by
    rw [capEffective, rest _ (by decide), rest _ (by decide)]
  have unspent_eq : balance c p + returned c p = unspent := by
    simp only [unspent, returned, allowance, balance, List.map_cons, List.map_nil, List.sum_cons, List.sum_nil]
    simp only [Nat.mul_one, Int.add_zero, Int.add_assoc, show 64 * 2 = 128 from rfl, show 64 * 3 = 192 from rfl,
      show 64 * 4 = 256 from rfl]
  rw [unspent_eq] at bal forgiven
  have whole := windowBoundary_noQueue due empty
  rw [effective] at whole
  generalize (List.range 64).foldl platBoundary c = d at *
  refine ⟨windowBoundary c jobsQueued, rfl, ?_⟩
  rw [whole]
  have serving (b : Chip) (o k : Nat) : odN (wakeServing b) o k = odN b o k := rfl
  have energy (b : Chip) (e : Energy) (o k : Nat) : odN { b with en := e } o k = odN b o k := rfl
  have energyOf (b : Chip) (e : Energy) : (wakeServing { b with en := e }).en = e := rfl
  refine ⟨?_, ?_, ?_, ?_, ?_, ?_, ?_⟩
  · simp (disch := omega) only [serving, energy, odN_odSet_ne, odN_odSetI_ne, bal, refill]
    rfl
  · rw [energyOf]
    exact inForce
  · simp (disch := omega) only [serving, energy, odN_odSet_ne, odN_odSetI_ne, forgiven, refill]
    rfl
  · rw [energyOf]
    exact allow
  · simp (disch := omega) only [serving, energy, odN_odSet_same, odN_odSetI_ne]
    exact effective
  · simp (disch := omega) only [serving, energy, odN_odSetI_same, odI, odN_odSet_ne, rest 0x02023 (by decide)]
    rfl
  · rw [energyOf]
    show d.en.windowEnd + ms _ = _
    simp (disch := omega) only [odN_odSet_ne, odN_odSetI_ne, rest 0x02020 (by decide), ends, ms, Nat.mul_comm]

/-- Settles O24: the interval and the window (05 R134 to R138, R140, R143). -/
theorem energyAccounting : Obligations.EnergyAccounting := ⟨accountingInterval, windowBoundary_claim⟩

end Sys2Proof.Machine
end

/-! ## Admission (05 R139 to R142) -/
section
namespace Sys2Proof.Machine

/-- The block after a job has been booked: its number and its place in the list. -/
def bookedJob (c : Chip) (plat ket units est die : Nat) : Chip :=
  { c with en := { c.en with
    jobs := c.en.jobs ++ [⟨c.en.nextJob, plat, ket, units, est, 0, die, false⟩], nextJob := c.en.nextJob + 1 } }

theorem bookJob_eq (c : Chip) (plat ket units est die : Nat) :
    bookJob c plat ket units est die = .admitted c.en.nextJob (bookedJob c plat ket units est die) := rfl

/-- A job of the sealed or open domain is admitted against the device balance alone (R140). -/
theorem admitJob_domain {c : Chip} {plat ket units die : Nat} (domain : 64 ≤ plat) (room : admissionOpen c die = true)
    (covers : (estimate c ket units : Int) ≤ odI c 0x02023 0) :
    admitJob c plat ket units die = .admitted c.en.nextJob
      (bookedJob (addDevice c (-(estimate c ket units : Int))) plat ket units (estimate c ket units) die) := by
  have noBudget : ¬ (plat < 64 ∧ budgetOf c plat < estimate c ket units) := by omega
  simp only [admitJob, if_neg noBudget, room, Bool.not_true, Bool.false_eq_true, if_false, if_neg (Int.not_lt.mpr covers),
    if_pos domain]
  rfl

/-- A hub job of a platform is admitted against both balances (R140). -/
theorem admitJob_platform {c : Chip} {plat ket units : Nat} (small : plat < 64) (room : admissionOpen c 0 = true)
    (covers : (estimate c ket units : Int) ≤ odI c 0x02023 0) (fits : estimate c ket units ≤ budgetOf c plat)
    (balanced : (estimate c ket units : Int) ≤ balance c plat) :
    admitJob c plat ket units 0 = .admitted c.en.nextJob
      (bookedJob (addDevice (addBalance c plat (-(estimate c ket units : Int))) (-(estimate c ket units : Int)))
        plat ket units (estimate c ket units) 0) := by
  have inBudget : ¬ (plat < 64 ∧ budgetOf c plat < estimate c ket units) := by omega
  simp only [admitJob, if_neg inBudget, room, Bool.not_true, Bool.false_eq_true, if_false, if_neg (Int.not_lt.mpr covers),
    if_neg (Nat.not_le.mpr small), if_true, if_neg (Int.not_lt.mpr balanced)]
  rfl

/-- A job that the device balance does not cover waits (R141). -/
theorem admitJob_waits {c : Chip} {plat ket units die : Nat} (fits : plat < 64 → estimate c ket units ≤ budgetOf c plat)
    (short : ¬ (estimate c ket units : Int) ≤ odI c 0x02023 0) : admitJob c plat ket units die = .waits c := by
  have inBudget : ¬ (plat < 64 ∧ budgetOf c plat < estimate c ket units) := fun h => Nat.not_lt.mpr (fits h.1) h.2
  simp only [admitJob, if_neg inBudget, if_pos (Int.not_le.mp short)]
  split <;> rfl

/-- The device balance after a debit. -/
theorem odN_addDevice (c : Chip) (e : Nat) : odN (addDevice c (-(e : Int))) 0x02023 0 = uInt 64 (odI c 0x02023 0 - e) :=
  (odN_odSetI_same _ _ _ _).trans (by rw [Int.sub_eq_add_neg])

theorem keeps_addDevice (c : Chip) (x : Int) : Keeps c (addDevice c x) [(0x02023, 0)] :=
  (Keeps.refl c _).setI _ _ _ (by decide) (by simp)

/-- Both balances after a debit of a platform's job. -/
theorem debit_both (c : Chip) (p e : Nat) (hp : p < 64) :
    let b := addDevice (addBalance c p (-(e : Int))) (-(e : Int))
    odN b 0x02023 0 = uInt 64 (odI c 0x02023 0 - e) ∧ odN b (0x02240 + p) 0 = uInt 64 (odI c (0x02240 + p) 0 - e)
      ∧ Keeps c b [(0x02023, 0), (0x02240 + p, 0)] := by
  refine ⟨(odN_addDevice _ _).trans ?_, ?_, ?_⟩
  · rw [odI, addBalance, odN_odSetI_ne _ _ _ _ _ _ (by decide) (by decide) (Or.inl (by omega)), ← odI]
  · refine (odN_odSetI_ne _ _ _ _ _ _ (by decide) (by decide) (Or.inl (by omega))).trans ?_
    exact (odN_odSetI_same _ _ _ _).trans (by rw [balance, Int.sub_eq_add_neg])
  · exact ((Keeps.refl c _).setI _ _ _ (by decide) (by simp)).setI _ _ _ (by decide) (by simp)

/-- What a dispatch queue's asking entry comes to. -/
theorem dispatchAdmit_asks {c : Chip} {d i : Nat} {e : DqEntry} (asks : askingEntry c d = some (i, e)) (new : e.adm = 0)
    (good : entryBad c d e.b = false) (admits : platAdmits c (dqView c d e.b).2.1 = true) :
    (∀ id b, admitJob c (dqView c d e.b).2.1 (fld e.b 6 2) (entryUnits c d e.b) (dqDie d) = .admitted id b →
      dispatchAdmit c d = setDq b d { dqOf b d with
        entries := (dqOf b d).entries.take i ++ { e with adm := id } :: (dqOf b d).entries.drop (i + 1) })
    ∧ (∀ b, admitJob c (dqView c d e.b).2.1 (fld e.b 6 2) (entryUnits c d e.b) (dqDie d) = .waits b → dispatchAdmit c d = b) := by
  have passes : ¬ (e.adm ≠ 0 ∨ entryBad c d e.b = true ∨ (!platAdmits c (dqView c d e.b).2.1) = true) := by
    rw [good, admits]
    simpa using new
  refine ⟨fun id b h => ?_, fun b h => ?_⟩
  all_goals
    unfold dispatchAdmit
    simp only [asks, if_neg passes, h]

/-- Settles O25: every queue that asks books the estimate (05 R139 to R142). -/
theorem admissionBooksEstimate : Obligations.AdmissionBooksEstimate := by
  intro s d i n k e q w x rest m c est covers booked
  refine ⟨fun plat ket units asks new good plat_eq ket_eq units_eq => ?dispatch,
    fun made oldest noError domain room covered => ?native, fun small oldest new good domain room covered => ?cipher,
    fun small stays oldest new good domain tag room covered => ?relay, rfl⟩
  case dispatch =>
    subst plat_eq ket_eq units_eq
    intro enters
    refine ⟨fun domain room covered => ?_, fun small on hub room covered fits balanced => ?_, fun small on fits short => ?_⟩
    · have admits : platAdmits c (dqView c d e.b).2.1 = true := by simp [platAdmits, domain]
      have done := (dispatchAdmit_asks asks new good admits).1 _ _ (admitJob_domain domain room covered)
      exact ⟨_, congrArg (becomes s) done, ⟨rfl, odN_addDevice _ _⟩, congrArg Dq.entries (tget_tput_same _ _ _ _),
        (keeps_addDevice c _).congr rfl⟩
    · have admits : platAdmits c (dqView c d e.b).2.1 = true := by
        rw [platAdmits, show platOn c _ = true from on, Bool.or_true]
      have done := (dispatchAdmit_asks asks new good admits).1 _ _
        ((congrArg (admitJob c _ _ _) hub).trans (admitJob_platform small room covered fits balanced))
      obtain ⟨device, own, frame⟩ := debit_both c _ (est (fld e.b 6 2) (entryUnits c d e.b)) small
      exact ⟨_, congrArg (becomes s) done, ⟨rfl, device⟩, congrArg Dq.entries (tget_tput_same _ _ _ _), own, frame.congr rfl⟩
    · have admits : platAdmits c (dqView c d e.b).2.1 = true := by
        rw [platAdmits, show platOn c _ = true from on, Bool.or_true]
      exact congrArg (becomes s) ((dispatchAdmit_asks asks new good admits).2 _ (admitJob_waits (fun _ => fits) short))
  case native =>
    have passes : ¬ (q.error = true ∨ (!platAdmits c q.owner) = true) := by simp [noError, platAdmits, domain]
    let b := bookedJob (addDevice c (-(estimate c (wbKet w.b) (cdiv (wbBytes w) 1024) : Int))) q.owner (wbKet w.b)
      (cdiv (wbBytes w) 1024) (estimate c (wbKet w.b) (cdiv (wbBytes w) 1024)) 0
    have done : nativeAdmit c n = setWb b n { w with stage := 1, adm := c.en.nextJob } := by
      simp only [nativeAdmit, made, oldest, if_neg passes, admitJob_domain domain room covered, b]
    have set : setWb b n { w with stage := 1, adm := c.en.nextJob } = setNq b n { q with
        wbs := q.wbs.map (fun y => if y.seq == w.seq then { w with stage := 1, adm := c.en.nextJob } else y) } := by
      simp only [setWb, show nqOf b n = some q from made]
    rw [set] at done
    refine ⟨_, congrArg (becomes s) done, ⟨rfl, odN_addDevice _ _⟩, ?_⟩
    show Option.map _ (tget? (tput _ n _) n) = _
    rw [tget?_tput_same]
    rfl
  case cipher =>
    have passes : ¬ (x.adm ≠ 0 ∨ cipherBad c k x.b ≠ 0 ∨ (!platAdmits c (cPlat x.b)) = true) := by
      simp [new, good, platAdmits, domain]
    let b := bookedJob (addDevice c (-(estimate c (cKet x.b) (cipherUnits x.b) : Int))) (cPlat x.b) (cKet x.b)
      (cipherUnits x.b) (estimate c (cKet x.b) (cipherUnits x.b)) 0
    have done : cipherAdmit c k = setPortQ b k { portQ b k with waiting := { x with adm := c.en.nextJob } :: rest } := by
      unfold cipherAdmit
      rw [if_neg (Nat.not_le.mpr small)]
      simp only [oldest, if_neg passes, admitJob_domain domain room covered]
      rfl
    exact ⟨_, congrArg (becomes s) done, ⟨rfl, odN_addDevice c _⟩, tget_tput_same _ _ _ _⟩
  case relay =>
    have passes : ¬ (x.adm ≠ 0 ∨ relayInvalid c (portCore c (32 + k)) x.b = true ∨ (!platAdmits c (rPlat x.b)) = true
        ∨ tagTaken c = true) := by
      simp [new, good, platAdmits, domain, tag]
    let b := bookedJob (addDevice c (-(estimate c (rKet x.b) (relayUnits c x.b) : Int))) (rPlat x.b) (rKet x.b)
      (relayUnits c x.b) (estimate c (rKet x.b) (relayUnits c x.b)) 0
    have done : relayAdmit c k
        = setPortQ b (32 + k) { portQ b (32 + k) with waiting := { x with adm := c.en.nextJob } :: rest } := by
      unfold relayAdmit
      rw [if_neg (by simp [stays, small])]
      simp only [oldest, if_neg passes, admitJob_domain domain room covered]
      rfl
    exact ⟨_, congrArg (becomes s) done, ⟨rfl, odN_addDevice c _⟩, tget_tput_same _ _ _ _⟩

end Sys2Proof.Machine
end

/-! ## Cold start, boot and bring-up (06 R166 to R187, Tables 6-1 to 6-4) -/
section
namespace Sys2Proof.Machine

/-! ### Cold start -/

/-- A block that is not saving has nothing torn. -/
theorem tearSave_idle {c : Chip} (h : c.save = none) : tearSave c = c := by
  unfold tearSave
  rw [h]

/-- What volatile state a collapse leaves: none. -/
theorem coldOf_clear (c : Chip) : (coldOf c).events = [] ∧ (coldOf c).cores = [] ∧ (coldOf c).mem.dev = []
    ∧ (coldOf c).tb = Timebase.cold ∧ (coldOf c).sl = Slaino.cold ∧ (coldOf c).flash = c.flash := ⟨rfl, rfl, rfl, rfl, rfl, rfl⟩

theorem coldOf_tearSave_flash {c : Chip} (h : c.save = none) : (coldOf (tearSave c)).flash = c.flash := by rw [tearSave_idle h]; rfl

/-- The cause of a cold start stands in OD 01.006. -/
theorem coldStart_cause (c : Chip) (cause : Nat) : odN (coldStart c cause) 0x01006 0 = cause :=
  (odN_odSetB _ _ _ _ _ _ (by decide) (by decide) (Or.inl (by decide))).trans (odN_odSet_same _ _ _ _)

/-- Settles O29: RESET_N and VAON (06 R166, 03 R79). -/
theorem coldStartsClear : Obligations.ColdStartsClear := by
  intro s ns c cold
  have fresh (cause : Nat) (f : Boot → Boot) : cold (bootMod (coldStart c cause) f) :=
    ⟨rfl, rfl, rfl, rfl, rfl, fun idle => coldOf_tearSave_flash idle⟩
  refine ⟨fun short => ?short, fun long on => ?low, fun low on => ?rise, ?collapse, fun dark => ?vaon⟩
  case short =>
    refine congrArg (becomes s) ?_
    show resetAssert c ns = c
    rw [resetAssert, if_pos (Or.inl short), if_pos short]
  case low =>
    have acts : resetAssert c ns = bootMod (coldStart c 1) (fun b => { b with resetLow := true }) := by
      rw [resetAssert, if_neg (by simp [on, long])]
    exact ⟨_, congrArg (becomes s) acts, fresh 1 _, rfl, coldStart_cause c 1⟩
  case rise =>
    have acts : resetRelease c = bootMod (coldStart c 1) (fun b => { b with resetLow := false }) := by
      rw [resetRelease, low, on]
      rfl
    exact ⟨_, congrArg (becomes s) acts, fresh 1 _, rfl, coldStart_cause c 1⟩
  case collapse =>
    exact ⟨vaonCollapse c, rfl, ⟨rfl, rfl, rfl, rfl, rfl, fun idle => coldOf_tearSave_flash idle⟩, rfl⟩
  case vaon =>
    have acts : vaonRising c = bootMod (coldStart c 0) (fun b => { b with vaon := true }) := by
      rw [vaonRising, dark]
      rfl
    exact ⟨_, congrArg (becomes s) acts, fresh 0 _, rfl, coldStart_cause c 0⟩

end Sys2Proof.Machine
end

/-! ## Folds, and what sending between packages touches (23 R560 to R571)

`Sends a b`: from `a` to `b` only the coupling state, the flit counters, the outside and the free values have changed. -/
section
namespace Sys2Proof.Machine

/-- What every step of a fold keeps, the fold keeps. -/
theorem foldl_keeps {α β γ : Type} (g : β → γ) (f : β → α → β) (l : List α) (h : ∀ b, ∀ a ∈ l, g (f b a) = g b) (b : β) :
    g (l.foldl f b) = g b := by
  induction l generalizing b with
  | nil => rfl
  | cons a r ih => exact (ih (fun b x hx => h b x (List.mem_cons_of_mem _ hx)) _).trans (h b a List.mem_cons_self)

/-- A relation that is reflexive and transitive and holds at every step holds over the fold. -/
theorem foldl_rel {α β : Type} (R : β → β → Prop) (refl : ∀ b, R b b) (trans : ∀ a b c, R a b → R b c → R a c) (f : β → α → β)
    (l : List α) (step : ∀ b, ∀ a ∈ l, R b (f b a)) (b : β) : R b (l.foldl f b) := by
  induction l generalizing b with
  | nil => exact refl b
  | cons a r ih =>
    exact trans _ _ _ (step b a List.mem_cons_self) (ih (fun b x hx => step b x (List.mem_cons_of_mem _ hx)) _)

/-- Only what sending on coupling links changes has changed. -/
def Sends (a b : Chip) : Prop :=
  b = { a with od := b.od, cons := b.cons, free := b.free, out := b.out }
    ∧ ∀ o k, k < 256 → (o < 0x60020 ∨ k ≠ 1) → odGet b o k = odGet a o k

theorem Sends.refl (a : Chip) : Sends a a := ⟨rfl, fun _ _ _ _ => rfl⟩

theorem Sends.trans {a b c : Chip} (h : Sends a b) (g : Sends b c) : Sends a c := by
  obtain ⟨h1, h2⟩ := h
  obtain ⟨g1, g2⟩ := g
  refine ⟨?_, fun o k hk ho => (g2 o k hk ho).trans (h2 o k hk ho)⟩
  rw [g1, h1]

/-- The same objects, and nothing else changed but the coupling state, free values and the outside. -/
theorem Sends.of_od {a b : Chip} (h : b = { a with cons := b.cons, free := b.free, out := b.out }) : Sends a b := by
  refine ⟨?_, fun o k _ _ => ?_⟩
  · rw [h]
  · rw [h]
    rfl

theorem sends_setCl (c : Chip) (l : Nat) (x : ClLink) : Sends c (setCl c l x) := .of_od rfl

theorem sends_emit (c : Chip) (o : Output) : Sends c (emit c o) := .of_od rfl

/-- A flit counted. -/
theorem sends_count (c : Chip) (l n : Nat) : Sends c (odAdd64 c (0x60020 + l) 1 n) := by
  refine ⟨rfl, fun o k hk ho => ?_⟩
  rw [odAdd64, odGet_odSet _ _ _ _ _ _ (by decide) hk, if_neg (by omega)]

theorem sends_flits (c : Chip) (l : Nat) (ps : List Bytes) : Sends c (sendFlits c l ps) := by
  induction ps generalizing c with
  | nil => exact .refl c
  | cons p r ih =>
    rw [sendFlits]
    exact (((sends_setCl c l _).trans (sends_count _ l 1)).trans (sends_emit _ _)).trans (ih _)

theorem sends_bare (c : Chip) (l kind vc credit : Nat) (p : Bytes) : Sends c (sendBare c l kind vc credit p) :=
  (sends_count c l 1).trans (sends_emit _ _)

theorem sends_try {c b : Chip} {l vc : Nat} {m : Bytes} (h : trySend c l vc m = some b) : Sends c b := by
  simp only [trySend] at h
  split at h
  · cases h
    exact (sends_setCl c l _).trans (sends_flits _ _ _)
  · cases h

theorem sends_on (c : Chip) (l vc : Nat) (m : Bytes) : Sends c (sendOn c l vc m) := by
  simp only [sendOn]
  split
  · exact sends_setCl _ _ _
  · split
    · next h => exact sends_try h
    · exact sends_setCl _ _ _

theorem sends_drain (c : Chip) (l n : Nat) : Sends c (drainWaiting c l n) := by
  induction n generalizing c with
  | zero => exact .refl c
  | succ n ih =>
    rw [drainWaiting]
    split
    · exact .refl c
    · split
      · next h => exact ((sends_setCl c l _).trans (sends_try h)).trans (ih _)
      · split
        · exact .refl c
        · split
          · next h => exact ((sends_setCl c l _).trans (sends_try h)).trans (ih _)
          · exact .refl c

theorem sends_msg (c : Chip) (m : Bytes) : Sends c (sendMsg c m) := by
  unfold sendMsg
  split
  · split
    · exact .refl c
    · exact .of_od rfl
  · exact Sends.trans (b := (takeFree c 32).2) (.of_od rfl) (sends_on _ _ _ _)

theorem sends_addPart (c : Chip) (ord plat sig v : Nat) : Sends c (sendAddPart c ord plat sig v) := by
  simp only [sendAddPart]
  exact Sends.trans (.of_od rfl) (sends_msg _ _)

theorem sends_adds (c : Chip) (ord plat sig v n : Nat) : Sends c (sendAdds c ord plat sig v n) := by
  induction n generalizing c v with
  | zero => exact .refl c
  | succ n ih => exact (sends_addPart c _ _ _ _).trans (ih _ _)

theorem sends_add (c : Chip) (ord plat sig v : Nat) : Sends c (sendAdd c ord plat sig v) := sends_adds c _ _ _ _ _

end Sys2Proof.Machine
end

/-! ## The boot ROM, the phases, the far tier, host ports (06 R169 to R182; 11 R301, R313 to R318) -/
section
namespace Sys2Proof.Machine

/-! ### What leaves the bring-up state alone -/

theorem setCoreOff_boot (c : Chip) (t v : Nat) : (setCoreState (setCore c t Core.off) t v).boot = c.boot := rfl

theorem startFromSlot_boot (c : Chip) (t : Nat) : (startFromSlot c t).boot = c.boot := by
  unfold startFromSlot
  split <;> rfl

theorem unitFollows_boot (c : Chip) (d u : Nat) (lit : Bool) : (unitFollows c d u lit).boot = c.boot := by
  unfold unitFollows setArrayState
  split
  · rfl
  · split <;> rfl

theorem stepReset_boot (c : Chip) (d : Nat) (lit : Bool) : (stepReset c d lit).boot = c.boot := by
  simp only [stepReset, setStep]
  split <;> rfl

theorem showFence_boot (c : Chip) (unit : Nat) : (showFence c unit).boot = c.boot := by
  unfold showFence
  dsimp only
  split
  case h_5 => rfl
  all_goals split <;> rfl

theorem refence_boot (c : Chip) : (refence c).boot = c.boot :=
  foldl_keeps Chip.boot _ _ (fun b f _ => showFence_boot b f.unit) _

theorem applyAdd_boot (c : Chip) (sig v : Nat) : (applyAdd c sig v).boot = c.boot := by
  simp only [applyAdd]
  split
  · rfl
  · split <;> rfl

theorem coupleOne_boot (c : Chip) (sig v r : Nat) : (coupleOne c sig v r).boot = c.boot := by
  simp only [coupleOne]
  split
  · split
    · rw [(sends_add c _ _ _ _).1]
    · rfl
  · rfl

theorem deliverAdd_boot (c : Chip) (sig v : Nat) : (deliverAdd c sig v).boot = c.boot := by
  simp only [deliverAdd]
  split
  · rfl
  · simp only [coupleOut]
    split
    · exact applyAdd_boot c sig v
    · exact (foldl_keeps Chip.boot _ _ (fun b x _ => coupleOne_boot b sig v _) _).trans (applyAdd_boot c sig v)

theorem applyHeld_boot (c : Chip) : (applyHeld c).boot = c.boot :=
  foldl_keeps Chip.boot _ _ (fun b x _ => deliverAdd_boot b x.1 x.2) _

/-! ### The boot ROM -/

/-- RECOVERY shows in OD 01.001 and OD 04.001. -/
theorem enterRecovery_shows (c : Chip) : odN (enterRecovery c) 0x01001 0 = 5 ∧ odN (enterRecovery c) 0x04001 0 = 2 := by
  have noted (o : Nat) (h : o ≠ 0x04010) : odN (enterRecovery c) o 0 = odN (odSet (odSet c 0x01001 0 5) 0x04001 0 2) o 0 := by
    simp only [enterRecovery, noteSecurity]
    split
    · rfl
    · exact odN_odSetB _ _ _ _ _ _ (by decide) (by decide) (Or.inl h)
  refine ⟨(noted _ (by decide)).trans ?_, (noted _ (by decide)).trans (odN_odSet_same _ _ _ _)⟩
  exact (odN_odSet_ne _ _ _ _ _ _ (by decide) (by decide) (Or.inl (by decide))).trans (odN_odSet_same _ _ _ _)

theorem bootRom : Claim.BootRom := by
  intro s sigsA sigsB released on state waiting core late c timed sigs recovery
  have due : ¬ (c.boot.resetLow = true ∨ (!c.boot.vaon) = true ∨ devState c ≠ 1 ∨ c.boot.signalBox = true ∨ coreState c 0 ≠ 0
      ∨ nowNs c < ms 2) := by
    simp only [c, released, on, devState, state, waiting, core, nowNs, ms]
    simp
    omega
  have loads : bootRomLoad c sigsA sigsB = match descUsed timed with
      | none => enterRecovery timed
      | some d =>
        let first := if fld ((descCopy timed d).take 32) 8 1 = 0 then 0 else 1
        let measured := extendMr timed 0 (leBytes 4 Config.bootRomVersion ++ (descCopy timed d).take 32)
        if slotUsable measured first (sigs first) then bootSlot measured first false
        else if slotUsable measured (1 - first) (sigs (1 - first)) then bootSlot measured (1 - first) true
        else enterRecovery measured := if_neg due
  have recovers {b : Chip} (h : bootRomLoad c sigsA sigsB = enterRecovery b) : ∃ b, recovery b :=
    ⟨_, congrArg (becomes s) h, enterRecovery_shows b⟩
  refine ⟨fun none => recovers (by rw [loads, none]), fun d first used first_eq => ?_⟩
  rw [used] at loads
  subst first_eq
  intro measured
  refine ⟨fun usable => ?_, fun bad usable => ?_, fun bad bad' => recovers (b := measured) ?_⟩
  · exact congrArg (becomes s) (loads.trans (if_pos usable))
  · exact congrArg (becomes s) (loads.trans ((if_neg (by rw [bad]; decide)).trans (if_pos usable)))
  · exact loads.trans ((if_neg (by rw [bad]; decide)).trans (if_neg (by rw [bad']; decide)))

/-! ### The phases -/

/-- A phase that begins shows in its bit of OD 01.002 alone, and by its time. -/
theorem phaseBegins_spec (c : Chip) (n : Nat) (hn : n < 256) :
    (∀ m, bit (odN (phaseBegins c n) 0x01002 0) m = if m = n then true else bit (odN c 0x01002 0) m)
      ∧ odN (phaseBegins c n) 0x01003 n = c.tb.ns ∧ (phaseBegins c n).boot = c.boot ∧ (phaseBegins c n).en = c.en := by
  refine ⟨fun m => ?_, odN_odSet_same _ _ _ _, rfl, rfl⟩
  rw [phaseBegins, odN_odSet_ne _ _ _ _ _ _ hn (by decide) (Or.inl (by decide)), bit_odSetBit]

theorem farTrain_frame (c : Chip) (p : Nat) : (farTrain c p).boot = c.boot ∧ (farTrain c p).en = c.en := by
  unfold farTrain
  split <;> exact ⟨rfl, rfl⟩

/-- Phases 3 and 4 begin together. -/
theorem phases34_spec (c : Chip) : bit (odN (phases34 c) 0x01002 0) 3 = true ∧ bit (odN (phases34 c) 0x01002 0) 4 = true
    ∧ (phases34 c).boot = c.boot ∧ (phases34 c).en = c.en := by
  have trains (g : Chip → Chip) (hb : (g c).boot = c.boot) (he : (g c).en = c.en) :
      ((List.range 4).foldl farTrain (g c)).boot = c.boot ∧ ((List.range 4).foldl farTrain (g c)).en = c.en :=
    ⟨(foldl_keeps Chip.boot _ _ (fun b p _ => (farTrain_frame b p).1) _).trans hb,
      (foldl_keeps Chip.en _ _ (fun b p _ => (farTrain_frame b p).2) _).trans he⟩
  obtain ⟨boot, en⟩ := trains (fun c => (List.range 16).foldl (fun s i =>
      if subExists s i ∧ bit (odN s 0x20003 0) i ∧ subState s i = 0 then setSubState s i 1 else s) c)
    (foldl_keeps Chip.boot _ _ (fun b i _ => by split <;> rfl) _)
    (foldl_keeps Chip.en _ _ (fun b i _ => by split <;> rfl) _)
  refine ⟨?_, ?_, boot, en⟩
  · rw [phases34, (phaseBegins_spec _ 4 (by decide)).1, if_neg (by decide), (phaseBegins_spec _ 3 (by decide)).1, if_pos rfl]
  · rw [phases34, (phaseBegins_spec _ 4 (by decide)).1, if_pos rfl]

theorem customerCoresOff_frame (c : Chip) : (customerCoresOff c).boot = c.boot ∧ (customerCoresOff c).en = c.en
    ∧ (customerCoresOff c).faults = c.faults ∧ (customerCoresOff c).mem = c.mem := by
  refine ⟨foldl_keeps Chip.boot _ _ (fun b i _ => ?_) c, foldl_keeps Chip.en _ _ (fun b i _ => ?_) c,
    foldl_keeps Chip.faults _ _ (fun b i _ => ?_) c, foldl_keeps Chip.mem _ _ (fun b i _ => ?_) c⟩
  all_goals
    dsimp only
    split <;> rfl

/-- Nothing stored, nothing repaired again. -/
theorem repairsAgain_frame {c : Chip} (store : c.faults.store = []) (rows : c.mem.softRows = []) :
    (repairsAgain c).boot = c.boot ∧ (repairsAgain c).en = c.en := by
  have quiet : silently c (fun s => s.faults.store.foldl (fun s x => (repair s x.1 0 (x.2 / 16) true).s) s)
      = silently c (fun s => s) := by
    simp only [silently, store, List.foldl_nil]
  have rows' : (silently c (fun s => s)).mem.softRows = [] := rows
  unfold repairsAgain
  rw [quiet]
  simp only [rows', List.foldl_nil]
  exact ⟨rfl, rfl⟩

/-- Phase 2: its bit and its time. -/
theorem phase2_spec (c : Chip) : bit (odN (phase2 c) 0x01002 0) 2 = true ∧ odN (phase2 c) 0x01003 2 = c.tb.ns := by
  refine ⟨?_, ?_⟩
  · rw [phase2, (phaseBegins_spec _ 2 (by decide)).1, if_pos rfl]
  · refine ((phaseBegins_spec _ 2 (by decide)).2.1).trans (congrArg Timebase.ns ?_)
    refine foldl_keeps Chip.tb _ _ (fun b i _ => ?_) c
    split <;> rfl

/-- Units repaired or retired, and the die with them. -/
theorem dieStarts_lit (c : Chip) (d : Nat) (seqOk : Bool) : dieLit (dieStarts c d [] seqOk) d = true := by
  have kept : (dieStarts c d [] seqOk).boot = { c.boot with dieLit := tput c.boot.dieLit (d + 1) true } := by
    simp only [dieStarts, List.filter_nil, List.foldl_nil]
    rw [refence_boot, applyHeld_boot, stepReset_boot]
    refine (foldl_keeps Chip.boot _ _ (fun b t _ => ?_) _).trans ((foldl_keeps Chip.boot _ _
      (fun b u _ => unitFollows_boot b d u true) _).trans rfl)
    split
    · rfl
    · split
      · exact startFromSlot_boot b t
      · rfl
  rw [dieLit, kept]
  exact tget_tput_same _ _ _ _

/-- A die that may come up now (R175). -/
theorem dieComesUp_acts {c : Chip} {d : Nat} (lights : lighting c = true) (small : d < 4)
    (before : ∀ e, e < d → dieLit c e || tget false c.boot.dieFailed (e + 1)) (dark : dieLit c d = false)
    (sound : tget false c.boot.dieFailed (d + 1) = false) (bad : List Nat) (seqOk : Bool) :
    dieComesUp c d bad true seqOk = odSetBit (dieStarts c d bad seqOk) 0x01004 0 (9 + d) true
      ∧ dieComesUp c d bad false seqOk = odSetBit (dieRetired c d) 0x01004 0 (9 + d) true := by
  have all : (List.range d).all (fun e => dieLit c e || tget false c.boot.dieFailed (e + 1)) = true := by
    rw [List.all_eq_true]
    exact fun e he => before e (List.mem_range.mp he)
  have acts : ¬ ((!lighting c) = true ∨ 4 ≤ d ∨ (dieLit c d || tget false c.boot.dieFailed (d + 1)) = true
      ∨ (!(List.range d).all (fun e => dieLit c e || tget false c.boot.dieFailed (e + 1))) = true) := by
    rw [lights, dark, sound, all]
    simp [small]
  refine ⟨?_, ?_⟩
  all_goals
    unfold dieComesUp
    exact if_neg acts

theorem dieRetired_failed (c : Chip) (d : Nat) : tget false (dieRetired c d).boot.dieFailed (d + 1) = true := tget_tput_same _ _ _ _

/-- What READY shows (R171, R174). -/
def readyObjects (c : Chip) : Chip :=
  phaseBegins (odSet ([7, 8, 13, 16].foldl (fun s b => odSetBit s 0x01004 0 b true) (bootMod c (fun b => { b with
    nearZeroed := true, cacheInit := true, managerUp := true, linksSettled := true, warmSince := none }))) 0x01001 0 2) 5

theorem readyObjects_spec (c : Chip) : odN (readyObjects c) 0x01001 0 = 2 ∧ bit (odN (readyObjects c) 0x01002 0) 5 = true
    ∧ odN (readyObjects c) 0x01003 5 = c.tb.ns ∧ (∀ k, k ∈ [7, 8, 13, 16] → bit (odN (readyObjects c) 0x01004 0) k = true)
    ∧ Keeps c (readyObjects c) [(0x01001, 0), (0x01002, 0), (0x01003, 5), (0x01004, 0)] := by
  refine ⟨?_, ?_, (phaseBegins_spec _ 5 (by decide)).2.1, fun k hk => ?_, ?_⟩
  · simp (disch := omega) only [readyObjects, phaseBegins, odSetBit, odN_odSet_ne, odN_odSet_same]
  · rw [readyObjects, (phaseBegins_spec _ 5 (by decide)).1, if_pos rfl]
  · rw [readyObjects, phaseBegins, odN_odSet_ne _ _ _ _ _ _ (by decide) (by decide) (Or.inl (by decide)), odSetBit,
      odN_odSet_ne _ _ _ _ _ _ (by decide) (by decide) (Or.inl (by decide)),
      odN_odSet_ne _ _ _ _ _ _ (by decide) (by decide) (Or.inl (by decide))]
    simp only [List.foldl_cons, List.foldl_nil, bit_odSetBit]
    simp only [List.mem_cons, List.not_mem_nil, or_false] at hk
    obtain rfl | rfl | rfl | rfl := hk <;> simp
  · have start : Keeps c (bootMod c (fun b => { b with
        nearZeroed := true, cacheInit := true, managerUp := true, linksSettled := true, warmSince := none }))
        [(0x01001, 0), (0x01002, 0), (0x01003, 5), (0x01004, 0)] := (Keeps.refl c _).congr rfl
    simp only [readyObjects, phaseBegins, List.foldl_cons, List.foldl_nil]
    refine ((((((start.setBit _ _ _ _ ?_ ?_).setBit _ _ _ _ ?_ ?_).setBit _ _ _ _ ?_ ?_).setBit _ _ _ _ ?_ ?_).set _ _ _ ?_ ?_
      ).setBit _ _ _ _ ?_ ?_).set _ _ _ ?_ ?_
    all_goals simp

theorem bringUp : Claim.BringUp := by
  intro s bad die seqOk c begun
  refine ⟨fun waiting state core late store rows => ?phase1, fun released on state core new late => ?phase2,
    fun lights small before dark sound => ?die, fun state box four dies settled core core' => ?ready,
    fun state cold still late first released on => ?late⟩
  case phase1 =>
    let x := odSetBit (odSetBit { c with
      boot := { c.boot with signalBox := true }
      en := { c.en with intervalEnd := nowNs c + ms 1, windowEnd := nowNs c + ms (odN c 0x02020 0) } } 0x01004 0 0 true) 0x01004 0 2 true
    have due : ¬ (c.boot.signalBox = true ∨ devState c ≠ 1 ∨ coreState c 0 = 0 ∨ nowNs c < ms 30) := by
      simp only [c, waiting, devState, state, core, nowNs, ms]
      simp
      omega
    have done : phase1End c [] = phases34 (repairsAgain (customerCoresOff x)) := if_neg due
    obtain ⟨coreBoot, coreEn, coreFaults, coreMem⟩ := customerCoresOff_frame x
    obtain ⟨repBoot, repEn⟩ := repairsAgain_frame (c := customerCoresOff x) (by rw [coreFaults]; exact store)
      (by rw [coreMem]; exact rows)
    obtain ⟨three, four, boot, en⟩ := phases34_spec (repairsAgain (customerCoresOff x))
    refine ⟨_, congrArg (becomes s) done, ?_, three, four, ?_, ?_⟩
    · rw [boot, repBoot, coreBoot]
      rfl
    · rw [en, repEn, coreEn]
      rfl
    · rw [en, repEn, coreEn]
      show nowNs c + ms _ = _
      rw [ms, Nat.mul_comm]
      rfl
  case phase2 =>
    have due : ¬ (c.boot.resetLow = true ∨ (!c.boot.vaon) = true ∨ devState c ≠ 1 ∨ coreState c 0 = 0
        ∨ bit (odN c 0x01002 0) 2 = true ∨ nowNs c < ms 20) := by
      simp only [c, released, on, devState, state, core, new, nowNs, ms]
      simp
      omega
    exact ⟨phase2 c, congrArg (becomes s) (if_neg due), phase2_spec c⟩
  case die =>
    have shows (b : Chip) : bit (odN (odSetBit b 0x01004 0 (9 + die) true) 0x01004 0) (9 + die) = true := by
      rw [bit_odSetBit, if_pos rfl]
    have boot (b : Chip) : (odSetBit b 0x01004 0 (9 + die) true).boot = b.boot := rfl
    obtain ⟨starts, -⟩ := dieComesUp_acts lights small before dark sound [] seqOk
    obtain ⟨-, retires⟩ := dieComesUp_acts lights small before dark sound bad seqOk
    refine ⟨⟨_, congrArg (becomes s) starts, ?_, shows _⟩, ⟨_, congrArg (becomes s) retires, ?_, shows _⟩⟩
    · rw [dieLit, boot]
      exact dieStarts_lit c die seqOk
    · rw [boot]
      exact dieRetired_failed c die
  case ready =>
    have now : ¬ ((!(devState c == 1 || devState c == 4) || !c.boot.signalBox || !bit (odN c 0x01002 0) 4 || !(true && true && true)
        || (decide (power c ≤ 1) && !diesUp c) || !clSettled c || coreState c 4 == 0 || coreState c 4 == 6) = true) := by
      have phase : bit (odN c 0x01002 0) 4 = true := four
      have stands : devState c = 1 ∨ devState c = 4 := state
      rw [box, phase, dies, settled]
      simp only [Bool.or_eq_true, Bool.not_eq_true', beq_iff_eq, Bool.or_eq_false_iff, beq_eq_false_iff_ne]
      simp [core, core']
      exact fun h => stands.resolve_left h
    have done : deviceReady c true true true = if c.boot.warmSince.isSome
        then raise (raise (readyObjects c) evDeviceReady (c.tb.ns / 1000)) evWarmResetDone
          (odN (raise (readyObjects c) evDeviceReady (c.tb.ns / 1000)) 0x01006 0)
        else raise (readyObjects c) evDeviceReady (c.tb.ns / 1000) := if_neg now
    obtain ⟨shows, phase, time, mask, frame⟩ := readyObjects_spec c
    have cause : odN (raise (readyObjects c) evDeviceReady (c.tb.ns / 1000)) 0x01006 0 = odN c 0x01006 0 :=
      (odN_raise _ _ _ _ _ (by decide) (Or.inl (by decide))).trans (frame.num _ _ (by decide) (by decide))
    rw [cause] at done
    refine ⟨readyObjects c, shows, phase, time, mask, frame, rfl, fun cold => congrArg (becomes s) (done.trans (if_neg ?_)),
      fun warm => congrArg (becomes s) (done.trans (if_pos warm))⟩
    rw [cold]
    decide
  case late =>
    have since : upSince c = 0 := by
      simp only [upSince, cold, still]
    refine congrArg (becomes s) ?_
    show readyLate c = _
    simp only [readyLate, since, if_true]
    refine if_pos ⟨Or.inl state, ?_, ?_, ?_, on⟩
    · simp only [nowNs, ms]
      omega
    · simp [first]
    · simp [released]

/-- Settles O31: the boot ROM and the phases (06 R170 to R182). -/
theorem bootAndBringUp : Obligations.BootAndBringUp := ⟨bootRom, bringUp⟩

end Sys2Proof.Machine
end

/-! ## The far tier and the host ports (06 R169, R176, R177; 11 R301, R313 to R318) -/
section
namespace Sys2Proof.Machine

/-! ### Far-tier ports -/

/-- A link that came up as it should. -/
theorem farLinkUp_good {c : Chip} {p cap : Nat} (small : p < 4) (inUse : c.ports.farOut = []) (trains : odN c 0x11031 (p + 1) % 4 = 1)
    (enabled : bit (odN c 0x11030 0) p = true) (pos : 0 < cap) (whole : cap % 1073741824 = 0) (fits : cap ≤ 549755813888) :
    farLinkUp c p 16 6 true true cap = bootMod (odSet (odSet c 0x11031 (p + 1) (linkWord 16 6 true 2 + 32)) 0x11032 (p + 1) cap)
      (fun b => { b with farLeft := tput b.farLeft p (cap / 1073741824), farZeroed := tput b.farZeroed p 0 }) := by
  have acts : ¬ (4 ≤ p ∨ farState c p ≠ 1 ∨ (!bit (odN c 0x11030 0) p) = true) := by
    simp [small, farState, trains, enabled]
  unfold farLinkUp
  rw [if_neg acts]
  simp [pos, whole, fits, inUse, linkWord, b2n]

/-- A link that is not what Table 11-5 asks. -/
theorem farLinkUp_bad {c : Chip} {p cap : Nat} (small : p < 4) (trains : odN c 0x11031 (p + 1) % 4 = 1)
    (enabled : bit (odN c 0x11030 0) p = true) :
    farLinkUp c p 16 6 true false cap = odSet c 0x11031 (p + 1) (linkWord 16 6 true 3 + 32) := by
  have acts : ¬ (4 ≤ p ∨ farState c p ≠ 1 ∨ (!bit (odN c 0x11030 0) p) = true) := by
    simp [small, farState, trains, enabled]
  unfold farLinkUp
  rw [if_neg acts]
  simp [linkWord, b2n]

theorem zeroRange_frame (c : Chip) (a n : Nat) : zeroRange c a n = { c with mem := (zeroRange c a n).mem } := rfl

theorem zeroRanges_frame {α : Type} (at_ : α → Nat) (n : Nat) (l : List α) (c : Chip) :
    l.foldl (fun s i => zeroRange s (at_ i) n) c = { c with mem := (l.foldl (fun s i => zeroRange s (at_ i) n) c).mem } := by
  induction l generalizing c with
  | nil => rfl
  | cons i r ih =>
    rw [List.foldl_cons, ih]
    rfl

/-- A capacity that grows is counted in OD 01.048 (Table 1-9). -/
theorem capacity_changed {c : Chip} {o v : Nat} (h : odN c o 0 ≠ v) : capacity c o v = odInc (odSet c o 0 v) 0x01048 0 := if_neg h

/-- A block zeroed that is not the last one of its port (06 R176). -/
theorem farBlockDone_more {c : Chip} {p left : Nat} (small : p < 4) (inUse : c.ports.farOut = [])
    (up : odN c 0x11031 (p + 1) % 4 = 2) (more : tget 0 c.boot.farLeft p = left + 2) :
    ∃ mem, farBlockDone c p = odInc (odSet { c with
      mem := mem
      boot := { c.boot with
        farLeft := tput c.boot.farLeft p (left + 1)
        farZeroed := tput c.boot.farZeroed p (tget 0 c.boot.farZeroed p + 512) } }
      0x01047 0 (odN c 0x01047 0 + 1073741824)) 0x01048 0 := by
  have acts : ¬ (4 ≤ p ∨ farState c p ≠ 2 ∨ c.ports.farOut.contains p = true ∨ tget 0 c.boot.farLeft p = 0) := by
    rw [inUse, more]
    simp [small, farState, up]
  have zeroed := zeroRanges_frame (fun i => 0x010000000000 + ((tget 0 c.boot.farZeroed p + i) * 4 + p) * granule) granule
    (List.range 512) c
  unfold farBlockDone
  rw [if_neg acts]
  dsimp only
  rw [zeroed]
  generalize ((List.range 512).foldl _ c).mem = mem
  refine ⟨mem, ?_⟩
  rw [capacity_changed]
  · rw [if_neg]
    · simp only [bootMod, more]
      rfl
    · simp only [bootMod, more]
      exact (tget_tput_same _ _ _ _).trans_ne (Nat.succ_ne_zero _)
  · exact (Nat.lt_add_of_pos_right (by decide)).ne

theorem farTier : Claim.FarTier := by
  intro s p cap small inUse c
  refine ⟨fun trains enabled pos whole fits => ?good, fun trains enabled => ?bad, fun left up more => ?block⟩
  case good =>
    refine ⟨_, congrArg (becomes s) (farLinkUp_good small inUse trains enabled pos whole fits), ?_, odN_odSet_same _ _ _ _, ?_, rfl⟩
    · show odN (odSet (odSet c 0x11031 (p + 1) (linkWord 16 6 true 2 + 32)) 0x11032 (p + 1) cap) 0x11031 (p + 1) % 4 = 2
      rw [odN_odSet_ne _ _ _ _ _ _ (by omega) (by omega) (Or.inl (by decide)), odN_odSet_same]
      rfl
    · exact (((Keeps.refl c _).set 0x11031 (p + 1) (linkWord 16 6 true 2 + 32) (by omega) (by simp)).set 0x11032 (p + 1) cap (by omega)
        (by simp)).congr rfl
  case bad =>
    refine ⟨_, congrArg (becomes s) (farLinkUp_bad small trains enabled), ?_, (Keeps.refl c _).set _ _ _ (by omega) (by simp), rfl⟩
    rw [odN_odSet_same]
    rfl
  case block =>
    obtain ⟨mem, done⟩ := farBlockDone_more small inUse up more
    refine ⟨_, congrArg (becomes s) done, tget_tput_same _ _ _ _, tget_tput_same _ _ _ _, ?_, ?_, ?_⟩
    · exact (odN_odSet_ne _ _ _ _ _ _ (by decide) (by decide) (Or.inl (by decide))).trans (odN_odSet_same _ _ _ _)
    · refine (odN_odSet_same _ _ _ _).trans ?_
      rw [odN_odSet_ne _ _ _ _ _ _ (by decide) (by decide) (Or.inl (by decide))]
      rfl
    · exact (((Keeps.refl c _).congr rfl).set _ _ _ (by decide) (by simp)).inc _ _ (by decide) (by simp)

/-! ### Host links -/

/-- A platform's reset changes its own objects, not those of links, nor the bring-up state. -/
theorem resetStart_frame (c : Chip) (p : Nat) (disable : Bool) (small : p < 64) :
    (resetStart c p disable).boot = c.boot ∧ ∀ k < 256, odN (resetStart c p disable) 0x11003 k = odN c 0x11003 k := by
  unfold resetStart
  split
  · exact ⟨rfl, fun _ _ => rfl⟩
  · refine ⟨rfl, fun k hk => ?_⟩
    show odN (raiseEpoch (setPlatState c p 2) p) 0x11003 k = _
    simp (disch := omega) only [raiseEpoch, setPlatState, odInc, odSetBit, odN_odSet_ne]

/-- A host link lost: its word is as given, those of the others as before; the bring-up state stays. -/
theorem hostLinkLost_spec (c : Chip) (i st : Nat) (hi : i < 4) :
    (hostLinkLost c i st).boot = c.boot
      ∧ ∀ k < 256, odN (hostLinkLost c i st) 0x11003 k = if k = i + 1 then st else odN c 0x11003 k := by
  have resets (l : List Nat) (hl : ∀ p ∈ l, p < 64) (b : Chip) : (l.foldl (fun s p => resetStart s p false) b).boot = b.boot
      ∧ ∀ k < 256, odN (l.foldl (fun s p => resetStart s p false) b) 0x11003 k = odN b 0x11003 k :=
    ⟨foldl_keeps Chip.boot _ _ (fun b p hp => (resetStart_frame b p false (hl p hp)).1) b,
      fun k hk => foldl_keeps (odN · 0x11003 k) _ _ (fun b p hp => (resetStart_frame b p false (hl p hp)).2 k hk) b⟩
  let had := (List.range 64).filter (fun p => platOn c p && hasFn c p && linkOfPlat c p == i)
  let lost := odSet { odSet c 0x11003 (i + 1) st with ports := { c.ports with fns := c.ports.fns.filter (fun f =>
    !(f.1 == i || (decide (101 ≤ f.1) && vfLink (odSet c 0x11003 (i + 1) st) (fnPort f.1) (fnVf f.1) == i))) } } 0x11010 (i + 1) 0
  obtain ⟨boot, links⟩ := resets had (fun p hp => List.mem_range.mp (List.mem_filter.mp hp).1) lost
  have word (k : Nat) (hk : k < 256) : odN lost 0x11003 k = if k = i + 1 then st else odN c 0x11003 k := by
    refine (odN_odSet_ne _ _ _ _ _ _ (by omega) hk (Or.inl (by decide))).trans ?_
    refine (odN_odSet c 0x11003 (i + 1) 0x11003 k st (by omega) hk).trans ?_
    simp only [true_and]
  have mailbox (b : Chip) : (if i = 0 then setMbx b 64 Mbx.off else b).boot = b.boot
      ∧ ∀ o k, odN (if i = 0 then setMbx b 64 Mbx.off else b) o k = odN b o k := by
    split <;> exact ⟨rfl, fun _ _ => rfl⟩
  obtain ⟨boot', links'⟩ := mailbox (had.foldl (fun s p => resetStart s p false) lost)
  have ends (b : Chip) (up : Bool) : (if up then raise (odInc b 0x11060 (i + 1)) evHostLinkDown i else b).boot = b.boot
      ∧ ∀ k < 256, odN (if up then raise (odInc b 0x11060 (i + 1)) evHostLinkDown i else b) 0x11003 k = odN b 0x11003 k := by
    cases up
    · exact ⟨rfl, fun _ _ => rfl⟩
    · refine ⟨rfl, fun k hk => (odN_raise _ _ _ _ _ hk (Or.inl (by decide))).trans ?_⟩
      exact odN_odSet_ne _ _ _ _ _ _ (by omega) hk (Or.inl (by decide))
  obtain ⟨boot'', links''⟩ := ends (if i = 0 then setMbx (had.foldl (fun s p => resetStart s p false) lost) 64 Mbx.off
    else had.foldl (fun s p => resetStart s p false) lost) (hostLinkUp c i)
  refine ⟨boot''.trans (boot'.trans boot), fun k hk => ?_⟩
  exact (links'' k hk).trans ((links' _ _).trans ((links k hk).trans (word k hk)))

theorem hostPorts : Claim.HostPorts := by
  intro s h f link on op c done writes
  refine ⟨fun small released => ?assert, fun small low begun active => ?deassert, fun small up early sound e3 => ?retry,
    fun small up ready => ?read, fun small up ready present mine => ?writes⟩
  case assert =>
    obtain ⟨boot1, link1⟩ := hostLinkLost_spec c (2 * h) 0 (by omega)
    obtain ⟨boot2, link2⟩ := hostLinkLost_spec (hostLinkLost c (2 * h) 0) (2 * h + 1) 0 (by omega)
    have acts : perstAssert c h = bootMod (hostLinkLost (hostLinkLost c (2 * h) 0) (2 * h + 1) 0)
        (fun b => { b with perst := tput b.perst h true }) := by
      rw [perstAssert, if_neg (by simp [small, released])]
      rfl
    refine ⟨_, congrArg (becomes s) acts, tget_tput_same _ _ _ _, fun i hi => ?_⟩
    have word : odN (hostLinkLost (hostLinkLost c (2 * h) 0) (2 * h + 1) 0) 0x11003 (i + 1) = 0 := by
      rw [link2 _ (by omega), link1 _ (by omega)]
      obtain rfl | rfl := hi <;> simp
    show (odN (hostLinkLost (hostLinkLost c (2 * h) 0) (2 * h + 1) 0) 0x11003 (i + 1) % 4 == 2) = false
    rw [word]
    rfl
  case deassert =>
    let r := bootMod c (fun b => { b with perst := tput b.perst h false })
    have first : linkExists r (2 * h) = true := by
      simp only [linkExists]
      simp
      omega
    have acts : perstDeassert c h = if linkExists (odSet r 0x11003 (2 * h + 1) 1) (2 * h + 1)
        then odSet (odSet r 0x11003 (2 * h + 1) 1) 0x11003 (2 * h + 2) 1 else odSet r 0x11003 (2 * h + 1) 1 := by
      have phase : bit (odN r 0x01002 0) 2 = true := begun
      have noE3 : ¬ 3 ≤ power r := Nat.not_le.mpr active
      rw [perstDeassert, if_neg (by simp [small, low])]
      show (if (!bit (odN r 0x01002 0) 2) = true ∨ 3 ≤ power r ∧ _ then r else _) = _
      rw [if_neg (by simp [phase, noE3])]
      show [2 * h, 2 * h + 1].foldl (fun s i => if linkExists s i then odSet s 0x11003 (i + 1) 1 else s) r = _
      rw [List.foldl_cons, if_pos first]
      rfl
    have trains : Keeps c (odSet r 0x11003 (2 * h + 1) 1) [(0x11003, 2 * h + 1), (0x11003, 2 * h + 2)] :=
      Keeps.set (Keeps.congr (Keeps.refl c _) rfl) _ _ _ (by omega) (by simp)
    refine ⟨_, congrArg (becomes s) acts, ?_⟩
    split
    · refine ⟨tget_tput_same _ _ _ _, ?_, trains.set _ _ _ (by omega) (by simp)⟩
      rw [odN_odSet_ne _ _ _ _ _ _ (by omega) (by omega) (Or.inr (by omega)), odN_odSet_same]
    · exact ⟨tget_tput_same _ _ _ _, odN_odSet_same _ _ _ _, trains⟩
  case retry =>
    have acts : configRequest c link op = emit (odInc c 0x01020 (link / 2 + 1)) (.config link true 1) := by
      have noE3 : ¬ power c = 3 := e3
      rw [configRequest, if_neg (by simp [small, up]), if_neg (by simp [early, sound, noE3])]
    exact ⟨_, congrArg (becomes s) acts, odN_odSet_same _ _ _ _,
      ((Keeps.refl c _).inc _ _ (by omega) (by simp)).congr rfl, rfl⟩
  case read =>
    have acts : configRequest c link .read = configDone c link .read := by
      rw [configRequest, if_neg (by simp [small, up]), if_pos (Or.inl ready)]
    exact ⟨(takeFree c 32).1, Nat.mod_lt _ (by decide), congrArg (becomes s) acts⟩
  case writes =>
    have acts (op : CfgOp) : configRequest c link op = configDone c link op := by
      rw [configRequest, if_neg (by simp [small, up]), if_pos (Or.inl ready)]
    have goes (w : Chip → Chip) : configWrite c link f w = w c := if_pos (by rw [present, mine, beq_self_eq_true]; rfl)
    have completed (op : CfgOp) (w : Chip → Chip) (b : Chip)
        (e : configDone c link op = emit (configWrite c link f w) (.config link false 0)) (r : w c = b) :
        exec (.configRequest link op) s = done b := by
      refine congrArg (becomes s) ((acts op).trans (e.trans ?_))
      rw [goes, r]
      rfl
    refine ⟨completed _ _ _ rfl rfl, completed _ _ _ rfl rfl, completed _ _ _ rfl rfl, fun quiet => completed _ _ _ rfl ?_,
      fun pf => completed _ _ _ rfl (if_pos pf)⟩
    · have none : (fnOf c f).pend.filter (fun v => (fnOf c f).unmasked.contains v) = [] := by
        rw [List.filter_eq_nil_iff]
        intro v hv
        simpa using List.all_eq_true.mp quiet v hv
      have all : (fnOf c f).pend.filter (fun v => !(fnOf c f).unmasked.contains v) = (fnOf c f).pend :=
        List.filter_eq_self.mpr fun v hv => List.all_eq_true.mp quiet v hv
      simp only [unmaskFunction, none, all, List.foldl_nil, Bool.false_eq_true, if_false]
      rfl

/-- Settles O32: far-tier ports and host ports (06 R169, R176, R177). -/
theorem farTierAndHostPorts : Obligations.FarTierAndHostPorts := ⟨farTier, hostPorts⟩

end Sys2Proof.Machine
end

/-! ## Security: the key store, firmware updates, SPDM and the test port (07) -/
section
namespace Sys2Proof.Machine

/-! ### The key store -/

/-- A slot written, with the READY slots of its segment shown: every other slot and every other object as before. -/
theorem showSegment_setKeySlot (c : Chip) (slot : Nat) (x : KeySlot) (hs : slot < 8192) :
    let b := showSegment (setKeySlot c slot x) (slot / 256)
    b.sec = { c.sec with slots := tput c.sec.slots slot x }
      ∧ odN b 0x04053 (slot / 256 + 1) = (b.sec.slots.filter (fun y => y.1 / 256 == slot / 256 && y.2.state == 1)).length
      ∧ Keeps c b [(0x04053, slot / 256 + 1)] ∧ b = { c with od := b.od, sec := b.sec } := by
  intro b
  have sub : slot / 256 + 1 < 256 := by omega
  refine ⟨rfl, ?_, ?_, rfl⟩
  · exact odN_odSet_same _ _ _ _
  · exact ((Keeps.refl c _).congr (b' := setKeySlot c slot x) rfl).set _ _ _ sub (by simp)

/-- The owner of a slot does not depend on what the slots hold. -/
theorem slotOwner_showSegment (c : Chip) (slot seg i : Nat) (x : KeySlot) (hs : seg < 32) (hi : i < 8192) :
    slotOwner (showSegment (setKeySlot c slot x) seg) i = slotOwner c i := by
  unfold slotOwner showSegment
  rw [odN_odSet_ne _ _ _ _ _ _ (by omega) (by omega) (by omega)]
  rfl

/-- A plain load that passes every check fills its slot. -/
theorem actKeyLoad_plain {c : Chip} {rq : Rq} {arg : Bytes} {slot len : Nat} (hs : slot < 8192) (at_ : fld arg 0 2 = slot)
    (mine : slotOwner c slot = (domainOf c rq).segOwner) (plain : fld arg 4 1 = 0) (short : fld arg 5 1 = len)
    (fits : useOk (fld arg 6 2) len = true) (all : arg.length = 8 + len) (free : (keySlot c slot).state = 0) :
    actKeyLoad c rq arg = acted (raiseP (showSegment
      (setKeySlot c slot ⟨1, arg.drop 8, fld arg 6 2, ((keySlot c slot).gen + 1) % 65536, 0⟩) (slot / 256))
      ⟨0x0403, 0⟩ (domainOf c rq).platByte (slot + 65536 * (((keySlot c slot).gen + 1) % 65536))) := by
  have held : ¬ (keySlots ≤ slot) := Nat.not_le.2 hs
  simp [actKeyLoad, at_, mine, plain, short, fits, all, free, held, loadedKey, evKeyLoaded]

/-- A CLOSING slot overwritten, with its event. -/
theorem zeroiseSlot_closing {c : Chip} {slot : Nat} (hs : slot < 8192) (closing : (keySlot c slot).state = 2) :
    zeroiseSlot c slot = raiseP (showSegment (setKeySlot c slot
      { keySlot c slot with state := 0, key := [], use := 0, gen := ((keySlot c slot).gen + 1) % 65536 }) (slot / 256))
      ⟨0x0405, 0⟩ (slotOwner c slot) (slot + 65536 * (((keySlot c slot).gen + 1) % 65536)) := by
  unfold zeroiseSlot
  dsimp only
  rw [if_neg (fun h => absurd (closing.symm.trans h) (by decide)), slotOwner_showSegment c slot _ slot _ (by omega) hs]
  rfl

/-- The USE fields that fit a key of `len` bytes (R200). -/
theorem useOk_of {use len : Nat} (h : use = 2 ∧ (len = 32 ∨ len = 64) ∨ use ∈ [1, 4, 5, 8] ∧ (len = 16 ∨ len = 32)) :
    useOk use len = true := by
  simp only [List.mem_cons, List.not_mem_nil, or_false] at h
  simp only [useOk, Bool.or_eq_true, Bool.and_eq_true, beq_iff_eq]
  tauto

/-- Settles O34: the slot written, the READY count shown with it, and the event of each command. -/
theorem keyStoreGenerations : Obligations.KeyStoreGenerations := by
  intro s rq arg slot hs c own k ready now
  have written (x : KeySlot) : now (showSegment (setKeySlot c slot x) (slot / 256)) x := showSegment_setKeySlot c slot x hs
  have held : ¬ (keySlots ≤ slot) := Nat.not_le.2 hs
  refine ⟨?_, ?_, ?_, ?_⟩
  · intro len acc at_ mine plain short use all free
    exact ⟨_, actionRow_acks _ _ _ _ _ _ acc 
      (actKeyLoad_plain hs at_ mine plain short (useOk_of use) all free), written _⟩
  · intro acc at_ mine ready
    refine ⟨_, actionRow_acks _ _ _ _ _ _ acc ?_, written { k with state := 2 }⟩
    show actKeyZeroise c rq arg = _
    simp only [actKeyZeroise, at_]
    exact (if_neg (not_or.2 ⟨held, not_not.2 mine⟩)).trans (if_pos ready)
  · intro acc at_ other
    refine actionRow_refuses _ _ _ _ _ [] _ 5 acc (by decide) (by decide) ?_
    show actKeyZeroise c rq arg = _
    simp only [actKeyZeroise, at_]
    exact if_pos (Or.inr other)
  · intro closing done
    have acts : (if slot < keySlots ∧ (keySlot c slot).state = 2 ∧ (keySlot c slot).issued = 0 then zeroiseSlot c slot else c)
        = zeroiseSlot c slot := if_pos ⟨hs, closing, done⟩
    exact ⟨_, congrArg (becomes s) (acts.trans (zeroiseSlot_closing hs closing)), written _⟩

/-! ### Firmware bundles -/

/-- No update is running. -/
theorem fwActive_calm {c : Chip} (h1 : odN c 0x04063 0 ≠ 1) (h3 : odN c 0x04063 0 ≠ 3) (h5 : odN c 0x04063 0 ≠ 5) :
    fwActive c = false := by
  simp [fwActive, fwStatus, h1, h3, h5]

theorem setSlotBytes_od (c : Chip) (k : Nat) (b : Bytes) : (setSlotBytes c k b).od = c.od := by
  unfold setSlotBytes
  split <;> rfl

theorem setSlotBytes_sec (c : Chip) (k : Nat) (b : Bytes) : (setSlotBytes c k b).sec = c.sec := by
  unfold setSlotBytes
  split <;> rfl

/-- The first write after a change of the slot's bytes. -/
theorem fwTouch_setSlotBytes (c : Chip) (k : Nat) (b : Bytes) (fetching : Bool) :
    fwTouch (setSlotBytes c k b) fetching = odSet { setSlotBytes c k b with sec := { (setSlotBytes c k b).sec with
      fw := { c.sec.fw with slot := 1 - odN c 0x01005 0, verified := false, fetching := fetching } } } 0x04063 0 1 := by
  have slot : odN (setSlotBytes c k b) 0x01005 0 = odN c 0x01005 0 := odN_congr _ _ (setSlotBytes_od c k b) _ _
  unfold fwTouch fwMod otherSlot runningSlot
  rw [slot, setSlotBytes_sec]
  rfl

/-- A bundle that the flash did not take: failed, what the slot holds being open. -/
theorem fwWritten_failed {c : Chip} (writing : odN c 0x04063 0 = 1) : ∃ b cause, cause < 256
    ∧ fwWritten c false = raise b ⟨0x040A, 3⟩ cause ∧ odN b 0x04063 0 = 7 ∧ b.sec.fw.fetching = false
    ∧ Keeps c b [(0x04063, 0)] := by
  have small (x : Chip) : (takeFree x 8).1 < 256 := Nat.mod_lt _ (by decide)
  have kept (x : Chip) (h : x.od = c.od) : Keeps c (setFwStatus x 7) [(0x04063, 0)] :=
    ((Keeps.refl c _).congr h).set _ _ _ (by decide) (by simp)
  let x := fwMod c (fun f => { f with fetching := false })
  let n := (slotBytes x x.sec.fw.slot).length
  let y := setSlotBytes (takeFree x (8 * n)).2 x.sec.fw.slot (leBytes n (takeFree x (8 * n)).1)
  have acts : fwWritten c false = fwFail y 0 := if_neg (not_not.2 writing)
  have event : fwFail y 0 = raise (setFwStatus (takeFree y 8).2 7) ⟨0x040A, 3⟩ (takeFree y 8).1 :=
    congrArg (raise _ _) (Nat.zero_add _)
  refine ⟨_, _, small y, acts.trans event, odN_odSet_same _ _ _ _, ?_, kept _ (setSlotBytes_od _ _ _)⟩
  exact congrArg (fun x => x.fw.fetching) (setSlotBytes_sec _ _ _)

/-- Every kind verified. -/
theorem fwVerified_good {c : Chip} {sigs : List Bool} (verifying : fwStatus c = 3)
    (good : ∀ k, k < 4 → slotImageOk c c.sec.fw.slot (k + 1) (sigs.getD k false) = true) : ∃ b,
    fwVerified c sigs = raise b ⟨0x0409, 0⟩ c.sec.fw.slot ∧ odN b 0x04063 0 = 4 ∧ b.sec.fw.verified = true
      ∧ Keeps c b [(0x04063, 0)] := by
  have none_bad : (List.range 4).find? (fun i => !slotImageOk c c.sec.fw.slot (i + 1) (sigs.getD i false)) = none := by
    rw [List.find?_eq_none]
    intro k hk
    rw [good k (List.mem_range.1 hk)]
    decide
  have acts : fwVerified c sigs = raise (setFwStatus (fwMod c (fun f => { f with
      verified := true, secVersion := slotSecurity (slotBytes c c.sec.fw.slot),
      version := slotVersion (slotBytes c c.sec.fw.slot) })) 4) ⟨0x0409, 0⟩ c.sec.fw.slot := by
    unfold fwVerified
    rw [if_neg (not_not.2 verifying)]
    dsimp only
    rw [none_bad]
    rfl
  exact ⟨_, acts, odN_odSet_same _ _ _ _, rfl,
    ((Keeps.refl c _).congr (b' := fwMod c _) rfl).set _ _ _ (by decide) (by simp)⟩

/-- The first kind that fails names itself. -/
theorem fwVerified_bad {c : Chip} {sigs : List Bool} {i : Nat} (verifying : fwStatus c = 3) (small : i < 4)
    (bad : slotImageOk c c.sec.fw.slot (i + 1) (sigs.getD i false) = false)
    (below : ∀ k, k < i → slotImageOk c c.sec.fw.slot (k + 1) (sigs.getD k false) = true) : ∃ cause b, cause < 256
    ∧ fwVerified c sigs = raise b ⟨0x040A, 3⟩ (256 * (i + 1) + cause)
    ∧ b = odSet { c with free := c.free + 1 } 0x04063 0 7 := by
  have first : (List.range 4).find? (fun i => !slotImageOk c c.sec.fw.slot (i + 1) (sigs.getD i false)) = some i := by
    rw [List.find?_range_eq_some]
    refine ⟨by rw [bad]; rfl, List.mem_range.2 small, fun k hk => ?_⟩
    rw [below k hk]
    rfl
  have acts : fwVerified c sigs = fwFail c (i + 1) := by
    unfold fwVerified
    rw [if_neg (not_not.2 verifying)]
    dsimp only
    rw [first]
  exact ⟨(takeFree c 8).1, _, Nat.mod_lt _ (by decide), acts, rfl⟩

theorem firmwareBundles : Claim.FirmwareBundles := by
  intro s rq arg sigs i c other st calm touched
  refine ⟨?_, ?_, ?_, ?_, ?_, ?_, ?_⟩
  · intro acc calm room h1 h3 h5 up bme
    refine actionRow_acks _ _ _ _ _ _ acc ?_
    show actFwFetch c rq arg = _
    unfold actFwFetch
    rw [if_neg (ne_true_of_eq_false calm), if_neg (Nat.not_lt.2 room), if_neg (ne_true_of_eq_false (fwActive_calm h1 h3 h5)), if_neg (by simp [up, bme]),
      fwTouch_setSlotBytes]
    rfl
  · intro acc calm room idle h3 h5
    refine actionRow_acks _ _ _ _ _ _ acc ?_
    show actFwChunk c rq arg = _
    unfold actFwChunk
    have still : ¬ (c.sec.fw.fetching = true ∨ fwStatus c = 3 ∨ fwStatus c = 5) :=
      not_or.2 ⟨ne_true_of_eq_false idle, not_or.2 ⟨h3, h5⟩⟩
    rw [if_neg (ne_true_of_eq_false calm), if_neg (Nat.not_lt.2 room), if_neg still, fwTouch_setSlotBytes]
    rfl
  · intro writing
    have acts : fwWritten c true = setFwStatus (fwMod c (fun f => { f with fetching := false })) 2 :=
      if_neg (not_not.2 writing)
    exact congrArg (becomes s) acts
  · intro writing
    obtain ⟨b, cause, small, acts, rest⟩ := fwWritten_failed writing
    exact ⟨b, cause, small, congrArg (becomes s) acts, rest⟩
  · intro acc calm h1 h3 h5
    refine actionRow_acks _ _ _ _ _ _ acc ?_
    exact if_neg (not_or.2 ⟨ne_true_of_eq_false calm, ne_true_of_eq_false (fwActive_calm h1 h3 h5)⟩)
  · intro verifying good
    obtain ⟨b, acts, rest⟩ := fwVerified_good verifying good
    exact ⟨b, congrArg (becomes s) acts, rest⟩
  · intro verifying small bad below
    obtain ⟨cause, b, hc, acts, rest⟩ := fwVerified_bad verifying small bad below
    exact ⟨cause, b, hc, congrArg (becomes s) acts, rest⟩

/-! ### Firmware activation -/

/-- A handover to the images of a slot: the update's own state, the flash and running time stay; of the objects, only the boot
key, the measurements and the states of cores change. -/
def HandsOver (a b : Chip) : Prop :=
  b.sec = a.sec ∧ b.flash = a.flash ∧ b.tb = a.tb
    ∧ ∀ o k, k < 256 → o ≠ 0x04002 → o ≠ 0x04010 → o ≠ 0x08001 → odN b o k = odN a o k

theorem HandsOver.refl (a : Chip) : HandsOver a a := ⟨rfl, rfl, rfl, fun _ _ _ _ _ _ => rfl⟩

theorem HandsOver.trans {a b c : Chip} (h : HandsOver a b) (g : HandsOver b c) : HandsOver a c := by
  obtain ⟨h1, h2, h3, h4⟩ := h
  obtain ⟨g1, g2, g3, g4⟩ := g
  exact ⟨g1.trans h1, g2.trans h2, g3.trans h3, fun o k hk a b c => (g4 o k hk a b c).trans (h4 o k hk a b c)⟩

theorem handsOver_setCoreState (c : Chip) {t : Nat} (v : Nat) (ht : t < 255) : HandsOver c (setCoreState c t v) :=
  ⟨rfl, rfl, rfl, fun _ _ hk _ _ h => odN_odSet_ne _ _ _ _ _ _ (by omega) hk (Or.inl h)⟩

theorem handsOver_startImage (c : Chip) {t : Nat} (i : Bytes) (ht : t < 255) : HandsOver c (startImage c t i) :=
  (show HandsOver c (setCore (setCore c t _) t _) from ⟨rfl, rfl, rfl, fun _ _ _ _ _ _ => rfl⟩).trans
    (handsOver_setCoreState _ 2 ht)

theorem handsOver_switchCore (c : Chip) {slot t : Nat} (ht : t < 255) : HandsOver c (switchCore c slot t) := by
  unfold switchCore
  split
  · exact .refl c
  · rename_i i _
    split
    · exact .refl c
    · split
      · exact ((handsOver_startImage c i ht).trans (handsOver_setCoreState _ 4 ht)).trans
          ⟨rfl, rfl, rfl, fun _ _ _ _ _ _ => rfl⟩
      · exact handsOver_startImage c i ht

theorem handsOver_measure (c : Chip) {mr slot kind : Nat} (hm : mr < 255) : HandsOver c (measure c mr slot kind) := by
  unfold measure
  split
  · exact ⟨rfl, rfl, rfl, fun _ _ hk _ h _ => odN_odSetB _ _ _ _ _ _ (by omega) hk (Or.inl h)⟩
  · exact .refl c

theorem handsOver_switchKind1 (c : Chip) (slot : Nat) : HandsOver c (switchKind1 c slot) := by
  have key : HandsOver c (odSet c 0x04002 0 (bootKeyIndex c slot)) :=
    ⟨rfl, rfl, rfl, fun _ _ hk h _ _ => odN_odSet_ne _ _ _ _ _ _ (by omega) hk (Or.inl h)⟩
  refine (key.trans (handsOver_measure (mr := 1) (slot := slot) (kind := 1) _ (by decide))).trans ?_
  exact foldl_rel HandsOver .refl (fun _ _ _ => .trans) _ _
    (fun b t ht => handsOver_switchCore b (by have := List.mem_range.1 ht; omega)) _

theorem handsOver_switchRest (c : Chip) (slot : Nat) : HandsOver c (switchRest c slot) := by
  have cores (b : Chip) : HandsOver b ((List.range 8).foldl (fun s i => switchCore s slot (16 + i)) b) :=
    foldl_rel HandsOver .refl (fun _ _ _ => .trans) _ _
      (fun b t ht => handsOver_switchCore b (by have := List.mem_range.1 ht; omega)) _
  exact ((((handsOver_measure c (by decide)).trans (handsOver_switchCore _ (by decide))).trans
    (handsOver_measure _ (by decide))).trans (cores _)).trans (handsOver_measure _ (by decide))

/-- The objects of a slot that takes over, or is taken back. -/
theorem slotShown (c : Chip) (slot version : Nat) :
    odN (odSet (odSet c 0x01005 0 slot) 0x00006 0 version) 0x01005 0 = slot
      ∧ odN (odSet (odSet c 0x01005 0 slot) 0x00006 0 version) 0x00006 0 = version :=
  ⟨by rw [odN_odSet_ne _ _ _ _ _ _ (by decide) (by decide) (by decide), odN_odSet_same], odN_odSet_same _ _ _ _⟩

/-- Kind 1 is handed over first. -/
theorem actFwActivate_verified {c : Chip} {rq : Rq} {arg : Bytes} (calm : poweringDown c = false)
    (verified : odN c 0x04063 0 = 4) : ∃ b, actFwActivate c rq arg = acted b ∧ odN b 0x04063 0 = 5
      ∧ b.sec.fw = { c.sec.fw with
          stage := 1, kind1At := c.tb.ns, healthy := false, oldVersion := odN c 0x00006 0, oldSecurity := c.sec.fw.runSecurity } := by
  have ready : ¬ fwStatus c ≠ 4 := not_not.2 verified
  refine ⟨_, (if_neg (ne_true_of_eq_false calm)).trans (if_neg ready), ?_⟩
  obtain ⟨sec, -, -, objects⟩ := handsOver_switchKind1 (setFwStatus (fwMod c (fun f => { f with
    stage := 1, kind1At := nowNs c, healthy := false, oldVersion := odN c 0x00006 0, oldSecurity := f.runSecurity })) 5)
    c.sec.fw.slot
  exact ⟨(objects _ _ (by decide) (by decide) (by decide) (by decide)).trans (odN_odSet_same _ _ _ _),
    congrArg Security.fw sec⟩

/-- What the end of a handover of every kind leaves, before the settlement. -/
theorem switchRest_shows {c : Chip} (slot version : Nat) (f : Fw → Fw) :
    let b := fwMod (odSet (odSet (switchRest c slot) 0x01005 0 slot) 0x00006 0 version) f
    odN b 0x01005 0 = slot ∧ odN b 0x00006 0 = version ∧ b.sec.fw = f c.sec.fw :=
  ⟨(slotShown _ slot version).1, (slotShown _ slot version).2,
    congrArg (fun x : Security => f x.fw) (handsOver_switchRest c slot).1⟩

/-- Kinds 2 to 4 follow. -/
theorem fwActivated_runs {c : Chip} (running : c.sec.fw.stage = 1) : ∃ b, fwActivated c = fwSettle (raise b ⟨0x040B, 0⟩ c.sec.fw.version)
    ∧ odN b 0x01005 0 = c.sec.fw.slot ∧ odN b 0x00006 0 = c.sec.fw.version
    ∧ b.sec.fw = { c.sec.fw with stage := 4, runSecurity := c.sec.fw.secVersion } := by
  have sec : (switchRest c c.sec.fw.slot).sec = c.sec := (handsOver_switchRest c c.sec.fw.slot).1
  have shows := switchRest_shows (c := c) c.sec.fw.slot (switchRest c c.sec.fw.slot).sec.fw.version
    (fun f => { f with stage := 4, runSecurity := f.secVersion })
  have acts : fwActivated c = fwSettle (raise (fwMod (odSet (odSet (switchRest c c.sec.fw.slot) 0x01005 0 c.sec.fw.slot)
      0x00006 0 (switchRest c c.sec.fw.slot).sec.fw.version) (fun f => { f with stage := 4, runSecurity := f.secVersion }))
      ⟨0x040B, 0⟩ (switchRest c c.sec.fw.slot).sec.fw.version) := if_neg (not_not.2 running)
  rw [sec] at acts shows
  exact ⟨_, acts, shows⟩

/-- What kind 1's restoration, and the others' where they ran, leaves to the rest of a rollback. -/
theorem handsOver_restored (c : Chip) (old : Nat) (whole : Bool) :
    HandsOver c (if whole then switchRest (switchKind1 c old) old else switchKind1 c old) := by
  split
  · exact (handsOver_switchKind1 c old).trans (handsOver_switchRest _ old)
  · exact handsOver_switchKind1 c old

/-- The previous images are restored. -/
theorem fwRestore_runs {c : Chip} (running : c.sec.fw.stage ≠ 0) : ∃ b, fwRestore c = raise b ⟨0x040C, 3⟩ c.sec.fw.version
    ∧ odN b 0x04063 0 = 7 ∧ odN b 0x01005 0 = 1 - c.sec.fw.slot ∧ odN b 0x00006 0 = c.sec.fw.oldVersion
    ∧ b.sec.fw = { c.sec.fw with stage := 0, verified := false, runSecurity := c.sec.fw.oldSecurity } := by
  let old := 1 - c.sec.fw.slot
  let y := if (c.sec.fw.stage == 4) = true then switchRest (switchKind1 c old) old else switchKind1 c old
  have sec : y.sec = c.sec := (handsOver_restored c old (c.sec.fw.stage == 4)).1
  have acts : fwRestore c = raise (setFwStatus (fwMod (odSet (odSet y 0x01005 0 old) 0x00006 0 y.sec.fw.oldVersion)
      (fun f => { f with stage := 0, verified := false, runSecurity := f.oldSecurity })) 7) ⟨0x040C, 3⟩ y.sec.fw.version :=
    if_neg running
  obtain ⟨slot, version⟩ := slotShown y old y.sec.fw.oldVersion
  rw [sec] at acts slot version
  refine ⟨_, acts, odN_odSet_same _ _ _ _, ?_, ?_, congrArg (fun x : Security => ({ x.fw with
    stage := 0, verified := false, runSecurity := x.fw.oldSecurity } : Fw)) sec⟩
  · exact (odN_odSet_ne _ _ _ _ _ _ (by decide) (by decide) (by decide)).trans slot
  · exact (odN_odSet_ne _ _ _ _ _ _ (by decide) (by decide) (by decide)).trans version

/-! ### The commit -/

/-- The first 28 bytes of a descriptor (Table 6-6), which its CRC covers. -/
def descBody (seq slot sub va vb minSecurity : Nat) : Bytes :=
  leBytes 4 0x5344464E ++ leBytes 4 seq ++ leBytes 1 slot ++ leBytes 1 sub ++ zeros 2 ++ leBytes 4 va ++ leBytes 4 vb
    ++ leBytes 4 minSecurity ++ zeros 4

theorem fld_whole (n v : Nat) : fld (leBytes n v) 0 n = v % 256 ^ n := by
  rw [← List.append_nil (leBytes n v), fld_front]

/-- The fields of a new descriptor (Table 6-6). -/
theorem newDesc_fields (c : Chip) (seq slot version n : Nat) (hq : seq < 2 ^ 32) (hn : n < 2 ^ 32) :
    let d := newDesc c seq slot version n
    descValid d = true ∧ fld d 4 4 = seq ∧ fld d 8 1 = slot % 256 ∧ fld d 20 4 = n := by
  intro d
  obtain ⟨sub, va, vb, shape⟩ : ∃ sub va vb, d = descBody seq slot sub va vb n ++ leBytes 4 (crc32 (descBody seq slot sub va vb n)) :=
    ⟨_, _, _, rfl⟩
  have len : (descBody seq slot sub va vb n).length = 28 := by simp [descBody, zeros, leBytes_length]
  rw [shape]
  refine ⟨?_, ?_, ?_, ?_⟩
  · rw [descValid, Bool.and_eq_true, beq_iff_eq, beq_iff_eq, fld_left _ _ _ _ (by omega), fld_skip _ _ _ _ len.symm,
      List.take_left' len, fld_whole]
    refine ⟨?_, Nat.mod_eq_of_lt (crc32_lt _)⟩
    simp only [descBody, List.append_assoc]
    exact fld_front _ _ _
  · rw [fld_left _ _ _ _ (by omega)]
    simp only [descBody, List.append_assoc]
    rw [fld_skip _ _ _ _ (by rw [leBytes_length]), fld_front]
    exact Nat.mod_eq_of_lt hq
  · rw [fld_left _ _ _ _ (by omega)]
    simp only [descBody, List.append_assoc]
    rw [← List.append_assoc (leBytes 4 _) (leBytes 4 seq), fld_skip _ _ _ _ (by simp [leBytes_length]), fld_front]
    rfl
  · rw [fld_left _ _ _ _ (by omega)]
    unfold descBody
    rw [fld_left _ _ _ _ (by simp [zeros, leBytes_length]), fld_skip _ _ _ _ (by simp [zeros, leBytes_length]), fld_whole]
    exact Nat.mod_eq_of_lt hn

/-- The flash of a block whose inputs of MR5 are noted. -/
theorem noteSecurity_flash (a b : Chip) : (noteSecurity a b).flash = b.flash := by
  unfold noteSecurity
  split <;> rfl

/-- A commit writes the copy that is not in use. -/
theorem actFwCommit_runs {c : Chip} {rq : Rq} {arg : Bytes} {k : Nat} (calm : poweringDown c = false)
    (idle : fwStatus c ≠ 5) (up : devState c ≠ 5) (low : minSec c ≤ leNat arg) (high : leNat arg ≤ c.sec.fw.runSecurity)
    (fits : leNat arg < 2 ^ 32) (used : descUsed c = some k) (hk : k ≤ 1) :
    let seq := (fld (descCopy c k) 4 4 + 1) % 2 ^ 32
    ∃ b d, actFwCommit c rq arg = acted (raise b ⟨0x040D, 0⟩ seq) ∧ descCopy b (1 - k) = d
      ∧ descCopy b k = descCopy c k ∧ descValid d = true ∧ fld d 4 4 = seq ∧ fld d 8 1 = odN c 0x01005 0 % 256
      ∧ fld d 20 4 = leNat arg := by
  intro seq
  let d := newDesc c seq (odN c 0x01005 0) (odN c 0x00006 0) (leNat arg)
  let x := if 1 - k = 0 then { c with flash := { c.flash with descA := d } } else { c with flash := { c.flash with descB := d } }
  have acts : actFwCommit c rq arg = acted (raise (noteSecurity c x) ⟨0x040D, 0⟩ seq) := by
    unfold actFwCommit commitCopy
    simp only [used, beq_eq_false_iff_ne.2 up, Bool.false_eq_true, if_false, calm, idle, or_self, false_and]
    exact if_neg (not_or.2 ⟨Nat.not_lt.2 low, Nat.not_lt.2 high⟩)
  have copies : descCopy (noteSecurity c x) (1 - k) = d ∧ descCopy (noteSecurity c x) k = descCopy c k := by
    unfold descCopy
    rw [noteSecurity_flash]
    obtain rfl | rfl : k = 0 ∨ k = 1 := by omega
    · exact ⟨rfl, rfl⟩
    · exact ⟨rfl, rfl⟩
  obtain ⟨valid, hseq, hslot, hmin⟩ := newDesc_fields c seq (odN c 0x01005 0) (odN c 0x00006 0) (leNat arg)
    (Nat.mod_lt _ (by decide)) fits
  exact ⟨_, d, acts, copies.1, copies.2, valid, hseq, hslot, hmin⟩

theorem firmwareActivation : Claim.FirmwareActivation := by
  intro s rq arg c fw
  refine ⟨?_, ?_, ?_, ?_, ?_, ?_, ?_⟩
  · intro acc calm verified
    obtain ⟨b, acts, shows⟩ := actFwActivate_verified (rq := rq) (arg := arg) calm verified
    exact ⟨b, actionRow_acks _ _ _ _ _ _ acc acts, shows⟩
  · intro stage ill
    obtain ⟨b, acts, slot, version, state⟩ := fwActivated_runs (c := c) stage
    have waits : fwSettle (raise b ⟨0x040B, 0⟩ fw.version) = raise b ⟨0x040B, 0⟩ fw.version := by
      refine if_neg (fun h => ?_)
      have : b.sec.fw.healthy = false := by rw [state]; exact ill
      exact absurd (h.2.symm.trans this) (by decide)
    exact ⟨b, congrArg (becomes s) (acts.trans waits), slot, version, state⟩
  · intro stage well
    obtain ⟨b, acts, slot, version, state⟩ := fwActivated_runs (c := c) stage
    have settles : fwSettle (raise b ⟨0x040B, 0⟩ fw.version)
        = setFwStatus (fwMod (raise b ⟨0x040B, 0⟩ fw.version) (fun f => { f with stage := 0 })) 6 := by
      refine if_pos (show b.sec.fw.stage = 4 ∧ b.sec.fw.healthy = true from ?_)
      rw [state]
      exact ⟨rfl, well⟩
    refine ⟨_, congrArg (becomes s) (acts.trans settles), odN_odSet_same _ _ _ _, ?_, ?_⟩
    · rw [setFwStatus, odN_odSet_ne _ _ _ _ _ _ (by decide) (by decide) (by decide)]
      exact (odN_raise b _ _ _ _ (by decide) (by decide)).trans slot
    · exact congrArg (fun f : Fw => { f with stage := 0 }) state
  · intro stage soon
    have stands : ¬ (fw.stage = 0 ∨ fw.kind1At + ms 500 < nowNs c) := by
      rw [stage]
      exact not_or.2 ⟨by decide, Nat.not_lt.2 soon⟩
    have waits : ¬ (fw.stage = 4 ∧ true = true) := by simp [stage]
    exact congrArg (becomes s) ((if_neg stands).trans (if_neg waits))
  · intro stage soon
    have stands : ¬ (fw.stage = 0 ∨ fw.kind1At + ms 500 < nowNs c) := by
      rw [stage]
      exact not_or.2 ⟨by decide, Nat.not_lt.2 soon⟩
    have settles : fw.stage = 4 ∧ true = true := ⟨stage, rfl⟩
    exact congrArg (becomes s) ((if_neg stands).trans (if_pos settles))
  · intro ill stage late
    obtain ⟨b, acts, shows⟩ := fwRestore_runs (c := c) stage
    have due : ¬ (fw.healthy = true ∨ nowNs c < fw.kind1At + ms 500) :=
      not_or.2 ⟨ne_true_of_eq_false ill, Nat.not_lt.2 late⟩
    exact ⟨b, congrArg (becomes s) ((if_neg due).trans acts), shows⟩
  · intro k acc calm idle up low high fits used hk seq
    obtain ⟨b, d, acts, shows⟩ := actFwCommit_runs (rq := rq) (arg := arg) calm idle up low high fits used hk
    exact ⟨b, d, actionRow_acks _ _ _ _ _ _ acc acts, shows⟩

/-- Settles O35: each step of an update as the model runs it, a handover leaving the update's own state and objects alone. -/
theorem firmwareUpdate : Obligations.FirmwareUpdate := ⟨firmwareBundles, firmwareActivation⟩

/-! ### SPDM -/

/-- A signed answer to GET_MEASUREMENTS for one register. -/
theorem getMeasurements_signed (s : State) (index : Nat) (nonce : Bytes) (served : spdmServed s.chip = true)
    (key : s.chip.sec.identity = true) (low : 1 ≤ index) (high : index ≤ 16) : ∃ own, own.length = 32
    ∧ exec (.getMeasurements index true nonce) s = becomes s (spdmAnswer { s.chip with free := s.chip.free + 1 } 0x60 0
      ((odB s.chip 0x04010 index ++ own) ++ signBytes (leBytes 1 s.chip.sec.spdmVersion
        ++ (nonce ++ (odB s.chip 0x04010 index ++ own))))) := by
  refine ⟨(spdmNonce s.chip).1, leBytes_length _ _, congrArg (becomes s) ((if_pos served).trans ?_)⟩
  have signs : ¬ (true = true ∧ (!s.chip.sec.identity) = true) := by rw [key]; decide
  refine (if_neg signs).trans ((if_neg (by omega)).trans ?_)
  simp only [show index ≠ 0 by omega, show index ≠ 0xFF by omega, if_false, if_true, spdmSign, List.append_assoc]
  rfl

/-- Settles O36: the responder answers each request as its definition says, once it is served. -/
theorem spdmAnswersThroughPf0 : Obligations.SpdmAnswersThroughPf0 := by
  intro s index slot offset len code nonce enabled phase up power4 c reply chain mrs
  have served : spdmServed c = true := by
    rw [spdmServed, show hostLinkUp c 0 = true from up, show phase5 c = true from phase]
    simp only [Bool.and_eq_true, beq_iff_eq, bne_iff_ne]
    exact ⟨⟨⟨enabled, trivial⟩, trivial⟩, power4⟩
  have takes (f : Chip → Chip) : becomes s (spdm c f) = becomes s (f c) := congrArg (becomes s) (if_pos served)
  refine ⟨takes _, ?_, ?_, takes _, takes _, ?_, ?_, ?_, ?_, ?_, ?_, ?_, ?_, ?_, takes _⟩
  · intro h
    exact (takes _).trans (congrArg (becomes s) (if_pos h))
  · intro h h'
    exact (takes _).trans (congrArg (becomes s) (if_neg (not_or.2 ⟨h, h'⟩)))
  · intro room
    exact ⟨_, rfl, (takes _).trans (congrArg (becomes s) (if_neg (not_or.2 ⟨not_not.2 rfl, Nat.not_le.2 room⟩)))⟩
  · intro h
    exact (takes _).trans (congrArg (becomes s) (if_pos (Or.inl h)))
  · intro key
    refine ⟨(spdmNonce c).1, _, leBytes_length _ _, rfl, (takes _).trans (congrArg (becomes s) ?_)⟩
    exact (if_neg (by simp [show c.sec.identity = true from key])).trans (if_neg (not_not.2 rfl))
  · intro gone
    have bare : (!c.sec.identity) = true := by rw [show c.sec.identity = false from gone]; rfl
    exact ⟨(takes _).trans (congrArg (becomes s) (if_pos bare)),
      (takes _).trans (congrArg (becomes s) (if_pos ⟨rfl, bare⟩))⟩
  · exact takes _
  · intro low high
    refine (takes _).trans (congrArg (becomes s) ?_)
    refine (if_neg (fun h => absurd h.1 (by decide))).trans ((if_neg (by omega)).trans ?_)
    simp only [show index ≠ 0 by omega, show index ≠ 0xFF by omega, if_false, Bool.false_eq_true]
    rfl
  · intro key low high
    obtain ⟨own, len, acts⟩ := getMeasurements_signed s index nonce served key low high
    exact ⟨own, _, len, rfl, acts⟩
  · exact takes _
  · intro l p out
    have stands : c.out.reverse.find? Output.isSpdm = some (.spdm code p nonce) := by
      rw [out, List.reverse_append]
      rfl
    refine (takes _).trans (congrArg (becomes s) ?_)
    simp only [stands]
    rfl

/-! ### The test access port -/

/-- The block with the debug access in the instruction register and the port's status bit clear. -/
def tapOpened (c : Chip) : Chip := { c with sec := { c.sec with tapIr := 8, tapStatus := false } }

/-- A port with VAON, above E3, is not off. -/
theorem tapOff_not {c : Chip} (on : power c < 3) (fed : c.boot.vaon = true) : ¬ (power c = 4 ∨ (!c.boot.vaon) = true) :=
  not_or.2 ⟨by omega, by rw [fed]; decide⟩

/-- A port with VAON, above E3, loads its instruction register. -/
theorem tapLoad_on {c : Chip} (on : power c < 3) (fed : c.boot.vaon = true) (n : Nat) :
    tapLoad c n = { c with sec := { c.sec with tapIr := n } } :=
  if_neg (tapOff_not on fed)

theorem tapRefused_on {c : Chip} (on : power c < 3) (fed : c.boot.vaon = true) :
    tapRefused c = odInc { c with sec := { c.sec with tapIr := 0 } } 0x05007 0 := by
  rw [← tapLoad_on on fed]
  exact if_neg (tapOff_not on fed)

/-- An access that is not allowed is refused. -/
theorem tapDebug_refused {c : Chip} {op : TapOp} (on : power c < 3) (fed : c.boot.vaon = true) (no : tapAllowed c op = false) :
    tapDebug c op = tapRefused c :=
  (if_neg (tapOff_not on fed)).trans (if_pos (by rw [no]; rfl))

/-- An access that is allowed, to a block with power, is carried out. -/
theorem tapDebug_access {c : Chip} {op : TapOp} (on : power c < 3) (fed : c.boot.vaon = true) (yes : tapAllowed c op = true)
    (powered : tapPowered c op = true) : tapDebug c op = tapAccess (tapOpened c) op := by
  unfold tapDebug
  have still : tapPowered { c with sec := { c.sec with tapIr := 8 } } op = true := by
    rw [← powered]
    rfl
  rw [if_neg (tapOff_not on fed), if_neg (by rw [yes]; decide), tapLoad_on on fed]
  exact if_neg (by rw [still]; decide)

/-- An access to a core within reach of the debug state. -/
theorem tapDebug_core {c : Chip} {op : TapOp} {t : Nat} (on : power c < 3) (fed : c.boot.vaon = true)
    (target : tapTarget op = some t) (small : t < 24) (debug : dbgState c = 2 ∨ dbgState c = 1 ∧ 4 ≤ t)
    (lit : t < 16 ∨ dieLit c ((t - 16) / 2) = true) : tapDebug c op = tapAccess (tapOpened c) op := by
  refine tapDebug_access on fed ?_ ?_
  · simp only [tapAllowed, target, small, decide_true, Bool.true_and, Bool.or_eq_true, Bool.and_eq_true, beq_iff_eq,
      decide_eq_true_eq]
    exact debug
  · simp only [tapPowered, target, show power c ≠ 3 by omega, if_false, Bool.or_eq_true, decide_eq_true_eq]
    exact lit

/-- An access to a unit on no array die, in DBG-FULL. -/
theorem tapDebug_engine {c : Chip} {u : Nat} (on : power c < 3) (fed : c.boot.vaon = true) (full : dbgState c = 2)
    (ok : unitOk u = true) (nowhere : unitDie u = none) : tapDebug c (.engine u) = tapAccess (tapOpened c) (.engine u) := by
  refine tapDebug_access on fed ?_ ?_
  · simp [tapAllowed, tapTarget, ok, full]
  · simp only [tapPowered, tapTarget, nowhere, Option.all_none, Bool.and_true, bne_iff_ne]
    omega

/-- A running core is halted. -/
theorem tapHalt_running {c : Chip} {t : Nat} (running : coreState c t = 2) : coreState (tapHalt c t) t = 5
    ∧ coreOf (tapHalt c t) t = { coreOf c t with wait := .none } ∧ (tapHalt c t).sec.dbgHalted = c.sec.dbgHalted ++ [t] := by
  rw [tapHalt, if_pos (Or.inl running)]
  have state : coreState (setCoreState (setCore c t { coreOf c t with wait := .none }) t 5) t = 5 := odN_odSet_same _ _ _ _
  exact ⟨state, coreOf_setCore_same _ _ _, rfl⟩

/-- A halted core goes on. -/
theorem resumeCore_halted {c : Chip} {t : Nat} (halted : coreState c t = 5) : coreState (resumeCore c t) t = 2
    ∧ (resumeCore c t).sec.dbgHalted = c.sec.dbgHalted.filter (fun x => x != t) := by
  have acts : resumeCore c t = setCoreState { c with sec := { c.sec with dbgHalted := c.sec.dbgHalted.filter (· != t) } } t 2 :=
    if_pos halted
  rw [acts]
  exact ⟨odN_odSet_same _ _ _ _, rfl⟩

/-- Settles O37: what each instruction loads, when it is refused, and what a debug access within reach does. -/
theorem testPortInstructions : Obligations.TestPortInstructions := by
  intro s t v r fed on c load opened refused reach core gives
  have on : power c < 3 := on
  have loads (n : Nat) : becomes s (tapLoad c n) = becomes s (load c n) := congrArg (becomes s) (tapLoad_on on fed n)
  have refuses : becomes s (tapRefused c) = refused := congrArg (becomes s) (tapRefused_on on fed)
  have acts {op : TapOp} (target : tapTarget op = some t) (h : reach) :
      becomes s (tapDebug c op) = becomes s (tapAccess (opened c) op) :=
    congrArg (becomes s) (tapDebug_core on fed target h.1 h.2.1 h.2.2)
  refine ⟨loads 0, loads 2, ?_, ?_, ?_, ?_, ?_, ?_, ?_, ?_, ?_⟩
  · refine congrArg (becomes s) ((if_neg (tapOff_not on fed)).trans ?_)
    rw [tapLoad_on on fed]
    rfl
  · intro low
    have pin (n : Nat) : becomes s (tapBoundary c n) = becomes s (load c n) :=
      (congrArg (becomes s) (if_pos low)).trans (loads n)
    exact ⟨pin 3, pin 4, pin 5, pin 6, pin 7⟩
  · intro high
    have pin (n : Nat) : becomes s (tapBoundary c n) = refused :=
      (congrArg (becomes s) (if_neg (ne_true_of_eq_false high))).trans refuses
    exact ⟨pin 3, pin 4, pin 5, pin 6, pin 7⟩
  · intro closed
    refine (congrArg (becomes s) (tapDebug_refused on fed ?_)).trans refuses
    simp [tapAllowed, tapTarget, dbgState, show odN c 0x05001 0 = 0 from closed]
  · intro h
    refine ⟨acts rfl h, acts rfl h, acts rfl h, acts rfl h, ⟨_, acts rfl h, ar_setA_same _ _ _, ?_, rfl⟩,
      ⟨_, acts rfl h, dr_setD_same _ _ _, ?_, rfl⟩⟩
    · exact fun y hy => ar_setA_other _ _ _ _ hy
    · exact fun y hy => dr_setD_other _ _ _ _ hy
  · intro h running
    exact ⟨_, acts rfl h, tapHalt_running (c := opened c) running⟩
  · intro h halted mem
    have on_list : ((opened c).sec.dbgHalted.contains t) = true := List.contains_iff_mem.2 mem
    exact ⟨_, (acts (op := .resume t) rfl h).trans (congrArg (becomes s) (if_pos on_list)),
      resumeCore_halted (c := opened c) halted⟩
  · intro full
    refine ⟨_, congrArg (becomes s) (tapDebug_access on fed ?_ rfl)⟩
    exact beq_iff_eq.2 full
  · intro full ok nowhere
    exact ⟨_, congrArg (becomes s) (tapDebug_engine on fed full ok nowhere)⟩

end Sys2Proof.Machine
end

/-! ## Platforms, granules and mailboxes (10) -/
section
namespace Sys2Proof.Machine

/-! ### Platforms -/

theorem odN_odSetBit_ne (c : Chip) (o k i : Nat) (v : Bool) (o' k' : Nat) (hk : k < 256) (hk' : k' < 256)
    (h : o' ≠ o ∨ k' ≠ k) : odN (odSetBit c o k i v) o' k' = odN c o' k' := odN_odSet_ne _ _ _ _ _ _ hk hk' h

/-- A platform's state is shown in its object and in OD 10.001. -/
theorem setPlatState_shows (c : Chip) (p v : Nat) : odN (setPlatState c p v) (0x10040 + p) 0 = v
    ∧ bit (odN (setPlatState c p v) 0x10001 0) p = (v == 1)
    ∧ Keeps c (setPlatState c p v) [(0x10040 + p, 0), (0x10001, 0)] := by
  refine ⟨?_, ?_, ?_⟩
  · rw [setPlatState, odN_odSetBit_ne _ _ _ _ _ _ _ (by decide) (by decide) (by omega), odN_odSet_same]
  · rw [setPlatState, bit_odSetBit, if_pos rfl]
  · exact ((Keeps.refl c _).set _ _ _ (by decide) (by simp)).setBit _ _ _ _ (by decide) (by simp)

/-- The start of a reset of a platform that is ENABLED or FAILED. -/
theorem resetStart_spec {c : Chip} {p : Nat} (disable : Bool) (hp : p < 64) (on : platState c p = 1 ∨ platState c p = 3) :
    let b := resetStart c p disable
    odN b (0x10040 + p) 0 = 2 ∧ bit (odN b 0x10001 0) p = false
      ∧ odN b (0x10100 + p) 0 = (odN c (0x10100 + p) 0 + 1) % 2 ^ 32
      ∧ Keeps c b [(0x10040 + p, 0), (0x10001, 0), (0x10100 + p, 0)]
      ∧ b = { c with od := b.od, plats := { c.plats with resetting := tput c.plats.resetting p disable } } := by
  intro b
  have acts : b = { raiseEpoch (setPlatState c p 2) p with plats := { c.plats with
      resetting := tput c.plats.resetting p disable } } := if_neg (by omega)
  obtain ⟨state, listed, frame⟩ := setPlatState_shows c p 2
  have epoch : odN (setPlatState c p 2) (0x10100 + p) 0 = odN c (0x10100 + p) 0 :=
    frame.num _ _ (by decide) (by simp; omega)
  have other (o k : Nat) (hk : k < 256) (h : o ≠ 0x10100 + p) : odN b o k = odN (setPlatState c p 2) o k := by
    rw [acts]
    exact odN_odSet_ne _ _ _ _ _ _ (by decide) hk (Or.inl h)
  refine ⟨?_, ?_, ?_, ?_, ?_⟩
  · rw [other _ _ (by decide) (by omega), state]
  · rw [other _ _ (by decide) (by omega), listed]
    rfl
  · rw [acts]
    refine (odN_odSet_same _ _ _ _).trans ?_
    rw [epoch]
  · rw [acts]
    exact (((keeps_mono _ _ _ _ frame (by simp)).inc (0x10100 + p) 0 (by decide) (by simp))).congr rfl
  · rw [acts]
    rfl

/-- The first platform enabled takes the device to SERVING. -/
def serves (c : Chip) : Chip := if devState c = 2 then phaseBegins (odSet c 0x01001 0 3) 6 else c

theorem serves_shows {c : Chip} (up : phase5 c = true) : odN (serves c) 0x01001 0 = 3
    ∧ Keeps c (serves c) [(0x01001, 0), (0x01002, 0), (0x01003, 6)] ∧ serves c = { c with od := (serves c).od } := by
  unfold serves
  split
  · refine ⟨?_, ?_, rfl⟩
    · rw [phaseBegins, odN_odSet_ne _ _ _ _ _ _ (by decide) (by decide) (by decide),
        odN_odSetBit_ne _ _ _ _ _ _ _ (by decide) (by decide) (by decide), odN_odSet_same]
    · exact ((((Keeps.refl c _).set _ _ _ (by decide) (by simp)).setBit _ _ _ _ (by decide) (by simp)).set _ _ _
        (by decide) (by simp))
  · rename_i later
    simp only [phase5, Bool.or_eq_true, beq_iff_eq] at up
    exact ⟨up.resolve_left later, .refl c _, rfl⟩

/-- A platform that may be enabled is. -/
theorem actPlatEnable_runs {c : Chip} {rq : Rq} {arg : Bytes} {p : Nat} (hp : p < 64) (at_ : fld arg 0 1 = p)
    (off : platState c p = 0) (up : phase5 c = true) (released : perstOn c (hostPort c p) = false)
    (fn : vfEnabled c (hostPort c p) (vfNumber c p) = true) (place : placeTaken c p = false) (root : rootOk c p = true) :
    actPlatEnable c rq arg = acted (raiseP (serves (setPlatState (raiseEpoch c p) p 1)) ⟨0x1000, 0⟩ p
      (platEpoch (serves (setPlatState (raiseEpoch c p) p 1)) p)) := by
  have fits : ¬ 64 ≤ p := by omega
  simp only [actPlatEnable, at_, fits, off, up, released, fn, place, root, if_false, Bool.not_true, Bool.false_eq_true,
    or_self, ne_eq, not_true_eq_false, show ¬ (0 : Nat) = 2 by decide]
  rfl

/-- What enabling a platform leaves. -/
theorem platEnabled_shows {c : Chip} {p : Nat} (hp : p < 64) (up : phase5 c = true) :
    let b := serves (setPlatState (raiseEpoch c p) p 1)
    odN b (0x10040 + p) 0 = 1 ∧ bit (odN b 0x10001 0) p = true
      ∧ odN b (0x10100 + p) 0 = (odN c (0x10100 + p) 0 + 1) % 2 ^ 32 ∧ odN b 0x01001 0 = 3
      ∧ Keeps c b [(0x10040 + p, 0), (0x10001, 0), (0x10100 + p, 0), (0x01001, 0), (0x01002, 0), (0x01003, 6)]
      ∧ b = { c with od := b.od } := by
  intro b
  have raised : Keeps c (raiseEpoch c p) [(0x10100 + p, 0)] := (Keeps.refl c _).inc _ _ (by decide) (by simp)
  obtain ⟨state, listed, shown⟩ := setPlatState_shows (raiseEpoch c p) p 1
  have still : phase5 (setPlatState (raiseEpoch c p) p 1) = true := by
    rw [← up, phase5, phase5, devState, devState, shown.num _ _ (by decide) (by simp; omega),
      raised.num _ _ (by decide) (by simp; omega)]
  obtain ⟨serving, frame, rest⟩ := serves_shows still
  refine ⟨?_, ?_, ?_, serving, ?_, ?_⟩
  · exact (frame.num _ _ (by decide) (by simp; omega)).trans state
  · exact (congrArg (bit · p) (frame.num _ _ (by decide) (by simp))).trans listed
  · refine (frame.num _ _ (by decide) (by simp; omega)).trans ?_
    rw [shown.num _ _ (by decide) (by simp; omega)]
    exact odN_odSet_same _ _ _ _
  · refine keeps_mono _ _ _ _ (keeps_trans _ _ _ _ _ (keeps_trans _ _ _ _ _ raised shown) frame) fun x hx => ?_
    simp only [List.mem_append, List.mem_cons, List.not_mem_nil, or_false] at hx ⊢
    tauto
  · exact rest

/-! ### The end of a reset -/

theorem dropWindow_frame (c : Chip) (p t w : Nat) : (dropWindow c p t w).plats = c.plats ∧ (dropWindow c p t w).rdma = c.rdma := by
  simp only [dropWindow]
  split <;> exact ⟨rfl, rfl⟩

theorem dropWindows_frame (c : Chip) (p : Nat) : (dropWindows c p).plats = c.plats ∧ (dropWindows c p).rdma = c.rdma :=
  ⟨foldl_keeps Chip.plats _ _ (fun b t _ => foldl_keeps Chip.plats _ _ (fun x w _ => (dropWindow_frame x p t w).1) b) c,
    foldl_keeps Chip.rdma _ _ (fun b t _ => foldl_keeps Chip.rdma _ _ (fun x w _ => (dropWindow_frame x p t w).2) b) c⟩

theorem zeroiseSlot_frame (c : Chip) (slot : Nat) : (zeroiseSlot c slot).plats = c.plats ∧ (zeroiseSlot c slot).rdma = c.rdma := by
  unfold zeroiseSlot
  dsimp only
  split <;> exact ⟨rfl, rfl⟩

theorem zeroiseSlots_frame (c : Chip) (p : Nat → Bool) :
    (zeroiseSlots c p).plats = c.plats ∧ (zeroiseSlots c p).rdma = c.rdma :=
  ⟨foldl_keeps Chip.plats _ _ (fun b k _ => (zeroiseSlot_frame b k).1) c,
    foldl_keeps Chip.rdma _ _ (fun b k _ => (zeroiseSlot_frame b k).2) c⟩

/-- After steps 3 to 5 the platform's mailbox is off and none of its completion queues is left. -/
theorem platClear_spec (c : Chip) (p : Nat) : mbxOf (platClear c p) p = Mbx.off
    ∧ (platClear c p).rdma.cqs.all (fun q => q.2.owner != p) = true := by
  unfold platClear
  dsimp only
  generalize rdmaPlatReset _ p = x
  refine ⟨?_, ?_⟩
  · rw [mbxOf, (zeroiseSlots_frame _ _).1, (dropWindows_frame _ _).1]
    exact tget_tput_same _ _ _ _
  · rw [(zeroiseSlots_frame _ _).2, (dropWindows_frame _ _).2]
    exact List.all_eq_true.2 fun q hq => (List.mem_filter.1 hq).2

/-- Every granule of the platform goes; the mailboxes stay. -/
theorem reclaimAll_spec (c : Chip) (p : Nat) : (reclaimAll c p).plats = { c.plats with
    owner := c.plats.owner.filter (fun o => o.2 != p) } := by
  unfold reclaimAll
  dsimp only
  rw [zeroRanges_frame (fun g => g * granule) granule]
  split <;> rfl

/-- Step 6 of Table 10-8, or the end of PLAT_DISABLE, after the engines' parts: the reset is no longer listed, and the state
is shown with its event. -/
def resetEnds (c : Chip) (p : Nat) (disable : Bool) : Chip :=
  let b := { c with plats := { c.plats with resetting := tdel c.plats.resetting p } }
  if disable then
    let b := setPlatState (reclaimAll b p) p 0
    raiseP b evPlatDisabled p (platEpoch b p)
  else
    let b := setPlatState b p 1
    raiseP b evPlatResetDone p (platEpoch b p)

theorem platResetDone_eq {c : Chip} {p : Nat} (hp : p < 64) (runs : platState c p = 2) :
    platResetDone c p = resetEnds (platClear c p) p (tget false c.plats.resetting p) := by
  unfold platResetDone resetEnds
  exact if_neg (by omega)

/-- A reset that ends enables the platform again. -/
theorem resetEnds_reset (c : Chip) (p : Nat) : ∃ b, resetEnds c p false = raiseP b ⟨0x1002, 0⟩ p (platEpoch b p)
    ∧ platState b p = 1 ∧ bit (odN b 0x10001 0) p = true ∧ mbxOf b p = mbxOf c p ∧ b.rdma = c.rdma := by
  let y := { c with plats := { c.plats with resetting := tdel c.plats.resetting p } }
  obtain ⟨state, listed, -⟩ := setPlatState_shows y p 1
  exact ⟨setPlatState y p 1, rfl, state, listed, rfl, rfl⟩

/-- A reset that ends a disable gives up the platform's granules. -/
theorem resetEnds_disable (c : Chip) (p : Nat) : ∃ b, resetEnds c p true = raiseP b ⟨0x1001, 0⟩ p (platEpoch b p)
    ∧ platState b p = 0 ∧ bit (odN b 0x10001 0) p = false ∧ mbxOf b p = mbxOf c p
    ∧ b.plats.owner.all (fun o => o.2 != p) = true := by
  let y := { c with plats := { c.plats with resetting := tdel c.plats.resetting p } }
  have plats : (setPlatState (reclaimAll y p) p 0).plats = { y.plats with owner := y.plats.owner.filter (fun o => o.2 != p) } :=
    reclaimAll_spec y p
  obtain ⟨state, listed, -⟩ := setPlatState_shows (reclaimAll y p) p 0
  refine ⟨setPlatState (reclaimAll y p) p 0, rfl, state, listed, ?_, ?_⟩
  · rw [mbxOf, plats]
    rfl
  · rw [plats]
    exact List.all_eq_true.2 fun q hq => (List.mem_filter.1 hq).2

theorem platforms : Claim.Platforms := by
  intro s rq arg p hp c st epoch shown gone
  have refused : ¬ (64 ≤ p ∨ st c = 0) ↔ st c ≠ 0 := by omega
  refine ⟨?_, ?_, ?_, ?_, ?_, ?_, ?_⟩
  · intro acc at_ off up released fn place root
    exact ⟨_, actionRow_acks _ _ _ _ _ _ acc (actPlatEnable_runs hp at_ off up released fn place root), platEnabled_shows hp up⟩
  · intro acc at_ on
    refine ⟨_, actionRow_acks _ _ _ _ _ _ acc ?_, resetStart_spec false hp on⟩
    subst at_
    exact (if_neg (refused.2 (by omega))).trans (if_neg (show ¬ st c = 2 by omega))
  · intro fn on
    have acts : (if p < 64 ∧ hasFn c p = true then resetStart c p false else c) = resetStart c p false := if_pos ⟨hp, fn⟩
    exact ⟨_, congrArg (becomes s) acts, resetStart_spec false hp on⟩
  · intro acc at_ on
    refine ⟨_, actionRow_acks _ _ _ _ _ _ acc ?_, resetStart_spec true hp on⟩
    subst at_
    exact (if_neg (refused.2 (by omega))).trans (if_neg (show ¬ st c = 2 by omega))
  · intro acc at_ busy
    refine actionRow_refuses _ _ _ _ _ [] _ 6 acc (by decide) (by decide) ?_
    subst at_
    exact (if_neg (refused.2 (by omega))).trans (if_pos busy)
  · intro runs reset
    obtain ⟨b, ends, state, listed, mailbox, queues⟩ := resetEnds_reset (platClear c p) p
    obtain ⟨off, none_left⟩ := platClear_spec c p
    have acts : platResetDone c p = raiseP b ⟨0x1002, 0⟩ p (platEpoch b p) := by
      rw [platResetDone_eq hp runs, reset, ends]
    exact ⟨b, congrArg (becomes s) acts, state, listed, mailbox.trans off, by rw [queues, none_left]⟩
  · intro runs disable
    obtain ⟨b, ends, state, listed, mailbox, owners⟩ := resetEnds_disable (platClear c p) p
    have acts : platResetDone c p = raiseP b ⟨0x1001, 0⟩ p (platEpoch b p) := by
      rw [platResetDone_eq hp runs, disable, ends]
    exact ⟨b, congrArg (becomes s) acts, state, listed, mailbox.trans (platClear_spec c p).1, owners⟩

/-! ### Granules and invalidations -/

/-- Records kept by their number: a number that is kept reads as before, one that is not reads as unlisted. -/
theorem tget?_filter_key {α : Type} (t : Table α) (keep : Nat → Bool) (x : Nat) :
    tget? (t.filter (fun e => keep e.1)) x = if keep x then tget? t x else none := by
  induction t with
  | nil => simp
  | cons e r ih =>
    obtain ⟨k, v⟩ := e
    simp only [List.filter_cons]
    by_cases hk : keep k = true
    · rw [if_pos hk, tget?, tget?, ih]
      by_cases same : k = x
      · rw [if_pos same, if_pos same, ← same, if_pos hk]
      · rw [if_neg same, if_neg same]
    · rw [if_neg hk, ih, tget?]
      by_cases same : k = x
      · rw [← same, if_neg hk, if_neg hk]
      · rw [if_neg same]

/-- A run of numbers given one value. -/
theorem tget?_run {α : Type} (t : Table α) (g n : Nat) (v : α) (x : Nat) :
    tget? ((List.range n).foldl (fun o i => tput o (g + i) v) t) x = if g ≤ x ∧ x < g + n then some v else tget? t x := by
  induction n with
  | zero => rw [List.range_zero, List.foldl_nil, if_neg (by omega)]
  | succ n ih =>
    rw [List.range_succ, List.foldl_append, List.foldl_cons, List.foldl_nil]
    by_cases last : x = g + n
    · rw [last, tget?_tput_same, if_pos (by omega)]
    · rw [tget?_tput_other _ _ _ _ last, ih]
      by_cases inside : g ≤ x ∧ x < g + n
      · rw [if_pos inside, if_pos (by omega)]
      · rw [if_neg inside, if_neg (by omega)]

/-- Zeroed memory reads as zero. -/
theorem memRead_memZero (m : Memory) (a n x k : Nat) (h : a ≤ x) (h' : x + k ≤ a + n) : memRead (memZero m a n) x k = zeros k := by
  have zero (i : Nat) (hi : i < k) : memGet (memZero m a n) (x + i) = 0 := by
    have := tget?_filter_key m (fun y => decide (y < a) || decide (a + n ≤ y)) (x + i)
    rw [if_neg (by simp; omega)] at this
    rw [memGet, tget, memZero, this]
    rfl
  refine List.ext_getElem (by simp [memRead, zeros]) fun i h1 _ => ?_
  simp only [memRead, List.length_map, List.length_range] at h1
  simp [memRead, zeros, zero i h1]

/-- An invalidation that completes. -/
theorem invalDone_spec (c : Chip) (i : Inval) : ∃ b, invalDone c i = raiseP b ⟨0x1006, 0⟩ i.plat (odN b 0x10011 0)
    ∧ odN b 0x10011 0 = (odN c 0x10011 0 + 1) % 2 ^ 32 ∧ b.plats.invals = c.plats.invals
    ∧ (∀ a e, (2 ^ 36 * i.plat + a, e) ∈ b.plats.tlb → a < 2 ^ 36 →
        ¬ (i.pages = 0 ∨ i.base / 4096 ≤ a ∧ a < i.base / 4096 + i.pages))
    ∧ Keeps c b [(0x10011, 0)] := by
  refine ⟨odInc (dropTlb c i.plat i.base i.pages) 0x10011 0, rfl, odN_odSet_same _ _ _ _, rfl, ?_,
    ((Keeps.refl c _).congr (b' := dropTlb c i.plat i.base i.pages) rfl).inc _ _ (by decide) (by simp)⟩
  intro a e mem small hit
  have kept : (!((2 ^ 36 * i.plat + a) / 2 ^ 36 == i.plat && (i.pages == 0 || (decide (2 ^ 36 * i.plat + i.base / 4096 ≤
      2 ^ 36 * i.plat + a) && decide (2 ^ 36 * i.plat + a < 2 ^ 36 * i.plat + i.base / 4096 + i.pages))))) = true :=
    (List.mem_filter.1 mem).2
  have mine : (2 ^ 36 * i.plat + a) / 2 ^ 36 = i.plat := by
    rw [Nat.mul_add_div (by decide), Nat.div_eq_of_lt small, Nat.add_zero]
  simp only [mine, beq_self_eq_true, Bool.true_and, Bool.not_eq_true', Bool.or_eq_false_iff, beq_eq_false_iff_ne,
    Bool.and_eq_false_iff, decide_eq_false_iff_not] at kept
  omega

/-- An invalidation that finds room waits. -/
theorem actXlateInvalidate_waits {c : Chip} {rq : Rq} {arg : Bytes} (hp : fld arg 0 1 < 64) (rsv : fld arg 1 3 = 0)
    (page : fld arg 8 8 % 4096 = 0) (low : fld arg 8 8 < 2 ^ 48) (room : c.plats.invals.length < 4)
    (on : platState c (fld arg 0 1) ≠ 0) : actXlateInvalidate c rq arg = acted (odSet { c with plats := { c.plats with
      invals := c.plats.invals ++ [⟨fld arg 0 1, fld arg 4 4, fld arg 8 8⟩] } } 0x10012 0 (c.plats.invals.length + 1)) := by
  unfold actXlateInvalidate
  dsimp only
  rw [if_neg (by omega), if_neg (by omega), if_neg on, List.length_append]
  rfl

/-- A run of free granules of one kind is granted. -/
theorem actGranuleGrant_free {c : Chip} {rq : Rq} {arg : Bytes} {p : Nat} (aligned : fld arg 0 8 % 2097152 = 0)
    (some_ : 0 < fld arg 8 4) (at_ : fld arg 12 1 = p) (hp : p < 64) (rsv : fld arg 13 3 = 0)
    (low : fld arg 0 8 + fld arg 8 4 * 2097152 ≤ 2 ^ 48)
    (free : ∀ k, k < fld arg 8 4 → granuleFree c (fld arg 0 8 / 2097152 + k) = true
      ∧ granKind (fld arg 0 8 / 2097152 + k) = granKind (fld arg 0 8 / 2097152)
      ∧ bankAt c ((fld arg 0 8 / 2097152 + k) * 2097152) = none) :
    actGranuleGrant c rq arg = acted { c with plats := { c.plats with
      owner := (List.range (fld arg 8 4)).foldl (fun o i => tput o (fld arg 0 8 / 2097152 + i) p) c.plats.owner } } := by
  have all : (List.range (fld arg 8 4)).all (fun i => granuleFree c (fld arg 0 8 / granule + i)
      && granKind (fld arg 0 8 / granule + i) == granKind (fld arg 0 8 / granule)
      && (bankAt c ((fld arg 0 8 / granule + i) * granule)).isNone) = true := by
    refine List.all_eq_true.2 fun k hk => ?_
    obtain ⟨h1, h2, h3⟩ := free k (List.mem_range.1 hk)
    rw [h1, h2, h3, beq_self_eq_true]
    rfl
  unfold actGranuleGrant
  dsimp only
  rw [all, at_]
  exact (if_neg (show ¬ (fld arg 0 8 % 2097152 ≠ 0 ∨ fld arg 8 4 = 0 ∨ 64 ≤ p ∨ fld arg 13 3 ≠ 0
    ∨ 2 ^ 48 < fld arg 0 8 + fld arg 8 4 * 2097152) by omega)).trans (if_neg (by decide))

/-- A run of which no granule is being reclaimed is reclaimed. -/
theorem actGranuleReclaim_starts {c : Chip} {rq : Rq} {arg : Bytes} (aligned : fld arg 0 8 % 2097152 = 0)
    (some_ : 0 < fld arg 8 4) (low : fld arg 0 8 + fld arg 8 4 * 2097152 ≤ 2 ^ 48)
    (memory : granKind (fld arg 0 8 / 2097152) ≠ 6)
    (still : ∀ k, k < fld arg 8 4 → reclaiming c (fld arg 0 8 / 2097152 + k) = false) :
    actGranuleReclaim c rq arg = acted (reclaimStart c (fld arg 0 8) (fld arg 8 4)
      (runOwner c (fld arg 0 8 / 2097152) (fld arg 8 4))) := by
  have idle : (List.range (fld arg 8 4)).any (fun i => reclaiming c (fld arg 0 8 / granule + i)) = false := by
    refine List.any_eq_false.2 fun k hk => ?_
    exact ne_true_of_eq_false (still k (List.mem_range.1 hk))
  unfold actGranuleReclaim
  dsimp only
  rw [idle]
  have fits : ¬ (fld arg 0 8 % 2097152 ≠ 0 ∨ fld arg 8 4 = 0 ∨ 2 ^ 48 < fld arg 0 8 + fld arg 8 4 * 2097152
      ∨ granKind (fld arg 0 8 / 2097152) = 6) := by omega
  exact (if_neg fits).trans (if_neg (by decide))

/-- The owners of a run are gone at once, those of the other granules are as before. -/
theorem reclaimStart_owner (c : Chip) (base n p x : Nat) : tget? (reclaimStart c base n p).plats.owner x
    = if base / 2097152 ≤ x ∧ x < base / 2097152 + n then none else tget? c.plats.owner x := by
  refine (tget?_filter_key c.plats.owner (fun y => !(decide (base / 2097152 ≤ y) && decide (y < base / 2097152 + n))) x).trans ?_
  by_cases inside : base / 2097152 ≤ x ∧ x < base / 2097152 + n
  · rw [if_pos inside, if_neg (by simp [inside])]
  · rw [if_neg inside, if_pos]
    simp only [Bool.not_eq_true', Bool.and_eq_false_imp, decide_eq_true_eq, decide_eq_false_iff_not]
    omega

theorem granules : Claim.Granules := by
  intro s rq arg i rest r more c base n g
  refine ⟨?_, ?_, ?_, ?_, ?_, ?_⟩
  · rintro acc rfl hp rsv page low room on
    refine ⟨_, actionRow_acks _ _ _ _ _ _ acc (actXlateInvalidate_waits hp rsv page low room on), rfl, odN_odSet_same _ _ _ _, ?_⟩
    exact ((Keeps.refl c _).congr rfl).set _ _ _ (by decide) (by simp)
  · intro acc hp rsv page low full
    refine actionRow_refuses _ _ _ _ _ [] _ 6 acc (by decide) (by decide) ?_
    have fits : ¬ (64 ≤ fld arg 0 1 ∨ fld arg 1 3 ≠ 0 ∨ fld arg 8 8 % 4096 ≠ 0 ∨ 2 ^ 48 ≤ fld arg 8 8) := by omega
    exact (if_neg fits).trans (if_pos full)
  · intro pending
    let x := odSet { c with plats := { c.plats with invals := rest } } 0x10012 0 rest.length
    have acts : exec .invalDone s = becomes s (invalDone x i) := by
      show becomes s (match c.plats.invals with
        | [] => c
        | i :: r => invalDone (odSet { c with plats := { c.plats with invals := r } } 0x10012 0 r.length) i) = _
      rw [pending]
    have start : Keeps c x [(0x10012, 0)] := ((Keeps.refl c _).congr rfl).set _ _ _ (by decide) (by simp)
    obtain ⟨b, ends, count, left, dropped, frame⟩ := invalDone_spec x i
    rw [ends] at acts
    refine ⟨b, acts, ?_, ?_, left, dropped, ?_⟩
    · rw [count, start.num _ _ (by decide) (by simp)]
    · exact (frame.num _ _ (by decide) (by simp)).trans (odN_odSet_same _ _ _ _)
    · exact keeps_mono _ _ _ _ (keeps_trans _ _ _ _ _ start frame) (by simp)
  · intro p acc aligned pos at_ hp rsv low free
    refine ⟨_, actionRow_acks _ _ _ _ _ _ acc (actGranuleGrant_free aligned pos at_ hp rsv low free), fun k hk => ?_,
      fun x hx => ?_, rfl⟩
    · exact (tget?_run _ _ _ _ _).trans (if_pos (by omega))
    · exact (tget?_run _ _ _ _ _).trans (if_neg (by omega))
  · intro acc aligned pos low memory still
    refine ⟨_, _, actionRow_acks _ _ _ _ _ _ acc (actGranuleReclaim_starts aligned pos low memory still), fun k hk => ?_,
      fun x hx => ?_, rfl, rfl⟩
    · exact (reclaimStart_owner _ _ _ _ _).trans (if_pos (by omega))
    · exact (reclaimStart_owner _ _ _ _ _).trans (if_neg (by omega))
  · intro runs done
    have acts : exec .granuleReclaimed s = becomes s (reclaimEnd c r) := by
      show becomes s (match c.plats.reclaiming with
        | [] => c
        | r :: _ => if r.plat < 64 ∧ platState c r.plat = 2 then c else reclaimEnd c r) = _
      rw [runs]
      exact congrArg (becomes s) (if_neg (fun h => done.elim (by omega) (· h.2)))
    refine ⟨_, acts, ?_, fun a k h h' => ?_⟩
    · show c.plats.reclaiming.erase r = more
      rw [runs, List.erase_cons_head]
    · exact memRead_memZero _ _ _ _ _ h h'

/-- Settles O39: platforms by their state and epoch, granules by their owners, invalidations by what is left of the cache. -/
theorem platformsAndGranules : Obligations.PlatformsAndGranules := ⟨platforms, granules⟩

end Sys2Proof.Machine
end

/-! ## Mailboxes (10 R281 to R285) -/
section
namespace Sys2Proof.Machine

/-- The gate of a platform does not depend on what its mailbox holds. -/
theorem gateClosed_setMbx (c : Chip) (m : Nat) (x : Mbx) : gateClosed (setMbx c m x) m = gateClosed c m := rfl

@[simp] theorem mbxOf_setMbx_same (c : Chip) (m : Nat) (x : Mbx) : mbxOf (setMbx c m x) m = x := tget_tput_same _ _ _ _

/-- A mailbox that is not running takes no event. -/
theorem evtPump_stopped {c : Chip} {m : Nat} (h : (mbxOf c m).state ≠ 1) : evtPump c m = c := if_pos (Or.inl h)

/-- Nothing is fetched beyond the doorbell. -/
theorem mbxFetch_reached {c : Chip} {m : Nat} (h : (mbxOf c m).head = (mbxOf c m).db) (k : Nat) : mbxFetch c m k = c := by
  cases k with
  | zero => rfl
  | succ k => exact if_pos (Or.inr (Or.inr (Or.inl h)))

/-- The one descriptor up to the doorbell is fetched. -/
theorem mbxFetch_one {c y : Chip} {m k : Nat} {bytes : Bytes} {x : Mbx} (now : mbxOf c m = x) (runs : x.state = 1)
    (open_ : gateClosed c m = false) (more : x.head ≠ x.db)
    (waits : (c.sl.waiting.filter (fun q => q.1.path == mbxPath m)).length < 8) (none_yet : x.fetched = [])
    (free : ansFree x ≠ 0) (reads : mbxRead c m (x.reqBase + 64 * (x.head % mbxEntries x)) 64 = ⟨0, bytes, 64, y⟩)
    (after : mbxOf y m = x) (next : (x.head + 1) % 65536 = x.db) :
    mbxFetch c m (k + 1) = setMbx y m { x with head := x.db, fetched := [bytes] } := by
  have still : ¬ (x.state ≠ 1 ∨ gateClosed c m = true ∨ x.head = x.db
      ∨ 8 ≤ (c.sl.waiting.filter (fun q => q.1.path == mbxPath m)).length + (unprocessed x).length ∨ ansFree x = 0) := by
    rw [unprocessed, none_yet, open_, List.filter_nil, List.length_nil]
    simp only [runs, more, free, ne_eq, not_true_eq_false, false_or, or_false, Bool.false_eq_true]
    omega
  rw [mbxFetch]
  dsimp only
  rw [now, if_neg still, reads, if_neg (not_not.2 rfl), after, next, none_yet]
  exact mbxFetch_reached (by rw [mbxOf_setMbx_same]) k

/-- A doorbell within the ring. -/
theorem mbxDoorbell_fetches {c : Chip} {m idx : Nat} (open_ : gateClosed c m = false) (runs : (mbxOf c m).state = 1)
    (within : ¬ mbxEntries (mbxOf c m) < (idx + 65536 - (mbxOf c m).head) % 65536) :
    mbxDoorbell c m idx = mbxFetch (setMbx c m { mbxOf c m with db := idx % 65536 }) m 8 := by
  unfold mbxDoorbell
  rw [if_neg (by rw [open_]; decide), if_neg (not_not.2 runs)]
  exact if_neg within

/-- A mailbox in error takes nothing more and says so once. -/
theorem mbxError_spec (c : Chip) (m cause : Nat) : ∃ b, evtPump (mbxError c m cause) m
      = raiseP b ⟨0x1005, 1⟩ (if m < 64 then m else 0xFF) cause ∧ mbxOf b m = { mbxOf c m with state := 2 }
    ∧ (m < 64 → odN b (0x10180 + m) 4 = (odN c (0x10180 + m) 4 + 1) % 2 ^ 32 ∧ Keeps c b [(0x10180 + m, 4)]) := by
  let b := platCount (setMbx c m { mbxOf c m with state := 2 }) m 4
  have plats : b.plats = (setMbx c m { mbxOf c m with state := 2 }).plats := by
    show (platCount _ m 4).plats = _
    unfold platCount
    split <;> rfl
  have box : mbxOf b m = { mbxOf c m with state := 2 } := by
    rw [mbxOf, plats]
    exact mbxOf_setMbx_same _ _ _
  refine ⟨b, evtPump_stopped ?_, box, fun hm => ?_⟩
  · show (mbxOf b m).state ≠ 1
    rw [box]
    exact (by decide : (2 : Nat) ≠ 1)
  · have counts : b = odInc (setMbx c m { mbxOf c m with state := 2 }) (0x10180 + m) 4 := if_pos hm
    rw [counts]
    exact ⟨odN_odSet_same _ _ _ _, ((Keeps.refl c _).congr rfl).inc _ _ (by decide) (by simp)⟩

/-- A base register of a mailbox that is neither enabled nor running takes an aligned value. -/
theorem mbxBase_written {c : Chip} {m : Nat} (y : Mbx) (v : Nat) (disabled : (mbxOf c m).enable = false) (aligned : v % 4096 = 0)
    (stopped : y.state ≠ 1) : evtPump (if ((mbxOf c m).enable || !(v % 4096 == 0)) = true then mbxDiscard c m else setMbx c m y) m
      = setMbx c m y := by
  rw [disabled, aligned, if_neg (by decide)]
  exact evtPump_stopped (by rwa [mbxOf_setMbx_same])

theorem mailboxRegisters : Claim.MailboxRegisters := by
  intro s m idx y bytes hm alive gate c x set
  have bar (f : Chip → Chip) : (if m ≤ 64 then mbxBar c m f else c) = f c := (if_pos hm).trans (if_neg (ne_true_of_eq_false alive))
  have open_ : ¬ gateClosed c m = true := ne_true_of_eq_false gate
  refine ⟨?_, ?_, ?_, ?_, ?_, ?_⟩
  · intro runs small next none_yet waits free reads after
    have within : ¬ mbxEntries x < (idx + 65536 - x.head) % 65536 := by
      have : 0 < mbxEntries x := Nat.two_pow_pos _
      omega
    have fetch : mbxFetch (setMbx c m { x with db := idx }) m 8 = setMbx y m { x with db := idx, head := idx, fetched := [bytes] } :=
      mbxFetch_one (x := { x with db := idx }) (mbxOf_setMbx_same _ _ _) runs gate (show x.head ≠ idx by omega) waits none_yet free
        reads after next.symm
    have rings : mbxDoorbell c m idx = setMbx y m { x with db := idx, head := idx, fetched := [bytes] } := by
      rw [mbxDoorbell_fetches gate runs within, Nat.mod_eq_of_lt small]
      exact fetch
    refine congrArg (becomes s) ((bar _).trans ?_)
    exact congrArg (evtPump · m) rings
  · intro runs beyond
    have rings : mbxDoorbell c m idx = mbxError c m 1 := (if_neg open_).trans ((if_neg (not_not.2 runs)).trans (if_pos beyond))
    obtain ⟨b, acts, shows⟩ := mbxError_spec c m 1
    exact ⟨b, congrArg (becomes s) ((bar _).trans ((congrArg (evtPump · m) rings).trans acts)), shows⟩
  · intro disabled
    have starts : mbxRegWrite c m 0x1C 1 = set c { x with
        enable := true, state := 1, db := 0, head := 0, ansHead := 0, ansProd := 0, evtHead := 0, evtProd := 0,
        fwdHead := 0, fwdProd := 0, fetched := [] } :=
      (if_neg open_).trans ((if_neg (by decide)).trans (if_neg (ne_true_of_eq_false disabled)))
    exact congrArg (becomes s) ((bar _).trans (congrArg (evtPump · m) starts))
  · have stops : mbxRegWrite c m 0x1C 0 = set c { x with enable := false, state := 0, fetched := [] } :=
      (if_neg open_).trans (if_pos (by decide))
    have none_due : evtPump (set c { x with enable := false, state := 0, fetched := [] }) m
        = set c { x with enable := false, state := 0, fetched := [] } :=
      evtPump_stopped (by rw [show mbxOf (set c _) m = _ from mbxOf_setMbx_same _ _ _]; exact (by decide : (0 : Nat) ≠ 1))
    exact congrArg (becomes s) ((bar _).trans ((congrArg (evtPump · m) stops).trans none_due))
  · intro v disabled stopped aligned
    have written (z : Mbx) (hz : z.state ≠ 1) := mbxBase_written (c := c) (m := m) z v disabled aligned hz
    refine ⟨?_, ?_, ?_⟩
    · exact congrArg (becomes s) ((bar _).trans ((congrArg (evtPump · m) (if_neg open_)).trans (written { x with reqBase := v } stopped)))
    · exact congrArg (becomes s) ((bar _).trans ((congrArg (evtPump · m) (if_neg open_)).trans (written { x with ansBase := v } stopped)))
    · exact congrArg (becomes s) ((bar _).trans ((congrArg (evtPump · m) (if_neg open_)).trans (written { x with evtBase := v } stopped)))
  · exact congrArg (becomes s) ((bar _).trans (congrArg (evtPump · m) (if_neg open_)))

/-! ### Messages -/

/-- The oldest descriptor not yet processed, of the row's DEST, is carried out, and fetching goes on. -/
theorem mbxNext_dest {c : Chip} {m dest : Nat} {d : Bytes} (f : Chip → Bytes → Chip) (runs : (mbxOf c m).state = 1)
    (gate : gateClosed c m = false) (oldest : (unprocessed (mbxOf c m)).head? = some d) (good : badDesc m d = false)
    (hd : fld d 2 1 = dest) : mbxNext c m dest f = mbxFetch (f c d) m 8 := by
  unfold mbxNext
  dsimp only
  rw [if_neg (by rw [runs, gate]; decide), oldest]
  dsimp only
  rw [good, if_neg (by decide), if_pos hd]

theorem mailboxMessages : Claim.MailboxMessages := by
  intro s m d r w hm runs gate oldest good c next mgr
  have carried (dest : Nat) (f : Chip → Bytes → Chip) (hd : fld d 2 1 = dest) :
      (if m ≤ 64 then mbxNext c m dest f else c) = mbxFetch (f c d) m 8 :=
    (if_pos hm).trans (mbxNext_dest f runs gate oldest good hd)
  refine ⟨?_, ?_, ?_, ?_, ?_⟩
  · intro hd reads done
    have request : mbxOdRequest c m d = (if m < 64 ∧ platState (mbxMark r.s m d (fld r.bytes 4 2)) m = 0 then
        sendAnswer (mbxMark r.s m d (fld r.bytes 4 2)) ⟨mbxPath m, fld r.bytes 4 2, 0, false, false⟩ (some (fld r.bytes 2 1))
          ⟨eNotReady, 0, []⟩ else intakeLocal (mbxMark r.s m d (fld r.bytes 4 2)) (mbxPath m) r.bytes) := by
      unfold mbxOdRequest
      dsimp only
      rw [reads, if_neg (not_not.2 done)]
    have acts := carried 0 (fun c d => mbxOdRequest c m d) hd
    refine ⟨fun serves => ?_, fun low off => ?_⟩
    · refine congrArg (becomes s) (acts.trans (congrArg (mbxFetch · m 8) (request.trans (if_neg ?_))))
      rintro ⟨low, off⟩
      exact serves.elim (by omega) (· off)
    · exact congrArg (becomes s) (acts.trans (congrArg (mbxFetch · m 8) (request.trans (if_pos ⟨low, off⟩))))
  · intro hd on absent
    have acts : mbxToManager c m d = mbxReply c m d 1 0 :=
      (if_neg (fun h => on.elim (by omega) (· h.2))).trans (if_pos absent)
    exact congrArg (becomes s) ((carried 1 _ hd).trans (congrArg (mbxFetch · m 8) acts))
  · intro hd on present room writes done
    have space : ¬ fwdEntries (mbxOf c 64) ≤ ((mbxOf c 64).fwdProd + 65536 - (mbxOf c 64).fwdHead) % 65536 := Nat.not_le.2 room
    have forwards : mbxWrite c 64 ((mbxOf c 64).fwdBase + 64 * ((mbxOf c 64).fwdProd % fwdEntries (mbxOf c 64)))
        (ringEntry c m (mbxOf c 64).fwdProd (fwdEntries (mbxOf c 64)) 2 0 (fld d 4 2) (slice d 8 8) (slice d 16 (fld d 4 2))
          (if m < 64 then m else 0xFF)) = w := writes
    have acts : mbxToManager c m d = mbxReply (mbxMsix
        (setMbx w.s 64 { mbxOf w.s 64 with fwdProd := (mgr.fwdProd + 1) % 65536 }) 64 (mgr.vec % 65536)) m d 0 0 := by
      unfold mbxToManager
      rw [if_neg (fun h => on.elim (by omega) (· h.2)), if_neg (ne_true_of_eq_false present)]
      dsimp only
      rw [if_neg space, forwards, if_neg (not_not.2 done)]
    exact congrArg (becomes s) ((carried 1 _ hd).trans (congrArg (mbxFetch · m 8) acts))
  · rintro rfl hd off
    have acts : mbxToPlatform c d = mbxReply c 64 d 3 0 := if_pos (by simpa [platOn, platState] using off)
    exact congrArg (becomes s) ((mbxNext_dest _ runs gate oldest good hd).trans (congrArg (mbxFetch · 64 8) acts))
  · rintro rfl hd on target free
    refine ⟨_, rfl, ?_⟩
    have acts : mbxToPlatform c d = mbxReply (ansWrite c (fld d 3 1) 2 0 (fld d 4 2) (slice d 8 8) (slice d 16 (fld d 4 2))) 64 d
        (if (mbxOf (ansWrite c (fld d 3 1) 2 0 (fld d 4 2) (slice d 8 8) (slice d 16 (fld d 4 2))) (fld d 3 1)).state = 1 then 0
          else 5) 0 := by
      have platOn_ : platOn c (fld d 3 1) = true := beq_iff_eq.2 on
      unfold mbxToPlatform
      dsimp only
      rw [platOn_, if_neg (by decide), if_neg (not_or.2 ⟨not_not.2 target, free⟩)]
    exact congrArg (becomes s) ((mbxNext_dest _ runs gate oldest good hd).trans (congrArg (mbxFetch · 64 8) acts))

/-- Settles O40: register writes of a mailbox whose gate is open, and the oldest descriptor by its DEST. -/
theorem mailboxRegistersAndMessages : Obligations.MailboxRegistersAndMessages := ⟨mailboxRegisters, mailboxMessages⟩

end Sys2Proof.Machine
end

/-! ## Functions and links of host, SSD and far-tier ports (11) -/
section
namespace Sys2Proof.Machine

/-! ### Functions -/

/-- The reset of a platform touches the platform's own objects only. -/
theorem resetStart_outside (c : Chip) (p : Nat) (disable : Bool) (small : p < 64) :
    (resetStart c p disable).ports = c.ports
      ∧ ∀ o k, k < 256 → (o < 0x10001 ∨ 0x10140 ≤ o) → odN (resetStart c p disable) o k = odN c o k := by
  unfold resetStart
  split
  · exact ⟨rfl, fun _ _ _ _ => rfl⟩
  · refine ⟨rfl, fun o k hk ho => ?_⟩
    show odN (raiseEpoch (setPlatState c p 2) p) o k = _
    simp (disch := omega) only [raiseEpoch, setPlatState, odInc, odSetBit, odN_odSet_ne]

/-- The VFs of a physical function set: shown, and kept while the platforms that lost theirs are reset. -/
theorem setVfs_spec (c : Chip) (i n : Nat) (on : Bool) (hi : i < 4) :
    odN (setVfs c i on n) 0x11010 (i + 1) = (if on then n else 0)
      ∧ fnOf (setVfs c i on n) i = { fnOf c i with vfEnable := on, numVfs := n } := by
  have resets (l : List Nat) (hl : ∀ p ∈ l, p < 64) (b : Chip) :
      (l.foldl (fun s p => if hasFn s p then s else resetStart s p false) b).ports = b.ports
        ∧ odN (l.foldl (fun s p => if hasFn s p then s else resetStart s p false) b) 0x11010 (i + 1) = odN b 0x11010 (i + 1) := by
    refine ⟨foldl_keeps Chip.ports _ _ (fun x p hp => ?_) b, foldl_keeps (odN · 0x11010 (i + 1)) _ _ (fun x p hp => ?_) b⟩
    · split
      · rfl
      · exact (resetStart_outside x p false (hl p hp)).1
    · split
      · rfl
      · exact (resetStart_outside x p false (hl p hp)).2 _ _ (by omega) (by decide)
  obtain ⟨ports, shown⟩ := resets ((List.range 64).filter (fun p => platOn c p && hasFn c p))
    (fun p hp => List.mem_range.1 (List.mem_filter.1 hp).1)
    (odSet (setFn c i { fnOf c i with vfEnable := on, numVfs := n }) 0x11010 (i + 1) (if on then n else 0))
  refine ⟨shown.trans (odN_odSet_same _ _ _ _), ?_⟩
  unfold setVfs
  dsimp only
  rw [fnOf, ports]
  exact tget_tput_same _ _ _ _

/-- A record written twice under one number is the one written last. -/
theorem tput_tput {α : Type} (t : Table α) (k : Nat) (v w : α) : tput (tput t k v) k w = tput t k w := by
  induction t with
  | nil => simp [tput]
  | cons e r ih =>
    obtain ⟨k', v'⟩ := e
    simp only [tput]
    by_cases before : k < k'
    · simp [before, tput]
    · by_cases same : k' = k
      · simp [same, tput]
      · simp [before, same, tput, ih]

/-- A pending vector unmasked sends its message. -/
theorem msixUnmask_pending {c : Chip} {f vec : Nat} (here : fnPresent c f = true) (known : vec < vectors f)
    (pends : vec ∈ (fnOf c f).pend) (open_ : (fnOf c f).fnMask = false) (master : (fnOf c f).bme = true) :
    msixUnmask c f vec true = emit (setFn c f { fnOf c f with
      unmasked := vec :: (fnOf c f).unmasked.filter (fun v => v != vec), pend := (fnOf c f).pend.filter (fun v => v != vec) })
      (.msix f vec) := by
  have listed : ((fnOf c f).pend.contains vec && !(fnOf c f).fnMask) = true := by
    rw [open_, List.contains_iff_mem.2 pends]
    rfl
  have reads (x : Fn) : fnOf (setFn c f x) f = x := tget_tput_same _ _ _ _
  have twice (x y : Fn) : setFn (setFn c f x) f y = setFn c f y := by
    unfold setFn
    rw [tput_tput]
  unfold msixUnmask
  dsimp only
  rw [if_neg (by rw [here]; simp [known]), if_neg (by decide), listed, if_pos rfl, reads, twice, msix]
  dsimp only
  rw [reads, master, open_, if_neg (by decide), if_neg (by simp)]

/-- A signal doorbell that reaches its engine. -/
theorem dbSig_reaches {c : Chip} {f slot size val o : Nat} (here : fnPresent c f = true) (alive : c.boot.fatal = false)
    (decoded : decodes c f = true) (wide : size = 4 ∨ size = 8) (hs : slot < 512)
    (whose : f = 0 ∧ o = 0xFD ∨ 100 < f ∧ platOfFn c f = some o ∧ platOn c o = true) : dbSig c f slot size val =
      if !bit (dbBinding c o slot) 15 then dbDiscard c f
      else sigAdd c (if o < 64 then .plat o else .opn) (dbBinding c o slot % 4096) (val % 2 ^ 32) := by
  have enters : ¬ ((!fnPresent c f) = true ∨ 0 < f ∧ f < 4) := by
    rw [here]
    simp
    omega
  have wide' : ¬ ((!decodes c f) = true ∨ size ≠ 4 ∧ size ≠ 8) := by
    rw [decoded]
    simp
    omega
  have fits : ¬ ((!([4, 8] : List Nat).contains size) = true ∨ decide (512 ≤ slot) = true) := by
    simp [wide, hs]
  unfold dbSig doorbell
  rw [if_neg enters, if_neg (ne_true_of_eq_false alive), if_neg wide', if_neg fits]
  obtain ⟨rfl, rfl⟩ | ⟨vf, plat, on⟩ := whose
  · rfl
  · rw [if_neg (by omega), plat]
    dsimp only
    rw [if_pos on]

theorem hostFunctions : Claim.HostFunctions := by
  intro s link f slot size val vec p on bar off c x set
  refine ⟨?_, ?_, ?_, ?_, ?_, ?_, ?_, ?_, ?_, ?_⟩
  · intro num small up phase fits
    exact ⟨_, congrArg (becomes s) (if_pos (c := link < 4 ∧ hostLinkUp c link = true ∧ phase5 c = true ∧ num ≤ totalVfs c link)
      ⟨small, up, phase, fits⟩), setVfs_spec c link num on small⟩
  · intro pos small here
    exact ⟨_, congrArg (becomes s) (if_pos (c := 0 < link ∧ link < 4 ∧ fnPresent c link = true) ⟨pos, small, here⟩),
      setVfs_spec c link 0 false small⟩
  · intro here phase
    exact ⟨_, congrArg (becomes s) (if_pos (c := fnPresent c 0 = true ∧ phase5 c = true) ⟨here, phase⟩),
      tget_tput_same _ _ _ _, tget_tput_same _ _ _ _, (Keeps.refl c _).congr rfl⟩
  · intro small here
    exact congrArg (becomes s) (if_pos (c := link < 4 ∧ fnPresent c link = true) ⟨small, here⟩)
  · intro here bad
    have discards : (fnPresent c f && (c.boot.fatal || barBad c f bar off size)) = true := by
      rw [here, Bool.true_and, Bool.or_eq_true]
      exact bad
    exact ⟨_, congrArg (becomes s) (if_pos discards), odN_odSet_same _ _ _ _⟩
  · intro here alive bad
    have discards : (fnPresent c f && (c.boot.fatal || barBad c f bar off size)) = true := by
      rw [here, bad, Bool.true_and, Bool.or_true]
    exact congrArg (becomes s) ((if_pos discards).trans ((if_neg (by decide)).trans (if_neg (ne_true_of_eq_false alive))))
  · intro here vf alive decoded wide hs plat on
    have acts := dbSig_reaches (val := val) here alive decoded wide hs (Or.inr ⟨vf, plat, beq_iff_eq.2 on⟩)
    refine ⟨fun bound hp => ?_, fun unbound => ?_⟩
    · rw [bound, if_neg (by decide), if_pos hp] at acts
      exact congrArg (becomes s) acts
    · rw [unbound, if_pos (by decide)] at acts
      exact congrArg (becomes s) acts
  · intro here alive decoded wide hs bound
    have acts := dbSig_reaches (val := val) here alive decoded wide hs (Or.inl ⟨rfl, rfl⟩)
    rw [bound, if_neg (by decide), if_neg (by decide)] at acts
    exact congrArg (becomes s) acts
  · intro here known pends open_ master
    exact congrArg (becomes s) (msixUnmask_pending here known pends open_ master)
  · intro here known
    have enters : ¬ ((!fnPresent c f) = true ∨ vectors f ≤ vec) := by
      rw [here]
      simp [known]
    exact congrArg (becomes s) ((if_neg enters).trans (if_pos rfl))

/-! ### Links -/

/-- A host link lost from service: its state, its count, and no VF of it. -/
theorem hostLinkLost_counts {c : Chip} {i : Nat} (st : Nat) (hi : i < 4) (up : hostLinkUp c i = true) : ∃ b,
    hostLinkLost c i st = raise b ⟨0x1101, 1⟩ i ∧ odN b 0x11003 (i + 1) = st
      ∧ odN b 0x11060 (i + 1) = (odN c 0x11060 (i + 1) + 1) % 2 ^ 32 ∧ odN b 0x11010 (i + 1) = 0 := by
  let had := (List.range 64).filter (fun p => platOn c p && hasFn c p && linkOfPlat c p == i)
  let lost := odSet { odSet c 0x11003 (i + 1) st with ports := { c.ports with fns := c.ports.fns.filter (fun f =>
    !(f.1 == i || (decide (101 ≤ f.1) && vfLink (odSet c 0x11003 (i + 1) st) (fnPort f.1) (fnVf f.1) == i))) } } 0x11010 (i + 1) 0
  let y := if i = 0 then setMbx (had.foldl (fun s p => resetStart s p false) lost) 64 Mbx.off
    else had.foldl (fun s p => resetStart s p false) lost
  have kept (o k : Nat) (hk : k < 256) (ho : 0x10140 ≤ o) : odN y o k = odN lost o k := by
    have reset : odN (had.foldl (fun s p => resetStart s p false) lost) o k = odN lost o k :=
      foldl_keeps (odN · o k) _ _ (fun b p hp =>
        (resetStart_outside b p false (List.mem_range.1 (List.mem_filter.1 hp).1)).2 o k hk (Or.inr ho)) lost
    show odN (if i = 0 then _ else _) o k = _
    split
    · exact reset
    · exact reset
  have start (o k : Nat) (hk : k < 256) (h : o ≠ 0x11010) : odN lost o k = odN (odSet c 0x11003 (i + 1) st) o k :=
    odN_odSet_ne _ _ _ _ _ _ (by omega) hk (Or.inl h)
  have acts : hostLinkLost c i st = raise (odInc y 0x11060 (i + 1)) ⟨0x1101, 1⟩ i := if_pos up
  refine ⟨odInc y 0x11060 (i + 1), acts, ?_, ?_, ?_⟩
  · rw [odInc, odN_odSet_ne _ _ _ _ _ _ (by omega) (by omega) (by omega), kept _ _ (by omega) (by decide),
      start _ _ (by omega) (by decide), odN_odSet_same]
  · rw [odInc, odN_odSet_same, kept _ _ (by omega) (by decide), start _ _ (by omega) (by decide),
      odN_odSet_ne _ _ _ _ _ _ (by omega) (by omega) (by omega)]
  · rw [odInc, odN_odSet_ne _ _ _ _ _ _ (by omega) (by omega) (by omega), kept _ _ (by omega) (by decide)]
    exact odN_odSet_same _ _ _ _

/-- A host link that trains comes up. -/
theorem hostLinkComesUp_trained {c : Chip} {i width rate : Nat} {flit : Bool} (exists_ : linkExists c i = true)
    (trains : odN c 0x11003 (i + 1) % 4 = 1) (released : perstOn c (i / 2) = false) (pos : 1 ≤ rate)
    (limit : rate ≤ odN c 0x11004 (i / 2 + 1)) (narrow : width ≤ linkWidth c i) : hostLinkComesUp c i width rate flit =
      let b := raise (odSet c 0x11003 (i + 1) (linkWord width rate flit 2)) ⟨0x1100, 0⟩ i
      if width < linkWidth b i ∨ rate < odN b 0x11004 (i / 2 + 1) then raise b ⟨0x1102, 1⟩ (i + width * 256 + rate * 65536) else b := by
  have fits : ¬ ((!linkExists c i) = true ∨ odN c 0x11003 (i + 1) % 4 ≠ 1 ∨ perstOn c (i / 2) = true ∨ rate < 1
      ∨ odN c 0x11004 (i / 2 + 1) < rate ∨ linkWidth c i < width) := by
    rw [exists_, released]
    simp
    omega
  exact if_neg fits

theorem capacity_frame (c : Chip) (v : Nat) : (capacity c 0x01047 v).ports = c.ports ∧ (capacity c 0x01047 v).tb = c.tb
    ∧ ∀ k < 256, odN (capacity c 0x01047 v) 0x11060 k = odN c 0x11060 k := by
  unfold capacity
  split
  · exact ⟨rfl, rfl, fun _ _ => rfl⟩
  · refine ⟨rfl, rfl, fun k hk => ?_⟩
    simp (disch := omega) only [odInc, odN_odSet_ne]

/-- A far port taken out of service, with its capacity. -/
def farLeaves (c : Chip) (p : Nat) : Chip :=
  if c.ports.farOut.contains p then c
  else capacity { c with ports := { c.ports with farOut := c.ports.farOut ++ [p] } } 0x01047
    (odN c 0x01047 0 - tget 0 c.boot.farZeroed p * granule)

theorem farLeaves_spec (c : Chip) (p : Nat) : p ∈ (farLeaves c p).ports.farOut ∧ (farLeaves c p).tb = c.tb
    ∧ ∀ k < 256, odN (farLeaves c p) 0x11060 k = odN c 0x11060 k := by
  unfold farLeaves
  split
  · rename_i listed
    exact ⟨List.contains_iff_mem.1 listed, rfl, fun _ _ => rfl⟩
  · obtain ⟨ports, time, counts⟩ := capacity_frame
      { c with ports := { c.ports with farOut := c.ports.farOut ++ [p] } } (odN c 0x01047 0 - tget 0 c.boot.farZeroed p * granule)
    refine ⟨?_, time, counts⟩
    rw [ports]
    exact List.mem_append_right _ List.mem_cons_self

/-- A far port down with its count, its retry and its event. -/
def farRetries (y : Chip) (p : Nat) : Chip :=
  let b := odInc (odSet y 0x11031 (p + 1) 0) 0x11060 (12 + p + 1)
  setLink b (12 + p) { linkOf b (12 + p) with retryAt := y.tb.ns + 1000000000 }

theorem farRetries_spec (y : Chip) (p : Nat) (hp : p < 4) : odN (farRetries y p) 0x11031 (p + 1) = 0
    ∧ (linkOf (farRetries y p) (12 + p)).retryAt = y.tb.ns + 1000000000
    ∧ odN (farRetries y p) 0x11060 (12 + p + 1) = (odN y 0x11060 (12 + p + 1) + 1) % 2 ^ 32
    ∧ (farRetries y p).ports.farOut = y.ports.farOut := by
  refine ⟨?_, ?_, ?_, rfl⟩
  · show odN (odInc (odSet y 0x11031 (p + 1) 0) 0x11060 (12 + p + 1)) 0x11031 (p + 1) = 0
    rw [odInc, odN_odSet_ne _ _ _ _ _ _ (by omega) (by omega) (by omega), odN_odSet_same]
  · exact congrArg Link.retryAt (tget_tput_same _ _ _ _)
  · show odN (odInc (odSet y 0x11031 (p + 1) 0) 0x11060 (12 + p + 1)) 0x11060 (12 + p + 1) = _
    rw [odInc, odN_odSet_same, odN_odSet_ne _ _ _ _ _ _ (by omega) (by omega) (by omega)]

theorem farDown_eq {c : Chip} {p : Nat} (up : farState c p = 2) :
    farDown c p = raise (farRetries (farLeaves c p) p) ⟨0x1106, 4⟩ (12 + p) := by
  unfold farDown farRetries farLeaves
  exact if_neg (not_not.2 up)

/-- A far port down: out of service, counted, with its retry. -/
theorem farDown_spec {c : Chip} {p : Nat} (hp : p < 4) (up : odN c 0x11031 (p + 1) % 4 = 2) : ∃ b,
    farDown c p = raise b ⟨0x1106, 4⟩ (12 + p) ∧ odN b 0x11031 (p + 1) = 0 ∧ p ∈ b.ports.farOut
      ∧ (linkOf b (12 + p)).retryAt = c.tb.ns + 1000000000
      ∧ odN b 0x11060 (12 + p + 1) = (odN c 0x11060 (12 + p + 1) + 1) % 2 ^ 32 := by
  obtain ⟨out, time, counts⟩ := farLeaves_spec c p
  obtain ⟨state, retry, count, ports⟩ := farRetries_spec (farLeaves c p) p hp
  refine ⟨_, farDown_eq up, state, ?_, ?_, ?_⟩
  · rw [ports]
    exact out
  · rw [retry, time]
  · rw [count, counts _ (by omega)]

theorem portLinks : Claim.PortLinks := by
  intro s i p width rate since cls flit c word up timer
  refine ⟨?_, ?_, ?_, ?_, ?_, ?_⟩
  · intro exists_ trains released pos limit narrow
    have small : i < 4 := by
      simp only [linkExists, Bool.and_eq_true, decide_eq_true_eq] at exists_
      exact exists_.1
    have comes := hostLinkComesUp_trained (flit := flit) exists_ trains released pos limit narrow
    have rates : odN up 0x11004 (i / 2 + 1) = odN c 0x11004 (i / 2 + 1) := by
      refine (odN_raise _ _ _ _ _ (by omega) (Or.inl (by decide))).trans ?_
      exact odN_odSet_ne _ _ _ _ _ _ (by omega) (by omega) (Or.inl (by decide))
    refine ⟨fun full top => congrArg (becomes s) (comes.trans (if_neg ?_)), fun less => congrArg (becomes s) (comes.trans (if_pos (Or.inl less)))⟩
    rintro (less | slow)
    · exact absurd (show width < linkWidth c i from less) (by omega)
    · exact absurd (show rate < odN up 0x11004 (i / 2 + 1) from slow) (by omega)
  · intro small on
    obtain ⟨b, acts, shows⟩ := hostLinkLost_counts 1 small on
    exact ⟨b, congrArg (becomes s) ((if_pos (c := i < 4 ∧ hostLinkUp c i = true) ⟨small, on⟩).trans acts), shows⟩
  · intro small box enabled off due
    let y := drivePerst (setLink c (4 + p) { linkOf c (4 + p) with presentSince := some since }) (4 + p) true
    have acts : exec (.ssdPresenceDetect p since) s = becomes s (odSet y 0x11021 (p + 1) 1) :=
      congrArg (becomes s) (if_pos (c := p < 8 ∧ c.boot.signalBox = true ∧ bit (odN c 0x11020 0) p = true ∧ ssdState c p = 0
        ∧ since + 100000000 ≤ nowNs c) ⟨small, box, enabled, off, due⟩)
    have link : linkOf (odSet y 0x11021 (p + 1) 1) (4 + p)
        = { linkOf (setLink c (4 + p) { linkOf c (4 + p) with presentSince := some since }) (4 + p) with perstN := true } :=
      tget_tput_same _ _ _ _
    have first : linkOf (setLink c (4 + p) { linkOf c (4 + p) with presentSince := some since }) (4 + p)
        = { linkOf c (4 + p) with presentSince := some since } := tget_tput_same _ _ _ _
    refine ⟨_, acts, odN_odSet_same _ _ _ _, ((Keeps.refl c _).congr (b' := y) rfl).set _ _ _ (by omega) (by simp), rfl, ?_, ?_⟩
    · rw [link, first]
    · rw [link]
  · intro small trains pos fast narrow
    have enters : p < 8 ∧ ssdState c p = 1 ∧ 1 ≤ rate ∧ rate ≤ 5 ∧ width ≤ 4 := ⟨small, trains, pos, fast, narrow⟩
    have plain (st : Nat) : linkWord width rate false st = width * 65536 + rate * 256 + st := by simp [linkWord, b2n]
    refine ⟨fun nvme => ?_, fun other => ?_⟩
    · rw [← plain 2]
      exact congrArg (becomes s) ((if_pos enters).trans (if_pos nvme))
    · rw [← plain 3]
      exact congrArg (becomes s) ((if_pos enters).trans (if_neg other))
  · intro small on
    obtain ⟨b, acts, shows⟩ := farDown_spec small on
    exact ⟨b, congrArg (becomes s) ((if_pos small).trans acts), shows⟩
  · intro small off enabled armed due
    exact congrArg (becomes s) (if_pos (c := p < 4 ∧ farState c p < 2 ∧ bit (odN c 0x11030 0) p = true
      ∧ (linkOf c (12 + p)).retryAt ≤ nowNs c ∧ 0 < (linkOf c (12 + p)).retryAt) ⟨small, off, enabled, due, armed⟩)

/-- Settles O41: functions by their records, links by their words, timers and counts. -/
theorem hostFunctionsAndLinks : Obligations.HostFunctionsAndLinks := ⟨hostFunctions, portLinks⟩

end Sys2Proof.Machine
end

/-! ## Scrubbing, migration, remapping and retirement of granules (12 R324 to R332) -/
section
namespace Sys2Proof.Machine

theorem eccSub_lt {a k : Nat} {corrected : Bool} (h : eccSub a corrected = some k) : k < 256 := by
  have region {d : Nat} (hd : regionOf a = .staging d) : d < 5 := by
    unfold regionOf at hd
    split at hd
    · cases hd
    · split at hd
      · cases hd
      · split at hd
        · cases hd
          omega
        · split at hd <;> cases hd
  unfold eccSub at h
  split at h
  · cases h
    split <;> omega
  · cases h
    split <;> omega
  · rename_i d hd
    have := region hd
    cases h
    split <;> omega
  · cases h

/-- One corrected error more of a granule within its day. -/
theorem noteCe_again {c : Chip} {g n t : Nat} (noted : tget? c.mem.ce g = some (n, t)) (today : nowNs c < t + 86400000000000) :
    tget? (noteCe c g).mem.ce g = some (n + 1, t) := by
  have now : tget (0, nowNs c) c.mem.ce g = (n, t) := by rw [tget, noted]; rfl
  unfold noteCe
  rw [now]
  dsimp only
  rw [if_neg (Nat.not_le.2 today)]
  exact tget?_tput_same _ _ _

theorem patrolScrub_corrected {c : Chip} {a k : Nat} (newer : Bool) (h : eccSub a true = some k) :
    patrolScrub c a 1 newer false = noteCe (odInc c 0x40012 k) (a / granule) := by
  unfold patrolScrub
  rw [show ((1 : Nat) == 1) = true from rfl, h]
  rfl

theorem patrolScrub_uncorrectable {c : Chip} {a k : Nat} (h : eccSub a false = some k) :
    patrolScrub c a 2 false false = markPoison (odInc c 0x40012 k) (a / 32 * 32) 32 := by
  unfold patrolScrub
  rw [show ((2 : Nat) == 1) = false from rfl, h]
  rfl

theorem patrolScrub_clean (c : Chip) (a : Nat) (newer : Bool) : patrolScrub c a 0 newer true = odInc c 0x40011 0 := by
  unfold patrolScrub
  cases eccSub a ((0 : Nat) == 1) <;> rfl

/-- A record written is listed. -/
theorem mem_tput_self {α : Type} (t : Table α) (k : Nat) (v : α) : (k, v) ∈ tput t k v := by
  induction t with
  | nil => exact List.mem_cons_self
  | cons e r ih =>
    obtain ⟨k', v'⟩ := e
    simp only [tput]
    split
    · exact List.mem_cons_self
    · split
      · exact List.mem_cons_self
      · exact List.mem_cons_of_mem _ ih

/-- A unit marked is poisoned. -/
theorem poisoned_markPoison (c : Chip) (a : Nat) : poisoned (markPoison c (a / 32 * 32) 32) a 1 = true := by
  have one : markPoison c (a / 32 * 32) 32 = setPoison c (a / 32) true := by
    have count : (a / 32 * 32 + 32 - 1) / 32 + 1 - a / 32 * 32 / 32 = 1 := by omega
    have start : a / 32 * 32 / 32 = a / 32 := by omega
    rw [markPoison, if_neg (by decide), count, start]
    rfl
  rw [one, poisoned, List.any_eq_true]
  exact ⟨(a / 32, true), mem_tput_self _ _ _, by simp⟩

theorem markPoison_frame (c : Chip) (a n : Nat) : (markPoison c a n).od = c.od ∧ (markPoison c a n).mem.dev = c.mem.dev := by
  unfold markPoison
  split
  · exact ⟨rfl, rfl⟩
  · exact ⟨foldl_keeps Chip.od (fun b i => setPoison b (a / 32 + i) true) _ (fun _ _ _ => rfl) c,
      foldl_keeps (fun x : Chip => x.mem.dev) (fun b i => setPoison b (a / 32 + i) true) _ (fun _ _ _ => rfl) c⟩

/-- A granule with a raw granule free moves at once. -/
theorem startMove_free {c y : Chip} {g raw : Nat} (lasting : Bool) (near : nearGranule g = true)
    (used : c.mem.retired.contains g = false) (still : c.mem.migs.any (fun x => x.gran == g) = false)
    (free : takeRaw c = some (raw, y)) :
    startMove c g lasting = { y with mem := { y.mem with migs := y.mem.migs ++ [⟨g, raw, 0⟩] } } := by
  unfold startMove
  rw [if_neg (by rw [near, used, still]; decide), free]

/-- A near granule is one. (The definition is unfolded as a function: its body at `g` is costly for the kernel to compare.) -/
theorem nearGranule_near {g : Nat} (near : regionOf (g * granule) = .near) : nearGranule g = true := by
  have whole (f : Nat → Bool) (hf : f = nearGranule) : f g = true := by
    delta nearGranule at hf
    subst hf
    beta_reduce
    rw [near]
  exact whole _ rfl

/-- Without a raw granule free a lasting fault retires the granule. -/
theorem startMove_none {c : Chip} {g : Nat} (near : nearGranule g = true) (used : c.mem.retired.contains g = false)
    (still : c.mem.migs.any (fun x => x.gran == g) = false) (full : takeRaw c = none) :
    startMove c g true = retireGranule c g := by
  unfold startMove
  rw [if_neg (by rw [near, used, still]; decide), full]
  dsimp only
  rw [if_pos rfl]

/-- Taking a raw granule moves nothing yet. -/
theorem takeRaw_migs {c y : Chip} {raw : Nat} (h : takeRaw c = some (raw, y)) : y.mem.migs = c.mem.migs := by
  unfold takeRaw at h
  split at h
  · cases h
    rfl
  · split at h
    · cases h
      rfl
    · cases h

/-- No chunk more of a granule that is not moving. -/
theorem migs_unmoved {l : List Migration} {g n : Nat} (h : l.any (fun x => x.gran == g) = false) :
    l.map (fun m => if m.gran == g then { m with done := min 1024 (m.done + n) } else m) = l := by
  refine (List.map_congr_left fun m hm => ?_).trans (List.map_id l)
  rw [if_neg (List.any_eq_false.1 h m hm)]
  rfl

/-- Chunks copied of a granule that moves. -/
def copied (c : Chip) (g chunks : Nat) : Chip :=
  { c with mem := { c.mem with
    migs := c.mem.migs.map (fun m => if m.gran == g then { m with done := min 1024 (m.done + chunks) } else m) } }

theorem copied_still {c : Chip} {g n : Nat} (h : c.mem.migs.any (fun x => x.gran == g) = false) : copied c g n = c := by
  unfold copied
  rw [migs_unmoved h]

theorem exec_granuleMigrate (s : State) (g n : Nat) (lasting : Bool) : exec (.granuleMigrate g lasting n) s
    = becomes s (copied (if lasting then startMove s.chip g true else s.chip) g n) := rfl

theorem bankDamage_frame (c : Chip) (g : Nat) : (bankDamage c g).mem = c.mem
    ∧ ∀ o k, k < 256 → o < 0x54041 → (o ≠ 0x01120 ∨ k ≠ 0) → odN (bankDamage c g) o k = odN c o k := by
  unfold bankDamage
  split
  · exact ⟨rfl, fun _ _ _ _ _ => rfl⟩
  · rename_i b hb
    have small : b < 16 := List.mem_range.1 (List.mem_of_find?_eq_some hb)
    refine ⟨rfl, fun o k hk ho h => (odN_raise _ _ _ _ _ hk h).trans ?_⟩
    exact odN_odSet_ne _ _ _ _ _ _ (by omega) hk (by omega)

/-- The objects of a granule that is retired. -/
def retiredShown (c : Chip) (g : Nat) : Chip :=
  let b := { c with mem := { c.mem with retired := c.mem.retired ++ [g] } }
  odSet (capacity b 0x01046 (odN b 0x01046 0 - granule)) 0x40004 0 (c.mem.retired.length + 1)

theorem capacity_mem (c : Chip) (o v : Nat) : (capacity c o v).mem = c.mem := by
  unfold capacity
  split <;> rfl

theorem capacity_plats (c : Chip) (o v : Nat) : (capacity c o v).plats = c.plats := by
  unfold capacity
  split <;> rfl

theorem capacity_shows (c : Chip) (o v : Nat) (ho : o ≠ 0x01048) : odN (capacity c o v) o 0 = v := by
  unfold capacity
  split
  · assumption
  · rw [odInc, odN_odSet_ne _ _ _ _ _ _ (by decide) (by decide) (Or.inl ho), odN_odSet_same]

theorem retireGranule_near {c : Chip} {g : Nat} (near : regionOf (g * granule) = .near) (used : c.mem.retired.contains g = false) :
    retireGranule c g = bankDamage (raiseP (retiredShown c g) evNearGranuleRetired (ownerByte c g) g) g := by
  have owner : ownerByte (retiredShown c g) g = ownerByte c g := by
    show (tget? (capacity _ _ _).plats.owner g).getD 0xFF = (tget? c.plats.owner g).getD 0xFF
    rw [capacity_plats]
  have count : (capacity { c with mem := { c.mem with retired := c.mem.retired ++ [g] } } 0x01046
      (odN c 0x01046 0 - granule)).mem.retired.length = c.mem.retired.length + 1 := by
    rw [capacity_mem]
    exact List.length_append
  rw [← owner]
  unfold retireGranule retiredShown
  rw [if_neg (ne_true_of_eq_false used), if_neg (by rw [near]; decide)]
  dsimp only
  rw [show odN { c with mem := { c.mem with retired := c.mem.retired ++ [g] } } 0x01046 0 = odN c 0x01046 0 from rfl, count]

/-- What a retirement of a near granule leaves. -/
theorem retireGranule_spec {c : Chip} {g : Nat} (near : regionOf (g * granule) = .near) (used : c.mem.retired.contains g = false) :
    (retireGranule c g).mem = { c.mem with retired := c.mem.retired ++ [g] }
      ∧ odN (retireGranule c g) 0x01046 0 = odN c 0x01046 0 - granule
      ∧ odN (retireGranule c g) 0x40004 0 = c.mem.retired.length + 1 := by
  obtain ⟨mem, objects⟩ := bankDamage_frame (raiseP (retiredShown c g) evNearGranuleRetired (ownerByte c g) g) g
  have event (o k : Nat) (hk : k < 256) (h : o ≠ 0x01120 ∨ k ≠ 0) :
      odN (raiseP (retiredShown c g) evNearGranuleRetired (ownerByte c g) g) o k = odN (retiredShown c g) o k :=
    odN_raiseFull _ _ _ _ _ _ _ _ _ _ _ hk h
  rw [retireGranule_near near used]
  refine ⟨mem.trans ?_, ?_, ?_⟩
  · show (capacity _ _ _).mem = _
    rw [capacity_mem]
  · rw [objects _ _ (by decide) (by decide) (by decide), event _ _ (by decide) (by decide), retiredShown,
      odN_odSet_ne _ _ _ _ _ _ (by decide) (by decide) (by decide), capacity_shows _ _ _ (by decide)]
    rfl
  · rw [objects _ _ (by decide) (by decide) (by decide), event _ _ (by decide) (by decide)]
    exact odN_odSet_same _ _ _ _

/-- The last chunk copied switches the remap entry. -/
theorem nearRemapped_done {c : Chip} {g : Nat} {m : Migration} (oldOk : Bool)
    (moves : c.mem.migs.find? (fun x => x.gran == g) = some m) (done : m.done = 1024) : ∃ b,
    nearRemapped c g oldOk = raiseP b ⟨0x4001, 1⟩ (ownerByte c g) g
      ∧ odN b 0x40003 0 = (odN c 0x40003 0 + 1) % 2 ^ 32 ∧ tget? b.mem.remap g = some m.raw
      ∧ b.mem.migs.any (fun x => x.gran == g) = false ∧ b.mem.dev = c.mem.dev
      ∧ Keeps c b [(0x40002, 0), (0x40003, 0)] := by
  let x := { c with mem := { c.mem with
    migs := c.mem.migs.filter (fun x => x.gran != g)
    remap := tput c.mem.remap g m.raw
    remapBack := if oldOk then c.mem.remapBack ++ [tget g c.mem.remap g] else c.mem.remapBack } }
  have acts : nearRemapped c g oldOk = raiseP (odInc (showPool x) 0x40003 0) ⟨0x4001, 1⟩ (ownerByte c g) g := by
    unfold nearRemapped
    rw [moves]
    dsimp only
    rw [if_neg (by omega)]
    rfl
  refine ⟨_, acts, ?_, tget?_tput_same _ _ _, ?_, rfl, ?_⟩
  · rw [odInc, odN_odSet_same, showPool, odN_odSet_ne _ _ _ _ _ _ (by decide) (by decide) (by decide)]
    rfl
  · refine List.any_eq_false.2 fun y hy => ?_
    have kept := (List.mem_filter.1 hy).2
    simpa using kept
  · exact (((Keeps.refl c _).congr (b' := x) rfl).set 0x40002 0 _ (by decide) (by simp)).inc 0x40003 0 (by decide) (by simp)

/-- A granule over the rate of OD 40.021 is looked after. -/
theorem preventive_over {c : Chip} {g n t : Nat} (on : odN c 0x40020 0 ≠ 0) (noted : tget? c.mem.ce g = some (n, t))
    (above : odN c 0x40021 0 < n) (today : nowNs c < t + 86400000000000) (near : regionOf (g * granule) = .near) :
    preventive c g = if inPinned c g then
        match tget? c.mem.pinned g with
        | some t => if nowNs c < t + 86400000000000 then c
          else raise { c with mem := { c.mem with pinned := tput c.mem.pinned g (nowNs c) } } evMigrationPinned g
        | none => raise { c with mem := { c.mem with pinned := tput c.mem.pinned g (nowNs c) } } evMigrationPinned g
      else startMove { c with mem := { c.mem with ce := tdel c.mem.ce g } } g false := by
  have now : tget (0, 0) c.mem.ce g = (n, t) := by rw [tget, noted]; rfl
  have due : ¬ (odN c 0x40020 0 = 0 ∨ n ≤ odN c 0x40021 0 ∨ t + 86400000000000 ≤ nowNs c ∨ regionOf (g * granule) ≠ .near) :=
    not_or.2 ⟨on, not_or.2 ⟨Nat.not_le.2 above, not_or.2 ⟨Nat.not_le.2 today, not_not.2 near⟩⟩⟩
  unfold preventive
  rw [now]
  dsimp only
  rw [if_neg due] <;> rfl

/-- A move that starts, none of its chunks copied yet. -/
theorem copied_starts {y : Chip} {g raw : Nat} (still : y.mem.migs.any (fun x => x.gran == g) = false) :
    copied { y with mem := { y.mem with migs := y.mem.migs ++ [⟨g, raw, 0⟩] } } g 0
      = { y with mem := { y.mem with migs := y.mem.migs ++ [⟨g, raw, 0⟩] } } := by
  unfold copied
  dsimp only
  rw [List.map_append, migs_unmoved still]
  simp

theorem copied_one {c : Chip} {m : Migration} (n : Nat) (one : c.mem.migs = [m]) :
    copied c m.gran n = { c with mem := { c.mem with migs := [{ m with done := min 1024 (m.done + n) }] } } := by
  unfold copied
  rw [one, List.map_singleton, beq_self_eq_true]
  rfl

/-- Settles O42: each repair as its definition says, an event and a bank's damage leaving memory alone. -/
theorem memoryTierRepairs : Obligations.MemoryTierRepairs := by
  intro s a k g raw n t y m newer oldOk c day
  refine ⟨?_, ?_, ?_, ?_, ?_, ?_, ?_, ?_⟩
  · intro h
    refine ⟨_, congrArg (becomes s) (patrolScrub_corrected newer h), odN_odSet_same _ _ _ _,
      ((Keeps.refl c _).inc _ _ (eccSub_lt h) (by simp)).congr rfl, fun noted today => ?_⟩
    exact noteCe_again (c := odInc c 0x40012 k) noted today
  · intro h
    obtain ⟨od, dev⟩ := markPoison_frame (odInc c 0x40012 k) (a / 32 * 32) 32
    refine ⟨_, congrArg (becomes s) (patrolScrub_uncorrectable h), ?_,
      ((Keeps.refl c _).inc _ _ (eccSub_lt h) (by simp)).congr od, poisoned_markPoison _ _, dev⟩
    rw [odN_congr _ _ od]
    exact odN_odSet_same _ _ _ _
  · exact congrArg (becomes s) (patrolScrub_clean c a newer)
  · intro near used still free
    have moves := takeRaw_migs free
    rw [exec_granuleMigrate, if_pos rfl, startMove_free true near used still free, copied_starts (by rw [moves, still]), moves]
  · intro one
    rw [exec_granuleMigrate, if_neg (by decide), copied_one n one]
  · intro near used still full
    have starts := startMove_none (nearGranule_near near) used
      (show c.mem.migs.any (fun x => x.gran == g) = false by rw [still]; rfl) full
    obtain ⟨mem, capacity, retired⟩ := retireGranule_spec near used
    have unmoved : (retireGranule c g).mem.migs.any (fun x => x.gran == g) = false := by
      rw [mem, still]
      rfl
    refine ⟨retireGranule c g, ?_, mem, capacity, retired⟩
    rw [exec_granuleMigrate, if_pos rfl, starts, copied_still unmoved]
  · intro moves done
    obtain ⟨b, acts, shows⟩ := nearRemapped_done oldOk moves done
    exact ⟨b, congrArg (becomes s) acts, shows⟩
  · intro on noted above today near
    have acts := preventive_over on noted above today near
    refine ⟨fun free => ?_, fun pinned first => ?_⟩
    · rw [free, if_neg (by decide)] at acts
      exact congrArg (becomes s) acts
    · rw [pinned, if_pos rfl, first] at acts
      exact congrArg (becomes s) acts

end Sys2Proof.Machine
end

/-! ## Ethernet links, flow control, PTP and received frames (13) -/
section
namespace Sys2Proof.Machine

/-! ### Links -/

/-- A sub-port's state as it is set. -/
theorem subState_setSubState (c : Chip) (i v : Nat) (hv : v < 4) : subState (setSubState c i v) i = v := by
  rw [subState, setSubState, odN_odSet_same]
  split <;> omega

theorem subState_setSubState_other (c : Chip) (i j v : Nat) (hi : i < 255) (hj : j < 255) (h : j ≠ i) :
    subState (setSubState c i v) j = subState c j := by
  rw [subState, setSubState, odN_odSet_ne _ _ _ _ _ _ (by omega) (by omega) (by omega)]
  rfl

theorem setSubState_keeps (c : Chip) (i v : Nat) (hi : i < 255) : Keeps c (setSubState c i v) [(0x20005, i + 1)] :=
  (Keeps.refl c _).set _ _ _ (by omega) (by simp)

theorem subState_raise (c : Chip) (e : Ev) (a i : Nat) (hi : i < 255) : subState (raise c e a) i = subState c i := by
  rw [subState, odN_raise _ _ _ _ _ (by omega) (Or.inl (by decide))]
  rfl

/-- A link lost: down or training, the others as before, and nothing queued changes. -/
theorem linkLost_spec (c : Chip) (i v : Nat) (hi : i < 255) (hv : v < 4) : subState (linkLost c i v) i = v
    ∧ (∀ j < 255, j ≠ i → subState (linkLost c i v) j = subState c j) ∧ (linkLost c i v).net = c.net := by
  unfold linkLost
  split
  · exact ⟨(subState_raise _ _ _ _ hi).trans (subState_setSubState c i v hv),
      fun j hj h => (subState_raise _ _ _ _ hj).trans (subState_setSubState_other c i j v hi hj h), rfl⟩
  · exact ⟨subState_setSubState c i v hv, fun j hj h => subState_setSubState_other c i j v hi hj h, rfl⟩

/-- What the loss of a port's eight links leaves: none is up, the other port's are as before. -/
theorem linksLost_spec (p : Nat) (word : Chip → Nat → Nat) (hw : ∀ b i, word b i < 2) (hp : p < 2) (n : Nat) (hn : n ≤ 8) (c : Chip) :
    let b := (List.range n).foldl (fun s k => linkLost s (8 * p + k) (word s (8 * p + k))) c
    (∀ k, k < n → subState b (8 * p + k) ≠ 2) ∧ (∀ i < 16, i < 8 * p ∨ 8 * p + n ≤ i → subState b i = subState c i) ∧ b.net = c.net := by
  induction n with
  | zero => exact ⟨fun k hk => absurd hk (Nat.not_lt_zero k), fun _ _ _ => rfl, rfl⟩
  | succ n ih =>
    obtain ⟨lost, others, net⟩ := ih (by omega)
    rw [List.range_succ, List.foldl_append, List.foldl_cons, List.foldl_nil]
    generalize (List.range n).foldl (fun s k => linkLost s (8 * p + k) (word s (8 * p + k))) c = b at lost others net
    have small := hw b (8 * p + n)
    obtain ⟨here, rest, net'⟩ := linkLost_spec b (8 * p + n) (word b (8 * p + n)) (by omega) (by omega)
    refine ⟨fun k hk => ?_, fun i hi out => ?_, net'.trans net⟩
    · by_cases last : k = n
      · rw [last, here]
        omega
      · rw [rest _ (by omega) (by omega)]
        exact lost k (by omega)
    · rw [rest _ (by omega) (by omega)]
      exact others i hi (by omega)

theorem qFrames_setFrames_same (c : Chip) (q : Nat) (l : List Frame) : qFrames (setFrames c q l) q = l := tget_tset_same _ _ _ _

theorem qFrames_setFrames_other (c : Chip) (q r : Nat) (l : List Frame) (h : q ≠ r) : qFrames (setFrames c r l) q = qFrames c q :=
  tget_tset_other _ _ _ _ _ _ h

/-- A queue's frames discarded where its sub-port lies on the port. -/
def dropOne (p : Nat) (c : Chip) (q : Nat × List Frame) : Chip :=
  if gSub c (qGroup c q.1) / 8 = p then tmDrop (setFrames c q.1 []) (gSub c (qGroup c q.1)) q.2.length else c

theorem dropQueued_eq (c : Chip) (p : Nat) : dropQueued c p = c.net.queues.foldl (dropOne p) c := rfl

/-- Discarding counts in OD 21.050 and empties queues. -/
theorem dropOne_frame (p : Nat) (c : Chip) (q : Nat × List Frame) : (dropOne p c q).net.retrain = c.net.retrain
    ∧ (∀ o k, k < 256 → o ≠ 0x21050 → odGet (dropOne p c q) o k = odGet c o k)
    ∧ ∀ x, qFrames c x = [] → qFrames (dropOne p c q) x = [] := by
  unfold dropOne
  split
  · refine ⟨rfl, fun o k hk ho => ?_, fun x empty => ?_⟩
    · rw [tmDrop, odAdd64, odGet_odSet _ _ _ _ _ _ (by omega) hk, if_neg (by omega)]
      rfl
    · by_cases same : x = q.1
      · rw [same]
        exact qFrames_setFrames_same c q.1 []
      · exact (qFrames_setFrames_other c x q.1 [] same).trans empty
  · exact ⟨rfl, fun _ _ _ _ => rfl, fun _ h => h⟩

theorem qGroup_congr {b c : Chip} (h : ∀ o k, k < 256 → o ≠ 0x21050 → odGet b o k = odGet c o k) (q : Nat) :
    gSub b (qGroup b q) = gSub c (qGroup c q) := by
  have blob (o k : Nat) (hk : k < 256) (ho : o ≠ 0x21050) : odB b o k = odB c o k := congrArg OdVal.blob (h o k hk ho)
  have group : qGroup b q = qGroup c q := by
    unfold qGroup queueRec
    rw [blob _ _ (by omega) (by omega)]
  rw [group]
  unfold gSub groupRec
  rw [blob _ _ (by omega) (by omega)]

/-- Every queue of the port is empty after the fold over the queues. -/
theorem dropOnes_spec (p : Nat) (l : List (Nat × List Frame)) (c : Chip) :
    let b := l.foldl (dropOne p) c
    b.net.retrain = c.net.retrain ∧ (∀ o k, k < 256 → o ≠ 0x21050 → odGet b o k = odGet c o k)
      ∧ ∀ q, gSub c (qGroup c q) / 8 = p → (q ∈ l.map (·.1) ∨ qFrames c q = []) → qFrames b q = [] := by
  induction l generalizing c with
  | nil => exact ⟨rfl, fun _ _ _ _ => rfl, fun q _ h => h.elim (fun h => absurd h List.not_mem_nil) id⟩
  | cons e r ih =>
    obtain ⟨retrain, objects, empty⟩ := dropOne_frame p c e
    obtain ⟨retrain', objects', empty'⟩ := ih (dropOne p c e)
    refine ⟨retrain'.trans retrain, fun o k hk ho => (objects' o k hk ho).trans (objects o k hk ho), fun q mine h => ?_⟩
    refine empty' q (by rw [qGroup_congr objects]; exact mine) ?_
    by_cases here : q = e.1
    · right
      unfold dropOne
      rw [if_pos (by rw [← here]; exact mine), here]
      exact qFrames_setFrames_same c e.1 []
    · obtain listed | none_left := h
      · rw [List.map_cons, List.mem_cons] at listed
        exact Or.inl (listed.resolve_left here)
      · exact Or.inr (empty q none_left)

/-- A queue that is not listed has no frames. -/
theorem qFrames_unlisted {t : Table (List Frame)} {q : Nat} (h : q ∉ t.map (·.1)) : tget [] t q = [] := by
  induction t with
  | nil => rfl
  | cons e r ih =>
    rw [List.map_cons, List.mem_cons, not_or] at h
    have skip : tget? (e :: r) q = tget? r q := if_neg (Ne.symm h.1)
    rw [tget, skip]
    exact ih h.2

/-- A port that retrains: its links down or training, its queued frames gone. -/
theorem ethRetrain_spec {c : Chip} {p : Nat} (hp : p < 2) (listed : c.net.retrain.contains p = true) :
    (ethRetrain c p).net.retrain.contains p = false ∧ (∀ k, k < 8 → subState (ethRetrain c p) (8 * p + k) ≠ 2)
      ∧ (∀ i < 16, i / 8 ≠ p → subState (ethRetrain c p) i = subState c i)
      ∧ (∀ q, gSub c (qGroup c q) / 8 = p → qFrames (ethRetrain c p) q = []) := by
  let x := { c with net := { c.net with retrain := c.net.retrain.filter (· != p) } }
  let word (b : Chip) (i : Nat) : Nat := b2n (subExists b i && portsOn b && bit (odN b 0x20003 0) i)
  have acts : ethRetrain c p = (List.range 8).foldl (fun s k => linkLost s (8 * p + k) (word s (8 * p + k))) (dropQueued x p) :=
    if_neg (by rw [listed]; decide)
  have two (b : Chip) (i : Nat) : word b i < 2 := by
    show b2n _ < 2
    cases (subExists b i && portsOn b && bit (odN b 0x20003 0) i) <;> decide
  obtain ⟨retrain, objects, empty⟩ := dropOnes_spec p x.net.queues x
  obtain ⟨lost, others, net⟩ := linksLost_spec p word two hp 8 (by decide) (dropQueued x p)
  rw [acts]
  refine ⟨?_, lost, fun i hi other => ?_, fun q mine => ?_⟩
  · rw [net, dropQueued_eq, retrain]
    simp [x]
  · rw [others i hi (by omega), subState, subState]
    exact congrArg (fun v => OdVal.nat v % 4) (objects 0x20005 (i + 1) (by omega) (by decide))
  · rw [qFrames, net]
    refine empty q mine ?_
    by_cases h : q ∈ x.net.queues.map (·.1)
    · exact Or.inl h
    · exact Or.inr (qFrames_unlisted h)

theorem ethernetLinks : Claim.EthernetLinks := by
  intro s i p n start hi c
  refine ⟨?_, ?_, ?_, ?_, ?_⟩
  · intro here on down enabled
    let x := { c with net := { c.net with anRetry := tdel c.net.anRetry i } }
    have acts : ethLinkUp c i = raise (setSubState x i 2) ⟨0x2000, 0⟩ (i + (4 - breakout c (i / 8)) * 256) :=
      if_neg (by rw [here, on, enabled]; simp [down])
    exact ⟨_, congrArg (becomes s) acts, subState_setSubState x i 2 (by decide), setSubState_keeps x i 2 (by omega)⟩
  · intro here up
    have lost : linkLost c i 1 = raise (setSubState c i 1) ⟨0x2001, 1⟩ i := if_pos up
    have down (sending : Bool) : exec (.ethLinkDown i sending) s
        = becomes s (if sending then portCount (linkLost c i 1) i 19 1 else linkLost c i 1) :=
      congrArg (becomes s) (if_pos (c := subExists c i = true ∧ subState c i = 2) ⟨here, up⟩)
    rw [lost] at down
    exact ⟨_, down false, subState_setSubState c i 1 (by decide), setSubState_keeps c i 1 (by omega), down true⟩
  · intro window above soon
    have acts : fecDegraded c i = raise { c with net := { c.net with fec := tput c.net.fec i (start, n, true) } } ⟨0x2002, 1⟩
        (i + n * 256) := by
      unfold fecDegraded
      rw [window]
      exact if_pos ⟨hi, above, soon⟩
    exact congrArg (becomes s) acts
  · intro hp listed
    obtain ⟨done, lost, others, empty⟩ := ethRetrain_spec hp listed
    exact ⟨_, rfl, done, lost, others i hi, empty⟩
  · intro here on trains aneg due
    have acts : anRetry c i = { c with net := { c.net with anRetry := tput c.net.anRetry i (nowNs c + 500000000) } } :=
      if_neg (by rw [here, on]; simp [trains, aneg, due])
    exact congrArg (becomes s) acts

/-! ### Priority flow control and PTP -/

/-- The pause of one class, as a PFC frame sets it. -/
theorem pfcClass_paused (c : Chip) (i t u : Nat) (b : Bytes) :
    tget? (pfcClass c i b u).net.paused (8 * i + t) = if t = u ∧ (bit (be b 2 2) t && bit (pfcEnable c i) t) = true then
        (if be b (4 + 2 * t) 2 = 0 then none else some (nowNs c + quantaNs c i (be b (4 + 2 * t) 2)))
      else tget? c.net.paused (8 * i + t) := by
  unfold pfcClass
  by_cases named : (bit (be b 2 2) u && bit (pfcEnable c i) u) = true
  · rw [if_pos named]
    dsimp only
    by_cases same : t = u
    · subst same
      have cond : t = t ∧ (bit (be b 2 2) t && bit (pfcEnable c i) t) = true := ⟨rfl, named⟩
      rw [if_pos cond]
      split
      · exact tget?_tdel_same _ _
      · exact tget?_tput_same _ _ _
    · have cond : ¬ (t = u ∧ (bit (be b 2 2) t && bit (pfcEnable c i) t) = true) := fun h => same h.1
      rw [if_neg cond]
      split
      · exact tget?_tdel_other _ _ _ (by omega)
      · exact tget?_tput_other _ _ _ _ (by omega)
  · rw [if_neg named, if_neg]
    rintro ⟨rfl, h⟩
    exact named h

theorem pfcClass_frame (c : Chip) (i u : Nat) (b : Bytes) : (pfcClass c i b u).od = c.od ∧ (pfcClass c i b u).tb = c.tb
    ∧ (pfcClass c i b u).net.buffer = c.net.buffer := by
  unfold pfcClass
  split <;> exact ⟨rfl, rfl, rfl⟩

/-- The pauses after the classes below `n` have been looked at. -/
theorem pfcClasses_paused (c : Chip) (i t n : Nat) (b : Bytes) :
    let x := (List.range n).foldl (fun s u => pfcClass s i b u) c
    (x.od = c.od ∧ x.tb = c.tb ∧ x.net.buffer = c.net.buffer)
      ∧ tget? x.net.paused (8 * i + t) = if t < n ∧ (bit (be b 2 2) t && bit (pfcEnable c i) t) = true then
          (if be b (4 + 2 * t) 2 = 0 then none else some (nowNs c + quantaNs c i (be b (4 + 2 * t) 2)))
        else tget? c.net.paused (8 * i + t) := by
  induction n with
  | zero => exact ⟨⟨rfl, rfl, rfl⟩, (if_neg (fun h => absurd h.1 (Nat.not_lt_zero t))).symm⟩
  | succ n ih =>
    obtain ⟨⟨od, tb, buffer⟩, paused⟩ := ih
    rw [List.range_succ, List.foldl_append, List.foldl_cons, List.foldl_nil]
    generalize (List.range n).foldl (fun s u => pfcClass s i b u) c = x at od tb buffer paused
    obtain ⟨od', tb', buffer'⟩ := pfcClass_frame x i n b
    refine ⟨⟨od'.trans od, tb'.trans tb, buffer'.trans buffer⟩, ?_⟩
    have enable : pfcEnable x i = pfcEnable c i := odN_congr _ _ od _ _
    have now : nowNs x = nowNs c := congrArg Timebase.ns tb
    have quanta (q : Nat) : quantaNs x i q = quantaNs c i q := by
      unfold quantaNs subGbps breakout
      rw [odN_congr _ _ od]
    rw [pfcClass_paused x i t n b, enable, now, quanta, paused]
    by_cases last : t = n
    · simp [last]
    · simp only [last, false_and, if_false, show t < n + 1 ↔ t < n by omega]

theorem pfcFrameRx_spec {c : Chip} {i t : Nat} {f : RxFrame} (hi : i < 16) (ht : t < 8)
    (oldest : c.net.buffer.find? (fun f => f.sub == i && f.cls == 5) = some f) :
    let b := pfcFrameRx c i
    b.net.buffer = c.net.buffer.erase f ∧ odN b (0x20100 + i) 14 = (odN c (0x20100 + i) 14 + 1) % 2 ^ 64
      ∧ Keeps c b [(0x20100 + i, 14)]
      ∧ tget? b.net.paused (8 * i + t) = (if bit (be f.data 2 2) t && bit (pfcEnable c i) t then
          (if be f.data (4 + 2 * t) 2 = 0 then none else some (nowNs c + quantaNs c i (be f.data (4 + 2 * t) 2)))
          else tget? c.net.paused (8 * i + t)) := by
  let y := { c with net := { c.net with buffer := c.net.buffer.erase f } }
  have acts : pfcFrameRx c i = (List.range 8).foldl (fun s t => pfcClass s i f.data t) (portCount y i 14 1) := by
    unfold pfcFrameRx takeFrame
    rw [oldest]
  obtain ⟨⟨od, -, buffer⟩, paused⟩ := pfcClasses_paused (portCount y i 14 1) i t 8 f.data
  have enable : pfcEnable (portCount y i 14 1) i = pfcEnable c i :=
    odN_odAdd64_ne y _ _ _ _ _ (by decide) (by omega) (by omega)
  have quanta (q : Nat) : quantaNs (portCount y i 14 1) i q = quantaNs c i q := by
    unfold quantaNs subGbps breakout portCount
    rw [odN_odAdd64_ne _ _ _ _ _ _ (by decide) (by omega) (by omega)]
    rfl
  intro b
  rw [show b = pfcFrameRx c i from rfl, acts]
  refine ⟨buffer, ?_, ?_, ?_⟩
  · rw [odN_congr _ _ od]
    exact odN_odAdd64_same y _ _ _
  · exact (((Keeps.refl c _).congr (b' := y) rfl).add64 _ _ _ (by decide) (by simp)).congr od
  · rw [paused, enable, quanta]
    simp only [ht, true_and]
    rfl

/-- A PFC frame sent is counted. -/
theorem pfcSend_spec (c : Chip) (i t quanta : Nat) (x : Table Nat) :
    let b := pfcSend { c with net := { c.net with xoff := x } } i t quanta
    b.out = c.out ++ [.pfc i t quanta] ∧ b.net = { c.net with xoff := x }
      ∧ odN b (0x20100 + i) 15 = (odN c (0x20100 + i) 15 + 1) % 2 ^ 64 ∧ Keeps c b [(0x20100 + i, 15)] :=
  ⟨rfl, rfl, odN_odAdd64_same _ _ _ _,
    ((Keeps.refl c _).congr (b' := { c with net := { c.net with xoff := x } }) rfl).add64 _ _ _ (by decide) (by simp)⟩

theorem flowControlAndPtp : Claim.FlowControlAndPtp := by
  intro s i t e v f m d hi ht c now sent
  refine ⟨?_, ?_, ?_, ?_, ?_, ?_⟩
  · intro oldest
    exact ⟨_, rfl, pfcFrameRx_spec hi ht oldest⟩
  · intro paused due
    refine congrArg (becomes s) ?_
    simp only [show tget? s.chip.net.paused (8 * i + t) = some e from paused]
    exact if_pos ⟨ht, due⟩
  · intro here up enabled first full
    have acts : xoffSend c i t = pfcSend { c with net := { c.net with xoff := tput c.net.xoff (8 * i + t) (nowNs c) } } i t 65535 :=
      if_neg (by rw [here, enabled, first]; simp [ht, up, full])
    exact ⟨_, congrArg (becomes s) acts, pfcSend_spec c i t 65535 _⟩
  · intro here enabled since full due
    have due : e + quantaNs c i 32768 ≤ nowNs c := due
    have acts : xoffRepeat c i t = pfcSend { c with net := { c.net with xoff := tput c.net.xoff (8 * i + t) (nowNs c) } } i t 65535 := by
      unfold xoffRepeat
      rw [since]
      exact if_neg (by rw [here, enabled]; simp [ht, full, due])
    exact ⟨_, congrArg (becomes s) acts, pfcSend_spec c i t 65535 _⟩
  · intro since low
    have acts : xonSend c i t = pfcSend { c with net := { c.net with xoff := tdel c.net.xoff (8 * i + t) } } i t 0 :=
      if_neg (by rw [since]; simp [ht, low])
    exact ⟨_, congrArg (becomes s) acts, pfcSend_spec c i t 0 _⟩
  · intro oldest y
    have takes : takeFrame c (fun f => f.sub == i && f.cls == 1) = some (f, y) := by
      unfold takeFrame
      rw [oldest]
    have heard : ptpMessageRx c i none none none none = y := by
      unfold ptpMessageRx
      rw [takes]
    have moved : ptpMessageRx c i (some v) none none none = ptpState y i v := by
      unfold ptpMessageRx
      rw [takes]
    have delayed : ptpMessageRx c i none (some d) none none = odSetI y 0x20046 (i + 1) d := by
      unfold ptpMessageRx
      rw [takes]
    have replied : ptpMessageRx c i none none none (some m)
        = { y with net := { y.net with ptp := tput c.net.ptp i (tget [] c.net.ptp i ++ [m]) } } := by
      unfold ptpMessageRx
      rw [takes]
    refine ⟨congrArg (becomes s) heard, fun allowed new => ?_, congrArg (becomes s) delayed, congrArg (becomes s) replied⟩
    have changes : ptpState y i v = raise (odSet y 0x20041 (i + 1) v) ⟨0x2003, 0⟩ (i + v * 256) :=
      if_neg (not_or.2 ⟨new, by rw [show ptpAllowed y i v = true from allowed]; decide⟩)
    exact congrArg (becomes s) (moved.trans changes)

/-! ### Received frames -/

/-- A frame that fails its codewords or its FCS is dropped and counted, unless its payload was cut through. -/
theorem ethFrameRx_bad {c : Chip} {i : Nat} {b : Bytes} {mark : RxMark} (here : subExists c i = true) (up : subState c i = 2)
    (bad : (!mark.fecOk || !mark.fcsOk) = true)
    (stored : cutThrough (fecCount c i mark.corrected mark.uncorrectable) i b mark (parseFrame b) = none) :
    ethFrameRx c i b mark = if !mark.fecOk then portCount (fecCount c i mark.corrected mark.uncorrectable) i 8 1
      else portCount (fecCount c i mark.corrected mark.uncorrectable) i 5 1 := by
  unfold ethFrameRx
  dsimp only
  rw [if_neg (by rw [here]; simp [up]), if_pos (by rw [bad]; rfl), stored]
  dsimp only
  by_cases fec : (!mark.fecOk) = true
  · rw [if_pos fec, if_pos fec]
  · rw [if_neg fec, if_neg fec, if_pos]
    simpa [fec] using bad

/-- A frame that passes both is checked further. -/
theorem ethFrameRx_good {c : Chip} {i : Nat} {b : Bytes} {mark : RxMark} (here : subExists c i = true) (up : subState c i = 2)
    (fec : mark.fecOk = true) (fcs : mark.fcsOk = true) (icrc : mark.icrcOk = true) : ethFrameRx c i b mark
      = ethFrameRx.accept (fecCount c i mark.corrected mark.uncorrectable) i b mark (parseFrame b) (b.length + 4) := by
  unfold ethFrameRx
  dsimp only
  rw [if_neg (by rw [here]; simp [up]), if_neg (by rw [fec, fcs, icrc]; decide)]

/-- A frame of an EtherType that is neither a tag's nor IP's is parsed no further. -/
theorem parseFrame_plain {b : Bytes} {t : Nat} (h : be b 12 2 = t) (ht : t = 0x88F7 ∨ t = 0x8808) :
    parseFrame b = ⟨none, t, false, [], [], 0, 0, none, 14, b.length⟩ := by
  unfold parseFrame parseIp
  dsimp only
  rw [h, if_neg (by omega), if_neg (by omega), if_neg (by omega), if_neg (by omega)]

/-- PTP in Ethernet waits in the ingress buffer. -/
theorem classified_ptp {c : Chip} {i : Nat} {b : Bytes} {mark : RxMark} (et : be b 12 2 = 0x88F7)
    (dst : be b 0 6 = 0x0180C200000E) : classified c i b mark (parseFrame b) = { c with net := { c.net with
      buffer := c.net.buffer ++ [⟨i, 0, 0, 1, b, [], [], 0, true, none⟩] } } := by
  rw [parseFrame_plain et (Or.inl rfl)]
  have cls : frameClass c i b ⟨none, 0x88F7, false, [], [], 0, 0, none, 14, b.length⟩ = 1 := by
    unfold frameClass
    dsimp only
    rw [if_neg (by decide), dst, if_pos (by decide)]
  unfold classified
  rw [cls]
  rfl

/-- Flow control is class 5. -/
theorem frameClass_control (c : Chip) (i : Nat) (b : Bytes) :
    frameClass c i b ⟨none, 0x8808, false, [], [], 0, 0, none, 14, b.length⟩ = 5 := by
  unfold frameClass
  exact if_pos rfl

theorem classified_control {c : Chip} {i : Nat} {b : Bytes} {mark : RxMark} (et : be b 12 2 = 0x8808) :
    classified c i b mark (parseFrame b) = if be b 14 2 = 0x0101 then { c with net := { c.net with
      buffer := c.net.buffer ++ [⟨i, 0, 0, 5, b.drop 14, [], [], 0, true, none⟩] } } else odAdd64 c (0x20100 + i) 16 1 := by
  rw [parseFrame_plain et (Or.inr rfl)]
  unfold classified
  rw [frameClass_control]
  rfl

theorem ethernetFrames : Claim.EthernetFrames := by
  intro s i b mark here up y len got counted p good
  refine ⟨?_, ?_, ?_⟩
  · intro stored fec
    have acts := ethFrameRx_bad here up (by rw [fec]; rfl) stored
    rw [fec] at acts
    exact congrArg (becomes s) acts
  · intro stored fec fcs
    have acts := ethFrameRx_bad here up (by rw [fec, fcs]; rfl) stored
    rw [fec] at acts
    exact congrArg (becomes s) acts
  · intro fec fcs icrc
    have checks (z : Chip) (h : ethFrameRx.accept y i b mark p len = z) : got z :=
      congrArg (becomes s) ((ethFrameRx_good here up fec fcs icrc).trans h)
    refine ⟨fun short => checks _ (if_pos short), fun long over_ => checks _ ?_, fun long fits => ⟨fun stray => checks _ ?_,
      fun mine => ⟨fun other => checks _ ?_, fun tag => ?_⟩⟩⟩
    · exact (if_neg (Nat.not_lt.2 long)).trans (if_pos over_)
    · exact (if_neg (Nat.not_lt.2 long)).trans ((if_neg (Nat.not_lt.2 fits)).trans (if_pos (by rw [stray]; rfl)))
    · exact (if_neg (Nat.not_lt.2 long)).trans ((if_neg (Nat.not_lt.2 fits)).trans ((if_neg (by rw [mine]; decide)).trans
        (if_pos (by rw [other]; rfl))))
    · have accepts : ethFrameRx.accept y i b mark p len = classified good i b mark p :=
        (if_neg (Nat.not_lt.2 long)).trans ((if_neg (Nat.not_lt.2 fits)).trans ((if_neg (by rw [mine]; decide)).trans
          (if_neg (by rw [tag]; decide))))
      refine ⟨checks _ accepts, fun et dst => checks _ (accepts.trans (classified_ptp et dst)), fun et op => ?_, fun et op => ?_⟩
      · exact checks _ (accepts.trans ((classified_control et).trans (if_pos op)))
      · exact checks _ (accepts.trans ((classified_control et).trans (if_neg op)))

/-- Settles O43: links by their words, flow control by its pauses and counts, frames by the first check that fails. -/
theorem ethernetLinksAndFrames : Obligations.EthernetLinksAndFrames := ⟨ethernetLinks, flowControlAndPtp, ethernetFrames⟩

end Sys2Proof.Machine
end

/-! ## The traffic manager (14) -/
section
namespace Sys2Proof.Machine

/-! ### Fields of a spliced record -/

theorem slice_length (b : Bytes) (off n : Nat) : (slice b off n).length = n := by
  simp [slice, zeros]

/-- A field within the bytes written. -/
theorem fld_splice_in (b v : Bytes) (off o n : Nat) (h : o + n ≤ v.length) : fld (splice b off v) (off + o) n = fld v o n := by
  have len : (slice b 0 off ++ v).length = off + v.length := by rw [List.length_append, slice_length]
  rw [splice, fld_left _ _ _ _ (by rw [len]; omega), fld_right _ _ _ _ _ (slice_length _ _ _).symm]

/-- A field before the bytes written. -/
theorem fld_splice_before (b v : Bytes) (off o n : Nat) (h : o + n ≤ off) (h' : o + n ≤ b.length) :
    fld (splice b off v) o n = fld b o n := by
  have cut : fld (b.take off) o n = fld b o n := by
    unfold fld
    rw [List.drop_take, List.take_take, Nat.min_eq_left (by omega)]
  rw [splice, List.append_assoc, fld_left _ _ _ _ (by rw [slice_length]; exact h), slice, List.drop_zero,
    fld_left _ _ _ _ (by rw [List.length_take]; omega), cut]

theorem splice_length_le (b v : Bytes) (off : Nat) : off + v.length ≤ (splice b off v).length := by
  simp only [splice, List.length_append, slice_length]
  omega

/-- A field set reads as set. -/
theorem fld_setFld (b : Bytes) (off n v : Nat) : fld (setFld b off n v) off n = v % 256 ^ n := by
  have := fld_splice_in b (leBytes n v) off 0 n (by rw [leBytes_length]; omega)
  rw [Nat.add_zero] at this
  rw [setFld, this, fld_whole]

/-! ### Buckets -/

/-- A meter under the rates of both its buckets gains its credit. -/
theorem bucketRefill_meter {c : Chip} {k t : Nat} (hk : k < 16384) (due : refillDue c (meterBucket c k) = some t)
    (mode : fld (meterRec c k) 0 1 = 2) : tget? (bucketRefill c k).net.buckets k = some (refillBucket (meterBucket c k) 2 t) := by
  have acts : bucketRefill c k = setMeterBucket c k (refillBucket (meterBucket c k) 2 t) := by
    unfold bucketRefill
    rw [if_pos hk]
    dsimp only
    rw [due]
    dsimp only
    rw [mode, if_neg (by decide)]
  rw [acts]
  exact tget?_tput_same _ _ _

theorem refillBucket_both {b : Bucket} (t : Nat) (none_waits : b.pending = none) : refillBucket b 2 t = { b with
    l0 := min (b.l0 + credit b.cur.2.1 (t - b.last)) (256 * (b.cur.2.2.2.1 : Int))
    l1 := min (b.l1 + credit b.cur.2.2.1 (t - b.last)) (256 * (b.cur.2.2.2.2 : Int))
    last := t } := by
  unfold refillBucket
  dsimp only
  rw [none_waits, if_neg (by decide)]

theorem refillBucket_last (b : Bucket) (mode t : Nat) : (refillBucket b mode t).last = t := by
  unfold refillBucket
  dsimp only
  cases b.pending <;> rfl

/-- A shaper in force gains its credit, and its record shows the level. -/
theorem bucketRefill_shaper {c : Chip} {k t : Nat} (hk : k < 32768) (due : refillDue c (shaperBucket c k) = some t)
    (on : bit (fld (shaperRec c k) 0 1) 0 = true) : let b := bucketRefill c (16384 + k)
    (shaperBucket b k).last = t ∧ fld (shaperRec b k) 20 4 = uInt 32 ((shaperBucket b k).l0 / 256) := by
  intro b
  have index : 16384 + k - 16384 = k := by omega
  have acts : b = setShaperBucket c k (refillBucket (shaperBucket c k) 0 t) := by
    show bucketRefill c (16384 + k) = _
    unfold bucketRefill
    rw [if_neg (by omega), if_pos (by omega), index]
    dsimp only
    rw [due]
    dsimp only
    rw [if_pos on]
  have bucket : shaperBucket b k = refillBucket (shaperBucket c k) 0 t := by
    rw [acts]
    exact congrArg (Option.getD · _) (tget?_tput_same c.net.buckets (16384 + k) _)
  refine ⟨by rw [bucket, refillBucket_last], ?_⟩
  rw [bucket, acts, setShaperBucket, shaperRec, odSetFld, odB_odSetB_same, fld_setFld]
  exact Nat.mod_eq_of_lt (uInt_lt 32 _)

/-! ### Egress -/

/-- What sending a frame leaves alone: the queues, and the counters of the sub-ports. -/
def KeepsPorts (a b : Chip) : Prop :=
  b.net.queues = a.net.queues ∧ ∀ o k, k < 256 → o < 0x23800 → odN b o k = odN a o k

theorem KeepsPorts.refl (a : Chip) : KeepsPorts a a := ⟨rfl, fun _ _ _ _ => rfl⟩

theorem KeepsPorts.trans {a b c : Chip} (h : KeepsPorts a b) (g : KeepsPorts b c) : KeepsPorts a c := by
  obtain ⟨h1, h2⟩ := h
  obtain ⟨g1, g2⟩ := g
  exact ⟨g1.trans h1, fun o k hk ho => (g2 o k hk ho).trans (h2 o k hk ho)⟩

theorem keepsPorts_debitShaper (c : Chip) (n k : Nat) : KeepsPorts c (debitShaper c n k) := by
  unfold debitShaper
  split
  · refine ⟨rfl, fun o j hj ho => ?_⟩
    exact odN_odSetB _ _ _ _ _ _ (by omega) hj (by omega)
  · exact .refl c

theorem keepsPorts_paceSent (c : Chip) (n rate b : Nat) : KeepsPorts c (paceSent c n rate b) := by
  unfold paceSent
  dsimp only
  split <;> exact ⟨rfl, fun _ _ _ _ => rfl⟩

theorem keepsPorts_add64 (c : Chip) (o k n : Nat) (hk : k < 256) (ho : 0x23800 ≤ o) : KeepsPorts c (odAdd64 c o k n) :=
  ⟨rfl, fun _ _ hk' ho' => odN_odAdd64_ne _ _ _ _ _ _ hk hk' (by omega)⟩

theorem keepsPorts_packetSent (c : Chip) (qpn op psn : Nat) : KeepsPorts c (packetSent c qpn op psn) := by
  have total := keepsPorts_add64 c 0x24030 1 1 (by decide) (by decide)
  have plat (b : Chip) (p : Nat) : KeepsPorts b (if p < 64 then odAdd64 b (0x24080 + p) 1 1 else b) := by
    split
    · exact keepsPorts_add64 b _ _ _ (by decide) (by omega)
    · exact .refl b
  unfold packetSent
  dsimp only
  split
  · exact total.trans (plat _ _)
  · exact (total.trans (plat _ _)).trans ⟨rfl, fun _ _ _ _ => rfl⟩

/-- A frame has left under the pacing of its queue and of its queue pair. -/
def framePaced (c : Chip) (q : Nat) (f : Frame) : Chip :=
  let y := if qPace c q = 0 then c else paceSent c q (qPace c q) f.len
  match framePace y f with
  | some e => paceSent y e (tget ⟨0, none, 0⟩ y.net.paces e).rate f.len
  | none => y

/-- A frame goes out of its sub-port. -/
def frameOut (c : Chip) (i q : Nat) (f : Frame) : Chip :=
  match f.pkt with
  | some (qpn, op, psn) => emit (packetSent c qpn op psn) (.packet qpn op psn f.data)
  | none => emit c (.frame i q f.data)

theorem sendHead_acts {c : Chip} {i q : Nat} {f : Frame} {fs : List Frame} (head : qFrames c q = f :: fs) :
    sendHead c i q = frameOut (portCount (portCount
      (framePaced ((pathShapers (setFrames c q fs) q).foldl (fun s k => debitShaper s f.len k) (setFrames c q fs)) q f)
      i 3 1) i 4 f.len) i q f := by
  unfold sendHead
  rw [head]
  rfl

theorem keepsPorts_framePaced (c : Chip) (q : Nat) (f : Frame) : KeepsPorts c (framePaced c q f) := by
  have queue : KeepsPorts c (if qPace c q = 0 then c else paceSent c q (qPace c q) f.len) := by
    split
    · exact .refl c
    · exact keepsPorts_paceSent _ _ _ _
  unfold framePaced
  dsimp only
  split
  · exact queue.trans (keepsPorts_paceSent _ _ _ _)
  · exact queue

theorem keepsPorts_frameOut (c : Chip) (i q : Nat) (f : Frame) : KeepsPorts c (frameOut c i q f) := by
  unfold frameOut
  split
  · exact (keepsPorts_packetSent _ _ _ _).trans ⟨rfl, fun _ _ _ _ => rfl⟩
  · exact ⟨rfl, fun _ _ _ _ => rfl⟩

/-- The head frame leaves its queue, counted. -/
theorem sendHead_spec {c : Chip} {i q : Nat} {f : Frame} {fs : List Frame} (hi : i < 16) (head : qFrames c q = f :: fs) :
    qFrames (sendHead c i q) q = fs ∧ odN (sendHead c i q) (0x20100 + i) 3 = (odN c (0x20100 + i) 3 + 1) % 2 ^ 64
      ∧ odN (sendHead c i q) (0x20100 + i) 4 = (odN c (0x20100 + i) 4 + f.len) % 2 ^ 64 := by
  rw [sendHead_acts head]
  generalize shaped : (pathShapers (setFrames c q fs) q).foldl (fun s k => debitShaper s f.len k) (setFrames c q fs) = x
  have debited : KeepsPorts (setFrames c q fs) x := shaped ▸
    foldl_rel KeepsPorts .refl (fun _ _ _ => .trans) _ _ (fun b k _ => keepsPorts_debitShaper b f.len k) _
  obtain ⟨queues, counts⟩ := debited.trans (keepsPorts_framePaced x q f)
  generalize framePaced x q f = z at queues counts
  obtain ⟨queues', counts'⟩ := keepsPorts_frameOut (portCount (portCount z i 3 1) i 4 f.len) i q f
  refine ⟨?_, ?_, ?_⟩
  · rw [qFrames, queues', show (portCount (portCount z i 3 1) i 4 f.len).net.queues = z.net.queues from rfl, queues]
    exact qFrames_setFrames_same c q fs
  · rw [counts' _ _ (by decide) (by omega), portCount, odN_odAdd64_ne _ _ _ _ _ _ (by decide) (by decide) (Or.inr (by decide)),
      portCount, odN_odAdd64_same, counts _ _ (by decide) (by omega)]
    rfl
  · rw [counts' _ _ (by decide) (by omega), portCount, odN_odAdd64_same, portCount,
      odN_odAdd64_ne _ _ _ _ _ _ (by decide) (by decide) (Or.inr (by decide)), counts _ _ (by decide) (by omega)]
    rfl

/-- A PTP message goes before the hierarchy. -/
theorem egressSelect_ptp {c : Chip} {i : Nat} {m : Bytes} {ms : List Bytes} (here : subExists c i = true) (up : subState c i = 2)
    (waits : tget [] c.net.ptp i = m :: ms) : egressSelect c i = emit (portCount (portCount
      { c with net := { c.net with ptp := tset [] c.net.ptp i ms } } i 3 1) i 4 (m.length + 4)) (.frame i 0xFFFF m) := by
  unfold egressSelect
  rw [if_neg (by rw [here]; simp [up]), waits]

/-- Without one the hierarchy chooses. -/
theorem egressSelect_queue {c : Chip} {i t g q : Nat} {d d' : Table Nat} (here : subExists c i = true) (up : subState c i = 2)
    (silent : tget [] c.net.ptp i = []) (open_ : maxOk c (odN c 0x21020 (i + 1)) = true)
    (cls : pickClass c i = some (t, d)) (group : pickGroup c d i t = some (g, q, d')) :
    egressSelect c i = sendHead (served c d' i t g q) i q := by
  unfold egressSelect
  rw [if_neg (by rw [here]; simp [up]), silent]
  dsimp only
  rw [if_neg (by rw [open_]; decide), cls]
  dsimp only
  rw [group]

/-! ### The wheel -/

/-- An entry of the slot being processed: the wheel stands, nothing is placed in this slot again, and other entries stay. -/
theorem wheelEntry_spec (c : Chip) (n : Nat) (late : 16 * (c.net.wheel + 1) ≤ nowNs c) :
    (wheelEntry c n).net.wheel = c.net.wheel ∧ (wheelEntry c n).tb = c.tb ∧ (wheelEntry c n).od = c.od
      ∧ (∀ x ∈ (wheelEntry c n).net.slots, x ∈ c.net.slots ∨ x.1 ≠ c.net.wheel)
      ∧ (∀ k, k ≠ n → tget? (wheelEntry c n).net.paces k = tget? c.net.paces k)
      ∧ (∀ p, tget? c.net.paces n = some p → p.e < (c.net.wheel + 1) * 2 ^ 20 →
          tget? (wheelEntry c n).net.paces n = some { p with slot := none }) := by
  unfold wheelEntry
  split
  · rename_i unlisted
    exact ⟨rfl, rfl, rfl, fun x hx => Or.inl hx, fun _ _ => rfl, fun p hp => absurd (unlisted.symm.trans hp) (by simp)⟩
  · rename_i p listed
    split
    · refine ⟨rfl, rfl, rfl, fun x hx => Or.inl hx, fun k hk => tget?_tput_other _ _ _ _ hk, fun p' hp' _ => ?_⟩
      rw [listed] at hp'
      cases hp'
      exact tget?_tput_same _ _ _
    · rename_i later
      refine ⟨rfl, rfl, rfl, fun x hx => ?_, fun k hk => tget?_tput_other _ _ _ _ hk, fun p' hp' due => ?_⟩
      · obtain old | new := List.mem_append.1 hx
        · exact Or.inl old
        · right
          rw [List.mem_singleton.1 new]
          show slotFor c p.e ≠ c.net.wheel
          unfold slotFor
          split
          · omega
          · omega
      · rw [listed] at hp'
        cases hp'
        exact absurd due later

/-- A due entry once its slot has been processed. -/
def passedEntry (l : List (Nat × Nat)) (k : Nat) (p : Pace) : Pace := if k ∈ l.map (·.2) then { p with slot := none } else p

/-- The entries of a slot: each due one is passed, and no entry is placed in the slot again. -/
theorem wheelEntries_spec (l : List (Nat × Nat)) (c : Chip) (late : 16 * (c.net.wheel + 1) ≤ nowNs c)
    (left : ∀ x ∈ c.net.slots, x.1 ≠ c.net.wheel) : let b := l.foldl (fun s x => wheelEntry s x.2) c
    b.net.wheel = c.net.wheel ∧ b.tb = c.tb ∧ b.od = c.od ∧ (∀ x ∈ b.net.slots, x.1 ≠ c.net.wheel)
      ∧ ∀ k p, tget? c.net.paces k = some p → p.e < (c.net.wheel + 1) * 2 ^ 20 →
          tget? b.net.paces k = some (passedEntry l k p) := by
  induction l generalizing c with
  | nil => exact ⟨rfl, rfl, rfl, left, fun k p hp _ => hp⟩
  | cons x r ih =>
    obtain ⟨wheel, tb, od, slots, others, own⟩ := wheelEntry_spec c x.2 late
    have later : 16 * ((wheelEntry c x.2).net.wheel + 1) ≤ nowNs (wheelEntry c x.2) := by
      rw [wheel, nowNs, tb]
      exact late
    obtain ⟨wheel', tb', od', slots', passed⟩ := ih (wheelEntry c x.2) later (fun y hy => by
      rw [wheel]
      exact (slots y hy).elim (left y) id)
    refine ⟨wheel'.trans wheel, tb'.trans tb, od'.trans od, fun y hy => wheel ▸ slots' y hy, fun k p hp due => ?_⟩
    by_cases own_entry : k = x.2
    · subst own_entry
      have now_passed := passed x.2 _ (own p hp due) (by rw [wheel]; exact due)
      rw [passedEntry, if_pos (by simp)]
      refine now_passed.trans (congrArg some ?_)
      unfold passedEntry
      split <;> rfl
    · have kept := passed k p ((others k own_entry).trans hp) (by rw [wheel]; exact due)
      refine kept.trans (congrArg some ?_)
      unfold passedEntry
      simp only [List.map_cons, List.mem_cons, own_entry, false_or]

/-- The block once the entries of the current slot have been processed. -/
def wheelPassed (c : Chip) : Chip :=
  (c.net.slots.filter (fun x => x.1 == c.net.wheel)).foldl (fun s x => wheelEntry s x.2)
    { c with net := { c.net with slots := c.net.slots.filter (fun x => x.1 != c.net.wheel) } }

theorem wheelSlot_acts {c : Chip} (late : 16 * (c.net.wheel + 1) ≤ nowNs c) : wheelSlot c =
    let z := if 16 * (c.net.wheel + 1) + 1000 < nowNs (wheelPassed c) then odInc (wheelPassed c) 0x23011 0 else wheelPassed c
    { z with net := { z.net with wheel := c.net.wheel + 1 } } := by
  unfold wheelSlot
  dsimp only
  rw [if_neg (Nat.not_lt.2 late)]
  rfl

/-- A slot that has ended is processed. -/
theorem wheelSlot_spec {c : Chip} (late : 16 * (c.net.wheel + 1) ≤ nowNs c) : let b := wheelSlot c
    b.net.wheel = c.net.wheel + 1 ∧ (∀ x ∈ b.net.slots, x.1 ≠ c.net.wheel)
      ∧ (∀ k p, (c.net.wheel, k) ∈ c.net.slots → tget? c.net.paces k = some p → p.e < (c.net.wheel + 1) * 2 ^ 20 →
          tget? b.net.paces k = some { p with slot := none })
      ∧ odN b 0x23011 0 = (if 16 * (c.net.wheel + 1) + 1000 < nowNs c then (odN c 0x23011 0 + 1) % 2 ^ 32 else odN c 0x23011 0)
      ∧ Keeps c b [(0x23011, 0)] := by
  obtain ⟨-, tb, od, slots, passed⟩ := wheelEntries_spec (c.net.slots.filter (fun x => x.1 == c.net.wheel))
    { c with net := { c.net with slots := c.net.slots.filter (fun x => x.1 != c.net.wheel) } } late (fun x hx => by
      obtain ⟨-, other⟩ := List.mem_filter.1 hx
      simpa using other)
  rw [wheelSlot_acts late, wheelPassed]
  dsimp only at tb od slots passed ⊢
  generalize List.foldl _ _ _ = y at tb od slots passed ⊢
  have now : nowNs y = nowNs c := by rw [nowNs, tb, nowNs]
  rw [now]
  have due (k : Nat) (p : Pace) (listed : (c.net.wheel, k) ∈ c.net.slots) (pace : tget? c.net.paces k = some p)
      (early : p.e < (c.net.wheel + 1) * 2 ^ 20) : tget? y.net.paces k = some { p with slot := none } := by
    refine (passed k p pace early).trans (congrArg some (if_pos ?_))
    exact List.mem_map.2 ⟨_, List.mem_filter.2 ⟨listed, by simp⟩, rfl⟩
  split
  · exact ⟨rfl, slots, due, (odN_odSet_same y 0x23011 0 _).trans (by rw [odN_congr _ _ od]),
      (((Keeps.refl c _).congr od).inc 0x23011 0 (by decide) (by simp)).congr rfl⟩
  · exact ⟨rfl, slots, due, odN_congr _ _ od _ _, (Keeps.refl c _).congr od⟩

/-! ### The sampler -/

/-- The record of an egress queue once it is visited. -/
def queueSample (c : Chip) (q : Nat) : Bytes :=
  sampleRec c (odB c (0x21800 + q / 16) (q % 16 + 1)) (qBytes c q) (qFrames c q).length
    (match qFrames c q with | [] => 0 | f :: _ => nowNs c - f.at_)

theorem sampleRec_congr (c b : Chip) (shift : odN b 0x21031 0 = odN c 0x21031 0) (r : Bytes) (x y z : Nat) :
    sampleRec b r x y z = sampleRec c r x y z := by
  unfold sampleRec ewma
  rw [shift]

/-- The second field of a sample record is the depth in frames. -/
theorem fld_sampleRec_frames (c : Chip) (r : Bytes) (x y z : Nat) : fld (sampleRec c r x y z) 4 4 = y % 2 ^ 32 := by
  unfold sampleRec
  simp only [List.append_assoc]
  rw [fld_right _ _ 4 0 4 (leBytes_length 4 x).symm, fld_front]
  rfl

theorem fld_sampleRec_bytes (c : Chip) (r : Bytes) (x y z : Nat) : fld (sampleRec c r x y z) 0 4 = x % 2 ^ 32 := by
  unfold sampleRec
  simp only [List.append_assoc]
  rw [fld_front]
  rfl

/-- The queues `q` to `q + n - 1` have been visited, and no other record has changed. -/
def Sampled (c b : Chip) (q start n : Nat) : Prop :=
  b.net.sampler = (q + n, start) ∧ b.net.queues = c.net.queues ∧ b.tb = c.tb ∧ odN b 0x21031 0 = odN c 0x21031 0
    ∧ (∀ j < n, odB b (0x21800 + (q + j) / 16) ((q + j) % 16 + 1) = queueSample c (q + j))
    ∧ ∀ j ≥ n, odB b (0x21800 + (q + j) / 16) ((q + j) % 16 + 1) = odB c (0x21800 + (q + j) / 16) ((q + j) % 16 + 1)

theorem leNat_lt (b : Bytes) : leNat b < 256 ^ b.length := by
  induction b with
  | nil => decide
  | cons x r ih =>
    have := x.isLt
    rw [leNat, List.length_cons, Nat.pow_succ]
    omega

theorem fld_lt (b : Bytes) (off n : Nat) : fld b off n < 256 ^ n :=
  lt_of_lt_of_le (leNat_lt _) (Nat.pow_le_pow_right (by decide) (List.length_take_le _ _))

theorem sojournBin_le (ns : Nat) : sojournBin ns ≤ 15 := by
  unfold sojournBin
  dsimp only
  split <;> omega

/-- The number of a histogram bin lies below those of the sample records. -/
theorem bin_below (c : Chip) (g ns o k : Nat) (ho : 0x21800 ≤ o) :
    odKey o k ≠ odKey (0x21040 + gSub c g) (16 * gTcl c g + sojournBin ns + 1) := by
  have sub : gSub c g < 256 := fld_lt _ _ 1
  have cls : gTcl c g < 256 := fld_lt _ _ 1
  have bin := sojournBin_le ns
  unfold odKey
  omega

theorem samplerNext_sampled {c b : Chip} {q start n : Nat} (h : Sampled c b q start n) (begun : start ≤ nowNs c)
    (more : q + n < 16383) : Sampled c (samplerNext b) q start (n + 1) := by
  obtain ⟨sampler, queues, tb, shift, visited, others⟩ := h
  have acts : samplerNext b = { sampleQueue b (q + n) with
      net := { (sampleQueue b (q + n)).net with sampler := (q + n + 1, start) } } := by
    unfold samplerNext
    rw [sampler, if_neg (Nat.not_lt.2 (by rw [nowNs, tb]; exact begun))]
    dsimp only
    rw [if_pos more]
  have rest (o k : Nat) (ho : 0x21800 ≤ o) (hk : k < 256) : odB (samplerNext b) o k =
      odB (odSetB b (0x21800 + (q + n) / 16) ((q + n) % 16 + 1) (queueSample b (q + n))) o k := by
    rw [acts]
    exact odB_odSet_other _ _ _ _ _ _ (bin_below _ _ _ _ _ ho)
  have same : queueSample b (q + n) = queueSample c (q + n) := by
    unfold queueSample
    rw [sampleRec_congr c b shift, others n le_rfl]
    unfold qBytes qFrames nowNs
    rw [queues, tb]
  refine ⟨by rw [acts]; rfl, by rw [acts]; exact queues, by rw [acts]; exact tb, ?_, fun j hj => ?_, fun j hj => ?_⟩
  · rw [acts]
    refine (odN_odSet_other _ _ _ _ _ _ ?_).trans ((odN_odSetB _ _ _ _ _ _ (by omega) (by decide) (by omega)).trans shift)
    unfold odKey
    omega
  · rw [rest _ _ (by omega) (by omega), odB_odSetB _ _ _ _ _ _ (by omega) (by omega)]
    split
    · rename_i eq
      have : j = n := by omega
      rw [this, same]
    · rename_i ne
      have : j ≠ n := fun e => ne (by rw [e]; exact ⟨rfl, rfl⟩)
      exact visited j (by omega)
  · rw [rest _ _ (by omega) (by omega), odB_odSetB _ _ _ _ _ _ (by omega) (by omega), if_neg (by omega)]
    exact others j (by omega)

/-- A visit of the sampler to four queues within the pass. -/
theorem samplerVisit_queues {c : Chip} {q start : Nat} (i : Nat) (at_ : c.net.sampler = (q, start)) (begun : start ≤ nowNs c)
    (within : q < 16380) : Sampled c (samplerVisit c 0 i) q start 4 := by
  have h0 : Sampled c c q start 0 := ⟨at_, rfl, rfl, rfl, fun _ h => absurd h (Nat.not_lt_zero _), fun _ _ => rfl⟩
  have h1 := samplerNext_sampled h0 begun (by omega)
  have h2 := samplerNext_sampled h1 begun (by omega)
  have h3 := samplerNext_sampled h2 begun (by omega)
  exact samplerNext_sampled h3 begun (by omega)

theorem bin_sub {v : Nat} (hv : v < 8) (ns : Nat) : 16 * v + sojournBin ns + 1 < 256 := by
  have := sojournBin_le ns
  omega

theorem sampleClass_depth {c : Chip} {v : Nat} (hv : v < 8) : fld (odB (sampleClass c v) (0x53030 + v) 0) 0 4 =
    (((ledReqs c).map (·.2)).filter (fun r => qClass r == v && r.phase == 1)).length % 2 ^ 32 := by
  unfold sampleClass
  dsimp only
  rw [odInc, odB_odSet _ _ _ _ _ _ (by exact bin_sub hv _) (by decide) (Or.inl (by omega)), odB_odSetB_same,
    fld_sampleRec_bytes]

/-- A sample record after SAMPLER_RESET. -/
def resetRec (r : Bytes) : Bytes :=
  splice (splice r 8 (leBytes 4 0xFFFFFFFF ++ leBytes 4 0)) 24 (leBytes 4 0xFFFFFFFF ++ leBytes 4 0)

theorem resetRec_fields (r : Bytes) : fld (resetRec r) 8 4 = 0xFFFFFFFF ∧ fld (resetRec r) 12 4 = 0
    ∧ fld (resetRec r) 24 4 = 0xFFFFFFFF ∧ fld (resetRec r) 28 4 = 0 := by
  have low (o : Nat) (ho : o + 4 ≤ 8) : fld (resetRec r) (8 + o) 4 = fld (leBytes 4 0xFFFFFFFF ++ leBytes 4 0) o 4 := by
    have long := splice_length_le r (leBytes 4 0xFFFFFFFF ++ leBytes 4 0) 8
    rw [show (leBytes 4 0xFFFFFFFF ++ leBytes 4 0).length = 8 from rfl] at long
    rw [resetRec, fld_splice_before _ _ _ _ _ (by omega) (by omega), fld_splice_in _ _ _ _ _ ho]
  have high (o : Nat) (ho : o + 4 ≤ 8) : fld (resetRec r) (24 + o) 4 = fld (leBytes 4 0xFFFFFFFF ++ leBytes 4 0) o 4 :=
    fld_splice_in _ _ _ _ _ ho
  exact ⟨low 0 (by decide), low 4 (by decide), high 0 (by decide), high 4 (by decide)⟩

/-- SAMPLER_RESET of one record. -/
def resetSample (c : Chip) (x : Nat) : Chip :=
  odSetB c (0x21800 + x / 16) (x % 16 + 1) (resetRec (odB c (0x21800 + x / 16) (x % 16 + 1)))

theorem resetSample_record (c : Chip) (x q : Nat) : odB (resetSample c x) (0x21800 + q / 16) (q % 16 + 1) =
    if q = x then resetRec (odB c (0x21800 + x / 16) (x % 16 + 1)) else odB c (0x21800 + q / 16) (q % 16 + 1) := by
  rw [resetSample, odB_odSetB _ _ _ _ _ _ (by omega) (by omega)]
  by_cases h : q = x
  · rw [if_pos h, if_pos (by rw [h]; exact ⟨rfl, rfl⟩)]
  · rw [if_neg h, if_neg (by omega)]

/-- SAMPLER_RESET of `n` records from `a` on. -/
theorem resetSamples_record (c : Chip) (a n q : Nat) (ha : a ≤ q) (hq : q < a + n) :
    ∃ r, odB ((List.range n).foldl (fun s k => resetSample s (a + k)) c) (0x21800 + q / 16) (q % 16 + 1) = resetRec r := by
  induction n with
  | zero => omega
  | succ n ih =>
    rw [List.range_succ, List.foldl_append, List.foldl_cons, List.foldl_nil, resetSample_record]
    split
    · exact ⟨_, rfl⟩
    · exact ih (by omega)

/-- Settles O44: levels and records by the bucket's credit, the choice by the head frame, the wheel by its slot's entries. -/
theorem trafficManagerServes : Obligations.TrafficManagerServes := by
  unfold Obligations.TrafficManagerServes
  intro s k i t g q start v m ms d d' f fs rq arg n p
  dsimp only
  refine ⟨fun hk due mode waits => ?_, fun hk due on => ?_, fun hi here up => ⟨fun waits => ?_, fun silent below cls group head => ?_⟩,
    fun late => ?_, fun at_ begun within => ?_, fun hq queue => ?_, fun hv => ?_, fun ok range lo hi => ?_, fun ok range => ?_⟩
  · exact ⟨_, _, rfl, bucketRefill_meter hk due mode, refillBucket_both t waits⟩
  · exact ⟨_, rfl, bucketRefill_shaper hk due on⟩
  · have keeps (b : Chip) : Keeps b (portCount (portCount b i 3 1) i 4 (m.length + 4)) [(0x20100 + i, 3), (0x20100 + i, 4)] :=
      ((Keeps.refl b _).add64 _ _ _ (by decide) (by simp)).add64 _ _ _ (by decide) (by simp)
    refine ⟨_, congrArg (becomes s) (egressSelect_ptp here up waits), tget_tset_same _ _ _ _, rfl, ?_, ?_, (keeps _).congr rfl⟩
    · exact (odN_odAdd64_ne _ _ _ _ _ _ (by decide) (by decide) (Or.inr (by decide))).trans (odN_odAdd64_same _ _ _ _)
    · refine (odN_odAdd64_same _ _ _ _).trans (congrArg (fun x => (x + (m.length + 4)) % 2 ^ 64) ?_)
      exact odN_odAdd64_ne _ _ _ _ _ _ (by decide) (by decide) (Or.inr (by decide))
  · exact ⟨_, congrArg (becomes s) (egressSelect_queue here up silent below cls group), rfl, sendHead_spec hi head⟩
  · obtain ⟨wheel, slots, due, count, keeps⟩ := wheelSlot_spec late
    exact ⟨_, rfl, wheel, slots, fun listed pace early => due k p listed pace early, count, keeps⟩
  · obtain ⟨sampler, -, -, -, visited, -⟩ := samplerVisit_queues i at_ begun within
    exact ⟨_, rfl, sampler, visited 0 (by decide), visited 1 (by decide), visited 2 (by decide), visited 3 (by decide)⟩
  · have acts : samplerVisit s.chip 1 q = _ := (if_pos hq).trans (by rw [sampleNative, queue])
    exact ⟨_, congrArg (becomes s) acts, fld_sampleRec_frames _ _ _ _ _⟩
  · have acts : samplerVisit s.chip 2 v = sampleClass s.chip v := if_pos hv
    exact ⟨_, congrArg (becomes s) acts, sampleClass_depth hv⟩
  · refine ⟨(List.range (fld arg 2 2)).foldl (fun s k => resetSample s (fld arg 0 2 + k)) s.chip,
      actionRow_acks _ s rq _ arg _ ok (if_neg (Nat.not_lt.2 range)), ?_⟩
    obtain ⟨r, record⟩ := resetSamples_record s.chip _ _ q lo hi
    rw [record]
    exact resetRec_fields r
  · exact actionRow_refuses _ s rq _ arg _ _ _ ok (by decide) (by decide) (if_pos range)

end Sys2Proof.Machine

end

/-! ## What transfers leave alone (10 R273 to R279; 12 R328 to R341)

`Moves a b`: from `a` to `b` only memory, the cache, cached translations, the free values and the counters of caches and of
translation have changed. `Transfers a b` leaves the fault records of any agent open besides. -/
section
namespace Sys2Proof.Machine

/-- Only what transfers change has changed, in the state; `Moves` says it for the objects too. -/
def Transfers (a b : Chip) : Prop :=
  b = { a with od := b.od, events := b.events, mem := b.mem, plats := { a.plats with tlb := b.plats.tlb }, free := b.free }

/-- An object that no transfer of a platform or of the device counts in. -/
def NoTransfer (o k : Nat) : Prop :=
  (o < 0x10140 ∨ 0x101C0 ≤ o) ∧ (o < 0x41020 ∨ 0x410C0 ≤ o) ∧ (o ≠ 0x01120 ∨ k ≠ 0)

/-- Only what transfers change has changed. -/
def Moves (a b : Chip) : Prop := Transfers a b ∧ ∀ o k, k < 256 → NoTransfer o k → odGet b o k = odGet a o k

theorem Transfers.refl (a : Chip) : Transfers a a := rfl

theorem Transfers.trans {a b c : Chip} (h : Transfers a b) (g : Transfers b c) : Transfers a c := by
  unfold Transfers at h g ⊢
  rw [g, h]

theorem Moves.refl (a : Chip) : Moves a a := ⟨.refl a, fun _ _ _ _ => rfl⟩

theorem Moves.trans {a b c : Chip} (h : Moves a b) (g : Moves b c) : Moves a c := by
  obtain ⟨h1, h2⟩ := h
  obtain ⟨g1, g2⟩ := g
  exact ⟨h1.trans g1, fun o k hk ho => (g2 o k hk ho).trans (h2 o k hk ho)⟩

/-- The objects are the same. -/
theorem Moves.of_od {a b : Chip} (h : b = { a with mem := b.mem, plats := { a.plats with tlb := b.plats.tlb }, free := b.free }) :
    Moves a b := by
  refine ⟨?_, fun o k _ _ => ?_⟩
  · unfold Transfers
    rw [h]
  · rw [h]
    rfl

theorem moves_put (c : Chip) (o k : Nat) (v : OdVal) (hk : k < 256) (ho : ¬ NoTransfer o k) : Moves c (odPut c o k v) := by
  refine ⟨rfl, fun o' k' hk' ho' => ?_⟩
  rw [odGet_odPut _ _ _ _ _ _ hk hk', if_neg]
  rintro ⟨rfl, rfl⟩
  exact ho ho'

/-! ### The platform cache -/

theorem moves_count (c : Chip) (k n : Nat) (hk : k < 256) : Moves c (odAdd64 c 0x41020 k n) :=
  moves_put c _ k _ hk (fun h => by have := h.2.1; omega)

theorem moves_countPlat (c : Chip) (p k n : Nat) (hk : k < 256) :
    Moves c (if p < 64 then odAdd64 c (0x41080 + p) k n else c) := by
  split
  · exact moves_put c _ k _ hk (fun h => by have := h.2.1; omega)
  · exact .refl c

theorem moves_evict (c : Chip) (ln : Nat) : Moves c (evict c ln) := by
  unfold evict
  split
  · exact .refl c
  · exact (moves_count c 3 _ (by decide)).trans (.of_od rfl)

theorem moves_makeRoom (c : Chip) (ln ret : Nat) : Moves c (makeRoom c ln ret) := by
  unfold makeRoom
  dsimp only
  split
  · split
    · exact moves_evict c _
    · exact .refl c
  · split
    · exact .refl c
    · split
      · exact moves_evict c _
      · split
        · exact moves_evict c _
        · split
          · exact moves_evict c _
          · exact .refl c

theorem moves_lineFor (c : Chip) (ln ret p : Nat) : Moves c (lineFor c ln ret p) := by
  unfold lineFor
  split
  · exact .refl c
  · exact (moves_makeRoom c ln ret).trans (.of_od rfl)

theorem moves_countHit (c : Chip) (hit : Bool) (p : Nat) : Moves c (countHit c hit p) := by
  have small : (if hit = true then 1 else 2) < 256 := by split <;> decide
  exact (moves_count c _ 1 small).trans (moves_countPlat _ p _ 1 small)

theorem moves_touch (c : Chip) (ln : Nat) (f : Line → Line) : Moves c (touch c ln f) := by
  unfold touch
  split
  · exact .refl c
  · exact .of_od rfl

theorem moves_dropSector (c : Chip) (a : Nat) (back : Bytes) : Moves c (dropSector c a back) := by
  unfold dropSector
  dsimp only
  split <;> exact .of_od rfl

theorem moves_dropDirty (c : Chip) (dirty : Bool) (a : Nat) (back : Bytes) :
    Moves c (if dirty then dropSector c a back else c) := by
  split
  · exact moves_dropSector c a back
  · exact .refl c

theorem moves_dropLine (c : Chip) (ln p : Nat) : Moves c (dropLine c ln p) := by
  unfold dropLine
  split
  · exact .refl c
  · rename_i l held
    have counted (b : Chip) (d : Bool) : Moves b (if d then
        (let s := odAdd64 b 0x41020 4 1
         if p < 64 then odAdd64 s (0x41080 + p) 3 1 else s) else b) := by
      split
      · exact (moves_count b 4 1 (by decide)).trans (moves_countPlat _ p 3 1 (by decide))
      · exact .refl b
    exact (((Moves.of_od rfl).trans (counted _ _)).trans (moves_dropDirty _ _ _ _)).trans (moves_dropDirty _ _ _ _)

theorem moves_cacheRead (c : Chip) (ln sec hint p : Nat) : Moves c (cacheRead c ln sec hint p) := by
  have counted := moves_countHit c (sectorHeld c ln sec) p
  unfold cacheRead
  dsimp only
  split
  · exact counted.trans (moves_dropLine _ ln p)
  · split
    · exact counted.trans (moves_touch _ ln id)
    · exact (counted.trans (moves_lineFor _ ln _ p)).trans (moves_touch _ ln _)

theorem moves_cacheWrite (c : Chip) (ln sec hint p : Nat) : Moves c (cacheWrite c ln sec hint p) := by
  have counted := moves_countHit c (sectorHeld c ln sec) p
  unfold cacheWrite
  dsimp only
  split
  · exact counted
  · exact (counted.trans (moves_lineFor _ ln _ p)).trans (moves_touch _ ln _)

theorem moves_cacheAccess (c : Chip) (a n hint p die : Nat) (write : Bool) : Moves c (cacheAccess c a n hint p die write) := by
  refine foldl_rel Moves .refl (fun _ _ _ => .trans) _ _ (fun b x _ => ?_) c
  have access (y : Chip) : Moves y (if write then cacheWrite y x.1 x.2 hint p else cacheRead y x.1 x.2 hint p) := by
    split
    · exact moves_cacheWrite y _ _ _ _
    · exact moves_cacheRead y _ _ _ _
  split
  · refine Moves.trans ?_ (access _)
    split
    · exact moves_count b 5 1 (by decide)
    · exact .refl b
  · exact .refl b

/-! ### Accesses to device memory -/

/-- The block an access leaves; a refused one leaves it as it was. -/
def MemRes.chip (c : Chip) : MemRes → Chip
  | .ok _ s => s
  | .refused => c
  | .dataError s => s

theorem moves_devRead (c : Chip) (a n hint p die : Nat) : Moves c ((devRead c a n hint p die).chip c) := by
  unfold devRead
  split
  · exact .refl c
  · split
    · split
      · exact .refl c
      · exact moves_cacheAccess c _ _ _ _ _ _
    all_goals exact .refl c

theorem moves_devWrite (c : Chip) (a : Nat) (v : Bytes) (hint p die : Nat) : Moves c ((devWrite c a v hint p die).chip c) := by
  unfold devWrite
  split
  · exact .refl c
  · split
    · exact (moves_cacheAccess c _ _ _ _ _ _).trans (.of_od rfl)
    · exact .refl c
    · exact .refl c
    · show Moves c (if p < 64 then _ else _)
      split
      · exact moves_put c _ 1 _ (by decide) (fun h => by have := h.1; omega)
      · exact .refl c

/-! ### Translation -/

/-- The block a walk leaves. -/
def Walk.chip : Walk → Chip
  | .leaf _ s => s
  | .fault _ s => s

/-- The block a translation leaves. -/
def Target.chip : Target → Chip
  | .dev _ s => s
  | .host _ _ s => s
  | .fault _ s => s

theorem moves_readEntry {c : Chip} {a p : Nat} {r : MemRes} (h : readEntry c a p = r) : Moves c (r.chip c) :=
  h ▸ moves_devRead c a 8 0 p 0

theorem leaf1_chip (c : Chip) (p a e : Nat) : (leaf1 c p a e).chip = c := by
  unfold leaf1
  split
  · rfl
  · split <;> rfl

theorem moves_leaf0 (c : Chip) (p a e table : Nat) : Moves c (leaf0 c p a e table).chip := by
  unfold leaf0
  dsimp only
  split
  · split <;> exact .refl c
  · split
    · rename_i b s entry
      have read := moves_readEntry entry
      split
      · split <;> exact read
      · exact read
    · exact .refl c
    · rename_i s entry
      exact moves_readEntry entry

theorem moves_walkFrom (c : Chip) (p a table n : Nat) : Moves c (walkFrom c p a table n).chip := by
  induction n generalizing c table with
  | zero =>
    unfold walkFrom
    split
    · exact .refl c
    · split
      · rename_i b s entry
        have read := moves_readEntry entry
        dsimp only
        split
        · exact read
        · split
          · exact read
          · exact read.trans (moves_leaf0 s p a _ table)
      · exact .refl c
      · rename_i s entry
        exact moves_readEntry entry
  | succ n ih =>
    unfold walkFrom
    split
    · exact .refl c
    · split
      · rename_i b s entry
        have read := moves_readEntry entry
        dsimp only
        split
        · exact read
        · split
          · exact read
          · split
            · split
              · rw [leaf1_chip]
                exact read
              · exact read
            · exact read.trans (ih s _)
      · exact .refl c
      · rename_i s entry
        exact moves_readEntry entry

theorem moves_takeFree (c : Chip) (w : Nat) : Moves c (takeFree c w).2 := .of_od rfl

theorem moves_lookup (c : Chip) (p a : Nat) : Moves c (lookup c p a).chip := by
  have walked : Moves c (walk c p a).chip := moves_walkFrom c p a _ 3
  unfold lookup
  dsimp only
  generalize walk c p a = r at walked
  split
  · split
    · exact walked.trans (.of_od rfl)
    · exact walked
  · split
    · split
      · exact walked
      · split <;> exact walked.trans (moves_takeFree _ 1)
    · split <;> exact walked.trans (moves_takeFree _ 1)

theorem moves_translate (c : Chip) (p a : Nat) (write : Bool) : Moves c (translate c p a write).chip := by
  have looked := moves_lookup c p a
  unfold translate
  split
  · exact .refl c
  · split
    · exact .refl c
    · generalize lookup c p a = r at looked
      split
      · exact looked
      · rename_i e s
        generalize (if write = true then !teW e else !teR e) = refused
        split
        · exact looked
        · split
          · split <;> exact looked
          · exact looked

theorem moves_checkOne (c : Chip) (g : Agent) (a n : Nat) (write : Bool) (b : Bound) :
    Moves c (checkOne c g a n write b).1.chip := by
  have translated (p : Nat) := moves_translate c p a write
  unfold checkOne
  split
  · split
    · rename_i p
      have := translated p
      generalize translate c p a write = r at this
      split <;> exact this
    · exact .refl c
  · split
    · dsimp only
      split <;> exact .refl c
    · dsimp only
      split <;> exact .refl c
    · rename_i p
      have := translated p
      generalize translate c p a write = r at this
      split
      · dsimp only
        split <;> exact this
      · dsimp only
        split <;> exact this
      · exact this

/-! ### Transfers -/

theorem moves_readOne (c : Chip) (g : Agent) (a n hint die : Nat) (b : Bound) : Moves c (readOne c g a n hint die b).1.s := by
  have checked := moves_checkOne c g a n false b
  unfold readOne
  generalize checkOne c g a n false b = r at checked
  split
  · exact checked
  · exact checked
  · rename_i x s y
    have read := moves_devRead s x n hint g.num die
    generalize devRead s x n hint g.num die = m at read
    split
    · exact checked.trans read
    · exact checked
    · exact checked.trans read

theorem moves_writeOne (c : Chip) (g : Agent) (a : Nat) (v : Bytes) (hint die : Nat) (b : Bound) :
    Moves c (writeOne c g a v hint die b).1.s := by
  have checked := moves_checkOne c g a v.length true b
  unfold writeOne
  generalize checkOne c g a v.length true b = r at checked
  split
  · exact checked
  · exact checked.trans (.of_od rfl)
  · rename_i x s y
    have written := moves_devWrite s x v hint g.num die
    generalize devWrite s x v hint g.num die = m at written
    split
    · exact checked.trans written
    · exact checked
    · exact checked.trans written

section
variable {R : Chip → Chip → Prop} (refl : ∀ a, R a a) (trans : ∀ a b c, R a b → R b c → R a c)
  (moved : ∀ a b, Moves a b → R a b)
include refl trans moved

theorem readAll_rel {g : Agent} (fault : ∀ c x k u n w, R c (descFault c g x k u n w)) (c : Chip) (hint die u : Nat) (b : Bound)
    (l : List (Nat × Nat)) : R c (readAll c g hint die u b l).s := by
  induction l generalizing c with
  | nil => exact refl c
  | cons x r ih =>
    have one := moved _ _ (moves_readOne c g x.1 x.2 hint die b)
    unfold readAll
    dsimp only
    split
    · exact trans _ _ _ one (ih _)
    · split
      · exact trans _ _ _ one (fault _ _ _ _ _ _)
      · exact one

theorem writeRest_rel (c : Chip) (g : Agent) (hint die : Nat) (b : Bound) (base : Nat) (v : Bytes) (l : List (Nat × Nat)) :
    R c (writeRest c g hint die b base v l) := by
  induction l generalizing c with
  | nil => exact refl c
  | cons x r ih =>
    have chosen := moved _ _ (moves_takeFree c 1)
    unfold writeRest
    dsimp only
    split
    · exact trans _ _ _ chosen (ih _)
    · exact trans _ _ _ chosen (trans _ _ _ (moved _ _ (moves_writeOne _ g _ _ hint die b)) (ih _))

theorem writeAll_rel {g : Agent} (fault : ∀ c x k u n w, R c (descFault c g x k u n w)) (c : Chip) (hint die u : Nat) (b : Bound)
    (base : Nat) (v : Bytes) (l : List (Nat × Nat)) : R c (writeAll c g hint die u b base v l).s := by
  induction l generalizing c with
  | nil => exact refl c
  | cons x r ih =>
    have one := moved _ _ (moves_writeOne c g x.1 ((v.drop (x.1 - base)).take x.2) hint die b)
    unfold writeAll
    dsimp only
    split
    · exact trans _ _ _ one (ih _)
    · split
      · exact trans _ _ _ one (trans _ _ _ (fault _ _ _ _ _ _) (writeRest_rel refl trans moved _ _ _ _ _ _ _ _))
      · exact one
end

/-- The record of an ended descriptor changes its platform's record and counters only. -/
theorem transfers_descFault (c : Chip) (g : Agent) (x k u n : Nat) (w : Bool) : Transfers c (descFault c g x k u n w) := by
  unfold descFault
  split
  · rfl
  · exact .refl c

theorem moves_raiseFull (c : Chip) (code cls : Nat) (b : Bool) (o k p u a : Nat) : Moves c (raiseFull c code cls b o k p u a) :=
  ⟨rfl, fun _ _ hk h => odGet_raiseFull c code cls b o k p u a _ _ hk h.2.2⟩

theorem moves_descFault (c : Chip) {g : Agent} (hg : ∀ p, g = .plat p → p < 64) (x k u n : Nat) (w : Bool) :
    Moves c (descFault c g x k u n w) := by
  unfold descFault
  split
  · rename_i p
    have hp := hg p rfl
    have recorded (b : Chip) (o k : Nat) (v : OdVal) (hk : k < 256) (h : o = 0x10140 + p ∨ o = 0x10180 + p) :
        Moves b (odPut b o k v) := moves_put b o k v hk (fun h' => by have := h'.1; omega)
    exact (((recorded c _ 0 _ (by decide) (Or.inl rfl)).trans (recorded _ _ 1 _ (by decide) (Or.inr rfl))).trans
      (moves_raiseFull _ _ _ _ _ _ _ _ _)).trans (recorded _ _ 2 _ (by decide) (Or.inr rfl))
  · exact .refl c

theorem transfers_read (c : Chip) (g : Agent) (a n hint die u : Nat) (b : Bound) :
    Transfers c (xferRead c g a n hint die u b).s :=
  readAll_rel .refl (fun _ _ _ => .trans) (fun _ _ => And.left) (fun c => transfers_descFault c g) c hint die u b _

theorem transfers_write (c : Chip) (g : Agent) (a : Nat) (v : Bytes) (hint die u : Nat) (b : Bound) :
    Transfers c (xferWrite c g a v hint die u b).s :=
  writeAll_rel .refl (fun _ _ _ => .trans) (fun _ _ => And.left) (fun c => transfers_descFault c g) c hint die u b a v _

theorem moves_read (c : Chip) {g : Agent} (hg : ∀ p, g = .plat p → p < 64) (a n hint die u : Nat) (b : Bound) :
    Moves c (xferRead c g a n hint die u b).s :=
  readAll_rel .refl (fun _ _ _ => .trans) (fun _ _ => id) (fun c => moves_descFault c hg) c hint die u b _

theorem moves_write (c : Chip) {g : Agent} (hg : ∀ p, g = .plat p → p < 64) (a : Nat) (v : Bytes) (hint die u : Nat) (b : Bound) :
    Moves c (xferWrite c g a v hint die u b).s :=
  writeAll_rel .refl (fun _ _ _ => .trans) (fun _ _ => id) (fun c => moves_descFault c hg) c hint die u b a v _

/-- The agent of an owner is a platform only for a platform's number. -/
theorem agentOf_plat (o p : Nat) (h : agentOf o = .plat p) : p < 64 := by
  unfold agentOf at h
  split at h
  · cases h
    assumption
  · cases h

end Sys2Proof.Machine
end

/-! ## What completions leave alone (15 R386, R393; 16 R417; 19 R488)

`Tells a b`: from `a` to `b` only what transfers change, the completion rings and the messages of functions have changed.
What ends work further, on other queues and across signals, keeps at least the state of the bring-up. -/
section
namespace Sys2Proof.Machine

/-- Only what a completion entry changes has changed. -/
def Tells (a b : Chip) : Prop :=
  b = { a with
    od := b.od, events := b.events, mem := b.mem, plats := { a.plats with tlb := b.plats.tlb }, free := b.free
    ports := b.ports, out := b.out, rdma := { a.rdma with cqs := b.rdma.cqs } }

theorem Tells.refl (a : Chip) : Tells a a := rfl

theorem Tells.trans {a b c : Chip} (h : Tells a b) (g : Tells b c) : Tells a c := by
  unfold Tells at h g ⊢
  rw [g, h]

theorem Transfers.tells {a b : Chip} (h : Transfers a b) : Tells a b := by
  unfold Transfers at h
  unfold Tells
  rw [h]

theorem tells_msix (c : Chip) (f i v : Nat) : Tells c (msix c f i v) := by
  unfold msix
  dsimp only
  split
  · rfl
  · split <;> rfl

theorem tells_msixOwner (c : Chip) (o v : Nat) : Tells c (msixOwner c o v) := by
  unfold msixOwner msixPlat
  split <;> exact tells_msix c _ _ _

theorem tells_cqPut (c : Chip) (n u : Nat) (entry : Nat → Nat → Bytes) : Tells c (cqPut c n u entry) := by
  unfold cqPut
  split
  · exact .refl c
  · split
    · exact .refl c
    · rename_i q _ _
      have stored : Tells c (setCq (xferWrite c (agentOf q.owner) (q.base + 64 * (q.prod % 2 ^ q.log))
          (entry q.prod (phaseOf q.prod q.log)) 0 0 u Bound.free).s n { q with prod := idxNext q.prod, armed := false }) :=
        (transfers_write c _ _ _ _ _ _ _).tells.trans rfl
      dsimp only
      split
      · exact stored.trans (tells_msixOwner _ _ _)
      · exact stored

theorem tells_qpPut (c : Chip) (w : Nat) (recv : Bool) (st op wr n imm orig : Nat) : Tells c (qpPut c w recv st op wr n imm orig) :=
  tells_cqPut c _ _ _

theorem tells_flushSent (c : Chip) (w st : Nat) (l : List Sent) : Tells c (flushSent c w st l) := by
  induction l generalizing c st with
  | nil => exact .refl c
  | cons x r ih => exact (tells_qpPut c w _ _ _ _ _ _ _).trans (ih _ _)

theorem tells_flushSends (c : Chip) (w i n : Nat) : Tells c (flushSends c w i n) := by
  induction n generalizing c i with
  | zero => exact .refl c
  | succ n ih => exact ((transfers_read c _ _ _ _ _ _ _).tells.trans (tells_qpPut _ w _ _ _ _ _ _ _)).trans (ih _ _)

theorem tells_flushRecvs (c : Chip) (w i n : Nat) : Tells c (flushRecvs c w i n) := by
  induction n generalizing c i with
  | zero => exact .refl c
  | succ n ih => exact ((transfers_read c _ _ _ _ _ _ _).tells.trans (tells_qpPut _ w _ _ _ _ _ _ _)).trans (ih _ _)

/-! ### Queue pairs -/

/-- A queue pair in ERROR. -/
def Qp.failed (q : Qp) (ev : Nat) : Qp :=
  { q with state := 4, lastErr := ev, pace := none, sent := [], sqCons := q.sqProd, rqCons := q.rqProd, rx := none, finals := [] }

/-- The work of a queue pair that enters ERROR has completed. -/
def qpFlushed (c : Chip) (w st : Nat) (q : Qp) : Chip :=
  flushRecvs (flushSends (flushSent c w st q.sent) w q.sqCons (idxSub q.sqProd q.sqCons)) w q.rqCons (idxSub q.rqProd q.rqCons)

theorem tells_qpFlushed (c : Chip) (w st : Nat) (q : Qp) : Tells c (qpFlushed c w st q) :=
  ((tells_flushSent c w st _).trans (tells_flushSends _ w _ _)).trans (tells_flushRecvs _ w _ _)

theorem qpErrorAs_acts {c : Chip} {w : Nat} (st ev : Nat) (live : (qpOf c w).state ≠ 0) (live' : (qpOf c w).state ≠ 4) :
    qpErrorAs c w st ev = raiseP (countQps (freePace (qpFlushed (setQp c w ((qpOf c w).failed ev)) w st (qpOf c w)) (qpOf c w).pace))
      evQpError (qpOf c w).plat (w + ev * 2 ^ 24) := by
  unfold qpErrorAs
  dsimp only
  rw [if_neg (by rintro (h | h); exacts [live h, live' h])]
  rfl

theorem qpOf_setQp_same (c : Chip) (w : Nat) (q : Qp) : qpOf (setQp c w q) w = q := tget_tset_same _ _ _ _

theorem qpOf_setQp_other (c : Chip) (w x : Nat) (q : Qp) (h : x ≠ w) : qpOf (setQp c w q) x = qpOf c x :=
  tget_tset_other _ _ _ _ _ _ h

theorem qpOf_tells {a b : Chip} (h : Tells a b) (w : Nat) : qpOf b w = qpOf a w := by
  unfold qpOf
  rw [h]

theorem freePace_rdma (c : Chip) (p : Option Nat) : (freePace c p).rdma = c.rdma := by
  unfold freePace
  split <;> rfl

/-- A queue pair that enters ERROR is in ERROR with that status, and nothing is outstanding. -/
theorem qpErrorAs_spec {c : Chip} {w : Nat} (st ev : Nat) (live : (qpOf c w).state ≠ 0) (live' : (qpOf c w).state ≠ 4) :
    qpOf (qpErrorAs c w st ev) w = (qpOf c w).failed ev := by
  rw [qpErrorAs_acts st ev live live']
  have kept := qpOf_tells (tells_qpFlushed (setQp c w ((qpOf c w).failed ev)) w st (qpOf c w)) w
  rw [qpOf_setQp_same] at kept
  refine Eq.trans ?_ kept
  show tget Qp.off (freePace _ _).rdma.qps w = _
  rw [freePace_rdma]
  rfl

/-! ### The state of the bring-up -/

theorem boot_tells {a b : Chip} (h : Tells a b) : b.boot = a.boot := by rw [h]

theorem qpErrorAs_boot (c : Chip) (w st ev : Nat) : (qpErrorAs c w st ev).boot = c.boot := by
  by_cases live : (qpOf c w).state = 0 ∨ (qpOf c w).state = 4
  · exact congrArg Chip.boot (if_pos live)
  · rw [qpErrorAs_acts st ev (fun h => live (Or.inl h)) (fun h => live (Or.inr h))]
    have paced (b : Chip) (p : Option Nat) : (freePace b p).boot = b.boot := by
      unfold freePace
      split <;> rfl
    have flushed := boot_tells (tells_qpFlushed (setQp c w ((qpOf c w).failed ev)) w st (qpOf c w))
    exact (paced _ _).trans flushed

theorem sigAdd_boot (c : Chip) (g : SigAgent) (sig v : Nat) : (sigAdd c g sig v).boot = c.boot := by
  unfold sigAdd
  split
  · exact deliverAdd_boot c _ _
  · rfl

theorem addSignal_boot (c : Chip) (g : SigAgent) (sig : Nat) : (addSignal c g sig).boot = c.boot := by
  unfold addSignal
  split
  · rfl
  · exact sigAdd_boot c g sig 1

theorem wbPut_boot (c : Chip) (n : Nat) (q : NativeQ) (w : Wb) (flags energy : Nat) : (wbPut c n q w flags energy).boot = c.boot := by
  have emulated (p sq cid dw0 st : Nat) : (nvComplete c p sq cid dw0 st).boot = c.boot := by
    unfold nvComplete
    dsimp only
    split
    · rfl
    · split
      · rfl
      · have kept (b : Chip) (x : NvCtl) (y : Prop) [Decidable y] (v : Nat) :
            (if y then setNvCtl b p x else msixPlat (setNvCtl b p x) p v).boot = b.boot := by
          split
          · rfl
          · have sent := boot_tells (tells_msix (setNvCtl b p x) (fnOfPlat (setNvCtl b p x) p) (linkOfPlat (setNvCtl b p x) p) v)
            exact sent
        exact (kept _ _ _ _).trans (boot_tells (transfers_write c _ _ _ _ _ _ _).tells)
  unfold wbPut
  dsimp only
  split
  · split
    · rfl
    · exact emulated _ _ _ _ _
  · exact boot_tells (tells_cqPut c _ _ _)

theorem odAdd64_boot (c : Chip) (o k n : Nat) : (odAdd64 c o k n).boot = c.boot := rfl

theorem wbCount_boot (c : Chip) (o st : Nat) : (wbCount c o st).boot = c.boot := by
  simp only [wbCount, apply_ite Chip.boot, odAdd64_boot, ite_self]

theorem wbFinish_boot (c : Chip) (n : Nat) (w : Wb) (energy : Nat) : (wbFinish c n w energy).boot = c.boot := by
  unfold wbFinish
  split
  · rfl
  · rename_i q _
    have put (q' : NativeQ) : (wbPut (setNq c n q') n q' w (wbFlags q w) energy).boot = c.boot := wbPut_boot (setNq c n q') n q' w _ _
    have ended (b : Chip) : (let s := if w.src = 1 then dqDropJob b w.ref else b
        if w.adm = 0 then s else jobEnd s w.adm).boot = b.boot := by
      dsimp only
      split <;> split <;> rfl
    exact (ended _).trans ((wbCount_boot _ q.owner w.status).trans ((addSignal_boot _ (wbSigAgent q.owner) _).trans (put _)))

theorem wbEndAll_boot (c : Chip) (n st : Nat) (l : List Wb) : (wbEndAll c n st l).boot = c.boot := by
  induction l generalizing c with
  | nil => rfl
  | cons w r ih => exact (ih _).trans (wbFinish_boot c n _ 0)

theorem flushPosted_boot (c : Chip) (n k : Nat) : (flushPosted c n k).boot = c.boot := by
  induction k generalizing c with
  | zero => rfl
  | succ k ih =>
    unfold flushPosted
    split
    · rfl
    · split
      · rfl
      · have read (g : Agent) (a : Nat) := boot_tells (transfers_read c g a 64 0 0 uStorage Bound.free).tells
        exact (ih _).trans ((wbFinish_boot _ n _ 0).trans (read _ _))

theorem sqErrorEnter_boot (c : Chip) (n cause : Nat) : (sqErrorEnter c n cause).boot = c.boot := by
  have flushed (b : Chip) : (sqFlush b n).boot = b.boot := by
    unfold sqFlush
    split
    · rfl
    · exact (flushPosted_boot _ n _).trans (wbEndAll_boot b n 14 _)
  unfold sqErrorEnter
  split
  · rfl
  · split
    · rfl
    · exact flushed (setNq c n _)

theorem cqOverrun_boot (c : Chip) (n : Nat) : (cqOverrun c n).boot = c.boot := by
  unfold cqOverrun
  dsimp only
  refine (foldl_keeps Chip.boot _ _ (fun b q _ => sqErrorEnter_boot b q 3) _).trans
    ((foldl_keeps Chip.boot _ _ (fun b q _ => qpErrorAs_boot b q 8 8) _).trans rfl)

theorem dqComplete_boot (c : Chip) (d flags st u : Nat) (b : Bytes) (n steps energy : Nat) :
    (dqComplete c d flags st u b n steps energy).boot = c.boot := by
  unfold dqComplete
  split
  · rfl
  · split
    · split
      · exact cqOverrun_boot c _
      · exact boot_tells (tells_cqPut c _ _ _)
    · rfl

theorem dqSignal_boot (c : Chip) (d : Nat) (b : Bytes) : (dqSignal c d b).boot = c.boot := by
  unfold dqSignal
  split
  · rfl
  · split <;> exact addSignal_boot c _ _

theorem dropAdm_boot (c : Chip) (adm : Nat) : (dropAdm c adm).boot = c.boot := by
  unfold dropAdm
  split <;> rfl

theorem dqFinish_boot (c : Chip) (d : Nat) (j : DqJob) (r : DqDone) (u steps energy : Nat) :
    (dqFinish c d j r u steps energy).boot = c.boot :=
  (dropAdm_boot _ _).trans ((dqSignal_boot _ d _).trans (dqComplete_boot (dropRun c d j.id) d _ _ _ _ _ _ _))

theorem freeUnit_boot (c : Chip) (die u : Nat) : (freeUnit c die u).boot = c.boot := by
  unfold freeUnit setArrayState
  split
  · split <;> rfl
  · rfl

theorem freeEngine_boot (c : Chip) (e : Nat) : (freeEngine c e).boot = c.boot := by
  unfold freeEngine
  split <;> rfl

theorem dqEndRunning_boot (c : Chip) (st : Nat) (p : Nat → DqJob → Bool) : (dqEndRunning c st p).boot = c.boot := by
  refine foldl_keeps Chip.boot _ _ (fun b q _ => foldl_keeps Chip.boot _ _ (fun y j _ => ?_) b) c
  dsimp only
  refine (dqFinish_boot _ _ j _ _ _ _).trans ?_
  have freed : (if dqDie q.1 = 0 then y else freeUnit y (dqDie q.1) j.unit).boot = y.boot := by
    split
    · rfl
    · exact freeUnit_boot y _ _
  split
  · exact (freeEngine_boot _ _).trans freed
  · exact freed

theorem enterException_boot (c : Chip) (t cause sub : Nat) (epc : W18) (addr : Option W48) :
    (enterException c t cause sub epc addr).boot = c.boot := by
  unfold enterException doubleFault
  dsimp only
  split
  · split <;> rfl
  · rfl

end Sys2Proof.Machine
end

/-! ## Errors, self-tests, repair and dwell trips (24; 02 R62 to R65) -/
section
namespace Sys2Proof.Machine

/-! ### The report of a record -/

/-- Only what the report of a record changes has changed. -/
def Reports (a b : Chip) : Prop :=
  b.faults = a.faults ∧ b.boot = a.boot ∧ ∀ o k, k < 256 → o ≠ 0x01120 → o ≠ 0x08001 → o ≠ 0x50001 → o ≠ 0x50005 → o ≠ 0x52001 →
    (o < 0x70080 ∨ 0x700C0 ≤ o) → odGet b o k = odGet a o k

theorem Reports.refl (a : Chip) : Reports a a := ⟨rfl, rfl, fun _ _ _ _ _ _ _ _ _ => rfl⟩

theorem Reports.trans {a b c : Chip} (h : Reports a b) (g : Reports b c) : Reports a c := by
  obtain ⟨h1, h2, h3⟩ := h
  obtain ⟨g1, g2, g3⟩ := g
  exact ⟨g1.trans h1, g2.trans h2, fun o k hk e1 e2 e3 e4 e5 e6 => (g3 o k hk e1 e2 e3 e4 e5 e6).trans (h3 o k hk e1 e2 e3 e4 e5 e6)⟩

theorem reports_raiseFull (c : Chip) (code cls : Nat) (b : Bool) (o k p u a : Nat) : Reports c (raiseFull c code cls b o k p u a) :=
  ⟨rfl, rfl, fun _ _ hk h _ _ _ _ _ => odGet_raiseFull c code cls b o k p u a _ _ hk (Or.inl h)⟩

theorem reports_set (c : Chip) (o k n : Nat) (hk : k < 256) (ho : o = 0x08001 ∨ o = 0x50001 ∨ o = 0x50005 ∨ o = 0x52001
    ∨ 0x70080 ≤ o ∧ o < 0x700C0) : Reports c (odSet c o k n) := by
  refine ⟨rfl, rfl, fun o' k' hk' e1 e2 e3 e4 e5 e6 => ?_⟩
  rw [odGet_odSet _ _ _ _ _ _ hk hk', if_neg (by omega)]

theorem reports_events (c : Chip) (r : ErrRec) : Reports c (faultEvents c r) := by
  refine (reports_raiseFull c _ _ _ _ _ _ _ _).trans (foldl_rel Reports .refl (fun _ _ _ => .trans) _ _ (fun b p _ => ?_) _)
  split
  · exact reports_raiseFull b _ _ _ _ _ _ _ _
  · exact .refl b

theorem reports_counts (c : Chip) (r : ErrRec) (hr : r.cls ≤ 256) : Reports c (faultCounts c r) := by
  refine foldl_rel Reports .refl (fun _ _ _ => .trans) _ _ (fun b p hp => ?_) c
  have small := List.mem_range.1 hp
  split
  · exact reports_set b _ _ _ (by omega) (by omega)
  · exact .refl b

/-- The unit is an array. -/
theorem reports_showFence (c : Chip) {u : Nat} (array : u / 4096 = 2) (ok : unitOk u = true) : Reports c (showFence c u) := by
  have small : u % 4096 < 16 := by
    unfold unitOk at ok
    rw [array] at ok
    exact of_decide_eq_true ok
  have acts : showFence c u = if odN c 0x50001 (u % 4096 + 1) = 1 then odSet c 0x50001 (u % 4096 + 1) 3 else c := by
    unfold showFence
    rw [array]
    rfl
  rw [acts]
  split
  · exact reports_set c _ _ _ (by omega) (by omega)
  · exact .refl c

/-! ### Records -/

/-- The record that an error of an array writes. -/
def arrayRec (c : Chip) (cls det u addr plats detail : Nat) : ErrRec :=
  ⟨c.faults.nextSeq, cls, det, u, epochNs c, nowNs c, addr, plats, detail, 0, 0, transientCount c u, 0,
    b2n (fenced c u) + 2 * b2n (unitSealed c u)⟩

/-- The fences once it is written. -/
def arrayFences (c : Chip) (u : Nat) : List Fence :=
  if fenced c u then c.faults.fences.map (fun f => if f.unit == u then { f with recs := f.recs ++ [c.faults.nextSeq] } else f)
  else c.faults.fences ++ [⟨u, [c.faults.nextSeq], false, nowNs c, odN c 0x08001 (u % 4096 + 1), 0⟩]

/-- The log with the record, before anything shows it. -/
def logged (c : Chip) (r : ErrRec) (fs : List Fence) : Chip :=
  { c with faults := { c.faults with
    log := (r :: c.faults.log).take 1024, nextSeq := (c.faults.nextSeq + 1) % 2 ^ 32, fences := fs } }

/-- OD 70.001, 70.003 and 70.021 after a record. -/
def countedRec (c : Chip) (r : ErrRec) (n : Nat) : Chip :=
  odInc (odSet (odSet c 0x70021 0 n) 0x70001 0 r.seq) 0x70003 (r.cls - 1)

theorem recordError_array {c : Chip} {cls det u addr plats detail : Nat} (lit : (unitDie u).any (fun d => !dieLit c d) = false)
    (array : u / 4096 = 2) (hc : cls ≤ 4) : recordError c cls det u addr plats detail =
      let r := arrayRec c cls det u addr plats detail
      let y := countedRec (logged c r (arrayFences c u)) r (arrayFences c u).length
      faultCounts (faultEvents (if fenced c u then y else showFence y u) r) r := by
  have port : (u / 4096 == 0xC) = false := by rw [array]; rfl
  have mild : (cls == 5) = false := by
    rw [beq_eq_false_iff_ne]
    omega
  unfold recordError
  rw [if_neg (ne_true_of_eq_false lit)]
  dsimp only
  rw [port, mild]
  simp only [Bool.or_false, Bool.false_or, Bool.false_eq_true, if_false]
  rfl

/-- What a record of an array shows and keeps. -/
theorem recordError_spec {c : Chip} {cls det u addr plats detail : Nat} (lit : (unitDie u).any (fun d => !dieLit c d) = false)
    (array : u / 4096 = 2) (ok : unitOk u = true) (hc : cls ≤ 4) : let b := recordError c cls det u addr plats detail
    b.faults = (logged c (arrayRec c cls det u addr plats detail) (arrayFences c u)).faults
      ∧ odN b 0x70001 0 = c.faults.nextSeq ∧ odN b 0x70003 (cls - 1) = (odN c 0x70003 (cls - 1) + 1) % 2 ^ 32
      ∧ odN b 0x70021 0 = (arrayFences c u).length
      ∧ ∀ k, k < 256 → odN b 0x03030 k = odN c 0x03030 k := by
  have shown (y : Chip) : Reports y (if fenced c u then y else showFence y u) := by
    split
    · exact .refl y
    · exact reports_showFence y array ok
  intro b
  let r := arrayRec c cls det u addr plats detail
  let y := countedRec (logged c r (arrayFences c u)) r (arrayFences c u).length
  have acts : b = faultCounts (faultEvents (if fenced c u then y else showFence y u) r) r := recordError_array lit array hc
  obtain ⟨faults, -, objects⟩ := ((shown y).trans (reports_events _ r)).trans (reports_counts _ r (by show cls ≤ 256; omega))
  rw [← acts] at faults objects
  have num (o k : Nat) (hk : k < 256) (h : o = 0x03030 ∨ 0x70001 ≤ o ∧ o ≤ 0x70021) : odN b o k = odN y o k :=
    congrArg OdVal.nat (objects o k hk (by omega) (by omega) (by omega) (by omega) (by omega) (by omega))
  refine ⟨faults, ?_, ?_, ?_, fun k hk => ?_⟩
  · rw [num _ _ (by decide) (by decide), show y = odInc _ 0x70003 (cls - 1) from rfl,
      odN_odInc _ _ _ _ _ (by omega) (by decide), if_neg (by omega), odN_odSet _ _ _ _ _ _ (by decide) (by decide),
      if_pos ⟨rfl, rfl⟩]
    rfl
  · rw [num _ _ (by omega) (by decide), show y = odInc _ 0x70003 (cls - 1) from rfl,
      odN_odInc _ _ _ _ _ (by omega) (by omega), if_pos ⟨rfl, rfl⟩, odN_odSet _ _ _ _ _ _ (by decide) (by omega),
      if_neg (by omega), odN_odSet _ _ _ _ _ _ (by decide) (by omega), if_neg (by omega)]
    rfl
  · rw [num _ _ (by decide) (by decide), show y = odInc _ 0x70003 (cls - 1) from rfl,
      odN_odInc _ _ _ _ _ (by omega) (by decide), if_neg (by omega), odN_odSet _ _ _ _ _ _ (by decide) (by decide),
      if_neg (by omega), odN_odSet _ _ _ _ _ _ (by decide) (by decide), if_pos ⟨rfl, rfl⟩]
  · rw [num _ _ hk (by decide), show y = odInc _ 0x70003 (cls - 1) from rfl,
      odN_odInc _ _ _ _ _ (by omega) hk, if_neg (by omega), odN_odSet _ _ _ _ _ _ (by decide) hk,
      if_neg (by omega), odN_odSet _ _ _ _ _ _ (by decide) hk, if_neg (by omega)]
    rfl

/-- The unit of a record is fenced. -/
theorem arrayFences_fenced (c : Chip) (u : Nat) : (arrayFences c u).any (fun f => f.unit == u) = true := by
  unfold arrayFences
  split
  · rename_i was
    obtain ⟨f, listed, its⟩ := List.any_eq_true.1 was
    exact List.any_eq_true.2 ⟨_, List.mem_map.2 ⟨f, listed, rfl⟩, by rw [if_pos its]; exact its⟩
  · rw [List.any_append]
    simp

theorem arrayFences_new {c : Chip} {u : Nat} (free : fenced c u = false) : (arrayFences c u).length = c.faults.fences.length + 1 := by
  unfold arrayFences
  rw [if_neg (ne_true_of_eq_false free), List.length_append]
  rfl

theorem recordError_fenced {c : Chip} {cls det u addr plats detail : Nat} (lit : (unitDie u).any (fun d => !dieLit c d) = false)
    (array : u / 4096 = 2) (ok : unitOk u = true) (hc : cls ≤ 4) : fenced (recordError c cls det u addr plats detail) u = true := by
  obtain ⟨faults, -⟩ := recordError_spec (det := det) (addr := addr) (plats := plats) (detail := detail) lit array ok hc
  rw [fenced, faults]
  exact arrayFences_fenced c u

/-! ### Tests -/

theorem fenceOf_unit {c : Chip} {u : Nat} {f : Fence} (h : fenceOf c u = some f) : f.unit = u :=
  eq_of_beq (List.find?_some (p := fun f : Fence => f.unit == u) h)

/-- A fence that is lifted fences no more; only a signal home's lifting sends on what waited. -/
theorem liftFence_lifts (c : Chip) (f : Fence) (home : f.unit / 4096 ≠ 0xA) : fenced (liftFence c f) f.unit = false := by
  have kept : (liftFence c f).faults.fences = c.faults.fences.filter (fun g => g.unit != f.unit) := by
    unfold liftFence
    dsimp only
    split
    case h_5 type => exact absurd type home
    case h_6 => rfl
    all_goals split <;> rfl
  rw [fenced, kept, List.any_filter]
  simp

theorem lastingFault_lifts (c : Chip) (f : Fence) (test place : Nat) (spare : Bool) (home : f.unit / 4096 ≠ 0xA) :
    fenced (lastingFault c f test place spare) f.unit = false := liftFence_lifts _ f home

theorem threshold_noteTransient (c : Chip) (u : Nat) : threshold (noteTransient c u) u = threshold c u := rfl

/-- A test passed below the threshold is a transient. -/
theorem testPassed_transient {c : Chip} {f : Fence} (place : Nat) (spare : Bool)
    (few : transientCount (noteTransient c f.unit) f.unit ≤ threshold c f.unit) (lane : f.unit / 4096 ≠ 8) :
    testPassed c f place spare = liftFence (testResult (odInc (noteTransient c f.unit) 0x70020 2) f 1 0 0 false) f := by
  unfold testPassed
  dsimp only
  rw [threshold_noteTransient, if_neg (Nat.not_lt.2 few), if_neg lane]

/-- The end of a test of a unit without a partner. -/
theorem testEnds_alone {c : Chip} {f : Fence} (result place : Nat) (spare : Bool) (alone : pairMate c f = none) :
    testEnds c f result place spare = if result = 1 then testPassed c f place spare
      else lastingFault (odInc c 0x70020 (if result = 2 then 3 else 4)) f result place spare := by
  unfold testEnds
  rw [alone]

theorem selfTestEnd_runs {c : Chip} {u : Nat} {f : Fence} (listed : fenceOf c u = some f) (runs : f.testing = true) (pass : Bool)
    (place : Nat) (spare : Bool) : selfTestEnd c u pass place spare = testEnds c f (if pass then 1 else 2) place spare := by
  unfold selfTestEnd
  rw [listed]
  exact if_pos runs

theorem errorDetected_array {c : Chip} {u cls det addr plats detail : Nat} (ok : unitOk u = true)
    (lit : (unitDie u).any (fun d => !dieLit c d) = false) (array : u / 4096 = 2) (h1 : 2 ≤ cls) (h2 : cls ≤ 4) (h3 : 3 ≤ det)
    (h4 : det ≤ 9) : errorDetected c u cls det addr plats detail none none = recordError c cls det u addr plats detail := by
  have valid : ¬ ((!unitOk u) = true ∨ cls < 2 ∨ 5 < cls ∨ det = 0 ∨ 9 < det ∨ (unitDie u).any (fun d => !dieLit c d) = true) := by
    rw [ok, lit]
    simp
    omega
  have store : storeError c u det addr detail = c := by
    unfold storeError
    rw [array]
    rfl
  unfold errorDetected
  rw [if_neg valid]
  dsimp only
  rw [store, if_neg (show ¬ (u / 4096 = 6 ∧ det = 1 ∧ cls < 5) by omega), if_neg (show ¬ det = 2 by omega),
    if_neg (by rw [array]; rintro ⟨-, h, -⟩; exact absurd h (by decide))]

theorem pairMate_raiseU (c : Chip) (e : Ev) (u a : Nat) (f : Fence) : pairMate (raiseU c e u a) f = pairMate c f := rfl

theorem unitOk_lt {u : Nat} (ok : unitOk u = true) : u < 65536 := by
  unfold unitOk at ok
  dsimp only at ok
  split at ok
  case h_15 => cases ok
  all_goals omega

theorem unitState_lt (c : Chip) (u : Nat) : unitState c u < 256 := by
  unfold unitState
  split
  · decide
  · split
    · decide
    · split <;> decide

/-- The fields of OD 70.031. -/
theorem unitRecord_fields (c : Chip) {u : Nat} (ok : unitOk u = true) (rest : Bytes) :
    fld (leBytes 2 u ++ leBytes 1 (unitState c u) ++ rest) 0 2 = u
      ∧ fld (leBytes 2 u ++ leBytes 1 (unitState c u) ++ rest) 2 1 = unitState c u := by
  rw [List.append_assoc]
  refine ⟨(fld_front 2 u _).trans (Nat.mod_eq_of_lt (unitOk_lt ok)), ?_⟩
  rw [fld_skip _ _ _ _ (leBytes_length 2 u).symm, fld_front]
  exact Nat.mod_eq_of_lt (unitState_lt c u)

theorem faults : Claim.Faults := by
  intro s u cls det addr plats detail place f spare rq arg
  dsimp only
  have unitRecorded {b : Chip} {k x a p d : Nat} (spec : b.faults = (logged s.chip (arrayRec s.chip k x u a p d)
      (arrayFences s.chip u)).faults ∧ odN b 0x70001 0 = s.chip.faults.nextSeq
        ∧ odN b 0x70003 (k - 1) = (odN s.chip 0x70003 (k - 1) + 1) % 2 ^ 32) :
      ∃ r, b.faults.log = (r :: s.chip.faults.log).take 1024 ∧ r.seq = s.chip.faults.nextSeq ∧ r.cls = k ∧ r.detect = x
        ∧ r.unit = u ∧ r.run = nowNs s.chip ∧ odN b 0x70001 0 = r.seq
        ∧ odN b 0x70003 (k - 1) = (odN s.chip 0x70003 (k - 1) + 1) % 2 ^ 32 := by
    obtain ⟨faults, seq, count⟩ := spec
    exact ⟨arrayRec s.chip k x u a p d, by rw [faults]; rfl, rfl, rfl, rfl, rfl, rfl, seq, count⟩
  refine ⟨fun ⟨ok, lit⟩ array h1 h2 h3 h4 hp free => ?_, fun listed idle fresh slot work lit other => ?_,
    fun listed runs alone => ⟨fun few lane => ?_, ?_, fun home => ?_, fun late => ?_⟩, fun listed its idle => ?_,
    fun ok hu valid => ?_, fun ok hu valid => ⟨fun busy => ?_, fun ⟨_, lit⟩ array free serves => ?_⟩⟩
  · have acts : errorDetected s.chip u cls det addr (plats % 2 ^ 64) detail none none
        = recordError s.chip cls det u addr plats detail := by
      rw [Nat.mod_eq_of_lt hp]
      exact errorDetected_array ok lit array h1 h2 h3 h4
    obtain ⟨faults, seq, count, fences, -⟩ :=
      recordError_spec (det := det) (addr := addr) (plats := plats) (detail := detail) lit array ok h2
    refine ⟨_, congrArg (becomes s) acts, unitRecorded ⟨faults, seq, count⟩,
      recordError_fenced lit array ok h2, ?_⟩
    rw [fences, arrayFences_new free]
  · have acts : selfTestStart s.chip u = odInc (setFence s.chip { f with testing := true, since := nowNs s.chip }) 0x70020 1 := by
      have starts : ¬ (f.testing = true ∨ f.result ≠ 0 ∨ (!testSlotFree s.chip u) = true ∨ unitBusy s.chip u = true
          ∨ (unitDie u).any (fun d => !dieLit s.chip d) = true) := by
        rw [idle, fresh, slot, work, lit]
        simp
      unfold selfTestStart
      rw [listed]
      exact (if_neg starts).trans (if_neg (by omega))
    exact congrArg (becomes s) acts
  · have its := fenceOf_unit listed
    subst its
    have acts := (selfTestEnd_runs listed runs true place spare).trans ((testEnds_alone _ place spare alone).trans
      ((if_pos rfl).trans (testPassed_transient place spare few lane)))
    exact ⟨_, congrArg (becomes s) acts, fun home => liftFence_lifts _ f home, rfl⟩
  · have acts := (selfTestEnd_runs listed runs false place spare).trans ((testEnds_alone _ place spare alone).trans (if_neg (by decide)))
    exact congrArg (becomes s) acts
  · rw [← fenceOf_unit listed] at home ⊢
    exact lastingFault_lifts _ f 2 place spare home
  · have acts : testOverrun s.chip u place spare
        = lastingFault (odInc (raiseU s.chip ⟨0x7003, 3⟩ u u) 0x70020 4) f 4 place spare := by
      unfold testOverrun
      rw [listed]
      refine (if_neg ?_).trans ((testEnds_alone 4 place spare ((pairMate_raiseU _ _ _ _ f).trans alone)).trans (if_neg (by decide)))
      rw [runs, us]
      simp
      omega
    exact congrArg (becomes s) acts
  · have acts : selfTestStart s.chip u = s.chip := by
      unfold selfTestStart
      rw [listed]
      exact if_pos (Or.inr (Or.inl Nat.one_ne_zero))
    exact ⟨_, congrArg (becomes s) acts, rfl⟩
  · refine ⟨_, actionRow_acks _ s rq _ arg _ ok (if_neg (by rw [hu, valid]; decide)), ?_⟩
    rw [hu]
    simp only [List.append_assoc (leBytes 2 u ++ leBytes 1 (unitState s.chip u))]
    exact unitRecord_fields s.chip valid _
  · exact actionRow_refuses _ s rq _ arg _ _ _ ok (by decide) (by decide)
      (by rw [actUnitReset, hu, valid, busy]; rfl)
  · have acts : actUnitReset s.chip rq arg = (0, [], recordError s.chip 2 9 u 0 0 0) := by
      have clear : clearUnit s.chip u = s.chip := by
        unfold clearUnit
        rw [array]
        rfl
      unfold actUnitReset
      rw [hu]
      dsimp only
      rw [valid, free, serves, lit]
      simp only [Bool.not_true, Bool.false_eq_true, or_self, if_false, clear]
      rfl
    obtain ⟨faults, seq, count, -, -⟩ := recordError_spec (det := 9) (addr := 0) (plats := 0) (detail := 0) lit array valid
      (show 2 ≤ 4 by decide)
    exact ⟨_, actionRow_acks _ s rq _ arg _ ok acts, unitRecorded ⟨faults, seq, count⟩,
      recordError_fenced lit array valid (by decide)⟩

/-! ### Dwell trips -/

theorem heldEnds_boot (c : Chip) (u : Nat) : (heldEnds c u []).boot = c.boot := by
  have ciphers (b : Chip) (p : CipherRun → Bool) (no : ∀ r, p r = false) : cipherEndAll b 15 p = b := by
    have empty : b.engines.ciphers.filter (fun r => p r && r.done.isNone) = [] :=
      List.filter_eq_nil_iff.2 (fun r _ => by rw [no]; simp)
    rw [cipherEndAll, empty]
    rfl
  have relays (b : Chip) (l : List RelayOp) (f : Chip → RelayOp → Chip) :
      (l.filter (fun r => ([] : List HeldWork).contains (.relay r.tag))).foldl f b = b := by
    rw [List.filter_eq_nil_iff.2 (fun r _ => by simp)]
    rfl
  have waybills (b : Chip) (l : Table NativeQ) : l.foldl (fun s q =>
      wbEndAll s q.1 19 (q.2.wbs.filter (fun w => ([] : List HeldWork).contains (.waybill q.1 w.seq)))) b = b :=
    foldl_keeps id _ l (fun y q _ => by rw [List.filter_eq_nil_iff.2 (fun r _ => by simp)]; rfl) b
  unfold heldEnds
  dsimp only
  rw [ciphers _ _ (fun r => by simp), relays, waybills]
  refine (foldl_keeps Chip.boot _ _ (fun b t _ => ?_) _).trans (dqEndRunning_boot c 9 _)
  rw [apply_ite Chip.boot, enterException_boot, ite_self]

theorem dwellTrip_trips : Claim.DwellTrip := by
  intro s u cls die start limit plats detail ok hc hd lo hi due free serves lit dies box array
  dsimp only
  have times : ¬ ((!unitOk u) = true ∨ 4 < cls ∨ 4 < die ∨ limit < (dwellRange cls).1 ∨ (dwellRange cls).2 < limit
      ∨ nowNs s.chip < start + us limit ∨ fenced s.chip u = true ∨ retired s.chip u = true
      ∨ (0 < die ∧ (!dieLit s.chip (die - 1)) = true) ∨ (unitDie u).any (fun d => !dieLit s.chip d) = true
      ∨ s.chip.boot.signalBox = false) := by
    rw [ok, free, serves, dies, box, nowNs, us]
    have lit' : ¬ (0 < die ∧ (!dieLit s.chip (die - 1)) = true) := fun ⟨h, g⟩ => by
      rw [lit h] at g
      cases g
    simp only [lit', Bool.not_true, Bool.false_eq_true, false_or, or_false, reduceCtorEq]
    omega
  have still : (unitDie u).any (fun d => !dieLit (heldEnds s.chip u []) d) = false := by
    simp only [dieLit, heldEnds_boot]
    exact dies
  obtain ⟨-, -, -, -, kept⟩ := recordError_spec (det := 5) (addr := 0) (plats := plats % 2 ^ 64) (detail := detail) still array ok
    (show 3 ≤ 4 by decide)
  have acts : dwellTrip s.chip u cls die start limit plats detail []
      = odInc (recordError (heldEnds s.chip u []) 3 5 u 0 (plats % 2 ^ 64) detail) 0x03030 (die + 1) := by
    unfold dwellTrip
    dsimp only
    rw [if_neg times, if_neg (by omega)]
  refine ⟨_, congrArg (becomes s) acts, rfl, recordError_fenced still array ok (by decide), ?_⟩
  rw [odN_odInc _ _ _ _ _ (by omega) (by omega), if_pos ⟨rfl, rfl⟩, kept _ (by omega)]

/-- Settles O45: a record fences its unit, the end of a test lifts the fence, and a trip writes its record once the unit's work
has ended. -/
theorem faultsAndTrips : Obligations.FaultsAndTrips := ⟨faults, dwellTrip_trips⟩

end Sys2Proof.Machine
end

/-! ## Queue pairs, completion rings and their doorbells (15 R386 to R393; 11 Table 11-4) -/
section
namespace Sys2Proof.Machine

/-! ### Doorbell values -/

/-- Masks of two fields act field by field. -/
theorem and_fields (k a b m n : Nat) (hb : b < 2 ^ k) (hn : n < 2 ^ k) :
    (a * 2 ^ k + b) &&& (m * 2 ^ k + n) = (a &&& m) * 2 ^ k + (b &&& n) := by
  refine Nat.eq_of_testBit_eq fun j => ?_
  rw [Nat.testBit_and, Nat.mul_comm a, Nat.mul_comm m, Nat.mul_comm (a &&& m), Nat.testBit_two_pow_mul_add a hb,
    Nat.testBit_two_pow_mul_add m hn, Nat.testBit_two_pow_mul_add _ (Nat.and_lt_two_pow b hn)]
  split <;> simp only [Nat.testBit_and]

theorem and_ones {x k : Nat} (h : x < 2 ^ k) : x &&& (2 ^ k - 1) = x := by
  rw [Nat.and_two_pow_sub_one_eq_mod, Nat.mod_eq_of_lt h]

theorem bits_high {w i : Nat} (m : Nat) (hi : i < 2 ^ 32) (hw : w < 2 ^ (m + 1 - 32)) : bits (w * 2 ^ 32 + i) m 32 = w := by
  rw [bits, Nat.shiftRight_eq_div_pow, Nat.mul_comm, Nat.mul_add_div (by decide), Nat.div_eq_of_lt hi, Nat.add_zero,
    Nat.mod_eq_of_lt hw]

theorem low_half {w i : Nat} (hi : i < 65536) : (w * 2 ^ 32 + i) % 65536 = i := by omega

/-- An 8-byte doorbell write with no reserved bit reaches its engine for the owner of its function. -/
theorem engineDoorbell_rings {s : State} {fn o val used : Nat} (rings : Rings s fn o) (clean : val &&& used = val)
    (k : Chip → Nat → Chip) : engineDoorbell s.chip fn 8 val used k = k s.chip o := by
  obtain ⟨here, alive, decoded, whose⟩ := rings
  have enters : ¬ ((!fnPresent s.chip fn) = true ∨ 0 < fn ∧ fn < 4) := by
    rw [here]
    simp
    omega
  have wide : ¬ ((!decodes s.chip fn) = true ∨ (8 : Nat) ≠ 4 ∧ (8 : Nat) ≠ 8) := by
    rw [decoded]
    simp
  have fits : ¬ ((!([8] : List Nat).contains 8) = true ∨ (val &&& used != val) = true) := by
    rw [clean]
    simp
  unfold engineDoorbell doorbell
  rw [if_neg enters, if_neg (ne_true_of_eq_false alive), if_neg wide, if_neg fits]
  obtain ⟨rfl, rfl⟩ | ⟨vf, plat, on⟩ := whose
  · rfl
  · rw [if_neg (by omega), plat]
    dsimp only
    rw [if_pos on]

/-! ### Fields of a copied context -/

/-- A field of a slice is the field of the record. -/
theorem fld_slice (a : Bytes) (off m o n : Nat) (h : o + n ≤ m) (ha : off + m ≤ a.length) :
    fld (slice a off m) o n = fld a (off + o) n := by
  have whole : slice a off m = (a.drop off).take m := by
    have len : ((a.drop off).take m).length = m := by rw [List.length_take, List.length_drop]; omega
    rw [slice, len, Nat.sub_self]
    exact List.append_nil _
  unfold fld
  rw [whole, List.drop_take, List.take_take, Nat.min_eq_left (by omega), List.drop_drop]

/-- A field within the last place copied. -/
theorem fld_copied (x a : Bytes) (off m o n : Nat) (lo : off ≤ o) (hi : o + n ≤ off + m) (ha : off + m ≤ a.length) :
    fld (splice x off (slice a off m)) o n = fld a o n := by
  obtain ⟨d, rfl⟩ := Nat.exists_eq_add_of_le lo
  rw [fld_splice_in _ _ _ _ _ (by rw [slice_length]; omega), fld_slice _ _ _ _ _ (by omega) ha]

/-- A field before the last place copied. -/
theorem fld_uncopied (x a : Bytes) (p q off m o n : Nat) (h : o + n ≤ off) (h' : o + n ≤ p + q) :
    fld (splice (splice x p (slice a p q)) off (slice a off m)) o n = fld (splice x p (slice a p q)) o n := by
  refine fld_splice_before _ _ _ _ _ h (le_trans h' (le_trans ?_ (splice_length_le _ _ _)))
  rw [slice_length]

/-! ### QP_MODIFY -/

/-- The argument of QP_MODIFY is for a queue pair of the asking domain. -/
def AsksFor (c : Chip) (rq : Rq) (arg : Bytes) (w : Nat) : Prop :=
  fld arg 0 4 = w ∧ w < 2 ^ 18 ∧ arg.length = 96
    ∧ (reqOwner (domainOf c rq) = 0xFD ∨ ownerIn c qpnOf w = reqOwner (domainOf c rq))

theorem actQpModify_acts {c : Chip} {rq : Rq} {arg : Bytes} {w : Nat} (asks : AsksFor c rq arg w) : actQpModify c rq arg =
    let q := qpOf c w
    let owner := ownerIn c qpnOf w
    let dest := fld arg 4 1
    if dest = 0 then acted (qpReset c w)
    else if dest = 4 then
      if q.state = 4 then acted c
      else acted (qpError (if q.state = 0 then setQp c w { q with state := 1, plat := owner } else c) w 8)
    else if dest = 1 ∧ q.state = 0 then
      if !initOk c owner arg then refuse c eRange
      else
        let f := fld arg 6 1
        acted (countQps (setQp c w { Qp.off with
          state := 1, plat := owner
          cfg := copyFields (zeros 96) arg [(0, 4), (5, 3), (8, 18), (28, 4)]
          ecn := bit f 1 && (decide (64 ≤ owner) || bit (fld (rdmaRec c owner) 26 1) 1) }))
    else if dest = 2 ∧ q.state = 1 then
      if !rtrOk c owner q arg then refuse c eRange
      else acted (setQp c w { q with
        state := 2, expPsn := fld arg 40 4, ackAt := nowNs c
        relaxed := relaxedOn c owner arg (fld q.cfg 6 1)
        cfg := copyFields q.cfg arg [(32, 4), (40, 5), (47, 27), (80, 4)] })
    else if dest = 3 ∧ q.state = 2 then
      if !rtsOk c owner arg then refuse c eRange
      else enterRts c w { q with cfg := copyFields q.cfg arg [(36, 4), (45, 2), (67, 1), (76, 4)] }
    else refuse c eRange := by
  obtain ⟨rfl, small, len, own⟩ := asks
  have valid : ¬ (2 ^ 18 ≤ fld arg 0 4 ∨ arg.length ≠ 96 ∨ (reqOwner (domainOf c rq) < 64
      ∧ ownerIn c qpnOf (fld arg 0 4) ≠ reqOwner (domainOf c rq))) := by omega
  unfold actQpModify
  exact if_neg valid

/-- What a table holds for a number is listed. -/
theorem mem_tget? {α : Type} {t : Table α} {k : Nat} {v : α} (h : tget? t k = some v) : (k, v) ∈ t := by
  induction t with
  | nil => cases h
  | cons x r ih =>
    rw [tget?] at h
    split at h
    · rename_i here
      cases h
      rw [← here]
      exact List.mem_cons_self
    · exact List.mem_cons_of_mem _ (ih h)

theorem mem_tget {α : Type} {t : Table (List α)} {k : Nat} {x : α} (h : x ∈ tget [] t k) : ∃ l, (k, l) ∈ t ∧ x ∈ l := by
  cases found : tget? t k with
  | none =>
    rw [tget, found] at h
    cases h
  | some l =>
    rw [tget, found] at h
    exact ⟨l, mem_tget? found, h⟩

/-- A dropped packet waits on no queue. -/
theorem dropPackets_drops (c : Chip) (p : Nat → Bool) (k : Nat) (f : Frame) (h : f ∈ qFrames (dropPackets c p) k) :
    f.pkt.any (fun x => p x.1) = false := by
  obtain ⟨l, listed, mem⟩ := mem_tget h
  obtain ⟨x, -, eq⟩ := List.mem_map.1 (List.mem_of_mem_filter listed)
  cases eq
  simpa using (List.mem_filter.1 mem).2

theorem keeps_countQps (c : Chip) : Keeps c (countQps c) [(0x24002, 1), (0x24002, 2)] :=
  ((Keeps.refl c _).set _ _ _ (by decide) (by simp)).set _ _ _ (by decide) (by simp)

theorem qpReset_spec (c : Chip) (w : Nat) : let b := qpReset c w
    qpOf b w = Qp.off ∧ (∀ x, x ≠ w → qpOf b x = qpOf c x) ∧ (∀ k f, f ∈ qFrames b k → f.pkt.any (fun p => p.1 == w) = false)
      ∧ Keeps c b [(0x24002, 1), (0x24002, 2)] := by
  intro b
  have acts : b = countQps (freePace (dropPackets (setQp c w Qp.off) (· == w)) (qpOf c w).pace) := rfl
  have paced (y : Chip) (p : Option Nat) : (freePace y p).rdma = y.rdma ∧ (freePace y p).net.queues = y.net.queues
      ∧ (freePace y p).od = y.od := by
    unfold freePace
    split <;> exact ⟨rfl, rfl, rfl⟩
  obtain ⟨rdma, queues, od⟩ := paced (dropPackets (setQp c w Qp.off) (· == w)) (qpOf c w).pace
  have qps (x : Nat) : qpOf b x = qpOf (setQp c w Qp.off) x := congrArg (fun r : Rdma => tget Qp.off r.qps x) rdma
  refine ⟨(qps w).trans (qpOf_setQp_same c w _), fun x hx => (qps x).trans (qpOf_setQp_other c w x _ hx), fun k f hf => ?_, ?_⟩
  · refine dropPackets_drops (setQp c w Qp.off) (· == w) k f ?_
    have same : qFrames b k = qFrames (dropPackets (setQp c w Qp.off) (· == w)) k := congrArg (fun q => tget [] q k) queues
    rw [← same]
    exact hf
  · rw [acts]
    intro o k hk hn
    rw [keeps_countQps _ o k hk hn]
    exact odGet_congr _ _ od o k

theorem queuePairs : Claim.QueuePairs := by
  intro s rq arg w hw
  dsimp only
  intro own
  refine ⟨fun ok hfld len => ?_, fun ok hleaf small => ?_⟩
  · have acts := actQpModify_acts ⟨hfld, hw, len, own⟩
    dsimp only at acts
    have acks_ {b : Chip} (h : actQpModify s.chip rq arg = acted b) : exec (.qpModify rq arg) s = acks s rq b :=
      actionRow_acks _ s rq _ arg _ ok h
    have same (q : Qp) : qpOf (countQps (setQp s.chip w q)) w = q := qpOf_setQp_same s.chip w q
    refine ⟨fun to0 => ?_, fun to4 was => ?_, fun to4 pos low => ?_, fun to1 was fine => ?_, fun to2 was fine => ?_,
      fun to3 was fine free => ?_, fun not0 not4 skip => ?_⟩
    · exact ⟨_, acks_ (acts.trans (if_pos to0)), qpReset_spec s.chip w⟩
    · exact acks_ (acts.trans ((if_neg (by omega)).trans ((if_pos to4).trans (if_pos was))))
    · have chip := acts.trans ((if_neg (by omega)).trans ((if_pos to4).trans (if_neg (by omega))))
      rw [if_neg (show ¬ (qpOf s.chip w).state = 0 by omega)] at chip
      refine ⟨_, acks_ chip, ?_⟩
      rw [qpError, qpErrorAs_spec 8 8 (by omega) (by omega)]
      exact ⟨rfl, rfl, rfl, rfl⟩
    · have chip := acts.trans ((if_neg (by omega)).trans ((if_neg (by omega)).trans ((if_pos ⟨to1, was⟩).trans
        (if_neg (by rw [fine]; decide)))))
      refine ⟨_, acks_ chip, ?_⟩
      rw [same]
      have base (o : Nat) (lo : 8 ≤ o) (hi : o + 8 ≤ 26) :
          fld (copyFields (zeros 96) arg [(0, 4), (5, 3), (8, 18), (28, 4)]) o 8 = fld arg o 8 :=
        (fld_uncopied _ arg 8 18 28 4 o 8 (by omega) (by omega)).trans (fld_copied _ arg 8 18 o 8 lo (by omega) (by omega))
      have ring (o : Nat) (lo : 28 ≤ o) (hi : o + 2 ≤ 32) :
          fld (copyFields (zeros 96) arg [(0, 4), (5, 3), (8, 18), (28, 4)]) o 2 = fld arg o 2 :=
        fld_copied _ arg 28 4 o 2 lo (by omega) (by omega)
      exact ⟨rfl, rfl, base 8 (by decide) (by decide), base 16 (by decide) (by decide), ring 28 (by decide) (by decide),
        ring 30 (by decide) (by decide), keeps_countQps (setQp s.chip w _)⟩
    · have chip := acts.trans ((if_neg (by omega)).trans ((if_neg (by omega)).trans ((if_neg (by omega)).trans
        ((if_pos ⟨to2, was⟩).trans (if_neg (by rw [fine]; decide))))))
      refine ⟨_, acks_ chip, ?_⟩
      rw [qpOf_setQp_same]
      refine ⟨rfl, rfl, ?_, (Keeps.refl _ _).congr rfl⟩
      refine (fld_uncopied _ arg 47 27 80 4 32 4 (by decide) (by decide)).trans ((fld_uncopied _ arg 40 5 47 27 32 4 (by decide)
        (by decide)).trans ((fld_uncopied _ arg 32 4 40 5 32 4 (by decide) (by decide)).trans ?_))
      exact fld_copied _ arg 32 4 32 4 (by decide) (by decide) (by omega)
    · have chip := acts.trans ((if_neg (by omega)).trans ((if_neg (by omega)).trans ((if_neg (by omega)).trans
        ((if_neg (by omega)).trans ((if_pos ⟨to3, was⟩).trans (if_neg (by rw [fine]; decide)))))))
      have psn : fld (copyFields (qpOf s.chip w).cfg arg [(36, 4), (45, 2), (67, 1), (76, 4)]) 36 4 = fld arg 36 4 :=
        (fld_uncopied _ arg 67 1 76 4 36 4 (by decide) (by decide)).trans ((fld_uncopied _ arg 45 2 67 1 36 4 (by decide)
          (by decide)).trans ((fld_uncopied _ arg 36 4 45 2 36 4 (by decide) (by decide)).trans
            (fld_copied _ arg 36 4 36 4 (by decide) (by decide) (by omega))))
      have tries : fld (copyFields (qpOf s.chip w).cfg arg [(36, 4), (45, 2), (67, 1), (76, 4)]) 46 1 = fld arg 46 1 :=
        (fld_uncopied _ arg 67 1 76 4 46 1 (by decide) (by decide)).trans ((fld_uncopied _ arg 45 2 67 1 46 1 (by decide)
          (by decide)).trans (fld_copied _ arg 45 2 46 1 (by decide) (by decide) (by omega)))
      unfold enterRts at chip
      dsimp only at chip
      rw [free, psn, tries] at chip
      refine ⟨_, acks_ chip, ?_⟩
      rw [same]
      exact ⟨rfl, rfl, rfl, rfl⟩
    · refine actionRow_refuses _ s rq _ arg [] _ 5 ok (by decide) (by decide) ?_
      exact acts.trans ((if_neg not0).trans ((if_neg not4).trans ((if_neg (by omega)).trans ((if_neg (by omega)).trans
        (if_neg (by omega))))))
  · subst hleaf
    refine ⟨_, actionRow_acks _ s rq _ arg _ ok (if_neg (by omega)), ?_⟩
    simp only [List.append_assoc]
    refine ⟨?_, ?_, ?_, ?_⟩
    · rw [fld_front]
      exact Nat.mod_eq_of_lt (lt_trans hw (by decide))
    · rw [fld_skip _ _ 4 1 (leBytes_length 4 _).symm, fld_front]
      rfl
    · rw [fld_right _ _ 4 4 4 (leBytes_length 4 _).symm, fld_right _ _ 1 3 4 (leBytes_length 1 _).symm,
        fld_right _ _ 1 2 4 (leBytes_length 1 _).symm, fld_skip _ _ 2 4 rfl, fld_front]
      rfl
    · rw [fld_right _ _ 4 8 4 (leBytes_length 4 _).symm, fld_right _ _ 1 7 4 (leBytes_length 1 _).symm,
        fld_right _ _ 1 6 4 (leBytes_length 1 _).symm, fld_right _ _ 2 4 4 rfl, fld_skip _ _ 4 4 (leBytes_length 4 _).symm,
        fld_front]
      rfl

/-! ### Completion rings and regions -/

theorem ringsAndRegions : Claim.RingsAndRegions := by
  intro s rq arg q m
  dsimp only
  refine ⟨fun ok own lo hi z1 z2 vec => ⟨fun fresh => ?_, fun taken => ?_⟩, fun ok own ring => ⟨fun no1 no2 no3 => ?_, fun fed => ?_⟩,
    fun ok small own z1 pos many f1 f2 z2 fresh => ?_, fun ok listed => ⟨fun whose key => ?_, fun other => ?_⟩⟩
  · refine actionRow_acks _ s rq _ arg _ ok ((if_neg ?_).trans (if_neg (by rw [fresh]; decide)))
    rw [own]
    simp
    omega
  · refine actionRow_refuses _ s rq _ arg [] _ 6 ok (by decide) (by decide) ((if_neg ?_).trans (if_pos (by rw [taken]; rfl)))
    rw [own]
    simp
    omega
  · refine actionRow_acks _ s rq _ arg _ ok ((if_neg ?_).trans (if_neg ?_))
    · rw [own, ring]
      simp
    · rw [no1, no2, no3]
      simp
  · refine actionRow_refuses _ s rq _ arg [] _ 6 ok (by decide) (by decide) ((if_neg ?_).trans (if_pos (Or.inl ?_)))
    · rw [own, ring]
      simp
    · simpa using fed
  · refine actionRow_acks _ s rq _ arg _ ok ((if_neg ?_).trans (if_neg (by rw [fresh]; decide)))
    rw [own]
    simp
    omega
  · refine actionRow_acks _ s rq _ arg _ ok ?_
    unfold actMrDeregister
    dsimp only
    rw [listed]
    exact if_neg (by rw [whose, key]; simp)
  · refine actionRow_refuses _ s rq _ arg [] _ 5 ok (by decide) (by decide) ?_
    unfold actMrDeregister
    dsimp only
    rw [listed]
    exact if_pos (Or.inr other)

/-! ### Doorbells -/

theorem pair_mask {w i : Nat} (hw : w < 2 ^ 18) (hi : i < 65536) :
    (w * 2 ^ 32 + i) &&& (0x3FFFF * 2 ^ 32 + 0xFFFF) = w * 2 ^ 32 + i := by
  rw [and_fields 32 w i 0x3FFFF 0xFFFF (by omega) (by decide), show w &&& 0x3FFFF = w from and_ones hw,
    show i &&& 0xFFFF = i from and_ones (k := 16) hi]

/-- A doorbell of a queue pair reaches the queue pair of the function's owner, and no other. -/
theorem rdmaDoorbell_rings {s : State} {fn o w i : Nat} (rings : Rings s fn o) (hw : w < 2 ^ 18) (hi : i < 65536)
    (k : Chip → Nat → Qp → Nat → Chip) : rdmaDoorbell s.chip fn 8 (w * 2 ^ 32 + i) k =
      if (qpOf s.chip w).state ≠ 0 ∧ (qpOf s.chip w).plat = o then k s.chip w (qpOf s.chip w) i else dbDiscard s.chip fn := by
  unfold rdmaDoorbell
  rw [engineDoorbell_rings rings (pair_mask hw hi), bits_high 49 (by omega) hw, low_half hi]

theorem b2n_le (b : Bool) : b2n b ≤ 1 := by cases b <;> decide

/-- DB_RSQ. -/
theorem dbRsq_rings {s : State} {fn o w i : Nat} (rings : Rings s fn o) (hw : w < 2 ^ 18) (hi : i < 65536) :
    let q := qpOf s.chip w
    exec (.dbRsq fn 8 (w * 2 ^ 32 + i)) s = becomes s (if q.state ≠ 0 ∧ q.plat = o then
      if loadHolds s.chip w then dbDiscard s.chip fn
      else if 2 ^ qSqLog q < idxSub i q.sqCons then qpError s.chip w 8
      else if q.state = 4 then flushSends (setQp s.chip w { q with sqProd := i, sqCons := i }) w q.sqCons (idxSub i q.sqCons)
      else setQp s.chip w { q with sqProd := i } else dbDiscard s.chip fn) :=
  congrArg (becomes s) (rdmaDoorbell_rings rings hw hi _)

/-- DB_RRQ. -/
theorem dbRrq_rings {s : State} {fn o w i : Nat} (rings : Rings s fn o) (hw : w < 2 ^ 18) (hi : i < 65536) :
    let q := qpOf s.chip w
    exec (.dbRrq fn 8 (w * 2 ^ 32 + i)) s = becomes s (if q.state ≠ 0 ∧ q.plat = o then
      if 2 ^ qRqLog q < idxSub i q.rqCons then qpError s.chip w 8
      else if q.state = 4 then flushRecvs (setQp s.chip w { q with rqProd := i, rqCons := i }) w q.rqCons (idxSub i q.rqCons)
      else setQp s.chip w { q with rqProd := i } else dbDiscard s.chip fn) :=
  congrArg (becomes s) (rdmaDoorbell_rings rings hw hi _)

theorem ring_mask {w i : Nat} (arm : Bool) (hw : w < 65536) (hi : i < 65536) :
    (w * 2 ^ 32 + 2 ^ 31 * b2n arm + i) &&& (0xFFFF * 2 ^ 32 + 0x8000FFFF) = w * 2 ^ 32 + 2 ^ 31 * b2n arm + i := by
  have armed : 2 ^ 31 * b2n arm + i = (2 ^ 15 * b2n arm) * 2 ^ 16 + i := by ring
  have low : 2 ^ 31 * b2n arm + i < 2 ^ 32 := by
    have := b2n_le arm
    omega
  have bit15 : 2 ^ 15 * b2n arm &&& 0x8000 = 2 ^ 15 * b2n arm := by cases arm <;> rfl
  have field : (2 ^ 31 * b2n arm + i) &&& 0x8000FFFF = 2 ^ 31 * b2n arm + i := by
    rw [armed, show (0x8000FFFF : Nat) = 0x8000 * 2 ^ 16 + 0xFFFF from rfl,
      and_fields 16 _ i 0x8000 0xFFFF (by omega) (by decide), bit15, show i &&& 0xFFFF = i from and_ones (k := 16) hi]
  rw [Nat.add_assoc, and_fields 32 w _ 0xFFFF 0x8000FFFF low (by decide), field, show w &&& 0xFFFF = w from and_ones (k := 16) hw]

theorem arm_bit {w i : Nat} (arm : Bool) (hi : i < 65536) : bit (w * 2 ^ 32 + 2 ^ 31 * b2n arm + i) 31 = arm := by
  rw [bit, Nat.testBit_eq_decide_div_mod_eq]
  cases arm <;> simp only [b2n] <;> simp <;> omega

theorem rdmaDoorbells : Claim.RdmaDoorbells := by
  intro s fn o w i r arm rings hw hi
  dsimp only
  refine ⟨fun live alive its free => ⟨fun fits => ?_, fun beyond => ?_⟩, fun live alive its => ⟨fun fits => ?_, fun beyond => ?_⟩,
    fun other => ?_, fun small ring its => ?_⟩
  · exact (dbRsq_rings rings hw hi).trans (congrArg (becomes s) ((if_pos ⟨live, its⟩).trans
      ((if_neg (ne_true_of_eq_false free)).trans ((if_neg (Nat.not_lt.2 fits)).trans (if_neg alive)))))
  · refine ⟨_, (dbRsq_rings rings hw hi).trans (congrArg (becomes s) ((if_pos ⟨live, its⟩).trans
      ((if_neg (ne_true_of_eq_false free)).trans (if_pos beyond)))), ?_⟩
    rw [qpError, qpErrorAs_spec 8 8 live alive]
    exact ⟨rfl, rfl⟩
  · exact (dbRrq_rings rings hw hi).trans (congrArg (becomes s) ((if_pos ⟨live, its⟩).trans
      ((if_neg (Nat.not_lt.2 fits)).trans (if_neg alive))))
  · refine ⟨_, (dbRrq_rings rings hw hi).trans (congrArg (becomes s) ((if_pos ⟨live, its⟩).trans (if_pos beyond))), ?_⟩
    rw [qpError, qpErrorAs_spec 8 8 live alive]
    exact ⟨rfl, rfl⟩
  · have no : ¬ ((qpOf s.chip w).state ≠ 0 ∧ (qpOf s.chip w).plat = o) := fun ⟨live, its⟩ => other.elim live (· its)
    exact ⟨(dbRsq_rings rings hw hi).trans (congrArg (becomes s) (if_neg no)),
      (dbRrq_rings rings hw hi).trans (congrArg (becomes s) (if_neg no))⟩
  · have number : bits (w * 2 ^ 32 + 2 ^ 31 * b2n arm + i) 47 32 = w := by
      rw [Nat.add_assoc]
      exact bits_high 47 (by have := b2n_le arm; omega) small
    have index : (w * 2 ^ 32 + 2 ^ 31 * b2n arm + i) % 65536 = i := by omega
    have acts (k : Chip → Nat → Chip) := engineDoorbell_rings rings (ring_mask arm small hi) k
    refine congrArg (becomes s) ((acts _).trans ?_)
    rw [number, index, arm_bit arm hi, ring]
    refine (if_pos its).trans ?_
    rw [dbCq, ring, Nat.mod_eq_of_lt hi]
    rfl

/-- Settles O46: each transition by its row of QP_MODIFY, rings and regions by what is listed, doorbells by their owner. -/
theorem queuePairsAndRings : Obligations.QueuePairsAndRings := ⟨queuePairs, ringsAndRegions, rdmaDoorbells⟩

end Sys2Proof.Machine
end

/-! ## Send requests, recovery and pacing (15 R388 to R405) -/
section
namespace Sys2Proof.Machine

/-! ### The row of an opcode -/

/-- What the row of an opcode does with its request. -/
def sendKind (op w : Nat) : Chip → Qp → Bytes → Chip :=
  if op = 0x10 then fun s q b => rawSend s w q b else fun s q b => startWr s w q b

section
variable (s : State) (w : Nat)

theorem send_row : exec (.send w) s = becomes s (sendWr s.chip w 0 (sendKind 0 w)) := rfl

theorem wrWrite_row : exec (.wrWrite w) s = becomes s (sendWr s.chip w 1 (sendKind 1 w)) := rfl

theorem writeImm_row : exec (.writeImm w) s = becomes s (sendWr s.chip w 2 (sendKind 2 w)) := rfl

theorem wrRead_row : exec (.wrRead w) s = becomes s (sendWr s.chip w 3 (sendKind 3 w)) := rfl

theorem fetchAdd_row : exec (.fetchAdd w) s = becomes s (sendWr s.chip w 4 (sendKind 4 w)) := rfl

theorem cmpSwap_row : exec (.cmpSwap w) s = becomes s (sendWr s.chip w 5 (sendKind 5 w)) := rfl

theorem relaxedWrite_row : exec (.relaxedWrite w) s = becomes s (sendWr s.chip w 8 (sendKind 8 w)) := rfl

theorem relaxedFinal_row : exec (.relaxedFinal w) s = becomes s (sendWr s.chip w 9 (sendKind 9 w)) := rfl

theorem rawSend_row : exec (.rawSend w) s = becomes s (sendWr s.chip w 0x10 (sendKind 0x10 w)) := rfl

/-- Each row of Table 15-4 takes the request of its own opcode. -/
theorem sendRows_exec : ∀ r ∈ ([(0, .send w), (1, .wrWrite w), (2, .writeImm w), (3, .wrRead w), (4, .fetchAdd w),
    (5, .cmpSwap w), (8, .relaxedWrite w), (9, .relaxedFinal w), (0x10, .rawSend w)] : List (Nat × Instr)),
    exec r.2 s = becomes s (sendWr s.chip w r.1 (sendKind r.1 w)) := by
  simp only [List.forall_mem_cons, List.not_mem_nil, false_imp_iff, implies_true, and_true]
  exact ⟨send_row s w, wrWrite_row s w, writeImm_row s w, wrRead_row s w, fetchAdd_row s w, cmpSwap_row s w,
    relaxedWrite_row s w, relaxedFinal_row s w, rawSend_row s w⟩
end

/-- The request at the head of the send ring: a bad entry ends there, its own row starts it unless it must wait. -/
theorem sendWr_acts {c : Chip} {w : Nat} {x : Xfer} (op : Nat) (k : Chip → Qp → Bytes → Chip) (rts : (qpOf c w).state = 3)
    (posted : (qpOf c w).sqCons ≠ (qpOf c w).sqProd) (ready : (qpOf c w).rnrUntil = none)
    (fetched : x = qpFetch c (qpOf c w) (qSqBase (qpOf c w)) (qSqLog (qpOf c w)) (qpOf c w).sqCons) (same : x.s.rdma = c.rdma) :
    sendWr c w op k = (let q := qpOf c w
      if x.st ≠ 0 ∨ wrBad x.s q q.sqCons x.bytes then
        advance (setQp x.s w { q with
          sent := q.sent ++ [⟨q.sqCons, slice x.bytes 0 64, q.nextPsn, 0, 0, some 10, 0, 0, 0, 0⟩], sqCons := idxNext q.sqCons }) w
      else if wOp x.bytes ≠ op then c else if mustWait q x.bytes then c else k x.s q x.bytes) := by
  have its : qpOf x.s w = qpOf c w := congrArg (fun r : Rdma => tget Qp.off r.qps w) same
  unfold sendWr
  dsimp only
  rw [if_neg (by rw [rts, ready]; simp [posted]), ← fetched, its]

/-! ### Completions and packets that are due -/

theorem settle_waits {c : Chip} {w n : Nat} {x : Sent} {r : List Sent} (sent : (qpOf c w).sent = x :: r) (due : x.done = none) :
    settle c w (n + 1) = c := by
  unfold settle
  dsimp only
  rw [sent]
  dsimp only
  rw [due]

theorem settle_empty {c : Chip} {w n : Nat} (sent : (qpOf c w).sent = []) : settle c w n = c := by
  cases n with
  | zero => rfl
  | succ n =>
    unfold settle
    dsimp only
    rw [sent]

theorem pump_stops {c : Chip} {w n : Nat} (stopped : (qpOf c w).state ≠ 3) : pump c w n = c := by
  cases n with
  | zero => rfl
  | succ n => exact if_pos (Or.inl stopped)

/-- A request that ended badly takes the queue pair to ERROR. -/
theorem advance_fails {c : Chip} {w st : Nat} {x : Sent} (rts : (qpOf c w).state = 3) (sent : (qpOf c w).sent = [x])
    (failed : x.done = some (st + 1)) : (qpOf (advance c w) w) = (qpOf c w).failed (st + 1) := by
  have first : settle c w 2 = qpError c w (st + 1) := by
    unfold settle
    dsimp only
    rw [sent]
    dsimp only
    rw [failed]
    rfl
  have ended : qpOf (qpError c w (st + 1)) w = (qpOf c w).failed (st + 1) :=
    qpErrorAs_spec _ _ (by omega) (by omega)
  unfold advance
  dsimp only
  rw [sent, List.length_singleton, first, pump_stops (by rw [ended]; exact (by decide : (4 : Nat) ≠ 3)), settle_empty (by rw [ended]; rfl), ended]

/-! ### The first packet of a request -/

theorem psnCount_pos (q : Qp) (b : Bytes) : 0 < psnCount q b := by
  unfold psnCount
  split
  · decide
  · exact lt_of_lt_of_le Nat.one_pos (Nat.le_max_left 1 _)

theorem sendCount_pos (q : Qp) (b : Bytes) : 0 < sendCount q b := by
  unfold sendCount
  split
  · decide
  · exact psnCount_pos q b

/-- Bytes of the first packet of a plain request, from its BTH to its padding. -/
theorem packetShape_size (q : Qp) (x : Sent) (plain : wOp x.b < 8) : (packetShape q x 0).2.1.length ≤ 32
    ∧ (packetShape q x 0).2.2.2 ≤ qMtu q := by
  have reth16 (a k n : Nat) : (reth a k n).length = 16 := rfl
  have not8 : (wOp x.b == 8) = false := by rw [beq_eq_false_iff_ne]; omega
  have not9 : (wOp x.b == 9) = false := by rw [beq_eq_false_iff_ne]; omega
  unfold packetShape
  simp only [not8, not9, Bool.or_self, Bool.and_false, Bool.false_eq_true, if_false]
  split
  · exact ⟨by rw [reth16]; decide, Nat.zero_le _⟩
  · split
    · exact ⟨by simp [beN, leBytes_length, zeros], Nat.zero_le _⟩
    · split
      · exact ⟨by simp [beN, leBytes_length], Nat.zero_le _⟩
      · refine ⟨?_, Nat.min_le_left _ _⟩
        rw [List.length_append, apply_ite List.length, apply_ite List.length, reth16, slice_length]
        split <;> split <;> decide

/-- Without room for its next packet a request waits. -/
theorem pump_waits {c : Chip} {w n : Nat} {x : Sent} (sent : (qpOf c w).sent = [x]) (due : x.done = none) (at_ : x.next = 0)
    (full : packetRoom c (qpOf c w) (12 + (packetShape (qpOf c w) x 0).2.1.length + (packetShape (qpOf c w) x 0).2.2.2 + 3) = false) :
    pump c w n = c := by
  cases n with
  | zero => rfl
  | succ n =>
    have found : ([x] : List Sent).find? (fun x => x.done.isNone && decide (x.next < sendCount (qpOf c w) x.b)) = some x := by
      rw [List.find?_cons, due, at_, decide_eq_true (sendCount_pos _ _)]
      rfl
    have fine : ([x] : List Sent).any (fun y => y.done.any (· != 0)) = false := by
      rw [List.any_cons, due]
      rfl
    unfold pump
    dsimp only
    split
    · rfl
    · rw [sent, found]
      dsimp only
      rw [fine, at_, full]
      rfl

/-- A queue pair with one request, none of whose packets has left. -/
theorem advance_waits {c : Chip} {w : Nat} {x : Sent} (sent : (qpOf c w).sent = [x]) (due : x.done = none) (at_ : x.next = 0)
    (full : packetRoom c (qpOf c w) (12 + (packetShape (qpOf c w) x 0).2.1.length + (packetShape (qpOf c w) x 0).2.2.2 + 3) = false) :
    advance c w = c := by
  unfold advance
  dsimp only
  rw [sent, List.length_singleton, settle_waits sent due, pump_waits sent due at_ full, settle_waits sent due]

/-- The context once a request is taken from the ring. -/
def Qp.begun (q : Qp) (b : Bytes) : Qp :=
  { q with
    sent := q.sent ++ [⟨q.sqCons, b, q.nextPsn, psnCount q b, 0, none, 0, 0, q.group, q.gfirst.getD q.nextPsn⟩]
    nextPsn := psnAdd q.nextPsn (psnCount q b), sqCons := idxNext q.sqCons }

theorem startWr_plain (c : Chip) (w : Nat) (q : Qp) (b : Bytes) (plain : wOp b < 8) :
    startWr c w q b = advance (setQp c w (q.begun b)) w := by
  unfold startWr
  dsimp only
  rw [if_neg (by omega), if_neg (by omega)]
  rfl

/-- A request without room for a packet only takes its PSNs. -/
theorem startWr_waits {c : Chip} {w : Nat} {q : Qp} {b : Bytes} (plain : wOp b < 8) (idle : q.sent = [])
    (full : ∀ n, n ≤ 12 + 32 + qMtu q + 3 → 15 ≤ n → packetRoom c q n = false) :
    qpOf (startWr c w q b) w = q.begun b := by
  have its : qpOf (setQp c w (q.begun b)) w = q.begun b := qpOf_setQp_same c w _
  have sent : (q.begun b).sent = [⟨q.sqCons, b, q.nextPsn, psnCount q b, 0, none, 0, 0, q.group, q.gfirst.getD q.nextPsn⟩] := by
    rw [Qp.begun, idle]
    rfl
  obtain ⟨header, payload⟩ := packetShape_size (q.begun b)
    ⟨q.sqCons, b, q.nextPsn, psnCount q b, 0, none, 0, 0, q.group, q.gfirst.getD q.nextPsn⟩ plain
  rw [startWr_plain c w q b plain, advance_waits (by rw [its, sent]) rfl rfl ?_, its]
  rw [its]
  refine full _ ?_ (by omega)
  have mtu : qMtu (q.begun b) = qMtu q := rfl
  omega

/-! ### An empty WRITE -/

theorem enqueueFrame_enters {c : Chip} {k : Nat} {f : Frame} (fits : f.len ≤ qLimit c k)
    (there : subExists c (gSub c (qGroup c k)) = true) : enqueueFrame c k f = setFrames c k (qFrames c k ++ [f]) := by
  unfold enqueueFrame
  exact if_neg (by rw [there]; simp [fits])

/-- A packet that fits waits at the end of the egress queue of its queue pair. -/
theorem putPacket_enters {y c : Chip} {w op psn : Nat} {p : Bytes} {q : Qp} (od : y.od = c.od) (queues : y.net.queues = c.net.queues)
    (tb : y.tb = c.tb) (cfg : (qpOf y w).cfg = q.cfg) (plat : (qpOf y w).plat = q.plat)
    (fits : wireLen c (qSub q) (isV4 (slice q.cfg 48 16)) (qOutSa q).isSome p.length ≤ qLimit c (qEgress c q))
    (there : subExists c (gSub c (qGroup c (qEgress c q))) = true) :
    qFrames (putPacket y w op psn p) (qEgress c q) = qFrames c (qEgress c q)
      ++ [⟨wireLen c (qSub q) (isV4 (slice q.cfg 48 16)) (qOutSa q).isSome p.length, nowNs c, some (w, op, psn), p, qOutSa q⟩] := by
  have num (o k : Nat) : odN y o k = odN c o k := odN_congr _ _ od o k
  have blob (o k : Nat) : odB y o k = odB c o k := congrArg OdVal.blob (odGet_congr y c od o k)
  have egress : qEgress y (qpOf y w) = qEgress c q := by
    simp only [qEgress, qRaw, qTcl, qSub, tclMask, rdmaRec, cfg, plat, blob]
    rfl
  have sub : qSub (qpOf y w) = qSub q := by
    simp only [qSub, qRaw, qTcl, cfg]
    rfl
  have sa : qOutSa (qpOf y w) = qOutSa q := by simp only [qOutSa, cfg]
  have wire : wireLen y = wireLen c := by
    funext i v4 esp n
    simp only [wireLen, num]
  have limit (k : Nat) : qLimit y k = qLimit c k := by simp only [qLimit, queueRec, blob]
  have group (k : Nat) : gSub y (qGroup y k) = gSub c (qGroup c k) := by simp only [gSub, groupRec, qGroup, queueRec, blob]
  have subs (i : Nat) : subExists y i = subExists c i := by
    unfold subExists breakout
    rw [num]
  have frames (k : Nat) : qFrames y k = qFrames c k := congrArg (fun t => tget [] t k) queues
  unfold putPacket
  dsimp only
  rw [egress, sub, sa, cfg, wire, enqueueFrame_enters (by rw [limit]; exact fits) (by rw [subs, group]; exact there),
    qFrames_setFrames_same, frames, nowNs, tb]
  rfl

theorem emptyWrite_count {q : Qp} {b : Bytes} (write : wOp b = 1) (nothing : wLen b = 0) : psnCount q b = 1 ∧ sendCount q b = 1 := by
  have mtu : 0 < qMtu q := Nat.mul_pos (by decide) (Nat.two_pow_pos _)
  have count : psnCount q b = 1 := by
    unfold psnCount cdiv
    rw [write, nothing, if_neg (by decide), Nat.div_eq_of_lt (by omega)]
    rfl
  refine ⟨count, ?_⟩
  unfold sendCount
  rw [write, count]
  rfl

/-- An empty WRITE is one packet without payload. -/
theorem emptyWrite_shape {q : Qp} {x : Sent} (write : wOp x.b = 1) (nothing : wLen x.b = 0) :
    packetShape q x 0 = (0x0A, reth (fld x.b 24 8) (fld x.b 32 4) 0, 0, 0) := by
  unfold packetShape
  dsimp only
  rw [write, nothing, (emptyWrite_count write nothing).2]
  simp

theorem putPacket_qp (c : Chip) (w op psn : Nat) (p : Bytes) (v : Nat) : qpOf (putPacket c w op psn p) v = qpOf c v := by
  unfold putPacket enqueueFrame
  dsimp only
  split <;> rfl

/-- The one packet of an empty WRITE. -/
def emptyWrite (q : Qp) (psn : Nat) (b : Bytes) : Bytes :=
  bth 0x0A (qRemote q) psn true 0 ++ reth (fld b 24 8) (fld b 32 4) 0

theorem emptyWrite_length (q : Qp) (psn : Nat) (b : Bytes) : (emptyWrite q psn b).length = 28 := by
  simp [emptyWrite, bth, reth, beN, leBytes_length, zeros]

/-- A queue pair whose one request, an empty WRITE, has sent its packet. -/
def Qp.sentOne (q : Qp) (x : Sent) (now : Nat) : Qp := { q with sent := [{ x with next := 1 }], progress := now }

theorem pump_emptyWrite {c : Chip} {w n : Nat} {x : Sent} (rts : (qpOf c w).state = 3) (ready : (qpOf c w).rnrUntil = none)
    (sent : (qpOf c w).sent = [x]) (due : x.done = none) (at_ : x.next = 0) (write : wOp x.b = 1) (nothing : wLen x.b = 0)
    (room : packetRoom c (qpOf c w) 31 = true) : pump c w (n + 2) =
      putPacket (setQp c w ((qpOf c w).sentOne x (nowNs c))) w 0x0A (psnAdd x.first 0) (emptyWrite (qpOf c w) (psnAdd x.first 0) x.b) := by
  have one := (emptyWrite_count (q := qpOf c w) write nothing).2
  have found : ([x] : List Sent).find? (fun x => x.done.isNone && decide (x.next < sendCount (qpOf c w) x.b)) = some x := by
    rw [List.find?_cons, due, at_, one]
    rfl
  have fine : ([x] : List Sent).any (fun y => y.done.any (· != 0)) = false := by
    rw [List.any_cons, due]
    rfl
  have first : pump c w (n + 2) = pump (putPacket (setQp c w ((qpOf c w).sentOne x (nowNs c))) w 0x0A (psnAdd x.first 0)
      (emptyWrite (qpOf c w) (psnAdd x.first 0) x.b)) w (n + 1) := by
    rw [show n + 2 = (n + 1) + 1 from rfl, pump]
    dsimp only
    rw [if_neg (by rw [rts, ready]; simp), sent, found]
    dsimp only
    rw [fine, at_, emptyWrite_shape write nothing]
    dsimp only
    refine (if_neg (by decide)).trans ((if_neg (show ¬ (!packetRoom c (qpOf c w) 31) = true by rw [room]; decide)).trans ?_)
    rw [if_pos rfl]
    refine (if_neg (not_not.2 rfl)).trans ?_
    have acked : (0 + 1 == sendCount (qpOf c w) x.b) = true := by rw [one]; rfl
    rw [acked]
    simp only [List.map_cons, List.map_nil, and_self, if_true, at_, List.all_cons, List.all_nil, beq_self_eq_true, Bool.and_self]
    have bytes : bth 10 (qRemote (qpOf c w)) (psnAdd x.first 0) true 0 ++ reth (fld x.b 24 8) (fld x.b 32 4) 0 ++ [] ++ zeros 0
        = emptyWrite (qpOf c w) (psnAdd x.first 0) x.b := by simp [emptyWrite, zeros]
    rw [← bytes]
    rfl
  have after : qpOf (putPacket (setQp c w ((qpOf c w).sentOne x (nowNs c))) w 0x0A (psnAdd x.first 0)
      (emptyWrite (qpOf c w) (psnAdd x.first 0) x.b)) w = (qpOf c w).sentOne x (nowNs c) :=
    (putPacket_qp _ w _ _ _ w).trans (qpOf_setQp_same c w _)
  have no : ([{ x with next := 1 }] : List Sent).find? (fun y => y.done.isNone
      && decide (y.next < sendCount ((qpOf c w).sentOne x (nowNs c)) y.b)) = none := by
    have one' : sendCount ((qpOf c w).sentOne x (nowNs c)) x.b = 1 := one
    simp [one']
  rw [first, pump]
  dsimp only
  rw [after, if_neg (by simp [Qp.sentOne, rts, ready]), show ((qpOf c w).sentOne x (nowNs c)).sent = [{ x with next := 1 }] from rfl,
    no]

theorem wireLen_mono (c : Chip) (i : Nat) (v4 esp : Bool) {m n : Nat} (h : m ≤ n) : wireLen c i v4 esp m ≤ wireLen c i v4 esp n := by
  unfold wireLen
  cases esp <;> simp only [Bool.false_eq_true, if_false, if_true] <;> omega

theorem advance_emptyWrite {c : Chip} {w : Nat} {x : Sent} (rts : (qpOf c w).state = 3) (ready : (qpOf c w).rnrUntil = none)
    (sent : (qpOf c w).sent = [x]) (due : x.done = none) (at_ : x.next = 0) (write : wOp x.b = 1) (nothing : wLen x.b = 0)
    (room : packetRoom c (qpOf c w) 31 = true) : advance c w =
      putPacket (setQp c w ((qpOf c w).sentOne x (nowNs c))) w 0x0A (psnAdd x.first 0) (emptyWrite (qpOf c w) (psnAdd x.first 0) x.b) := by
  have pumped : pump c w 65536 = _ := pump_emptyWrite (n := 65534) rts ready sent due at_ write nothing room
  unfold advance
  dsimp only
  rw [sent, List.length_singleton, settle_waits sent due, pumped]
  refine settle_waits (x := { x with next := 1 }) (r := []) ?_ due
  rw [putPacket_qp, qpOf_setQp_same]
  rfl

/-- The packet of an empty WRITE waits on the egress queue of its queue pair. -/
theorem startWr_emptyWrite {c : Chip} {w : Nat} {q : Qp} {b : Bytes} (rts : q.state = 3) (ready : q.rnrUntil = none)
    (idle : q.sent = []) (write : wOp b = 1) (nothing : wLen b = 0)
    (room : qRoom c (qEgress c q) (wireLen c (qSub q) (isV4 (slice q.cfg 48 16)) (qOutSa q).isSome 31) = true)
    (there : subExists c (gSub c (qGroup c (qEgress c q))) = true) :
    qFrames (startWr c w q b) (qEgress c q) = qFrames c (qEgress c q)
      ++ [⟨wireLen c (qSub q) (isV4 (slice q.cfg 48 16)) (qOutSa q).isSome 28, nowNs c, some (w, 0x0A, q.nextPsn % 2 ^ 24),
        emptyWrite q (q.nextPsn % 2 ^ 24) b, qOutSa q⟩] := by
  have its : qpOf (setQp c w (q.begun b)) w = q.begun b := qpOf_setQp_same c w _
  have sent : (q.begun b).sent = [⟨q.sqCons, b, q.nextPsn, psnCount q b, 0, none, 0, 0, q.group, q.gfirst.getD q.nextPsn⟩] := by
    rw [Qp.begun, idle]
    rfl
  have roomy : packetRoom (setQp c w (q.begun b)) (qpOf (setQp c w (q.begun b)) w) 31 = true := by
    rw [its]
    exact (congrArg (· || _) room).trans (Bool.true_or _)
  have limit : wireLen c (qSub q) (isV4 (slice q.cfg 48 16)) (qOutSa q).isSome 31 ≤ qLimit c (qEgress c q) :=
    le_trans (Nat.le_add_left _ _) (of_decide_eq_true room)
  rw [startWr_plain c w q b (by omega), advance_emptyWrite (by rw [its]; exact rts) (by rw [its]; exact ready)
    (by rw [its, sent]) rfl rfl write nothing roomy, its]
  have fits := le_trans (wireLen_mono c (qSub q) (isV4 (slice q.cfg 48 16)) (qOutSa q).isSome (show 28 ≤ 31 by decide)) limit
  rw [← emptyWrite_length (q.begun b) (psnAdd q.nextPsn 0) b] at fits
  have kept := qpOf_setQp_same (setQp c w (q.begun b)) w ((q.begun b).sentOne
    ⟨q.sqCons, b, q.nextPsn, psnCount q b, 0, none, 0, 0, q.group, q.gfirst.getD q.nextPsn⟩ (nowNs c))
  have entered := putPacket_enters (y := setQp (setQp c w (q.begun b)) w ((q.begun b).sentOne
    ⟨q.sqCons, b, q.nextPsn, psnCount q b, 0, none, 0, 0, q.group, q.gfirst.getD q.nextPsn⟩ (nowNs c)))
    (op := 0x0A) (psn := psnAdd q.nextPsn 0) (c := c) (q := q) rfl rfl rfl
    (by rw [kept]; rfl) (by rw [kept]; rfl) fits there
  rw [emptyWrite_length] at entered
  exact entered

/-! ### A raw frame -/

/-- A request that has ended well, and asks for no completion, leaves its queue pair. -/
theorem settle_silent {c : Chip} {w n : Nat} {x : Sent} (sent : (qpOf c w).sent = [x]) (ended : x.done = some 0)
    (silent : bit (fld x.b 3 1) 0 = false) : settle c w (n + 1) = setQp c w { qpOf c w with sent := [] } := by
  unfold settle
  dsimp only
  rw [sent]
  dsimp only
  rw [ended]
  rw [silent]
  exact settle_empty (by rw [if_neg (by decide), qpOf_setQp_same])

theorem enqueueFrame_qp (c : Chip) (k : Nat) (f : Frame) (v : Nat) : qpOf (enqueueFrame c k f) v = qpOf c v := by
  unfold enqueueFrame
  dsimp only
  split <;> rfl

/-- What a raw send reads. -/
def rawFrame (c : Chip) (q : Qp) (b : Bytes) : Xfer :=
  xferRead c (agentOf q.plat) (fld b 16 8) (wLen b) (bits (fld b 3 1) 3 2) 0 uRdma ⟨0, fld b 16 8 + wLen b, .any⟩

/-- A raw frame waits whole on its egress queue. -/
theorem rawSend_enters {c : Chip} {w : Nat} {q : Qp} {b : Bytes} (read : (rawFrame c q b).st = 0) (idle : q.sent = [])
    (silent : bit (fld b 3 1) 0 = false) (room : qRoom c (qEgress c q) (wLen b + 4) = true)
    (fits : max 64 (wLen b + 4) ≤ qLimit (rawFrame c q b).s (qEgress c q))
    (there : subExists (rawFrame c q b).s (gSub (rawFrame c q b).s (qGroup (rawFrame c q b).s (qEgress c q))) = true) :
    qFrames (rawSend c w q b) (qEgress c q) = qFrames (rawFrame c q b).s (qEgress c q)
      ++ [⟨max 64 (wLen b + 4), nowNs (rawFrame c q b).s, none, (rawFrame c q b).bytes, none⟩] := by
  let v : Qp := { q with sent := [⟨q.sqCons, b, q.nextPsn, 0, 0, some 0, 0, wLen b, 0, 0⟩], sqCons := idxNext q.sqCons }
  have acts : rawSend c w q b = settle (enqueueFrame (setQp (rawFrame c q b).s w v) (qEgress c q)
      ⟨max 64 (wLen b + 4), nowNs (rawFrame c q b).s, none, (rawFrame c q b).bytes, none⟩) w 2 := by
    have stays : ¬ ((!qRoom c (qEgress c q) (wLen b + 4)) = true ∧ wLen b + 4 ≤ qLimit c (qEgress c q)) := by
      rw [room]
      simp
    unfold rawSend
    dsimp only
    rw [if_neg stays, show xferRead c (agentOf q.plat) (fld b 16 8) (wLen b) (bits (fld b 3 1) 3 2) 0 uRdma
      ⟨0, fld b 16 8 + wLen b, .any⟩ = rawFrame c q b from rfl, read, if_pos rfl, if_pos rfl, if_pos rfl, idle]
    rfl
  have its : qpOf (enqueueFrame (setQp (rawFrame c q b).s w v) (qEgress c q)
      ⟨max 64 (wLen b + 4), nowNs (rawFrame c q b).s, none, (rawFrame c q b).bytes, none⟩) w = v :=
    (enqueueFrame_qp _ _ _ w).trans (qpOf_setQp_same _ w v)
  rw [acts, settle_silent (by rw [its]) rfl silent]
  refine (congrArg (qFrames · (qEgress c q)) (enqueueFrame_enters (c := setQp (rawFrame c q b).s w v) fits there)).trans ?_
  exact qFrames_setFrames_same _ _ _

theorem sendRequests : Claim.SendRequests := by
  intro s w x rts posted ready
  dsimp only
  intro fetched same
  have its : qpOf x.s w = qpOf s.chip w := congrArg (fun r : Rdma => tget Qp.off r.qps w) same
  have acts (op : Nat) := sendWr_acts op (sendKind op w) rts posted ready fetched same
  dsimp only at acts
  refine ⟨fun read good r hr => ?_, fun read bad idle r hr => ?_⟩
  · have fine : ¬ (x.st ≠ 0 ∨ wrBad x.s (qpOf s.chip w) (qpOf s.chip w).sqCons x.bytes = true) := by
      rw [read, good]
      simp
    have row := sendRows_exec s w r hr
    rw [acts, if_neg fine] at row
    refine ⟨fun other => ?_, fun own wait => ?_, fun own go plain => ⟨?_, fun low idle full => ?_, fun write idle nothing room there => ?_⟩,
      fun own go raw => ⟨?_, fun readRaw idle silent room fits there => ?_⟩⟩
    · exact row.trans (congrArg (becomes s) (if_pos (Ne.symm other)))
    · exact row.trans (congrArg (becomes s) ((if_neg (not_not.2 own.symm)).trans (if_pos wait)))
    · refine row.trans (congrArg (becomes s) ((if_neg (not_not.2 own.symm)).trans ((if_neg (ne_true_of_eq_false go)).trans ?_)))
      rw [sendKind, if_neg plain]
    · rw [startWr_waits (by omega) idle full, Qp.begun, idle]
      rfl
    · exact startWr_emptyWrite rts ready idle (by omega) nothing room there
    · refine row.trans (congrArg (becomes s) ((if_neg (not_not.2 own.symm)).trans ((if_neg (ne_true_of_eq_false go)).trans ?_)))
      rw [sendKind, if_pos raw]
    · exact rawSend_enters readRaw idle silent room fits there
  · have row := sendRows_exec s w r hr
    rw [acts, if_pos (Or.inr bad), idle] at row
    refine ⟨_, row, ?_⟩
    have put := qpOf_setQp_same x.s w { qpOf s.chip w with
      sent := [] ++ [⟨(qpOf s.chip w).sqCons, slice x.bytes 0 64, (qpOf s.chip w).nextPsn, 0, 0, some 10, 0, 0, 0, 0⟩]
      sqCons := idxNext (qpOf s.chip w).sqCons }
    rw [advance_fails (st := 9) (by rw [put]; exact rts) (by rw [put]; rfl) rfl]
    exact ⟨rfl, rfl⟩

/-! ### Recovery and pacing -/

theorem retransmitTimeout_due {c : Chip} {w : Nat} (rts : (qpOf c w).state = 3) (flying : inFlight (qpOf c w) = true)
    (ready : (qpOf c w).rnrUntil = none) (late : (qpOf c w).progress + qTimeout (qpOf c w) ≤ nowNs c) : retransmitTimeout c w =
      retryFrom (if (profileOf c (qpOf c w).plat).isSome then setRate c w (max ((qpOf c w).rate / 2) (rateMin c (qpOf c w))) else c)
        w (qpOf c w).una := by
  unfold retransmitTimeout
  exact if_neg (by rw [rts, flying, ready]; simp [late])

theorem retryFrom_again {c : Chip} {w psn : Nat} (left : 0 < (qpOf c w).retries) :
    retryFrom c w psn = resend (setQp c w { qpOf c w with retries := (qpOf c w).retries - 1 }) w psn := if_neg left.ne'

theorem retryFrom_fails {c : Chip} {w psn : Nat} (left : (qpOf c w).retries = 0) : retryFrom c w psn = qpError c w 6 := if_pos left

theorem setRate_qp (c : Chip) (w r : Nat) : qpOf (setRate c w r) w = { qpOf c w with rate := r } := by
  have kept : (setRate c w r).rdma = (setQp c w { qpOf c w with rate := r }).rdma := by
    unfold setRate
    dsimp only
    split <;> rfl
  exact (congrArg (fun x : Rdma => tget Qp.off x.qps w) kept).trans (qpOf_setQp_same c w _)

/-- The bounds of a rate. -/
def rateWithin (c : Chip) (k : Nat) (yielded : Bool) (v : Nat) : Nat :=
  min (max v (if yielded then 1000 else prof c k 4 4)) (prof c k 8 4)

theorem pacingQp_due {c : Chip} {w k t : Nat} (rts : (qpOf c w).state = 3) (paced : profileOf c (qpOf c w).plat = some k)
    (due : (qpOf c w).nextInterval ≤ nowNs c) (entry : (qpOf c w).pace = some t) : ∃ v : Qp, qpOf (pacingQp c w) w = v
      ∧ v.samples = [] ∧ v.nextInterval = (qpOf c w).nextInterval + us (max 1 (prof c k 18 2))
      ∧ ((qpOf c w).samples = [] → v.rate = rateWithin c k (qpOf c w).yielded (qpOf c w).rate)
      ∧ ∀ r, (qpOf c w).samples = [r] → (qpOf c w).yielded = false → r ≤ prof c k 20 4 → r < prof c k 28 4 →
          v.rate = rateWithin c k false ((qpOf c w).rate + prof c k 12 4) := by
  have told (y : Chip) (b : Bool) (e : Ev) (x : Nat) : qpOf (if b then raise y e x else y) w = qpOf y w := by
    split <;> rfl
  refine ⟨_, rfl, ?_⟩
  unfold pacingQp
  dsimp only
  rw [paced]
  dsimp only
  rw [if_neg (by rw [rts, entry]; simp [due])]
  cases found : smallest (qpOf c w).samples with
  | none =>
    have empty : (qpOf c w).samples = [] := by
      cases h : (qpOf c w).samples with
      | nil => rfl
      | cons x r => rw [h] at found; cases found
    dsimp only
    rw [setRate_qp, qpOf_setQp_same]
    exact ⟨rfl, rfl, fun _ => rfl, fun r one => absurd (empty.symm.trans one) (by simp)⟩
  | some r =>
    dsimp only
    rw [told, told, setRate_qp, qpOf_setQp_same]
    refine ⟨rfl, rfl, fun none_ => ?_, fun r' one yields low below => ?_⟩
    · rw [none_] at found
      cases found
    · rw [one] at found
      cases found
      have calm : ceiling c k r' (qpOf c w).above (qpOf c w).yielded = (false, 0, false) := by
        rw [yields]
        unfold ceiling
        dsimp only
        rw [if_neg (by omega), if_neg (by omega)]
      show (if r' = prof c k 28 4 then (qpOf c w).rate else newRate c k (qpOf c w).rate r' (prof c k 4 4) (prof c k 8 4)
        (ceiling c k r' (qpOf c w).above (qpOf c w).yielded).1) = _
      rw [if_neg (by omega), calm]
      unfold newRate
      dsimp only
      rw [if_pos low]
      rfl

/-- What the end of an interval of an adaptive shaper does while it is due. -/
theorem pacingShaper_due {c : Chip} {k p : Nat} (named : (List.range 16).find? (fun p => bit (prof c p 34 1) 0 && prof c p 32 2 == k)
      = some p) (hk : k < 32768) (adaptive : bit (fld (shaperRec c k) 0 1) 2 = true)
    (due : (tget ⟨0, false, false, 0⟩ c.rdma.loops k).nextInterval ≤ nowNs c) :
    (loopQps c k = [] → ∀ b, pacingShaper c k b = { c with rdma := { c.rdma with
        loops := tput c.rdma.loops k { tget ⟨0, false, false, 0⟩ c.rdma.loops k with nextInterval := nowNs c + us (max 1 (prof c p 18 2)) } } })
    ∧ ∀ w r, loopQps c k = [w] → (qpOf c w).samples = [r] → ∃ y arg loops,
        pacingShaper c k true = { raise y evShaperRateCollision arg with rdma := loops } ∧ y.od = c.od := by
  have runs : ¬ (32768 ≤ k ∨ (!bit (fld (shaperRec c k) 0 1) 2) = true
      ∨ nowNs c < (tget ⟨0, false, false, 0⟩ c.rdma.loops k).nextInterval) := by
    rw [adaptive]
    simp
    omega
  refine ⟨fun none_ b => ?_, fun w r one sample => ?_⟩
  · unfold pacingShaper
    rw [named]
    dsimp only
    rw [if_neg runs, none_]
    rfl
  · have samples : [w].filterMap (fun n => smallest (qpOf c n).samples) = [r] := by
      rw [List.filterMap_cons, sample]
      rfl
    unfold pacingShaper
    rw [named]
    dsimp only
    rw [if_neg runs, one, samples]
    exact ⟨_, _, _, rfl, rfl⟩

theorem rdmaTimers : Claim.RdmaTimers := by
  intro s w k t r
  dsimp only
  refine ⟨fun rts flying ready late => ⟨fun unpaced some_ => ?_, fun unpaced none_ => ?_, fun paced => ?_⟩, fun rts wait over_ => ?_,
    fun rts paced due entry => ?_, fun p named hk adaptive due => ⟨fun none_ => ?_, fun one sample => ?_⟩, fun owed late rts => ?_⟩
  · have acts := retransmitTimeout_due rts flying ready late
    rw [unpaced, if_neg (by decide), retryFrom_again some_] at acts
    exact congrArg (becomes s) acts
  · have acts := retransmitTimeout_due rts flying ready late
    rw [unpaced, if_neg (by decide), retryFrom_fails none_] at acts
    refine ⟨_, congrArg (becomes s) acts, ?_⟩
    rw [qpError, qpErrorAs_spec 6 6 (by omega) (by omega)]
    exact ⟨rfl, rfl⟩
  · have acts := retransmitTimeout_due rts flying ready late
    rw [rateMin, paced] at acts
    rw [if_pos (show (some k).isSome = true from rfl)] at acts
    exact congrArg (becomes s) acts
  · have acts : rnrTimer s.chip w = resend (setQp s.chip w { qpOf s.chip w with rnrUntil := none }) w (qpOf s.chip w).una := by
      unfold rnrTimer
      dsimp only
      rw [wait]
      exact if_pos ⟨rts, over_⟩
    exact congrArg (becomes s) acts
  · obtain ⟨v, its, samples, next, idle, one⟩ := pacingQp_due rts paced due entry
    refine ⟨pacingQp s.chip w, rfl, ?_⟩
    rw [its]
    refine ⟨samples, ?_, idle, fun one' yields => ?_⟩
    · rw [next, us, Nat.mul_comm]
    · rw [yields]
      exact one r one' yields
  · have acts := (pacingShaper_due named hk adaptive due).1 none_ false
    rw [us, Nat.mul_comm] at acts
    exact congrArg (becomes s) acts
  · obtain ⟨y, arg, loops, acts, od⟩ := (pacingShaper_due named hk adaptive due).2 w r one sample
    refine ⟨_, congrArg (becomes s) acts, ?_, rfl⟩
    exact (odB_odSet _ _ _ _ _ _ (by decide) (by omega) (Or.inl (by omega))).trans
      (congrArg OdVal.blob (odGet_congr y s.chip od _ _))
  · have acts : responderAckTimer s.chip w = sendAck s.chip w := if_pos ⟨owed, late⟩
    refine ⟨congrArg (becomes s) acts, ?_⟩
    unfold sendAck
    dsimp only
    rw [if_neg (by omega), putPacket_qp, qpOf_setQp_same]

/-- Settles O47: each row takes the request of its opcode, and a timer acts once it is due. -/
theorem sendsAndTimers : Obligations.SendsAndTimers := ⟨sendRequests, rdmaTimers⟩

end Sys2Proof.Machine
end

/-! ## Remote memory: the responder and its answers -/
section
namespace Sys2Proof.Machine

/-! ### Counters of a device and of its platforms -/

/-- A counter of object `a`, and of a platform's object behind `b`. -/
def countBoth (a b : Nat) (c : Chip) (plat n : Nat) : Chip :=
  if plat < 64 then odAdd64 (odAdd64 c a n 1) (b + plat) n 1 else odAdd64 c a n 1

theorem rdmaCount_eq (c : Chip) (plat n : Nat) : rdmaCount c plat n = countBoth 0x24030 0x24080 c plat n := rfl

theorem espCount_eq (c : Chip) (plat n : Nat) : espCount c plat n = countBoth 0x25001 0x25080 c plat n := rfl

section
variable (a b : Nat) (c : Chip) (plat n : Nat)

theorem countBoth_rdma : (countBoth a b c plat n).rdma = c.rdma := by unfold countBoth; split <;> rfl

theorem countBoth_net : (countBoth a b c plat n).net = c.net := by unfold countBoth; split <;> rfl

theorem countBoth_sec : (countBoth a b c plat n).sec = c.sec := by unfold countBoth; split <;> rfl

theorem countBoth_keeps {o k : Nat} (hn : n < 256) (hk : k < 256) (ha : o ≠ a) (hb : ∀ p, p < 64 → o ≠ b + p) :
    odGet (countBoth a b c plat n) o k = odGet c o k := by
  unfold countBoth
  split
  · next small =>
    exact ((odGet_odPut _ _ _ _ _ _ hn hk).trans (if_neg fun e => hb plat small e.1)).trans
      ((odGet_odPut _ _ _ _ _ _ hn hk).trans (if_neg fun e => ha e.1))
  · exact (odGet_odPut _ _ _ _ _ _ hn hk).trans (if_neg fun e => ha e.1)

theorem countBoth_counts {k : Nat} (hn : n < 256) (hk : k < 256) (hb : ∀ p, p < 64 → a ≠ b + p) :
    odN (countBoth a b c plat n) a k = if k = n then (odN c a n + 1) % 2 ^ 64 else odN c a k := by
  have device : odN (odAdd64 c a n 1) a k = if k = n then (odN c a n + 1) % 2 ^ 64 else odN c a k := by
    split
    · next same => rw [same, odN_odAdd64_same]
    · next ne => exact odN_odAdd64_ne _ _ _ _ _ _ hn hk (Or.inr ne)
  unfold countBoth
  split
  · next small => rw [odN_odAdd64_ne _ _ _ _ _ _ hn hk (Or.inl (hb plat small)), device]
  · exact device
end

/-! ### A packet that arrives -/

/-- The block with a frame taken from the ingress buffer. -/
def withoutFrame (c : Chip) (f : RxFrame) : Chip := { c with net := { c.net with buffer := c.net.buffer.erase f } }

section
variable {s : State} {f : RxFrame} {w : Nat} {y : Chip} (h : Arrives s f w y)
include h

theorem takeRoce_arrives {kind : Nat → Bool} (is : kind (bthOp f.data) = true) :
    takeRoce s.chip kind = some (f, withoutFrame s.chip f) := by
  unfold takeRoce
  rw [h.1]
  exact if_pos is

theorem received_arrives (k : Chip → Nat → Qp → Chip) : received (withoutFrame s.chip f) f k = k y w (qpOf s.chip w) := by
  obtain ⟨-, rfl, small, icrc, clear, free, unmarked, live, rfl⟩ := h
  have same : qpOf (rdmaCount (withoutFrame s.chip f) (qpOf s.chip (bthQpn f.data)).plat 2) (bthQpn f.data)
      = qpOf s.chip (bthQpn f.data) := by
    unfold qpOf
    rw [rdmaCount_eq, countBoth_rdma]
    rfl
  unfold received
  rw [show qpOf (withoutFrame s.chip f) = qpOf s.chip from rfl]
  dsimp only
  rw [if_neg (by rw [icrc]; simpa using small), if_neg (by omega), if_neg (by omega), clear]
  dsimp only
  rw [if_neg (ne_true_of_eq_false free), if_neg unmarked, same]
  rfl

theorem arrives_rdma : y.rdma = s.chip.rdma := by
  obtain ⟨-, -, -, -, -, -, -, -, rfl⟩ := h
  exact countBoth_rdma _ _ _ _ _

theorem arrives_qp : qpOf y w = qpOf s.chip w := by
  unfold qpOf
  rw [arrives_rdma h]

theorem rxRequest_arrives (plain : isAnswerOp (bthOp f.data) = false) (n1 : bthOp f.data ≠ 0x81) (n2 : bthOp f.data ≠ 0xC0)
    (n3 : bthOp f.data ≠ 0xC1) : rxRequest s.chip = (let q := qpOf s.chip w
      let psn := bthPsn f.data
      if psn = q.expPsn then rxPerform y w false f.data
      else if psnLe psn q.expPsn ∨ q.placed.contains psn then rxPerform y w true f.data
      else if q.nakSent then y
      else sendNak (setQp y w { q with nakSent := true }) w q.expPsn nakSequence) := by
  unfold rxRequest
  rw [takeRoce_arrives h (by simp [plain, n1, n2, n3])]
  exact received_arrives h _

theorem rxRelaxed_arrives (is : bthOp f.data = 0xC0 ∨ bthOp f.data = 0xC1) : rxRelaxed s.chip = (let q := qpOf s.chip w
      let psn := bthPsn f.data
      if !q.relaxed then sendNak y w psn nakInvalid
      else if q.placed.contains psn || (psn != q.expPsn && psnLe psn q.expPsn) then sendAck y w
      else if 256 ≤ psnSub psn q.expPsn then rdmaCount y q.plat 7
      else if q.finals.any (fun h => h.psn == psn) then y
      else rxRelaxedNew y w q f (bthBody f.data)) := by
  unfold rxRelaxed
  rw [takeRoce_arrives h (by simpa using is)]
  exact received_arrives h _

theorem rxAck_arrives (is : bthOp f.data = 0x11) : rxAck s.chip =
      if (qpOf s.chip w).state ≠ 3 then y else rxAeth y w (bthPsn f.data) (be (bthBody f.data) 0 1) 0 := by
  unfold rxAck
  rw [takeRoce_arrives h (by rw [is]; rfl)]
  refine (received_arrives h _).trans ?_
  dsimp only
  rw [is, if_neg (show ¬ 0x11 = 0x12 by decide), if_pos rfl]

theorem cnpRx_arrives (is : bthOp f.data = 0x81) : cnpRx s.chip = (let q := qpOf s.chip w
      let y := rdmaCount y q.plat 6
      if q.ecn ∧ q.state = 3 ∧ !q.cnpInInterval then cnpRate y w q else y) := by
  unfold cnpRx
  rw [takeRoce_arrives h (by rw [is]; rfl)]
  exact received_arrives h _
end

/-! ### What an acknowledgement leaves unchanged -/

theorem putPacket_mem (c : Chip) (w op psn : Nat) (p : Bytes) : (putPacket c w op psn p).mem = c.mem := by
  unfold putPacket enqueueFrame
  dsimp only
  split <;> rfl

theorem sendAck_mem (c : Chip) (w : Nat) : (sendAck c w).mem = c.mem := by
  unfold sendAck
  dsimp only
  split
  · rfl
  · exact putPacket_mem _ _ _ _ _

theorem sendAck_qp (c : Chip) (w : Nat) : ∃ n t, qpOf (sendAck c w) w = { qpOf c w with unacked := n, ackAt := t } := by
  unfold sendAck
  dsimp only
  split
  · exact ⟨_, _, rfl⟩
  · exact ⟨0, nowNs c, by rw [putPacket_qp, qpOf_setQp_same]⟩

theorem ackIfDue_mem (c : Chip) (w : Nat) (asked : Bool) : (ackIfDue c w asked).mem = c.mem := by
  unfold ackIfDue
  dsimp only
  split
  · exact sendAck_mem c w
  · rfl

theorem ackIfDue_qp (c : Chip) (w : Nat) (asked : Bool) : ∃ n t, qpOf (ackIfDue c w asked) w = { qpOf c w with unacked := n, ackAt := t } := by
  unfold ackIfDue
  dsimp only
  split
  · exact sendAck_qp c w
  · exact ⟨_, _, qpOf_setQp_same _ _ _⟩

/-! ### A WRITE of one packet -/

theorem placedPsn_empty {q : Qp} {psn : Nat} (due : psn = q.expPsn) (empty : q.placed = []) :
    placedPsn q psn 1 = { q with expPsn := psnAdd psn 1, placed := [], nakSent := false } := by
  unfold placedPsn
  rw [if_pos due, empty]
  rfl

/-- The queue pair behind a WRITE of one packet, before its acknowledgement. -/
def Qp.wrote (q : Qp) (psn : Nat) : Qp :=
  { q with expPsn := psnAdd psn 1, placed := [], nakSent := false, rx := none, msn := (q.msn + 1) % 2 ^ 24 }

theorem rxWriteData_only {c z : Chip} {w psn addr key : Nat} {m : Mr} {x : Xfer} {data : Bytes} (asked : Bool)
    (due : psn = (qpOf c w).expPsn) (empty : (qpOf c w).placed = []) (some_ : 0 < data.length)
    (region : regionFor c (qpOf c w) key addr data.length 1 = (some m, z))
    (stored : x = xferWrite z (agentOf (qpOf c w).plat) addr data m.hint 0 uRdma (mrBound m)) (good : x.st = 0)
    (same : x.s.rdma = c.rdma) : ∃ v, v.mem = x.s.mem ∧ qpOf v w = (qpOf c w).wrote psn ∧
      rxWriteData c w psn asked true addr key 0 data.length none data = ackIfDue v w asked := by
  have kept : qpOf x.s w = qpOf c w := by unfold qpOf; rw [same]
  have placed : placedPsn { qpOf x.s w with rx := some (2, addr, 0 + data.length, data.length, key, 0) } psn 1 =
      { qpOf c w with rx := some (2, addr, 0 + data.length, data.length, key, 0), expPsn := psnAdd psn 1, placed := [],
                      nakSent := false } := by
    rw [kept]
    exact placedPsn_empty due empty
  refine ⟨setQp (setQp x.s w (placedPsn { qpOf x.s w with rx := some (2, addr, 0 + data.length, data.length, key, 0) } psn 1)) w
    ((qpOf c w).wrote psn), rfl, qpOf_setQp_same _ _ _, ?_⟩
  unfold rxWriteData
  dsimp only
  rw [if_neg (by simp), if_neg (by omega), region]
  dsimp only
  rw [Nat.add_zero, ← stored, if_neg (by omega), if_neg (by decide), qpOf_setQp_same, placed]
  rfl

theorem rxPerform_only {c z : Chip} {w : Nat} {m : Mr} {x : Xfer} {b : Bytes} (only : bthOp b = 0x0A)
    (due : bthPsn b = (qpOf c w).expPsn) (free : (qpOf c w).rx = none) (empty : (qpOf c w).placed = [])
    (whole : (bthBody b).length = 16 + be (bthBody b) 12 4) (some_ : 0 < be (bthBody b) 12 4)
    (fits : be (bthBody b) 12 4 ≤ qMtu (qpOf c w))
    (region : regionFor c (qpOf c w) (be (bthBody b) 8 4) (be (bthBody b) 0 8) (be (bthBody b) 12 4) 1 = (some m, z))
    (stored : x = xferWrite z (agentOf (qpOf c w).plat) (be (bthBody b) 0 8) ((bthBody b).drop 16) m.hint 0 uRdma (mrBound m))
    (good : x.st = 0) (same : x.s.rdma = c.rdma) : ∃ v, v.mem = x.s.mem ∧ qpOf v w = (qpOf c w).wrote (bthPsn b) ∧
      rxPerform c w false b = ackIfDue v w (bthAck b) := by
  have length : ((bthBody b).drop 16).length = be (bthBody b) 12 4 := by rw [List.length_drop]; omega
  obtain ⟨v, mem, qp, acts⟩ := rxWriteData_only (data := (bthBody b).drop 16) (bthAck b) due empty (by omega)
    (by rw [length]; exact region) stored good same
  rw [length] at acts
  refine ⟨v, mem, qp, Eq.trans ?_ acts⟩
  unfold rxPerform
  rw [only]
  dsimp only
  rw [if_neg (by decide), if_neg (by decide), if_neg (by decide), if_neg (by decide), if_neg, if_neg (by decide)]
  · unfold rxWrite
    dsimp only
    rw [if_neg (by rw [free]; decide)]
    rfl
  · simp [lengthOk, whole, fits]

/-- A WRITE's payload is placed, and its PSN passed. -/
theorem responder : Claim.Responder := by
  intro s f w y m z x h
  dsimp only
  refine ⟨fun plain n1 n2 n3 => ?_, fun is => ?_⟩
  · have acts := rxRequest_arrives h plain n1 n2 n3
    dsimp only at acts
    refine ⟨fun due => ?_, fun early known => ?_, fun early new unknown => ⟨fun told => ?_, fun quiet => ?_⟩,
      fun only due free empty whole some_ fits region stored good same => ?_⟩
    · rw [if_pos due] at acts
      exact congrArg (becomes s) acts
    · rw [if_neg early, if_pos known] at acts
      exact congrArg (becomes s) acts
    · rw [if_neg early, if_neg (by rw [new, unknown]; decide), if_pos told] at acts
      exact congrArg (becomes s) acts
    · rw [if_neg early, if_neg (by rw [new, unknown]; decide), if_neg (ne_true_of_eq_false quiet)] at acts
      exact congrArg (becomes s) acts
    · rw [if_pos due] at acts
      have qp := arrives_qp h
      rw [← qp] at due free empty fits region stored
      obtain ⟨v, mem, after, done⟩ := rxPerform_only only due free empty whole some_ fits region stored good same
      obtain ⟨n, t, acked⟩ := ackIfDue_qp v w (bthAck f.data)
      refine ⟨_, congrArg (becomes s) (acts.trans done), (ackIfDue_mem _ _ _).trans mem, ?_⟩
      rw [acked, after, qp]
      exact ⟨rfl, rfl, rfl⟩
  · have acts := rxRelaxed_arrives h is
    dsimp only at acts
    refine ⟨fun strict => ?_, fun relaxed placed => ?_, fun relaxed unknown new => ⟨fun far => ?_, fun near none_ => ⟨?_, ?_⟩⟩⟩
    · rw [strict, if_pos (show (!false) = true from rfl)] at acts
      exact congrArg (becomes s) acts
    · rw [relaxed, placed, if_neg (by decide), if_pos (Bool.true_or _)] at acts
      exact congrArg (becomes s) acts
    · rw [relaxed, unknown, if_neg (by decide), if_neg (by simpa using fun h1 => new.resolve_left h1), if_pos far] at acts
      exact congrArg (becomes s) acts
    · rw [relaxed, unknown, if_neg (by decide), if_neg (by simpa using fun h1 => new.resolve_left h1),
        if_neg (Nat.not_le.2 near), none_, if_neg (show ¬ List.any [] _ = true from Bool.false_ne_true)] at acts
      exact congrArg (becomes s) acts
    · intro final long whole fits region
      have length : ((bthBody f.data).drop 24).length = be (bthBody f.data) 12 4 := by rw [List.length_drop]; omega
      unfold rxRelaxedNew
      dsimp only
      rw [if_neg (by rw [length]; omega), if_neg (by omega), length, region]
      dsimp only
      rw [if_pos final, none_, List.nil_append]

/-! ### Finals and acknowledgements -/

theorem finalPlaced_placed {c z : Chip} {w : Nat} {m : Mr} {x : Xfer} {h : Held} {q' : Qp}
    (ready : (qpOf c w).finals.find? (groupPlaced (qpOf c w)) = some h) (some_ : h.data ≠ [])
    (hq : q' = { qpOf c w with finals := (qpOf c w).finals.erase h })
    (region : regionFor c q' h.rkey h.addr h.data.length 1 = (some m, z))
    (stored : x = xferWrite z (agentOf (qpOf c w).plat) h.addr h.data m.hint 0 uRdma (mrBound m)) (good : x.st = 0) :
    finalPlaced c w = (let v := setQp x.s w (placedPsn { q' with msn := ((qpOf c w).msn + 1) % 2 ^ 24 } h.psn 1)
      sendAck (if qFinal (qpOf c w) = 0xFFFF then qpComplete v w true 0 0x22 0 h.data.length h.group 0
        else addSignal v (qpSigAgent (qpOf c w)) (qFinal (qpOf c w))) w) := by
  subst hq
  unfold finalPlaced
  dsimp only
  rw [ready]
  dsimp only
  rw [if_neg (by simpa using some_), region]
  dsimp only
  rw [← stored, if_neg (by omega)]
  rfl

theorem ackTo_old {c : Chip} {w p : Nat} (old : ackNew (qpOf c w) p = false) : ackTo c w p = c := by
  unfold ackTo
  dsimp only
  rw [old]
  rfl

theorem ackTo_qp {c : Chip} {w p : Nat} (new : ackNew (qpOf c w) p = true) :
    (qpOf (ackTo c w p) w).una = psnAdd p 1 ∧ (qpOf (ackTo c w p) w).retries = fld (qpOf c w).cfg 46 1 % 8 := by
  unfold ackTo
  dsimp only
  rw [new, if_neg (by decide), qpOf_setQp_same]
  exact ⟨rfl, rfl⟩

theorem rxAeth_ack {c : Chip} {w psn syn : Nat} (ack : syn / 32 % 4 = 0) : rxAeth c w psn syn 0 = advance (ackTo c w psn) w := by
  have nothing : sackMissing (ackTo c w psn) w psn 0 = ackTo c w psn := by
    unfold sackMissing
    exact if_pos rfl
  unfold rxAeth
  dsimp only
  rw [if_pos ack, nothing]

/-- A NAK where nothing is outstanding. -/
theorem rxAeth_idle {c : Chip} {w psn : Nat} (old : ackNew (qpOf c w) (psnAdd psn (2 ^ 24 - 1)) = false)
    (idle : (qpOf c w).sent = []) : rxAeth c w psn 0x62 0 = advance c w := by
  unfold rxAeth
  dsimp only
  rw [if_neg (by decide), ackTo_old old, settle_empty idle]
  refine if_pos (Or.inr ?_)
  unfold sentAt
  rw [idle]
  rfl

/-! ### Congestion notifications -/

theorem prof_congr {b c : Chip} (h : ∀ k, k < 256 → odGet b 0x24020 k = odGet c 0x24020 k) {p : Nat} (hp : p < 16) (off n : Nat) :
    prof b p off n = prof c p off n :=
  congrArg (fun v : OdVal => fld v.blob off n) (h (p + 1) (by omega))

theorem profileOf_lt {c : Chip} {p k : Nat} (h : profileOf c p = some k) : k < 16 := by
  unfold profileOf at h
  dsimp only at h
  split at h
  · split at h
    · next ok =>
      cases h
      exact ok.1
    · cases h
  · cases h

theorem profileOf_congr {b c : Chip} (h : ∀ k, k < 256 → odGet b 0x24020 k = odGet c 0x24020 k)
    (r : ∀ p, p < 64 → odGet b (0x24040 + p) 0 = odGet c (0x24040 + p) 0) (p : Nat) : profileOf b p = profileOf c p := by
  unfold profileOf
  split
  · next small =>
    have rec_ : rdmaRec b p = rdmaRec c p := congrArg OdVal.blob (r p small)
    dsimp only
    rw [rec_]
    by_cases low : fld (rdmaRec c p) 23 1 < 16
    · have flag : odFld b 0x24020 (fld (rdmaRec c p) 23 1 + 1) 34 1 = odFld c 0x24020 (fld (rdmaRec c p) 23 1 + 1) 34 1 :=
        prof_congr h low 34 1
      rw [flag]
    · rw [if_neg (fun both => low both.1), if_neg (fun both => low both.1)]
  · rfl

theorem profShaper_congr {b c : Chip} (h : ∀ k, k < 256 → odGet b 0x24020 k = odGet c 0x24020 k)
    (r : ∀ p, p < 64 → odGet b (0x24040 + p) 0 = odGet c (0x24040 + p) 0) (p : Nat) : profShaper b p = profShaper c p := by
  unfold profShaper
  rw [profileOf_congr h r]
  cases named : profileOf c p with
  | none => rfl
  | some k =>
    have same : prof b k 32 2 = prof c k 32 2 := prof_congr h (profileOf_lt named) 32 2
    show (if prof b k 32 2 = 0xFFFF then none else some (prof b k 32 2)) = if prof c k 32 2 = 0xFFFF then none else some (prof c k 32 2)
    rw [same]

theorem setRate_od (c : Chip) (w r : Nat) : (setRate c w r).od = c.od := by
  unfold setRate
  dsimp only
  split <;> rfl

theorem cnpRate_own {c : Chip} {w k : Nat} {q : Qp} (paced : profileOf c q.plat = some k) (own : profShaper c q.plat = none) :
    (cnpRate c w q).od = c.od ∧ (qpOf (cnpRate c w q) w).cnpInInterval = true ∧ (qpOf (cnpRate c w q) w).rate =
      min (max (q.rate - q.rate * prof c k 16 2 / 512) (if q.yielded then 1000 else prof c k 4 4)) (prof c k 8 4) := by
  have own' : profShaper (setQp c w { q with cnpInInterval := true }) q.plat = none := own
  unfold cnpRate
  dsimp only
  rw [paced]
  dsimp only
  rw [own']
  dsimp only
  rw [setRate_od, setRate_qp, qpOf_setQp_same]
  exact ⟨rfl, rfl, rfl⟩

theorem finalsAndAnswers : Claim.FinalsAndAnswers := by
  intro s f w k y z m x h
  dsimp only
  refine ⟨fun ready some_ region stored good => ?_, fun arrives is rts => ⟨fun ack => ?_, fun ack new => ?_, fun nak old idle => ?_⟩,
    fun arrives is rtr => ?_, fun arrives is => ⟨fun ecn rts first paced own => ?_, fun plain => ?_⟩⟩
  · have acts := finalPlaced_placed ready some_ rfl region stored good
    dsimp only at acts
    refine ⟨fun none_ => ?_, fun signal => ?_⟩
    · rw [if_pos none_] at acts
      exact congrArg (becomes s) acts
    · rw [if_neg signal] at acts
      exact congrArg (becomes s) acts
  · have acts := rxAck_arrives arrives is
    rw [if_neg (by omega), rxAeth_ack ack] at acts
    exact congrArg (becomes s) acts
  · rw [← arrives_qp arrives] at new ⊢
    exact ackTo_qp new
  · have acts := rxAck_arrives arrives is
    rw [← arrives_qp arrives] at old idle
    rw [if_neg (by omega), nak, rxAeth_idle old idle] at acts
    exact congrArg (becomes s) acts
  · have acts := rxAck_arrives arrives is
    rw [if_pos (by omega)] at acts
    exact congrArg (becomes s) acts
  · have acts := cnpRx_arrives arrives is
    dsimp only at acts
    rw [if_pos ⟨ecn, rts, by rw [first]; rfl⟩] at acts
    obtain ⟨-, -, -, -, -, -, -, -, rfl⟩ := arrives
    rw [rdmaCount_eq, rdmaCount_eq] at acts
    have objects (o j : Nat) (hj : j < 256) (h1 : o ≠ 0x24030) (h2 : ∀ p, p < 64 → o ≠ 0x24080 + p) :
        odGet (countBoth 0x24030 0x24080 (countBoth 0x24030 0x24080 (withoutFrame s.chip f) (qpOf s.chip w).plat 2)
          (qpOf s.chip w).plat 6) o j = odGet s.chip o j :=
      (countBoth_keeps _ _ _ _ _ (by decide) hj h1 h2).trans (countBoth_keeps _ _ _ _ _ (by decide) hj h1 h2)
    have profiles (j : Nat) (hj : j < 256) := objects 0x24020 j hj (by decide) (by omega)
    have records (p : Nat) (hp : p < 64) := objects (0x24040 + p) 0 (by decide) (by omega) (by omega)
    obtain ⟨od, told, rate⟩ := cnpRate_own (w := w) ((profileOf_congr profiles records _).trans paced)
      ((profShaper_congr profiles records _).trans own)
    have low := profileOf_lt paced
    rw [prof_congr profiles low, prof_congr profiles low, prof_congr profiles low] at rate
    refine ⟨_, congrArg (becomes s) acts, told, rate, (odN_congr _ _ od _ _).trans ?_⟩
    refine (countBoth_counts _ _ _ _ _ (by decide) (by decide) (by omega)).trans ((if_pos rfl).trans ?_)
    rw [countBoth_counts _ _ _ _ _ (by decide) (by decide) (by omega), if_neg (by decide)]
    rfl
  · have acts := cnpRx_arrives arrives is
    dsimp only at acts
    rw [if_neg (by rw [plain]; simp)] at acts
    exact congrArg (becomes s) acts

/-- Settles O48: a packet that arrives is taken by the row of its opcode, by its PSN against the one expected. -/
theorem responderAndAnswers : Obligations.ResponderAndAnswers := ⟨responder, finalsAndAnswers⟩

end Sys2Proof.Machine
end

/-! ## IPsec ESP -/
section
namespace Sys2Proof.Machine

/-! ### Associations -/

theorem sas_tells {a b : Chip} (h : Tells a b) : b.rdma.sas = a.rdma.sas := by rw [h]

theorem qpErrorAs_sas (c : Chip) (w st ev : Nat) : (qpErrorAs c w st ev).rdma.sas = c.rdma.sas := by
  by_cases live : (qpOf c w).state = 0 ∨ (qpOf c w).state = 4
  · exact congrArg (fun b : Chip => b.rdma.sas) (if_pos live)
  · rw [qpErrorAs_acts st ev (fun h => live (Or.inl h)) (fun h => live (Or.inr h))]
    have flushed := sas_tells (tells_qpFlushed (setQp c w ((qpOf c w).failed ev)) w st (qpOf c w))
    exact (congrArg (fun r : Rdma => r.sas) (freePace_rdma _ _)).trans flushed

/-! ### Inbound packets -/

/-- An inbound association of the packet's SPI that is not stopped. -/
def espHeld (c : Chip) (f : RxFrame) : Option (Nat × Sa) :=
  c.rdma.sas.find? (fun a => !saOut a.2 && !a.2.stopped && saSpi a.2 == be f.data 0 4)

/-- The block once a packet's number has been taken by association `i`. -/
def espTaken (c : Chip) (f : RxFrame) (i : Nat) (a : Sa) : Chip :=
  let y := withoutFrame c f
  espCount { y with rdma := { y.rdma with sas := tput y.rdma.sas i (replayTake a (be f.data 8 8)) } } a.owner 1

/-- The inner packet of a verified one goes on, if it has one. -/
def espPassed (c : Chip) (f : RxFrame) (i : Nat) (a : Sa) (inner : Option Bytes) : Chip :=
  let v := espTaken c f i a
  match inner with
  | none => espCount v a.owner 7
  | some p => { v with net := { v.net with buffer := v.net.buffer ++ [{ f with cls := 3, data := p, sa := some i }] } }

section
variable {c : Chip} {f : RxFrame} (h : c.net.buffer.find? (fun f => f.cls == 4) = some f)
include h

theorem espInbound_unheld (fault : Bool) (none_ : espHeld c f = none) : espInbound c fault = odAdd64 (withoutFrame c f) 0x25001 3 1 := by
  unfold espInbound takeFrame
  rw [h]
  dsimp only
  unfold espHeld at none_
  rw [none_]
  rfl

/-- The oldest ESP packet goes through the checks of its association in their order. -/
theorem espInbound_held {i : Nat} {a : Sa} (fault : Bool) (held : espHeld c f = some (i, a)) :
    espInbound c fault = (let y := withoutFrame c f
      let b := f.data
      let n := be b 8 8
      let key := (keySlot c (saSlot a)).key
      let ct := (b.drop 16).take (b.length - 32)
      if b.length < 32 ∨ !replayOk a n then espCount y a.owner 4
      else if fault ∨ keyCheck c a.owner (saSlot a) (saGen a) 0 ≠ 0 then espCount y a.owner 6
      else if gcmTag key (espIv a n) (espAad a n) ct ≠ b.drop (b.length - 16) then espCount y a.owner 5
      else espPassed c f i a (espInner (gcmText key (espIv a n) ct))) := by
  unfold espInbound takeFrame
  rw [h]
  dsimp only
  unfold espHeld at held
  rw [held]
  rfl
end

theorem espTaken_sa (c : Chip) (f : RxFrame) (i : Nat) (a : Sa) :
    tget? (espTaken c f i a).rdma.sas i = some (replayTake a (be f.data 8 8)) := by
  unfold espTaken
  rw [espCount_eq, countBoth_rdma]
  exact tget?_tput_same _ _ _

theorem espTaken_net (c : Chip) (f : RxFrame) (i : Nat) (a : Sa) : (espTaken c f i a).net = (withoutFrame c f).net := by
  unfold espTaken
  rw [espCount_eq, countBoth_net]

theorem espCount_counts (c : Chip) (owner n k : Nat) (hn : n < 256) (hk : k < 256) :
    odN (espCount c owner n) 0x25001 k = if k = n then (odN c 0x25001 n + 1) % 2 ^ 64 else odN c 0x25001 k :=
  countBoth_counts _ _ _ _ _ hn hk (by omega)

theorem espTaken_counts (c : Chip) (f : RxFrame) (i : Nat) (a : Sa) :
    odN (espTaken c f i a) 0x25001 1 = (odN c 0x25001 1 + 1) % 2 ^ 64 :=
  (espCount_counts _ _ _ _ (by decide) (by decide)).trans (if_pos rfl)

theorem espPassed_spec (c : Chip) (f : RxFrame) (i : Nat) (a : Sa) (inner : Option Bytes) :
    tget? (espPassed c f i a inner).rdma.sas i = some (replayTake a (be f.data 8 8))
    ∧ (espPassed c f i a inner).net.buffer = (withoutFrame c f).net.buffer
        ++ (inner.map (fun p => { f with cls := 3, data := p, sa := some i })).toList
    ∧ odN (espPassed c f i a inner) 0x25001 1 = (odN c 0x25001 1 + 1) % 2 ^ 64 := by
  cases inner with
  | none =>
    refine ⟨?_, ?_, ?_⟩
    · exact (congrArg (fun r : Rdma => tget? r.sas i) (countBoth_rdma _ _ _ _ _)).trans (espTaken_sa c f i a)
    · exact (congrArg Net.buffer ((countBoth_net _ _ _ _ _).trans (espTaken_net c f i a))).trans (List.append_nil _).symm
    · exact ((espCount_counts _ _ _ _ (by decide) (by decide)).trans (if_neg (by decide))).trans (espTaken_counts c f i a)
  | some p =>
    refine ⟨espTaken_sa c f i a, ?_, espTaken_counts c f i a⟩
    exact congrArg (fun n : Net => n.buffer ++ [{ f with cls := 3, data := p, sa := some i }]) (espTaken_net c f i a)

/-! ### Outbound packets -/

theorem editFrame_replaces {c b : Chip} {k : Nat} {g g' : Frame} (same : b.net.queues = c.net.queues) (ne : g ≠ g') :
    (qFrames (editFrame b k g (some g')) k).length = (qFrames c k).length ∧ g ∉ qFrames (editFrame b k g (some g')) k := by
  have frames : qFrames b k = qFrames c k := congrArg (fun t => tget [] t k) same
  have edited : qFrames (editFrame b k g (some g')) k = (qFrames c k).map (fun x => if x = g then g' else x) := by
    unfold editFrame
    rw [qFrames_setFrames_same, frames, ← List.filterMap_eq_map]
    congr 1
    funext x
    by_cases h : x = g <;> simp [h]
  rw [edited, List.length_map]
  refine ⟨rfl, fun listed => ?_⟩
  obtain ⟨x, -, is⟩ := List.mem_map.1 listed
  by_cases h : x = g
  · rw [if_pos h] at is
    exact ne is.symm
  · rw [if_neg h] at is
    exact h is

section
variable {c : Chip} {k i : Nat} {g : Frame} {a : Sa} (oldest : (qFrames c k).find? (fun f => f.sa.isSome) = some g)
  (its : g.sa = some i) (listed : tget? c.rdma.sas i = some a) (live : a.stopped = false) (out : saOut a = true)
include oldest its listed live out

/-- The packet takes the next number, and leaves encrypted. -/
theorem espOutbound_numbers (left : a.next < 2 ^ 64) (key : keyCheck c a.owner (saSlot a) (saGen a) 0 = 0) :
    let v := { c with rdma := { c.rdma with sas := tput c.rdma.sas i { a with next := a.next + 1 } } }
    let p := espPacket v a (keySlot c (saSlot a)).key g.data
    espOutbound c k false = espCount (editFrame p.2 k g (some { g with data := p.1, sa := none })) a.owner 2 := by
  unfold espOutbound
  rw [oldest]
  dsimp only
  rw [its, Option.getD_some, listed]
  dsimp only
  rw [live, out, if_neg (by decide), if_neg (by omega)]
  exact if_neg (by rintro (e | e); exacts [Bool.false_ne_true e, e key])

/-- Without a number left, the association is stopped. -/
theorem espOutbound_exhausted (fault : Bool) (none_ : 2 ^ 64 ≤ a.next) :
    tget? (espOutbound c k fault).rdma.sas i = some { a with stopped := true } := by
  unfold espOutbound
  rw [oldest]
  dsimp only
  rw [its, Option.getD_some, listed]
  dsimp only
  rw [live, out, if_neg (by decide), if_pos none_,
    foldl_keeps (fun b : Chip => b.rdma.sas) (fun b w => qpError b w 11) _ (fun b w _ => qpErrorAs_sas b w 11 11)]
  refine (congrArg (fun r : Rdma => tget? r.sas i) (?_ : Chip.rdma _ = { c.rdma with sas := tput c.rdma.sas i { a with stopped := true } })).trans
    (tget?_tput_same _ _ _)
  exact countBoth_rdma _ _ _ _ _
end

/-- Settles O49: additions and deletions by the owner's range, packets by the checks of their association. -/
theorem espChecksAndNumbers : Obligations.EspChecksAndNumbers := by
  intro s rq arg f g i k a fault
  dsimp only
  refine ⟨fun ok small own key out plain z1 z2 meter => ⟨fun fresh => ?_, fun taken => ?_⟩,
    fun ok own => ⟨fun listed => ?_, fun none_ => ?_⟩,
    fun oldest => ⟨fun none_ => ?_, fun held seen => ?_, fun held long fresh => ⟨fun bad => ?_, fun good => ?_⟩⟩,
    fun oldest its listed live out => ⟨fun left key => ?_, fun none_ => ?_⟩⟩
  · refine actionRow_acks _ s rq _ arg _ ok (if_neg ?_)
    rw [own, fresh, key, z2]
    simp
    omega
  · refine actionRow_refuses _ s rq _ arg [] _ 5 ok (by decide) (by decide) (if_pos ?_)
    rw [taken]
    simp
  · refine actionRow_acks _ s rq _ arg _ ok (if_neg ?_)
    rw [own, listed]
    simp
  · refine actionRow_refuses _ s rq _ arg [] _ 5 ok (by decide) (by decide) (if_pos ?_)
    rw [none_]
    simp
  · exact congrArg (becomes s) (espInbound_unheld oldest fault none_)
  · have acts := espInbound_held oldest fault held
    dsimp only at acts
    rw [if_pos (by rw [seen]; simp)] at acts
    exact congrArg (becomes s) acts
  · have acts := espInbound_held oldest fault held
    dsimp only at acts
    rw [if_neg (by rw [fresh]; simp; omega), if_pos (Or.inr bad)] at acts
    exact congrArg (becomes s) acts
  · have acts := espInbound_held oldest false held
    dsimp only at acts
    rw [if_neg (by rw [fresh]; simp; omega), if_neg (by rw [good]; simp), ite_not] at acts
    exact ⟨_, congrArg (becomes s) acts, espPassed_spec _ _ _ _ _⟩
  · have acts := espOutbound_numbers oldest its listed live out left key
    dsimp only at acts
    have marked : g ≠ { g with
        data := (espPacket { s.chip with rdma := { s.chip.rdma with sas := tput s.chip.rdma.sas i { a with next := a.next + 1 } } }
          a (keySlot s.chip (saSlot a)).key g.data).1, sa := none } := fun e => by
      have := congrArg Frame.sa e
      rw [its] at this
      cases this
    have edited := editFrame_replaces (c := s.chip) (k := k) (b := (espPacket { s.chip with rdma := { s.chip.rdma with sas := tput s.chip.rdma.sas i { a with next := a.next + 1 } } }
          a (keySlot s.chip (saSlot a)).key g.data).2) rfl marked
    refine ⟨_, congrArg (becomes s) acts, ?_, ?_, ?_, ?_⟩
    · exact (congrArg (fun r : Rdma => tget? r.sas i) (countBoth_rdma _ _ _ _ _)).trans (tget?_tput_same _ _ _)
    · exact (congrArg (fun n : Net => (tget [] n.queues k).length) (countBoth_net _ _ _ _ _)).trans edited.1
    · exact fun still => edited.2 ((congrArg (fun n : Net => g ∈ tget [] n.queues k) (countBoth_net _ _ _ _ _)).mp still)
    · exact (espCount_counts _ _ _ _ (by decide) (by decide)).trans (if_pos rfl)
  · exact ⟨_, rfl, espOutbound_exhausted oldest its listed live out fault none_⟩

end Sys2Proof.Machine
end

/-! ## Native queues and their doorbells -/
section
namespace Sys2Proof.Machine

/-! ### A queue that holds nothing to start -/

theorem nqOf_setNq_same (c : Chip) (n : Nat) (q : NativeQ) : nqOf (setNq c n q) n = some q := tget?_tput_same _ _ _

theorem nqOf_setNq_other (c : Chip) (n k : Nat) (q : NativeQ) (h : k ≠ n) : nqOf (setNq c n q) k = nqOf c k :=
  tget?_tput_other _ _ _ _ h

theorem flushPosted_done {c : Chip} {n k : Nat} {q : NativeQ} (made : nqOf c n = some q) (empty : q.head = q.tail) :
    flushPosted c n k = c := by
  cases k with
  | zero => rfl
  | succ k =>
    unfold flushPosted
    rw [made]
    exact if_pos empty

theorem sqFlush_idle {c : Chip} {n : Nat} {q : NativeQ} (made : nqOf c n = some q) (empty : q.head = q.tail)
    (started : ∀ w ∈ q.wbs, 2 ≤ w.stage) : sqFlush c n = c := by
  have none_ : q.wbs.filter (fun w => decide (w.stage < 2)) = [] := by
    rw [List.filter_eq_nil_iff]
    intro w hw
    have := started w hw
    simp only [decide_eq_true_eq]
    omega
  unfold sqFlush
  rw [made]
  dsimp only
  rw [none_]
  exact flushPosted_done made empty

theorem sqFetch_stops {c : Chip} {n k : Nat} {q : NativeQ} (made : nqOf c n = some q) (stop : q.error = true ∨ q.head = q.tail) :
    sqFetch c n k = c := by
  cases k with
  | zero => rfl
  | succ k =>
    unfold sqFetch
    rw [made]
    exact if_pos (stop.elim Or.inl (fun h => Or.inr (Or.inl h)))

theorem sqReap_stays {c : Chip} {n : Nat} {q : NativeQ} (made : nqOf c n = some q) (kept : q.freed = false) : sqReap c n = c := by
  unfold sqReap
  rw [made]
  exact if_neg (by rw [kept]; simp)

/-! ### Deletion -/

/-- The block with a deleted queue that holds nothing to flush, in ERROR. -/
def sqDeleting (c : Chip) (n : Nat) (q : NativeQ) : Chip :=
  let y := setNq (takeFree c 8).2 n { q with error := true }
  if q.error then y else raiseP y evSqError (if q.owner < 64 then q.owner else 0xFF) (n + (takeFree c 8).1 * 65536)

theorem sqDeleting_made (c : Chip) (n : Nat) (q : NativeQ) : nqOf (sqDeleting c n q) n = some { q with error := true } := by
  unfold sqDeleting
  dsimp only
  split <;> exact nqOf_setNq_same _ _ _

theorem sqDelete_idle {c : Chip} {rq : Rq} {arg : Bytes} {n : Nat} {q : NativeQ} (named : leNat arg = n) (made : nqOf c n = some q)
    (own : q.owner = reqOwner (domainOf c rq)) (empty : q.head = q.tail) (started : ∀ w ∈ q.wbs, 2 ≤ w.stage) :
    actSqDelete c rq arg = acted (if q.wbs.isEmpty then sqFree (sqDeleting c n q) n
      else setNq (sqDeleting c n q) n { q with error := true, freed := true }) := by
  have flushed := sqFlush_idle (nqOf_setNq_same (takeFree c 8).2 n { q with error := true }) empty started
  have entered := sqDeleting_made c n q
  unfold sqDeleting at entered ⊢
  dsimp only at entered ⊢
  unfold actSqDelete
  dsimp only
  rw [named, made]
  dsimp only
  rw [if_neg (by rw [own]; simp), flushed, entered]
  dsimp only
  split <;> rfl

/-! ### Doorbells -/

theorem queue_mask {n i : Nat} (hn : n < 65536) (hi : i < 65536) :
    (n * 2 ^ 32 + i) &&& (0xFFFF * 2 ^ 32 + 0xFFFF) = n * 2 ^ 32 + i := by
  rw [and_fields 32 n i 0xFFFF 0xFFFF (by omega) (by decide), show n &&& 0xFFFF = n from and_ones (k := 16) hn,
    show i &&& 0xFFFF = i from and_ones (k := 16) hi]

theorem dbSq_rings {s : State} {fn o n tail : Nat} (rings : Rings s fn o) (hn : n < 65536) (ht : tail < 65536) :
    exec (.dbSq fn 8 (n * 2 ^ 32 + tail)) s = becomes s (
      match nqOf s.chip n with
      | none => dbDiscard s.chip fn
      | some q => if q.owner = o then sqTail s.chip n tail else dbDiscard s.chip fn) := by
  have number : bits (n * 2 ^ 32 + tail) 47 32 = n := bits_high 47 (by omega) hn
  have index : (n * 2 ^ 32 + tail) % 65536 = tail := by omega
  refine congrArg (becomes s) ((engineDoorbell_rings rings (queue_mask hn ht) _).trans ?_)
  rw [number, index] <;> rfl

/-- The one waybill that the tail covers joins its queue, checked as it stands. -/
theorem sqFetch_one {c : Chip} {n tail : Nat} {q : NativeQ} {x : Xfer} (live : q.error = false) (next : tail = idxNext q.head)
    (empty : q.wbs = []) (new : tail ≠ q.head)
    (fetched : x = xferRead (setNq c n { q with tail := tail }) (agentOf q.owner) (q.base + 64 * (q.head % 2 ^ q.log)) 64 0 0 uStorage
      Bound.free) (good : x.st = 0) (its : fld x.bytes 0 2 = q.head) :
    ∃ v, nqOf (sqFetch (setNq c n { q with tail := tail }) n 256) n
        = some { q with tail := tail, head := tail, nextSeq := q.nextSeq + 1, wbs := [v] }
      ∧ v.seq = q.nextSeq ∧ v.b = x.bytes ∧ v.stage = 0
      ∧ v.status = wbCheck x.s q.owner x.bytes (nsRec x.s (wbNs x.bytes % 1024)) := by
  let v : Wb := ⟨q.nextSeq, x.bytes, 0, 0, nsRec x.s (wbNs x.bytes % 1024), 0, 0,
    wbCheck x.s q.owner x.bytes (nsRec x.s (wbNs x.bytes % 1024)), 0, 0, tail, nowNs x.s, none, [], 0⟩
  have joined : wbJoin x.s n { q with tail := tail, head := idxNext q.head } x.bytes 0 0 (idxNext q.head) []
      = setNq x.s n { q with tail := tail, head := tail, nextSeq := q.nextSeq + 1, wbs := [v] } := by
    unfold wbJoin
    dsimp only
    rw [if_neg (by rw [empty]; simp), empty, ← next]
    rfl
  have made := nqOf_setNq_same x.s n { q with tail := tail, head := tail, nextSeq := q.nextSeq + 1, wbs := [v] }
  have fetch : sqFetch (setNq c n { q with tail := tail }) n 256
      = setNq x.s n { q with tail := tail, head := tail, nextSeq := q.nextSeq + 1, wbs := [v] } := by
    rw [sqFetch, nqOf_setNq_same]
    dsimp only
    rw [if_neg (by rw [live, empty]; simp [Ne.symm new]), ← fetched, if_neg (by rw [good, its]; simp), joined]
    exact sqFetch_stops made (Or.inr rfl)
  exact ⟨v, by rw [fetch]; exact made, rfl, rfl, rfl, rfl⟩

theorem nativeQueues : Claim.NativeQueues := by
  intro s rq arg n k fn o tail q w x
  dsimp only
  refine ⟨fun hk preparing ready => ?_, fun ok lo hi z1 z2 z3 aligned => ⟨fun own plain ring unfed clear => ⟨fun free => ?_, fun made => ?_⟩,
      fun other => ?_⟩, fun ok named made => ⟨fun own empty none_ => ?_, fun own empty one started => ?_, fun other domain => ?_⟩,
    fun rings hn ht made own live => ⟨fun beyond => ?_, fun within => ?_, fun next empty _ new fetched good its => ?_⟩,
    fun rings hn ht none_ => ?_⟩
  · exact congrArg (becomes s) (if_pos ⟨hk, preparing, ready⟩)
  · refine actionRow_acks _ s rq _ arg _ ok ((if_neg (by omega)).trans ((if_neg ?_).trans (if_neg ?_)))
    · rw [own, free]
      simpa using plain
    · rw [ring, unfed, clear]
      simp
  · refine actionRow_refuses _ s rq _ arg [] _ 5 ok (by decide) (by decide) ((if_neg (by omega)).trans (if_pos ?_))
    rw [made]
    simp
  · refine actionRow_refuses _ s rq _ arg [] _ 5 ok (by decide) (by decide) ((if_neg (by omega)).trans (if_pos ?_))
    rw [other]
    simp
  · have acts := sqDelete_idle named made own empty (by rw [none_]; simp)
    rw [none_, if_pos (by rfl)] at acts
    exact ⟨_, actionRow_acks _ s rq _ arg _ ok acts, tget?_tdel_same _ _⟩
  · have acts := sqDelete_idle named made own empty (by rw [one]; simp [started])
    rw [if_neg (by rw [one]; simp)] at acts
    exact ⟨_, actionRow_acks _ s rq _ arg _ ok acts, nqOf_setNq_same _ _ _⟩
  · subst named
    refine actionRow_refuses _ s rq _ arg [] _ 5 ok (by decide) (by decide) ?_
    unfold actSqDelete
    dsimp only
    rw [made]
    exact if_pos ⟨domain, Ne.symm other⟩
  · refine (dbSq_rings rings hn ht).trans (congrArg (becomes s) ?_)
    rw [made]
    dsimp only
    rw [if_pos own, sqTail, made]
    dsimp only
    rw [if_neg (ne_true_of_eq_false live), if_pos beyond]
  · refine (dbSq_rings rings hn ht).trans (congrArg (becomes s) ?_)
    rw [made]
    dsimp only
    rw [if_pos own, sqTail, made]
    dsimp only
    rw [if_neg (ne_true_of_eq_false live), if_neg (Nat.not_lt.2 within)]
  · subst own
    exact sqFetch_one live next empty new fetched good its
  · refine (dbSq_rings rings hn ht).trans (congrArg (becomes s) ?_)
    rw [none_]
    rfl

end Sys2Proof.Machine
end

/-! ## Waybills -/
section
namespace Sys2Proof.Machine

/-! ### What a start does -/

theorem wbOf_seq {c : Chip} {n seq : Nat} {w : Wb} (h : wbOf c n seq = some w) : w.seq = seq := by
  unfold wbOf at h
  obtain ⟨q, -, found⟩ := Option.bind_eq_some_iff.1 h
  have := List.find?_some found
  simpa using this

theorem find?_replace (l : List Wb) (seq : Nat) (w v : Wb) (same : v.seq = seq) (h : l.find? (fun x => x.seq == seq) = some w) :
    (l.map (fun x => if x.seq == v.seq then v else x)).find? (fun x => x.seq == seq) = some v := by
  induction l with
  | nil => cases h
  | cons x r ih =>
    by_cases hx : x.seq = seq
    · simp [hx, same]
    · rw [List.find?_cons_of_neg (by simpa using hx)] at h
      rw [List.map_cons, if_neg (by simpa [same] using hx), List.find?_cons_of_neg (by simpa using hx)]
      exact ih h

/-- The changed waybill is the queue's waybill of its number. -/
theorem wbOf_setWb {c : Chip} {n seq : Nat} {w v : Wb} (h : wbOf c n seq = some w) (same : v.seq = seq) :
    wbOf (setWb c n v) n seq = some v := by
  unfold wbOf at h
  obtain ⟨q, made, found⟩ := Option.bind_eq_some_iff.1 h
  unfold setWb
  rw [made]
  dsimp only
  unfold wbOf
  rw [nqOf_setNq_same]
  exact find?_replace q.wbs seq w v same found

theorem setWb_out (c : Chip) (n : Nat) (w : Wb) : (setWb c n w).out = c.out := by
  unfold setWb
  split <;> rfl

/-- The block with the key of a waybill's command in use. -/
def wbKeyed (c : Chip) (w : Wb) (cmd : Nat) : Chip := if nsXts w.ns ∧ cmd ≠ 0 then keyIssue c (fld w.ns 24 2) true else c

theorem keyIssue_storage (c : Chip) (i : Nat) (up : Bool) :
    (keyIssue c i up).storage = c.storage ∧ (keyIssue c i up).out = c.out ∧ (keyIssue c i up).tb = c.tb := by
  unfold keyIssue
  dsimp only
  split <;> exact ⟨rfl, rfl, rfl⟩

theorem wbKeyed_storage (c : Chip) (w : Wb) (cmd : Nat) :
    (wbKeyed c w cmd).storage = c.storage ∧ (wbKeyed c w cmd).out = c.out ∧ (wbKeyed c w cmd).tb = c.tb := by
  unfold wbKeyed
  split
  · exact keyIssue_storage c _ _
  · exact ⟨rfl, rfl, rfl⟩

/-- A waybill that is issued goes out as a command of its back end, and is in flight from now on. -/
theorem wbIssue_issues (y : Chip) (n seq : Nat) (w : Wb) (cmd : Nat) (data : Bytes) (its : w.seq = seq) :
    (wbIssue y n w cmd data).out = y.out ++ [.nvme (nsBack w.ns) cmd
        (slice w.ns 4 4 ++ leBytes 8 (fld w.ns 8 8 + wbLba w.b) ++ leBytes 4 (wbBlocks w.b) ++ data)]
      ∧ (wbOf y n seq = some w → wbOf (wbIssue y n w cmd data) n seq = some { w with stage := 2, since := nowNs y }) := by
  obtain ⟨storage, out, tb⟩ := wbKeyed_storage y w cmd
  have now : nowNs (wbKeyed y w cmd) = nowNs y := congrArg Timebase.ns tb
  have issue : wbIssue y n w cmd data = emit (setWb (wbKeyed y w cmd) n { w with stage := 2, since := nowNs y })
      (.nvme (nsBack w.ns) cmd (slice w.ns 4 4 ++ leBytes 8 (fld w.ns 8 8 + wbLba w.b) ++ leBytes 4 (wbBlocks w.b) ++ data)) := by
    rw [← now]
    rfl
  rw [issue]
  refine ⟨?_, fun listed => ?_⟩
  · exact congrArg (· ++ _) ((setWb_out _ _ _).trans out)
  · have still : wbOf (wbKeyed y w cmd) n seq = some w := by
      unfold wbOf nqOf at listed ⊢
      rw [storage]
      exact listed
    exact wbOf_setWb (v := { w with stage := 2, since := nowNs y }) still its

section
variable {c : Chip} {n seq : Nat} {w : Wb} (listed : wbOf c n seq = some w) (admitted : w.stage = 1)
  (turn : wbOrdered w.b = true → wbFirst c n seq = true)
include listed admitted turn

/-- An admitted waybill whose turn it is: its command, its back end, its key, then its start. -/
theorem wbStart_turn (op : Nat) (k : Chip → Wb → Chip) : wbStart c n seq op k =
    if wbOp w.b ≠ op then c
    else if !backReady c (nsBack w.ns) then wbStop c n w 15
    else if nsXts w.ns ∧ op ≠ 3 ∧ wbKey c w.ns ≠ 0 then wbStop c n w (wbKey c w.ns)
    else k c w := by
  unfold wbStart
  rw [listed]
  dsimp only
  by_cases its : wbOp w.b = op
  · rw [if_neg (by rw [admitted, its]; simpa using turn), if_neg (not_not.2 its)]
  · rw [if_pos (Or.inr (Or.inl its)), if_pos its]

theorem wbStart_runs {op : Nat} (k : Chip → Wb → Chip) (its : wbOp w.b = op) (ready : backReady c (nsBack w.ns) = true)
    (key : nsXts w.ns = true → wbKey c w.ns = 0) : wbStart c n seq op k = k c w := by
  rw [wbStart_turn listed admitted turn, if_neg (not_not.2 its), if_neg (by rw [ready]; decide),
    if_neg (fun ⟨xts, _, bad⟩ => bad (key xts))]
end

/-- Every row of a starting waybill is a start of its command. -/
theorem waybillRows_start (s : State) (n seq : Nat) (mismatch : Bool) :
    ∀ r ∈ ([(1, .waybillRead n seq), (2, .waybillWrite n seq mismatch), (3, .flush n seq), (4, .deallocate n seq mismatch),
      (5, .writeZeroes n seq mismatch), (8, .loadToTier n seq)] : List (Nat × Instr)),
    ∃ k, exec r.2 s = becomes s (wbStart s.chip n seq r.1 k) := by
  have read : ∃ k, exec (.waybillRead n seq) s = becomes s (wbStart s.chip n seq 1 k) := ⟨_, rfl⟩
  have write : ∃ k, exec (.waybillWrite n seq mismatch) s = becomes s (wbStart s.chip n seq 2 k) := ⟨_, rfl⟩
  have flush : ∃ k, exec (.flush n seq) s = becomes s (wbStart s.chip n seq 3 k) := ⟨_, rfl⟩
  have dealloc : ∃ k, exec (.deallocate n seq mismatch) s = becomes s (wbStart s.chip n seq 4 k) := ⟨_, rfl⟩
  have zeroes : ∃ k, exec (.writeZeroes n seq mismatch) s = becomes s (wbStart s.chip n seq 5 k) := ⟨_, rfl⟩
  have load : ∃ k, exec (.loadToTier n seq) s = becomes s (wbStart s.chip n seq 8 k) := ⟨_, rfl⟩
  simp only [List.forall_mem_cons, List.not_mem_nil, false_imp_iff, implies_true, and_true]
  exact ⟨read, write, flush, dealloc, zeroes, load⟩

theorem waybillStarts : Claim.WaybillStarts := by
  intro s n seq w x mismatch listed admitted turn
  dsimp only
  have starts := waybillRows_start s n seq mismatch
  have its := wbOf_seq listed
  have issues (cmd : Nat) (data : Bytes) := wbIssue_issues s.chip n seq w cmd data its
  refine ⟨fun r hr other => ?_, fun r hr own down => ?_, fun r hr own ready xts keyed bad => ?_, fun ready key => ?_⟩
  · obtain ⟨k, row⟩ := starts r hr
    rw [row, wbStart_turn listed admitted turn, if_pos (Ne.symm other)]
  · obtain ⟨k, row⟩ := starts r hr
    rw [row, wbStart_turn listed admitted turn, if_neg (not_not.2 own.symm), if_pos (by rw [down]; rfl)]
  · obtain ⟨k, row⟩ := starts r hr
    rw [row, wbStart_turn listed admitted turn, if_neg (not_not.2 own.symm), if_neg (by rw [ready]; decide),
      if_pos ⟨xts, keyed, bad⟩]
  · have runs {op : Nat} (k : Chip → Wb → Chip) (own : wbOp w.b = op) : wbStart s.chip n seq op k = k s.chip w :=
      wbStart_runs listed admitted turn k own ready key
    refine ⟨fun own => ⟨_, congrArg (becomes s) (runs _ own), issues _ _⟩, fun own => ⟨_, congrArg (becomes s) (runs _ own), issues _ _⟩,
      fun own => ⟨_, congrArg (becomes s) (runs _ own), issues _ _⟩,
      fun own clear => ⟨_, congrArg (becomes s) ((runs _ own).trans (if_neg (ne_true_of_eq_false clear))), issues _ _⟩,
      fun own clear => ⟨_, congrArg (becomes s) ((runs _ own).trans (if_neg (ne_true_of_eq_false clear))), issues _ _⟩,
      fun own xts => ⟨⟨_, congrArg (becomes s) ((runs _ own).trans ((if_pos xts).trans ((if_pos xts).trans (if_neg (by decide))))),
        issues _ _⟩, congrArg (becomes s) ((runs _ own).trans ((if_pos xts).trans ((if_pos xts).trans (if_pos rfl))))⟩,
      fun own xts => ⟨⟨_, congrArg (becomes s) ((runs _ own).trans ((if_pos xts).trans ((if_pos xts).trans (if_neg (by decide))))),
        issues _ _⟩, congrArg (becomes s) ((runs _ own).trans ((if_pos xts).trans ((if_pos xts).trans (if_pos rfl))))⟩,
      fun own read => ?_⟩
    subst read
    refine ⟨fun good clear => ⟨_, congrArg (becomes s) ((runs _ own).trans ((if_neg (by omega)).trans
        (if_neg (ne_true_of_eq_false clear)))), wbIssue_issues _ n seq w _ _ its⟩,
      fun good xts => congrArg (becomes s) ((runs _ own).trans ((if_neg (by omega)).trans ((if_pos xts).trans (if_pos rfl)))),
      fun failed => ?_⟩
    have acts := (runs (fun s w => let x := segRead s (wbAgent s n) (wbHint w.b) (wbSegs w)
        if x.st ≠ 0 then wbStop x.s n w (wbXferStatus x.st) else wbWrite x.s n w x.bytes mismatch) own).trans (if_pos (by omega))
    rw [failed] at acts
    exact congrArg (becomes s) acts

/-! ### What an end does -/

/-- A queue behind a completion. -/
def NativeQ.without (q : NativeQ) (w : Wb) : NativeQ := wbNote { q with wbs := q.wbs.filter (fun x => x.seq != w.seq) } w

theorem without_keeps (q : NativeQ) (w : Wb) : (q.without w).wbs = q.wbs.filter (fun x => x.seq != w.seq) ∧ (q.without w).cq = q.cq
    ∧ (q.without w).head = q.head ∧ (q.without w).tail = q.tail ∧ (q.without w).freed = q.freed := by
  unfold NativeQ.without wbNote
  split
  · exact ⟨rfl, rfl, rfl, rfl, rfl⟩
  · split <;> exact ⟨rfl, rfl, rfl, rfl, rfl⟩

theorem nqOf_tells {a b : Chip} (h : Tells a b) (n : Nat) : nqOf b n = nqOf a n := by
  unfold nqOf
  rw [h]

/-- A message of PF0 leaves every object but a counter of discarded messages. -/
theorem msix_od (c : Chip) (f i vec o k : Nat) (hi : i < 255) (hk : k < 256) (ho : o ≠ 0x11051) :
    odGet (msix c f i vec) o k = odGet c o k := by
  unfold msix
  dsimp only
  split
  · exact (odGet_odPut _ _ _ _ _ _ (by omega) hk).trans (if_neg fun e => ho e.1)
  · split <;> rfl

theorem msix_rdma (c : Chip) (f i vec : Nat) : (msix c f i vec).rdma = c.rdma := by
  unfold msix
  dsimp only
  split
  · rfl
  · split <;> rfl

/-- A completion takes the next place of a ring with room, and counts nowhere but as a transfer does. -/
theorem cqPut_room {c : Chip} {n unit : Nat} {r : Cq} (entry : Nat → Nat → Bytes) (made : cqOf c n = some r) (room : cqFull r = false)
    (own : r.owner = 0xFD) : cqOf (cqPut c n unit entry) n = some { r with prod := idxNext r.prod, armed := false }
      ∧ ∀ o k, k < 256 → NoTransfer o k → o ≠ 0x11051 → odGet (cqPut c n unit entry) o k = odGet c o k := by
  have moved : Moves c (xferWrite c (agentOf r.owner) (r.base + 64 * (r.prod % 2 ^ r.log)) (entry r.prod (phaseOf r.prod r.log)) 0 0 unit
      Bound.free).s := moves_write c (agentOf_plat _) _ _ _ _ _ _
  unfold cqPut
  rw [made]
  dsimp only
  rw [if_neg (ne_true_of_eq_false room), own]
  rw [own] at moved
  split
  · rw [msixOwner, if_neg (by decide)]
    refine ⟨?_, fun o k hk ho ne => (msix_od _ 0 0 r.vec o k (by decide) hk ne).trans (moved.2 o k hk ho)⟩
    unfold cqOf
    rw [msix_rdma]
    exact tget?_tput_same _ _ _
  · exact ⟨tget?_tput_same _ _ _, fun o k hk ho _ => moved.2 o k hk ho⟩

/-- The counters of a completion that succeeds. -/
theorem wbCount_ok (c : Chip) (k : Nat) (hk : k < 256) : wbCount c 0xFD 0 = odAdd64 c 0x30050 1 1 ∧
    odN (wbCount c 0xFD 0) 0x30050 k = if k = 1 then (odN c 0x30050 1 + 1) % 2 ^ 64 else odN c 0x30050 k := by
  have counts : wbCount c 0xFD 0 = odAdd64 c 0x30050 1 1 := by
    unfold wbCount
    dsimp only
    rw [if_neg (by decide), if_neg (by decide), if_neg (by decide)]
  refine ⟨counts, ?_⟩
  rw [counts]
  split
  · next same => rw [same, odN_odAdd64_same]
  · next ne => exact odN_odAdd64_ne _ _ _ _ _ _ (by decide) hk (Or.inr ne)

/-- An open-domain waybill that succeeds, without a signal, leaves its queue; its completion takes the next place of the ring. -/
theorem wbFinish_ok {c : Chip} {n : Nat} {w : Wb} {q : NativeQ} {r : Cq} (energy : Nat) (made : nqOf c n = some q)
    (good : w.status = 0) (src : w.src = 0) (adm : w.adm = 0) (silent : fld w.b 28 2 = 0xFFFF) (own : q.owner = 0xFD)
    (ring : cqOf c q.cq = some r) (room : cqFull r = false) (rown : r.owner = 0xFD) :
    nqOf (wbFinish c n w energy) n = some (q.without w)
      ∧ cqOf (wbFinish c n w energy) q.cq = some { r with prod := idxNext r.prod, armed := false }
      ∧ ∀ k, k < 256 → odN (wbFinish c n w energy) 0x30050 k = if k = 1 then (odN c 0x30050 1 + 1) % 2 ^ 64 else odN c 0x30050 k := by
  have cq := (without_keeps q w).2.1
  let entry := wbEntry (setNq c n (q.without w)) n (q.without w) w (wbFlags q w) energy
  let v := cqPut (setNq c n (q.without w)) q.cq uStorage entry
  have put : wbPut (setNq c n (q.without w)) n (q.without w) w (wbFlags q w) energy = v := by
    unfold wbPut
    rw [if_neg (by omega), cq]
  have finish : wbFinish c n w energy = odAdd64 v 0x30050 1 1 := by
    unfold wbFinish
    rw [made]
    dsimp only
    rw [show wbNote { q with wbs := q.wbs.filter (fun x => x.seq != w.seq) } w = q.without w from rfl, put, addSignal,
      if_pos silent, own, good, (wbCount_ok v 1 (by decide)).1, if_pos adm, if_neg (by omega)]
  obtain ⟨placed, kept⟩ := cqPut_room (c := setNq c n (q.without w)) (unit := uStorage) entry ring room rown
  have told : Tells (setNq c n (q.without w)) v := tells_cqPut _ _ _ _
  rw [finish]
  refine ⟨?_, placed, fun k hk => ?_⟩
  · exact (nqOf_tells told n).trans (nqOf_setNq_same _ _ _)
  · have same : odN v 0x30050 k = odN c 0x30050 k :=
      congrArg OdVal.nat (kept 0x30050 k hk ⟨by decide, by decide, Or.inl (by decide)⟩ (by decide))
    split
    · next is =>
      subst is
      rw [odN_odAdd64_same, same]
    · next ne => exact (odN_odAdd64_ne _ _ _ _ _ _ (by decide) hk (Or.inr ne)).trans same

/-- A waybill in flight whose back end answers. -/
theorem waybillComplete_answers {s : State} {n seq : Nat} {w : Wb} (nv : Nat) (data : Bytes) (bad : Option Nat) (energy : Nat)
    (listed : wbOf s.chip n seq = some w) (turn : wbOrdered w.b = true → wbFirst s.chip n seq = true) :
    exec (.waybillComplete n seq nv data bad energy) s = becomes s (
      if w.stage = 3 ∨ (w.stage = 0 ∧ w.status ≠ 0) then wbEnd s.chip n w energy false
      else if w.stage = 2 ∧ backReady s.chip (nsBack w.ns) then wbAnswer s.chip n w nv data bad energy
      else s.chip) := by
  have acts : (match wbOf s.chip n seq with
      | none => s.chip
      | some w =>
        if wbOrdered w.b ∧ !wbFirst s.chip n seq then s.chip
        else if w.stage = 3 ∨ (w.stage = 0 ∧ w.status ≠ 0) then wbEnd s.chip n w energy false
        else if w.stage = 2 ∧ backReady s.chip (nsBack w.ns) then wbAnswer s.chip n w nv data bad energy
        else s.chip) = (if w.stage = 3 ∨ (w.stage = 0 ∧ w.status ≠ 0) then wbEnd s.chip n w energy false
      else if w.stage = 2 ∧ backReady s.chip (nsBack w.ns) then wbAnswer s.chip n w nv data bad energy
      else s.chip) := by
    rw [listed]
    exact if_neg (by simpa using turn)
  exact congrArg (becomes s) acts

theorem waybillEnds : Claim.WaybillEnds := by
  intro s n seq nv energy w q r data bad listed turn
  dsimp only
  have acts := waybillComplete_answers nv data bad energy listed turn
  refine ⟨fun stopped => ?_, fun flight ready => ?_⟩
  · rw [acts, if_pos (Or.inl stopped)]
  · rw [acts, if_neg (by omega), if_pos ⟨flight, ready⟩]
    refine ⟨fun failed => ?_, fun ok flush => ?_, fun ok read => ?_,
      fun ok write clear made one empty live src adm silent own ring room rown => ?_⟩
    · rw [wbAnswer, if_pos failed]
    · have nothing : wbBytes w = 0 := if_pos flush
      rw [wbAnswer, if_neg (not_not.2 ok), if_neg (by omega), nothing]
      dsimp only
      rw [if_neg (by omega)]
    · rw [wbAnswer, if_neg (not_not.2 ok), if_pos (Or.inl read)]
    · let c := odAdd64 s.chip 0x30050 3 (wbBytes w)
      let v : Wb := { w with status := 0, bytes := wbBytes w }
      have moved : wbMoved s.chip 0xFD 3 (wbBytes w) = c := rfl
      have owner : nqOwner s.chip n = 0xFD := by rw [nqOwner, made]; exact own
      obtain ⟨left, placed, counts⟩ := wbFinish_ok (c := c) (w := v) energy made rfl src adm silent own ring room rown
      obtain ⟨wbs, -, head, tail, freed⟩ := without_keeps q v
      have complete : wbComplete c n v energy = wbFinish c n v energy := by
        have full : cqIsFull c q.cq = false := by
          rw [cqIsFull, show cqOf c q.cq = some r from ring]
          exact room
        unfold wbComplete
        rw [show nqOf c n = some q from made]
        dsimp only
        rw [full, Bool.and_false, if_neg (by decide)]
      have ends : wbAnswer s.chip n w nv data bad energy = wbFinish c n v energy := by
        rw [wbAnswer, if_neg (not_not.2 ok), if_neg (by omega)]
        dsimp only
        rw [if_pos write, owner, moved, wbEnd]
        dsimp only
        rw [if_neg (by rw [clear]; simp), complete, sqFetch_stops left (Or.inr (by rw [head, tail, empty])),
          sqReap_stays left (by rw [freed, live])]
      have before (k : Nat) (hk : k < 256) (ne : k ≠ 3) : odN c 0x30050 k = odN s.chip 0x30050 k :=
        odN_odAdd64_ne _ _ _ _ _ _ (by decide) hk (Or.inr ne)
      rw [ends]
      refine ⟨_, rfl, ?_, placed, ?_, ?_, ?_⟩
      · rw [left, Option.map_some, wbs, one]
        simp [v]
      · rw [counts 1 (by decide), if_pos rfl, before 1 (by decide) (by decide)]
      · rw [counts 3 (by decide), if_neg (by decide), odN_odAdd64_same]
      · rw [counts 4 (by decide), if_neg (by decide), before 4 (by decide) (by decide)]

/-- Settles O50: queues by their range and tail, a waybill by its start and its end. -/
theorem nativeStorage : Obligations.NativeStorage := ⟨nativeQueues, waybillStarts, waybillEnds⟩

end Sys2Proof.Machine
end

/-! ## Back ends -/
section
namespace Sys2Proof.Machine

/-! ### Namespaces that return -/

/-- Two blocks with the same back ends and namespace records. -/
structure SameSpaces (a b : Chip) : Prop where
  storage : b.storage = a.storage
  objects : ∀ o k, k < 256 → (o < 0x30440 ∨ 0x30480 ≤ o) → (o ≠ 0x01120 ∨ k ≠ 0) → odGet b o k = odGet a o k

theorem SameSpaces.refl (a : Chip) : SameSpaces a a := ⟨rfl, fun _ _ _ _ _ => rfl⟩

theorem SameSpaces.trans {a b c : Chip} (h : SameSpaces a b) (g : SameSpaces b c) : SameSpaces a c :=
  ⟨g.storage.trans h.storage, fun o k hk ho ne => (g.objects o k hk ho ne).trans (h.objects o k hk ho ne)⟩

theorem SameSpaces.rec_ {a b : Chip} (h : SameSpaces a b) {k : Nat} (hk : k < 1024) : nsRec b k = nsRec a k :=
  congrArg OdVal.blob (h.objects _ _ (by omega) (by omega) (by omega))

theorem SameSpaces.has {a b : Chip} (h : SameSpaces a b) (r : Bytes) : backHas b r = backHas a r := by
  unfold backHas backOf
  rw [h.storage]

theorem SameSpaces.num {a b : Chip} (h : SameSpaces a b) {o k : Nat} (hk : k < 256) (ho : o < 0x30440) (ne : o ≠ 0x01120) :
    odN b o k = odN a o k := congrArg OdVal.nat (h.objects o k hk (Or.inl ho) (Or.inl ne))

section
variable (c : Chip) {k : Nat}

theorem setNsState_spaces (hk : k < 1024) (v : Nat) : SameSpaces c (setNsState c k v) :=
  ⟨rfl, fun _ _ hj ho _ => (odGet_odPut _ _ _ _ _ _ (by omega) hj).trans (if_neg (by omega))⟩

theorem nsState_setNsState (v : Nat) : nsState (setNsState c k v) k = v := odN_odSet_same _ _ _ _

theorem nsState_setNsState_other (v : Nat) {j : Nat} (ne : j ≠ k) : nsState (setNsState c k v) j = nsState c j :=
  odN_odSet_ne _ _ _ _ _ _ (by omega) (by omega) (by omega)
end

theorem nsState_raiseP (c : Chip) (e : Ev) (p a j : Nat) : nsState (raiseP c e p a) j = nsState c j :=
  odN_raiseFull _ _ _ _ _ _ _ _ _ _ _ (by omega) (Or.inr (by omega))

theorem raiseP_spaces (c : Chip) (e : Ev) (p a : Nat) : SameSpaces c (raiseP c e p a) :=
  ⟨rfl, fun _ _ hk _ ne => odGet_raiseFull _ _ _ _ _ _ _ _ _ _ _ hk ne⟩

/-- A returning namespace: the records and back ends stay, every other namespace's state does, and its own follows its check. -/
theorem nsReturn_spec (c : Chip) (be : Nat) {k : Nat} (hk : k < 1024) : SameSpaces c (nsReturn c be k)
    ∧ (∀ j, j ≠ k → nsState (nsReturn c be k) j = nsState c j)
    ∧ (bit (nsFlags (nsRec c k)) 0 = true → nsBack (nsRec c k) = be → (nsState c k = 2 ∨ nsState c k = 0) →
        nsState (nsReturn c be k) k = if backHas c (nsRec c k) then 2 else 3) := by
  unfold nsReturn
  dsimp only
  split
  · next skip =>
    refine ⟨.refl c, fun _ _ => rfl, fun valid back ready => ?_⟩
    rw [valid] at skip
    simp only [Bool.not_true, Bool.false_eq_true, false_or] at skip
    omega
  · split
    · next has =>
      split
      · next preparing =>
        refine ⟨⟨rfl, (setNsState_spaces c hk 1).objects⟩, fun j ne => nsState_setNsState_other c 1 ne, fun _ _ ready => ?_⟩
        omega
      · exact ⟨setNsState_spaces c hk 2, fun j ne => nsState_setNsState_other c 2 ne, fun _ _ _ => nsState_setNsState c 2⟩
    · exact ⟨(setNsState_spaces c hk 3).trans (raiseP_spaces _ _ _ _),
        fun j ne => (nsState_raiseP _ _ _ _ _).trans (nsState_setNsState_other c 3 ne),
        fun _ _ _ => (nsState_raiseP _ _ _ _ _).trans (nsState_setNsState c 3)⟩

theorem nsReturns_fold (y : Chip) (be n : Nat) (hn : n ≤ 1024) :
    let b := (List.range n).foldl (fun s k => nsReturn s be k) y
    SameSpaces y b ∧ (∀ k, n ≤ k → nsState b k = nsState y k)
    ∧ ∀ k, k < n → bit (nsFlags (nsRec y k)) 0 = true → nsBack (nsRec y k) = be → (nsState y k = 2 ∨ nsState y k = 0) →
        nsState b k = if backHas y (nsRec y k) then 2 else 3 := by
  induction n with
  | zero => exact ⟨.refl y, fun _ _ => rfl, fun k hk => absurd hk (Nat.not_lt_zero k)⟩
  | succ n ih =>
    obtain ⟨same, later, done⟩ := ih (by omega)
    obtain ⟨same', others, own⟩ := nsReturn_spec ((List.range n).foldl (fun s k => nsReturn s be k) y) be (k := n) (by omega)
    simp only [List.range_succ, List.foldl_append, List.foldl_cons, List.foldl_nil]
    refine ⟨same.trans same', fun k hk => (others k (by omega)).trans (later k (by omega)), fun k hk valid back ready => ?_⟩
    by_cases here : k = n
    · subst here
      rw [same.rec_ (by omega), same.has, later k le_rfl] at own
      exact own valid back ready
    · exact (others k here).trans (done k (by omega) valid back ready)

theorem raise_spaces (c : Chip) (e : Ev) (a : Nat) : SameSpaces c (raise c e a) := raiseP_spaces c e 0xFF a

/-- The back end `be` has come back in `y`: every namespace of it is READY where it checks, else FAILED. -/
theorem nsReturns_restores (y : Chip) (e : Ev) (a be : Nat) : SameSpaces y (nsReturns (raise y e a) be)
    ∧ ∀ k, k < 1024 → bit (nsFlags (nsRec y k)) 0 = true → nsBack (nsRec y k) = be → (nsState y k = 2 ∨ nsState y k = 0) →
        nsState (nsReturns (raise y e a) be) k = if backHas y (nsRec y k) then 2 else 3 := by
  have same := raise_spaces y e a
  obtain ⟨same', -, done⟩ := nsReturns_fold (raise y e a) be 1024 le_rfl
  refine ⟨same.trans same', fun k hk => ?_⟩
  have state : nsState (raise y e a) k = nsState y k := nsState_raiseP y e 0xFF a k
  have own := done k hk
  rw [same.rec_ hk, same.has, state] at own
  exact own

/-! ### Commands past their time -/

theorem nqOwner_setWb (c : Chip) (n : Nat) (w : Wb) : nqOwner (setWb c n w) n = nqOwner c n := by
  unfold nqOwner setWb
  cases made : nqOf c n with
  | none =>
    dsimp only
    rw [made]
  | some q =>
    dsimp only
    rw [nqOf_setNq_same]

/-- The block with a waybill being aborted, counted for the device and its platform. -/
def wbAborting (c : Chip) (n seq : Nat) (w : Wb) : Chip :=
  let c' := odAdd64 (setWb c n { w with abortAt := some (nowNs c) }) 0x30050 5 1
  emit (if nqOwner c' n < 64 then odAdd64 c' (0x30080 + nqOwner c' n) 5 1 else c')
    (.nvme (nsBack w.ns) 0x108 (leBytes 2 (seq % 65536)))

theorem wbAborting_spec {c : Chip} {n seq : Nat} {w : Wb} (listed : wbOf c n seq = some w) :
    wbOf (wbAborting c n seq w) n seq = some { w with abortAt := some (nowNs c) }
    ∧ (wbAborting c n seq w).out = c.out ++ [.nvme (nsBack w.ns) 0x108 (leBytes 2 (seq % 65536))]
    ∧ odN (wbAborting c n seq w) 0x30050 5 = (odN c 0x30050 5 + 1) % 2 ^ 64 := by
  have changed : wbOf (setWb c n { w with abortAt := some (nowNs c) }) n seq = some { w with abortAt := some (nowNs c) } :=
    wbOf_setWb (v := { w with abortAt := some (nowNs c) }) listed (show w.seq = seq from wbOf_seq listed)
  have objects : (setWb c n { w with abortAt := some (nowNs c) }).od = c.od := by
    unfold setWb
    split <;> rfl
  have out := setWb_out c n { w with abortAt := some (nowNs c) }
  have counted : odN (odAdd64 (setWb c n { w with abortAt := some (nowNs c) }) 0x30050 5 1) 0x30050 5
      = (odN c 0x30050 5 + 1) % 2 ^ 64 := by
    rw [odN_odAdd64_same, odN_congr _ _ objects]
  unfold wbAborting
  dsimp only
  split
  · refine ⟨changed, congrArg (· ++ _) out, ?_⟩
    exact (odN_odAdd64_ne _ _ _ _ _ _ (by decide) (by decide) (Or.inl (by omega))).trans counted
  · exact ⟨changed, congrArg (· ++ _) out, counted⟩

/-- Settles O51: each command of a back end by its condition. -/
theorem backEndStates : Obligations.BackEndStates := by
  intro s rq arg p i n seq t w ns zeroes kato hp hi
  dsimp only
  refine ⟨fun waiting powered => ⟨?_, ?_⟩, fun listed flight its fresh late => ?_, fun listed flight aborted late its => ?_,
    fun present => ?_, fun powered => ⟨?_, ?_, ?_, fun listed flight its => ?_⟩,
    fun ok named => ⟨fun up => ?_, fun down some_ few ready => ?_⟩, fun connecting => ?_,
    fun ok named => ⟨fun down => ?_, fun up => ?_⟩, fun ready due => ?_, fun up lost => ?_⟩
  · exact congrArg (becomes s) ((if_pos ⟨hp, waiting, powered⟩).trans (if_neg Bool.false_ne_true))
  · obtain ⟨same, restored⟩ := nsReturns_restores (setBack (odSet s.chip 0x30022 (p + 1) 2) p ⟨ns, zeroes, 0⟩) evSsdReady (4 + p) p
    refine ⟨_, congrArg (becomes s) ((if_pos ⟨hp, waiting, powered⟩).trans (if_pos rfl)), ?_, ?_, restored⟩
    · exact (same.num (by omega) (by decide) (by decide)).trans (odN_odSet_same s.chip 0x30022 (p + 1) 2)
    · unfold backOf
      rw [same.storage]
      exact tget_tput_same _ _ _ _
  · have chip : (match wbOf s.chip n seq with
        | none => s.chip
        | some w =>
          if w.stage = 2 ∧ nsBack w.ns < 8 ∧ w.abortAt = none ∧ w.since + ms (odN s.chip 0x30020 0) ≤ nowNs s.chip then
            raise (wbAborting s.chip n seq w) evSsdTimeout (4 + nsBack w.ns + seq % 65536 * 256)
          else s.chip) = raise (wbAborting s.chip n seq w) evSsdTimeout (4 + p + seq % 65536 * 256) := by
      rw [listed, ← its]
      exact if_pos ⟨flight, by omega, fresh, by rw [ms, Nat.mul_comm]; exact late⟩
    obtain ⟨changed, out, counted⟩ := wbAborting_spec listed
    rw [its] at out
    exact ⟨_, congrArg (becomes s) chip, changed, out, counted⟩
  · have chip : (match wbOf s.chip n seq with
        | none => s.chip
        | some w =>
          match w.abortAt with
          | none => s.chip
          | some t =>
            if w.stage = 2 ∧ t + 1000000000 ≤ nowNs s.chip then
              ssdReinit (failBack (wbEnd s.chip n { w with status := 8 } 0 true) (nsBack w.ns) 7) (nsBack w.ns)
            else s.chip) = ssdReinit (failBack (wbEnd s.chip n { w with status := 8 } 0 true) p 7) p := by
      rw [listed]
      dsimp only
      rw [aborted, ← its]
      exact if_pos ⟨flight, late⟩
    exact congrArg (becomes s) chip
  · exact congrArg (becomes s) (if_pos ⟨hp, present⟩)
  · exact congrArg (becomes s) (if_pos ⟨hp, powered⟩)
  · exact congrArg (becomes s) ((if_neg (by omega)).trans (if_pos rfl))
  · exact congrArg (becomes s) ((if_neg (by omega)).trans ((if_neg (by decide)).trans (if_neg (by decide))))
  · have chip : (match wbOf s.chip n seq with
        | none => s.chip
        | some w => if w.stage = 2 ∧ nsBack w.ns = p then wbEnd s.chip n { w with status := 6 } 0 true else s.chip)
          = wbEnd s.chip n { w with status := 6 } 0 true := by
      rw [listed]
      exact if_pos ⟨flight, its⟩
    exact congrArg (becomes s) ((if_neg (by omega)).trans ((if_neg (by decide)).trans ((if_pos rfl).trans chip)))
  · subst named
    exact actionRow_refuses _ s rq _ arg [] _ 6 ok (by decide) (by decide) (if_pos up)
  · subst named
    have all : (remoteQps s.chip (leNat arg)).any (fun q => (qpOf s.chip q).state != 3 || (qpOf s.chip q).plat != 0xFD) = false := by
      rw [List.any_eq_false]
      intro q hq
      have := List.all_eq_true.1 ready q hq
      simp only [Bool.and_eq_true, beq_iff_eq] at this
      simp [this]
    refine ⟨_, actionRow_acks _ s rq _ arg _ ok ((if_neg (not_not.2 down)).trans (if_neg ?_)), odN_odSet_same s.chip 0x30033 _ 1, ?_, rfl⟩
    · rw [all]
      simp
      omega
    · exact (Keeps.refl s.chip _).put 0x30033 (leNat arg + 1) (.num 1) (by omega) (List.mem_singleton.2 rfl)
  · obtain ⟨same, -⟩ := nsReturns_restores (setBack (odSet s.chip 0x30033 (i + 1) 2) (0x10 + i)
      ⟨ns, false, nowNs s.chip + keepHalf s.chip i⟩) evRemoteUp i (0x10 + i)
    refine ⟨_, congrArg (becomes s) (if_pos ⟨hi, connecting⟩), ?_, ?_⟩
    · exact (same.num (by omega) (by decide) (by decide)).trans (odN_odSet_same s.chip 0x30033 (i + 1) 2)
    · unfold backOf
      rw [same.storage]
      exact tget_tput_same _ _ _ _
  · subst named
    exact actionRow_acks _ s rq _ arg _ ok (congrArg acted (if_pos down))
  · subst named
    exact actionRow_acks _ s rq _ arg _ ok (congrArg acted (if_neg up))
  · refine ⟨_, congrArg (becomes s) (if_pos ⟨hi, ready, due⟩), ?_, rfl, fun _ _ _ _ => rfl⟩
    exact congrArg BackEnd.keepAt (tget_tput_same _ _ _ _)
  · refine congrArg (becomes s) (if_pos ⟨hi, up, ?_⟩)
    simpa using lost

end Sys2Proof.Machine
end

/-! ## The emulated NVMe controller -/
section
namespace Sys2Proof.Machine

/-! ### Queues whose waybills go -/

theorem jobEnd_storage (c : Chip) (id : Nat) : (jobEnd c id).storage = c.storage ∧ (jobEnd c id).od = c.od := ⟨rfl, rfl⟩

/-- Waybills that vanish leave their queue empty, and every other queue as it was. -/
theorem wbAbortAll_spec (c : Chip) (n m : Nat) : (wbAbortAll c n).od = c.od ∧ nqOf (wbAbortAll c n) m =
    if m = n then (nqOf c n).map (fun q => { q with wbs := [] }) else nqOf c m := by
  unfold wbAbortAll
  cases made : nqOf c n with
  | none =>
    refine ⟨rfl, ?_⟩
    dsimp only
    split
    · next same => rw [same, made]; rfl
    · rfl
  | some q =>
    dsimp only
    have keyed (b : Chip) (w : Wb) : (if w.stage = 2 ∧ nsXts w.ns ∧ wbOp w.b ≠ 3 then keyIssue b (fld w.ns 24 2) false else b).storage
        = b.storage ∧ (if w.stage = 2 ∧ nsXts w.ns ∧ wbOp w.b ≠ 3 then keyIssue b (fld w.ns 24 2) false else b).od = b.od := by
      split
      · refine ⟨(keyIssue_storage b _ _).1, ?_⟩
        unfold keyIssue
        dsimp only
        split <;> rfl
      · exact ⟨rfl, rfl⟩
    have step (b : Chip) (w : Wb) : (if w.adm = 0 then
        (if w.stage = 2 ∧ nsXts w.ns ∧ wbOp w.b ≠ 3 then keyIssue b (fld w.ns 24 2) false else b)
        else jobEnd (if w.stage = 2 ∧ nsXts w.ns ∧ wbOp w.b ≠ 3 then keyIssue b (fld w.ns 24 2) false else b) w.adm).storage = b.storage
      ∧ (if w.adm = 0 then
        (if w.stage = 2 ∧ nsXts w.ns ∧ wbOp w.b ≠ 3 then keyIssue b (fld w.ns 24 2) false else b)
        else jobEnd (if w.stage = 2 ∧ nsXts w.ns ∧ wbOp w.b ≠ 3 then keyIssue b (fld w.ns 24 2) false else b) w.adm).od = b.od := by
      split <;> exact keyed b w
    refine ⟨foldl_keeps Chip.od _ _ (fun b w _ => (step b w).2) _, ?_⟩
    have storage := foldl_keeps Chip.storage _ q.wbs (fun b w _ => (step b w).1) (setNq c n { q with wbs := [] })
    refine (congrArg (fun t : Storage => tget? t.queues m) storage).trans ?_
    split
    · next same =>
      subst same
      exact nqOf_setNq_same _ _ _
    · next other => exact nqOf_setNq_other _ _ _ _ other

/-- Once the first `n` I/O queues have been cleared, their native queues are empty. -/
theorem nvClear_fold (c : Chip) (p n : Nat) : let b := (List.range n).foldl (fun s y => wbAbortAll s (nvNative s p (y + 1))) c
    b.od = c.od ∧ (∀ m nq, nqOf c m = some nq → nqOf b m = some nq ∨ nqOf b m = some { nq with wbs := [] })
      ∧ ∀ k nq, k < n → nqOf c (nvNative c p (k + 1)) = some nq → nqOf b (nvNative c p (k + 1)) = some { nq with wbs := [] } := by
  induction n with
  | zero => exact ⟨rfl, fun _ _ made => Or.inl made, fun k _ hk => absurd hk (Nat.not_lt_zero k)⟩
  | succ n ih =>
    obtain ⟨od, kept, done⟩ := ih
    simp only [List.range_succ, List.foldl_append, List.foldl_cons, List.foldl_nil]
    let b := (List.range n).foldl (fun s y => wbAbortAll s (nvNative s p (y + 1))) c
    have native : nvNative b p (n + 1) = nvNative c p (n + 1) :=
      congrArg (fun v : OdVal => fld v.blob 0 2 + (n + 1) - 1) (odGet_congr b c od _ _)
    have last (m : Nat) := wbAbortAll_spec b (nvNative b p (n + 1)) m
    have cleared {m : Nat} {nq : NativeQ} (here : m = nvNative b p (n + 1)) (made : nqOf c m = some nq) :
        nqOf (wbAbortAll b (nvNative b p (n + 1))) m = some { nq with wbs := [] } := by
      rw [(last m).2, if_pos here, ← here]
      obtain h | h := kept m nq made <;> exact congrArg (Option.map _) h
    refine ⟨(last 0).1.trans od, fun m nq made => ?_, fun k nq hk made => ?_⟩
    · by_cases here : m = nvNative b p (n + 1)
      · exact Or.inr (cleared here made)
      · rw [(last m).2, if_neg here]
        exact kept m nq made
    · by_cases here : nvNative c p (k + 1) = nvNative b p (n + 1)
      · exact cleared here made
      · rw [(last _).2, if_neg here]
        refine done k nq ?_ made
        have : k ≠ n := fun e => here (by rw [e, native])
        omega

/-! ### Admin commands -/

theorem nvRow_on {s : State} {p : Nat} (on : nvOn s.chip p = true) (f : Chip → Chip) : nvRow p s f = becomes s (f s.chip) :=
  congrArg (becomes s) (if_pos on)

/-- The Identify data of a namespace: its size, and the shift of its blocks. -/
theorem nvIdentify_space {c y : Chip} {p k : Nat} {e d : Bytes} (space : nvDw e 10 % 256 = 0)
    (is : nvSpace c p (nvNsid e) = some k) (data : nvIdentify c p e = (some d, y)) :
    fld d 0 8 = nsBlocks (nsRec c k) ∧ fld d 128 4 = fld (nsRec c k) 2 1 * 65536 := by
  unfold nvIdentify at data
  dsimp only at data
  rw [if_pos space, is] at data
  obtain ⟨rfl, -⟩ := Prod.mk.inj data |>.imp Option.some.inj id
  have small := fld_lt (nsRec c k) 2 1
  have size := fld_lt (nsRec c k) 16 8
  constructor
  · have length := splice_length_le (setFld (setFld (leBytes 4096 (takeFree c 32768).1) 25 1 0) 26 1 0)
      (leBytes 8 (nsBlocks (nsRec c k)) ++ leBytes 8 (nsBlocks (nsRec c k)) ++ leBytes 8 (nsBlocks (nsRec c k))) 0
    simp only [List.length_append, leBytes_length] at length
    rw [setFld, fld_splice_before _ _ _ _ _ (by decide) (by omega)]
    have inside := fld_splice_in (setFld (setFld (leBytes 4096 (takeFree c 32768).1) 25 1 0) 26 1 0)
      (leBytes 8 (nsBlocks (nsRec c k)) ++ leBytes 8 (nsBlocks (nsRec c k)) ++ leBytes 8 (nsBlocks (nsRec c k))) 0 0 8
      (by simp only [List.length_append, leBytes_length]; omega)
    rw [Nat.add_zero] at inside
    rw [inside, List.append_assoc, fld_front]
    exact Nat.mod_eq_of_lt size
  · rw [fld_setFld]
    omega

theorem nvmeAdmin : Claim.NvmeAdmin := by
  intro s p e page d y q nq on
  dsimp only
  refine ⟨fun id0 idn size0 sizen contiguous aligned => ⟨fun fresh ints few => ?_, fun fresh its => ?_, fun fresh none_ => ?_⟩,
    fun bad => ⟨?_, ?_⟩, fun made => ?_, fun none_ => ?_, fun made => ⟨fun free => ?_, fun linked => ?_⟩,
    fun data => ?_, fun beyond => ?_, fun k space is data => nvIdentify_space space is data, fun lid n1 n2 => ?_, fun bad => ?_,
    fun queues => ?_, fun async => ?_, fun cache => ?_, fun none_ => ?_, congrArg (becomes s) (if_pos on), ?_, ?_⟩
  · refine congrArg (becomes s) ((if_pos on).trans ?_)
    unfold nvCreateCq
    dsimp only
    rw [if_neg (by rw [fresh]; simp; omega), if_neg (by omega), if_neg (by rw [contiguous]; simpa using aligned), if_neg (by omega),
      if_pos ints]
    rfl
  · refine congrArg (becomes s) ((if_pos on).trans ?_)
    unfold nvCreateSq
    dsimp only
    rw [if_neg (by rw [fresh]; simp; omega), if_neg (by omega), if_neg (by rw [contiguous]; simpa using aligned),
      if_neg (by rw [its]; simp)]
    rfl
  · refine congrArg (becomes s) ((if_pos on).trans ?_)
    unfold nvCreateSq
    dsimp only
    rw [if_neg (by rw [fresh]; simp; omega), if_neg (by omega), if_neg (by rw [contiguous]; simpa using aligned),
      if_pos (by rw [none_]; rfl)]
  · exact congrArg (becomes s) ((if_pos on).trans (if_pos (bad.elim Or.inl (fun h => Or.inr (Or.inl h)))))
  · exact congrArg (becomes s) ((if_pos on).trans (if_pos (bad.elim Or.inl (fun h => Or.inr (Or.inl h)))))
  · refine ⟨_, congrArg (becomes s) ((if_pos on).trans (if_neg (by rw [made]; simp))), ?_⟩
    unfold nvCtl setNvCtl
    dsimp only
    rw [tget_tput_same]
    exact tget?_tdel_same _ _
  · exact congrArg (becomes s) ((if_pos on).trans (if_pos (by rw [none_]; rfl)))
  · exact congrArg (becomes s) ((if_pos on).trans ((if_neg (by rw [made]; simp)).trans (if_neg (by rw [free]; decide))))
  · exact congrArg (becomes s) ((if_pos on).trans ((if_neg (by rw [made]; simp)).trans (if_pos linked)))
  · refine congrArg (becomes s) ((if_pos on).trans ?_)
    dsimp only
    rw [data]
  · refine congrArg (becomes s) ((if_pos on).trans ?_)
    have none_ : nvIdentify s.chip p e = (none, s.chip) := by
      unfold nvIdentify
      dsimp only
      rw [if_neg (by omega), if_neg (by omega), if_neg (by omega), if_neg (by omega)]
    dsimp only
    rw [none_]
  · refine congrArg (becomes s) ((if_pos on).trans ?_)
    dsimp only
    rw [if_neg (by omega), if_neg (by omega), n1, n2]
    rfl
  · exact congrArg (becomes s) ((if_pos on).trans (if_pos (by omega)))
  · refine congrArg (becomes s) ((if_pos on).trans ?_)
    dsimp only
    rw [queues]
    rfl
  · refine congrArg (becomes s) ((if_pos on).trans ?_)
    dsimp only
    rw [async]
    rfl
  · refine congrArg (becomes s) ((if_pos on).trans ?_)
    dsimp only
    rw [cache]
    rfl
  · refine congrArg (becomes s) ((if_pos on).trans ?_)
    dsimp only
    rw [none_]
    rfl
  · exact congrArg (becomes s) (if_pos on)
  · obtain ⟨-, -, cleared⟩ := nvClear_fold s.chip p (nvQueues s.chip p)
    exact ⟨_, congrArg (becomes s) (if_pos on), tget?_tdel_same _ _, fun k hk made => cleared k nq hk made⟩

/-! ### I/O commands -/

/-- The controller with a command fetched from queue `k`. -/
def nvFetched (c : Chip) (p k : Nat) (q : NvQueue) : Chip :=
  setNvCtl c p { nvCtl c p with sqs := tput (nvCtl c p).sqs k { q with head := (q.head + 1) % q.size } }

theorem nvIo_fetches {s : State} {p k : Nat} {q : NvQueue} {nq : NativeQ} (on : nvOn s.chip p = true)
    (made : tget? (nvCtl s.chip p).sqs k = some q) (native : nqOf s.chip (nvNative s.chip p k) = some nq)
    (room : nq.wbs.length < 256) (f : Chip → Nat → Chip) :
    nvIo p k s f = becomes s (f (nvFetched s.chip p k q) (nvNative s.chip p k)) := by
  refine (nvRow_on on _).trans (congrArg (becomes s) ?_)
  dsimp only
  rw [made, native]
  exact if_neg (by omega)

section
variable (c : Chip) (p : Nat) (e : Bytes) (op j lba blocks addr : Nat) (fua : Bool)

/-- The fields of a waybill made for an I/O command. -/
theorem nvWaybill_fields (hop : op < 256) (hj : j < 65536) (hl : lba < 2 ^ 64) (hb : blocks < 2 ^ 32) :
    let b := nvWaybill c p e op j lba blocks addr fua
    wbOp b = op ∧ wbNs b = j ∧ wbLba b = lba ∧ wbBlocks b = blocks ∧ wbOrdered b = false := by
  have platform := slice_length (platStorage c p) 6 2
  unfold nvWaybill wbOp wbNs wbLba wbBlocks wbOrdered
  simp only [List.append_assoc]
  refine ⟨?_, ?_, ?_, ?_, ?_⟩
  · rw [fld_skip _ _ 2 1 rfl, fld_front]
    exact Nat.mod_eq_of_lt hop
  · rw [fld_right _ _ 2 2 2 rfl, fld_right _ _ 1 1 2 (leBytes_length _ _).symm, fld_skip _ _ 1 2 (leBytes_length _ _).symm, fld_front]
    exact Nat.mod_eq_of_lt hj
  · rw [fld_right _ _ 2 14 8 rfl, fld_right _ _ 1 13 8 (leBytes_length _ _).symm, fld_right _ _ 1 12 8 (leBytes_length _ _).symm,
      fld_right _ _ 2 10 8 (leBytes_length _ _).symm, fld_right _ _ 2 8 8 platform.symm, fld_skip _ _ 8 8 (leBytes_length _ _).symm,
      fld_front]
    exact Nat.mod_eq_of_lt hl
  · rw [fld_right _ _ 2 22 4 rfl, fld_right _ _ 1 21 4 (leBytes_length _ _).symm, fld_right _ _ 1 20 4 (leBytes_length _ _).symm,
      fld_right _ _ 2 18 4 (leBytes_length _ _).symm, fld_right _ _ 2 16 4 platform.symm, fld_right _ _ 8 8 4 (leBytes_length _ _).symm,
      fld_skip _ _ 8 4 (leBytes_length _ _).symm, fld_front]
    exact Nat.mod_eq_of_lt hb
  · rw [fld_right _ _ 2 1 1 rfl, fld_skip _ _ 1 1 (leBytes_length _ _).symm, fld_front]
    cases fua <;> rfl
end

/-- A waybill without ORDERED joins its queue behind the others. -/
theorem nvPush_joins {b : Chip} {n k : Nat} {e v : Bytes} {nq : NativeQ} (prp : List (Nat × Nat)) (made : nqOf b n = some nq)
    (free : wbOrdered v = false) : ∃ w, nqOf (nvPush b n k e v prp) n = some { nq with nextSeq := nq.nextSeq + 1, wbs := nq.wbs ++ [w] }
      ∧ w.seq = nq.nextSeq ∧ w.src = 2 ∧ w.ref = k * 65536 + nvCid e ∧ w.stage = 0 ∧ w.b = v := by
  unfold nvPush
  rw [made]
  dsimp only
  unfold wbJoin
  dsimp only
  rw [if_neg (by rw [free]; simp)]
  exact ⟨_, nqOf_setNq_same _ _ _, rfl, rfl, rfl, rfl, rfl⟩

/-- A waybill pushed for a command joins its native queue, with the fields of the command. -/
theorem nvPush_waybill {b : Chip} {n k j op lba blocks : Nat} {e : Bytes} {nq : NativeQ} (c : Chip) (p addr : Nat) (fua : Bool)
    (prp : List (Nat × Nat)) (made : nqOf b n = some nq) (hop : op < 256) (hj : j < 65536) (hl : lba < 2 ^ 64) (hb : blocks < 2 ^ 32) :
    ∃ w, nqOf (nvPush b n k e (nvWaybill c p e op j lba blocks addr fua) prp) n
        = some { nq with nextSeq := nq.nextSeq + 1, wbs := nq.wbs ++ [w] }
      ∧ w.seq = nq.nextSeq ∧ w.src = 2 ∧ w.ref = k * 65536 + nvCid e ∧ w.stage = 0
      ∧ wbOp w.b = op ∧ wbNs w.b = j ∧ wbLba w.b = lba ∧ wbBlocks w.b = blocks ∧ wbOrdered w.b = false := by
  have fields := nvWaybill_fields c p e op j lba blocks addr fua hop hj hl hb
  obtain ⟨w, joined, seq, src, ref, stage, is⟩ := nvPush_joins (k := k) (e := e) prp made fields.2.2.2.2
  refine ⟨w, joined, seq, src, ref, stage, ?_⟩
  rw [is]
  exact fields

theorem nvSpace_lt {c : Chip} {p nsid j : Nat} (h : nvSpace c p nsid = some j) : j < 1024 := by
  unfold nvSpace at h
  split at h
  · cases h
  · have := List.mem_of_getElem? h
    unfold nvSpaces at this
    have := List.mem_of_mem_take this
    simpa using (List.mem_filter.1 this).1

section
variable {c : Chip} {p k : Nat} {e : Bytes} (plain : fld e 1 1 = 0)
include plain

theorem nvChecked_none (none_ : nvSpace c p (nvNsid e) = none) (f : Nat → Chip) :
    nvChecked c p k e f = nvComplete c p k (nvCid e) 0 0x0B := by
  unfold nvChecked
  rw [if_neg (not_not.2 plain), none_]

theorem nvChecked_some {j : Nat} (some_ : nvSpace c p (nvNsid e) = some j) (f : Nat → Chip) : nvChecked c p k e f = f j := by
  unfold nvChecked
  rw [if_neg (not_not.2 plain), some_]
end

/-- Up to a page of data needs no PRP list. -/
theorem prpRuns_page (c : Chip) (p : Nat) (e : Bytes) {n : Nat} (page : n ≤ 4096) : (prpRuns c p e n).2 = c := by
  unfold prpRuns
  dsimp only
  split
  · rfl
  · rw [if_pos (by omega)]

/-- What a command makes of its namespace: Read and Write, Flush, Write Zeroes, Dataset Management. -/
def nvRwOn (c : Chip) (p k n op : Nat) (e : Bytes) (j : Nat) : Chip :=
  let blocks := nvDw e 12 % 65536 + 1
  let runs := prpRuns c p e (min (blocks * nsBlock (nsRec c j)) 16777216)
  nvPush runs.2 n k e (nvWaybill c p e op j (fld e 40 8) blocks (fld e 24 8) (bit (nvDw e 12) 30)) runs.1

@[inherit_doc nvRwOn] def nvFlushOn (c : Chip) (p k n : Nat) (e : Bytes) (j : Nat) : Chip :=
  nvPush c n k e (nvWaybill c p e 3 j 0 0 0 false) []

@[inherit_doc nvRwOn] def nvZeroOn (c : Chip) (p k n : Nat) (e : Bytes) (j : Nat) : Chip :=
  nvPush c n k e (nvWaybill c p e 5 j (fld e 40 8) (nvDw e 12 % 65536 + 1) 0 (bit (nvDw e 12) 30)) []

@[inherit_doc nvRwOn] def nvTrimOn (c : Chip) (p k n : Nat) (e : Bytes) (j : Nat) : Chip :=
  let nr := nvDw e 10 % 256 + 1
  if !bit (nvDw e 11) 2 then nvComplete c p k (nvCid e) 0 0
  else
    let runs := prpRuns c p e (16 * nr)
    let x := segRead runs.2 (.plat p) 0 runs.1
    if x.st ≠ 0 then nvComplete x.s p k (nvCid e) 0 0x04
    else nvRanges x.s p k n j e nr x.bytes

section
variable {s : State} {p k : Nat} {q : NvQueue} {nq : NativeQ} (on : nvOn s.chip p = true)
  (made : tget? (nvCtl s.chip p).sqs k = some q) (native : nqOf s.chip (nvNative s.chip p k) = some nq)
  (room : nq.wbs.length < 256) (e : Bytes)
include on made native room

theorem nvmeRead_runs : exec (.nvmeRead p k e) s = becomes s (nvRw (nvFetched s.chip p k q) p k (nvNative s.chip p k) 1 e) :=
  nvIo_fetches on made native room (fun c n => nvRw c p k n 1 e)

theorem nvmeWrite_runs : exec (.nvmeWrite p k e) s = becomes s (nvRw (nvFetched s.chip p k q) p k (nvNative s.chip p k) 2 e) :=
  nvIo_fetches on made native room (fun c n => nvRw c p k n 2 e)

theorem nvmeFlush_runs : exec (.nvmeFlush p k e) s = becomes s
    (nvChecked (nvFetched s.chip p k q) p k e (nvFlushOn (nvFetched s.chip p k q) p k (nvNative s.chip p k) e)) :=
  nvIo_fetches on made native room (fun c n => nvChecked c p k e (nvFlushOn c p k n e))

theorem nvmeWriteZeroes_runs : exec (.nvmeWriteZeroes p k e) s = becomes s
    (nvChecked (nvFetched s.chip p k q) p k e (nvZeroOn (nvFetched s.chip p k q) p k (nvNative s.chip p k) e)) :=
  nvIo_fetches on made native room (fun c n => nvChecked c p k e (nvZeroOn c p k n e))

theorem nvmeDatasetManagement_runs : exec (.nvmeDatasetManagement p k e) s = becomes s
    (nvChecked (nvFetched s.chip p k q) p k e (nvTrimOn (nvFetched s.chip p k q) p k (nvNative s.chip p k) e)) :=
  nvIo_fetches on made native room (fun c n => nvChecked c p k e (nvTrimOn c p k n e))

theorem nvmeUnsupported_runs (io : 0 < k) : exec (.nvmeUnsupported p k e) s = becomes s (nvComplete (nvFetched s.chip p k q) p k
    (nvCid e) 0 (if [0, 1, 2, 8, 9].contains (nvOp e) then 0x02 else 0x01)) :=
  (if_neg (Nat.ne_of_gt io)).trans (nvIo_fetches on made native room
    (fun c _ => nvComplete c p k (nvCid e) 0 (if [0, 1, 2, 8, 9].contains (nvOp e) then 0x02 else 0x01)))
end

theorem nvRw_eq (c : Chip) (p k n op : Nat) (e : Bytes) : nvRw c p k n op e = nvChecked c p k e (nvRwOn c p k n op e) := rfl

/-- A transfer of up to a page becomes one waybill. -/
theorem nvRwOn_page {c : Chip} {p k n op j : Nat} {e : Bytes} {nq : NativeQ} (made : nqOf c n = some nq) (hop : op < 256)
    (hj : j < 65536) (page : (nvDw e 12 % 65536 + 1) * nsBlock (nsRec c j) ≤ 4096) :
    ∃ w, nqOf (nvRwOn c p k n op e j) n = some { nq with nextSeq := nq.nextSeq + 1, wbs := nq.wbs ++ [w] }
      ∧ w.seq = nq.nextSeq ∧ w.src = 2 ∧ w.ref = k * 65536 + nvCid e ∧ w.stage = 0 ∧ wbOp w.b = op ∧ wbNs w.b = j
      ∧ wbLba w.b = fld e 40 8 ∧ wbBlocks w.b = nvDw e 12 % 65536 + 1 ∧ wbOrdered w.b = false := by
  have list := prpRuns_page c p e (n := min ((nvDw e 12 % 65536 + 1) * nsBlock (nsRec c j)) 16777216)
    ((Nat.min_le_left _ _).trans page)
  exact nvPush_waybill c p (fld e 24 8) (bit (nvDw e 12) 30)
    (prpRuns c p e (min ((nvDw e 12 % 65536 + 1) * nsBlock (nsRec c j)) 16777216)).1 (by rw [list]; exact made) hop hj (fld_lt e 40 8)
    (by omega)

/-- A deallocation of one range becomes one waybill. -/
theorem nvTrimOn_one {c : Chip} {p k n j : Nat} {e : Bytes} {x : Xfer} (dealloc : bit (nvDw e 11) 2 = true)
    (one : nvDw e 10 % 256 = 0) (read : x = segRead c (.plat p) 0 (prpRuns c p e 16).1) (same : (prpRuns c p e 16).2 = c)
    (good : x.st = 0) : nvTrimOn c p k n e j =
      nvPush x.s n k e (nvWaybill x.s p e 4 j (fld x.bytes 8 8) (fld x.bytes 4 4) 0 false) [] := by
  unfold nvTrimOn
  dsimp only
  rw [dealloc, one, if_neg (by decide), show 16 * (0 + 1) = 16 from rfl, same, ← read, if_neg (not_not.2 good)]
  rfl

theorem nvmeIo : Claim.NvmeIo := by
  intro s p k j e q nq on
  dsimp only
  intro made native room plain
  have native' : nqOf (nvFetched s.chip p k q) (nvNative s.chip p k) = some nq := native
  have lba := fld_lt e 40 8
  have read := nvmeRead_runs on made native room e
  have write := nvmeWrite_runs on made native room e
  have flush := nvmeFlush_runs on made native room e
  have zeroes := nvmeWriteZeroes_runs on made native room e
  have trim := nvmeDatasetManagement_runs on made native room e
  refine ⟨fun none_ => ?_, fun space => ?_, fun io other => ?_⟩
  · have ends := nvChecked_none (c := nvFetched s.chip p k q) (k := k) plain none_
    rw [nvRw_eq, ends] at read write
    rw [ends] at flush zeroes trim
    exact ⟨read, write, flush, zeroes, trim⟩
  · have small := nvSpace_lt space
    have runs := nvChecked_some (c := nvFetched s.chip p k q) (k := k) plain space
    refine ⟨read, write, fun page => ?_, ?_, ?_, fun nothing => ?_, fun x dealloc one list same good kept => ?_⟩
    · rw [nvRw_eq, runs] at read write
      obtain ⟨v, pushed⟩ := nvRwOn_page (p := p) (k := k) (op := 1) native' (by decide) (by omega : j < 65536) page
      obtain ⟨w, pushed'⟩ := nvRwOn_page (p := p) (k := k) (op := 2) native' (by decide) (by omega : j < 65536) page
      exact ⟨⟨_, v, read, pushed⟩, ⟨_, w, write, pushed'⟩⟩
    · rw [runs] at flush
      obtain ⟨w, pushed⟩ := nvPush_waybill (k := k) (e := e) (op := 3) (lba := 0) (j := j) (blocks := 0)
        (nvFetched s.chip p k q) p 0 false [] native' (by decide) (by omega) (by decide) (by decide)
      exact ⟨_, w, flush, pushed⟩
    · rw [runs] at zeroes
      obtain ⟨w, pushed⟩ := nvPush_waybill (k := k) (e := e) (op := 5) (lba := fld e 40 8) (j := j) (blocks := nvDw e 12 % 65536 + 1)
        (nvFetched s.chip p k q) p 0 (bit (nvDw e 12) 30) [] native' (by decide) (by omega) lba (by omega)
      exact ⟨_, w, zeroes, pushed⟩
    · rw [runs, nvTrimOn, nothing] at trim
      exact trim
    · have native'' : nqOf x.s (nvNative s.chip p k) = some nq := by
        unfold nqOf
        rw [kept]
        exact native
      obtain ⟨w, pushed⟩ := nvPush_waybill (k := k) (e := e) (op := 4) (lba := fld x.bytes 8 8) (j := j) (blocks := fld x.bytes 4 4)
        x.s p 0 false [] native'' (by decide) (by omega) (fld_lt _ _ _) (fld_lt _ _ _)
      rw [runs, nvTrimOn_one (c := nvFetched s.chip p k q) dealloc one list same good] at trim
      exact ⟨_, w, trim, pushed⟩
  · have acts := nvmeUnsupported_runs on made native room e io
    rw [other] at acts
    exact acts

/-- Settles O52: admin commands by Table 16-6, I/O commands as waybills of their native queue. -/
theorem nvmeController : Obligations.NvmeController := ⟨nvmeAdmin, nvmeIo⟩

end Sys2Proof.Machine
end

/-! ## The cipher engine -/
section
namespace Sys2Proof.Machine

/-! ### Issue -/

theorem showLeases_keeps (c : Chip) : (showLeases c).engines = c.engines ∧ (showLeases c).disp = c.disp
    ∧ Keeps c (showLeases c) [(0x04040, 1), (0x04040, 3)] :=
  ⟨rfl, rfl, ((Keeps.refl c _).put 0x04040 1 _ (by decide) (by simp)).put 0x04040 3 _ (by decide) (by simp)⟩

theorem portQ_setPortQ_same (c : Chip) (k : Nat) (q : PortQ) : portQ (setPortQ c k q) k = q := tget_tput_same _ _ _ _

theorem keyIssue_keeps (c : Chip) (i : Nat) (up : Bool) : (keyIssue c i up).engines = c.engines ∧ (keyIssue c i up).disp = c.disp
    ∧ (keyIssue c i up).od = c.od := by
  unfold keyIssue
  dsimp only
  split <;> exact ⟨rfl, rfl, rfl⟩

/-- A request that starts is under way, and counts as running on its queue. -/
theorem startRun_spec (c : Chip) (k : Nat) (e : PqEntry) (cluster : Nat) (key : Bytes) (done : Option (Nat × Nat)) :
    (startRun c k e cluster key done).engines.ciphers
        = c.engines.ciphers ++ [⟨e.id, k, e.b, e.adm, cluster, cSlot e.b, key, done⟩]
    ∧ (portQ (startRun c k e cluster key done) k).running = (portQ c k).running + 1
    ∧ ∀ y ∈ (portQ (startRun c k e cluster key done) k).waiting, y.id ≠ e.id := by
  have queue : portQ (startRun c k e cluster key done) k =
      { portQ c k with waiting := (portQ c k).waiting.filter (fun x => x.id != e.id), running := (portQ c k).running + 1 } :=
    portQ_setPortQ_same _ _ _
  rw [queue]
  refine ⟨rfl, rfl, fun y hy => ?_⟩
  simpa using (List.mem_filter.1 hy).2

theorem cipherIssue_ends : Claim.CipherIssue := by
  intro s k x e rest hk waiting
  dsimp only
  have oldest (v : Chip) (h : (if 16 ≤ k then s.chip
      else if cipherBad s.chip k e.b ≠ 0 then startRun s.chip k e 0xFF [] (some (cipherBad s.chip k e.b, 0))
      else if e.adm = 0 then s.chip
      else if clustersGone s.chip then startRun s.chip k e 0xFF [] (some (15, 0))
      else
        match pickCluster s.chip with
        | none => s.chip
        | some c =>
          if cipherKeyStatus s.chip k e.b ≠ 0 then startRun s.chip k e 0xFF [] (some (cipherKeyStatus s.chip k e.b, 0))
          else if 1048576 < authUsed s.chip c + authBytes e.b then s.chip
          else startRun (keyIssue s.chip (cSlot e.b) true) k e c (keySlot s.chip (cSlot e.b)).key none) = v) :
      exec (.cipherIssue k) s = becomes s v := by
    have acts : cipherIssue s.chip k = v := by
      unfold cipherIssue
      rw [waiting]
      exact h
    exact congrArg (becomes s) acts
  refine ⟨fun bad => oldest _ ((if_neg (by omega)).trans (if_pos bad)),
    fun fine wait => oldest _ ((if_neg (by omega)).trans ((if_neg (not_not.2 fine)).trans (if_pos wait))), fun fine admitted => ?_⟩
  have past (v : Chip) (h : _ = v) := oldest v ((if_neg (by omega)).trans ((if_neg (not_not.2 fine)).trans ((if_neg admitted).trans h)))
  refine ⟨fun gone => past _ (if_pos gone), fun there none_ => past _ ((if_neg (ne_true_of_eq_false there)).trans ?_),
    fun there picked => ⟨fun bad => past _ ((if_neg (ne_true_of_eq_false there)).trans ?_), fun good room =>
      ⟨startRun (keyIssue s.chip (cSlot e.b) true) k e x (keySlot s.chip (cSlot e.b)).key none,
        past _ ((if_neg (ne_true_of_eq_false there)).trans ?_), ?_⟩⟩⟩
  · rw [none_]
  · rw [picked]
    exact if_pos bad
  · rw [picked]
    exact (if_neg (not_not.2 good)).trans (if_neg (by omega))
  · obtain ⟨engines, disp, -⟩ := keyIssue_keeps s.chip (cSlot e.b) true
    have spec := startRun_spec (keyIssue s.chip (cSlot e.b) true) k e x (keySlot s.chip (cSlot e.b)).key none
    have queue : portQ (keyIssue s.chip (cSlot e.b) true) k = portQ s.chip k := congrArg (fun d : Disp => tget PortQ.empty d.portQs k) disp
    rw [engines, queue] at spec
    exact spec

/-! ### The modes -/

section
variable {c : Chip} {id : Nat} {r : CipherRun} {x : Xfer} (listed : cipherRun c id = some r) (under : r.done = none)
  (on : r.cluster < 8) (serves : clusterState c r.cluster = 0) (read : x = cipherRead c r)
include listed under on serves read

/-- An issued request is run by the row of its mode, which reads its source. -/
theorem runMode_issued (m : Nat) (k : Chip → CipherRun → Bytes → Chip) : runMode c m id k =
    if cMode r.b ≠ m then c else if x.st ≠ 0 then endRun x.s r (cipherXferStatus x.st) 0 else k x.s r x.bytes := by
  subst read
  unfold runMode
  rw [listed]
  dsimp only
  by_cases own : cMode r.b = m
  · rw [if_neg (by rw [under, own]; simp), if_neg (by omega), if_neg (not_not.2 own)]
  · rw [if_pos (Or.inl own), if_pos own]

theorem runMode_reads {m : Nat} (k : Chip → CipherRun → Bytes → Chip) (own : m = cMode r.b) (good : x.st = 0) :
    runMode c m id k = k x.s r x.bytes := by
  rw [runMode_issued listed under on serves read, if_neg (not_not.2 own.symm), if_neg (not_not.2 good)]
end

/-- Every row of a mode runs the requests of that mode. -/
theorem cipherRows_run (s : State) (id : Nat) :
    ∀ p ∈ ([(1, .gcmEnc id none), (2, .gcmDec id none none), (3, .gmacGen id none), (4, .gmacVer id none), (5, .xtsEnc id none),
      (6, .xtsDec id none), (7, .ctr id none)] : List (Nat × Instr)),
    ∃ k, exec p.2 s = becomes s (runMode s.chip p.1 id k) := by
  have r1 : ∃ k, exec (.gcmEnc id none) s = becomes s (runMode s.chip 1 id k) := ⟨_, rfl⟩
  have r2 : ∃ k, exec (.gcmDec id none none) s = becomes s (runMode s.chip 2 id k) := ⟨_, rfl⟩
  have r3 : ∃ k, exec (.gmacGen id none) s = becomes s (runMode s.chip 3 id k) := ⟨_, rfl⟩
  have r4 : ∃ k, exec (.gmacVer id none) s = becomes s (runMode s.chip 4 id k) := ⟨_, rfl⟩
  have r5 : ∃ k, exec (.xtsEnc id none) s = becomes s (runMode s.chip 5 id k) := ⟨_, rfl⟩
  have r6 : ∃ k, exec (.xtsDec id none) s = becomes s (runMode s.chip 6 id k) := ⟨_, rfl⟩
  have r7 : ∃ k, exec (.ctr id none) s = becomes s (runMode s.chip 7 id k) := ⟨_, rfl⟩
  simp only [List.forall_mem_cons, List.not_mem_nil, false_imp_iff, implies_true, and_true]
  exact ⟨r1, r2, r3, r4, r5, r6, r7⟩

section
variable {b : Chip} {r : CipherRun} {text tag : Bytes} {st : Nat}

/-- The output of a request, released whole. -/
theorem cipherOut_whole (good : (xferWrite b (cipherAgent b r) (cDst r.b) (text ++ tag) (cHint r.b) 0 uCipher Bound.free).st = 0) :
    cipherOut b r text tag none st =
      endRun (xferWrite b (cipherAgent b r) (cDst r.b) (text ++ tag) (cHint r.b) 0 uCipher Bound.free).s r st
        (xferWrite b (cipherAgent b r) (cDst r.b) (text ++ tag) (cHint r.b) 0 uCipher Bound.free).count := by
  unfold cipherOut
  exact if_neg (not_not.2 good)

/-- With a check mismatch, only whole segments before it. -/
theorem cipherOut_fault {n pair : Nat}
    (good : (xferWrite b (cipherAgent b r) (cDst r.b) (text.take (4096 * n)) (cHint r.b) 0 uCipher Bound.free).st = 0) :
    cipherOut b r text tag (some (n, pair)) st = cipherMismatch
      (endRun (xferWrite b (cipherAgent b r) (cDst r.b) (text.take (4096 * n)) (cHint r.b) 0 uCipher Bound.free).s r 10
        (xferWrite b (cipherAgent b r) (cDst r.b) (text.take (4096 * n)) (cHint r.b) 0 uCipher Bound.free).count) r pair := by
  unfold cipherOut
  exact if_neg (not_not.2 good)
end

/-- What a decryption without a fault gives: nothing unless the tag matches. -/
theorem gcmDec_text {c : Chip} {id : Nat} {r : CipherRun} {x : Xfer} (o : Option Bytes) (runs : ∀ k, runMode c 2 id k = k x.s r x.bytes) :
    let w := if cLen r.b ≤ 1048576 then x.bytes else (o.map (slice · 0 (srcBytes r.b))).getD x.bytes
    gcmDec c id none o = if gcmTag r.key (cIv r.b) (srcAad r x.bytes) (srcText r x.bytes) = srcTag r x.bytes then
        cipherOut x.s r (gcmText r.key (cIv r.b) (srcText r w)) [] none
          (if gcmHash r.key (srcAad r w) (srcText r w) = gcmHash r.key (srcAad r x.bytes) (srcText r x.bytes) then 0 else 11)
      else endRun x.s r 9 0 := by
  unfold gcmDec
  dsimp only
  rw [runs]
  by_cases small : cLen r.b ≤ 1048576
  · rw [if_pos small, if_pos small, if_pos rfl]
    by_cases good : gcmTag r.key (cIv r.b) (srcAad r x.bytes) (srcText r x.bytes) = srcTag r x.bytes
    · rw [if_pos good, good]
      simp
    · rw [if_neg good]
      simp [good]
  · rw [if_neg small, if_neg small]
    by_cases good : gcmTag r.key (cIv r.b) (srcAad r x.bytes) (srcText r x.bytes) = srcTag r x.bytes
    · rw [if_pos good, good]
      cases o <;> simp
    · rw [if_neg good]
      simp [good]

theorem cipherModes : Claim.CipherModes := by
  intro s id r x listed under on serves read
  dsimp only
  have rows := cipherRows_run s id
  refine ⟨fun p hp other => ?_, fun failed p hp own => ?_, fun good => ?_⟩
  · obtain ⟨k, row⟩ := rows p hp
    rw [row, runMode_issued listed under on serves read, if_pos other.symm]
  · obtain ⟨k, row⟩ := rows p hp
    rw [row, runMode_issued listed under on serves read, if_neg (not_not.2 own.symm), if_pos (by omega), failed]
    rfl
  · have runs {m : Nat} (own : cMode r.b = m) (k : Chip → CipherRun → Bytes → Chip) : runMode s.chip m id k = k x.s r x.bytes :=
      runMode_reads listed under on serves read k own.symm good
    refine ⟨fun own out => ?_, fun n pair own out => ?_, fun o own out => ?_, fun own out => ?_, fun own => ?_, fun own out => ?_,
      fun own out => ?_, fun own out => ?_⟩
    · exact congrArg (becomes s) ((runs own _).trans (cipherOut_whole out))
    · exact congrArg (becomes s) ((runs own _).trans (cipherOut_fault out))
    · have acts := gcmDec_text o (fun k => runs own k)
      dsimp only at acts
      rw [cipherOut_whole out] at acts
      exact congrArg (becomes s) acts
    · exact congrArg (becomes s) ((runs own _).trans (cipherOut_whole out))
    · refine congrArg (becomes s) ((runs own _).trans ?_)
      dsimp only
      congr 1
      by_cases match_ : gcmTag r.key (cIv r.b) (srcAad r x.bytes) [] = srcTag r x.bytes <;> simp [match_]
    · exact congrArg (becomes s) ((runs own _).trans (cipherOut_whole out))
    · exact congrArg (becomes s) ((runs own _).trans (cipherOut_whole out))
    · exact congrArg (becomes s) ((runs own _).trans (cipherOut_whole out))

/-! ### The end of a request -/

/-- A request that has ended, off the list and off its key's count. -/
def cipherOff (c : Chip) (r : CipherRun) : Chip :=
  let v := setRuns c (c.engines.ciphers.filter (fun x => x.id != r.id))
  if r.key.isEmpty then v else keyIssue v r.slot false

theorem cipherOff_keeps (c : Chip) (r : CipherRun) : (cipherOff c r).engines.ciphers = c.engines.ciphers.filter (fun x => x.id != r.id)
    ∧ (cipherOff c r).disp = c.disp ∧ (cipherOff c r).od = c.od := by
  unfold cipherOff
  dsimp only
  split
  · exact ⟨rfl, rfl, rfl⟩
  · obtain ⟨engines, disp, od⟩ := keyIssue_keeps (setRuns c (c.engines.ciphers.filter (fun x => x.id != r.id))) r.slot false
    exact ⟨congrArg Engines.ciphers engines, disp, od⟩

/-- Its completion takes the lowest free slot of its queue. -/
theorem portComplete_queue (c : Chip) (k st x : Nat) (b : Bytes) (n : Nat) : portQ (portComplete c k st x b n) k = { portQ c k with
      ready := (portQ c k).ready ++ [freeSlot (portQ c k).ready (portQ c k).popped]
      popped := if (portQ c k).popped = some (freeSlot (portQ c k).ready (portQ c k).popped) then none else (portQ c k).popped }
    ∧ (portComplete c k st x b n).engines = c.engines ∧ (portComplete c k st x b n).od = c.od :=
  ⟨portQ_setPortQ_same _ _ _, rfl, rfl⟩

/-- The counters of a request that ends well. -/
theorem cipherCount_ok (c : Chip) (b : Bytes) (n : Nat) : (cipherCount c b 0 n).engines = c.engines ∧ (cipherCount c b 0 n).disp = c.disp
    ∧ odN (cipherCount c b 0 n) 0x31050 1 = (odN c 0x31050 1 + 1) % 2 ^ 64
    ∧ odN (cipherCount c b 0 n) 0x31050 2 = (odN c 0x31050 2 + n) % 2 ^ 64 := by
  have one : odN (odAdd64 (odAdd64 c 0x31050 1 1) 0x31050 2 n) 0x31050 1 = (odN c 0x31050 1 + 1) % 2 ^ 64 := by
    rw [odN_odAdd64_ne _ _ _ _ _ _ (by decide) (by decide) (Or.inr (by decide)), odN_odAdd64_same]
  have two : odN (odAdd64 (odAdd64 c 0x31050 1 1) 0x31050 2 n) 0x31050 2 = (odN c 0x31050 2 + n) % 2 ^ 64 := by
    rw [odN_odAdd64_same, odN_odAdd64_ne _ _ _ _ _ _ (by decide) (by decide) (Or.inr (by decide))]
  have counts : cipherCount c b 0 n = if cPlat b < 64 then
      odAdd64 (odAdd64 (odAdd64 (odAdd64 c 0x31050 1 1) 0x31050 2 n) (0x31080 + cPlat b) 1 1) (0x31080 + cPlat b) 2 n
    else odAdd64 (odAdd64 c 0x31050 1 1) 0x31050 2 n := rfl
  rw [counts]
  split
  · have ne (k : Nat) : 0x31050 ≠ 0x31080 + k := by omega
    refine ⟨rfl, rfl, ?_, ?_⟩
    · rw [odN_odAdd64_ne _ _ _ _ _ _ (by decide) (by decide) (Or.inl (ne _)),
        odN_odAdd64_ne _ _ _ _ _ _ (by decide) (by decide) (Or.inl (ne _)), one]
    · rw [odN_odAdd64_ne _ _ _ _ _ _ (by decide) (by decide) (Or.inl (ne _)),
        odN_odAdd64_ne _ _ _ _ _ _ (by decide) (by decide) (Or.inl (ne _)), two]
  · exact ⟨rfl, rfl, one, two⟩

theorem cipherRun_id {c : Chip} {id : Nat} {r : CipherRun} (h : cipherRun c id = some r) : r.id = id := by
  have := List.find?_some h
  simpa using this

/-- A request without a signal that has ended well. -/
theorem cipherComplete_acts {c : Chip} {id n : Nat} {r : CipherRun} (listed : cipherRun c id = some r) (done : r.done = some (0, n))
    (silent : cSignal r.b = 0xFFFF) : ∃ v, cipherComplete c id = showLeases v
      ∧ v.engines.ciphers = c.engines.ciphers.filter (fun x => x.id != id)
      ∧ portQ v r.queue = { portQ c r.queue with
          running := (portQ c r.queue).running - 1
          ready := (portQ c r.queue).ready ++ [freeSlot (portQ c r.queue).ready (portQ c r.queue).popped]
          popped := if (portQ c r.queue).popped = some (freeSlot (portQ c r.queue).ready (portQ c r.queue).popped) then none
            else (portQ c r.queue).popped }
      ∧ odN v 0x31050 1 = (odN c 0x31050 1 + 1) % 2 ^ 64 ∧ odN v 0x31050 2 = (odN c 0x31050 2 + n) % 2 ^ 64 := by
  have is := cipherRun_id listed
  subst is
  obtain ⟨ciphers, disp, od⟩ := cipherOff_keeps c r
  have off : portQ (cipherOff c r) r.queue = portQ c r.queue := congrArg (fun d : Disp => tget PortQ.empty d.portQs r.queue) disp
  let a := setPortQ (cipherOff c r) r.queue { portQ c r.queue with running := (portQ c r.queue).running - 1 }
  let b := portComplete a r.queue 0 r.cluster r.b n
  have queue : portQ a r.queue = { portQ c r.queue with running := (portQ c r.queue).running - 1 } := portQ_setPortQ_same _ _ _
  obtain ⟨completed, engines, od'⟩ := portComplete_queue a r.queue 0 r.cluster r.b n
  obtain ⟨engines', disp', one, two⟩ := cipherCount_ok b r.b n
  rw [queue] at completed
  have same : b.od = c.od := od'.trans od
  have acts : cipherComplete c r.id = showLeases (if r.adm = 0 then cipherCount b r.b 0 n else jobEnd (cipherCount b r.b 0 n) r.adm) := by
    unfold cipherComplete
    rw [listed]
    dsimp only
    rw [done]
    dsimp only
    rw [silent]
    show showLeases (if r.adm = 0 then cipherCount (addSignal (portComplete (setPortQ (cipherOff c r) r.queue
      { portQ (cipherOff c r) r.queue with running := (portQ (cipherOff c r) r.queue).running - 1 }) r.queue 0 r.cluster r.b n) _ 0xFFFF)
      r.b 0 n else jobEnd (cipherCount (addSignal (portComplete (setPortQ (cipherOff c r) r.queue
      { portQ (cipherOff c r) r.queue with running := (portQ (cipherOff c r) r.queue).running - 1 }) r.queue 0 r.cluster r.b n) _ 0xFFFF)
      r.b 0 n) r.adm) = _
    rw [off, addSignal, if_pos rfl]
  have final : ∀ v : Chip, v.engines = (cipherCount b r.b 0 n).engines → v.disp = (cipherCount b r.b 0 n).disp →
      v.od = (cipherCount b r.b 0 n).od → v.engines.ciphers = c.engines.ciphers.filter (fun x => x.id != r.id)
      ∧ portQ v r.queue = { portQ c r.queue with
          running := (portQ c r.queue).running - 1
          ready := (portQ c r.queue).ready ++ [freeSlot (portQ c r.queue).ready (portQ c r.queue).popped]
          popped := if (portQ c r.queue).popped = some (freeSlot (portQ c r.queue).ready (portQ c r.queue).popped) then none
            else (portQ c r.queue).popped }
      ∧ odN v 0x31050 1 = (odN c 0x31050 1 + 1) % 2 ^ 64 ∧ odN v 0x31050 2 = (odN c 0x31050 2 + n) % 2 ^ 64 := by
    intro v e d o
    refine ⟨?_, ?_, ?_, ?_⟩
    · rw [e, engines', engines]
      exact ciphers
    · exact (congrArg (fun d : Disp => tget PortQ.empty d.portQs r.queue) (d.trans disp')).trans completed
    · rw [odN_congr _ _ o, one, odN_congr _ _ same]
    · rw [odN_congr _ _ o, two, odN_congr _ _ same]
  refine ⟨_, acts, ?_⟩
  split
  · exact final _ rfl rfl rfl
  · exact final _ rfl rfl rfl

/-! ### The gate of a cluster -/

theorem pickCluster_serves {c : Chip} {x : Nat} (h : pickCluster c = some x) : clusterState c x = 0 := by
  have fold (l : List Nat) (best : Option Nat) (hl : ∀ y ∈ l, clusterState c y = 0) (hb : ∀ y, best = some y → clusterState c y = 0) :
      ∀ y, l.foldl (fun best y =>
        match best with
        | none => some y
        | some b => if clusterLoad c y < clusterLoad c b then some y else some b) best = some y → clusterState c y = 0 := by
    induction l generalizing best with
    | nil => exact hb
    | cons a r ih =>
      rw [List.foldl_cons]
      refine ih _ (fun y hy => hl y (List.mem_cons_of_mem _ hy)) (fun y hy => ?_)
      have ha := hl a List.mem_cons_self
      cases best with
      | none =>
        cases hy
        exact ha
      | some b =>
        dsimp only at hy
        split at hy
        · cases hy
          exact ha
        · cases hy
          exact hb _ rfl
  refine fold _ none (fun y hy => ?_) (fun y hy => nomatch hy) x h
  have := (List.mem_filter.1 hy).2
  simp only [Bool.and_eq_true, beq_iff_eq] at this
  exact this.1

/-- A request waits on cluster `v` of `c`. -/
def runsOn (v : Nat) (r : CipherRun) : Bool := r.cluster == v && r.done.isNone

/-- Every request on a halted cluster moves: what waits there has a number still to move. -/
theorem moveRuns_fold {v : Nat} (hv : v < 8) (l : List CipherRun) (b : Chip) (halted : clusterState b v = 2)
    (listed : ∀ x ∈ b.engines.ciphers, runsOn v x = true → ∃ y ∈ l, y.id = x.id) :
    let m := l.foldl (fun s r => setRun s { r with cluster := (pickCluster s).getD 0xFF }) b
    clusterState m v = 2 ∧ ∀ x ∈ m.engines.ciphers, runsOn v x = false := by
  induction l generalizing b with
  | nil =>
    refine ⟨halted, fun x hx => ?_⟩
    by_contra waits
    obtain ⟨y, hy, -⟩ := listed x hx (by simpa using waits)
    cases hy
  | cons r l ih =>
    rw [List.foldl_cons]
    refine ih _ halted (fun x hx waits => ?_)
    obtain ⟨z, hz, is⟩ := List.mem_map.1 hx
    by_cases same : z.id = r.id
    · rw [if_pos (by simpa using same)] at is
      subst is
      have there : (pickCluster b).getD 0xFF = v := by
        simp only [runsOn, Bool.and_eq_true, beq_iff_eq] at waits
        exact waits.1
      cases picked : pickCluster b with
      | none =>
        rw [picked] at there
        simp at there
        omega
      | some y =>
        rw [picked] at there
        have := pickCluster_serves picked
        rw [show y = v from there, halted] at this
        cases this
    · rw [if_neg (by simpa using same)] at is
      subst is
      obtain ⟨y, hy, named⟩ := listed z hz waits
      obtain here | later := List.mem_cons.1 hy
      · exact absurd (by rw [← named, here]) same
      · exact ⟨y, later, named⟩

/-- A halted cluster takes no work, and keeps none. -/
theorem haltCluster_spec (c : Chip) {v : Nat} (hv : v < 8) : clusterState (haltCluster c v) v = 2
    ∧ (haltCluster c v).engines.ciphers.filter (fun r => r.cluster == v && r.done.isNone) = [] := by
  obtain ⟨halted, moved⟩ := moveRuns_fold hv
    ((setClusterState c v 2).engines.ciphers.filter (fun r => r.cluster == v && r.done.isNone)) (setClusterState c v 2)
    (odN_odSet_same _ _ _ _) (fun x hx waits => ⟨x, List.mem_filter.2 ⟨hx, waits⟩, rfl⟩)
  obtain ⟨engines, -, objects⟩ := showLeases_keeps (moveRuns (setClusterState c v 2) v)
  constructor
  · exact (objects.num _ _ (by omega) (by simp)).trans halted
  · unfold haltCluster
    rw [engines, List.filter_eq_nil_iff]
    intro x hx
    exact ne_true_of_eq_false (moved x hx)

theorem gate_halts {c : Chip} {rq : Rq} {arg : Bytes} {v : Nat} (is : leNat arg = 128 + v) (hv : v < 8) :
    actClusterGate c rq arg = clusterHalt c v := by
  have low : bits (128 + v) 6 3 = 0 := by unfold bits; omega
  have high : bit (128 + v) 7 = true := by
    rw [bit, Nat.testBit_eq_decide_div_mod_eq]
    simp
    omega
  unfold actClusterGate
  dsimp only
  rw [is, if_neg (not_not.2 low), if_pos high, show (128 + v) % 8 = v by omega]

theorem gate_resumes {c : Chip} {rq : Rq} {arg : Bytes} {v : Nat} (is : leNat arg = v) (hv : v < 8) :
    actClusterGate c rq arg = clusterResume c v := by
  have low : bits v 6 3 = 0 := by unfold bits; omega
  have high : bit v 7 = false := by
    rw [bit, Nat.testBit_eq_decide_div_mod_eq]
    simp
    omega
  unfold actClusterGate
  dsimp only
  rw [is, if_neg (not_not.2 low), if_neg (ne_true_of_eq_false high), show v % 8 = v by omega]

theorem cipherEnds : Claim.CipherEnds := by
  intro s id st n v r rq arg
  dsimp only
  refine ⟨fun listed done good silent => ?_, fun ok is hv => ⟨fun on free => ?_, fun on leased => ?_, fun retired => ?_⟩,
    fun ok is hv => ⟨fun off => ?_, fun on => ?_, fun retired => ?_⟩⟩
  · subst good
    obtain ⟨b, acts, ciphers, queue, one, two⟩ := cipherComplete_acts listed done silent
    obtain ⟨engines, disp, objects⟩ := showLeases_keeps b
    have shown : portQ (showLeases b) r.queue = portQ b r.queue := rfl
    refine ⟨_, congrArg (becomes s) acts, ?_, ?_, ?_, ?_, ?_⟩
    · unfold cipherRun
      rw [engines, ciphers, List.find?_filter, List.find?_eq_none]
      intro x _
      simp
    · rw [shown, queue]
    · rw [shown, queue]
    · rw [objects.num 0x31050 1 (by decide) (by decide), one]
    · rw [objects.num 0x31050 2 (by decide) (by decide), two]
  · have acts : actClusterGate s.chip rq arg = acted (haltCluster s.chip v) := by
      rw [gate_halts is hv, clusterHalt, if_neg (by omega), if_neg (by omega), if_neg (by omega),
        if_neg (ne_true_of_eq_false free)]
    exact ⟨_, actionRow_acks _ s rq _ arg _ ok acts, haltCluster_spec s.chip hv⟩
  · have acts : actClusterGate s.chip rq arg = (7, [], setClusterState (deferHalt s.chip 1 v (0xE000 + v)) v 1) := by
      rw [gate_halts is hv, clusterHalt, if_neg (by omega), if_neg (by omega), if_neg (by omega), if_pos leased]
    refine ⟨_, actionRow_refuses _ s rq _ arg [] _ 7 ok (by decide) (by decide) acts, odN_odSet_same _ _ _ _, rfl, ?_⟩
    rw [setClusterState, odN_odSet_ne _ _ _ _ _ _ (by omega) (by decide) (Or.inl (by decide)), deferHalt, raiseU,
      odN_raiseFull _ _ _ _ _ _ _ _ _ _ _ (by decide) (Or.inl (by decide)), odInc, odN_odSet_same]
    rfl
  · refine actionRow_refuses _ s rq _ arg [] _ 0x0B ok (by decide) (by decide) ?_
    rw [gate_halts is hv, clusterHalt, if_pos retired]
    rfl
  · have acts := gate_resumes (c := s.chip) (rq := rq) is hv
    rw [clusterResume, if_neg (by omega), if_neg (by omega)] at acts
    refine ⟨_, actionRow_acks _ s rq _ arg _ ok acts, odN_odSet_same _ _ _ _, ?_⟩
    exact Keeps.put (fun _ _ _ _ => rfl) 0x31040 (v + 1) _ (by omega) (List.mem_singleton.2 rfl)
  · refine actionRow_acks _ s rq _ arg _ ok ?_
    rw [gate_resumes is hv, clusterResume, if_neg (by omega), if_pos on]
    rfl
  · refine actionRow_refuses _ s rq _ arg [] _ 0x0B ok (by decide) (by decide) ?_
    rw [gate_resumes is hv, clusterResume, if_pos retired]
    rfl

/-- Settles O53: issue by the checks in their order, each mode by its row, the gate by the cluster's state. -/
theorem cipherRequests : Obligations.CipherRequests := ⟨cipherIssue_ends, cipherModes, cipherEnds⟩

end Sys2Proof.Machine
end

/-! ## Dispatch queues -/
section
namespace Sys2Proof.Machine

/-! ### Control entries -/

section
variable {c : Chip} {d : Nat} {e : DqEntry} (head : dqHead c d = some e)
include head

/-- The head of a queue, by its OP and its format. -/
theorem control_head (op : Nat) (k : DqEntry → Chip) : control c d op k =
    if fld e.b 0 1 ≠ op then c else if controlBad c d e.b then badControl c d e.b else k e := by
  unfold control
  rw [head]

theorem control_runs {op : Nat} (k : DqEntry → Chip) (own : fld e.b 0 1 = op) (fine : controlBad c d e.b = false) :
    control c d op k = k e := by
  rw [control_head head, if_neg (not_not.2 own), if_neg (ne_true_of_eq_false fine)]
end

/-- Every row of a control entry is that of its OP. -/
theorem controlRows_run (s : State) (d : Nat) :
    ∀ p ∈ ([(0xF0, .dqWait d), (0xF0, .dqWaitRelease d), (0xF1, .dqBarrier d), (0xF2, .dqAdd d)] : List (Nat × Instr)),
    ∃ k, exec p.2 s = becomes s (control s.chip d p.1 k) := by
  have wait : ∃ k, exec (.dqWait d) s = becomes s (control s.chip d 0xF0 k) := ⟨_, rfl⟩
  have release : ∃ k, exec (.dqWaitRelease d) s = becomes s (control s.chip d 0xF0 k) := ⟨_, rfl⟩
  have barrier : ∃ k, exec (.dqBarrier d) s = becomes s (control s.chip d 0xF1 k) := ⟨_, rfl⟩
  have add : ∃ k, exec (.dqAdd d) s = becomes s (control s.chip d 0xF2 k) := ⟨_, rfl⟩
  simp only [List.forall_mem_cons, List.not_mem_nil, false_imp_iff, implies_true, and_true]
  exact ⟨wait, release, barrier, add⟩

/-- A released WAIT that belongs to no firing leaves the queue, and the job behind it starts. -/
theorem dqWaitRelease_released {c : Chip} {d : Nat} {e : DqEntry} (head : dqHead c d = some e) (own : fld e.b 0 1 = 0xF0)
    (fine : controlBad c d e.b = false) (released : e.released = true) (plain : e.trig = none) :
    dqWaitRelease c d = dqIssue (dqRunning (dqPop c d) d) d := by
  unfold dqWaitRelease
  rw [control_runs head _ own fine, released, plain]
  rfl

theorem controlEntries : Claim.ControlEntries := by
  intro s d e head
  dsimp only
  have rows := controlRows_run s d
  have runs {op : Nat} (k : DqEntry → Chip) (own : fld e.b 0 1 = op) (fine : controlBad s.chip d e.b = false) :=
    control_runs head k own fine
  refine ⟨fun p hp other => ?_, fun bad p hp own => ?_, fun fine own held => ⟨fun met => ?_, fun unmet => ?_, ?_⟩,
    fun fine own released plain => congrArg (becomes s) (dqWaitRelease_released head own fine released plain),
    fun fine own => ⟨fun idle => ?_, fun busy => ?_⟩, fun fine own => ⟨fun idle => ?_, fun busy => ?_⟩⟩
  · obtain ⟨k, row⟩ := rows p hp
    rw [row, control_head head, if_pos other.symm]
  · obtain ⟨k, row⟩ := rows p hp
    rw [row, control_head head, if_neg (not_not.2 own.symm), if_pos bad]
  · exact congrArg (becomes s) ((runs _ own fine).trans ((if_neg (ne_true_of_eq_false held)).trans (if_pos met)))
  · exact congrArg (becomes s) ((runs _ own fine).trans ((if_neg (ne_true_of_eq_false held)).trans (if_neg (ne_true_of_eq_false unmet))))
  · exact congrArg (becomes s) ((runs _ own fine).trans (if_pos (by rw [held]; rfl)))
  · exact congrArg (becomes s) ((runs _ own fine).trans (if_pos (by rw [idle]; rfl)))
  · exact congrArg (becomes s) ((runs _ own fine).trans (if_neg (by simpa using busy)))
  · exact congrArg (becomes s) ((runs _ own fine).trans (if_pos (by rw [idle]; rfl)))
  · exact congrArg (becomes s) ((runs _ own fine).trans (if_neg (by simpa using busy)))

/-! ### Issue -/

theorem dqOf_setDq_same (c : Chip) (d : Nat) (q : Dq) : dqOf (setDq c d q) d = q := tget_tput_same _ _ _ _

/-- A started job runs, and its entry has left the queue. -/
theorem dqStart_queue (c : Chip) (d : Nat) (e : DqEntry) (done : Option DqDone) : dqOf (dqStart c d e done).2 d =
    { dqOf c d with entries := (dqOf c d).entries.drop 1, running := (dqOf c d).running ++ [⟨c.disp.nextJob, e.b, e.adm, 0xFF, done⟩] } := by
  have popped : dqOf (dqPop c d) d = { dqOf c d with entries := (dqOf c d).entries.drop 1 } := dqOf_setDq_same _ _ _
  refine (dqOf_setDq_same (dqPop c d) d _).trans ?_
  rw [popped]

theorem dqIssue_waits {c : Chip} {d : Nat} (no : mayIssue c d = false) : dqIssue c d = c := by
  unfold dqIssue
  split
  · rfl
  · rw [no]
    rfl

section
variable {c : Chip} {d : Nat} {e : DqEntry} (head : dqHead c d = some e) (may : mayIssue c d = true) (array : dqTarget c d = 0)
include head may array

theorem dqIssue_bad (bad : entryBad c d e.b = true) : dqIssue c d = (dqStart c d e (some ⟨1, 0, 0, 0⟩)).2 := by
  unfold dqIssue
  rw [head]
  dsimp only
  rw [may, if_neg (by decide), if_neg (by omega), if_pos bad]

theorem dqIssue_array (fine : entryBad c d e.b = false) (lit : dieLit c (dqDie d - 1) = true) (first : servingAhead c d = false) :
    dqIssue c d = (dqStart c d e none).2 := by
  unfold dqIssue
  rw [head]
  dsimp only
  rw [may, if_neg (by decide), if_neg (by omega), if_neg (ne_true_of_eq_false fine), if_pos array, lit, first]
  rfl
end

/-! ### The end of an array job

The statistics of a job lie below the records of the dispatch queues, also for a queue beyond those of the dies. -/

/-- Only statistics of the dies up to `die` have changed. -/
def StatsOnly (die : Nat) (c b : Chip) : Prop :=
  b.disp = c.disp ∧ ∀ o k, 0x50100 * 256 + 4 * die ≤ odKey o k → odGet b o k = odGet c o k

section
variable {die : Nat} {c b : Chip} (h : StatsOnly die c b)
include h

theorem StatsOnly.put {o k : Nat} (v : OdVal) (hk : odKey o k < 0x50100 * 256 + 4 * die) : StatsOnly die c (odPut b o k v) :=
  ⟨h.1, fun o' k' far => (odGet_odPut_other _ _ _ _ _ _ (by omega)).trans (h.2 o' k' far)⟩

theorem StatsOnly.inc {o k : Nat} (hk : odKey o k < 0x50100 * 256 + 4 * die) : StatsOnly die c (odInc b o k) := h.put _ hk

theorem StatsOnly.add {o k : Nat} (n : Nat) (hk : odKey o k < 0x50100 * 256 + 4 * die) : StatsOnly die c (odAdd64 b o k n) := h.put _ hk
end

theorem StatsOnly.refl (die : Nat) (c : Chip) : StatsOnly die c c := ⟨rfl, fun _ _ _ => rfl⟩

theorem StatsOnly.ite {die : Nat} {c x y : Chip} (p : Prop) [Decidable p] (hx : p → StatsOnly die c x) (hy : ¬ p → StatsOnly die c y) :
    StatsOnly die c (if p then x else y) := by
  split
  · next h => exact hx h
  · next h => exact hy h

theorem stats_freeUnit (c : Chip) (die u : Nat) (pos : 0 < die) : StatsOnly die c (freeUnit c die u) := by
  unfold freeUnit setArrayState
  refine .ite _ (fun small => ?_) (fun _ => .refl _ c)
  refine .ite _ (fun _ => ?_) (fun array => ?_)
  · exact (StatsOnly.refl die c).put _ (by unfold odKey; omega)
  · exact (StatsOnly.refl die c).put _ (by unfold odKey; omega)

theorem stats_arrayStats {c b : Chip} {die : Nat} (h : StatsOnly die c b) (pos : 0 < die) (j : DqJob) (r : DqDone) :
    StatsOnly die c (arrayStats b die j r) := by
  have status := StatsOnly.ite (r.status ≤ 10) (x := odInc b 0x50010 (r.status + 1)) (fun le => h.inc (by unfold odKey; omega)) (fun _ => h)
  have flag {x : Chip} (hx : StatsOnly die c x) (i : Nat) (hi : i ≤ 3) : StatsOnly die c (if bit r.flags i then odInc x 0x50011 i else x) :=
    .ite _ (fun _ => hx.inc (by unfold odKey; omega)) (fun _ => hx)
  have flags := flag (flag (flag status 1 (by decide)) 2 (by decide)) 3 (by decide)
  have unit {x : Chip} (hx : StatsOnly die c x) : StatsOnly die c (if j.unit < 4 then
      odAdd64 (odAdd64 x 0x50003 (4 * (die - 1) + j.unit + 1) 1) 0x50004 (4 * (die - 1) + j.unit + 1) r.work
      else if j.unit = 4 then odAdd64 x 0x50006 die 1 else x) :=
    .ite _ (fun array => (hx.add _ (by unfold odKey; omega)).add _ (by unfold odKey; omega))
      (fun _ => .ite _ (fun _ => hx.add _ (by unfold odKey; omega)) (fun _ => hx))
  have units := unit flags
  unfold arrayStats
  refine .ite _ (fun small => ?_) (fun _ => units)
  have work : StatsOnly die c _ := .ite ((jOp j.b == 1) = true) (fun _ => (units.add (o := 0x50080 + jPlat j.b) (k := 1) 1
    (by unfold odKey; omega)).add (o := 0x50080 + jPlat j.b) (k := 2) r.work (by unfold odKey; omega))
    (fun _ => units.add (o := 0x50080 + jPlat j.b) (k := 3) 1 (by unfold odKey; omega))
  exact .ite _ (fun _ => work.add _ (by unfold odKey; omega)) (fun _ => work)

theorem StatsOnly.rec_ {c b : Chip} {d : Nat} (h : StatsOnly (dqDie d) c b) : dqRec b d = dqRec c d :=
  congrArg OdVal.blob (h.2 _ _ (by unfold odKey dqDie; split <;> omega))

/-- A port-fed queue's job that ends leaves the queue, and its completion takes the lowest free slot. -/
theorem dqFinish_port {c : Chip} {d : Nat} (j : DqJob) (r : DqDone) (unit steps energy : Nat) (port : dqMode c d = 1)
    (array : dqTarget c d = 0) (silent : jSignal j.b = 0xFFFF) : dqOf (dqFinish c d j r unit steps energy) d =
      { dqOf c d with
        running := (dqOf c d).running.filter (fun x => x.id != j.id)
        ready := (dqOf c d).ready ++ [freeSlot (dqOf c d).ready (dqOf c d).popped]
        popped := if (dqOf c d).popped = some (freeSlot (dqOf c d).ready (dqOf c d).popped) then none else (dqOf c d).popped } := by
  have dropped : dqOf (dropRun c d j.id) d = { dqOf c d with running := (dqOf c d).running.filter (fun x => x.id != j.id) } :=
    dqOf_setDq_same _ _ _
  have leases := (showLeases_keeps (setDq c d { dqOf c d with running := (dqOf c d).running.filter (fun x => x.id != j.id) })).2.2
  have rec_ : dqRec (dropRun c d j.id) d = dqRec c d := leases.blob _ _ (by omega) (by simp; omega)
  have mode : dqMode (dropRun c d j.id) d = 1 := (congrArg (fld · 0 1) rec_).trans port
  let y := dqPortComplete (dropRun c d j.id) d r.flags r.status unit j.b r.bytes steps energy
  have complete : dqComplete (dropRun c d j.id) d r.flags r.status unit j.b r.bytes steps energy = y := if_pos mode
  have quiet : dqSignal y d j.b = y := by
    have target : dqTarget y d = 0 := (congrArg (fld · 1 1) rec_).trans array
    unfold dqSignal
    split
    · rfl
    · rw [dqWaybill, target, if_neg (by simp), show fld j.b 8 2 = 0xFFFF from silent]
      exact if_pos rfl
  have queue : dqOf y d = { dqOf (dropRun c d j.id) d with
      ready := (dqOf (dropRun c d j.id) d).ready ++ [freeSlot (dqOf (dropRun c d j.id) d).ready (dqOf (dropRun c d j.id) d).popped]
      popped := if (dqOf (dropRun c d j.id) d).popped = some (freeSlot (dqOf (dropRun c d j.id) d).ready (dqOf (dropRun c d j.id) d).popped)
        then none else (dqOf (dropRun c d j.id) d).popped } := dqOf_setDq_same _ _ _
  have ends : dqOf (dqFinish c d j r unit steps energy) d = dqOf y d := by
    unfold dqFinish
    dsimp only
    rw [complete, quiet, dropAdm]
    split <;> rfl
  rw [ends, queue, dropped]

section
variable {c : Chip} {d id : Nat} {j : DqJob} {r : DqDone} (listed : dqJob c d id = some j) (done : j.done = some r)
  (array : dqDie d ≠ 0) (steps energy : Nat)
include listed done array

theorem jobComplete_good : jobComplete c d id false steps energy =
    dqFinish (arrayStats (freeUnit c (dqDie d) j.unit) (dqDie d) j r) d j r j.unit steps energy := by
  unfold jobComplete
  rw [listed]
  dsimp only
  rw [done]
  exact if_neg array

theorem jobComplete_mismatch (unit : j.unit ≤ 4) : jobComplete c d id true steps energy =
    dqFinish (arrayStats (freeUnit (recordError (raiseU c evArrayCheck (jobUnit (dqDie d) j.unit)
      (if j.unit = 4 then 15 + dqDie d else 4 * (dqDie d - 1) + j.unit)) 3 3 (jobUnit (dqDie d) j.unit) 0 (platBit (jPlat j.b)) 0)
      (dqDie d) j.unit) (dqDie d) j { r with status := 4 }) d j { r with status := 4 } j.unit steps energy := by
  unfold jobComplete
  rw [listed]
  dsimp only
  rw [done]
  dsimp only
  rw [if_neg array, show (true && decide (j.unit ≤ 4)) = true by simpa using unit]
  rfl
end

theorem dqJob_id {c : Chip} {d id : Nat} {j : DqJob} (h : dqJob c d id = some j) : j.id = id := by
  have := List.find?_some h
  simpa using this

/-! ### Rings and triggers -/

theorem dqFetch_done {c : Chip} {d : Nat} (k : Nat) (done : (dqOf c d).cons = (dqOf c d).prod) : dqFetch c d k = c := by
  cases k with
  | zero => rfl
  | succ k =>
    unfold dqFetch
    exact if_pos done

theorem dqProducer_empty {c : Chip} {d idx : Nat} (same : idx = (dqOf c d).cons) :
    dqProducer c d idx = setDq c d { dqOf c d with prod := idx } := by
  have none_ : idxSub idx (dqOf c d).cons = 0 := by unfold idxSub; omega
  unfold dqProducer
  dsimp only
  rw [none_, if_neg (Nat.not_lt_zero _)]
  exact dqFetch_done _ (by rw [dqOf_setDq_same]; exact same.symm)

theorem dbDispatch_rings {s : State} {fn o d idx : Nat} (rings : Rings s fn o) (hd : d < 192) (hi : idx < 65536)
    (ring : dqMode s.chip d = 2) (own : dqOwner s.chip d = o) :
    exec (.dbDispatch fn 8 (d * 2 ^ 32 + idx)) s = becomes s (dqProducer s.chip d idx) := by
  have number : bits (d * 2 ^ 32 + idx) 47 32 = d := bits_high 47 (by omega) (by omega)
  have index : (d * 2 ^ 32 + idx) % 65536 = idx := by omega
  refine congrArg (becomes s) ((engineDoorbell_rings rings (queue_mask (by omega) hi) _).trans ?_)
  dsimp only
  rw [number, index, if_pos ⟨hd, ring, own⟩]

theorem odFld_odIncFld (c : Chip) (o k off n : Nat) :
    odFld (odIncFld c o k off n) o k off n = (odFld c o k off n + 1) % 256 ^ n := by
  have stored : odB (odIncFld c o k off n) o k = setFld (odB c o k) off n ((odFld c o k off n + 1) % 256 ^ n) := odB_odSetB_same _ _ _ _
  rw [odFld, stored, fld_setFld]
  exact Nat.mod_mod _ _

section
variable {c : Chip} {t : Nat} {x : Xfer} (small : t < 256) (enabled : bit (fld (trigRec c t) 0 1) 0 = true)
  (up : sequencerUp c (t / 64) = true) (now : fld (trigRec c t) 1 1 = 0) (met : trigMet c t (trigRec c t) = true)
  (room : dqOutstanding c (trigDq t (trigRec c t)) + fld (trigRec c t) 40 2 ≤ 64)
  (read : x = xferRead c (if fld (trigRec c t) 2 1 < 64 then .plat (fld (trigRec c t) 2 1) else .opn) (fld (trigRec c t) 32 8)
    (64 * fld (trigRec c t) 40 2) 0 (t / 64 + 1) uDispatch Bound.free)
include small enabled up now met room read

/-- A firing whose condition holds pushes the chain of its trigger, or a fault disables it. -/
theorem triggerFiring_fires : triggerFiring c t =
    if x.st ≠ 0 then raiseP (trigDisable x.s t) evTriggerFault (fld (trigRec c t) 2 1) (256 * (t / 64) + t % 64)
    else
      let s := pushEntries x.s (trigDq t (trigRec c t)) ((chain (trigRec c t) (fld (trigRec c t) 48 8 + tget 0 c.disp.queued t) x.bytes).map
        (fun b => ⟨b, 0, false, none⟩))
      let s := { s with disp := { s.disp with pushed := tset 0 s.disp.pushed t (tget 0 s.disp.pushed t - 1) } }
      odIncFld s (0x51500 + t / 16) (t % 16 + 1) 48 8 := by
  subst read
  unfold triggerFiring
  dsimp only
  rw [if_neg, now, if_pos rfl, if_pos rfl, if_pos met]
  · rw [enabled, up, now]
    simp only [Bool.not_true, Bool.false_eq_true, false_or, Bool.not_eq_true', decide_eq_false_iff_not, not_or, not_not,
      lt_irrefl, decide_false]
    exact ⟨by omega, room⟩
end

theorem dispatch : Claim.Dispatch := by
  intro s d id t steps energy idx fn o r e j z rq arg x
  dsimp only
  refine ⟨fun no => congrArg (becomes s) (dqIssue_waits no),
    fun head may array => ⟨fun bad => ?_, fun fine lit first => ?_⟩,
    fun listed done array => ⟨congrArg (becomes s) (jobComplete_good listed done array steps energy), fun port silent target => ?_,
      fun unit => ⟨_, rfl, congrArg (becomes s) (jobComplete_mismatch listed done array steps energy unit)⟩⟩,
    fun ok named => ⟨fun hd on => ?_, fun hd off => ?_, fun hd => ?_⟩,
    fun rings hd hi ring own => ⟨fun empty => ?_, fun beyond => ?_⟩,
    fun small enabled up now met room read => ⟨fun good same alive => ?_, fun bad => ?_⟩,
    fun hr enabled out some_ fits up => ?_⟩
  · exact ⟨_, congrArg (becomes s) (dqIssue_bad head may array bad), dqStart_queue _ _ _ _⟩
  · exact ⟨_, congrArg (becomes s) (dqIssue_array head may array fine lit first), dqStart_queue _ _ _ _⟩
  · have stats := stats_arrayStats (stats_freeUnit s.chip (dqDie d) j.unit (Nat.pos_of_ne_zero array)) (Nat.pos_of_ne_zero array) j z
    have queue : dqOf (arrayStats (freeUnit s.chip (dqDie d) j.unit) (dqDie d) j z) d = dqOf s.chip d :=
      congrArg (fun x : Disp => tget Dq.empty x.dqs d) stats.1
    have ends := dqFinish_port j z j.unit steps energy ((congrArg (fld · 0 1) stats.rec_).trans port)
      ((congrArg (fld · 1 1) stats.rec_).trans target) silent
    rw [queue] at ends
    refine ⟨_, congrArg (becomes s) (jobComplete_good listed done array steps energy), ?_, ?_⟩
    · unfold dqJob
      rw [ends, ← dqJob_id listed, List.find?_filter, List.find?_eq_none]
      intro y _
      simp
    · rw [ends]
  · subst named
    exact ⟨_, actionRow_acks _ s rq _ arg _ ok ((if_neg (by omega)).trans (if_neg on)), odN_odSet_same _ _ _ _, rfl⟩
  · subst named
    exact actionRow_acks _ s rq _ arg _ ok ((if_neg (by omega)).trans (if_pos off))
  · subst named
    exact actionRow_refuses _ s rq _ arg [] _ 5 ok (by decide) (by decide) (if_pos hd)
  · rw [dbDispatch_rings rings hd hi ring own, dqProducer_empty empty]
  · rw [dbDispatch_rings rings hd hi ring own, dqProducer, if_pos beyond]
  · have acts := triggerFiring_fires small enabled up now met room read
    rw [if_neg (not_not.2 good), pushEntries, if_neg alive] at acts
    refine ⟨_, congrArg (becomes s) acts, ?_, ?_⟩
    · have queue : dqOf x.s (trigDq t (trigRec s.chip t)) = dqOf s.chip (trigDq t (trigRec s.chip t)) :=
        congrArg (fun y : Disp => tget Dq.empty y.dqs (trigDq t (trigRec s.chip t))) same
      rw [← queue]
      exact congrArg Dq.entries (dqOf_setDq_same x.s (trigDq t (trigRec s.chip t)) _)
    · exact odFld_odIncFld _ (0x51500 + t / 16) (t % 16 + 1) 48 8
  · have acts := triggerFiring_fires small enabled up now met room read
    rw [if_pos bad] at acts
    exact congrArg (becomes s) acts
  · have whole : min (couple s.chip r 8 8) 0xFFFFFFFF = couple s.chip r 8 8 := Nat.min_eq_left (by omega)
    have acts : pendingFlush s.chip r = odSetFld (sendAdd s.chip (couple s.chip r 3 1) 0xFF (couple s.chip r 4 2) (couple s.chip r 8 8))
        (0x51300 + r / 16) (r % 16 + 1) 8 8 0 := by
      unfold pendingFlush
      dsimp only
      rw [whole, if_neg, Nat.sub_self]
      rw [enabled, out, up]
      simp
      omega
    exact congrArg (becomes s) acts

/-- Settles O55: control entries by their OP, jobs by what they have ended as, triggers by their condition. -/
theorem dispatchQueues : Obligations.DispatchQueues := ⟨controlEntries, dispatch⟩

end Sys2Proof.Machine
end

/-! ## Frame decode -/
section
namespace Sys2Proof.Machine

section
variable {c : Chip} {d id : Nat} {j : DqJob} {r : DecRun} (job : dqJob c d id = some j) (run : decRun c d id = some r)
  (running : j.done = none)
include job run running

theorem decodeRead_first (unread : r.read = false) {x : Xfer}
    (hx : x = xferRead c (decodeAgent c d j.b) (dSrc j.b).1 (dSrc j.b).2 0 0 (decodeUnit r.engine) ⟨0, 2 ^ 64, .tiers⟩) :
    decodeRead c d id = setDecRun x.s { r with stream := x.bytes, read := true, fail := xferStatus x.st } := by
  have again : ¬ (r.read = true ∨ j.done.isSome = true) := by simp [unread, running]
  unfold decodeRead
  rw [job, run, hx]
  exact if_neg again

omit running in
theorem decodeRead_again (read : r.read = true) : decodeRead c d id = c := by
  unfold decodeRead
  rw [job, run]
  exact if_pos (.inl read)

section
variable (n w h : Nat) (key grain ten : Bool) (m r0 : Nat)

omit running in
theorem frameDone_skips (skip : r.read = false ∨ selects j.b n key = false ∨ dMax j.b ≤ r.recs) :
    frameDone c d id n w h key grain ten 0 m r0 = c := by
  have out : ((!r.read) = true ∨ j.done.isSome = true ∨ (!selects j.b n key) = true ∨ dMax j.b ≤ r.recs
      ∨ r.lastFrame.any (fun m => decide (n ≤ m)) = true) := by
    rcases skip with no | no | no <;> simp [no]
  unfold frameDone
  rw [job, run]
  exact if_pos out

variable (read : r.read = true) (wanted : selects j.b n key = true) (room : r.recs < dMax j.b) (first : r.lastFrame = none)
include read wanted room first

/-- A frame that the engine takes (R512): what `frameDone` does once its guards are passed. -/
theorem frameDone_taken : frameDone c d id n w h key grain ten 0 m r0 =
    (let crop := cropOf r.profile w h
     let reason := if 0 = 0 ∧ (crop.2.2.1 = 0 ∨ crop.2.2.2 = 0) then 4 else 0
     let x := if reason = 0 then decodeWrite c d j.b r.engine (dDst j.b + r.recs * dStride j.b)
         (tensor j.b r.profile r.stream n (colourOf c r.profile m r0) crop) else ⟨0, [], 0, c⟩
     if x.st ≠ 0 then setDecRun x.s { r with read := false, fail := xferStatus x.st }
     else
       let y := decodeWrite x.s d j.b r.engine (dMeta j.b + 16 + 16 * r.recs)
         (frameRecord n reason (b2n key + 2 * b2n grain + 4 * b2n ten) w h)
       if y.st ≠ 0 then setDecRun y.s { r with read := false, fail := xferStatus y.st }
       else
         let s := setDecRun y.s { r with
           recs := r.recs + 1, written := r.written + b2n (reason == 0), lastFrame := some n, skips := addSkip r.skips reason 1 }
         addSignal s (dqSigAgent s d j.b) (fld j.b 10 2)) := by
  have taken : ¬ ((!r.read) = true ∨ j.done.isSome = true ∨ (!selects j.b n key) = true ∨ dMax j.b ≤ r.recs
      ∨ r.lastFrame.any (fun m => decide (n ≤ m)) = true) := by
    simp [read, running, wanted, first, room]
  unfold frameDone
  rw [job, run]
  exact if_neg taken

section
variable (wide : 0 < (cropOf r.profile w h).2.2.1) (tall : 0 < (cropOf r.profile w h).2.2.2) {x : Xfer}
  (hx : x = decodeWrite c d j.b r.engine (dDst j.b + r.recs * dStride j.b)
    (tensor j.b r.profile r.stream n (colourOf c r.profile m r0) (cropOf r.profile w h)))
include wide tall hx

theorem frameDone_refused (fault : x.st = 1) : frameDone c d id n w h key grain ten 0 m r0
    = setDecRun x.s { r with read := false, fail := 2 } := by
  have full : ¬ (0 = 0 ∧ ((cropOf r.profile w h).2.2.1 = 0 ∨ (cropOf r.profile w h).2.2.2 = 0)) := by omega
  have failed : x.st ≠ 0 := by omega
  rw [frameDone_taken job run running n w h key grain ten m r0 read wanted room first]
  dsimp only
  rw [if_neg full, if_pos rfl, ← hx, if_pos failed, fault]
  rfl

theorem frameDone_tensor (placed : x.st = 0) {y : Xfer}
    (hy : y = decodeWrite x.s d j.b r.engine (dMeta j.b + 16 + 16 * r.recs)
      (frameRecord n 0 (b2n key + 2 * b2n grain + 4 * b2n ten) w h)) (recorded : y.st = 0) :
    frameDone c d id n w h key grain ten 0 m r0 = addSignal (setDecRun y.s { r with
      recs := r.recs + 1, written := r.written + 1, lastFrame := some n, skips := addSkip r.skips 0 1 })
      (dqSigAgent y.s d j.b) (fld j.b 10 2) := by
  have full : ¬ (0 = 0 ∧ ((cropOf r.profile w h).2.2.1 = 0 ∨ (cropOf r.profile w h).2.2.2 = 0)) := by omega
  rw [frameDone_taken job run running n w h key grain ten m r0 read wanted room first]
  dsimp only
  rw [if_neg full, if_pos rfl, ← hx, if_neg (not_not.2 placed), ← hy, if_neg (not_not.2 recorded)]
  rfl

end

theorem frameDone_empty (empty : (cropOf r.profile w h).2.2.1 = 0) {y : Xfer}
    (hy : y = decodeWrite c d j.b r.engine (dMeta j.b + 16 + 16 * r.recs)
      (frameRecord n 4 (b2n key + 2 * b2n grain + 4 * b2n ten) w h)) (recorded : y.st = 0) :
    frameDone c d id n w h key grain ten 0 m r0 = addSignal (setDecRun y.s { r with
      recs := r.recs + 1, written := r.written, lastFrame := some n, skips := addSkip r.skips 4 1 })
      (dqSigAgent y.s d j.b) (fld j.b 10 2) := by
  have none_ : 0 = 0 ∧ ((cropOf r.profile w h).2.2.1 = 0 ∨ (cropOf r.profile w h).2.2.2 = 0) := ⟨rfl, .inl empty⟩
  rw [frameDone_taken job run running n w h key grain ten m r0 read wanted room first]
  dsimp only
  rw [if_pos none_, if_neg (show ¬ (4 = 0) by decide), if_neg (not_not.2 rfl), ← hy, if_neg (not_not.2 recorded)]
  rfl

end

theorem decodeComplete_ends (read : r.read = true) (recon steps energy : Nat) : decodeComplete c d id recon [] false steps energy
    = dqFinish (decodeEnd c d j r recon [] false).2 d j (decodeEnd c d j r recon [] false).1 r.engine steps energy := by
  have begun : ¬ ((!r.read) = true ∧ r.fail = 0) := by simp [read]
  unfold decodeComplete
  rw [job]
  dsimp only
  rw [running, run]
  exact if_neg begun

theorem decodeComplete_early (unread : r.read = false) (fine : r.fail = 0) (recon steps energy : Nat) :
    decodeComplete c d id recon [] false steps energy = c := by
  have early : (!r.read) = true ∧ r.fail = 0 := ⟨by simp [unread], fine⟩
  unfold decodeComplete
  rw [job]
  dsimp only
  rw [running, run]
  exact if_pos early

end

/-- The run is gone at the end of its job, so its engine serves no other frame. -/
theorem decodeEnd_run (c : Chip) (d : Nat) (j : DqJob) (r : DecRun) (recon : Nat) :
    decRun (decodeEnd c d j r recon [] false).2 d j.id = none := by
  refine List.find?_eq_none.2 fun y listed same => ?_
  have kept := (List.mem_filter.1 listed).2
  rw [same] at kept
  cases kept

/-- The status of a run without a fault, whose header is written (Table 20-7). -/
theorem decodeEnd_status {c : Chip} {d : Nat} {j : DqJob} {r : DecRun} {recon : Nat} (fine : r.fail = 0) {y : Xfer}
    (hy : y = decodeWrite c d j.b r.engine (dMeta j.b)
      (decodeHeader r recon ((List.range 5).map (fun i => nth r.skips (i + 1))))) (written : y.st = 0) :
    (decodeEnd c d j r recon [] false).1.status = if r.written = 0 then 0x12 else if r.written < r.recs then 0x11 else 0 := by
  subst hy
  exact (if_neg (not_not.2 fine)).trans (if_neg (not_not.2 written))

/-- Settles O56: each command is followed through its guards, in the order of the model's checks. -/
theorem frameDecodeTensors : Obligations.FrameDecodeTensors := by
  unfold Obligations.FrameDecodeTensors
  intro s d id n w h m r0 recon steps energy key grain ten j r x y c job run running crop slot place row flags
  refine ⟨fun unread hx => congrArg (becomes s) (decodeRead_first job run running unread hx),
    fun read => congrArg (becomes s) (decodeRead_again job run read),
    fun skip => congrArg (becomes s) (frameDone_skips job run n w h key grain ten m r0 skip),
    fun read wanted room first => ⟨fun wide tall hx => ⟨fun placed hy recorded => ?_, fun fault => ?_⟩, fun empty hy recorded => ?_⟩,
    fun read => ⟨_, _, rfl, congrArg (becomes s) (decodeComplete_ends job run running read recon steps energy), ?_, rfl,
      fun fine hy written => decodeEnd_status fine hy written⟩,
    fun unread fine => congrArg (becomes s) (decodeComplete_early job run running unread fine recon steps energy)⟩
  · exact congrArg (becomes s) (frameDone_tensor job run running n w h key grain ten m r0 read wanted room first wide tall hx placed
      hy recorded)
  · exact congrArg (becomes s) (frameDone_refused job run running n w h key grain ten m r0 read wanted room first wide tall hx fault)
  · exact congrArg (becomes s) (frameDone_empty job run running n w h key grain ten m r0 read wanted room first empty hy recorded)
  · exact dqJob_id job ▸ decodeEnd_run s.chip d j r recon

end Sys2Proof.Machine
end

/-! ## Serving -/
section
namespace Sys2Proof.Machine

/-! ### Doorbells -/

theorem token_mask {u v : Nat} (hu : u < 2 ^ 32) (hv : v < 2 ^ 18) :
    (u * 2 ^ 32 + v) &&& (2 ^ 64 - 1 - 0x3FFF * 2 ^ 18) = u * 2 ^ 32 + v := by
  rw [show (2 ^ 64 - 1 - 0x3FFF * 2 ^ 18 : Nat) = 0xFFFFFFFF * 2 ^ 32 + 0x3FFFF by norm_num,
    and_fields 32 u v 0xFFFFFFFF 0x3FFFF (by omega) (by decide), show u &&& 0xFFFFFFFF = u from and_ones (k := 32) hu,
    show v &&& 0x3FFFF = v from and_ones (k := 18) hv]

/-- A token doorbell with no reserved bit acts for the platform of its function, on the row of its KIND (R522, R523). -/
theorem tokenDoorbell_rings {s : State} {fn p u v kind : Nat} (rings : Rings s fn p) (hp : p < 64) (hu : u < 2 ^ 32)
    (hv : v < 2 ^ 18) (its : u / 2 ^ 30 = kind) (known : kind ≠ 3) (handle : Bool) (k : Chip → Nat → Chip) :
    tokenDoorbell s.chip fn 8 (u * 2 ^ 32 + v) kind handle k =
      if (handle && !ownHandle s.chip p (u % 65536)) = true then dbDiscard s.chip fn else k s.chip p := by
  have row : (u * 2 ^ 32 + v) / 2 ^ 62 % 4 = kind := by omega
  have named : bits (u * 2 ^ 32 + v) 47 32 = u % 65536 := by
    rw [bits, Nat.shiftRight_eq_div_pow]
    show (u * 2 ^ 32 + v) / 2 ^ 32 % 65536 = u % 65536
    omega
  unfold tokenDoorbell
  rw [row, if_neg (fun other => other.2.1 rfl), engineDoorbell_rings rings (token_mask hu hv), named]
  by_cases foreign : (handle && !ownHandle s.chip p (u % 65536)) = true
  · rw [if_pos foreign, if_pos (.inr (.inr foreign))]
  · have its_own : ¬ (64 ≤ p ∨ kind = 3 ∨ (handle && !ownHandle s.chip p (u % 65536)) = true) := by
      rintro (big | other | other)
      · omega
      · exact known other
      · exact foreign other
    rw [if_neg foreign, if_neg its_own]

section
variable {s : State} {fn p : Nat} (rings : Rings s fn p) (hp : p < 64)
include rings hp

theorem dbTokenToken_rings {h st tok : Nat} (hh : h < 65536) (hst : st < 2 ^ 14) (htok : tok < 2 ^ 18) :
    exec (.dbTokenToken fn 8 (st * 2 ^ 48 + h * 2 ^ 32 + tok)) s = becomes s (if ownHandle s.chip p h = true then
      tokenTaken s.chip p (st * 2 ^ 48 + h * 2 ^ 32 + tok) else dbDiscard s.chip fn) := by
  have fields : st * 2 ^ 48 + h * 2 ^ 32 + tok = (st * 2 ^ 16 + h) * 2 ^ 32 + tok := by omega
  have handle : (st * 2 ^ 16 + h) % 65536 = h := by omega
  rw [fields]
  refine congrArg (becomes s) ((tokenDoorbell_rings rings hp (by omega) htok (kind := 0) (by omega) (by decide) true _).trans ?_)
  rw [handle]
  cases ownHandle s.chip p h <;> rfl

theorem dbTokenClose_rings {h : Nat} (hh : h < 65536) :
    exec (.dbTokenClose fn 8 (2 ^ 63 + h * 2 ^ 32)) s = becomes s (if ownHandle s.chip p h = true then
      closeTaken s.chip (2 ^ 63 + h * 2 ^ 32) else dbDiscard s.chip fn) := by
  have fields : 2 ^ 63 + h * 2 ^ 32 = (2 ^ 31 + h) * 2 ^ 32 + 0 := by omega
  have handle : (2 ^ 31 + h) % 65536 = h := by omega
  rw [fields]
  refine congrArg (becomes s) ((tokenDoorbell_rings rings hp (by omega) (by decide) (kind := 2) (by omega) (by decide) true _).trans ?_)
  rw [handle]
  cases ownHandle s.chip p h <;> rfl

theorem dbTokenSubmit_rings {n : Nat} (hn : n < 65536) :
    exec (.dbTokenSubmit fn 8 (2 ^ 62 + n)) s = becomes s (submitTaken s.chip fn p (2 ^ 62 + n)) := by
  rw [show 2 ^ 62 + n = 2 ^ 30 * 2 ^ 32 + n by omega]
  exact congrArg (becomes s) ((tokenDoorbell_rings rings hp (by decide) (by omega) (kind := 1) (by decide) (by decide) false _).trans
    (if_neg Bool.false_ne_true))

end

section
variable (c : Chip) (p : Nat) {h st tok : Nat} (hh : h < 65536) (hst : st < 2 ^ 14) (htok : tok < 2 ^ 18)
include hh hst htok

theorem tokenTaken_shows : tokenTaken c p (st * 2 ^ 48 + h * 2 ^ 32 + tok) =
    match reqOf c h with
    | none => odAdd64 c (0x53080 + p) 5 1
    | some r =>
      if r.phase = 0 ∧ st = r.step % 2 ^ 14 ∧ tok < mVocab (mdl c (qModel r)) then
        pauseRule (setReq c h { r with
          step := r.step + 1, tokens := [tok], phase := 1, readyAt := nowNs c, deadline := deadlineOf c r (r.step + 1)
          pass := 0, layer := 0, adm := 0, blocked := false, marked := false, asked := false, reason := 0, pauses := 0
          waited := 0, pausedAt := nowNs c })
      else odAdd64 c (0x53080 + p) 5 1 := by
  have handle : bits (st * 2 ^ 48 + h * 2 ^ 32 + tok) 47 32 = h := by
    rw [bits, Nat.shiftRight_eq_div_pow]
    show (st * 2 ^ 48 + h * 2 ^ 32 + tok) / 2 ^ 32 % 65536 = h
    omega
  have step : bits (st * 2 ^ 48 + h * 2 ^ 32 + tok) 61 48 = st := by
    rw [bits, Nat.shiftRight_eq_div_pow]
    show (st * 2 ^ 48 + h * 2 ^ 32 + tok) / 2 ^ 48 % 2 ^ 14 = st
    omega
  have token : (st * 2 ^ 48 + h * 2 ^ 32 + tok) % 2 ^ 18 = tok := by omega
  unfold tokenTaken
  rw [handle, step, token] <;> rfl

end

theorem submitTaken_shows (c : Chip) (fn p : Nat) {n : Nat} (hn : n < 65536) : submitTaken c fn p (2 ^ 62 + n) =
    if 2 ^ fld (servRec c p) 4 1 < idxSub n (tget (0, 0) c.serv.subs p).2 then dbDiscard c fn
    else { c with serv := { c.serv with subs := tput c.serv.subs p (n, (tget (0, 0) c.serv.subs p).2) } } := by
  have index : (2 ^ 62 + n) % 65536 = n := by omega
  have clean : bits (2 ^ 62 + n) 61 16 = 0 := by
    rw [bits, Nat.shiftRight_eq_div_pow]
    show (2 ^ 62 + n) / 2 ^ 16 % 2 ^ 46 = 0
    omega
  unfold submitTaken
  rw [index, clean]
  simp only [ne_eq, not_true_eq_false, or_false]

theorem close_handle {h : Nat} (hh : h < 65536) : bits (2 ^ 63 + h * 2 ^ 32) 47 32 = h := by
  rw [bits, Nat.shiftRight_eq_div_pow]
  show (2 ^ 63 + h * 2 ^ 32) / 2 ^ 32 % 65536 = h
  omega

theorem serveAll_whole {c : Chip} {r : ServReq} (whole : splitMode c (qModel r) = 0) (what slot : Nat) (toks : List Nat) :
    serveAll c what r slot toks = c := by
  have alone : splitMembers c (qModel r) = [] := if_pos whole
  unfold serveAll
  rw [alone]
  exact ite_self _

theorem closeNow_quiet {c : Chip} {r : ServReq} (h : Nat) (kept : r.reserved = true) (calm : r.pauses = 0)
    (whole : splitMode c (qModel r) = 0) : closeNow c h r = servComplete (dropReq c h) r 4 4 (admActual c r.adm) := by
  unfold closeNow
  rw [serveAll_whole whole, calm]
  exact if_pos (.inl kept)

section
variable {s : State} {fn p h : Nat} {r : ServReq} (rings : Rings s fn p) (hp : p < 64) (hh : h < 65536)
include rings hp hh

theorem token_foreign (foreign : ownHandle s.chip p h = false) :
    exec (.dbTokenToken fn 8 (h * 2 ^ 32)) s = becomes s (dbDiscard s.chip fn)
    ∧ exec (.dbTokenClose fn 8 (2 ^ 63 + h * 2 ^ 32)) s = becomes s (dbDiscard s.chip fn) := by
  have token := dbTokenToken_rings (st := 0) (tok := 0) rings hp hh (by decide) (by decide)
  have close := dbTokenClose_rings rings hp hh
  rw [if_neg (ne_true_of_eq_false foreign)] at token close
  rw [Nat.zero_mul, Nat.zero_add, Nat.add_zero] at token
  exact ⟨token, close⟩

section
variable {st tok : Nat} (hst : st < 2 ^ 14) (htok : tok < 2 ^ 18) (own : ownHandle s.chip p h = true)
include hst htok own

theorem token_ready (req : reqOf s.chip h = some r) (waits : r.phase = 0) (its : st = r.step % 2 ^ 14)
    (known : tok < mVocab (mdl s.chip (qModel r))) : exec (.dbTokenToken fn 8 (st * 2 ^ 48 + h * 2 ^ 32 + tok)) s
      = becomes s (pauseRule (setReq s.chip h { r with
          step := r.step + 1, tokens := [tok], phase := 1, readyAt := nowNs s.chip, deadline := deadlineOf s.chip r (r.step + 1)
          pass := 0, layer := 0, adm := 0, blocked := false, marked := false, asked := false, reason := 0, pauses := 0
          waited := 0, pausedAt := nowNs s.chip })) := by
  rw [dbTokenToken_rings rings hp hh hst htok, if_pos own, tokenTaken_shows _ _ hh hst htok, req]
  exact congrArg (becomes s) (if_pos ⟨waits, its, known⟩)

theorem token_wrong (req : reqOf s.chip h = some r)
    (wrong : r.phase ≠ 0 ∨ st ≠ r.step % 2 ^ 14 ∨ mVocab (mdl s.chip (qModel r)) ≤ tok) :
    exec (.dbTokenToken fn 8 (st * 2 ^ 48 + h * 2 ^ 32 + tok)) s = becomes s (odAdd64 s.chip (0x53080 + p) 5 1) := by
  rw [dbTokenToken_rings rings hp hh hst htok, if_pos own, tokenTaken_shows _ _ hh hst htok, req]
  exact congrArg (becomes s) (if_neg (by omega))

theorem token_unknown (gone : reqOf s.chip h = none) :
    exec (.dbTokenToken fn 8 (st * 2 ^ 48 + h * 2 ^ 32 + tok)) s = becomes s (odAdd64 s.chip (0x53080 + p) 5 1) := by
  rw [dbTokenToken_rings rings hp hh hst htok, if_pos own, tokenTaken_shows _ _ hh hst htok, gone]

end

section
variable (own : ownHandle s.chip p h = true)
include own

theorem close_acts : exec (.dbTokenClose fn 8 (2 ^ 63 + h * 2 ^ 32)) s = becomes s (match reqOf s.chip h with
    | none => s.chip
    | some r => if r.phase = 0 ∨ r.phase = 1 then closeNow s.chip h r else setReq s.chip h { r with closing := true }) := by
  rw [dbTokenClose_rings rings hp hh, if_pos own, closeTaken, close_handle hh] <;> rfl

theorem close_later (req : reqOf s.chip h = some r) (runs : r.phase = 2 ∨ r.phase = 3) :
    exec (.dbTokenClose fn 8 (2 ^ 63 + h * 2 ^ 32)) s = becomes s (setReq s.chip h { r with closing := true }) := by
  rw [close_acts rings hp hh own, req]
  exact congrArg (becomes s) (if_neg (by omega))

theorem close_waiting (req : reqOf s.chip h = some r) (waits : r.phase = 0) (kept : r.reserved = true) (calm : r.pauses = 0)
    (whole : splitMode s.chip (qModel r) = 0) : exec (.dbTokenClose fn 8 (2 ^ 63 + h * 2 ^ 32)) s
      = becomes s (servComplete (dropReq s.chip h) r 4 4 (admActual s.chip r.adm)) := by
  rw [close_acts rings hp hh own, req]
  exact congrArg (becomes s) ((if_pos (.inl waits)).trans (closeNow_quiet h kept calm whole))

end

end

theorem submit_acts {s : State} {fn p n : Nat} (rings : Rings s fn p) (hp : p < 64) (hn : n < 65536) :
    exec (.dbTokenSubmit fn 8 (2 ^ 62 + n)) s = becomes s (
      if 2 ^ fld (servRec s.chip p) 4 1 < idxSub n (tget (0, 0) s.chip.serv.subs p).2 then dbDiscard s.chip fn
      else { s.chip with serv := { s.chip.serv with subs := tput s.chip.serv.subs p (n, (tget (0, 0) s.chip.serv.subs p).2) } }) := by
  rw [dbTokenSubmit_rings rings hp hn, submitTaken_shows _ _ _ hn]

/-! ### OPEN -/

section
variable {c : Chip} {p : Nat} (hp : p < 64) (waiting : (tget (0, 0) c.serv.subs p).1 ≠ (tget (0, 0) c.serv.subs p).2)
  (on : platOn c p = true) (room : cqRoom c p ≠ 0) (admits : c.en.admissionStopped = false) {x : Xfer}
  (hx : x = xferRead c (.plat p) (fld (servRec c p) 8 8
    + 64 * ((tget (0, 0) c.serv.subs p).2 % 2 ^ fld (servRec c p) 4 1)) 64 0 0 uDispatch Bound.free)
  (fetched : x.st = 0)
include hp waiting on room admits hx fetched

/-- OPEN with an entry to take and a completion slot for it (R522). -/
theorem openReq_takes : openReq c p =
    (let b := slice x.bytes 0 64
     let q := reqBlank p b
     if openBad c p (tget (0, 0) c.serv.subs p).2 b = true then servComplete (takeSub x.s p) q 0 1 0
     else if (reqOf c (fld b 4 2)).isSome then servComplete (takeSub x.s p) q 0 2 0
     else match freeSlotOf c p false with
       | none => if canDemote c p then c else servComplete (raiseP (takeSub x.s p) evSlotExhausted p (fld b 4 2)) q 0 3 0
       | some i =>
         let y := zeroRange (takeSub x.s p) (slotAddr c p false i) (slotSize c p)
         let v := { q with slot := i, reserved := true, readyAt := nowNs y, deadline := deadlineOf y q 0, pausedAt := nowNs y }
         pauseRule (serveAll (setReq y (fld b 4 2) v) 3 v i [])) := by
  have goes : ¬ (64 ≤ p ∨ (tget (0, 0) c.serv.subs p).1 = (tget (0, 0) c.serv.subs p).2 ∨ (!platOn c p) = true ∨ cqRoom c p = 0
      ∨ c.en.admissionStopped = true) := by
    simp [hp, waiting, on, room, admits]
  have read : ∀ q : Prop, (x.st ≠ 0 ∨ q) = q := fun q => by simp [fetched]
  unfold openReq
  refine (if_neg goes).trans ?_
  dsimp only
  rw [← hx]
  simp only [read] <;> rfl

theorem openReq_invalid (bad : openBad c p (tget (0, 0) c.serv.subs p).2 (slice x.bytes 0 64) = true) :
    openReq c p = servComplete (takeSub x.s p) (reqBlank p (slice x.bytes 0 64)) 0 1 0 := by
  rw [openReq_takes hp waiting on room admits hx fetched]
  exact if_pos bad

section
variable (good : openBad c p (tget (0, 0) c.serv.subs p).2 (slice x.bytes 0 64) = false)
include good

theorem openReq_twice {r : ServReq} (known : reqOf c (fld (slice x.bytes 0 64) 4 2) = some r) :
    openReq c p = servComplete (takeSub x.s p) (reqBlank p (slice x.bytes 0 64)) 0 2 0 := by
  rw [openReq_takes hp waiting on room admits hx fetched]
  exact (if_neg (ne_true_of_eq_false good)).trans (if_pos (by rw [known]; rfl))

variable (new : reqOf c (fld (slice x.bytes 0 64) 4 2) = none)
include new

theorem openReq_exhausted (full : freeSlotOf c p false = none) (stays : canDemote c p = false) :
    openReq c p = servComplete (raiseP (takeSub x.s p) ⟨0x5301, 1⟩ p (fld (slice x.bytes 0 64) 4 2))
      (reqBlank p (slice x.bytes 0 64)) 0 3 0 := by
  rw [openReq_takes hp waiting on room admits hx fetched]
  dsimp only
  rw [if_neg (ne_true_of_eq_false good), new, if_neg (by decide), full]
  exact if_neg (ne_true_of_eq_false stays)

theorem openReq_opens {i : Nat} (free : freeSlotOf c p false = some i) {y : Chip}
    (hy : y = zeroRange (takeSub x.s p) (slotAddr c p false i) (slotSize c p)) {v : ServReq}
    (hv : v = { reqBlank p (slice x.bytes 0 64) with
      slot := i, reserved := true, readyAt := nowNs y, deadline := deadlineOf y (reqBlank p (slice x.bytes 0 64)) 0
      pausedAt := nowNs y }) :
    openReq c p = pauseRule (serveAll (setReq y (fld (slice x.bytes 0 64) 4 2) v) 3 v i []) := by
  rw [openReq_takes hp waiting on room admits hx fetched, hv, hy]
  dsimp only
  rw [if_neg (ne_true_of_eq_false good), new, if_neg (by decide), free]

end

end

/-! ### A step takes a place -/

/-- A step with its prompt read, `st` the status of reading it: it ends, runs, or asks for its energy. -/
def stepProceeds (c : Chip) (h : Nat) (r : ServReq) (st : Nat) : Chip :=
  if st ≠ 0 then stepFail c h r st
  else if r.adm ≠ 0 then stepRun c h r r.adm
  else match stepAdmit c r with
    | .tooLarge => stepFail c h r 9
    | .waits s => energyPause s h r
    | .admitted id s => stepRun s h r id

section
variable {c : Chip} {m : Nat} (hm : m < 64) (place : placeFree c m = true) (awake : power c ≤ 1)
  (admits : c.en.admissionStopped = false) (stays : c.cons.leaving = none)
include hm place awake admits stays

/-- A model with a free place asks its most urgent step (R527). -/
theorem stepStart_asks : stepStart c m = match urgent c m with
    | none => c
    | some (h, r) =>
      if r.far ∨ !platOn c r.plat ∨ (!r.reserved && cqRoom c r.plat == 0) then c
      else stepProceeds (readPrompt c r).2.2 h { r with tokens := (readPrompt c r).2.1, reserved := true } (readPrompt c r).1 := by
  have goes : ¬ (64 ≤ m ∨ (!placeFree c m) = true ∨ 1 < power c ∨ c.en.admissionStopped = true
      ∨ (c.cons.leaving.isSome && splitMode c m != 0) = true) := by
    simp [hm, place, awake, admits, stays]
  unfold stepStart
  exact if_neg goes

theorem stepStart_idle (idle : urgent c m = none) : stepStart c m = c := by
  rw [stepStart_asks hm place awake admits stays, idle]

section
variable {h : Nat} {r : ServReq} (first : urgent c m = some (h, r)) (near : r.far = false) (on : platOn c r.plat = true)
  (kept : r.reserved = true)
include first near on kept

theorem stepStart_prompt : stepStart c m =
    stepProceeds (readPrompt c r).2.2 h { r with tokens := (readPrompt c r).2.1, reserved := true } (readPrompt c r).1 := by
  have goes : ¬ (r.far = true ∨ (!platOn c r.plat) = true ∨ (!r.reserved && cqRoom c r.plat == 0) = true) := by
    simp [near, on, kept]
  rw [stepStart_asks hm place awake admits stays, first]
  exact if_neg goes

/-- A step behind the first has its token, so it runs, or asks for its energy. -/
theorem stepStart_step (behind : r.step ≠ 0) : stepStart c m = stepProceeds c h r 0 := by
  have tokens : readPrompt c r = (0, r.tokens, c) := if_pos (.inl behind)
  have same : { r with tokens := r.tokens, reserved := true } = r := by
    rw [← kept]
  rw [stepStart_prompt hm place awake admits stays first near on kept, tokens]
  exact congrArg (stepProceeds c h · 0) same

/-- A prompt with a token beyond the vocabulary ends the request as INVALID (R522). -/
theorem stepStart_vocabulary (begins : r.step = 0) (unread : r.tokens = []) {x : Xfer}
    (hx : x = xferRead c (.plat r.plat) (fld r.b 16 8) (4 * qPrompt r) 0 0 uDispatch Bound.free) (read : x.st = 0) {i : Nat}
    (hi : i < qPrompt r) (beyond : mVocab (mdl c (qModel r)) ≤ fld x.bytes (4 * i) 4) :
    stepStart c m = setReq x.s h { r with tokens := [], phase := 4, status := 1 } := by
  have wrong : ((List.range (qPrompt r)).map (fun i => fld x.bytes (4 * i) 4)).any
      (fun t => decide (mVocab (mdl c (qModel r)) ≤ t)) = true :=
    List.any_eq_true.2 ⟨_, List.mem_map.2 ⟨i, List.mem_range.2 hi, rfl⟩, decide_eq_true beyond⟩
  have prompt : readPrompt c r = (1, [], x.s) := by
    unfold readPrompt
    rw [if_neg (by simp [begins, unread]), ← hx]
    exact (if_neg (not_not.2 read)).trans (if_pos wrong)
  have same : { r with tokens := [], reserved := true } = { r with tokens := [] } := by
    rw [← kept]
  rw [stepStart_prompt hm place awake admits stays first near on kept, prompt]
  rw [show ({ r with tokens := [], reserved := true } : ServReq) = { r with tokens := [] } from same]
  rfl

end

end

theorem energyPause_first {r : ServReq} (fresh : r.reason = 0) (c : Chip) (h : Nat) : energyPause c h r =
    odAdd64 (odAdd64 (setReq c h { r with blocked := true, reason := 2, pauses := r.pauses + 1, pausedAt := nowNs c }) 0x53021 8 1)
      (0x53080 + r.plat) 4 1 := by
  unfold energyPause
  rw [fresh]
  rfl

/-! ### Layers -/

/-- The layer, or the first layer of the pass, behind the one that a running step has completed. -/
def nextPlace (z : Chip) (v : ServReq) : ServReq :=
  if mLayers (mdl z (qModel v)) ≤ v.layer + 1 then { v with layer := 0, pass := v.pass + 1 } else { v with layer := v.layer + 1 }

theorem nextPlace_shows (z : Chip) (v : ServReq) : nextPlace z v =
    { v with layer := if decide (mLayers (mdl z (qModel v)) ≤ v.layer + 1) = true then 0 else v.layer + 1
             pass := if decide (mLayers (mdl z (qModel v)) ≤ v.layer + 1) = true then v.pass + 1 else v.pass } := by
  unfold nextPlace
  by_cases last : mLayers (mdl z (qModel v)) ≤ v.layer + 1 <;> simp [last]

/-- What follows a layer of a step led here (R529, R530). -/
theorem layerDone_lead {v : ServReq} (led : v.lead = none) (z : Chip) (h : Nat) : layerDone z h v =
    if v.status ≠ 0 then setReq z h { v with phase := 4 }
    else if v.closing then closeNow z h v
    else if passesOf z v ≤ v.pass + 1 ∧ mLayers (mdl z (qModel v)) ≤ v.layer + 1 then setReq z h { v with phase := 3, marked := false }
    else if v.marked then (if v.away = [] then pausePoint z h (nextPlace z v) else z)
    else if mLayers (mdl z (qModel v)) ≤ v.layer + 1 then passStart (setReq z h (nextPlace z v)) h
    else layerStart (setReq z h (nextPlace z v)) h := by
  unfold layerDone
  dsimp only
  split
  case h_1 o member => exact absurd (led.symm.trans member) (by simp)
  case h_2 => simp only [nextPlace_shows, Bool.and_eq_true, decide_eq_true_eq, and_comm]

theorem pausePoint_next (z : Chip) (h : Nat) (v : ServReq) : pausePoint z h (nextPlace z v) = odAdd64 (odAdd64
    (setReq z h { nextPlace z v with
      phase := 1, marked := false, reason := 1, pauses := v.pauses + 1, readyAt := nowNs z, pausedAt := nowNs z }) 0x53021 2 1)
    (0x53080 + v.plat) 2 1 := by
  unfold nextPlace
  split <;> rfl

theorem layerBoundary_after {c : Chip} {h : Nat} {r : ServReq} (req : reqOf c h = some r) (runs : r.phase = 2) :
    layerBoundary c h =
      (let z := pushLayer (match layerDq c r with | some d => collectJobs c h d | none => c) h
       match reqOf z h with
       | none => z
       | some r => if r.jobs = [] ∧ r.todo = [] then leaveCheck (pauseRule (layerDone z h r)) else z) := by
  unfold layerBoundary
  rw [req]
  exact if_neg (not_not.2 runs)

section
variable {c z : Chip} {h : Nat} {r v : ServReq} (req : reqOf c h = some r) (runs : r.phase = 2)
  (hz : z = pushLayer (match layerDq c r with | some d => collectJobs c h d | none => c) h) (now : reqOf z h = some v)
include req runs hz now

theorem layerBoundary_shows : layerBoundary c h =
    if v.jobs = [] ∧ v.todo = [] then leaveCheck (pauseRule (layerDone z h v)) else z := by
  rw [layerBoundary_after req runs, ← hz]
  dsimp only
  rw [now]

theorem layerBoundary_done (idle : v.jobs = []) (all : v.todo = []) : layerBoundary c h
    = leaveCheck (pauseRule (layerDone z h v)) :=
  (layerBoundary_shows req runs hz now).trans (if_pos ⟨idle, all⟩)

theorem layerBoundary_runs (busy : v.jobs ≠ [] ∨ v.todo ≠ []) : layerBoundary c h = z :=
  (layerBoundary_shows req runs hz now).trans (if_neg (by tauto))

end

theorem layerOverrun_reports {c : Chip} {h : Nat} {r : ServReq} (req : reqOf c h = some r) (runs : r.phase = 2)
    (new : r.overrun = false) (late : r.since + layerNs c r r.layer < nowNs c) : layerOverrun c h
      = raiseP (odAdd64 (setReq c h { r with overrun := true }) 0x53021 7 1) ⟨0x5300, 1⟩ r.plat (qModel r + 256 * r.layer) := by
  unfold layerOverrun
  rw [req]
  exact if_neg (by simp [runs, new, late])

theorem layerOverrun_within {c : Chip} {h : Nat} {r : ServReq} (req : reqOf c h = some r)
    (within : nowNs c ≤ r.since + layerNs c r r.layer) : layerOverrun c h = c := by
  unfold layerOverrun
  rw [req]
  exact if_pos (.inr (.inr within))

/-! ### The pause rule -/

theorem odGet_odSet_apart (c : Chip) {o k o' k' : Nat} (n : Nat) (apart : odKey o' k' ≠ odKey o k) :
    odGet (odSet c o k n) o' k' = odGet c o' k' := odGet_odPut_other c o k o' k' _ apart

/-- A change of a request shows in OD 53.020 and OD 53.401 alone, which lie below group 54. -/
theorem odGet_setReq (c : Chip) (h : Nat) (r : ServReq) {o k : Nat} (above : 256 * 0x54000 ≤ odKey o k) :
    odGet (setReq c h r) o k = odGet c o k := by
  have low (n i : Nat) (hi : i < 65) (hn : n ≤ 0x53401) : odKey o k ≠ odKey n i := by
    unfold odKey at above ⊢
    omega
  unfold setReq showServing
  rw [foldl_keeps (fun b : Chip => odGet b o k) _ _ fun b m hm =>
    odGet_odSet_apart b _ (low 0x53401 (m + 1) (by have := List.mem_range.1 hm; omega) (Nat.le_refl _))]
  rw [odGet_odSet_apart _ _ (low 0x53020 3 (by decide) (by decide)), odGet_odSet_apart _ _ (low 0x53020 2 (by decide) (by decide)),
    odGet_odSet_apart _ _ (low 0x53020 1 (by decide) (by decide))]
  exact odGet_congr _ _ rfl _ _

theorem splitMode_setReq (c : Chip) (h : Nat) (r : ServReq) (m : Nat) : splitMode (setReq c h r) m = splitMode c m :=
  congrArg (fun v : OdVal => fld v.blob 0 1) (odGet_setReq c h r (by unfold odKey; omega))

theorem pauseModel_marks {c : Chip} {m h n : Nat} {r v : ServReq} (full : placeFree c m = false) (first : urgent c m = some (h, r))
    (due : r.deadline ≠ 0) (new : r.asked = false)
    (late : (r.deadline : Int) - nowNs c - estNs c r < us (odFld c 0x53010 (qClass r + 1) 8 4))
    (gives : victim c m (qClass r) = some (n, v)) (whole : splitMode c (qModel v) = 0) :
    pauseModel c m = setReq (setReq c n { v with marked := true }) h { r with asked := true } := by
  have goes : ¬ (r.deadline = 0 ∨ (us (odFld c 0x53010 (qClass r + 1) 8 4) : Int) ≤ (r.deadline : Int) - nowNs c - estNs c r
      ∨ r.asked = true) := by
    rw [new]
    simp only [Bool.false_eq_true, or_false, not_or, Int.not_le]
    exact ⟨due, late⟩
  unfold pauseModel
  rw [if_neg (ne_true_of_eq_false full), first]
  refine (if_neg goes).trans ?_
  rw [gives]
  exact serveAll_whole ((splitMode_setReq _ _ _ _).trans ((splitMode_setReq _ _ _ _).trans whole)) _ _ _

/-! ### The end of a step -/

theorem stepComplete_ended {c : Chip} {h : Nat} {r : ServReq} (req : reqOf c h = some r) (ended : r.phase = 4) (led : r.lead = none)
    (energy : Nat) : stepComplete c h energy = pauseRule (stepEnd c h r r.status energy) := by
  unfold stepComplete
  rw [req]
  dsimp only
  rw [if_neg (by omega), if_pos ended, led]
  rfl

section
variable {c : Chip} {h : Nat} {r : ServReq} (req : reqOf c h = some r) (output : r.phase = 3) {x : Xfer}
  (hx : x = xferRead c .opn (slotAddr c r.plat false r.slot + mKv (mdl c (qModel r)) + mAct (mdl c (qModel r)))
    (4 * mVocab (mdl c (qModel r))) 0 0 uDispatch Bound.free) (read : x.st = 0) {w : Xfer}
  (hw : w = xferWrite x.s (.plat r.plat) (fld r.b 24 8) (logitsOut r (mVocab (mdl c (qModel r))) x.bytes) 0 0 uDispatch Bound.free)
include req output hx read hw

/-- A step whose output row has been read ends with the status of the write of its logits (R533). -/
theorem stepComplete_output (energy : Nat) : stepComplete c h energy =
    leaveCheck (pauseRule (stepEnd w.s h r (if w.st = 0 then 0 else if w.st = 1 then 6 else 7) energy)) := by
  unfold stepComplete
  rw [req]
  dsimp only
  rw [if_neg (by omega), if_neg (by omega), if_neg (by omega), ← hx, if_neg (not_not.2 read), ← hw]

end

/-- A step in time, not the last, of a request that stays open and has not been paused: the plain end (R524). -/
theorem stepEnd_plain {r : ServReq} (free : r.deadline = 0) (stays : r.closing = false) (more : r.step + 1 < qMax r)
    (calm : r.pauses = 0) (c : Chip) (h energy : Nat) : stepEnd c h r 0 energy =
      servComplete (dropAdm (setReq (odAdd64 (odAdd64 c 0x53021 1 1) (0x53080 + r.plat) 1 1) h
        { r with phase := 0, adm := 0, reserved := false }) r.adm) r 0 0 energy := by
  have middle : decide (qMax r ≤ r.step + 1) = false := decide_eq_false (by omega)
  unfold stepEnd
  rw [free, stays, middle, calm]
  rfl

/-! ### The siding -/

theorem moveSlot_near (c : Chip) (h : Nat) (r : ServReq) (i : Nat) : moveSlot c h r false i =
    serveAll (setReq (odAdd64 (copySlot c (slotAddr c r.plat r.far r.slot) (slotAddr c r.plat false i) (slotSize c r.plat))
      0x53021 5 1) h { r with far := false, slot := i }) 5 r i [] := rfl

theorem slotDemote_moves {c : Chip} {p i h : Nat} {r : ServReq} (hp : p < 64) (needed : nearNeeded c p = true)
    (free : freeSlotOf c p true = some i)
    (first : leastBy (fun x => (8 - qClass x.2) * 2 ^ 70 + x.2.pausedAt)
      ((platReqs c p).filter (fun r => r.2.reason != 0 && r.2.phase == 1 && !r.2.far && r.2.lead.isNone)) = some (h, r)) :
    slotDemote c p = moveSlot c h r true i := by
  unfold slotDemote
  dsimp only
  rw [if_neg (by simp [hp, needed]), first, free]

theorem slotDemote_idle {c : Chip} {p : Nat} (calm : nearNeeded c p = false) : slotDemote c p = c :=
  if_pos (.inr (by simp [calm]))

theorem slotPromote_moves {c : Chip} {h i : Nat} {r : ServReq} (req : reqOf c h = some r) (far : r.far = true) (ready : r.phase = 1)
    (led : r.lead = none) (free : freeSlotOf c r.plat false = some i) : slotPromote c h = moveSlot c h r false i := by
  unfold slotPromote
  rw [req]
  dsimp only
  rw [if_neg (by simp [far, ready, led]), free]

/-! ### Members of a split model -/

/-- A step that takes a message and finds it alone in the receive buffer takes it. -/
theorem withMsg_only {c : Chip} {l : Nat} {msg : Bytes} (only : c.cons.inbox = [(l, msg)]) {type : Nat} (its : fld msg 0 1 = type)
    {q : Bytes → Bool} (fits : q msg = true) (k : Chip → Bytes → Chip) :
    withMsg c type q k = k (giveCredit { c with cons := { c.cons with inbox := [] } } l msg) msg := by
  have found : [(l, msg)].find? (fun m : Nat × Bytes => fld m.2 0 1 == type && q m.2) = some (l, msg) := by
    simp [its, fits]
  have rest : [(l, msg)].erase (l, msg) = [] := by simp
  unfold withMsg
  rw [only, found]
  dsimp only
  rw [rest]

theorem withMsg_none {c : Chip} {type : Nat} (others : c.cons.inbox.all (fun m => fld m.2 0 1 != type) = true)
    (q : Bytes → Bool) (k : Chip → Bytes → Chip) : withMsg c type q k = c := by
  have missing : c.cons.inbox.find? (fun m => fld m.2 0 1 == type && q m.2) = none := by
    refine List.find?_eq_none.2 fun m hm => ?_
    have other := List.all_eq_true.1 others m hm
    simp only [bne_iff_ne] at other
    simp [other]
  unfold withMsg
  rw [missing]

theorem serveMember_known {c : Chip} {lead : Nat} {d : Bytes} {r : ServReq} (req : reqOf c (shareKey lead (fld d 4 2)) = some r) :
    (fld d 0 1 = 2 → r.phase = 2 → serveMember c lead d = setReq c (shareKey lead (fld d 4 2)) { r with marked := true })
    ∧ (fld d 0 1 = 4 → serveMember c lead d = moveSlot c (shareKey lead (fld d 4 2)) r true (fld d 6 2)) := by
  refine ⟨fun mark runs => ?_, fun demote => ?_⟩
  · unfold serveMember
    dsimp only
    rw [mark, req]
    exact if_pos runs
  · unfold serveMember
    dsimp only
    rw [demote, req]
    rfl

theorem serveMember_ends {d : Bytes} (ends : fld d 0 1 = 7) (c : Chip) (lead : Nat) :
    serveMember c lead d = dropReq c (shareKey lead (fld d 4 2)) := by
  unfold serveMember
  dsimp only
  rw [ends] <;> rfl

theorem serveStopped_known {c : Chip} {o : Nat} {d : Bytes} {r : ServReq} (req : reqOf c (fld d 4 2) = some r) :
    serveStopped c o d
      = layerBoundary (setReq c (fld d 4 2) { r with away := r.away.filter (· != o) }) (fld d 4 2) := by
  unfold serveStopped
  rw [req]

/-- Settles O57: each command is followed through its guards, in the order of the model's checks. -/
theorem servingStepsAndSiding : Obligations.ServingStepsAndSiding := by
  unfold Obligations.ServingStepsAndSiding
  intro s fn p h m i n st tok energy o r v x w y z l msg c now discarded subs ring
  refine ⟨fun rings hp hh hst htok own => ?tokens, fun rings hp hh foreign => token_foreign rings hp hh foreign,
    fun rings hp hn => ?submit, fun rings hp hh own => ?close, fun hp waiting on room admits hx => ?opens,
    fun hm place awake admits stays => ?starts, fun req runs hz shows => ?layers, fun req runs => ?overrun,
    fun full first due new late gives whole => pauseModel_marks full first due new late gives whole,
    fun req ended led => congrArg (becomes s) (stepComplete_ended req ended led energy), fun req output => ?output,
    fun hp needed free first => congrArg (becomes s) (slotDemote_moves hp needed free first),
    fun _ calm => congrArg (becomes s) (slotDemote_idle calm),
    fun req far ready led free => ?promote,
    fun only its hy => ?members, fun others => congrArg (becomes s) (withMsg_none others _ _)⟩
  case tokens =>
    exact ⟨token_ready rings hp hh hst htok own, token_wrong rings hp hh hst htok own, token_unknown rings hp hh hst htok own⟩
  case submit =>
    exact ⟨fun room => (submit_acts rings hp hn).trans (congrArg (becomes s) (if_neg (Nat.not_lt.2 room))),
      fun beyond => (submit_acts rings hp hn).trans (congrArg (becomes s) (if_pos beyond))⟩
  case close =>
    exact ⟨close_later rings hp hh own, close_waiting rings hp hh own,
      fun gone => (close_acts rings hp hh own).trans (by rw [gone])⟩
  case opens =>
    exact ⟨fun read bad => congrArg (becomes s) (openReq_invalid hp waiting on room admits hx read bad), fun read good =>
      ⟨fun known => congrArg (becomes s) (openReq_twice hp waiting on room admits hx read good known),
        fun new full stays => congrArg (becomes s) (openReq_exhausted hp waiting on room admits hx read good new full stays),
        fun new free hy hv => congrArg (becomes s) (openReq_opens hp waiting on room admits hx read good new free hy hv)⟩⟩
  case starts =>
    refine ⟨fun idle => congrArg (becomes s) (stepStart_idle hm place awake admits stays idle),
      fun first near on kept behind => ?_, fun first near on kept begins unread hx read hi beyond => congrArg (becomes s)
        (stepStart_vocabulary hm place awake admits stays first near on kept begins unread hx read hi beyond)⟩
    have acts := stepStart_step hm place awake admits stays first near on kept behind
    refine ⟨fun admitted => congrArg (becomes s) (acts.trans (if_pos admitted)), fun asks id => ?_⟩
    have answer : stepProceeds c h r 0 = match stepAdmit c r with
      | .tooLarge => stepFail c h r 9
      | .waits s => energyPause s h r
      | .admitted id s => stepRun s h r id := if_neg (not_not.2 asks)
    refine ⟨fun yes => ?_, fun never => ?_, fun no fresh => ?_⟩
    · exact congrArg (becomes s) (acts.trans (answer.trans (by rw [yes])))
    · exact congrArg (becomes s) (acts.trans (answer.trans (by rw [never]; rfl)))
    · exact congrArg (becomes s) (acts.trans (answer.trans (by rw [no]; exact energyPause_first fresh y h)))
  case layers =>
    intro final next goes
    refine ⟨fun busy => congrArg (becomes s) (layerBoundary_runs req runs hz shows busy), fun idle all led => ?_⟩
    have acts (b : Chip) (does : layerDone z h v = b) : goes b :=
      congrArg (becomes s) ((layerBoundary_done req runs hz shows idle all).trans (by rw [does]))
    have does := layerDone_lead led z h
    refine ⟨fun failed => acts _ ?_, fun fine closing => acts _ ?_, fun fine stays ends => acts _ ?_,
      fun fine stays goes marked near => acts _ ?_, fun fine stays unmarked more => acts _ ?_,
      fun fine stays unmarked last more => acts _ ?_⟩
    · rw [does, if_pos failed]
    · rw [does, if_neg (not_not.2 fine), if_pos closing]
    · rw [does, if_neg (not_not.2 fine), if_neg (ne_true_of_eq_false stays), if_pos ends]
    · rw [does, if_neg (not_not.2 fine), if_neg (ne_true_of_eq_false stays), if_neg goes, if_pos marked, if_pos near]
      exact pausePoint_next z h v
    · have within : ¬ mLayers (mdl z (qModel v)) ≤ v.layer + 1 := by omega
      rw [does, if_neg (not_not.2 fine), if_neg (ne_true_of_eq_false stays), if_neg (fun e => within e.2),
        if_neg (ne_true_of_eq_false unmarked), if_neg within] <;> rfl
    · have again : ¬ passesOf z v ≤ v.pass + 1 := by omega
      rw [does, if_neg (not_not.2 fine), if_neg (ne_true_of_eq_false stays), if_neg (fun e => again e.1),
        if_neg (ne_true_of_eq_false unmarked), if_pos (by omega)] <;> rfl
  case overrun =>
    exact ⟨fun new late => congrArg (becomes s) (layerOverrun_reports req runs new late),
      fun within => congrArg (becomes s) (layerOverrun_within req within)⟩
  case output =>
    intro a vocab hx read hw
    have acts := stepComplete_output req output hx read hw energy
    refine ⟨fun written free stays more calm => congrArg (becomes s) (acts.trans ?_),
      fun refused => congrArg (becomes s) (acts.trans ?_)⟩
    · rw [if_pos written, stepEnd_plain free stays more calm]
    · rw [refused]
      rfl
  case promote =>
    have acts := (slotPromote_moves req far ready led free).trans (moveSlot_near c h r i)
    rw [far] at acts
    exact congrArg (becomes s) acts
  case members =>
    intro d k
    have acts (b : Chip) (does : (if fld d 0 1 = 6 then serveStopped y (msgSrc msg) d else serveMember y (msgSrc msg) d) = b) :
        exec .msgServe s = becomes s b := by
      rw [hy] at does
      exact congrArg (becomes s) ((withMsg_only only its rfl _).trans does)
    refine ⟨fun ends => acts _ ?_, fun mark req runs => acts _ ?_, fun demote req => acts _ ?_, fun stopped req => acts _ ?_⟩
    · rw [if_neg (by omega), serveMember_ends ends]
    · rw [if_neg (by omega), (serveMember_known req).1 mark runs]
    · rw [if_neg (by omega), (serveMember_known req).2 demote]
    · rw [if_pos stopped, serveStopped_known req]

end Sys2Proof.Machine
end

/-! ## Weight loads -/
section
namespace Sys2Proof.Machine

/-! ### The manifest -/

/-- The entries of the manifest at `a`. -/
def manifestEntries (c : Chip) (a : Nat) : List Bytes :=
  (List.range (min (fld (peek c a 64) 8 4) 65537)).map (fun i => peek c (a + 64 + 64 * i) 64)

/-- The load that an accepted manifest with header `h` and entries `es` begins. -/
def begunLoad (c : Chip) (h : Bytes) (es : List Bytes) : Load :=
  ⟨c.weights.next, h, es, (es.zip (List.range (min (fld h 8 4) 65537))).flatMap (fun x =>
    if readsEntry c h x.1 then entryPieces x.2 x.1 else []), [], [], relayedBytes c h es, nowNs c⟩

section
variable {c : Chip} {arg : Bytes} (near : inOpenRanges c (leNat arg) 64 = true)
include near

omit near in
theorem weightLoad_poisoned (bad : poisoned c (leNat arg) 64 = true) (rq : Rq) :
    actWeightLoad c rq arg = (eRange, [], loadResult c 1 0 0xFFFF 0) := by
  unfold actWeightLoad
  exact if_pos (by simp [bad])

section
variable (clean : poisoned c (leNat arg) 64 = false)
  (whole : inOpenRanges c (leNat arg) (64 + 64 * min (fld (peek c (leNat arg) 64) 8 4) 65537) = true)
include clean whole

/-- A manifest within the open ranges is checked in this order: header, entries, the state of the package. -/
theorem weightLoad_checks (rq : Rq) : actWeightLoad c rq arg =
    (let h := peek c (leNat arg) 64
     let es := manifestEntries c (leNat arg)
     if headerBad h es = true then (eRange, [], loadResult c 1 0 0xFFFF (lId h))
     else match firstBad c h es 0 es with
       | some i => (eRange, [], loadResult c 1 0 i (lId h))
       | none =>
         if loadBusy c h es then refuse c eBusy
         else
           let y : Chip := { c with weights := { c.weights with load := some (begunLoad c h es), next := c.weights.next + 1 } }
           acted (pumpLoad (loadResult (odSet (odSet (setBankState y (lBank h) 1) 0x54001 0 1) 0x54002 0 0) 0 0 0 (lId h)))) := by
  have readable : ¬ (!inOpenRanges c (leNat arg) 64 || poisoned c (leNat arg) 64) = true := by simp [near, clean]
  unfold actWeightLoad
  refine (if_neg readable).trans ?_
  dsimp only
  rw [whole] <;> rfl

theorem weightLoad_header (bad : headerBad (peek c (leNat arg) 64) (manifestEntries c (leNat arg)) = true) (rq : Rq) :
    actWeightLoad c rq arg = (eRange, [], loadResult c 1 0 0xFFFF (lId (peek c (leNat arg) 64))) :=
  (weightLoad_checks near clean whole rq).trans (if_pos bad)

variable (good : headerBad (peek c (leNat arg) 64) (manifestEntries c (leNat arg)) = false)
include good

theorem weightLoad_entry {i : Nat}
    (bad : firstBad c (peek c (leNat arg) 64) (manifestEntries c (leNat arg)) 0 (manifestEntries c (leNat arg)) = some i) (rq : Rq) :
    actWeightLoad c rq arg = (eRange, [], loadResult c 1 0 i (lId (peek c (leNat arg) 64))) := by
  refine (weightLoad_checks near clean whole rq).trans ((if_neg (ne_true_of_eq_false good)).trans ?_)
  rw [bad]

variable (fine : firstBad c (peek c (leNat arg) 64) (manifestEntries c (leNat arg)) 0 (manifestEntries c (leNat arg)) = none)
include fine

theorem weightLoad_busy (busy : loadBusy c (peek c (leNat arg) 64) (manifestEntries c (leNat arg)) = true) (rq : Rq) :
    actWeightLoad c rq arg = (eBusy, [], c) := by
  refine (weightLoad_checks near clean whole rq).trans ((if_neg (ne_true_of_eq_false good)).trans ?_)
  rw [fine]
  exact if_pos busy

theorem weightLoad_begins (idle : loadBusy c (peek c (leNat arg) 64) (manifestEntries c (leNat arg)) = false) {y : Chip}
    (hy : y = { c with weights := { c.weights with
      load := some (begunLoad c (peek c (leNat arg) 64) (manifestEntries c (leNat arg))), next := c.weights.next + 1 } })
    (rq : Rq) : actWeightLoad c rq arg = (0, [], pumpLoad (loadResult (odSet (odSet
      (setBankState y (lBank (peek c (leNat arg) 64)) 1) 0x54001 0 1) 0x54002 0 0) 0 0 0 (lId (peek c (leNat arg) 64)))) := by
  refine (weightLoad_checks near clean whole rq).trans ((if_neg (ne_true_of_eq_false good)).trans ?_)
  rw [fine, hy]
  exact if_neg (ne_true_of_eq_false idle)

end

end

/-! ### Abort -/

theorem odN_odSet_apart (c : Chip) {o k o' k' : Nat} (n : Nat) (apart : odKey o' k' ≠ odKey o k) :
    odN (odSet c o k n) o' k' = odN c o' k' := congrArg OdVal.nat (odGet_odSet_apart c n apart)

/-- The end of a load whose manifest names no signal: no load, the pieces in flight go on, and the results show (R543). -/
theorem loadFail_shows {c : Chip} {l : Load} (silent : fld l.hdr 26 2 = 0xFFFF) (state st : Nat) :
    (loadFail c l state st 0 0).weights.load = none ∧ (loadFail c l state st 0 0).weights.flying = c.weights.flying
    ∧ odN (loadFail c l state st 0 0) 0x54001 0 = state ∧ odN (loadFail c l state st 0 0) 0x54003 0 = st + 2 ^ 32 * lId l.hdr
    ∧ odN (loadFail c l state st 0 0) 0x54020 2 = (odN c 0x54020 2 + 1) % 2 ^ 64
    ∧ (lBank l.hdr < 16 → bankState (loadFail c l state st 0 0) (lBank l.hdr) = 3) := by
  have apart (o k : Nat) (small : odKey o k < 256 * 0x54041) : odKey o k ≠ odKey 0x54041 (lBank l.hdr + 1) := by
    unfold odKey at small ⊢
    omega
  have quiet (b : Chip) : addSignal b .opn (fld l.hdr 26 2) = b := if_pos silent
  unfold loadFail
  rw [quiet]
  refine ⟨rfl, rfl, ?_, ?_, ?_, fun hb => ?_⟩
  · rw [odN_raise _ _ _ _ _ (by decide) (.inl (by decide)), odN_odAdd64_ne _ _ _ _ _ _ (by decide) (by decide) (.inl (by decide)),
      setBankState, odN_odSet_apart _ _ (apart 0x54001 0 (by decide)), odN_odSet_same]
  · rw [odN_raise _ _ _ _ _ (by decide) (.inl (by decide)), odN_odAdd64_ne _ _ _ _ _ _ (by decide) (by decide) (.inl (by decide)),
      setBankState, odN_odSet_apart _ _ (apart 0x54003 0 (by decide)),
      odN_odSet_ne _ _ _ _ _ _ (by decide) (by decide) (.inl (by decide)), loadResult, odN_odSet_same]
    rfl
  · rw [odN_raise _ _ _ _ _ (by decide) (.inl (by decide)), odN_odAdd64_same,
      setBankState, odN_odSet_apart _ _ (apart 0x54020 2 (by decide)),
      odN_odSet_ne _ _ _ _ _ _ (by decide) (by decide) (.inl (by decide)), loadResult,
      odN_odSet_ne _ _ _ _ _ _ (by decide) (by decide) (.inl (by decide))]
    rfl
  · rw [bankState, odN_raise _ _ _ _ _ (by omega) (.inl (by decide)),
      odN_odAdd64_ne _ _ _ _ _ _ (by decide) (by omega) (.inl (by decide)), setBankState, odN_odSet_same]

theorem weightAbort_runs {s : State} {rq : Rq} (ok : Accepted s rq 0x54011 []) {l : Load} (runs : s.chip.weights.load = some l) :
    exec (.weightAbort rq) s = acks s rq (loadFail s.chip l 4 7 0 0) := by
  refine actionRow_acks _ s rq _ [] _ ok ?_
  unfold actWeightAbort
  rw [runs]
  rfl

theorem weightAbort_idle {s : State} {rq : Rq} (ok : Accepted s rq 0x54011 []) (idle : s.chip.weights.load = none) :
    exec (.weightAbort rq) s = refuses s rq 0x0B s.chip := by
  refine actionRow_refuses _ s rq _ [] [] _ 0x0B ok (by decide) (by decide) ?_
  unfold actWeightAbort
  rw [idle]
  rfl

/-! ### Pieces -/

/-- The block once piece `p`, with number `id`, has left the list of those in flight. -/
def pieceLanded (c : Chip) (id : Nat) (p : Piece) : Chip :=
  jobEnd { c with weights := { c.weights with flying := c.weights.flying.filter (fun x => x.id != id) } } p.adm

theorem transfers_weights {a b : Chip} (h : Transfers a b) : b.weights = a.weights ∧ b.cons = a.cons := by
  unfold Transfers at h
  rw [h]
  exact ⟨rfl, rfl⟩

section
variable {c : Chip} {id : Nat} {p : Piece} (flies : c.weights.flying.find? (fun p => p.id == id) = some p)
include flies

/-- A piece of the running load of a shard-mode manifest that names this package. -/
theorem pieceComplete_loads {l : Load} (runs : c.weights.load = some l) (its : p.load = l.id) {st : Nat} {data : Bytes}
    {k : Nat} {d : Bytes} {b : Chip} (read : pieceData (pieceLanded c id p) p st data = (k, d, b))
    (moved : b.weights = (pieceLanded c id p).weights ∧ b.cons = (pieceLanded c id p).cons) (acc : List Nat) :
    (k ≠ 0 → pieceComplete c id st data acc = loadFail b l 3 (pieceStatus (eSource p.entry) k) k p.idx)
    ∧ (k = 0 → lBroadcast l.hdr = false → bit (eOrds p.entry) (ownOrd c) = true →
        ∀ w : Xfer, w = placePiece b p.entry (eDst p.entry + p.off) d → w.st = 0 → pieceComplete c id st data acc
          = pumpLoad (noteAccepted { countPlaced w.s p.len with weights := { (countPlaced w.s p.len).weights with
              load := some { l with toRelay := l.toRelay ++ [] } } } acc)) := by
  have load : b.weights.load.filter (fun l => l.id == p.load) = some l := by
    rw [moved.1]
    show c.weights.load.filter _ = some l
    rw [runs]
    simp [its]
  have goes : pieceComplete c id st data acc =
      (if k ≠ 0 then loadFail b l 3 (pieceStatus (eSource p.entry) k) k p.idx
       else
        let a := eDst p.entry + p.off
        let mine := bit (eOrds p.entry) (ownOrd b)
        let x := if mine then placePiece b p.entry a d else ⟨0, [], 0, b⟩
        if x.st ≠ 0 then loadFail x.s l 3 3 2 p.idx
        else
          let s := if mine then countPlaced x.s p.len else x.s
          let dests := (receivers s l).filter (fun o => bit (eOrds p.entry) o)
          let s := { s with weights := { s.weights with
            load := some { l with toRelay := l.toRelay ++ dests.map (fun o => (o, a, d)) } } }
          pumpLoad (noteAccepted s acc)) := by
    unfold pieceLanded at read
    unfold pieceComplete
    rw [flies]
    dsimp only
    rw [read]
    dsimp only
    rw [load]
  refine ⟨fun bad => goes.trans (if_pos bad), fun good shard mine w hw placed => goes.trans ?_⟩
  have own : ownOrd b = ownOrd c := congrArg (fun x : Consist => x.force.getD 1 0) moved.2
  have alone (y : Chip) : receivers y l = [] := if_neg (by simp [shard])
  dsimp only
  rw [if_neg (not_not.2 good), own, mine, if_pos rfl, if_pos rfl, ← hw, if_neg (not_not.2 placed), alone]
  rfl

theorem pieceComplete_orphan (idle : c.weights.load = none) {data : Bytes} (network : eSource p.entry = 3) (acc : List Nat) :
    pieceComplete c id 0 data acc = (takeFree (pieceLanded c id p) 1).2
    ∨ pieceComplete c id 0 data acc
      = (placePiece (takeFree (pieceLanded c id p) 1).2 p.entry (eDst p.entry + p.off) (slice data 0 p.len)).s := by
  have load : (pieceLanded c id p).weights.load.filter (fun l => l.id == p.load) = none := by
    show c.weights.load.filter _ = none
    rw [idle]
    rfl
  have read : pieceData (pieceLanded c id p) p 0 data = (0, slice data 0 p.len, pieceLanded c id p) := by
    unfold pieceData
    rw [network]
    rfl
  unfold pieceLanded at read load ⊢
  unfold pieceComplete
  rw [flies]
  dsimp only
  rw [read]
  dsimp only
  rw [load]
  dsimp only
  split
  · exact .inr rfl
  · exact .inl rfl

end

theorem pieceData_network {c : Chip} {p : Piece} (network : eSource p.entry = 3) (data : Bytes) :
    pieceData c p 0 data = (0, slice data 0 p.len, c) := by
  unfold pieceData
  rw [network]
  rfl

theorem pieceData_failed {c : Chip} {p : Piece} (other : eSource p.entry ≠ 1) {st : Nat} (bad : st ≠ 0) (data : Bytes) :
    pieceData c p st data = (st, [], c) := by
  unfold pieceData
  split
  · contradiction
  · exact if_pos bad
  · exact if_pos bad

/-- A piece from memory: what the relay engine read, or the status of its transfer. -/
theorem pieceData_memory {c : Chip} {p : Piece} (memory : eSource p.entry = 2 ∨ eSource p.entry = 4) (data : Bytes) {x : Xfer}
    (hx : x = xferRead c .opn (eSrc p.entry + p.off) p.len 0 0 uRelay Bound.free) :
    pieceData c p 0 data = if x.st = 0 then (0, x.bytes, x.s) else (relayXferStatus x.st, [], x.s) := by
  rw [hx]
  unfold pieceData
  split
  · omega
  · omega
  · exact if_neg (not_not.2 rfl)

/-! ### The end of a load -/

section
variable {c y : Chip} {acc : List Nat} (hy : y = noteAccepted c acc) {l : Load} (runs : y.weights.load = some l)
include hy runs

theorem loadDone_ends (issued : l.todo = []) (landed : ∀ p ∈ y.weights.flying, p.load ≠ l.id) (sent : l.toRelay = [])
    (came : l.expect = 0) {relayed : Bool} (taken : receivers y l = [] ∨ relayed = true) : loadDone c acc relayed = addSignal
      (raise (setBankState (odSet (odAdd64 { y with weights := { y.weights with load := none } } 0x54020 1 1) 0x54001 0 2)
        (lBank l.hdr) 2) ⟨0x5400, 0⟩ (lId l.hdr + lBank l.hdr * 2 ^ 32)) .opn (fld l.hdr 26 2) := by
  have idle : y.weights.flying.any (fun p => p.load == l.id) = false := by
    refine List.any_eq_false.2 fun p hp => ?_
    simp [landed p hp]
  have all : ¬ (l.todo ≠ [] ∨ y.weights.flying.any (fun p => p.load == l.id) = true ∨ l.toRelay ≠ [] ∨ l.expect ≠ 0
      ∨ (!(receivers y l).isEmpty && !relayed) = true) := by
    rcases taken with none_ | yes
    · simp [issued, idle, sent, came, none_]
    · simp [issued, idle, sent, came, yes]
  unfold loadDone
  rw [← hy]
  dsimp only
  rw [runs]
  exact if_neg all

theorem loadDone_waits (waits : l.todo ≠ [] ∨ l.expect ≠ 0) (relayed : Bool) : loadDone c acc relayed = pumpLoad y := by
  unfold loadDone
  rw [← hy]
  dsimp only
  rw [runs]
  exact if_pos (waits.imp_right fun e => .inr (.inr (.inl e)))

section
variable {o : Nat}

/-- The reader of a broadcast waits for a receiver, or for none (R545). -/
theorem peerTimeout_reader (broadcast : lBroadcast l.hdr = true) (reader : lReader l.hdr = ownOrd y) (other : o ≠ ownOrd y)
    (ho : o < 16) (named : ∃ e ∈ l.entries, bit (eOrds e) o = true) : peerTimeout c o acc =
      if (!l.accepted.contains o) = true ∧ l.since + ms (odN y 0x54013 0) ≤ nowNs y then loadFail y l 3 5 0 0 else y := by
  obtain ⟨e, he, its⟩ := named
  have receives : (receivers y l).contains o = true := by
    have here : (lBroadcast l.hdr && lReader l.hdr == ownOrd y) = true := by simp [broadcast, reader]
    unfold receivers
    rw [if_pos here, List.contains_iff_mem, List.mem_filter]
    refine ⟨List.mem_range.2 ho, ?_⟩
    rw [Bool.and_eq_true, bne_iff_ne, List.any_eq_true]
    exact ⟨other, e, he, its⟩
  unfold peerTimeout
  rw [← hy]
  dsimp only
  rw [runs]
  exact if_pos receives

theorem peerTimeout_receiver (broadcast : lBroadcast l.hdr = true) (reader : lReader l.hdr = o) (other : o ≠ ownOrd y)
    (cut : routeUp y o = false) (late : max l.since (tget 0 y.cons.lostAt o) + ms (odN y 0x54013 0) < nowNs y) :
    peerTimeout c o acc = loadFail y l 3 6 0 0 := by
  have away : ¬ (receivers y l).contains o = true := by
    have there : ¬ (lBroadcast l.hdr && lReader l.hdr == ownOrd y) = true := by simp [reader, other]
    unfold receivers
    rw [if_neg there]
    simp
  unfold peerTimeout
  rw [← hy]
  dsimp only
  rw [runs]
  refine (if_neg away).trans (if_pos ⟨broadcast, reader, other, ?_, late⟩)
  rw [cut]
  rfl

end

end

/-! ### Relayed pieces -/

theorem relayedPiece_idle {c : Chip} (idle : c.weights.load = none) (id a : Nat) (data : Bytes) :
    relayedPiece c id a data = odAdd64 c 0x54020 6 1 := by
  unfold relayedPiece
  rw [idle]

section
variable {c : Chip} {l : Load} (runs : c.weights.load = some l) {id a : Nat} {data : Bytes} {found : Option Bytes}
  (hf : found = l.entries.find? (fun e => bit (eOrds e) (ownOrd c) && decide (eDst e ≤ a)
    && decide (a + data.length ≤ eDst e + eLen e)))
include runs hf

theorem relayedPiece_foreign (foreign : found = none ∨ lId l.hdr ≠ id) : relayedPiece c id a data = odAdd64 c 0x54020 6 1 := by
  unfold relayedPiece
  rw [runs]
  dsimp only
  rw [← hf]
  rcases foreign with none_ | other
  · rw [none_]
  · cases found with
    | none => rfl
    | some e => exact if_pos other

theorem relayedPiece_placed {e : Bytes} (its : found = some e) (same : lId l.hdr = id) {w : Xfer} (hw : w = placePiece c e a data)
    (placed : w.st = 0) : relayedPiece c id a data = countPlaced (odAdd64 { w.s with weights := { w.s.weights with
      load := some { l with expect := l.expect - data.length } } } 0x54020 5 1) data.length := by
  unfold relayedPiece
  rw [runs]
  dsimp only
  rw [← hf, its]
  dsimp only
  rw [if_neg (not_not.2 same), ← hw, if_neg (not_not.2 placed)]

end

/-- Settles O58: the manifest by the order of its checks, a piece by what was read and where the load stands. -/
theorem weightLoadPieces : Obligations.WeightLoadPieces := by
  unfold Obligations.WeightLoadPieces
  intro s rq arg id st o a loadId i acc relayed data l p x w y z e c h n es loads
  refine ⟨fun ok near whole => ?manifest, fun ok => ?abort, fun flies hy => ?piece, fun gone => ?gone, fun hy runs => ?done,
    fun ho idle => (congrArg (becomes s) (if_pos ho)).trans (congrArg (becomes s) (relayedPiece_idle idle loadId a data)),
    fun ho runs => ?relayed, fun hz runs ho => ?peer⟩
  case manifest =>
    refine ⟨fun bad => actionRow_refuses _ s rq _ arg [] _ 5 ok (by decide) (by decide) (weightLoad_poisoned bad rq), fun clean => ?_⟩
    exact ⟨fun bad => actionRow_refuses _ s rq _ arg [] _ 5 ok (by decide) (by decide) (weightLoad_header near clean whole bad rq),
      fun good entry => actionRow_refuses _ s rq _ arg [] _ 5 ok (by decide) (by decide)
        (weightLoad_entry near clean whole good entry rq),
      fun good fine => ⟨fun busy => actionRow_refuses _ s rq _ arg [] _ 6 ok (by decide) (by decide)
          (weightLoad_busy near clean whole good fine busy rq),
        fun idle hy => actionRow_acks _ s rq _ arg _ ok (weightLoad_begins near clean whole good fine idle hy rq)⟩⟩
  case abort => exact ⟨fun idle => weightAbort_idle ok idle, fun runs => weightAbort_runs ok runs,
      fun runs silent => ⟨_, weightAbort_runs ok runs, loadFail_shows silent 4 7⟩⟩
  case piece =>
    intro at_ placed
    refine ⟨fun runs its mine => ⟨fun good shard memory hx => ?_, fun good shard network hw done => ?_, fun bad other => ?_⟩,
      fun idle good network => ?_⟩
    · have moved := transfers_weights (hx ▸ transfers_read y .opn (eSrc p.entry + p.off) p.len 0 0 uRelay Bound.free)
      have read := pieceData_memory memory data hx
      rw [hy] at read moved
      have source : pieceStatus (eSource p.entry) 2 = 3 ∧ pieceStatus (eSource p.entry) 3 = 4 := by
        rcases memory with far | near
        · rw [far]
          decide
        · rw [near]
          decide
      subst good
      refine ⟨fun fine hw done => ?_, fun refused => ?_, fun poisoned => ?_⟩
      · rw [if_pos fine] at read
        exact congrArg (becomes s) ((pieceComplete_loads flies runs its read moved acc).2 rfl shard mine w hw done)
      · rw [refused] at read
        exact congrArg (becomes s) (((pieceComplete_loads flies runs its read moved acc).1 (by decide)).trans
          (congrArg (loadFail x.s l 3 · 2 p.idx) source.1))
      · rw [poisoned] at read
        exact congrArg (becomes s) (((pieceComplete_loads flies runs its read moved acc).1 (by decide)).trans
          (congrArg (loadFail x.s l 3 · 3 p.idx) source.2))
    · have read := pieceData_network (c := y) network data
      subst good
      rw [hy] at read hw
      exact congrArg (becomes s) ((pieceComplete_loads flies runs its read ⟨rfl, rfl⟩ acc).2 rfl shard mine w hw done)
    · have read := pieceData_failed (c := y) other bad data
      rw [hy] at read ⊢
      exact congrArg (becomes s) ((pieceComplete_loads flies runs its read ⟨rfl, rfl⟩ acc).1 bad)
    · subst good
      rw [hy]
      exact (pieceComplete_orphan flies idle network acc).imp (congrArg (becomes s)) (congrArg (becomes s))
  case gone =>
    have stays : pieceComplete c id st data acc = c := by
      unfold pieceComplete
      rw [gone]
    exact congrArg (becomes s) stays
  case done =>
    exact ⟨fun issued landed sent came taken => congrArg (becomes s) (loadDone_ends hy runs issued landed sent came taken),
      fun waits => congrArg (becomes s) (loadDone_waits hy runs waits relayed)⟩
  case relayed =>
    intro mine
    exact ⟨fun foreign => (congrArg (becomes s) (if_pos ho)).trans (congrArg (becomes s) (relayedPiece_foreign runs rfl foreign)),
      fun its same hw placed => (congrArg (becomes s) (if_pos ho)).trans
        (congrArg (becomes s) (relayedPiece_placed runs rfl its same hw placed))⟩
  case peer =>
    refine ⟨fun broadcast reader other named => ?_, fun broadcast reader other cut late =>
      congrArg (becomes s) (peerTimeout_receiver hz runs broadcast reader other cut late)⟩
    have acts := peerTimeout_reader hz runs broadcast reader other ho named
    exact ⟨fun silent late => congrArg (becomes s) (acts.trans (if_pos ⟨by simp [silent], late⟩)),
      fun heard => congrArg (becomes s) (acts.trans (if_neg (by simp [heard])))⟩

end Sys2Proof.Machine
end

/-! ## Coupling links -/
section
namespace Sys2Proof.Machine

/-! ### What sending leaves of the receiving side -/

theorem clLink_setCl_same (c : Chip) (l : Nat) (x : ClLink) : clLink (setCl c l x) l = x := tget_tput_same _ _ _ _

theorem clLink_setCl_other (c : Chip) {l k : Nat} (x : ClLink) (h : k ≠ l) : clLink (setCl c l x) k = clLink c k :=
  tget_tput_other _ _ _ _ _ h

/-- The receiving side of a link's framing: the flit expected, the replay request, the flits not decoded, the message begun. -/
def receiving (x : ClLink) : Nat × Option Nat × Nat × Bytes := (x.expectF, x.reqAt, x.undec, x.part)

/-- The receiving side of every link is as before. -/
def SameReceiving (a b : Chip) : Prop := ∀ l, receiving (clLink b l) = receiving (clLink a l)

theorem SameReceiving.of_cons {a b : Chip} (h : b.cons.links = a.cons.links) : SameReceiving a b := fun l => by
  unfold clLink
  rw [h]

theorem SameReceiving.trans {a b c : Chip} (h : SameReceiving a b) (g : SameReceiving b c) : SameReceiving a c :=
  fun l => (g l).trans (h l)

theorem sameReceiving_setCl (c : Chip) (l : Nat) {x : ClLink} (h : receiving x = receiving (clLink c l)) :
    SameReceiving c (setCl c l x) := fun k => by
  by_cases e : k = l
  · subst e
    rw [clLink_setCl_same, h]
  · rw [clLink_setCl_other _ _ e]

theorem receiving_withCredit (x : ClLink) (vc n : Nat) : receiving (withCredit x vc n) = receiving x := by
  unfold withCredit
  split <;> rfl

/-- A flit counted and sent after the link's state is set. -/
theorem sameReceiving_sent (c : Chip) (l : Nat) {x : ClLink} (h : receiving x = receiving (clLink c l)) (n : Nat) (o : Output) :
    SameReceiving c (emit (odAdd64 (setCl c l x) n 1 1) o) := fun k => sameReceiving_setCl c l h k

theorem sameReceiving_flits (c : Chip) (l : Nat) (ps : List Bytes) : SameReceiving c (sendFlits c l ps) := by
  induction ps generalizing c with
  | nil => exact .of_cons rfl
  | cons p r ih =>
    rw [sendFlits]
    exact (sameReceiving_sent c l (by exact rfl) _ _).trans (ih _)

theorem sameReceiving_try {c b : Chip} {l vc : Nat} {m : Bytes} (h : trySend c l vc m = some b) : SameReceiving c b := by
  simp only [trySend] at h
  split at h
  · cases h
    exact (sameReceiving_setCl c l (by exact receiving_withCredit _ _ _)).trans (sameReceiving_flits _ _ _)
  · cases h

theorem sameReceiving_on (c : Chip) (l vc : Nat) (m : Bytes) : SameReceiving c (sendOn c l vc m) := by
  simp only [sendOn]
  split
  · exact sameReceiving_setCl _ _ rfl
  · split
    · next h => exact sameReceiving_try h
    · exact sameReceiving_setCl _ _ rfl

theorem sameReceiving_drain (c : Chip) (l n : Nat) : SameReceiving c (drainWaiting c l n) := by
  induction n generalizing c with
  | zero => exact .of_cons rfl
  | succ n ih =>
    rw [drainWaiting]
    split
    · exact .of_cons rfl
    · split
      · next h => exact ((sameReceiving_setCl c l (by exact rfl)).trans (sameReceiving_try h)).trans (ih _)
      · split
        · exact .of_cons rfl
        · split
          · next h => exact ((sameReceiving_setCl c l (by exact rfl)).trans (sameReceiving_try h)).trans (ih _)
          · exact .of_cons rfl

theorem sameReceiving_msg (c : Chip) (m : Bytes) : SameReceiving c (sendMsg c m) := by
  unfold sendMsg
  split
  · split
    · exact .of_cons rfl
    · exact .of_cons rfl
  · exact SameReceiving.trans (b := (takeFree c 32).2) (.of_cons rfl) (sameReceiving_on _ _ _ _)

theorem sameReceiving_ack (c : Chip) (l ack : Nat) : SameReceiving c (ackFlits c l ack) := by
  unfold ackFlits
  dsimp only
  split
  · exact (sameReceiving_setCl c l (by exact rfl)).trans (sameReceiving_drain _ _ _)
  · exact .of_cons rfl

theorem sameReceiving_takeMsg (c : Chip) (l : Nat) (m : Bytes) : SameReceiving c (takeMsg c l m) := by
  unfold takeMsg
  split
  · exact .of_cons rfl
  · split
    · exact SameReceiving.trans (b := giveCredit (odAdd64 c 0x60090 4 1) l m) (.of_cons rfl) (sameReceiving_msg _ _)
    · exact .of_cons rfl

/-! ### What sending leaves of the receive buffer -/

/-- The receive buffer and the values in force are as before. -/
def SameInbox (a b : Chip) : Prop := b.cons.inbox = a.cons.inbox ∧ b.cons.force = a.cons.force

theorem SameInbox.refl (a : Chip) : SameInbox a a := ⟨rfl, rfl⟩

theorem SameInbox.trans {a b c : Chip} (h : SameInbox a b) (g : SameInbox b c) : SameInbox a c :=
  ⟨g.1.trans h.1, g.2.trans h.2⟩

theorem sameInbox_flits (c : Chip) (l : Nat) (ps : List Bytes) : SameInbox c (sendFlits c l ps) := by
  induction ps generalizing c with
  | nil => exact .refl c
  | cons p r ih =>
    rw [sendFlits]
    exact SameInbox.trans ⟨rfl, rfl⟩ (ih _)

theorem sameInbox_try {c b : Chip} {l vc : Nat} {m : Bytes} (h : trySend c l vc m = some b) : SameInbox c b := by
  simp only [trySend] at h
  split at h
  · cases h
    exact SameInbox.trans ⟨rfl, rfl⟩ (sameInbox_flits _ _ _)
  · cases h

theorem sameInbox_drain (c : Chip) (l n : Nat) : SameInbox c (drainWaiting c l n) := by
  induction n generalizing c with
  | zero => exact .refl c
  | succ n ih =>
    rw [drainWaiting]
    split
    · exact .refl c
    · split
      · next h => exact (SameInbox.trans ⟨rfl, rfl⟩ (sameInbox_try h)).trans (ih _)
      · split
        · exact .refl c
        · split
          · next h => exact (SameInbox.trans ⟨rfl, rfl⟩ (sameInbox_try h)).trans (ih _)
          · exact .refl c

theorem sameInbox_ack (c : Chip) (l ack : Nat) : SameInbox c (ackFlits c l ack) := by
  unfold ackFlits
  dsimp only
  split
  · exact SameInbox.trans ⟨rfl, rfl⟩ (sameInbox_drain _ _ _)
  · exact .refl c

/-! ### Flits -/

theorem sends_now {a b : Chip} (h : Sends a b) : nowNs b = nowNs a := congrArg (fun x : Timebase => x.ns) (by rw [h.1])

theorem sends_ack (c : Chip) (l ack : Nat) : Sends c (ackFlits c l ack) := by
  unfold ackFlits
  dsimp only
  split
  · exact (sends_setCl c l _).trans (sends_drain _ _ _)
  · exact .refl c

theorem askReplay_shows {y : Chip} {t : Nat} (now : nowNs y = t) (l : Nat) : askReplay y l =
    emit (odAdd64 (setCl y l { clLink y l with reqAt := some t }) (0x60020 + l) 1 1)
      (.flit l 2 (clLink y l).nextF (ackOf (clLink y l)) 0 0 []) := by
  unfold askReplay sendBare
  rw [clLink_setCl_same, now]
  rfl

theorem discardFlit_first {y : Chip} {l : Nat} (first : (clLink y l).reqAt = none) : discardFlit y l = askReplay y l :=
  if_pos (by rw [first]; rfl)

theorem discardFlit_again {y : Chip} {l t : Nat} (again : (clLink y l).reqAt = some t) : discardFlit y l = y :=
  if_neg (by rw [again]; exact Bool.false_ne_true)

/-- A flit counted, with its corrected symbols. -/
def flitCounted (c : Chip) (l : Nat) (f : RxFlit) : Chip :=
  odAdd64 (odAdd64 c (0x60020 + l) 2 1) (0x60020 + l) 3 f.lanes.sum

/-- A flit counted that decodes. -/
def flitClean (c : Chip) (l : Nat) (f : RxFlit) : Chip := setCl (flitCounted c l f) l { clLink c l with undec := 0 }

theorem clLink_odAdd64 (c : Chip) (o k n l : Nat) : clLink (odAdd64 c o k n) l = clLink c l := rfl

theorem flitClean_asks (c : Chip) (l : Nat) (f : RxFlit) (n : Nat) :
    (clLink (odAdd64 (flitClean c l f) n 5 1) l).reqAt = (clLink c l).reqAt := by
  rw [clLink_odAdd64, flitClean, clLink_setCl_same]

section
variable {c : Chip} {l : Nat} (hl : l < 8) (up : clUp c l = true) {f : RxFlit}
include hl up

theorem flitRx_undecoded (lost : f.decoded = false) : flitRx c l f =
    discardFlit (setCl (odAdd64 (flitCounted c l f) (0x60020 + l) 4 1) l { clLink c l with undec := (clLink c l).undec + 1 }) l := by
  unfold flitRx
  rw [if_neg (by simp [up]; omega)]
  exact if_pos (by rw [lost]; rfl)

variable (read : f.decoded = true)
include read

theorem flitRx_altered (altered : crc64 (slice f.b 0 752) ≠ fld f.b 752 8) : flitRx c l f =
    discardFlit (odAdd64 (flitClean c l f) (0x60020 + l) 5 1) l := by
  unfold flitRx
  rw [if_neg (by simp [up]; omega)]
  refine (if_neg (by rw [read]; decide)).trans ?_
  exact if_pos altered

variable (intact : crc64 (slice f.b 0 752) = fld f.b 752 8)
include intact

/-- An intact flit acts by its KIND (R559). -/
theorem flitRx_intact : flitRx c l f =
    (let s := flitClean c l f
     if 1 < fld f.b 4 1 then s
     else
       let x := clLink s l
       if fld f.b 4 1 = 1 ∧ fld f.b 0 2 ≠ x.expectF then discardFlit (ackFlits s l (fld f.b 2 2)) l
       else
         let vc := fld f.b 5 1 % 2
         let s := drainWaiting (ackFlits (setCl s l (withCredit x vc (creditOf x vc + fld f.b 6 2))) l (fld f.b 2 2)) l 4096
         if fld f.b 4 1 = 0 then s
         else
           let x := clLink s l
           let r := splitMsgs 94 (x.part ++ slice f.b 8 744)
           r.1.foldl (fun s m => takeMsg s l m) (setCl s l { x with
             expectF := (x.expectF + 1) % 65536, reqAt := none, part := r.2 })) := by
  unfold flitRx
  rw [if_neg (by simp [up]; omega)]
  refine (if_neg (by rw [read]; decide)).trans ?_
  exact if_neg (not_not.2 intact)

theorem flitRx_other (other : 1 < fld f.b 4 1) : flitRx c l f = flitClean c l f :=
  (flitRx_intact hl up read intact).trans (if_pos other)

theorem flitRx_gap (data : fld f.b 4 1 = 1) (gap : fld f.b 0 2 ≠ (clLink c l).expectF) : flitRx c l f =
    discardFlit (ackFlits (flitClean c l f) l (fld f.b 2 2)) l := by
  have expected : (clLink (flitClean c l f) l).expectF = (clLink c l).expectF := by
    unfold flitClean
    rw [clLink_setCl_same]
  refine (flitRx_intact hl up read intact).trans ((if_neg (by omega)).trans (if_pos ⟨data, ?_⟩))
  rw [expected]
  exact gap

theorem flitRx_idle (idle : fld f.b 4 1 = 0) : flitRx c l f = drainWaiting (ackFlits (setCl (flitClean c l f) l
    (withCredit (clLink (flitClean c l f) l) (fld f.b 5 1 % 2)
      (creditOf (clLink (flitClean c l f) l) (fld f.b 5 1 % 2) + fld f.b 6 2))) l (fld f.b 2 2)) l 4096 :=
  (flitRx_intact hl up read intact).trans ((if_neg (by omega)).trans ((if_neg (by omega)).trans (if_pos idle)))

/-- A data flit in order: the next one is expected, and no replay request stands; a message that ends in it is taken. -/
theorem flitRx_data (data : fld f.b 4 1 = 1) (next : fld f.b 0 2 = (clLink c l).expectF) :
    (clLink (flitRx c l f) l).expectF = ((clLink c l).expectF + 1) % 65536 ∧ (clLink (flitRx c l f) l).reqAt = none
    ∧ (clLink (flitRx c l f) l).undec = 0
    ∧ ∀ m, (splitMsgs 94 ((clLink c l).part ++ slice f.b 8 744)).1 = [m] → msgBad m = false → msgDst m = ownOrd c →
        (flitRx c l f).cons.inbox = c.cons.inbox ++ [(l, m)] := by
  have clean : clLink (flitClean c l f) l = { clLink c l with undec := 0 } := clLink_setCl_same _ _ _
  have inOrder : ¬ (fld f.b 4 1 = 1 ∧ fld f.b 0 2 ≠ (clLink (flitClean c l f) l).expectF) := by
    rw [clean]
    exact fun gap => gap.2 next
  have acts := (flitRx_intact hl up read intact).trans ((if_neg (by omega)).trans ((if_neg inOrder).trans (if_neg (by omega))))
  generalize hs : drainWaiting (ackFlits (setCl (flitClean c l f) l (withCredit (clLink (flitClean c l f) l) (fld f.b 5 1 % 2)
    (creditOf (clLink (flitClean c l f) l) (fld f.b 5 1 % 2) + fld f.b 6 2))) l (fld f.b 2 2)) l 4096 = s at acts
  have same : receiving (clLink s l) = receiving { clLink c l with undec := 0 } := by
    rw [← hs, ← clean]
    exact (((sameReceiving_setCl _ l (receiving_withCredit _ _ _)).trans (sameReceiving_ack _ _ _)).trans
      (sameReceiving_drain _ _ _)) l
  have inbox : SameInbox c s := by
    rw [← hs]
    exact SameInbox.trans (SameInbox.trans (b := setCl (flitClean c l f) l _) ⟨rfl, rfl⟩ (sameInbox_ack _ _ _)) (sameInbox_drain _ _ _)
  obtain ⟨expected, -, undecoded, begun⟩ : (clLink s l).expectF = (clLink c l).expectF ∧ (clLink s l).reqAt = (clLink c l).reqAt
      ∧ (clLink s l).undec = 0 ∧ (clLink s l).part = (clLink c l).part := by
    simpa [receiving] using same
  dsimp only at acts
  rw [begun, expected] at acts
  have taken := foldl_rel SameReceiving (fun b => .of_cons rfl) (fun _ _ _ => .trans) (fun s m => takeMsg s l m)
    (splitMsgs 94 ((clLink c l).part ++ slice f.b 8 744)).1 (fun b m _ => sameReceiving_takeMsg b l m)
    (setCl s l { clLink s l with expectF := ((clLink c l).expectF + 1) % 65536, reqAt := none
                                 part := (splitMsgs 94 ((clLink c l).part ++ slice f.b 8 744)).2 }) l
  rw [← acts, clLink_setCl_same] at taken
  simp only [receiving, Prod.mk.injEq] at taken
  obtain ⟨now, settled, fine, -⟩ := taken
  refine ⟨now, settled, fine.trans undecoded, fun m one good here => ?_⟩
  have mine : ¬ msgDst m ≠ ownOrd s := not_not.2 (here.trans (congrArg (List.getD · 1 0) inbox.2).symm)
  rw [acts, one, List.foldl_cons, List.foldl_nil, takeMsg, if_neg (ne_true_of_eq_false good)]
  refine (congrArg (fun x : Chip => x.cons.inbox) (if_neg mine)).trans ?_
  show s.cons.inbox ++ [(l, m)] = _
  rw [inbox.1]

end

theorem resendFlits_spec (c : Chip) (l : Nat) : (clLink (resendFlits c l) l).resends = (clLink c l).resends + 1
    ∧ (clLink (resendFlits c l) l).ackAt = nowNs c
    ∧ (resendFlits c l).out = c.out ++ (clLink c l).buf.map (fun f => .flit l 1 f.1 (ackOf (clLink c l)) 0 0 f.2) := by
  have sent (fs : List (Nat × Bytes)) (b : Chip) :
      (fs.foldl (fun s f => emit s (.flit l 1 f.1 (ackOf (clLink c l)) 0 0 f.2)) b).out
        = b.out ++ fs.map (fun f => .flit l 1 f.1 (ackOf (clLink c l)) 0 0 f.2) := by
    induction fs generalizing b with
    | nil => simp
    | cons f r ih =>
      rw [List.foldl_cons, ih]
      simp [emit]
  have now : nowNs ((clLink c l).buf.foldl (fun s f => emit s (.flit l 1 f.1 (ackOf (clLink c l)) 0 0 f.2)) c) = nowNs c :=
    foldl_keeps nowNs (fun (s : Chip) (f : Nat × Bytes) => emit s (.flit l 1 f.1 (ackOf (clLink c l)) 0 0 f.2)) _ (fun _ _ _ => rfl) c
  refine ⟨?_, ?_, sent _ _⟩
  · unfold resendFlits
    rw [clLink_setCl_same]
  · unfold resendFlits
    rw [clLink_setCl_same]
    exact now

theorem sends_clUp {a b : Chip} (h : Sends a b) {l : Nat} (hl : l < 8) : clUp b l = clUp a l :=
  congrArg (fun v : OdVal => v.nat == 2) (h.2 0x60011 (l + 1) (by omega) (.inl (by decide)))

section
variable {c : Chip} {l : Nat} (hl : l < 8) (up : clUp c l = true)
include hl up

theorem replayRequest_sends (ack : Nat) : replayRequest c l ack =
    if (clLink (ackFlits c l ack) l).buf = [] then ackFlits c l ack else resendFlits (ackFlits c l ack) l :=
  if_neg (by simp [up]; omega)

theorem replayTimeout_due : replayTimeout c l =
    if (clLink c l).buf = [] ∨ nowNs c < (clLink c l).ackAt + 2000 then c else resendFlits c l := by
  have runs (q : Prop) : (8 ≤ l ∨ (!clUp c l) = true ∨ q) = q := by
    simp [up, Nat.not_le.2 hl]
  unfold replayTimeout
  simp only [runs]

theorem replayRepeat_asking {t : Nat} (asking : (clLink c l).reqAt = some t) : replayRepeat c l =
    if nowNs c < t + 256 then c else askReplay c l := by
  unfold replayRepeat
  rw [if_neg (by simp [up]; omega), asking]

end

theorem replayRepeat_idle {c : Chip} {l : Nat} (idle : (clLink c l).reqAt = none) : replayRepeat c l = c := by
  unfold replayRepeat
  rw [idle]
  exact ite_self c

/-- 23 R558 to R562, R568. -/
theorem flits : Claim.Flits := by
  intro s l ack t f m y z hl up c now o link counted clean kind good resent asked
  have ask (y : Chip) (h : nowNs y = now) : askReplay y l = asked y := askReplay_shows h l
  have lost : f.decoded = false → flitRx c l f
      = discardFlit (setCl (odAdd64 counted o 4 1) l { link with undec := link.undec + 1 }) l := flitRx_undecoded hl up
  have asks (y : Chip) (first : (clLink y l).reqAt = none) (h : nowNs y = now) : discardFlit y l = asked y :=
    (discardFlit_first first).trans (ask y h)
  have framed (x : ClLink) (b : Chip) {r : Option Nat} (h : x.reqAt = r) : (clLink (setCl b l x) l).reqAt = r := by
    rw [clLink_setCl_same, h]
  refine ⟨fun bad first => congrArg (becomes s) ?_, fun bad again => congrArg (becomes s) ?_,
    fun read altered first => congrArg (becomes s) ?_, fun fine other => congrArg (becomes s) (flitRx_other hl up fine.1 fine.2 other),
    fun fine data gap hy first => congrArg (becomes s) ?_, fun fine idle => congrArg (becomes s) (flitRx_idle hl up fine.1 fine.2 idle),
    fun fine data next => ⟨_, rfl, ?_⟩, fun hy => ⟨fun held => ⟨_, rfl, ?_⟩, fun none_ => congrArg (becomes s) ?_⟩,
    fun held => ⟨fun due => ⟨_, rfl, ?_⟩, fun early => congrArg (becomes s) ?_⟩,
    fun asking => ⟨fun due => congrArg (becomes s) ?_, fun early => congrArg (becomes s) ?_⟩, fun idle => congrArg (becomes s) ?_⟩
  · exact (lost bad).trans (asks _ (framed _ _ (by exact first)) (by exact rfl))
  · exact (lost bad).trans (discardFlit_again (framed _ _ (by exact again)))
  · exact (flitRx_altered hl up read altered).trans
      (asks _ ((flitClean_asks c l f _).trans first) rfl)
  · have same := flitRx_gap hl up fine.1 fine.2 data gap
    rw [show ackFlits (flitClean c l f) l (fld f.b 2 2) = y from hy.symm] at same
    exact same.trans (asks y first ((congrArg nowNs hy).trans
      ((sends_now (sends_ack clean l (fld f.b 2 2))).trans (show nowNs clean = now from rfl))))
  · obtain ⟨expected, settled, fine_, taken⟩ := flitRx_data hl up fine.1 fine.2 data next
    exact ⟨expected, settled, fine_, taken m⟩
  · have acts := replayRequest_sends hl up ack
    rw [← hy, if_neg held] at acts
    have same : nowNs y = now := (congrArg nowNs hy).trans (sends_now (sends_ack c l ack))
    obtain ⟨again, since, sent⟩ := resendFlits_spec y l
    show resent y (replayRequest c l ack)
    rw [acts]
    exact ⟨again, since.trans same, sent⟩
  · have acts := replayRequest_sends hl up ack
    rw [← hy, if_pos none_] at acts
    exact acts
  · show resent c (replayTimeout c l)
    rw [replayTimeout_due hl up, if_neg (fun none_ => none_.elim held (Nat.not_lt.2 due))]
    exact resendFlits_spec c l
  · exact (replayTimeout_due hl up).trans (if_pos (.inr early))
  · exact (replayRepeat_asking hl up asking).trans ((if_neg (Nat.not_lt.2 due)).trans (ask c rfl))
  · exact (replayRepeat_asking hl up asking).trans (if_pos early)
  · exact replayRepeat_idle idle

/-! ### Links down -/

/-- Choosing routes again, and sending on them: the state of every link, the counter of `l` going down, and the framing of
`l` while it is down are as before. -/
def Reroutes (l : Nat) (a b : Chip) : Prop :=
  (∀ k, k < 256 → odN b 0x60011 k = odN a 0x60011 k) ∧ odN b (0x60020 + l) 7 = odN a (0x60020 + l) 7
    ∧ (clUp a l = false → clLink b l = clLink a l)

section
variable {l : Nat} (hl : l < 8)

theorem Reroutes.refl (a : Chip) : Reroutes l a a := ⟨fun _ _ => rfl, rfl, fun _ => rfl⟩

include hl in
theorem Reroutes.up {a b : Chip} (h : Reroutes l a b) : clUp b l = clUp a l :=
  congrArg (· == 2) (h.1 (l + 1) (by omega))

include hl in
theorem Reroutes.trans {a b c : Chip} (h : Reroutes l a b) (g : Reroutes l b c) : Reroutes l a c :=
  ⟨fun k hk => (g.1 k hk).trans (h.1 k hk), g.2.1.trans h.2.1, fun off =>
    (g.2.2 ((h.up hl).trans off)).trans (h.2.2 off)⟩

/-- The objects and the links' framing are as before. -/
theorem Reroutes.of_same {a b : Chip} (od : b.od = a.od) (links : b.cons.links = a.cons.links) : Reroutes l a b :=
  ⟨fun _ _ => odN_congr _ _ od _ _, odN_congr _ _ od _ _, fun _ => by unfold clLink; rw [links]⟩

include hl in
theorem reroutes_odSet (c : Chip) (o k n : Nat) (apart : odKey o k < 256 * 0x60011 ∨ 256 * 0x60028 ≤ odKey o k) :
    Reroutes l c (odSet c o k n) := by
  refine ⟨fun k' hk' => odN_odSet_apart _ _ ?_, odN_odSet_apart _ _ ?_, fun _ => rfl⟩
  · unfold odKey at apart ⊢
    omega
  · unfold odKey at apart ⊢
    omega

include hl in
theorem reroutes_raise (c : Chip) (e : Ev) (a : Nat) : Reroutes l c (raise c e a) :=
  .trans hl (.of_same rfl rfl) (reroutes_odSet hl _ _ _ _ (.inl (by decide)))

include hl in
theorem reroutes_member (c : Chip) (o v : Nat) : Reroutes l c (setMember c o v) :=
  reroutes_odSet hl _ _ _ _ (.inr (by unfold odKey; omega))

include hl in
theorem reroutes_route (fresh : Option Nat) (c : Chip) (o : Nat) : Reroutes l c (showRoute fresh c o) := by
  have shown : Reroutes l c (odSetBit c 0x60031 0 o (routeUp c o)) := reroutes_odSet hl _ _ _ _ (.inr (by decide))
  unfold showRoute
  dsimp only
  split
  · split
    · exact shown
    · exact ((shown.trans hl (.of_same rfl rfl)).trans hl (reroutes_member hl _ o 1)).trans hl (reroutes_raise hl _ _ _)
  · split
    · exact (shown.trans hl (reroutes_member hl _ o 0)).trans hl (reroutes_raise hl _ _ _)
    · exact shown
  · split
    · exact ((shown.trans hl (.of_same rfl rfl)).trans hl (reroutes_member hl _ o 0)).trans hl (reroutes_raise hl _ _ _)
    · exact shown
  · split
    · exact (shown.trans hl (reroutes_member hl _ o 0)).trans hl (reroutes_raise hl _ _ _)
    · exact shown

include hl in
theorem reroutes_routes (c : Chip) (fresh : Option Nat) : Reroutes l c (showRoutes c fresh) :=
  foldl_rel (Reroutes l) .refl (fun _ _ _ => .trans hl) _ _ (fun b o _ => reroutes_route hl fresh b o) c

end

/-- Sending on a link changes the framing of no other. -/
theorem sendFlits_other (c : Chip) {l k : Nat} (h : k ≠ l) (ps : List Bytes) : clLink (sendFlits c l ps) k = clLink c k := by
  induction ps generalizing c with
  | nil => rfl
  | cons p r ih =>
    rw [sendFlits]
    exact (ih _).trans (clLink_setCl_other c _ h)

theorem sendOn_other (c : Chip) {l k : Nat} (h : k ≠ l) (vc : Nat) (m : Bytes) : clLink (sendOn c l vc m) k = clLink c k := by
  simp only [sendOn]
  split
  · exact clLink_setCl_other _ _ h
  · split
    · next b sent =>
      simp only [trySend] at sent
      split at sent
      · cases sent
        exact (sendFlits_other _ h _).trans (clLink_setCl_other _ _ h)
      · cases sent
    · exact clLink_setCl_other _ _ h

theorem mem_upLinks {c : Chip} {mask l : Nat} (h : l ∈ upLinks c mask) : clUp c l = true := by
  have both := (List.mem_filter.1 h).2
  exact (Bool.and_eq_true _ _ ▸ both).2

theorem mem_routeLinks {c : Chip} {o l : Nat} (h : l ∈ routeLinks c o) : clUp c l = true := by
  unfold routeLinks at h
  dsimp only at h
  split at h
  · exact mem_upLinks h
  · split at h
    · exact mem_upLinks h
    · exact mem_upLinks h

theorem reroutes_msg (l : Nat) (c : Chip) (m : Bytes) : Reroutes l c (sendMsg c m) := by
  have sent := sends_msg c m
  refine ⟨fun k hk => congrArg OdVal.nat (sent.2 _ k hk (.inl (by decide))),
    congrArg OdVal.nat (sent.2 _ 7 (by decide) (.inr (by decide))), fun off => ?_⟩
  unfold sendMsg
  split
  · split <;> rfl
  · next k r route =>
    have chosen (i : Nat) : ((k :: r).drop i).headD k ∈ k :: r := by
      cases e : (k :: r).drop i with
      | nil => exact List.mem_cons_self
      | cons x xs => exact List.mem_of_mem_drop (i := i) (by rw [e]; exact List.mem_cons_self)
    refine sendOn_other (takeFree c 32).2 (fun same => ?_) _ _
    have up := chosen ((takeFree c 32).1 % (r.length + 1))
    rw [← same, ← route] at up
    exact absurd (mem_routeLinks up) (ne_true_of_eq_false off)

section
variable {l : Nat} (hl : l < 8)
include hl

theorem reroutes_kept (c : Chip) (p : Nat × Nat × Bytes → Bool) : Reroutes l c (resendKept c p) := by
  refine foldl_rel (Reroutes l) .refl (fun _ _ _ => .trans hl) _ _ (fun b k _ => ?_) c
  split
  · exact (reroutes_odSet hl _ _ _ _ (.inr (by decide))).trans hl (reroutes_msg l _ _)
  · exact .refl b

theorem reroutes_stranded (c : Chip) : Reroutes l c (resendStranded c) :=
  .trans hl (.of_same rfl rfl) (foldl_rel (Reroutes l) .refl (fun _ _ _ => .trans hl) _ _ (fun b m _ => reroutes_msg l b m) _)

/-- A link that goes down is in state `st`, holds no flit, and has counted nothing more (R561, R587). -/
theorem linkDown_spec (c : Chip) {st : Nat} (down : st ≠ 2) : odN (linkDown c l st) 0x60011 (l + 1) = st
    ∧ (clLink (linkDown c l st) l).buf = [] ∧ odN (linkDown c l st) (0x60020 + l) 7 = odN c (0x60020 + l) 7 := by
  unfold linkDown
  dsimp only
  generalize hb : (if switchOver (odSet c 0x60011 (l + 1) st) l = true then odSet c 0x60011 (l + 1) st
    else odSet (odSet c 0x60011 (l + 1) st) 0x60012 (l + 1)
      (((clLink c l).switch.map (fun x : Nat × Nat => x.1)).getD 0)) = b
  have state : odN b 0x60011 (l + 1) = st ∧ odN b (0x60020 + l) 7 = odN c (0x60020 + l) 7 := by
    rw [← hb]
    split
    · exact ⟨odN_odSet_same _ _ _ _, odN_odSet_ne _ _ _ _ _ _ (by omega) (by decide) (.inl (by omega))⟩
    · exact ⟨(odN_odSet_ne _ _ _ _ _ _ (by omega) (by omega) (.inl (by decide))).trans (odN_odSet_same _ _ _ _),
        (odN_odSet_ne _ _ _ _ _ _ (by omega) (by decide) (.inl (by omega))).trans
          (odN_odSet_ne _ _ _ _ _ _ (by omega) (by decide) (.inl (by omega)))⟩
  have after := ((reroutes_routes hl (setCl b l { ClLink.off with badLanes := (clLink c l).badLanes }) none).trans hl
    (foldl_rel (Reroutes l) .refl (fun _ _ _ => .trans hl) sendMsg
      (((clLink c l).msgs.map (·.2) ++ (clLink c l).waiting.map (·.2)).filter
        (fun m => !ownAdd (showRoutes (setCl b l { ClLink.off with badLanes := (clLink c l).badLanes }) none) m))
      (fun b m _ => reroutes_msg l b m) _)).trans hl (reroutes_kept hl _ (fun k =>
        ((clLink c l).msgs.map (·.2) ++ (clLink c l).waiting.map (·.2)).contains k.2.2))
  obtain ⟨states, counter, framing⟩ := after
  have off : clUp (setCl b l { ClLink.off with badLanes := (clLink c l).badLanes }) l = false := by
    show (odN b 0x60011 (l + 1) == 2) = false
    rw [state.1]
    simp [down]
  refine ⟨(states (l + 1) (by omega)).trans state.1, ?_, counter.trans state.2⟩
  refine (congrArg ClLink.buf (framing off)).trans ?_
  rw [clLink_setCl_same]
  rfl

theorem clDown_spec (c : Chip) : odN (clDown c l) 0x60011 (l + 1) = 1 ∧ (clLink (clDown c l) l).buf = []
    ∧ odN (clDown c l) (0x60020 + l) 7 = (odN c (0x60020 + l) 7 + 1) % 2 ^ 64 := by
  obtain ⟨state, held, count⟩ := linkDown_spec hl (raise (odAdd64 c (0x60020 + l) 7 1) evClDown l) (st := 1) (by decide)
  refine ⟨state, held, count.trans ?_⟩
  rw [odN_raise _ _ _ _ _ (by decide) (.inr (by decide)), odN_odAdd64_same]

theorem clRetire_state (c : Chip) : odN (clRetire c l) 0x60011 (l + 1) = 4 :=
  (odN_raise _ _ _ _ _ (by omega) (.inl (by decide))).trans (linkDown_spec hl _ (by decide)).1

/-! ### Training -/

theorem clUpNow_state (c : Chip) (rec : Bytes) : odN (clUpNow c l rec) 0x60011 (l + 1) = 2 := by
  have after := ((reroutes_routes hl (raise (odSet (setCl c l { ClLink.off with
      badLanes := (clLink c l).badLanes, credit0 := fld rec 12 4, credit1 := fld rec 16 4 }) 0x60011 (l + 1) 2) evClUp
        (l + 256 * fld rec 6 1)) (some l)).trans hl (reroutes_stranded hl _)).trans hl (reroutes_kept hl _ (fun k =>
          ((List.range 16).filter (fun o => !bit (odN (raise (odSet (setCl c l { ClLink.off with
            badLanes := (clLink c l).badLanes, credit0 := fld rec 12 4, credit1 := fld rec 16 4 }) 0x60011 (l + 1) 2) evClUp
              (l + 256 * fld rec 6 1)) 0x60031 0) o)).contains k.1))
  refine (after.1 (l + 1) (by omega)).trans ?_
  rw [odN_raise _ _ _ _ _ (by omega) (.inl (by decide)), odN_odSet_same]

end

section
variable {c : Chip} {l : Nat} {rec : Bytes} {peerOk other : Bool}

/-- A training exchange of a link that may train, and is not up (R565, R583). -/
theorem clTraining_meets (may : mayTrain c l = true) (off : clUp c l = false) : clTraining c l rec peerOk other =
    if recordOk c l rec && peerOk && !(other && memberState c (fld rec 6 1) == 0) then clUpNow (sendBare c l 3 0 0 (trainRecord c l)) l rec
    else raise (odSet (sendBare c l 3 0 0 (trainRecord c l)) 0x60011 (l + 1) 3) evClMiswired
      (l + 256 * fld rec 6 1 + 65536 * fld rec 7 1) := by
  have hl : l < 8 := by
    unfold mayTrain at may
    simp only [Bool.and_eq_true, decide_eq_true_eq] at may
    exact may.1.1.1.1.1
  have held : memberState (sendBare c l 3 0 0 (trainRecord c l)) (fld rec 6 1) = memberState c (fld rec 6 1) :=
    odN_odSet_apart c _ (by unfold odKey; omega)
  unfold clTraining
  rw [if_neg (by simp [may, off])]
  dsimp only
  rw [held]
  rfl

end

/-! ### The training slot -/

/-- What link `l` does in the training slot: one that may train, and is down or miswired, begins. -/
def slotStep (c : Chip) (l : Nat) : Chip :=
  if mayTrain c l && (odN c 0x60011 (l + 1) == 0 || odN c 0x60011 (l + 1) == 3) then odSet c 0x60011 (l + 1) 1 else c

theorem clSlot_steps {c : Chip} (slot : inSlot c = true) : clSlot c = (List.range 8).foldl slotStep c :=
  if_neg (by simp [slot])

theorem mayTrain_congr {b c : Chip} {k : Nat} (cons : b.cons = c.cons) (state : odN b 0x60011 (k + 1) = odN c 0x60011 (k + 1))
    (left_ : odN b 0x60042 0 = odN c 0x60042 0) (power_ : power b = power c) : mayTrain b k = mayTrain c k := by
  have force (i : Nat) : inForce b i = inForce c i := congrArg (fun x : Consist => x.force.getD i 0) cons
  unfold mayTrain linkMap
  rw [force, force, state, left_, power_]

section
variable (c : Chip) {l : Nat} (hl : l < 8)

theorem slotStep_rest (l : Nat) : slotStep c l = { c with od := (slotStep c l).od } := by
  unfold slotStep
  split <;> rfl

include hl in
theorem slotStep_apart {o k : Nat} (hk : k < 256) (apart : o ≠ 0x60011 ∨ k ≠ l + 1) : odGet (slotStep c l) o k = odGet c o k := by
  unfold slotStep
  split
  · exact odGet_odPut_other _ _ _ _ _ _ (odKey_ne _ _ _ _ hk (by omega) apart)
  · rfl

theorem slotStep_state (l : Nat) : odN (slotStep c l) 0x60011 (l + 1) =
    if mayTrain c l = true ∧ (odN c 0x60011 (l + 1) = 0 ∨ odN c 0x60011 (l + 1) = 3) then 1 else odN c 0x60011 (l + 1) := by
  unfold slotStep
  simp only [Bool.and_eq_true, Bool.or_eq_true, beq_iff_eq]
  split
  · exact odN_odSet_same _ _ _ _
  · rfl

include hl in
/-- The state of one link decides nothing for another. -/
theorem mayTrain_slotStep {k : Nat} (hk : k < 8) (other : k ≠ l) : mayTrain (slotStep c l) k = mayTrain c k
    ∧ odN (slotStep c l) 0x60011 (k + 1) = odN c 0x60011 (k + 1) := by
  have apart {o i : Nat} (hi : i < 256) (h : o ≠ 0x60011 ∨ i ≠ l + 1) : odN (slotStep c l) o i = odN c o i :=
    congrArg OdVal.nat (slotStep_apart c hl hi h)
  have state := apart (o := 0x60011) (i := k + 1) (by omega) (.inr (by omega))
  refine ⟨mayTrain_congr ?_ state (apart (by decide) (.inl (by decide))) (apart (by decide) (.inl (by decide))), state⟩
  rw [slotStep_rest c l]

end

theorem slotSteps_spec (ls : List Nat) (each : ls.Nodup) (small : ∀ l ∈ ls, l < 8) (c : Chip) :
    ls.foldl slotStep c = { c with od := (ls.foldl slotStep c).od }
    ∧ (∀ o k, k < 256 → (∀ l ∈ ls, o ≠ 0x60011 ∨ k ≠ l + 1) → odGet (ls.foldl slotStep c) o k = odGet c o k)
    ∧ ∀ k ∈ ls, odN (ls.foldl slotStep c) 0x60011 (k + 1) =
        if mayTrain c k = true ∧ (odN c 0x60011 (k + 1) = 0 ∨ odN c 0x60011 (k + 1) = 3) then 1 else odN c 0x60011 (k + 1) := by
  induction ls generalizing c with
  | nil => exact ⟨rfl, fun _ _ _ _ => rfl, fun k hk => absurd hk List.not_mem_nil⟩
  | cons l r ih =>
    obtain ⟨new, each⟩ := List.nodup_cons.1 each
    have hl := small l List.mem_cons_self
    obtain ⟨rest, frame, states⟩ := ih each (fun x hx => small x (List.mem_cons_of_mem _ hx)) (slotStep c l)
    rw [List.foldl_cons]
    refine ⟨?_, fun o k hk apart => ?_, fun k hk => ?_⟩
    · rw [rest, slotStep_rest c l]
    · exact (frame o k hk fun x hx => apart x (List.mem_cons_of_mem _ hx)).trans
        (slotStep_apart c hl hk (apart l List.mem_cons_self))
    · rcases List.mem_cons.1 hk with rfl | later
      · refine (congrArg OdVal.nat (frame 0x60011 (k + 1) (by omega) fun x hx => .inr fun same => ?_)).trans (slotStep_state c k)
        exact new (Nat.succ_inj.1 same ▸ hx)
      · obtain ⟨may, state⟩ := mayTrain_slotStep c hl (small k hk) (fun same => new (same ▸ later))
        rw [states k later, may, state]

/-! ### Lanes and members -/

section
variable {c : Chip} {l lane : Nat} (hl : l < 8) (up : clUp c l = true)
include hl up

theorem clDown_acts (lock : Bool) : clDownRow c l lock =
    if lock && spareLane c l == 7 then clRetire c l
    else if 16 ≤ (clLink c l).resends ∨ 8 ≤ (clLink c l).undec then clDown c l else c :=
  if_neg (by simp [up]; omega)

theorem laneSuspect_acts (hlane : lane < 5) (good : (clLink c l).badLanes.contains lane = false)
    (free : fenced c (uLane l lane) = false) (carries : (logicalOf (odN c 0x60012 (l + 1)) lane).isSome = true) (lock : Bool) :
    laneSuspect c l lane lock =
      if spareLane c l = 7 then recordError (clRetire c l) 4 (if lock then 6 else 2) (uLane l lane) 0 0 lane
      else recordError (laneSwitch (sendBare c l 4 0 0 (leBytes 1 lane ++ leBytes 1 (spareLane c l)
        ++ leBytes 2 (((clLink c l).nextF + 64) % 65536))) l lane (spareLane c l)) 2 (if lock then 6 else 2) (uLane l lane) 0 0 lane := by
  have taken : ¬ (8 ≤ l ∨ 5 ≤ lane ∨ (!clUp c l) = true ∨ (clLink c l).badLanes.contains lane = true
      ∨ fenced c (uLane l lane) = true) := by
    rw [up, good, free]
    simp
    omega
  unfold laneSuspect
  refine (if_neg taken).trans (if_neg ?_)
  rw [Option.isNone_iff_eq_none]
  exact fun none_ => by rw [none_] at carries; cases carries

theorem laneControl_switches {spare : Nat} (its : spareLane c l = spare) (some_ : spare ≠ 7)
    (carries : (logicalOf (odN c 0x60012 (l + 1)) lane).isSome = true) :
    laneControl c l lane spare = recordError (laneSwitch c l lane spare) 2 6 (uLane l lane) 0 0 lane := by
  refine if_neg ?_
  rw [up, its]
  rintro (big | down | other | none_ | idle)
  · omega
  · cases down
  · exact other rfl
  · exact some_ none_
  · rw [Option.isNone_iff_eq_none] at idle
    rw [idle] at carries
    cases carries

end

theorem laneControl_other {c : Chip} {l spare : Nat} (other : spareLane c l ≠ spare) (lane : Nat) : laneControl c l lane spare = c :=
  if_pos (.inr (.inr (.inl other)))

theorem memberTimeout_acts {c : Chip} {o : Nat} (ho : o < 16) (cut : memberState c o = 1) : memberTimeout c o =
    if nowNs c < tget 0 c.cons.lostAt o + ms (odN c 0x60032 0) then c else memberLeft c o := by
  unfold memberTimeout
  simp only [Nat.not_le.2 ho, cut, ne_eq, not_true_eq_false, false_or]

theorem clTraining_barred {c : Chip} {l : Nat} (no : mayTrain c l = false) (rec : Bytes) (peerOk other : Bool) :
    clTraining c l rec peerOk other = c := if_pos (.inl (by simp [no]))

theorem clSlot_outside {c : Chip} (no : inSlot c = false) : clSlot c = c := if_pos (by simp [no])

/-- 23 R561 to R569. -/
theorem linksAndMembers : Claim.LinksAndMembers := by
  intro s l lane spare fseq o rec lock peerOk other hl c link map detect
  refine ⟨fun up => ?down, fun up hlane good free carries => ⟨fun none_ => congrArg (becomes s) ?_,
      fun its some_ => congrArg (becomes s) ?_⟩,
    fun up hf => ⟨fun its some_ carries => congrArg (becomes s) ((if_pos hf).trans (laneControl_switches hl up its some_ carries)),
      fun foreign => congrArg (becomes s) ((if_pos hf).trans (laneControl_other foreign lane))⟩, rfl,
    fun may off => ?training, fun no => congrArg (becomes s) (clTraining_barred no rec peerOk other), fun slot => ?slot,
    fun no => congrArg (becomes s) (clSlot_outside no), fun ho cut => ?member⟩
  case down =>
    have acts (b : Chip) (does : clDownRow c l lock = b) : exec (.clDown l lock) s = becomes s b := congrArg (becomes s) does
    refine ⟨fun held lost => ⟨acts _ ?_, clDown_spec hl c⟩, fun lost none_ => ⟨acts _ ?_, clRetire_state hl c⟩,
      fun held few fine => acts _ ?_⟩
    · rw [clDown_acts hl up, held, if_neg (by simp), if_pos lost]
    · rw [clDown_acts hl up, lost, if_pos (by simp [none_])]
    · rw [clDown_acts hl up, held, if_neg (by simp), if_neg (fun e => e.elim (Nat.not_le.2 few) (Nat.not_le.2 fine))]
  · exact (laneSuspect_acts hl up hlane good free carries lock).trans (if_pos none_)
  · exact (laneSuspect_acts hl up hlane good free carries lock).trans ((if_neg (its ▸ some_)).trans (by rw [its]))
  case training =>
    intro y held
    have acts := clTraining_meets (rec := rec) (peerOk := peerOk) (other := other) may off
    refine ⟨fun its accepts free => ⟨congrArg (becomes s) (acts.trans (if_pos ?_)), clUpNow_state hl y rec⟩,
      fun wrong => congrArg (becomes s) (acts.trans (if_neg ?_))⟩
    · rw [its, accepts, show (other && memberState c (fld rec 6 1) == 0) = false from free]
      rfl
    · rw [Bool.and_eq_true, Bool.and_eq_true, Bool.not_eq_true']
      rintro ⟨⟨its, accepts⟩, free⟩
      rcases wrong with bad | refused | taken
      · exact absurd its (ne_true_of_eq_false bad)
      · exact absurd accepts (ne_true_of_eq_false refused)
      · exact absurd taken (ne_true_of_eq_false free)
  case slot =>
    obtain ⟨rest, frame, states⟩ := slotSteps_spec (List.range 8) List.nodup_range (fun l hl => List.mem_range.1 hl) c
    refine ⟨_, congrArg (becomes s) (clSlot_steps slot), rest, fun o k hk out => frame o k hk fun x hx => ?_,
      fun k hk => states k (List.mem_range.2 hk)⟩
    refine not_and_or.1 fun ⟨object, number⟩ => out (List.mem_map.2 ⟨x, hx, ?_⟩)
    rw [object, number]
  case member =>
    exact ⟨fun due => congrArg (becomes s) ((memberTimeout_acts ho cut).trans (if_neg (Nat.not_lt.2 due))),
      fun early => congrArg (becomes s) ((memberTimeout_acts ho cut).trans (if_pos early))⟩

/-- Settles O59: a flit by its kind and its number, a link by what its training and its lanes allow. -/
theorem couplingLinks : Obligations.CouplingLinks := ⟨flits, linksAndMembers⟩

end Sys2Proof.Machine
end

/-! ## The relay engine -/
section
namespace Sys2Proof.Machine

/-! ### Descriptors -/

/-- Every row of the relay engine is `relayRow` of its OP (Table 23-6). -/
theorem relayRows_run (s : State) (k : Nat) : ∀ p ∈ ([(0x60, .copy k), (0x61, .broadcast k), (0x62, .allGather k),
    (0x63, .reduceScatter k), (0x64, .allReduce k)] : List (Nat × Instr)), exec p.2 s = becomes s (relayRow s.chip k p.1) := by
  have copy : exec (.copy k) s = becomes s (relayRow s.chip k 0x60) := rfl
  have broadcast : exec (.broadcast k) s = becomes s (relayRow s.chip k 0x61) := rfl
  have gather : exec (.allGather k) s = becomes s (relayRow s.chip k 0x62) := rfl
  have scatter : exec (.reduceScatter k) s = becomes s (relayRow s.chip k 0x63) := rfl
  have reduce : exec (.allReduce k) s = becomes s (relayRow s.chip k 0x64) := rfl
  simp only [List.forall_mem_cons, List.not_mem_nil, false_imp_iff, implies_true, and_true]
  exact ⟨copy, broadcast, gather, scatter, reduce⟩

theorem relayRow_empty {c : Chip} {k : Nat} (none_ : (portQ c (32 + k)).waiting = []) (op : Nat) : relayRow c k op = c := by
  unfold relayRow
  rw [none_]

section
variable {c : Chip} {k : Nat} {e : PqEntry} {rest : List PqEntry} (head : (portQ c (32 + k)).waiting = e :: rest)
include head

theorem relayRow_other {op : Nat} (other : rOp e.b ≠ op) : relayRow c k op = c := by
  unfold relayRow
  rw [head]
  exact if_pos (.inr (.inl other))

variable (hk : k < 16) (fresh : tagTaken c = false)
include hk fresh

theorem relayRow_its : relayRow c k (rOp e.b) =
    if relayInvalid c (portCore c (32 + k)) e.b then relayReject (takeWaiting c (32 + k) e.id) k e.id e.b e.adm 1
    else if e.adm = 0 ∨ c.cons.leaving.isSome then c
    else relayStart (takeWaiting c (32 + k) e.id) k e.id e.b e.adm := by
  unfold relayRow
  rw [head]
  refine if_neg ?_
  rintro (big | other | taken)
  · omega
  · exact other rfl
  · rw [fresh] at taken
    cases taken

theorem relayRow_waits (good : relayInvalid c (portCore c (32 + k)) e.b = false)
    (waits : e.adm = 0 ∨ c.cons.leaving.isSome = true) : relayRow c k (rOp e.b) = c := by
  rw [relayRow_its head hk fresh, if_neg (ne_true_of_eq_false good)]
  exact if_pos waits

theorem relayRow_starts (good : relayInvalid c (portCore c (32 + k)) e.b = false) (admitted : e.adm ≠ 0)
    (stays : c.cons.leaving = none) :
    relayRow c k (rOp e.b) = relayStart (takeWaiting c (32 + k) e.id) k e.id e.b e.adm := by
  rw [relayRow_its head hk fresh, if_neg (ne_true_of_eq_false good)]
  refine if_neg ?_
  rw [stays]
  rintro (none_ | leaves)
  · exact admitted none_
  · cases leaves

end

theorem opEnd_running {r : RelayOp} (runs : r.status = none) (st fault : Nat) :
    opEnd r st fault = { r with status := some st, fail := fault } :=
  if_neg (by rw [runs]; exact Bool.false_ne_true)

/-- A new operation that ends at once is the last of the list. -/
theorem setOp_last {c : Chip} {ops : List RelayOp} {r : RelayOp} {st fault : Nat} (runs : r.status = none)
    (new : ∀ x ∈ ops, x.tag ≠ r.tag) (listed : c.cons.ops = ops ++ [r]) : setOp c (opEnd r st fault)
      = { c with cons := { c.cons with ops := ops ++ [{ r with status := some st, fail := fault }] } } := by
  have kept (r' : RelayOp) : ops.map (fun x => if x.tag == r.tag then r' else x) = ops := by
    refine (List.map_congr_left fun x hx => ?_).trans (List.map_id ops)
    rw [if_neg (by simpa using new x hx)]
    rfl
  unfold setOp
  rw [opEnd_running runs, listed, List.map_append, kept, List.map_cons, List.map_nil, if_pos (beq_self_eq_true r.tag)]

/-- A COPY to a package that has left ends with PEER_LOST (R576, R582). -/
theorem relayStart_lost {c : Chip} {k id adm : Nat} {b : Bytes} (copy : rOp b = 0x60) (fresh : tagTaken c = false)
    (gone : memberState c (rTarget b) = 2) : relayStart c k id b adm = { c with cons := { c.cons with
      ops := c.cons.ops ++ [⟨k, id, b, adm, c.cons.nextTag, [], (groupPos c (rTarget b)).getD 0, 0, [], 0, [], 0, 0, rTarget b,
        nowNs c, 0, some 5⟩]
      nextTag := (c.cons.nextTag + 1) % 2 ^ 16 } } := by
  have new : ∀ x ∈ c.cons.ops, x.tag ≠ c.cons.nextTag := fun x hx same => by
    have := List.any_eq_false.1 fresh x hx
    simp [same] at this
  have single : isGroupOp (rOp b) = false := by rw [copy]; rfl
  unfold relayStart
  rw [single]
  refine Eq.trans (b := copyStart _ _) rfl ?_
  unfold copyStart
  refine (if_pos gone).trans ?_
  exact setOp_last rfl new rfl

/-! ### The end of an operation -/

section
variable {c : Chip} {tag : Nat} {r : RelayOp} (listed : opOf c tag = some r)
include listed

theorem groupTimeout_acts (group : isGroupOp (rOp r.b) = true) : groupTimeout c tag =
    if r.since + ms (odN c 0x60032 0) < nowNs c then setOp c (opEnd r 5 (silentMember c r)) else c := by
  unfold groupTimeout
  rw [listed]
  simp only [group, true_and]

theorem relayComplete_ended {st : Nat} (ended : r.status = some st) : relayComplete c tag = leaveCheck (relayFinish c r st) := by
  unfold relayComplete
  rw [listed]
  dsimp only
  rw [ended]

theorem relayComplete_running (runs : r.status = none) : relayComplete c tag =
    if c.cons.leaving.any (fun t => decide (t + ms 100 ≤ nowNs c)) then leaveCheck (relayFinish c r 7) else c := by
  unfold relayComplete
  rw [listed]
  dsimp only
  rw [runs]

end

theorem relayCount_cons (c : Chip) (r : RelayOp) (st : Nat) : (relayCount c r st).cons = c.cons := by
  unfold relayCount
  dsimp only
  split
  · split <;> rfl
  · rfl

theorem leaveCheck_stays {c : Chip} (stays : c.cons.leaving = none) : leaveCheck c = c :=
  if_neg (by rw [stays]; exact fun leaves => Bool.false_ne_true leaves.1)

/-- The completion of a descriptor without an admission, and with no signal to add to. -/
theorem relayFinish_quiet {c y : Chip} {r : RelayOp} {k st : Nat} (queue : r.queue = k) (hk : k < 16) (free : r.adm = 0)
    (silent : rSignal r.b = 0xFFFF) (alone : rRemote r.b = 0xFFFF)
    (hy : y = { c with cons := { c.cons with ops := c.cons.ops.filter (fun x => x.tag != r.tag) } }) :
    relayFinish c r st = relayCount (portComplete (setPortQ y (32 + k)
      { portQ y (32 + k) with running := (portQ y (32 + k)).running - 1 }) (32 + k) st r.fail r.b r.bytes) r st := by
  subst queue
  have remote (b : Chip) : remoteAdds b r = b := if_pos alone
  have local_ (b : Chip) (g : SigAgent) : addSignal b g (rSignal r.b) = b := if_pos silent
  have kept (b : Chip) : dropAdm b r.adm = b := if_pos free
  unfold relayFinish
  dsimp only
  rw [kept, if_pos hk, local_, remote, ite_self, hy]

/-! ### Leaving -/

theorem consistLeave_again {c : Chip} (left_ : odN c 0x60042 0 = 1) (rq : Rq) (arg : Bytes) : actConsistLeave c rq arg = (0, [], c) :=
  if_pos (.inl left_)

theorem consistLeave_begins {c : Chip} (here : odN c 0x60042 0 = 0) (stays : c.cons.leaving = none) (rq : Rq) (arg : Bytes) :
    actConsistLeave c rq arg = (0, [], leaveCheck { c with cons := { c.cons with leaving := some (nowNs c) } }) := by
  refine if_neg ?_
  rw [here, stays]
  rintro (left_ | leaves)
  · cases left_
  · cases leaves

theorem leaveCheck_leaves {c : Chip} {t : Nat} (leaves : c.cons.leaving = some t) :
    leaveCheck c = if c.cons.ops = [] then leaveNow c else c := by
  unfold leaveCheck
  simp only [leaves, Option.isSome_some, true_and]

/-- 23 R573 to R578, R582. -/
theorem relayOperations : Claim.RelayOperations := by
  intro s rq k tag st o e rest r y c now cons rows
  refine ⟨fun hk head fresh p hp => ?row, fun _ none_ p hp => (relayRows_run s k p hp).trans (congrArg (becomes s)
      (relayRow_empty none_ p.1)), fun hk head fresh copy good admitted stays gone hr => ?lost, fun listed group => ?timeout,
    fun listed => ⟨fun ended => congrArg (becomes s) (relayComplete_ended listed ended), fun runs leaves late => ?_,
      fun runs stays => ?_, fun ended stays queue hk free silent alone hy => ?_⟩,
    fun ok here stays hy => ?leave, fun ok left_ => actionRow_acks _ s rq _ [] _ ok (consistLeave_again left_ rq [])⟩
  case row =>
    have runs := relayRows_run s k p hp
    refine ⟨fun other => runs.trans (congrArg (becomes s) (relayRow_other head other)), fun its bad => runs.trans ?_,
      fun its good => ⟨fun waits => runs.trans ?_, fun admitted stays => runs.trans ?_⟩⟩
    · rw [← its, relayRow_its head hk fresh]
      exact congrArg (becomes s) (if_pos bad)
    · rw [← its, relayRow_waits head hk fresh good waits]
    · rw [← its, relayRow_starts head hk fresh good admitted stays]
  case lost =>
    have starts := relayRow_starts head hk fresh good admitted stays
    have ends := relayStart_lost (c := takeWaiting c (32 + k) e.id) (k := k) (id := e.id) (adm := e.adm) copy fresh gone
    rw [copy] at starts
    rw [hr]
    exact congrArg (becomes s) (starts.trans ends)
  case timeout =>
    exact ⟨fun late => congrArg (becomes s) ((groupTimeout_acts listed group).trans (if_pos late)),
      fun within => congrArg (becomes s) ((groupTimeout_acts listed group).trans (if_neg (Nat.not_lt.2 within)))⟩
  · have due : c.cons.leaving.any (fun t => decide (t + ms 100 ≤ nowNs c)) = true := by
      rw [leaves, Option.any_some]
      exact decide_eq_true late
    exact congrArg (becomes s) ((relayComplete_running listed runs).trans (if_pos due))
  · have calm : ¬ c.cons.leaving.any (fun t => decide (t + ms 100 ≤ nowNs c)) = true := by
      rw [stays]
      exact Bool.false_ne_true
    exact congrArg (becomes s) ((relayComplete_running listed runs).trans (if_neg calm))
  · have ends := relayFinish_quiet (c := c) (st := st) queue hk free silent alone hy
    have same : (relayFinish c r st).cons.leaving = none := by
      rw [ends, relayCount_cons, hy]
      exact stays
    exact congrArg (becomes s) ((relayComplete_ended listed ended).trans ((leaveCheck_stays same).trans ends))
  case leave =>
    have acts := actionRow_acks actConsistLeave s rq 0x60040 [] _ ok (consistLeave_begins here stays rq [])
    rw [show ({ c with cons := { c.cons with leaving := some (nowNs c) } } : Chip) = y from hy.symm,
      leaveCheck_leaves (t := now) (by rw [hy])] at acts
    have ops : y.cons.ops = c.cons.ops := by rw [hy]
    rw [ops] at acts
    exact ⟨fun busy => acts.trans (congrArg (acks s rq) (if_neg busy)), fun idle => acts.trans (congrArg (acks s rq) (if_pos idle))⟩

end Sys2Proof.Machine
end

/-! ## Messages between packages -/
section
namespace Sys2Proof.Machine

/-- The one message of the receive buffer, taken out with its credit returned. -/
def messageTaken (c : Chip) (l : Nat) (m : Bytes) : Chip := giveCredit { c with cons := { c.cons with inbox := [] } } l m

section
variable {c : Chip} {l : Nat} {m : Bytes} (only : c.cons.inbox = [(l, m)])
include only

theorem withMsg_other {type : Nat} (other : fld m 0 1 ≠ type) (q : Bytes → Bool) (k : Chip → Bytes → Chip) : withMsg c type q k = c :=
  withMsg_none (by rw [only]; simp [other]) q k

theorem withMsg_refused {type : Nat} {q : Bytes → Bool} (no : q m = false) (k : Chip → Bytes → Chip) : withMsg c type q k = c := by
  have missing : c.cons.inbox.find? (fun m => fld m.2 0 1 == type && q m.2) = none := by
    rw [only]
    simp [no]
  unfold withMsg
  rw [missing]

/-! ### Signal adds -/

section
variable (its : fld m 0 1 = 1) {z : Chip} (hz : z = sendMsg (messageTaken c l m) (message 2 (ownOrd (messageTaken c l m)) (msgSrc m)
  (fld m 2 1) 0 (addSeq m % 65536) (addSeq m / 65536 * 2 ^ 48) []))
include its hz

/-- An add is acknowledged; what it does then depends on its place in the sequence (R571). -/
theorem msgSignalAdd_acts : msgSignalAdd c =
    if addSeq m = tget 0 c.cons.nextApply (msgSrc m) then
      applyEarly (applyMsgAdd { z with cons := { z.cons with
        nextApply := tput z.cons.nextApply (msgSrc m) ((addSeq m + 1) % 2 ^ 32) } } m) (msgSrc m) (z.cons.early.length + 1)
    else if (addSeq m + 2 ^ 32 - tget 0 c.cons.nextApply (msgSrc m)) % 2 ^ 32 < 2 ^ 31
        ∧ !z.cons.early.any (fun e => e.1 == msgSrc m && e.2.1 == addSeq m) then
      { z with cons := { z.cons with early := z.cons.early ++ [(msgSrc m, addSeq m, m)] } }
    else z := by
  rw [hz]
  exact withMsg_only only its rfl _

theorem msgSignalAdd_due (due : addSeq m = tget 0 c.cons.nextApply (msgSrc m)) : msgSignalAdd c =
    applyEarly (applyMsgAdd { z with cons := { z.cons with
      nextApply := tput z.cons.nextApply (msgSrc m) ((addSeq m + 1) % 2 ^ 32) } } m) (msgSrc m) (z.cons.early.length + 1) :=
  (msgSignalAdd_acts only its hz).trans (if_pos due)

theorem msgSignalAdd_early (ahead : addSeq m ≠ tget 0 c.cons.nextApply (msgSrc m))
    (near : (addSeq m + 2 ^ 32 - tget 0 c.cons.nextApply (msgSrc m)) % 2 ^ 32 < 2 ^ 31)
    (new : ∀ e ∈ z.cons.early, e.1 ≠ msgSrc m ∨ e.2.1 ≠ addSeq m) : msgSignalAdd c =
      { z with cons := { z.cons with early := z.cons.early ++ [(msgSrc m, addSeq m, m)] } } := by
  have fresh : (!z.cons.early.any (fun e => e.1 == msgSrc m && e.2.1 == addSeq m)) = true := by
    rw [Bool.not_eq_true', List.any_eq_false]
    intro e he same
    rw [Bool.and_eq_true, beq_iff_eq, beq_iff_eq] at same
    exact (new e he).elim (· same.1) (· same.2)
  exact (msgSignalAdd_acts only its hz).trans ((if_neg ahead).trans (if_pos ⟨near, fresh⟩))

theorem msgSignalAdd_late (late : 2 ^ 31 ≤ (addSeq m + 2 ^ 32 - tget 0 c.cons.nextApply (msgSrc m)) % 2 ^ 32) :
    msgSignalAdd c = z := by
  have past : addSeq m ≠ tget 0 c.cons.nextApply (msgSrc m) := fun same => by
    rw [← same, Nat.add_sub_cancel_left] at late
    exact absurd late (by decide)
  exact (msgSignalAdd_acts only its hz).trans ((if_neg past).trans (if_neg fun near => absurd near.1 (Nat.not_lt.2 late)))

end

/-! ### Writes -/

section
variable (its : fld m 0 1 = 3)
include its

/-- A WRITE is placed and answered with its outcome (R575). -/
theorem msgWrite_acts {x : Xfer} (hx : x = placeWrite (messageTaken c l m) (fld m 2 1) (fld m 8 8) (m.drop 16)) : msgWrite c =
    (let z := if x.st = 0 then odAdd64 x.s 0x60090 3 (m.drop 16).length else x.s
     sendMsg z (message 4 (ownOrd z) (msgSrc m) (fld m 2 1) 0 (fld m 6 2) (fld m 8 8) (leBytes 1 (relayXferStatus x.st)))) := by
  rw [hx]
  exact withMsg_only only its rfl _

theorem msgWrite_outside (device : fld m 2 1 = 0xFF) (out : inInbound (messageTaken c l m) (fld m 8 8) (m.drop 16).length = false) :
    msgWrite c = sendMsg (messageTaken c l m) (message 4 (ownOrd (messageTaken c l m)) (msgSrc m) 0xFF 0 (fld m 6 2) (fld m 8 8)
      (leBytes 1 2)) := by
  have refused : placeWrite (messageTaken c l m) (fld m 2 1) (fld m 8 8) (m.drop 16) = ⟨1, [], 0, messageTaken c l m⟩ :=
    if_pos ⟨device, by rw [out]; rfl⟩
  rw [msgWrite_acts only its refused.symm, device]
  rfl

theorem msgWrite_placed {x : Xfer} {g : Agent} (hg : g = if fld m 2 1 = 0xFF then .phys else .plat (fld m 2 1))
    (within : ¬ (fld m 2 1 = 0xFF ∧ (!inInbound (messageTaken c l m) (fld m 8 8) (m.drop 16).length) = true))
    (hx : x = xferWrite (messageTaken c l m) g (fld m 8 8) (m.drop 16) 0 0 uRelay Bound.free) (done : x.st = 0) {z : Chip}
    (hz : z = odAdd64 x.s 0x60090 3 (m.drop 16).length) :
    msgWrite c = sendMsg z (message 4 (ownOrd z) (msgSrc m) (fld m 2 1) 0 (fld m 6 2) (fld m 8 8) (leBytes 1 0)) := by
  have placed : placeWrite (messageTaken c l m) (fld m 2 1) (fld m 8 8) (m.drop 16) = x := by
    unfold placeWrite
    dsimp only
    rw [if_neg within, ← hg, ← hx, if_pos done]
  rw [msgWrite_acts only its placed.symm, hz]
  dsimp only
  rw [if_pos done, done]
  rfl

end

/-! ### Answers to a COPY -/

/-- The COPY that an answer belongs to. -/
def answeredCopy (c : Chip) (m : Bytes) : Option RelayOp :=
  c.cons.ops.find? (fun r => r.tag == fld m 6 2 && rOp r.b == 0x60 && rTarget r.b == msgSrc m && r.status.isNone)

/-- The messages of a COPY with the answered one marked. -/
def answered (m : Bytes) (r : RelayOp) : List (Nat × Nat × Nat) :=
  r.msgs.map (fun x => if x.1 = fld m 8 8 ∧ x.2.2 = 0 then (x.1, x.2.1, if fld m 16 1 = 0 then 1 else 2) else x)

theorem msgWriteAck_acts (its : fld m 0 1 = 4) : msgWriteAck c =
    match answeredCopy (messageTaken c l m) m with
    | none => messageTaken c l m
    | some r => setOp (messageTaken c l m) (copySettle { r with msgs := answered m r }) :=
  withMsg_only only its rfl _

end

theorem copySettle_waits {r : RelayOp} (waits : ∃ g ∈ r.msgs, g.2.2 = 0) : copySettle r = { r with bytes := ackedPrefix r.msgs } := by
  obtain ⟨g, hg, sent⟩ := waits
  refine if_neg fun all => ?_
  have := List.all_eq_true.1 all g hg
  simp [sent] at this

theorem copySettle_placed {r : RelayOp} (runs : r.status = none) (placed : ∀ g ∈ r.msgs, g.2.2 = 1) :
    copySettle r = { r with bytes := ackedPrefix r.msgs, status := some r.hold, fail := 0xFF } := by
  have all : r.msgs.all (fun m => m.2.2 != 0) = true := List.all_eq_true.2 fun g hg => by simp [placed g hg]
  have fine : r.msgs.any (fun m => m.2.2 == 2) = false := List.any_eq_false.2 fun g hg => by simp [placed g hg]
  unfold copySettle
  rw [if_pos all, fine]
  exact opEnd_running (r := { r with bytes := ackedPrefix r.msgs }) runs _ _

theorem copySettle_refused {r : RelayOp} (runs : r.status = none) (answered : ∀ g ∈ r.msgs, g.2.2 ≠ 0)
    (refused : ∃ g ∈ r.msgs, g.2.2 = 2) :
    copySettle r = { r with bytes := ackedPrefix r.msgs, status := some 2, fail := rTarget r.b } := by
  obtain ⟨g, hg, bad⟩ := refused
  have all : r.msgs.all (fun m => m.2.2 != 0) = true := List.all_eq_true.2 fun g hg => by simp [answered g hg]
  have any_ : r.msgs.any (fun m => m.2.2 == 2) = true := List.any_eq_true.2 ⟨g, hg, by simp [bad]⟩
  unfold copySettle
  rw [if_pos all, any_]
  exact opEnd_running (r := { r with bytes := ackedPrefix r.msgs }) runs _ _

/-! ### Collectives -/

theorem msgOp_running {c : Chip} {m : Bytes} {r : RelayOp} (its : msgOp c m = some r) : r.status = none := by
  have found := List.find?_some its
  rw [Bool.and_eq_true] at found
  exact Option.isNone_iff_eq_none.1 found.2

section
variable {c : Chip} {l : Nat} {m : Bytes} (only : c.cons.inbox = [(l, m)]) (its : fld m 0 1 = 5)
include only

theorem msgCollective_future (new : msgOp c m = none) (future : msgFuture c m = true) : msgCollective c = c :=
  withMsg_refused only (by rw [new, future]; rfl) _

include its

theorem msgCollective_past (ended : msgOp c m = none) (past : msgFuture c m = false) : msgCollective c = messageTaken c l m := by
  have same : msgOp (messageTaken c l m) m = none := ended
  unfold msgCollective
  rw [withMsg_only only its (by rw [ended, past]; rfl)]
  show (match msgOp (messageTaken c l m) m with | none => messageTaken c l m | some r => _) = messageTaken c l m
  rw [same]

/-- A message of an operation under way here: a first message, the end of the operation, or data. -/
theorem msgCollective_acts {r : RelayOp} (found : msgOp c m = some r) : msgCollective c =
    if fld m 8 8 = addrFirst then groupFirst (messageTaken c l m) r m
    else if fld m 8 8 = addrAbort then setOp (messageTaken c l m) (opEnd r 10 (msgSrc m))
    else groupData (messageTaken c l m) r m := by
  have same : msgOp (messageTaken c l m) m = some r := found
  unfold messageTaken at same ⊢
  unfold msgCollective
  rw [withMsg_only only its (by rw [found]; rfl)]
  dsimp only
  rw [same]

end

section
variable {r : RelayOp} {m : Bytes}

theorem groupFirst_matches (same : fld m 16 1 = rOp r.b ∧ fld m 17 1 = fld r.b 3 1 ∧ fld m 20 4 = r.count % 2 ^ 32 ∧ fld m 24 8 = rLen r.b)
    (new : r.heard.contains (msgSrc m) = false) (y : Chip) : groupFirst y r m =
      opSettle (setOp y { r with heard := r.heard ++ [msgSrc m], since := nowNs y }) r.tag := by
  unfold groupFirst
  rw [if_pos same, new]
  rfl

theorem groupFirst_differs (differs : ¬ (fld m 16 1 = rOp r.b ∧ fld m 17 1 = fld r.b 3 1 ∧ fld m 20 4 = r.count % 2 ^ 32
    ∧ fld m 24 8 = rLen r.b)) (runs : r.status = none) (y : Chip) : groupFirst y r m =
      setOp (odAdd64 y 0x60090 7 1) { r with status := some 4, fail := msgSrc m } := by
  unfold groupFirst
  rw [if_neg differs, opEnd_running runs]

theorem groupData_twice (seen : fld m 8 8 + 2 ^ 64 * mPhase m ∈ r.seen) (y : Chip) : groupData y r m = y :=
  if_pos (List.contains_iff_mem.2 seen)

/-- Data of a BROADCAST or an ALL_GATHER that lies within the destination is placed. -/
theorem groupData_placed (moves : rOp r.b = 0x61 ∨ rOp r.b = 0x62) (above : rDst r.b ≤ fld m 8 8)
    (within : fld m 8 8 + (m.drop 16).length ≤ rDst r.b + rLen r.b) (new : fld m 8 8 + 2 ^ 64 * mPhase m ∉ r.seen) (y : Chip) :
    groupData y r m = opDone (opPlace (odAdd64 (setOp y { r with seen := r.seen ++ [fld m 8 8 + 2 ^ 64 * mPhase m] }) 0x60090 3
      (m.drop 16).length) r.tag (fld m 8 8) (m.drop 16)) r.tag (m.drop 16).length := by
  have plain : ¬ (isReduce (rOp r.b) = true ∧ mPhase m = 0) := by
    rcases moves with b | g
    · rw [b]
      exact fun red => absurd red.1 (by decide)
    · rw [g]
      exact fun red => absurd red.1 (by decide)
  have inside : ¬ (fld m 8 8 < rDst r.b ∨ rDst r.b + rLen r.b < fld m 8 8 + (m.drop 16).length) := by omega
  unfold groupData
  refine (if_neg fun seen => new (List.contains_iff_mem.1 seen)).trans ?_
  exact (if_neg plain).trans (if_neg inside)

end

/-- 23 R570 to R577. -/
theorem relayMessages : Claim.RelayMessages := by
  intro s l m r x y z only hy c o a q want seq
  have taken : y = messageTaken c l m := hy
  refine ⟨fun its hz => ?adds, fun other => congrArg (becomes s) (withMsg_other only other _ _), fun its => ?ack,
    fun other => congrArg (becomes s) (withMsg_other only other _ _), fun its => ?writes, fun its => ?answers,
    fun its => ?collective, fun its => ?leave⟩
  case adds =>
    rw [taken] at hz
    exact ⟨fun due => congrArg (becomes s) (msgSignalAdd_due only its hz due),
      fun ahead near new => congrArg (becomes s) (msgSignalAdd_early only its hz ahead near new),
      fun late => congrArg (becomes s) (msgSignalAdd_late only its hz late)⟩
  case ack =>
    rw [taken]
    exact congrArg (becomes s) (withMsg_only only its rfl _)
  case writes =>
    rw [taken]
    refine ⟨fun device out => congrArg (becomes s) (msgWrite_outside only its device out),
      fun device inside hx done hz => congrArg (becomes s) ?_, fun plat hx done hz => congrArg (becomes s) ?_⟩
    · have acts := msgWrite_placed only its (if_pos device).symm (fun out => absurd out.2 (by rw [inside]; decide)) hx done hz
      rw [device] at acts
      exact acts
    · exact msgWrite_placed only its (if_neg plat).symm (fun out => plat out.1) hx done hz
  case answers =>
    have acts := msgWriteAck_acts only its
    rw [← taken] at acts
    intro copy
    refine ⟨fun none_ => congrArg (becomes s) ?_, fun found => ?_⟩
    · rw [show answeredCopy y m = none from none_] at acts
      exact acts
    · rw [show answeredCopy y m = some r from found] at acts
      have both := List.find?_some found
      rw [Bool.and_eq_true] at both
      have runs : r.status = none := Option.isNone_iff_eq_none.1 both.2
      exact ⟨fun waits => congrArg (becomes s) (acts.trans (congrArg (setOp y) (copySettle_waits waits))),
        fun placed => congrArg (becomes s) (acts.trans (congrArg (setOp y) (copySettle_placed runs placed))),
        fun all refused => congrArg (becomes s) (acts.trans (congrArg (setOp y) (copySettle_refused runs all refused)))⟩
  case collective =>
    intro same first
    have acts (found : msgOp c m = some r) := msgCollective_acts only its found
    rw [← taken] at acts
    refine ⟨fun new future => congrArg (becomes s) (msgCollective_future only new future),
      fun ended past => congrArg (becomes s) ((msgCollective_past only its ended past).trans taken.symm),
      fun found at_ equal new => congrArg (becomes s) ((acts found).trans ((if_pos at_).trans (groupFirst_matches equal new y))),
      fun found at_ differs => congrArg (becomes s) ((acts found).trans ((if_pos at_).trans
        (groupFirst_differs differs (msgOp_running found) y))), fun found moves above within far => ?_⟩
    have data : msgCollective c = groupData y r m := (acts found).trans ((if_neg (by
      show a ≠ 2 ^ 64 - 1
      omega)).trans (if_neg (by
      show a ≠ 2 ^ 64 - 2
      omega)))
    exact ⟨fun seen => congrArg (becomes s) (data.trans (groupData_twice seen y)),
      fun new => congrArg (becomes s) (data.trans (groupData_placed moves above within new y))⟩
  case leave =>
    have acts : msgLeave c = if memberState y o = 2 then y else memberLeft y o := by
      rw [taken]
      exact withMsg_only only its rfl _
    exact ⟨fun left_ => congrArg (becomes s) (acts.trans (if_pos left_)),
      fun here => congrArg (becomes s) (acts.trans (if_neg here))⟩

/-- Settles O60: an operation by its descriptor and its status, a message by its TYPE. -/
theorem relayOperationsEndToEnd : Obligations.RelayOperationsEndToEnd := ⟨relayOperations, relayMessages⟩

end Sys2Proof.Machine
end
